-- ==== Sys2Proof/Word.lean ====
section
/-!
DEFINITION. Words, bytes and bit fields: the plainest arithmetic of the model.
Bit 0 is the least significant bit, and a range [hi:lo] includes both ends (00_scope.md, conventions).
-/
namespace Sys2Proof

/-- A byte of memory. -/
abbrev Byte := BitVec 8

/-- A 64-bit register, scalar register or structure word (R7: every register occupies 8 bytes). -/
abbrev Word := BitVec 64

/-- The `len` bits of `n` that begin at bit `lo`. -/
def bits (n lo len : Nat) : Nat := (n >>> lo) % 2 ^ len

/-- Bit `i` of `n`. -/
def bit (n i : Nat) : Bool := n.testBit i

/-- `n` with the `len` bits that begin at bit `lo` replaced by the low bits of `v`. -/
def setBits (n lo len v : Nat) : Nat :=
  n - (bits n lo len) * 2 ^ lo + (v % 2 ^ len) * 2 ^ lo

/-- The field [lo + len - 1 : lo] of a word, as a number. -/
def Word.field (w : Word) (lo len : Nat) : Nat := bits w.toNat lo len

/-- Bit `i` of a word. -/
def Word.flag (w : Word) (i : Nat) : Bool := w.toNat.testBit i

/-- The word with its field [lo + len - 1 : lo] replaced. -/
def Word.withField (w : Word) (lo len v : Nat) : Word := BitVec.ofNat 64 (setBits w.toNat lo len v)

/-- A number from 0 or 1. -/
def ofBool (b : Bool) : Nat := if b then 1 else 0

/-- Sign extension of the low `w` bits of `n`, as an integer. -/
def signed (w n : Nat) : Int :=
  if n % 2 ^ w < 2 ^ (w - 1) then (n % 2 ^ w : Nat) else (n % 2 ^ w : Nat) - (2 ^ w : Nat)

/-- An integer taken modulo `2 ^ w`. -/
def wrapInt (w : Nat) (i : Int) : Nat := (i % (2 ^ w : Nat)).toNat

/-- A 64-bit count that stops at all ones. -/
def satAdd64 (a k : Nat) : Nat := min (a + k) (2 ^ 64 - 1)

/-- A count of `w` bits that stops at all ones. -/
def satAdd (w a k : Nat) : Nat := min (a + k) (2 ^ w - 1)

/-- The little-endian bytes of `n` (R6). -/
def leBytes : (count n : Nat) → List Byte
  | 0, _ => []
  | k + 1, n => BitVec.ofNat 8 n :: leBytes k (n / 256)

/-- The number that little-endian bytes spell (R6). -/
def leNat : List Byte → Nat
  | [] => 0
  | b :: bs => b.toNat + 256 * leNat bs

end Sys2Proof
end

