-- ==== Sys2Proof/Syntax.lean ====
section
/-!
DEFINITION. The commands of the block: one constructor for each row of opcode_table.json, with the operands that the
row's rule needs. A command that a register write carries holds the whole value written and the path it came by.
-/
namespace Sys2Proof

/-- A basin number n, that of basin CD*n* (R17). -/
abbrev BasinId := Fin 8
/-- A Line function or Line, by its leader's basin number (R18). -/
abbrev LineId := Fin 8
/-- Pond basin × 8 + pond. -/
abbrev PondId := Fin 64
/-- Grid slot basin × 34 + slot (R58). -/
abbrev SlotId := Fin 272
/-- Transfer channel basin × 16 + channel (R245). -/
abbrev ChanId := Fin 128
/-- LPDDR5X channel basin × 32 + channel, that is MC0 to MC255 (R222). -/
abbrev MemChanId := Fin 256
/-- Rail port RAIL0 to RAIL31 (R334). -/
abbrev PortId := Fin 32
/-- Spur 0 to 25 (R428). -/
abbrev SpurId := Fin 26
/-- Hart ID 64 × d + j (R410). -/
abbrev HartId := Fin 128
/-- Caching agent as LN_COH_STATUS.AGENT numbers it (R302). -/
abbrev AgentId := Fin 256
/-- Apori queue of a Line (R310). -/
abbrev QueueId := Fin 4096
/-- Peer context of a Line (R348). -/
abbrev CtxId := Fin 4096
/-- Reduction entry of a basin (R365). -/
abbrev EntryId := Fin 256

/-- The path of a register access: the host through a Line function, PF0, or a core through the Line MMIO range
(R38, R303, R309). -/
inductive Via where
  | host
  /-- A request to a Line function off the stream bound to it (R332). -/
  | hostOff
  | pf0
  | core (hart : HartId)
  /-- A 64-bit access of a pond's program to its own Line's registers (R34, R148). -/
  | pond (u : PondId)
deriving DecidableEq, Repr

/-- The register space of an access: PF0's, or that of a Line's function (R305). -/
inductive RegFn where
  | hub
  | line (n : LineId)
deriving DecidableEq, Repr

/-- The width of a register access (R7). -/
inductive Access where
  | whole | low | high
  /-- Any other size or alignment. -/
  | other
deriving DecidableEq, Repr

/-- A direction of a rail port (transmit, receive) or of a spur (A→B, B→A). -/
inductive Dir where
  | fwd | rev
deriving DecidableEq, Repr

/-- An access to memory in 64-byte granules or parts of one. -/
inductive MemOp where
  | read (len : Nat)
  | write (data : List Byte) (poison : Bool)
deriving DecidableEq, Repr

/-- A function of the host port: 0 for PF0, n + 1 for that of Line n (R303). -/
abbrev FnId := Fin 9

/-- Where a BAR2 access goes: its function, and whether it arrives on the stream bound to that function (R332). -/
structure HostFn where
  fn : FnId
  bound : Bool := true
deriving DecidableEq, Repr

/-- What reaches the port in CXL mode (R304): a CXL.mem access, the setting of an HDM decoder by its host range and DPA, or a
host snoop of CXL.cache. -/
inductive CxlOp where
  | mem (acc : MemOp)
  | decoder (i : Fin 8) (size dpa : Nat)
  | snoop
deriving DecidableEq, Repr

/-- What ECC finds when a granule is read (R219, R229): `fixed` is a corrected error, `lost` an uncorrectable one. -/
inductive EccEvent where
  | fixed (addr : Nat)
  | lost (addr : Nat)
deriving DecidableEq, Repr

/-- What the shadow computation of a tile finds (R462). -/
inductive ShadowResult where
  | none | same | differs
deriving DecidableEq, Repr

/-- The outcome of training a rail port (R346): TRAIN_RESULT, the far end, and the lanes that fail, by direction. -/
structure TrainResult where
  result : Fin 7
  fid : Nat
  port : Fin 32
  line : Fin 8
  badTx : Nat := 0
  badRx : Nat := 0
  /-- The far end is another module with this module's fabric ID (R344). -/
  twin : Bool := false
deriving DecidableEq, Repr

/-- A flit of R342 with its decrypted body. `tagOk` is the verdict of AES-256-GCM, and for a HANDSHAKE that of the
ML-KEM-1024 decapsulation. -/
structure Flit where
  type : Nat := 0
  cls : Nat := 0
  last : Bool := false
  epoch : Bool := false
  dstEp : Nat := 0
  dstCtx : Nat := 0
  srcEp : Nat := 0
  srcCtx : Nat := 0
  seq : Nat := 0
  addr : Nat := 0
  delivery : Nat := 0
  offset : Nat := 0
  info : Nat := 0
  body : List Byte := []
  tagOk : Bool := true
deriving DecidableEq, Repr

/-- A codeword of R337 as it arrives: the symbols in error, its message bits after correction, and for slots A and B the body
as it decrypts and the verdict on its tag. -/
structure Codeword where
  errors : Nat := 0
  msg : Nat := 0
  bodies : List (List Byte) := []
  tagOk : List Bool := []
deriving DecidableEq, Repr

/-- Floating-point operations of a core (R409). `fma` is rs1 × rs2 + rs3. -/
inductive FpOp where
  | add | sub | mul | div | sqrt | fma
deriving DecidableEq, Repr

/-- What a core does (R296, R408 to R410): its memory accesses, at addresses that satp translates (R274), its floating-point
operations, and the instructions that set what these depend on. -/
inductive CoreAccess where
  | load (addr len : Nat)
  | store (addr : Nat) (data : List Byte)
  /-- AMOADD.D and AMOSWAP.D. -/
  | amoAdd (addr : Nat) (v : Word)
  | amoSwap (addr : Nat) (v : Word)
  | lr (addr : Nat)
  | sc (addr : Nat) (v : Word)
  | cboZero (addr : Nat)
  | cboClean (addr : Nat)
  | cboFlush (addr : Nat)
  | cboInval (addr : Nat)
  | fence
  | wfi
  /-- FLD or FLW into register `rd`, and FSD or FSW. -/
  | fload (dbl : Bool) (rd : Fin 32) (addr : Nat)
  | fstore (dbl : Bool) (rs : Fin 32) (addr : Nat)
  /-- An operation in double or single precision, with the instruction's rounding mode, 7 for that of fcsr. -/
  | fp (op : FpOp) (dbl : Bool) (rm : Fin 8) (rd rs1 rs2 rs3 : Fin 32)
  /-- Unit-stride loads and stores of the first `len` bytes of a vector register. -/
  | vload (vd : Fin 32) (addr len : Nat)
  | vstore (vs : Fin 32) (addr len : Nat)
  /-- vfredusum or vfwredusum over `vl` elements of `2^sew` bytes; `masked` takes only those whose bit of v0 is set. -/
  | vfredusum (widen : Bool) (sew vl : Nat) (masked : Bool) (vd vs2 vs1 : Fin 32)
  | csrWrite (csr : Fin 4096) (v : Word)
  | mret
deriving DecidableEq, Repr

/-- A flit of a spur as it arrives (R430): its payload and its control bits; and the buffer places that its sender frees for
the other direction, for E or for S and B (R432). -/
structure SpurFlit where
  payload : List Byte := []
  control : Word := 0
  freedE : Bool := false
  freed : Nat := 0
deriving DecidableEq, Repr

/-- The kinds of unit of a health record or test (R470). -/
inductive UnitKind where
  | grid | core | subarray | spurLane | railLane | memChan
deriving DecidableEq, Repr

/-- The outcome of a test (R457, R459): whether every ROM pattern passed, the first survey record that differed, counted
over the records run, and whether the failing pattern failed again. -/
structure TestResult where
  rom : Bool := true
  survey : Option Nat := none
  reproduced : Bool := true
deriving DecidableEq, Repr

/-- The outcome of a core migration (R464): the siding core's ROM self-test, and whether the state could be read. -/
structure MigrateResult where
  romPass : Bool
  stateReadable : Bool := true
deriving DecidableEq, Repr

/-- A transport of SPDM (R484): MCTP over the management bus or PCIe VDM, or DOE. -/
inductive Transport where
  | bus | vdm | doe
deriving DecidableEq, Repr

/-- IDE_KM requests (R332). -/
inductive IdeRequest where
  | query | keyProg | keySetGo | keySetStop
deriving DecidableEq, Repr

/-- SMBus ARP commands (R518). -/
inductive ArpCmd where
  | prepare | reset | getUdid
  | assign (addr : Fin 128) (udidOk : Bool)
deriving DecidableEq, Repr

/-- What a die's identity ROM gives (R436, R444). -/
structure DieRom where
  type : Fin 16
  rev : Fin 256
  spurMin : Fin 16
  spurMax : Fin 16
  coh : Fin 16
  rail : Fin 16
  ucode : Fin 256
  seat : Fin 32
  hubMin : Fin 256
deriving DecidableEq, Repr

/-- What the ends of a spur report as it trains (R436 step 5): the dies, by index, and their physical ports. -/
structure SpurWire where
  spur : Nat
  dieA : Nat
  portA : Nat
  dieB : Nat
  portB : Nat
deriving DecidableEq, Repr

/-- What a boot step finds (R536, R544), by the step that it concerns. -/
structure BootResult where
  /-- Step 1: the non-volatile records read, the random source is healthy, and the identity secret is rebuilt. -/
  nvmOk : Bool := true
  rngOk : Bool := true
  idOk : Bool := true
  /-- Step 2: the flash answers, and a broken firmware region fails its format rather than its digest (R550). -/
  flashOk : Bool := true
  badFormat : Bool := false
  /-- Step 3: the identity of each die by its index; a die that is not listed does not answer. -/
  roms : List (Option DieRom) := []
  /-- Step 4: spurs that fail in training, and what the two ends of spurs report; a spur that is not listed pairs as R428
  says. -/
  spursFailed : List Nat := []
  wires : List SpurWire := []
  /-- Step 6: channels MC000 to MC255 that fail training twice, and those whose hard repairs the device refuses. -/
  chansFailed : List Nat := []
  repairsRefused : List Nat := []
deriving DecidableEq, Repr

/-- The commands. -/
inductive Instr where
  /-- REGISTER_WRITE (R8): A write to a register or field that has no behaviour of its own stores or ignores bits by
  its access code, subject to the Line lock and to LN_CLAIM. -/
  | registerWrite (via : Via) (fn : RegFn) (off : Nat) (acc : Access) (v : Word)
  /-- START (R24): LN_CTL.START written in STOPPED moves the Line to STARTING. -/
  | start (via : Via) (l : LineId) (v : Word)
  /-- STOP (R29): LN_CTL.STOP written in STARTING or RUNNING moves the Line to STOPPING with CAUSE 0x01. -/
  | stop (via : Via) (l : LineId) (v : Word)
  /-- RESET (R32): LN_CTL.RESET resets the Line domain and leaves it STOPPED with CAUSE 0x05, keeping memory and
  Timetable configuration. -/
  | reset (via : Via) (l : LineId) (v : Word)
  /-- LOCK (R9): LN_CTL.LOCK sets the Line lock after any START, STOP or RESET of the same write, freezing rwl fields
  until Line reset. -/
  | lock (via : Via) (l : LineId) (v : Word)
  /-- HUB_LINE_STOP (R28): A PF0 write to HUB_LINE_STOP moves every named STARTING or RUNNING Line to STOPPING with
  CAUSE 0x06 in one cycle. -/
  | hubLineStop (v : Word)
  /-- LINE_READY (R29): When every unit is ready, PLLs locked and LPDDR out of self-refresh, a STARTING Line enters
  RUNNING. -/
  | lineReady (l : LineId)
  /-- LINE_DRAINED (R31): When all dispatched work of a STOPPING Line has completed and its queues are parked, it
  enters STOPPED. -/
  | lineDrained (l : LineId)
  /-- TT_LOAD (R69): TT_LOAD.GO starts reading a Timetable image from host memory or a flash slot, or sets OVERRUN
  while BUSY. -/
  | ttLoad (v : Word)
  /-- TT_DRY_RUN (R69): A TT_LOAD with DRY_RUN set reads and validates the image and applies nothing. -/
  | ttDryRun (v : Word)
  /-- TT_IMAGE_READ_DONE (R72): When the image has been read, the signal boxes run the checks in order and either
  refuse the load or begin the apply. -/
  | ttImageReadDone (readOk : Bool) (sigOk : Bool)
  /-- TT_APPLY_DONE (R76): When clearing and programming end, touched basins leave APPLYING for STOPPED, OFF or
  ABSORBED and a Logbook entry is written. -/
  | ttApplyDone
  /-- TT_PERSIST_DONE (R78): When the flash write of a PERSIST load ends, RESULT, PERSISTED and RUN_SLOT are set, or
  PERSIST_FAILED is reported. -/
  | ttPersistDone (ok : Bool)
  /-- SLOT_CLAIM (R120): When band 0 is due to leave the drain the grid claims one free sluice slot, or four for a
  super-grid, and holds if the claim fails. -/
  | slotClaim (u : PondId) (grids : Fin 16)
  /-- SLOT_FULL (R119): When the last band is written the slot becomes FULL and waiting readers of its ticket may
  proceed. -/
  | slotFull (u : PondId) (g : Fin 4) (shadow : ShadowResult)
  /-- START_RAMP (R132): A valid step ready after a quiet count of at least L clock cycles begins a four-stage start
  ramp. -/
  | startRamp (g : SlotId)
  /-- STOP_RAMP (R133): After the last step of the last queued MMA the grid runs a four-stage stop ramp issuing
  ballast steps. -/
  | stopRamp (g : SlotId)
  /-- RAMP_STAGE_END (R132): Each L/4-cycle stage of a ramp expires and the next stage, or free running, begins. -/
  | rampStageEnd (g : SlotId)
  /-- GRID_IDLE (R133): Once the last ballast step has left cell (15,15) and every claimed slot is full, the grid
  reads IDLE. -/
  | gridIdle (g : SlotId)
  /-- TILE_BOUNDARY_TAKE_OUT (R135): At the first tile boundary after a take-out request the grid stops issuing,
  drains and reads IDLE or TEST. -/
  | tileBoundaryTakeOut (g : SlotId)
  /-- HOLD_NEW (R138): Writing GRD_CTL.HOLD_NEW requests the grid be taken out at its next tile boundary, or releases
  it when written 0. -/
  | holdNew (via : Via) (g : SlotId) (v : Word)
  /-- TEST_REQ (R138): Writing GRD_CTL.TEST_REQ requests a self-test of the grid at its next tile boundary. -/
  | testReq (via : Via) (g : SlotId) (v : Word)
  /-- ENGINE_QUEUE_ROOM (R143): A sequencer stalled on a full engine queue issues the instruction once the queue has
  room. -/
  | engineQueueRoom (u : PondId)
  /-- NOP (R147): The pond NOP instruction does nothing. -/
  | nop (u : PondId)
  /-- END (R180): END stops issue, waits for earlier work, releases tickets, writes the completion record, makes the
  DONE add and starts the next launch. -/
  | endProgram (u : PondId)
  /-- BR (R148): BR branches to TARGET when its condition on two registers holds. -/
  | br (u : PondId)
  /-- LOOP (R149): LOOP runs its body COUNT or RC times, up to four nested. -/
  | loop (u : PondId)
  /-- WAIT (R150): WAIT holds issue until every earlier instruction of the named classes has finished. -/
  | wait (u : PondId)
  /-- WAIT_DONE (R150): When the awaited classes have finished, a waiting WAIT lets issue resume. -/
  | waitDone (u : PondId)
  /-- SIGNAL (R148): SIGNAL posts a code to PD_SIGNAL, sets PENDING and with IRQ raises the pond interrupt, as a
  release. -/
  | signal (u : PondId)
  /-- ADD (R148): Scalar ADD of two registers modulo 2^64. -/
  | add (u : PondId)
  /-- SUB (R148): Scalar SUB of two registers modulo 2^64. -/
  | sub (u : PondId)
  /-- MUL (R148): Scalar MUL keeping the low 64 bits. -/
  | mul (u : PondId)
  /-- AND (R148): Scalar bitwise AND. -/
  | and (u : PondId)
  /-- OR (R148): Scalar bitwise OR. -/
  | or (u : PondId)
  /-- XOR (R148): Scalar bitwise XOR. -/
  | xor (u : PondId)
  /-- SHL (R148): Scalar shift left by RS2[5:0]. -/
  | shl (u : PondId)
  /-- SHR (R148): Scalar logical shift right by RS2[5:0]. -/
  | shr (u : PondId)
  /-- SRA (R148): Scalar arithmetic shift right by RS2[5:0]. -/
  | sra (u : PondId)
  /-- ADDI (R148): ADDI adds a sign-extended 32-bit immediate to a register. -/
  | addi (u : PondId)
  /-- LIH (R148): LIH sets the upper 32 bits of a register. -/
  | lih (u : PondId)
  /-- LD (R148): LD loads 64 bits from a virtual address into a register. -/
  | ld (u : PondId)
  /-- SD (R148): SD stores a register at a virtual address. -/
  | sd (u : PondId)
  /-- ALD (R155): ALD loads a 32-byte address descriptor image from memory. -/
  | ald (u : PondId)
  /-- AADD (R155): AADD advances a descriptor's BASE and SCALE_BASE. -/
  | aadd (u : PondId)
  /-- ASET (R155): ASET sets one descriptor field from a register. -/
  | aset (u : PondId)
  /-- LDA (R156): LDA queues an A operand for a grid's feeder. -/
  | lda (u : PondId)
  /-- LDB (R156): LDB queues a B operand for a grid's feeder. -/
  | ldb (u : PondId)
  /-- MMA (R160): MMA pairs the heads of one grid's A and B queues, checks them, takes a ticket and multiplies on that
  grid. -/
  | mma (u : PondId)
  /-- MMAG (R160): MMAG multiplies on the pond's ganged super-grid into a 128x128 tile of four slots. -/
  | mmag (u : PondId)
  /-- ST (R165): ST converts and stores a sluice tile through a descriptor, optionally releasing it. -/
  | st (u : PondId)
  /-- STB (R166): STB stores the valid elements of a tile buffer in the descriptor's format. -/
  | stb (u : PondId)
  /-- LDT (R166): LDT loads a 64x64 region into a tile buffer as FP32. -/
  | ldt (u : PondId)
  /-- REL (R162): REL releases a sluice tile without reading it. -/
  | rel (u : PondId)
  /-- RELEASE_END (R192): When every earlier read of a released ticket has finished, its slots become FREE in the next
  cycle. -/
  | releaseEnd (u : PondId)
  /-- SADD (R170): SADD adds a value to a sync counter as a release. -/
  | sadd (u : PondId)
  /-- SWAIT (R170): SWAIT waits until a sync counter is at least a value, as an acquire. -/
  | swait (u : PondId)
  /-- SWAIT_SATISFIED (R170): A change to its counter satisfies a waiting SWAIT and issue resumes. -/
  | swaitSatisfied (u : PondId)
  /-- WAIT_TIMEOUT (R173): An SWAIT unsatisfied for PD_WAIT_LIMIT µs ends the program with WAIT_TIMEOUT. -/
  | waitTimeout (u : PondId)
  /-- RUN_LIMIT (R184): A program running longer than PD_RUN_LIMIT ends with RUN_LIMIT. -/
  | runLimit (u : PondId)
  /-- XSTART (R174): XSTART hands a transfer descriptor to a channel of the pond's basin. -/
  | xstart (u : PondId)
  /-- PHASE (R175): PHASE appends a phase record with the device time to the Line's phase ring, optionally after
  draining. -/
  | phase (u : PondId)
  /-- PD_LAUNCH (R178): A write to PD_LAUNCH reads a launch block and queues it, or drops it at a full queue setting
  LQ_OVERRUN. -/
  | pdLaunch (via : Via) (u : PondId) (v : Word)
  /-- PROGRAM_START (R179): When the pond is free and launches are not held, the next queued launch starts with its
  initial state. -/
  | programStart (u : PondId)
  /-- PD_ABORT (R188): PD_CTL.ABORT ends the running program with ABORTED. -/
  | pdAbort (via : Via) (u : PondId) (v : Word)
  /-- HOLD_LAUNCH (R188): PD_CTL.HOLD_LAUNCH stops or allows queued launches from starting. -/
  | holdLaunch (via : Via) (u : PondId) (v : Word)
  /-- FLUSH_QUEUE (R188): PD_CTL.FLUSH_QUEUE ends every queued launch not started with LAUNCH_DROPPED. -/
  | flushQueue (via : Via) (u : PondId) (v : Word)
  /-- IMEM_LOAD (R190): PD_IMEM_CTL.GO starts loading instructions into instruction memory, or sets OVERRUN while
  BUSY. -/
  | imemLoad (via : Via) (u : PondId) (v : Word)
  /-- IMEM_LOAD_DONE (R190): An imem load finishes writing its instructions and BUSY clears. -/
  | imemLoadDone (u : PondId)
  /-- VOP_COPY (R200): VOP COPY writes a. -/
  | vopCopy (u : PondId)
  /-- VOP_ADD (R200): VOP ADD writes a + b. -/
  | vopAdd (u : PondId)
  /-- VOP_SUB (R200): VOP SUB writes a - b. -/
  | vopSub (u : PondId)
  /-- VOP_MUL (R200): VOP MUL writes a × b. -/
  | vopMul (u : PondId)
  /-- VOP_DIV (R200): VOP DIV writes a ÷ b. -/
  | vopDiv (u : PondId)
  /-- VOP_FMA (R200): VOP FMA writes a × b + d with one rounding. -/
  | vopFma (u : PondId)
  /-- VOP_FILL (R200): VOP FILL writes the scalar s. -/
  | vopFill (u : PondId)
  /-- VOP_ADDS (R200): VOP ADDS writes a + s. -/
  | vopAdds (u : PondId)
  /-- VOP_MULS (R200): VOP MULS writes a × s. -/
  | vopMuls (u : PondId)
  /-- VOP_FMAS (R200): VOP FMAS writes a × s + b with one rounding. -/
  | vopFmas (u : PondId)
  /-- VOP_MAX (R200): VOP MAX writes max(a, b). -/
  | vopMax (u : PondId)
  /-- VOP_MIN (R200): VOP MIN writes min(a, b). -/
  | vopMin (u : PondId)
  /-- VOP_MAXS (R200): VOP MAXS writes max(a, s). -/
  | vopMaxs (u : PondId)
  /-- VOP_ABS (R200): VOP ABS writes |a|. -/
  | vopAbs (u : PondId)
  /-- VOP_NEG (R200): VOP NEG writes -a. -/
  | vopNeg (u : PondId)
  /-- VOP_ADDROW (R200): VOP ADDROW adds the row value of TBB. -/
  | vopAddrow (u : PondId)
  /-- VOP_SUBROW (R200): VOP SUBROW subtracts the row value of TBB. -/
  | vopSubrow (u : PondId)
  /-- VOP_MULROW (R200): VOP MULROW multiplies by the row value of TBB. -/
  | vopMulrow (u : PondId)
  /-- VOP_DIVROW (R200): VOP DIVROW divides by the row value of TBB. -/
  | vopDivrow (u : PondId)
  /-- VOP_ADDCOL (R200): VOP ADDCOL adds the column value of TBB. -/
  | vopAddcol (u : PondId)
  /-- VOP_MULCOL (R200): VOP MULCOL multiplies by the column value of TBB. -/
  | vopMulcol (u : PondId)
  /-- VOP_RECIP (R202): VOP RECIP writes 1 ÷ a. -/
  | vopRecip (u : PondId)
  /-- VOP_SQRT (R202): VOP SQRT writes √a. -/
  | vopSqrt (u : PondId)
  /-- VOP_RSQRT (R202): VOP RSQRT writes 1 ÷ √a. -/
  | vopRsqrt (u : PondId)
  /-- VOP_EXP (R202): VOP EXP writes e^a. -/
  | vopExp (u : PondId)
  /-- VOP_EXP2 (R202): VOP EXP2 writes 2^a. -/
  | vopExp2 (u : PondId)
  /-- VOP_LOG (R202): VOP LOG writes ln a. -/
  | vopLog (u : PondId)
  /-- VOP_TANH (R202): VOP TANH writes tanh a. -/
  | vopTanh (u : PondId)
  /-- VOP_SIGMOID (R202): VOP SIGMOID writes the logistic of a. -/
  | vopSigmoid (u : PondId)
  /-- VOP_SILU (R202): VOP SILU writes a times its logistic. -/
  | vopSilu (u : PondId)
  /-- VOP_GELU (R202): VOP GELU writes the tanh approximation of GELU. -/
  | vopGelu (u : PondId)
  /-- VOP_EXPSUBROW (R200): VOP EXPSUBROW writes e raised to a minus the row value, rounded twice. -/
  | vopExpsubrow (u : PondId)
  /-- VOP_CMPLT (R203): VOP CMPLT sets a mask plane bit where a < s. -/
  | vopCmplt (u : PondId)
  /-- VOP_CMPLE (R203): VOP CMPLE sets a mask plane bit where a ≤ s. -/
  | vopCmple (u : PondId)
  /-- VOP_CMPEQ (R203): VOP CMPEQ sets a mask plane bit where a = s. -/
  | vopCmpeq (u : PondId)
  /-- VOP_CMPLTB (R203): VOP CMPLTB sets a mask plane bit where a < b. -/
  | vopCmpltb (u : PondId)
  /-- VOP_DIAG (R200): VOP DIAG writes (j - i) + s. -/
  | vopDiag (u : PondId)
  /-- VOP_CVTI (R200): VOP CVTI writes the INT32 of a as an I word. -/
  | vopCvti (u : PondId)
  /-- VRED_SUM (R206): VRED SUM reduces by addition over the fixed tree. -/
  | vredSum (u : PondId)
  /-- VRED_PROD (R206): VRED PROD reduces by multiplication. -/
  | vredProd (u : PondId)
  /-- VRED_MAX (R206): VRED MAX reduces by maximum. -/
  | vredMax (u : PondId)
  /-- VRED_MIN (R206): VRED MIN reduces by minimum. -/
  | vredMin (u : PondId)
  /-- VRED_ARGMAX (R206): VRED ARGMAX gives the index of the largest value. -/
  | vredArgmax (u : PondId)
  /-- VRED_ARGMIN (R206): VRED ARGMIN gives the index of the smallest value. -/
  | vredArgmin (u : PondId)
  /-- VRED_SUMSQ (R206): VRED SUMSQ sums rounded squares. -/
  | vredSumsq (u : PondId)
  /-- VRED_ABSMAX (R206): VRED ABSMAX gives the largest magnitude. -/
  | vredAbsmax (u : PondId)
  /-- SPARE_COPY_DONE (R220): When the last line is copied the spare serves the subarray, the substitution is recorded
  and COPYING clears. -/
  | spareCopyDone (b : BasinId) (bank : Nat)
  /-- CHANNEL_LINK_LOSS (R226): A channel that loses its link starts a retrain. -/
  | channelLinkLoss (mc : MemChanId)
  /-- CHANNEL_RETRAIN_DONE (R226): A channel retrain ends, restoring the channel or declaring it failed. -/
  | channelRetrainDone (mc : MemChanId) (ok : Bool)
  /-- SCRUB_PASS (R232): A patrol scrub pass begins at its period and reads every granule and compares check words. -/
  | scrubPass (b : BasinId) (rsv : Bool) (found : List EccEvent)
  /-- SCRUB_PASS_END (R232): A scrub pass finishes and PASSES rises. -/
  | scrubPassEnd (b : BasinId) (rsv : Bool)
  /-- HARD_REPAIR (R234): Under quiet conditions the controller applies hard post-package repair to a queued row. -/
  | hardRepair (mc : MemChanId) (row : Nat) (ok : Bool)
  /-- REFRESH (R235): Per-bank refresh is issued at the rate each device reports in MR4. -/
  | refresh (b : BasinId) (pkg : Fin 4) (rate : Nat)
  /-- LOAD_CLASS_CHANGE (R236): A basin's 1 ms compute draw crossing 150 W changes its load class. -/
  | loadClassChange (b : BasinId) (full : Bool)
  /-- LIVE_CHECK (R238): A live check measures channel margins after a guard or a 10 °C temperature change. -/
  | liveCheck (mc : MemChanId)
  /-- LIVE_CHECK_DONE (R238): A live check that passes writes a new record and lifts the guard, and one that fails
  sets RETRAIN. -/
  | liveCheckDone (mc : MemChanId) (pass : Bool)
  /-- LINE_IDLE (R239): A Line idle continuously for 1 ms qualifies for quiet calibration. -/
  | lineIdle (l : LineId)
  /-- QUIET_RETRAIN (R239): In idle or a maintenance window a channel is retrained in steps of at most 250 ns, writing
  a LIGHT record. -/
  | quietRetrain (mc : MemChanId)
  /-- CALIBRATION_ABANDON (R239): When idleness or a window ends the channel's calibration is abandoned and its
  settings restored. -/
  | calibrationAbandon (mc : MemChanId)
  /-- GRANT_MS (R243): Writing MEM_MAINT.GRANT_MS opens, replaces or closes a maintenance window. -/
  | grantMs (via : Via) (b : BasinId) (v : Word)
  /-- MAINT_WINDOW_END (R239): A maintenance window expires. -/
  | maintWindowEnd (b : BasinId)
  /-- XE_CH_SUBMIT (R246): A write to XE_CH_SUBMIT reads and accepts a transfer descriptor, or drops it with OVERRUN.
  -/
  | xeChSubmit (via : Via) (c : ChanId) (v : Word)
  /-- TRANSFER_START (R258): A channel starts its next accepted descriptor in order, after any FENCE wait and unless
  HOLD. -/
  | transferStart (c : ChanId)
  /-- DELIVERY_COMMIT (R254): A delivery commits in walk order once its bytes and check word are written and, if
  remote, acknowledged. -/
  | deliveryCommit (c : ChanId)
  /-- XE_CH_ABORT (R271): XE_CH_CTL.ABORT ends the running transfer with ABORTED at its next delivery boundary. -/
  | xeChAbort (via : Via) (c : ChanId) (v : Word)
  /-- XE_CH_HOLD (R271): XE_CH_CTL.HOLD stops or allows further descriptors from starting. -/
  | xeChHold (via : Via) (c : ChanId) (v : Word)
  /-- XLAT_FENCE_GO (R283): LN_XLAT_FENCE.GO queues a translation fence, or drops it with OVERRUN when four are
  pending. -/
  | xlatFenceGo (via : Via) (l : LineId) (v : Word)
  /-- FENCE_BEGIN (R282): A queued fence begins at its snapshot cycle, removing cached entries and restarting running
  walks. -/
  | fenceBegin (l : LineId)
  /-- FENCE_COMPLETE (R282): A fence completes when every access translated with a removed entry has finished. -/
  | fenceComplete (l : LineId)
  /-- HOST_EN (R290): Writing LN_XLAT_CTL.HOST_EN enables host-aperture leaves while attached. -/
  | hostEn (via : Via) (l : LineId) (v : Word)
  /-- READ_SHARED (R294): A core ReadShared request obtains a shared or exclusive copy, snooping an owner. -/
  | readShared (agent : AgentId) (line : Nat)
  /-- READ_UNIQUE (R294): A core ReadUnique request invalidates every holder and obtains M. -/
  | readUnique (agent : AgentId) (line : Nat)
  /-- UPGRADE (R294): A core Upgrade from S or O invalidates other holders and obtains M. -/
  | upgrade (agent : AgentId) (line : Nat)
  /-- WRITE_BACK (R297): A WriteBack writes dirty data home, settling any crossing snoop, and is answered with WbAck.
  -/
  | writeBack (agent : AgentId) (line : Nat)
  /-- CLEAN_EVICT (R294): A CleanEvict drops a clean copy. -/
  | cleanEvict (agent : AgentId) (line : Nat)
  /-- SNP_SHARED (R294): A SnpShared to an owner demotes it to O or S. -/
  | snpShared (agent : AgentId) (line : Nat)
  /-- SNP_INVALIDATE (R295): A SnpInvalidate invalidates a holder, passing or discarding dirty data. -/
  | snpInvalidate (agent : AgentId) (line : Nat)
  /-- SNP_READ_NO_ALLOC (R295): A SnpReadNoAlloc returns a dirty owner's copy without changing its state. -/
  | snpReadNoAlloc (agent : AgentId) (line : Nat)
  /-- SNOOP_RESPONSE (R297): A snoop response, including NoData, arrives at the home and completes or holds the
  transaction. -/
  | snoopResponse (agent : AgentId) (line : Nat)
  /-- WB_ACK (R297): WbAck reaches the core, ending its write-back. -/
  | wbAck (agent : AgentId) (line : Nat)
  /-- CACHELESS_ACCESS (R295): A cacheless agent's read, write or atomic is served at the home with the snoops the
  directory needs. -/
  | cachelessAccess (l : LineId) (addr : Nat) (acc : MemOp) (ecc : List EccEvent)
  /-- AGENT_TIMEOUT (R299): A coherence message unanswered for 2 ms fails the Line with CAUSE 0x03. -/
  | agentTimeout (l : LineId) (agent : AgentId)
  /-- PROTOCOL_ERROR (R300): An uncorrectable coherence protocol error fails the Line with CAUSE 0x04. -/
  | protocolError (l : LineId) (agent : AgentId)
  /-- LINK_UP (R329): The host link trains and configures, raising HUB_ATTACH.GEN after a detach. -/
  | linkUp (speed : Nat) (width : Nat) (cxl : Bool) (big : Nat) (hdm : List (Nat × Nat × Nat))
  /-- LINK_DOWN (R328): The host link going down to Detect detaches the host port. -/
  | linkDown
  /-- HOT_RESET (R328): A received hot reset detaches the host port. -/
  | hotReset
  /-- PERST (R328): PERST# asserted resets the host port's PCIe state and detaches it. -/
  | perst
  /-- LINK_RETRAIN (R328): A retrain that returns to L0 without going down loses nothing. -/
  | linkRetrain (speed : Nat) (width : Nat)
  /-- LINE_FLR (R331): A Function Level Reset of a leader's function acts as a detach of that Line; of a member's or
  OFF function it resets only that function. -/
  | lineFlr (l : LineId)
  /-- PF0_FLR (R331): A PF0 Function Level Reset ends a host Timetable read, clears PF0 MSI-X and HDM state and sets
  CAUSE 4. -/
  | pf0Flr
  /-- CLAIM (R330): Writing the current GEN to LN_CLAIM sets CLAIMED. -/
  | claim (via : Via) (l : LineId) (v : Word)
  /-- WIN_BASE_WRITE (R308): A write to the leader's LN_WIN_BASE moves the host window, or is ignored if it overlaps
  none of the Line's memory. -/
  | winBaseWrite (via : Via) (l : LineId) (v : Word)
  /-- BAR2_ACCESS (R307): A host read or write through a Line's BAR2 reaches its window or all memory, untranslated
  and cacheless. -/
  | bar2Access (fn : HostFn) (off : Nat) (acc : MemOp) (ecc : List EccEvent)
  /-- CXL_MEM_ACCESS (R304): A host CXL.mem access is mapped by an HDM decoder onto device memory. -/
  | cxlMemAccess (addr : Nat) (op : CxlOp)
  /-- QUEUE_ENABLE (R311): LN_QCTL ENABLE copies a queue table entry into the device and sets the expected sequence.
  -/
  | queueEnable (via : Via) (l : LineId) (v : Word)
  /-- QUEUE_DISABLE (R326): LN_QCTL DISABLE stops fetching and waits for dispatched commands. -/
  | queueDisable (via : Via) (l : LineId) (v : Word)
  /-- QUEUE_DISABLE_DONE (R326): When a disabling queue's commands have completed, HEAD_SEQ is written and the queue
  reads OFF. -/
  | queueDisableDone (l : LineId)
  /-- QUEUE_RESUME (R317): LN_QCTL RESUME restarts fetching of a PARKED queue from H. -/
  | queueResume (via : Via) (l : LineId) (v : Word)
  /-- SQ_DOORBELL (R315): An SQ doorbell write updates the queue's target or is ignored, reported or parks the queue.
  -/
  | sqDoorbell (via : Via) (l : LineId) (q : QueueId) (v : Word)
  /-- CQ_HEAD_DOORBELL (R315): A CQ head doorbell frees CQ slots or is reported as CQ_HEAD_RANGE. -/
  | cqHeadDoorbell (via : Via) (l : LineId) (q : QueueId) (v : Word)
  /-- SQ_FETCH_RETURN (R316): A fetch of SQ entries returns and valid visible commands are dispatched in sequence
  order. -/
  | sqFetchReturn (l : LineId) (q : QueueId)
  /-- REFETCH (R317): A not-yet-valid entry is fetched again at 1 µs steps, parking the SQ after the eighth. -/
  | refetch (l : LineId) (q : QueueId)
  /-- APORI_NOP (R319): The NOP command completes at dispatch. -/
  | aporiNop (l : LineId) (q : QueueId)
  /-- LAUNCH (R319): The LAUNCH command enters an inline launch block into a pond's queue. -/
  | launch (l : LineId) (q : QueueId)
  /-- XFER (R319): The XFER command hands an inline transfer descriptor to a channel. -/
  | xfer (l : LineId) (q : QueueId)
  /-- WRITE_INLINE (R319): WRITE_INLINE copies its payload to a virtual address. -/
  | writeInline (l : LineId) (q : QueueId)
  /-- READ_INLINE (R319): READ_INLINE returns 8 bytes from a virtual address in RESULT. -/
  | readInline (l : LineId) (q : QueueId)
  /-- SYNC_ADD (R319): SYNC_ADD adds a value to a sync counter after earlier writes are visible. -/
  | syncAdd (l : LineId) (q : QueueId)
  /-- SYNC_WAIT (R319): SYNC_WAIT waits for a counter to reach a value, holding its SQ. -/
  | syncWait (l : LineId) (q : QueueId)
  /-- SYNC_WAIT_SATISFIED (R320): A waiting SYNC_WAIT is satisfied and completes. -/
  | syncWaitSatisfied (l : LineId) (q : QueueId)
  /-- SYNC_WAIT_TIMEOUT (R319): A SYNC_WAIT exceeds its timeout and completes with WAIT_TIMEOUT. -/
  | syncWaitTimeout (l : LineId) (q : QueueId)
  /-- SYNC_SET (R319): SYNC_SET swaps a counter's value and returns the old one. -/
  | syncSet (l : LineId) (q : QueueId)
  /-- MIRROR (R287): MIRROR applies page-table update records in order and optionally fences. -/
  | mirror (l : LineId) (q : QueueId)
  /-- XLAT_FENCE (R283): The XLAT_FENCE command queues a translation fence and completes when it does. -/
  | xlatFence (l : LineId) (q : QueueId)
  /-- LOCK_INTERFACE (R486): TDISP LOCK_INTERFACE on a STOPPED leader resets and clears the Line, locks it and enters
  CONFIG_LOCKED. -/
  | lockInterface (l : LineId)
  /-- START_INTERFACE (R332): TDISP START_INTERFACE puts the interface in RUN. -/
  | startInterface (l : LineId)
  /-- STOP_INTERFACE (R332): TDISP STOP_INTERFACE resets and clears the Line and returns to CONFIG_UNLOCKED. -/
  | stopInterface (l : LineId)
  /-- IDE_INTEGRITY_FAIL (R488): An integrity failure on a bound IDE stream puts the interface in ERROR. -/
  | ideIntegrityFail (l : LineId)
  /-- IDE_KM (R332): An IDE_KM message programs or replaces IDE stream keys. -/
  | ideKm (stream : Fin 10) (request : IdeRequest)
  /-- CODEWORD_RECEIVE (R337): A rail codeword is received, decoded, checked, its credits and acks taken and its flits
  delivered. -/
  | codewordReceive (p : PortId) (cw : Codeword)
  /-- RAIL_NAK (R340): A received NAK makes the transmitter resend from the named codeword. -/
  | railNak (p : PortId) (from_ : Nat)
  /-- FLIT_WRITE (R352): A WRITE flit's delivery is resolved, checked, written and acknowledged. -/
  | flitWrite (p : PortId)
  /-- FLIT_REDUCE (R352): A REDUCE flit's delivery is resolved and summed by the confluence unit. -/
  | flitReduce (p : PortId)
  /-- FLIT_READ_REQ (R354): A READ_REQ is resolved, its source block checked and answered with READ_DATA. -/
  | flitReadReq (p : PortId)
  /-- FLIT_READ_DATA (R354): READ_DATA is checked and written at the requester or poisons the destination. -/
  | flitReadData (p : PortId)
  /-- FLIT_ACK (R352): An ACK acknowledges a delivery or COUNTER_ADD with status, CHK and REFUSED. -/
  | flitAck (p : PortId)
  /-- COUNTER_ADD (R355): A COUNTER_ADD applies an RDONE add after checking its window, or refuses and logs it. -/
  | counterAdd (p : PortId)
  /-- HANDSHAKE (R349): A HANDSHAKE message carries ML-KEM ciphertext to open or rekey a context. -/
  | handshake (p : PortId)
  /-- FLIT_CLOSE (R351): A received CLOSE puts the context DOWN. -/
  | flitClose (p : PortId)
  /-- PORT_TRAIN (R346): A rail port trains, exchanging and verifying announcements. -/
  | portTrain (p : PortId)
  /-- PORT_TRAIN_DONE (R346): Training ends with the port UP or REFUSED and the far end recorded. -/
  | portTrainDone (p : PortId) (res : TrainResult)
  /-- PORT_DARK (R361): A far end going dark or a switch reconfiguration takes the port to DARK then TRAINING. -/
  | portDark (p : PortId)
  /-- FABRIC_ID_WRITE (R345): A write changing HUB_FABRIC_ID retrains every port and puts every context DOWN. -/
  | fabricIdWrite (v : Word)
  /-- CTX_OPEN (R349): RAIL_CTX_CTL OPEN copies the context entry and starts the handshake. -/
  | ctxOpen (via : Via) (l : LineId) (v : Word)
  /-- CTX_CLOSE (R351): RAIL_CTX_CTL CLOSE sends CLOSE and ends the context's transfers. -/
  | ctxClose (via : Via) (l : LineId) (v : Word)
  /-- CTX_CLOSE_DONE (R351): A closing context reads OFF once CLOSE is acknowledged or after 20 ms. -/
  | ctxCloseDone (l : LineId) (x : CtxId)
  /-- CTX_REKEY (R350): RAIL_CTX_CTL REKEY starts a rekey handshake. -/
  | ctxRekey (via : Via) (l : LineId) (v : Word)
  /-- REKEY_DUE (R350): A key reaching 24 hours or SEQ 2^36 starts a rekey. -/
  | rekeyDue (l : LineId) (x : CtxId)
  /-- EPOCH_GRACE_END (R350): 10 ms after the first new-epoch flit the old epoch is no longer accepted. -/
  | epochGraceEnd (l : LineId) (x : CtxId)
  /-- PATH_WAIT_EXPIRY (R351): A context without path or handshake for PATH_WAIT goes DOWN with NO_PATH. -/
  | pathWaitExpiry (l : LineId) (x : CtxId)
  /-- ACK_TIMEOUT (R351): A delivery unacknowledged for 20 ms puts the context DOWN. -/
  | ackTimeout (l : LineId) (x : CtxId)
  /-- PATH_LOST (R353): A lost path makes unacknowledged deliveries re-sent on another path. -/
  | pathLost (p : PortId)
  /-- RECAL_STEP (R358): At INTERVAL_S or CAL_NOW a rail direction starts a live recalibration step by sending MIRROR.
  -/
  | recalStep (p : PortId) (dir : Dir)
  /-- CAL_NOW (R364): RAIL_PORT_CTL.CAL_NOW starts a recalibration step on both directions. -/
  | calNow (via : Via) (p : PortId) (v : Word)
  /-- LANE_MIRROR (R358): A MIRROR command makes the spare carry a copy of a data lane. -/
  | laneMirror (p : PortId) (dir : Dir) (lane : Fin 9)
  /-- MIRROR_COMPARE_DONE (R358): After 1,024 equal codewords the receiver sends SWITCH with a LANE_AT. -/
  | mirrorCompareDone (p : PortId) (dir : Dir)
  /-- LANE_SWITCH (R358): A SWITCH command schedules the move of a lane's data to the spare. -/
  | laneSwitch (p : PortId) (dir : Dir) (lane : Fin 9) (at_ : Nat)
  /-- LANE_AT_REACHED (R338): At codeword LANE_AT both ends change lanes as a SWITCH, RETIRE or HALF requires. -/
  | laneAtReached (p : PortId) (dir : Dir)
  /-- RECAL_STEP_DONE (R358): The freed lane is recalibrated and becomes the spare. -/
  | recalStepDone (p : PortId) (dir : Dir)
  /-- LANE_FAIL (R359): A rail lane with lost signal or excess errors is retired by RETIRE, HALF or port failure. -/
  | laneFail (p : PortId) (dir : Dir) (lane : Fin 9)
  /-- LANE_RETIRE (R359): A RETIRE command moves a retired lane's data to the spare. -/
  | laneRetire (p : PortId) (dir : Dir) (lane : Fin 9)
  /-- LANE_HALF (R359): A HALF command moves the port to four lanes at half rate. -/
  | laneHalf (p : PortId) (dir : Dir)
  /-- PORT_RETRAIN (R364): RAIL_PORT_CTL.RETRAIN retrains the port and retests retired lanes. -/
  | portRetrain (via : Via) (p : PortId) (v : Word)
  /-- QUIESCE (R364): RAIL_PORT_CTL.QUIESCE stops new deliveries on the port and re-sends unacknowledged ones
  elsewhere. -/
  | quiesce (via : Via) (p : PortId) (v : Word)
  /-- ARM (R366): CFL_CTL ARM copies a reduction entry into the unit and zeroes its accumulators, or is refused. -/
  | arm (via : Via) (b : BasinId) (v : Word)
  /-- ZEROING_DONE (R366): Accumulator zeroing ends and the entry is ARMED. -/
  | zeroingDone (b : BasinId) (e : EntryId)
  /-- CFL_ABORT (R374): CFL_CTL ABORT ends the entry with an ABORTED record and no DONE add. -/
  | cflAbort (via : Via) (b : BasinId) (v : Word)
  /-- SEED_READ (R372): Once ARMED and SEED_CTR reaches SEED_VAL the unit reads the input image as one contribution.
  -/
  | seedRead (b : BasinId) (e : EntryId)
  /-- FINISHING (R374): When every block is complete the entry writes statistics, record and DONE add. -/
  | finishing (b : BasinId) (e : EntryId)
  /-- UPD_SUBMIT (R387): A write to UPD_SUBMIT accepts a layer descriptor, or drops it with OVERRUN. -/
  | updSubmit (via : Via) (b : BasinId) (v : Word)
  /-- LAYER_START (R389): The engine starts the earliest ready layer while the fence is OPEN and HOLD is clear. -/
  | layerStart (b : BasinId)
  /-- ROW_COMMIT (R391): A row is read, computed and committed whole. -/
  | rowCommit (b : BasinId)
  /-- LAYER_COMPLETE (R391): After the last row C, the header and the record are written and DONE is added. -/
  | layerComplete (b : BasinId)
  /-- FENCE_OPEN (R393): UPD_FENCE OPEN latches the step size and opens a step. -/
  | fenceOpen (via : Via) (l : LineId) (v : Word)
  /-- FENCE_CLOSE (R393): UPD_FENCE CLOSE makes the fence CLOSING. -/
  | fenceClose (via : Via) (l : LineId) (v : Word)
  /-- FENCE_CLOSED (R393): When no engine runs a layer the fence is CLOSED and CLOSE_CTR is added. -/
  | fenceClosed (l : LineId)
  /-- UPD_ABORT (R401): UPD_CTL.ABORT ends the running layer at its next row boundary. -/
  | updAbort (via : Via) (b : BasinId) (v : Word)
  /-- UPD_HOLD (R401): UPD_CTL.HOLD stops or allows layers from starting. -/
  | updHold (via : Via) (b : BasinId) (v : Word)
  /-- UPD_FLUSH (R401): UPD_CTL.FLUSH ends every queued layer with LAUNCH_DROPPED. -/
  | updFlush (via : Via) (b : BasinId) (v : Word)
  /-- CORE_MEMORY_ACCESS (R296): A core load, store or AMO reaches memory through its caches under RVWMO. -/
  | coreMemoryAccess (h : HartId) (acc : CoreAccess)
  /-- IRQ_ROUTE_WRITE (R419): A write to LN_IRQ_ROUTE sets the route, sending a pending MSI when EN is set. -/
  | irqRouteWrite (via : Via) (l : LineId) (src : Fin 512) (v : Word)
  /-- DEC_SUBMIT (R423): A write to LN_DEC_SUBMIT queues a decode descriptor or drops it with OVERRUN. -/
  | decSubmit (via : Via) (l : LineId) (v : Word)
  /-- DECODE_START (R423): A decode block starts the Line's next job at a picture boundary. -/
  | decodeStart (l : LineId) (unit : Fin 2)
  /-- DECODE_COMPLETE (R424): A decode job ends, writing its record and DONE add. -/
  | decodeComplete (l : LineId) (unit : Fin 2)
  /-- SPUR_FLIT_RECEIVE (R431): A spur flit is received, checked, acknowledged and delivered in order. -/
  | spurFlitReceive (sp : SpurId) (dir : Dir) (flit : SpurFlit)
  /-- SPUR_NAK (R431): A spur NAK makes the transmitter resend from the named flit. -/
  | spurNak (sp : SpurId) (dir : Dir) (from_ : Nat)
  /-- SPUR_LOCK_LOSS (R442): A spur that loses lock retrains, keeping its replay buffers. -/
  | spurLockLoss (sp : SpurId)
  /-- SPUR_RETRAIN_DONE (R442): A spur retrain ends, restoring the spur or after three failures making it FAILED. -/
  | spurRetrainDone (sp : SpurId) (ok : Bool) (lanes : Nat × Nat)
  /-- SPUR_LANE_FAIL (R441): A spur lane with lost signal or excess parity errors is retired and replaced, or the spur
  goes HALF or FAILED. -/
  | spurLaneFail (sp : SpurId) (dir : Dir) (lane : Fin 34)
  /-- SPUR_RECAL_STEP (R437): A version 3 spur direction starts a live recalibration step at its interval. -/
  | spurRecalStep (sp : SpurId) (dir : Dir)
  /-- SPUR_RETRAIN (R445): SPUR_CTL.RETRAIN retrains the spur and retests retired lanes. -/
  | spurRetrain (sp : SpurId) (v : Word)
  /-- SPUR_CAL_NOW (R445): SPUR_CTL.CAL_NOW starts a recalibration step in both directions. -/
  | spurCalNow (sp : SpurId) (v : Word)
  /-- TERM (R455): LN_JOB_CTL.TERM ends the named job as a sink would. -/
  | term (via : Via) (l : LineId) (v : Word)
  /-- CLEAR (R455): LN_JOB_CTL.CLEAR removes a tag from the ended set. -/
  | clear (via : Via) (l : LineId) (v : Word)
  /-- TEST_DUE (R458): A grid or core becomes due for a test when its interval elapses. -/
  | testDue (kind : UnitKind) (unit : Nat)
  /-- TEST_BEGIN (R459): A due test begins once its conditions hold, freeing the unit through a spare. -/
  | testBegin (kind : UnitKind) (unit : Nat)
  /-- TEST_COMPLETE (R457): A test ends and the unit moves between health states. -/
  | testComplete (kind : UnitKind) (unit : Nat) (res : TestResult)
  /-- CORE_MIGRATION (R464): A hart's state moves to the siding core after it passes its ROM self-test. -/
  | coreMigration (b : BasinId) (core : Fin 16) (res : MigrateResult)
  /-- UNIT_READ (R470): HUB_UNIT_CMD READ loads a unit's record into HUB_UNIT_HEALTH. -/
  | unitRead (v : Word)
  /-- UNIT_TEST (R470): HUB_UNIT_CMD TEST makes a unit due. -/
  | unitTest (v : Word)
  /-- QUARANTINE (R470): HUB_UNIT_CMD QUARANTINE makes a unit SUSPECT and takes it out. -/
  | quarantine (v : Word)
  /-- RETIRE (R470): HUB_UNIT_CMD RETIRE retires a unit, channel or lane. -/
  | retire (v : Word)
  /-- SUSPECT (R470): HUB_UNIT_CMD SUSPECT makes a grid or core SUSPECT. -/
  | suspect (v : Word)
  /-- REINSTATE (R470): HUB_UNIT_CMD REINSTATE returns a retired grid or core to SUSPECT. -/
  | reinstate (v : Word)
  /-- SURVEY_LOAD (R467): HUB_SURVEY_CTL LOAD reads, verifies and stores a survey pack. -/
  | surveyLoad (v : Word)
  /-- SURVEY_ERASE (R471): HUB_SURVEY_CTL ERASE removes the pack in a slot. -/
  | surveyErase (v : Word)
  /-- RUN_NOW (R467): HUB_SURVEY_CTL RUN_NOW makes every matching unit due. -/
  | runNow (v : Word)
  /-- SURVEY_OP_DONE (R471): A survey operation ends and RESULT is set. -/
  | surveyOpDone (readOk : Bool) (sigOk : Bool) (flashOk : Bool)
  /-- OFFLINE_TEST (R461): HUB_OFFLINE_TEST.GO tests offline units when all Lines are quiet and then resets the
  module. -/
  | offlineTest (v : Word)
  /-- COMMIT_SVN (R476): SEC_CTL.COMMIT_SVN raises MIN_SVN to the running image's SVN. -/
  | commitSvn (v : Word)
  /-- OWNER_REQUEST (R482): SEC_OWNER_CTL.GO reads and verifies an owner request. -/
  | ownerRequest (v : Word)
  /-- GET_VERSION (R484): SPDM GET_VERSION. -/
  | getVersion (t : Transport) (body : List Byte)
  /-- GET_CAPABILITIES (R484): SPDM GET_CAPABILITIES. -/
  | getCapabilities (t : Transport) (body : List Byte)
  /-- NEGOTIATE_ALGORITHMS (R484): SPDM NEGOTIATE_ALGORITHMS, refused without the extended algorithm. -/
  | negotiateAlgorithms (t : Transport) (body : List Byte)
  /-- GET_DIGESTS (R484): SPDM GET_DIGESTS. -/
  | getDigests (t : Transport) (body : List Byte)
  /-- GET_CERTIFICATE (R484): SPDM GET_CERTIFICATE returns the slot 0 chain. -/
  | getCertificate (t : Transport) (body : List Byte)
  /-- CHALLENGE (R484): SPDM CHALLENGE answered with a signed CHALLENGE_AUTH. -/
  | challenge (t : Transport) (body : List Byte)
  /-- GET_MEASUREMENTS (R485): SPDM GET_MEASUREMENTS returns the measurement blocks. -/
  | getMeasurements (t : Transport) (body : List Byte)
  /-- KEY_EXCHANGE (R484): SPDM KEY_EXCHANGE starts a session. -/
  | keyExchange (t : Transport) (body : List Byte)
  /-- FINISH (R484): SPDM FINISH completes a session handshake. -/
  | finish (t : Transport) (body : List Byte)
  /-- HEARTBEAT (R484): SPDM HEARTBEAT. -/
  | heartbeat (t : Transport) (body : List Byte)
  /-- KEY_UPDATE (R484): SPDM KEY_UPDATE replaces session keys. -/
  | keyUpdate (t : Transport) (body : List Byte)
  /-- END_SESSION (R484): SPDM END_SESSION ends a session. -/
  | endSession (t : Transport) (body : List Byte)
  /-- CHUNK_SEND (R484): SPDM CHUNK_SEND. -/
  | chunkSend (t : Transport) (body : List Byte)
  /-- CHUNK_GET (R484): SPDM CHUNK_GET. -/
  | chunkGet (t : Transport) (body : List Byte)
  /-- VENDOR_DEFINED_REQUEST (R484): SPDM VENDOR_DEFINED_REQUEST carrying IDE_KM or TDISP. -/
  | vendorDefinedRequest (t : Transport) (body : List Byte)
  /-- LINE_CLEAR_DONE (R489): A Line clear ends and CLEARING reads 0. -/
  | lineClearDone (l : LineId)
  /-- DRBG_RESEED (R483): The DRBG reseeds every 24 hours. -/
  | drbgReseed
  /-- RNG_HEALTH_FAIL (R483): A run-time entropy health failure sets RNG_FAIL and is logged. -/
  | rngHealthFail
  /-- TENANT_VALUE_UPDATE (R491): At each 1 ms boundary each counter's tenant value is updated in quanta. -/
  | tenantValueUpdate (draws : List Nat)
  /-- SLEEP_ENTRY (R496): A Line sleep-idle for 1 ms enters the deepest state its wake tolerance allows. -/
  | sleepEntry (l : LineId)
  /-- WAKE (R499): A wake event returns a sleeping Line to S0, holding the waking write or flit. -/
  | wake (l : LineId)
  /-- WAKE_TOL_WRITE (R499): A write to LN_WAKE_TOL sets the tolerance and is a wake event. -/
  | wakeTolWrite (via : Via) (l : LineId) (v : Word)
  /-- SLEEP_EXIT_DONE (R500): Sleep exit ends after PLLs, memory and staggered pond power-up, and held work proceeds.
  -/
  | sleepExitDone (l : LineId)
  /-- SELF_REFRESH_EXIT (R501): An access to a basin in self-refresh brings its channels out without waking the Line.
  -/
  | selfRefreshExit (b : BasinId)
  /-- SELF_REFRESH_REENTRY (R501): Channels return to self-refresh after 1 ms without access. -/
  | selfRefreshReentry (b : BasinId)
  /-- POWER_SAMPLE (R503): Every 100 µs the power readings are refreshed as 1 ms means. -/
  | powerSample (readings : List (Nat × Nat × Nat))
  /-- BUDGET_LOOP (R504): Every 100 µs the hub moves each basin's frequency limits against budget, cap and ceiling. -/
  | budgetLoop
  /-- PWR_CAP_WRITE (R509): A write to HUB_PWR_CAP sets the cap at the next loop period, or is ignored out of range.
  -/
  | pwrCapWrite (v : Word)
  /-- VF_REVALIDATE (R508): Within 60 s of a guard the rail is re-validated and a FULL record written. -/
  | vfRevalidate (b : BasinId) (core : Bool) (pass : Bool)
  /-- ENTDAA (R517): I3C ENTDAA assigns a dynamic address. -/
  | entdaa (addr : Fin 128)
  /-- SETDASA (R517): I3C SETDASA assigns a dynamic address from the static one. -/
  | setdasa (addr : Fin 128)
  /-- RSTDAA (R517): I3C RSTDAA resets the dynamic address. -/
  | rstdaa
  /-- SETNEWDA (R517): I3C SETNEWDA changes the dynamic address. -/
  | setnewda (addr : Fin 128)
  /-- ENEC (R517): I3C ENEC enables events. -/
  | enec (mask : Byte)
  /-- DISEC (R517): I3C DISEC disables events. -/
  | disec (mask : Byte)
  /-- GETPID (R517): I3C GETPID returns the provisioned ID. -/
  | getpid
  /-- GETBCR (R517): I3C GETBCR returns the BCR. -/
  | getbcr
  /-- GETDCR (R517): I3C GETDCR returns the DCR. -/
  | getdcr
  /-- GETSTATUS (R517): I3C GETSTATUS returns target status. -/
  | getstatus
  /-- GETMWL (R517): I3C GETMWL returns the maximum write length. -/
  | getmwl
  /-- GETMRL (R517): I3C GETMRL returns the maximum read length. -/
  | getmrl
  /-- SETMWL (R517): I3C SETMWL sets the maximum write length. -/
  | setmwl (len : Nat)
  /-- SETMRL (R517): I3C SETMRL sets the maximum read length. -/
  | setmrl (len : Nat)
  /-- GETCAPS (R517): I3C GETCAPS returns capabilities. -/
  | getcaps
  /-- RSTACT (R534): I3C RSTACT naming a whole-target reset, with the reset pattern, resets the module. -/
  | rstact (action : Byte)
  /-- SMBUS_ARP (R518): SMBus ARP assigns the module's address from its UDID. -/
  | smbusArp (cmd : ArpCmd)
  /-- SET_ENDPOINT_ID (R519): MCTP Set Endpoint ID gives a binding its EID. -/
  | setEndpointId (binding : Fin 2) (eid : Byte)
  /-- SET_EVENT_RECEIVER (R521): PLDM SetEventReceiver names the receiver of platform events. -/
  | setEventReceiver (binding : Fin 2) (body : List Byte)
  /-- POLL_FOR_PLATFORM_EVENT_MESSAGE (R521): PLDM PollForPlatformEventMessage returns a queued event. -/
  | pollForPlatformEventMessage (binding : Fin 2) (body : List Byte)
  /-- FIRMWARE_UPDATE_COMPONENT (R522): A PLDM firmware or survey component is received and verified before any write.
  -/
  | firmwareUpdateComponent (binding : Fin 2) (comp : Nat) (image : List Byte) (sigOk : Bool)
  /-- ACTIVATE_FIRMWARE (R522): PLDM ActivateFirmware reports activation pending for the next module reset. -/
  | activateFirmware (binding : Fin 2)
  /-- LOG_READ (R531): The MCTP LOG_READ request returns up to 16 Logbook or mirror entries. -/
  | logRead (binding : Fin 2) (body : List Byte)
  /-- SENSOR_REFRESH (R520): Every 100 ms sensor readings refresh and threshold crossings are detected. -/
  | sensorRefresh (readings : List (Nat × Int))
  /-- TELEMETRY_SAMPLE (R525): At each PERIOD boundary a telemetry record of six sources is written to the ring. -/
  | telemetrySample (l : LineId)
  /-- TEL_CTL_WRITE (R523): A write setting TEL_CTL.PERIOD resets the ring head and takes effect at the next 1 ms
  boundary. -/
  | telCtlWrite (via : Via) (l : LineId) (v : Word)
  /-- REPEAT_FLUSH (R530): At the end of a coalescing second one REPEAT entry is written. -/
  | repeatFlush
  /-- LOG_NOTE (R531): Writing LOG_NOTE records a HOST_NOTE entry. -/
  | logNote (v : Word)
  /-- LOG_WALL (R531): Writing LOG_WALL records a TIME_MARK entry. -/
  | logWall (v : Word)
  /-- POWER_ON (R567): The 54 V input rising into its rated range for 10 ms causes a power-on module reset. -/
  | powerOn
  /-- MOD_RST (R534): MOD_RST# held low for 1 µs causes a module reset. -/
  | modRst
  /-- HUB_RESET (R547): HUB_RESET.GO with KEY 0xA5 causes a module reset. -/
  | hubReset (v : Word)
  /-- WATCHDOG (R551): Signal boxes not answering for 1 s cause a watchdog module reset. -/
  | watchdog
  /-- BOOT (R536): After a module reset the signal boxes run the boot order from ALWAYS_ON to DONE. -/
  | boot
  /-- BOOT_STEP_DONE (R536): A boot step ends and the next begins. -/
  | bootStepDone (res : BootResult)
  /-- STEP_TIMEOUT (R536): A boot step overrunning its limit halts boot with code 0x13. -/
  | stepTimeout
  /-- RECOVERY_WRITE (R549): HUB_RECOVERY_CTL.GO reads and verifies a recovery image. -/
  | recoveryWrite (v : Word)
  /-- RECOVERY_WRITE_DONE (R549): A recovery write programs and reads back the image, then resets the module or
  reports FLASH_ERROR. -/
  | recoveryWriteDone (readOk : Bool) (sigOk : Bool) (flashOk : Bool)
  /-- POWER_LOSS (R567): Input below 44 V for 50 µs removes power from every domain. -/
  | powerLoss
  /-- RIDE_THROUGH (R568): Input in the ride-through range triggers the fast limiter. -/
  | rideThrough
  /-- RIDE_THROUGH_EXPIRY (R567): Input in the ride-through range for more than 10 ms removes power. -/
  | rideThroughExpiry
  /-- RIDE_THROUGH_END (R568): Input back above 50 V lets the budget loop raise limits again. -/
  | rideThroughEnd
  /-- THERMAL_TRIP (R576): A sensor at its fatal threshold for 1 ms removes power except always-on and drives
  THERM_TRIP# low. -/
  | thermalTrip (die : Nat)
  /-- CRYSTAL_EDGE (R513): At each edge of the 25 MHz module crystal the device-time counter advances by 40 ns. -/
  | crystalEdge
  /-- SIGNAL_BOX_FAILOVER (R527): When signal box 0 fails after DONE, signal box 1 takes over serving, reserving a new
  identity-leaf block and a new Logbook SEQ block first. -/
  | signalBoxFailover
  /-- SPUR_RECAL_STEP_DONE (R437): The freed spur lane finishes recalibration and becomes the spare, CALIBRATING
  clears and STEPS rises. -/
  | spurRecalStepDone (sp : SpurId) (dir : Dir)
  /-- APPLY_COMPLETE (R522): The flash write of a PLDM firmware or survey-pack component ends and is reported at
  ApplyComplete, freeing the flash for a waiting Timetable PERSIST. -/
  | applyComplete (ok : Bool)
  /-- OWNER_REQUEST_DONE (R482): An owner request finishes verification, stores or clears the key hash, and sets
  RESULT with BUSY clear, releasing waiting Timetable and survey loads. -/
  | ownerRequestDone (readOk : Bool) (sigOk : Bool)
deriving DecidableEq, Repr

end Sys2Proof
end

