-- ==== Sys2Proof/Decode.lean ====
section
/-!
DEFINITION. The commands that a word spells by the bits of opcode_table.json. The table gives no row any bits.
-/
namespace Sys2Proof

/-- The command that a word spells: none, because no row of the table has an encoding. -/
def decodeTableWord (_nbits _w : Nat) : Option Instr := none

end Sys2Proof
end

