-- ==== Sys2Proof/Config.lean ====
section
/-!
DEFINITION. The values that the manual leaves open, and the results of algorithms that it takes from other standards.
Nothing here has a body: a statement holds whatever these are.
-/
namespace Sys2Proof.Config

/-- A picture that a decode block has decoded: the bitstream bytes it depends on, and its components Y, Cb and Cr, or Y only,
as rows of samples. -/
structure DecodedPic where
  first : Nat := 0
  len : Nat := 0
  comps : List (List (List Nat)) := []
deriving DecidableEq, Repr, Inhabited

/-- What decoding a bitstream gives (R420 to R424): the chroma sampling factors, and for HEVC the matrix (0 BT.601, 1 BT.709,
2 BT.2020) and full range where the VUI signals them. `error` is the bitstream offset of a syntax error. -/
structure DecodeOut where
  unsupported : Bool := false
  width : Nat := 0
  height : Nat := 0
  hsub : Nat := 1
  vsub : Nat := 1
  vui : Option (Nat × Bool) := none
  pics : List DecodedPic := []
  error : Option Nat := none
deriving DecidableEq, Repr, Inhabited

/-- The model's free values: the `n`-th value that the manual does not state. -/
opaque freeNat : (n : Nat) → Nat

/-- AES-256-XTS encryption of a granule under a 512-bit key and a tweak (R229). -/
opaque xts : (key tweak : Nat) → List Byte → List Byte

/-- The headroom in mV of a basin's memory PHY rail, which a guard of 15 mV needs (R237). -/
opaque phyHeadroom : (basin : Nat) → Nat

/-- The entries of a home's directory (R298), which the manual does not state, by basin. -/
opaque dirEntries : (basin : Nat) → Nat

/-- The flit slots that pass empty on a rail port the `n`-th time that it waits (R339): a port sends codewords without
end, and how many go by between two events is a matter of time. -/
opaque idleSlots : (port n : Nat) → Nat

/-- AES-256-GCM of a flit's body, with its tag, under the key of its direction, which is a secret of the two ends, at
`n` of the port's waits (R350). -/
opaque railSeal : (port n : Nat) → (nonce data : List Byte) → (body : List Byte) → List Byte × Nat

/-- The flits that a spur receiver buffers for S and B (0) and for E (1) (R432), which the manual does not state. -/
opaque spurBuffer : (pool : Nat) → Nat

/-- Which of the results within its error bound special function `func` of the vector engine returns for FP32 bits `a`
(R202). -/
opaque vecFn : (func a : Nat) → Nat

/-- The JPEG (codec 0) and HEVC (codec 1) standards, up to the decoded samples. -/
opaque decode : (codec : Nat) → (stream : List Byte) → DecodeOut

/-- The module's identity public key, 64 bytes (R478). -/
opaque identityKey : List Byte

/-- Whether an XMSS-SHAKE256_20_256 signature verifies under a public key over a message (R53, R473). -/
opaque xmssOk : (key msg sig : List Byte) → Bool

/-- SHA-384 (R484). -/
opaque sha384 : List Byte → List Byte

/-- The certificate chain of slot 0 (R484). -/
opaque certChain : List Byte

/-- The hub boot ROM, the firmware image that the module is built with, and the grid microcode of a level, as measured
(R485). -/
opaque bootRom : List Byte
opaque factoryImage : List Byte
opaque microcode : (level : Nat) → List Byte

/-- Whether the verify data of an SPDM FINISH message holds for a session (R484). -/
opaque finishOk : (session : Nat) → (message : List Byte) → Bool

/-- The maximum voltage in mV of a power rail (R508): basin n's compute rail is n, its core quadrant's 8 + n. -/
opaque railMaxMv : (rail : Nat) → Nat

end Sys2Proof.Config
end

