-- ==== Sys2Proof/Machine/Table.lean ====
section
/-!
DEFINITION. Sparse tables: sorted association lists in one canonical form.
A table lists keys in strictly rising order and never lists an entry that an unlisted key already reads as,
so that equal tables are equal data.
-/
namespace Sys2Proof.Machine

/-- A sparse table from numbers to values. -/
abbrev Tbl (α : Type) := List (Nat × α)

/-- The value at key `k`, or `d` where none is listed. -/
def tblGet {α : Type} (d : α) : Tbl α → Nat → α
  | [], _ => d
  | (j, v) :: r, k => if j = k then v else tblGet d r k

/-- Removes key `k`. -/
def tblErase {α : Type} (t : Tbl α) (k : Nat) : Tbl α := t.filter fun e => e.1 != k

/-- Lists `v` at key `k`, keeping the keys rising. -/
def tblInsert {α : Type} : Tbl α → Nat → α → Tbl α
  | [], k, v => [(k, v)]
  | (j, w) :: r, k, v =>
    if k < j then (k, v) :: (j, w) :: r
    else if k = j then (k, v) :: r
    else (j, w) :: tblInsert r k v

/-- The table with key `k` reading as `v`, in canonical form: the default `d` is not listed. -/
def tblSet {α : Type} [DecidableEq α] (d : α) (t : Tbl α) (k : Nat) (v : α) : Tbl α :=
  if v = d then tblErase t k else tblInsert t k v

/-- Every listed key is above `k`, and the keys rise. -/
def tblAbove {α : Type} : Nat → Tbl α → Bool
  | _, [] => true
  | k, (j, _) :: r => decide (k < j) && tblAbove j r

/-- The keys rise strictly. -/
def tblRising {α : Type} : Tbl α → Bool
  | [] => true
  | (j, _) :: r => tblAbove j r

/-- The canonical form: keys rise strictly and no listed value is the default. -/
def tblWf {α : Type} [DecidableEq α] (d : α) (t : Tbl α) : Bool :=
  tblRising t && t.all (fun e => decide (e.2 ≠ d))

end Sys2Proof.Machine
end

