-- ==== Sys2Proof/Machine/HubState.lean ====
section
/-!
DEFINITION. The state of the hub: the Timetable (02_timetable.md), security (18_security.md), power
(19_power_and_clocks.md), management and the Logbook (20_management_and_logbook.md), boot (21_bringup.md) and the
supply and temperatures (23_module.md).
-/
namespace Sys2Proof.Machine

/-- The running content of one basin, as the records of the Timetable's sections (R57 to R67). -/
structure TtBasin where
  lines : Nat := 0x20
  grids : Nat := 0x001400FFFFFFFFFF
  cores : Nat := 0x2FFFF
  queues : Nat := 0x02000200
  rail : Nat := 0xF
  mem0 : Nat := 0
  mem1 : Nat := 0x3FFF
  power : Nat := 0
  test : Nat := 0
deriving DecidableEq, Repr

/-- A running Timetable (R49, R68): the basins' records, the windows (R61), the admission entries (R66), the MODULE
record and the generation. -/
structure Timetable where
  basins : Tbl TtBasin := []
  windows : List (Word × Word) := []
  admission : List Word := []
  moduleRec : Nat := 0
  gen : Nat := 0
  /-- Digest of the image that made it (R485); empty for the built-in default. -/
  digest : List Byte := []
deriving DecidableEq, Repr

/-- Where a Timetable image comes from (R69). -/
inductive TtSrc where
  | host | slotA | slotB
deriving DecidableEq, Repr

/-- The stage of a Timetable load. -/
inductive TtStage where
  | reading | waiting | applying | persisting
deriving DecidableEq, Repr

/-- A load in progress (R69 to R80). -/
structure TtLoad where
  stage : TtStage
  src : TtSrc
  dryRun : Bool
  persist : Bool
  addr : Nat
  len : Nat
  image : List Byte := []
  next : Timetable := {}
  /-- Basins of the touched Lines, and basins to be cleared (R74, R77, R225). -/
  touched : List Nat := []
  clear : List Nat := []
  /-- The image has a MODULE section. -/
  hasModule : Bool := false
deriving DecidableEq, Repr

/-- The firmware region of the flash (R539): the image a module is built with, programmed bytes, or a region that an
interrupted write left broken (R550). -/
inductive FwRegion where
  | factory
  | programmed (image : List Byte)
  | broken
deriving DecidableEq, Repr

/-- The flash (R539). A Timetable or survey slot is empty when it is erased. -/
structure Flash where
  fw : FwRegion := .factory
  slotA : List Byte := []
  slotB : List Byte := []
  survey : Tbl (List Byte) := []
deriving DecidableEq, Repr

/-- The security counters that no reset takes back: MIN_SVN (R476) and the identity-leaf counter with its reservation
(R480, R481). -/
structure Vault where
  minSvn : Nat := 0
  /-- Next identity leaf, SEC_ID_STATUS.NEXT. -/
  nextLeaf : Nat := 0
  /-- Leaves below this are reserved in hub non-volatile memory, SEC_ID_STATUS.RESERVED. -/
  reserved : Nat := 0
deriving DecidableEq, Repr

/-- Hub non-volatile memory beyond health records and the vault (R482, R530). -/
structure Nvm where
  ownerHash : Option (List Byte) := none
  ownerCount : Nat := 0
  logReserved : Nat := 0
  bootCount : Nat := 0
  /-- Nanoseconds of operation before the last power-on, for the test intervals of R140 and R458. -/
  agedNs : Nat := 0
deriving DecidableEq, Repr

/-- An owner request in progress (R482). -/
structure OwnerOp where
  addr : Nat
  /-- It waits for a Timetable or survey load to end. -/
  waiting : Bool := false
deriving DecidableEq, Repr

/-- The security block (R473 to R485). `reseedAt` is the device time of the DRBG's last reseed. -/
structure Security where
  fwSvn : Nat := 0
  rngFail : Bool := false
  reseeds : Nat := 0
  reseedAt : Nat := 0
  /-- The identity key has signed this boot's rail key (R346, R479). -/
  railSigned : Bool := false
  ownerOp : Option OwnerOp := none
  /-- Device time of the last update of tenant values (R491). -/
  tenantAt : Nat := 0
deriving DecidableEq, Repr

/-- An SPDM connection of one transport (R484): the version that it has agreed on, how far negotiation has come, the
requester's DataTransferSize, the request that its chunks have brought so far, and the response that is fetched in
chunks. -/
structure SpdmConn where
  version : Nat := 0
  caps : Bool := false
  algos : Bool := false
  size : Nat := 0
  chunk : List Byte := []
  chunkSeq : Nat := 0
  handle : Nat := 0
  large : List Byte := []
  largeSeq : Nat := 0
deriving DecidableEq, Repr

/-- An SPDM session (R484). -/
structure SpdmSession where
  id : Nat
  transport : Nat
  established : Bool := false
  keyUpdates : Nat := 0
deriving DecidableEq, Repr

/-- The stages of HUB_BOOT_STATUS (R536, R544, R546). -/
inductive Stage where
  | alwaysOn | image | inventory | spurs | dies | lpddr | timetable | done | halted | recovery
deriving DecidableEq, Repr

/-- A recovery write (R549): where the image lies in host memory. -/
structure RecoveryOp where
  addr : Nat
  len : Nat
deriving DecidableEq, Repr

/-- Boot state (R533 to R551). `powered` is false while power is removed from the module, and `tripped` from a thermal
trip until a module reset input (R576). -/
structure Boot where
  powered : Bool := true
  tripped : Bool := false
  running : Bool := false
  stage : Stage := .alwaysOn
  halt : Nat := 0
  die : Nat := 0
  cause : Nat := 0
  doneUs : Nat := 0
  /-- Device time at which the reset input ended, and at which the running step began. -/
  startTime : Nat := 0
  stepAt : Nat := 0
  recovery : Option RecoveryOp := none
deriving DecidableEq, Repr

/-- The management bus (R516 to R519). -/
structure Mgmt where
  i3c : Bool := false
  dynAddr : Option Nat := none
  smbusAddr : Nat := 0x52
  /-- ARP has assigned the SMBus address. -/
  arpDone : Bool := false
  /-- Events enabled by ENEC; bit 0 is in-band interrupts. -/
  events : Nat := 1
  mwl : Nat := 0
  mrl : Nat := 0
  /-- EIDs by binding: 0 management bus, 1 PCIe VDM. -/
  eids : Tbl Nat := []
deriving DecidableEq, Repr

/-- A PLDM platform event (R521). -/
structure PldmEvent where
  kind : Nat
  a : Nat
  b : Nat
deriving DecidableEq, Repr

/-- A component that PLDM has brought and that is being written (R522): 1 firmware image, 2 survey pack; its signature's
verdict, the binding that brought it, and whether its flash write waits for a PERSIST. -/
structure FwUpdate where
  comp : Nat
  image : List Byte
  sigOk : Bool
  binding : Nat
  waiting : Bool := false
deriving DecidableEq, Repr

/-- PLDM state (R520 to R522). -/
structure Pldm where
  receiver : Option Nat := none
  events : List PldmEvent := []
  /-- Events discarded since the last one sent. -/
  lost : Nat := 0
  update : Option FwUpdate := none
  /-- A written image waits for the next module reset. -/
  pending : Bool := false
  /-- Last sensor readings and their threshold states, by sensor ID. -/
  readings : Tbl Int := []
  states : Tbl Nat := []
deriving DecidableEq, Repr

/-- A Logbook entry (R528); the fixed fields are derived when its bytes are asked for. -/
structure LogEntry where
  seq : Nat
  time : Nat
  boot : Nat
  code : Nat
  sev : Nat
  source : Nat
  lines : Nat
  mirrored : Bool
  svn : Nat
  ttGen : Nat
  arg0 : Nat
  arg1 : Nat
  arg2 : Nat
  payload : List Nat
deriving DecidableEq, Repr

/-- A coalescing second (R530). -/
structure Coalesce where
  code : Nat
  source : Nat
  arg0 : Nat
  since : Nat
  count : Nat
deriving DecidableEq, Repr

/-- The Logbook (R527 to R532). Entries are newest first. -/
structure Logbook where
  entries : List LogEntry := []
  mirror : List LogEntry := []
  next : Nat := 0
  mirrorNext : Nat := 0
  writer : Nat := 0
  mramFail : Bool := false
  pendingRepeats : List Coalesce := []
  /-- The first SEQ of the power-on that runs: device times of older entries are not comparable (R513). -/
  since : Nat := 0
deriving DecidableEq, Repr

/-- A basin's compute rail or core quadrant rail with its V-F record (R507, R508): the anchors in mV, when and under what
the record was made, the guard in force, and whether the rail keeps its reduction because its anchors cannot be raised. -/
structure VfRail where
  anchors : List Nat := [0, 0, 0, 0, 0, 0, 0, 0]
  temp : Int := 25
  full : Bool := false
  time : Nat := 0
  guard : Bool := false
  guardFreq : Bool := false
  kept : Bool := false
deriving DecidableEq, Repr

/-- The power state of one basin (R503 to R512): its PLL, the draws measured in W, the load class of the core quadrant,
its rails, and the budget limits on the grid and core clocks in 25 MHz units. -/
structure BasinPower where
  pll : Bool := false
  computeDraw : Nat := 0
  otherDraw : Nat := 0
  coreDraw : Nat := 0
  coreFull : Bool := false
  floor : Bool := false
  compute : VfRail := {}
  core : VfRail := {}
  budGrid : Nat := 64
  budCore : Nat := 136
deriving DecidableEq, Repr

/-- The module's power and temperatures (R503 to R510, R566 to R577). -/
structure Power where
  /-- HUB_PWR_CAP.W, and the cap that the loop holds to (R506). -/
  cap : Nat := 3800
  capNow : Nat := 3800
  draw : Nat := 0
  /-- The cap limit on the grid and core clocks, in 25 MHz units (R504). -/
  capGrid : Nat := 64
  capCore : Nat := 136
  /-- The module draw exceeds the cap by more than 10% (R505). -/
  overCap : Bool := false
  rideThrough : Bool := false
  /-- Device time at which the input entered the ride-through range (R567). -/
  rideFrom : Nat := 0
  throttle : Bool := false
  /-- Temperatures by sensor ID of R520. -/
  temps : Tbl Int := []
  /-- Mean draw of each Line over the last 50 ms, rounded down to 10 W, by leader (R491). -/
  lineDraws : Tbl Nat := []
  hotC : Int := 0
  hotDie : Nat := 0
  tripDie : Nat := 0
deriving DecidableEq, Repr

end Sys2Proof.Machine
end

