-- ==== Sys2Proof/Machine/MemState.lean ====
section
/-!
DEFINITION. The state of the memories, of translation and of coherence (07_memory.md, 09_translation_and_coherence.md).
-/
namespace Sys2Proof.Machine

/-- A channel's training record (R236). Times are in ns of device time. -/
structure TrainRec where
  temp : Int := 25
  full : Bool := false
  time : Nat := 0
  /-- The settings that it holds, which the manual does not describe. -/
  settings : Nat := 0
deriving DecidableEq, Repr

/-- The memory of one basin beyond its bytes: channels, training, maintenance, scrubbing, repair and the spare
subarrays of the Reservoir (R215 to R240). -/
structure BasinMem where
  /-- CHAN_MAP in force (R63, R223). -/
  chanMap : Nat := 0xFFFFFFFF
  /-- The AES-256-XTS key, of 512 bits, and its replacements since boot (R229, R230). -/
  key : Nat := 0
  keyGen : Nat := 0
  selfRefresh : Bool := true
  loadFull : Bool := false
  /-- Package temperatures, keyed 0 to 3 (R238). -/
  temps : Tbl Int := []
  trains : Tbl TrainRec := []
  /-- The settings that each channel runs with: its record's, or those of the calibration under way (R236, R239). -/
  settings : Tbl Nat := []
  /-- Channels that have lost their link and retrain (R226). -/
  linkLost : Tbl Bool := []
  /-- Channels under a live check (R238). -/
  liveCheck : Tbl Bool := []
  /-- The channel in quiet calibration (R239). -/
  calibrating : Option Nat := none
  /-- Device time at which the maintenance window ends (R239, R243). -/
  maintEnd : Option Nat := none
  scrubLpddr : Bool := false
  scrubRsv : Bool := false
  /-- The granule that each scrubber reads next, counted from the basin's first (R233). -/
  scrubPos : Nat := 0
  rsvScrubPos : Nat := 0
  /-- Bank and subarray of the running spare copies (R220). -/
  copying : List (Nat × Nat) := []
  /-- Banks whose spare stands in, with 1 + the subarray it replaces (R220, R221). -/
  spares : Tbl Nat := []
  /-- Rows queued for hard repair: channel and row (R234). -/
  pprQueue : List (Nat × Nat) := []
  /-- Corrected errors of the last 24 hours, by row or subarray, with their times (R219, R234). -/
  corrected : List (Nat × Nat) := []
  /-- MR4 refresh rate that each package reports, in multiples of 1/4 of the base rate (R235). -/
  refresh : Tbl Nat := []
deriving DecidableEq, Repr

/-- A cached translation of a basin's unit (R279): the entry at `level` of the walk for the address space. Level 5
stands for the address-space table entry itself. `part` is the virtual address above the level's page. -/
structure TlbEntry where
  asid : Nat
  level : Nat
  part : Nat
  pte : Word
  leaf : Bool
deriving DecidableEq, Repr

/-- Who asked for a translation fence (R283). -/
inductive FenceSrc where
  | register
  | command (queue slot : Nat)
deriving DecidableEq, Repr

/-- A translation fence (R282). -/
structure Fence where
  allAsid : Bool := false
  asid : Nat := 0
  allVa : Bool := false
  vpn : Nat := 0
  pages : Nat := 0
  src : FenceSrc := .register
deriving DecidableEq, Repr

/-- The MOESI states of a cached line (R294). -/
inductive Moesi where
  | m | o | e | s
deriving DecidableEq, Repr

/-- A line in a caching agent: its state, its 64 bytes and its poison bit. -/
structure CacheLine where
  st : Moesi
  data : List Byte
  poison : Bool := false
deriving DecidableEq, Repr

/-- A directory record (R294). Agents are numbered as LN_COH_STATUS.AGENT numbers them (R302). -/
inductive DirEntry where
  | inv
  | shared (agents : List Nat)
  | owned (owner : Nat)
  | ownedShared (owner : Nat) (agents : List Nat)
deriving DecidableEq, Repr

/-- The snoops of R294 and R295. -/
inductive SnoopKind where
  | shared | invalidate | readNoAlloc
deriving DecidableEq, Repr

/-- The request that a home transaction serves. `wholeWrite`, `partWrite` and `read` are cacheless (R295). -/
inductive CohReq where
  | readShared | readUnique | upgrade
  | read (offset len : Nat)
  | wholeWrite (data : List Byte) (poison : Bool)
  | partWrite (offset : Nat) (data : List Byte) (poison : Bool)
deriving DecidableEq, Repr

/-- An open transaction at a home (R294 to R297): the snooped agents that have not answered, those whose NoData the
home holds until their write-back arrives, and the data that has been returned. `since` is its device time. -/
structure CohTxn where
  line : Nat
  requester : Nat
  req : CohReq
  kind : SnoopKind
  waiting : List Nat
  held : List Nat := []
  data : Option (List Byte × Bool) := none
  since : Nat := 0
deriving DecidableEq, Repr

/-- A request that waits at its home until the transaction on its line, or the write-back of its sender, has ended (R294,
R295). Agent 255 is a cacheless one. `since` is its device time. -/
structure CohWait where
  agent : Nat
  line : Nat
  req : CohReq
  since : Nat := 0
deriving DecidableEq, Repr

/-- A snoop response on its way to the home (R297): `none` is NoData. -/
structure SnoopResp where
  agent : Nat
  line : Nat
  data : Option (List Byte × Bool)
deriving DecidableEq, Repr

/-- A write-back that a core has sent and whose WbAck it has not received (R297). `cross` is the snoop that it met at the
home, while the core's NoData is still to come. -/
structure WriteBackMsg where
  agent : Nat
  line : Nat
  data : List Byte
  poison : Bool
  arrived : Bool := false
  cross : Option SnoopKind := none
deriving DecidableEq, Repr

/-- The coherence state of the module's Lines (R293 to R301). `caches` is keyed agent × 2^46 + line and
`dir` by line, where a line number is DPA bits [51:6]. -/
structure Coherence where
  caches : Tbl (Option CacheLine) := []
  dir : Tbl DirEntry := []
  txns : List CohTxn := []
  waits : List CohWait := []
  resps : List SnoopResp := []
  wbs : List WriteBackMsg := []
  /-- CleanEvict messages that crossed a snoop: agent and line. -/
  evicts : List (Nat × Nat) := []
deriving DecidableEq, Repr

end Sys2Proof.Machine
end

