-- ==== Sys2Proof/Machine/ServiceState.lean ====
section
/-!
DEFINITION. The state of the update engines (13_update_engine.md), of cores and decode blocks (15_server_cores.md),
of spurs and dies (16_spurs_and_dies.md) and of health, tests and surveys (17_integrity.md).
-/
namespace Sys2Proof.Machine

/-- An accepted layer update (R386, R387, R391). `row` is the next row, or touch-list position, once it runs; the
values of `layer_start` (R382) are kept while it runs. -/
structure Layer where
  words : List Word := []
  recDpa : Option Nat := none
  /-- A running fence waits for the access to its record (R282). -/
  fenced : Bool := false
  running : Bool := false
  row : Nat := 0
  eta : Nat := 0
  t : Nat := 0
  cn : List Nat := []
  d : Nat := 0
  etaL : Nat := 0
  keep : Nat := 0
  sat : Nat := 0
  flush : Nat := 0
  anyNan : Bool := false
deriving DecidableEq, Repr

/-- The states of a Line's step fence (R393). -/
inductive FenceState where
  | closed | open_ | closing
deriving DecidableEq, Repr

/-- What a core is doing (R426). -/
inductive CoreMode where
  | off | run | wfi | halted
deriving DecidableEq, Repr

/-- A hart (R408 to R413) keyed by hart ID: its mode, privilege (3 M, 1 S, 0 U), program counter, general registers,
floating-point registers of 64 bits, vector registers of 256 bits (R408), CSRs with fcsr at 0x003, the LR reservation by line,
and the pending interrupt identities of its IMSIC files keyed file × 2,048 + identity, where file 0 is M-level,
1 is S-level and 1 + g is guest file g (R416). -/
structure Core where
  mode : CoreMode := .off
  priv : Nat := 3
  pc : Nat := 0
  regs : Tbl Word := []
  fregs : Tbl Word := []
  vregs : Tbl Nat := []
  csrs : Tbl Word := []
  reservation : Option Nat := none
  imsic : Tbl Bool := []
deriving DecidableEq, Repr

/-- An accepted decode job (R421). -/
structure DecodeJob where
  words : List Word := []
  running : Bool := false
deriving DecidableEq, Repr

/-- The states of a spur (R445). -/
inductive SpurState where
  | off | training | up | half | failed | refused
deriving DecidableEq, Repr

/-- One direction of a spur: its two spares, the lane freed last and the step in progress (R430, R437, R441). -/
structure SpurDir where
  spare0 : Option Nat := some 32
  spare1 : Option Nat := some 33
  lastFreed : Nat := 33
  /-- The lane that a step of R437 has freed. -/
  calLane : Option Nat := none
  half : Bool := false
deriving DecidableEq, Repr

/-- A spur (R428 to R445). Tables are keyed 0 for A→B and 1 for B→A. -/
structure Spur where
  st : SpurState := .off
  ver : Nat := 0
  ab : SpurDir := {}
  ba : SpurDir := {}
  /-- Next sequence expected, by direction. -/
  rxSeq : Tbl Nat := []
  /-- The ACK last received for flits of a direction (R431). -/
  acked : Tbl Nat := []
  /-- The receiver of a direction has sent NAK and awaits the resend. -/
  nak : Tbl Bool := []
  /-- Flits in the receiver's buffers, by 2 × direction for S and B and one more for E (R432). -/
  buffered : Tbl Nat := []
  /-- Failed attempts of the retrain that runs (R442), and whether it tests retired lanes again (R441). -/
  attempts : Nat := 0
  retest : Bool := false
deriving DecidableEq, Repr

/-- The states of HUB_DIE_INV.STATE (R444). -/
inductive DieState where
  | ok | absent | failed | excluded
deriving DecidableEq, Repr

/-- A die of the inventory (R444), as its identity ROM gives it. -/
structure Die where
  st : DieState := .ok
  type : Nat := 0
  rev : Nat := 0
  spurMin : Nat := 0
  spurMax : Nat := 0
  coh : Nat := 0
  rail : Nat := 0
  ucode : Nat := 0
  seat : Nat := 0
  hubMin : Nat := 0
deriving DecidableEq, Repr

/-- The health states of grids and cores (R456). -/
inductive HealthState where
  | healthy | suspect | retired
deriving DecidableEq, Repr

/-- A health record of non-volatile memory (R140, R456). `testedAt` is when the last test completed, `passes` the
consecutive passes since entry to SUSPECT and `mmas` the MMAs counted for shadowing (R462). -/
structure Health where
  st : HealthState := .healthy
  cause : Nat := 0
  mismatches : Nat := 0
  tests : Nat := 0
  testedAt : Nat := 0
  passes : Nat := 0
  mmas : Nat := 0
  /-- The tile that was due has not been shadowed, and the next one takes its place. -/
  shadowOwed : Bool := false
  /-- A test of it is due (R458). -/
  due : Bool := false
  /-- A bound core that is to give its place to the siding core (R464). -/
  leaving : Bool := false
  /-- Its fault was found while its basin was in APPLYING, and is acted on after it (R76). -/
  deferred : Bool := false
  /-- As a spare, the grid slot on which its shadow computation found a mismatch. -/
  blames : Option Nat := none
deriving DecidableEq, Repr

/-- A running test (R459), keyed as the unit's health record: the spare slot that stands in for a grid. -/
structure RunningTest where
  standIn : Option Nat := none
deriving DecidableEq, Repr

/-- A survey operation that runs (R465, R467, R471): OP of HUB_SURVEY_CTL, and where its pack comes from. -/
structure SurveyOp where
  op : Nat
  addr : Nat
  len : Nat
  slot : Nat
  /-- A pack that PLDM has transferred (R522), instead of one in host memory. -/
  pack : Option (List Byte) := none
deriving DecidableEq, Repr

end Sys2Proof.Machine
end

