-- ==== Sys2Proof/Machine/LineState.lean ====
section
/-!
DEFINITION. The state that a Line holds as a whole (01_architecture.md, R24 to R33), and the messages that the module
sends.
-/
namespace Sys2Proof.Machine

/-- The states of LN_STATUS.STATE (R26), but for ABSORBED, which a member's function reads (R20). -/
inductive LnState where
  | off | stopped | starting | running | stopping | failed | applying
deriving DecidableEq, Repr

/-- A job's place in the ended set and what ended it are in registers; the set itself is keyed by tag (R455, R468). -/
structure Line where
  st : LnState := .off
  /-- Sleep state S0 to S3 (R496). -/
  sleep : Nat := 0
  /-- The Line lock (R9). -/
  locked : Bool := false
  survive : Bool := true
  /-- LN_STATUS.CAUSE (R27). -/
  cause : Nat := 0
  /-- LN_STATUS.TT_GEN. -/
  ttGen : Nat := 0
  ended : Tbl Bool := []
  /-- Pending translation fences, the oldest first, and whether the oldest has begun (R282, R283). -/
  fences : List Fence := []
  fenceOn : Bool := false
  fencesIssued : Nat := 0
  fencesDone : Nat := 0
  stepFence : FenceState := .closed
  /-- Decode jobs by block, the oldest first (R423). -/
  decode : Tbl (List DecodeJob) := []
  /-- The Line has been idle for 1 ms (R239). -/
  idle : Bool := false
  /-- Device time since which the crystal's edges have found a RUNNING Line idle (R239). -/
  idleFrom : Option Nat := none
  /-- Device time since which they have found it sleep-idle (R497). -/
  sleepFrom : Option Nat := none
  /-- Work held until a sleep exit ends (R499, R500). -/
  waking : Bool := false
  /-- Telemetry: records since PERIOD was set (R525). -/
  telSeq : Nat := 0
deriving DecidableEq, Repr

/-- Messages and signals that the module sends outward. -/
inductive Msg where
  /-- An MSI-X vector of a function (R324). -/
  | msix (function vector : Nat)
  /-- The data of a host read, with the poisoned-TLP bit. -/
  | hostData (data : List Byte) (poison : Bool)
  /-- An Unsupported Request completion of a host request (R332, R487). -/
  | hostError
  /-- CXL.cache: a host snoop is answered as a miss (R304). -/
  | cxlMiss
  /-- The answer to a TDISP request of function `fn`: 1 LOCK_INTERFACE, 2 START_INTERFACE, 3 STOP_INTERFACE; `ok` is false
  for an error response (R486). -/
  | tdisp (fn request : Nat) (ok : Bool)
  /-- The answer to an IDE_KM request of function `fn` (R332). -/
  | ideKm (fn : Nat) (ok : Bool)
  /-- A control word on a rail port: a LANE_CMD with its lane and LANE_AT (R358, R359), kind 5 a NAK with the last
  sequence received in order, kind 6 a resend from a sequence (R340), or kind 7 the buffer places freed for a class
  (R339). -/
  | railCmd (port kind arg0 arg1 : Nat)
  /-- What a rail port announces as it trains: the fabric ID and the Line's leader, with the rail key (R346). -/
  | announce (port fid leader : Nat)
  /-- A flit handed to a rail port for sending, with its plain body (R342). -/
  | flit (port : Nat) (f : Flit)
  /-- A control word on a spur: kind and argument (R431, R437). -/
  | spurCmd (spur dir kind arg : Nat)
  /-- A coherence message to an agent (R294). -/
  | snoop (agent line kind : Nat)
  /-- An answer to a core's coherence request (R294). -/
  | cohData (agent line : Nat) (data : List Byte) (poison exclusive : Bool)
  | wbAck (agent line : Nat)
  /-- What a core's own access returns: the bytes of a load, the old value of an AMO, or the result of an SC (R296). -/
  | coreData (hart : Nat) (data : List Byte)
  /-- What a cacheless read returns (R295). -/
  | cacheless (line : Nat) (data : List Byte) (poison : Bool)
  /-- An SPDM message to a requester by its transport, 0 management bus, 1 PCIe VDM, 2 DOE (R484). -/
  | spdm (transport : Nat) (message : List Byte)
  /-- An I3C or SMBus response (R517, R518). -/
  | bus (data : List Byte)
  /-- An MCTP response on a binding: message type and body (R519). -/
  | mctp (binding type : Nat) (body : List Byte)
  /-- An I3C in-band interrupt or SMBALERT# (R517, R518). -/
  | attention
  /-- The THERM_TRIP# and PWR_GOOD pins (R576). -/
  | pin (name : String) (high : Bool)
deriving DecidableEq, Repr

end Sys2Proof.Machine
end

