-- ==== Sys2Proof/Machine/PondState.lean ====
section
/-!
DEFINITION. The state of a pond and of a grid slot (04_grid.md, 05_tile_programs.md, 06_vector_engine.md).
-/
namespace Sys2Proof.Machine

/-- An address-descriptor image of four words (R151). -/
structure Desc where
  w0 : Word := 0
  w1 : Word := 0
  w2 : Word := 0
  w3 : Word := 0
deriving DecidableEq, Repr

/-- A word of a sluice slot or tile buffer: 32 bits, a valid bit and the type bit I (R191, R196). -/
structure TileWord where
  code : BitVec 32 := 0
  valid : Bool := false
  isInt : Bool := false
deriving DecidableEq, Repr

/-- The contents of a tile buffer or slot: 4,096 words keyed i × 64 + j and one poison bit for each run of 16 words
(R191, R196). An unlisted word is +0, invalid and of type F; an unlisted run is not poisoned. -/
structure Tile where
  words : Tbl TileWord := []
  poison : Tbl Bool := []
deriving DecidableEq, Repr

/-- The states of a sluice slot (R192). -/
inductive SlotState where
  | free | filling | full | releasing
deriving DecidableEq, Repr

/-- A sluice slot (R191). `quad` is the quadrant of an MMAG tile that it holds. -/
structure Slot where
  st : SlotState := .free
  tile : Tile := {}
  ticket : Nat := 0
  ofmt : Nat := 0
  omx : Bool := false
  gang : Bool := false
  quad : Nat := 0
  /-- Sequence number of the release that has begun: reads before it are waited for (R192). -/
  relSeq : Nat := 0
deriving DecidableEq, Repr

/-- A running LOOP (R149): its body runs from `first` to `last`, with `left` passes still to begin. -/
structure LoopFrame where
  first : Nat
  last : Nat
  left : Nat
deriving DecidableEq, Repr

/-- A launch block (R177). -/
structure Launch where
  entry : Nat := 0
  asid : Nat := 0
  job : Nat := 0
  cls : Nat := 0
  doneEn : Bool := false
  recVa : Nat := 0
  doneCtr : Nat := 0
  args : List Word := []
deriving DecidableEq, Repr

/-- One operand element: its encoding and the E8M0 byte of its block. -/
structure OperandElem where
  code : Nat
  scale : Nat := 127
deriving DecidableEq, Repr

/-- A load in a feeder (R156). `elems` is keyed outer × 65,536 + k, where outer is the row of A or the column of B;
a position that is not listed is padding (R124, R154). -/
structure Load where
  seq : Nat := 0
  pc : Nat := 0
  fmt : Nat := 0
  ext : Nat := 0
  k : Nat := 0
  tb : Option Nat := none
  trans : Bool := false
  cvt : Bool := false
  ri : Nat := 0
  rj : Nat := 0
  ready : Bool := false
  elems : Tbl OperandElem := []
  poison : Bool := false
  sat : Nat := 0
  flush : Nat := 0
  /-- The status and address of a fault that the load met and that has not been detected yet (R185). -/
  fault : Option (Nat × Nat) := none
deriving DecidableEq, Repr

/-- A held ticket with what its MMA named (R161). -/
structure TicketInfo where
  ticket : Nat
  gang : Bool := false
  ofmt : Nat := 0
  omx : Bool := false
deriving DecidableEq, Repr

/-- A queued MMA or MMAG (R159) with its paired operands, its resolved preload, the slots it has claimed, by grid name,
and the grids whose slot is full. An MMAG stands in the queues of all four grids; only G0's holds its operands. -/
structure MmaOp where
  seq : Nat := 0
  pc : Nat := 0
  gang : Bool := false
  mode : Nat := 0
  pre : Nat := 0
  ptb : Nat := 0
  preTicket : Nat := 0
  preReady : Bool := false
  preTiles : List Tile := []
  ofmt : Nat := 0
  omx : Bool := false
  record : Bool := false
  ticket : Nat := 0
  a : Load := {}
  b : Load := {}
  started : Bool := false
  claimed : List Nat := []
  full : List Nat := []
  /-- Steps that GRD_STEPS has counted so far (R141). -/
  issued : Nat := 0
  sat : Nat := 0
  flush : Nat := 0
  poison : Bool := false
deriving DecidableEq, Repr

/-- Work placed in the vector, store or transfer-start queue, or posted as a release: the instruction with the
register and descriptor values it copied when it issued (R144). `ticket` is that of a slot source or of a release. An
LDT carries the tile that it has read, with its counts. -/
structure PondOp where
  seq : Nat := 0
  pc : Nat := 0
  insn : Word := 0
  desc : Desc := {}
  ticket : Option Nat := none
  x : Word := 0
  y : Word := 0
  tile : Tile := {}
  sat : Nat := 0
  flush : Nat := 0
deriving DecidableEq, Repr

/-- What the sequencer is doing (R189). -/
inductive PondMode where
  | idle | run | ending
deriving DecidableEq, Repr

/-- Why a running sequencer issues nothing. -/
inductive PondWait where
  | none
  | queueRoom
  | classes (mask : Nat)
  | drain
  | sync (ctr : Nat) (val : Nat)
deriving DecidableEq, Repr

/-- The ending of a running program and the sums that its completion record carries (R181, R184). -/
structure PondEnd where
  status : Nat := 0
  pc : Nat := 0
  code : Nat := 0
  faultVa : Nat := 0
  poison : Bool := false
  emptyAny : Bool := false
  sat : Nat := 0
  flush : Nat := 0
deriving DecidableEq, Repr

/-- A 64-byte granule that a program has stored to without a WAIT on STORES since (R145): what it held before each of
those stores, and what the last one left. -/
structure StaleGranule where
  olds : List (List Byte × Bool) := []
  last : List Byte × Bool := ([], false)
deriving DecidableEq, Repr

/-- A pond: the sequencer with its memories (R142), the engine queues (R143), the sluice (R191), the tile buffers
and the mask planes (R196). `planes` is keyed plane × 4,096 + position. `stale` is keyed by granule. -/
structure Pond where
  imem : Tbl Word := []
  pc : Nat := 0
  sregs : Tbl Word := []
  descs : Tbl Desc := []
  loops : List LoopFrame := []
  launches : List Launch := []
  nextTicket : Nat := 0
  held : List TicketInfo := []
  mode : PondMode := .idle
  wait : PondWait := .none
  waitFrom : Nat := 0
  startTime : Nat := 0
  cur : Launch := {}
  /-- The address of the completion record, where REC_VA is not 0 and translates (R180). -/
  recDpa : Option Nat := none
  /-- A running fence waits for the access to the record (R282). -/
  fenced : Bool := false
  seq : Nat := 0
  feedA : Tbl (List Load) := []
  feedB : Tbl (List Load) := []
  gridQ : Tbl (List MmaOp) := []
  vecQ : List PondOp := []
  storeQ : List PondOp := []
  xsQ : List PondOp := []
  posted : List PondOp := []
  tbs : Tbl Tile := []
  planes : Tbl Bool := []
  slots : Tbl Slot := []
  stale : Tbl StaleGranule := []
  fin : PondEnd := {}
  /-- PD_RUN_LIMIT has passed for the program (R162, R184). -/
  limitHit : Bool := false
  /-- The pending instruction-memory load: source, first index and count as they stood at GO (R190). -/
  imemLoad : Option (Nat × Nat × Nat) := none
  /-- Opcode and FUNC of the vector operation done last, and when (R213). -/
  vecLast : Option (Nat × Nat × Nat) := none
deriving DecidableEq, Repr

/-- The activity of a grid (R132, R133, R139). -/
inductive GridPhase where
  | idle
  | rampUp (stage : Nat)
  | active
  | rampDown (stage : Nat)
  | test
deriving DecidableEq, Repr

/-- A grid slot of a basin (R139): the activity, whether the last claim failed (HELD), a take-out request that waits
for the tile boundary (R135), whether the slot is out of service, and the code and ganging of the last MMA. -/
structure GridSlot where
  phase : GridPhase := .idle
  held : Bool := false
  takeOut : Bool := false
  testReq : Bool := false
  out : Bool := false
  /-- It gives its name to the group's spare when it comes to rest (R463). -/
  leave : Bool := false
  ganged : Bool := false
  lastMode : Nat := 0
deriving DecidableEq, Repr

end Sys2Proof.Machine
end

