-- ==== Sys2Proof/Machine/QueueState.lean ====
section
/-!
DEFINITION. The state of transfer channels (08_transfers.md) and of Apori queues and the host port (10_host_port.md).
-/
namespace Sys2Proof.Machine

/-- How a descriptor reached its channel (R246). -/
inductive XferSrc where
  | program (pond : Nat)
  | register
  | command
deriving DecidableEq, Repr

/-- A delivery sent to a remote window and not committed (R254, R352): the walk positions that it covers, and the status
and CHK of its ACK once that has come. -/
structure SentPart where
  number : Nat
  pos : Nat
  len : Nat
  ack : Option (Nat × Bool) := none
deriving DecidableEq, Repr

/-- A read of a remote source (R354): the walk position of its first byte, its address and length, and the answer. -/
structure FetchPart where
  number : Nat
  pos : Nat
  addr : Nat
  len : Nat
  data : Option (List Byte × Bool) := none
deriving DecidableEq, Repr

/-- An accepted transfer (R247, R249): the copied descriptor, the identity it runs under, the address its record is
written to, and its progress. `pos` is the linear walk position of the first byte not committed, `sentPos` that of the
first byte not sent to a remote window. -/
structure Xfer where
  words : List Word := []
  asid : Nat := 0
  job : Nat := 0
  cls : Nat := 0
  src : XferSrc := .register
  recDpa : Option Nat := none
  running : Bool := false
  pos : Nat := 0
  bytes : Nat := 0
  poison : Bool := false
  chk : Bool := false
  sentPos : Nat := 0
  sent : List SentPart := []
  fetch : List FetchPart := []
  /-- The RDONE add has been sent (R355). -/
  rdone : Bool := false
  /-- A running fence waits for the access to its record (R282). -/
  fenced : Bool := false
  /-- The status, SIDE and address with which it ends once the deliveries that it has sent are answered (R262). -/
  ending : Option (Nat × Nat × Nat) := none
deriving DecidableEq, Repr

/-- A transfer channel (R245): its accepted descriptors, the oldest first. -/
structure Channel where
  queue : List Xfer := []
deriving DecidableEq, Repr

/-- An arbiter of a shared resource (R43, R267, R316): the turns that S and B have left in the round, and 1 + the unit served
last in each class. -/
structure Arb where
  s : Nat := 0
  b : Nat := 0
  last : Tbl Nat := []
deriving DecidableEq, Repr

/-- The states of a submission queue (R326). -/
inductive QState where
  | off | active | parked | disabling
deriving DecidableEq, Repr

/-- An Apori command taken from its entries (R312). -/
structure ACmd where
  seq : Nat := 0
  entries : Nat := 1
  w0 : Word := 0
  w1 : Word := 0
  arg0 : Word := 0
  arg1 : Word := 0
  payload : List Byte := []
  /-- Device time of dispatch, for a command that waits. -/
  since : Nat := 0
  /-- MIRROR and XLAT_FENCE: the fence has been queued. -/
  fenced : Bool := false
  /-- SYNC_WAIT: the counter has reached the value (R170, R320). -/
  satisfied : Bool := false
  /-- It has completed, and its completion waits for a free slot (R324). -/
  done : Bool := false
  poison : Bool := false
  result : Word := 0
  /-- The status of a command that has completed, or that the fetch found bad (R319). -/
  status : Nat := 0
  /-- Device time at completion (R322). -/
  doneAt : Nat := 0
deriving DecidableEq, Repr

/-- A submission queue with the completion queue of the same number (R310, R311). -/
structure AQueue where
  st : QState := .off
  sqBase : Nat := 0
  sqSize : Nat := 0
  cls : Nat := 0
  cqBase : Nat := 0
  cqSize : Nat := 0
  cqid : Nat := 0
  vector : Nat := 0
  irqEn : Bool := false
  asid : Nat := 0
  /-- Expected sequence H and target T (R315). -/
  h : Nat := 0
  t : Nat := 0
  /-- The entry that is fetched again, at H or a continuation, and its re-fetches (R317). -/
  waiting : Option Nat := none
  refetch : Nat := 0
  /-- The queue was parked when it was disabled (R310). -/
  wasParked : Bool := false
  /-- The sequence up to which entries have been fetched, and those found valid that make up no visible command yet, by
  sequence (R316, R317). -/
  reach : Nat := 0
  kept : Tbl (List Byte) := []
  /-- Visible commands found valid and not yet dispatched, oldest first. -/
  fetched : List ACmd := []
  /-- Dispatched commands that have not completed. -/
  running : List ACmd := []
  /-- The completion queue: entries written since ENABLE and the last head the host wrote. -/
  cqWritten : Nat := 0
  cqHead : Nat := 0
  /-- The module's count of signals when the host last wrote this CQ's head doorbell (R324). -/
  headMark : Nat := 0
deriving DecidableEq, Repr

/-- The states of a TDISP interface (R332, R492). -/
inductive Tdisp where
  | unlocked | locked | run | error
deriving DecidableEq, Repr

/-- A CXL HDM decoder (R304); one of size 0 maps nothing. -/
structure HdmDecoder where
  host : Nat := 0
  size : Nat := 0
  dpa : Nat := 0
deriving DecidableEq, Repr

/-- The host port (R303 to R307, R328 to R332). Functions are numbered 0 to 8. -/
structure HostPort where
  attached : Bool := false
  cause : Nat := 0
  speed : Nat := 0
  width : Nat := 0
  cxl : Bool := false
  gen : Nat := 1
  /-- The next configuration of the link follows a detach (R329). -/
  detachedOnce : Bool := false
  /-- CLAIMED by function number (R330). -/
  claimed : Tbl Bool := []
  /-- BAR2 is sized 4 TiB, by function number (R306). -/
  bigBar : Tbl Bool := []
  /-- PF0's BAR2 is sized 2^(30 + n) bytes (R306). -/
  pf0Bar : Nat := 0
  /-- HDM decoders by number (R304). -/
  hdm : Tbl HdmDecoder := []
  /-- TDISP state by leader (R332). -/
  tdisp : Tbl Tdisp := []
  /-- What posted writes have replaced in host memory, the newest first: address, old bytes and old poison. They may still
  be on the link (R264, R328). -/
  posted : List (Nat × List Byte × Bool) := []
  /-- MSI-X messages signalled, and by function × 2,048 + vector the count at which the vector was signalled last (R324). -/
  signals : Nat := 0
  vectors : Tbl Nat := []
  /-- IDE streams with keys: the count of key programmings by function number, and by 9 that of the link stream (R332). -/
  ideKeys : Tbl Nat := []
  /-- Lines being cleared under R489: 1 at LOCK_INTERFACE, 2 at STOP_INTERFACE, 3 once the port has detached meanwhile.
  How often each Line has been cleared. -/
  clearing : Tbl Nat := []
  clears : Tbl Nat := []
deriving DecidableEq, Repr

end Sys2Proof.Machine
end

