-- ==== Sys2Proof/Machine/RailState.lean ====
section
/-!
DEFINITION. The state of rail ports and peer contexts (11_rail_fabric.md) and of the confluence units
(12_confluence.md).
-/
namespace Sys2Proof.Machine

/-- The states of a rail port (R364). -/
inductive PortState where
  | off | dark | training | up | half | refused | failed
deriving DecidableEq, Repr

/-- A recalibration step of one direction of a lane group (R358, R437). -/
inductive CalStep where
  | none
  | mirror (lane : Nat)
  | switching (lane at_ : Nat)
  | calibrating (lane : Nat)
deriving DecidableEq, Repr

/-- A pending lane change at a codeword (R338, R359). -/
inductive LaneChange where
  | none
  | retire (lane at_ : Nat)
  | half (at_ : Nat)
deriving DecidableEq, Repr

/-- One direction of a port: the physical lane that carries each data lane, the spare, and the step in progress. -/
structure LaneDir where
  /-- The lane whose data the spare carries or has taken, keyed by physical data lane. -/
  spare : Option Nat := some 8
  /-- The lane freed last, from which the rotation goes on. -/
  lastFreed : Nat := 8
  step : CalStep := .none
  change : LaneChange := .none
  halfRate : Bool := false
deriving DecidableEq, Repr

/-- A codeword that a port has sent and that carries a flit or a command (R337, R338). The slots hold their flits with the
stream's `waits` at that time. -/
structure TxCodeword where
  seq : Nat
  /-- ACK_SEQ, where ACK_VALID is 1. -/
  ack : Option Nat := none
  nak : Bool := false
  slotA : Option (Nat × Flit) := none
  slotB : Option (Nat × Flit) := none
  laneCmd : Nat := 0
  lane : Nat := 0
  laneAt : Nat := 0
  creditCls : Nat := 0
  credits : Nat := 0
deriving DecidableEq, Repr

/-- The transmit direction of a port (R339, R340). -/
structure RailStream where
  /-- The next flit slot, modulo 8,192: slot A or B of codeword `slot` / 2. -/
  slot : Nat := 0
  /-- How often the model has let empty slots pass: the argument of the free values. -/
  waits : Nat := 0
  /-- The replay buffer, the newest codeword first: those of the last 2,048 that carry something. -/
  replay : List TxCodeword := []
deriving DecidableEq, Repr

/-- A rail port (R334 to R341, R358 to R364). -/
structure Port where
  st : PortState := .off
  legacy : Bool := false
  trainResult : Nat := 0
  farFid : Nat := 0
  farPort : Nat := 0
  farLine : Nat := 0
  tx : LaneDir := {}
  rx : LaneDir := {}
  /-- The next codeword sequence expected (R338). -/
  cwRx : Nat := 0
  /-- A codeword has been received since the port trained: ACK_SEQ is meaningful (R338). -/
  heard : Bool := false
  /-- What this end sends (R338 to R340). -/
  stream : RailStream := {}
  /-- The last codeword that the far end acknowledged. -/
  cwAcked : Nat := 4095
  /-- The receiver has lost a codeword and discards until it is resent (R340). -/
  nakSent : Bool := false
  /-- Credits granted by the far end for S, E and B (R339), keyed by class. -/
  credits : Tbl Nat := []
  /-- Flits handed to the port that wait for a slot, in the order they were handed (R339). -/
  txq : List Flit := []
  /-- Flits received and waiting to be processed. -/
  rxq : List Flit := []
  /-- E messages counted in RAIL_E_LATE whose last flit has not arrived: context and delivery (R357). -/
  late : List (Nat × Nat) := []
  quiesce : Bool := false
  /-- The training in progress tests retired lanes again (R359). -/
  retest : Bool := false
deriving DecidableEq, Repr

/-- The states of a peer context (R363). -/
inductive CtxState where
  | off | opening | open_ | closing | down
deriving DecidableEq, Repr

/-- A delivery that has been sent and not acknowledged (R353), with the channel (basin × 16 + channel) it belongs to. -/
structure SentDelivery where
  number : Nat
  port : Nat
  isCounter : Bool := false
  isRead : Bool := false
  chan : Nat := 0
  at_ : Nat := 0
  /-- What is sent again on another path (R353): flit type, class, INFO, and the bodies with their addresses. -/
  type : Nat := 1
  cls : Nat := 0
  info : Nat := 0
  bodies : List (Nat × List Byte) := []
deriving DecidableEq, Repr

/-- A delivery that is arriving in several flits (R342, R352). -/
structure Arriving where
  number : Nat
  type : Nat
  /-- ADDR and body of the flits that have come, keyed by OFFSET. -/
  pieces : Tbl (Nat × List Byte) := []
  /-- Of the flit with LAST: the delivery's length and INFO. -/
  last : Option (Nat × Nat) := none
deriving DecidableEq, Repr

/-- A peer context of a Line (R348 to R353). `keys` counts the key derivations since OPEN. -/
structure Ctx where
  st : CtxState := .off
  cause : Nat := 0
  remoteEp : Nat := 0
  remoteCtx : Nat := 0
  portMask : Nat := 0
  pathWait : Nat := 100
  epoch : Bool := false
  /-- The old epoch is still accepted (R350). -/
  oldEpoch : Bool := false
  keyed : Bool := false
  sentHandshake : Bool := false
  gotHandshake : Bool := false
  rekeying : Bool := false
  txSeq : Nat := 0
  rxSeq : Nat := 0
  nextDelivery : Nat := 0
  sent : List SentDelivery := []
  /-- Delivery numbers committed within the window, with the answer each was given (R353). -/
  committed : Tbl Nat := []
  arriving : List Arriving := []
  demoted : Nat := 0
  /-- Each granted port's token bucket (R356), keyed by Line port: what is missing from it in 1/800 byte, and when that
  was so. -/
  buckets : Tbl (Nat × Nat) := []
  /-- The sender of a HANDSHAKE that came before OPEN (R349): endpoint and context. -/
  hsFrom : Option (Nat × Nat) := none
  /-- Device time of the first flit of the new epoch since the last rekey (R350). -/
  newSeen : Option Nat := none
  /-- Device time since which it has had no path (R351). -/
  noPathFrom : Option Nat := none
  openedAt : Nat := 0
  keyTime : Nat := 0
deriving DecidableEq, Repr

/-- The states of a reduction entry (R366). -/
inductive CflState where
  | idle | arming | armed | finishing | done | aborted
deriving DecidableEq, Repr

/-- A delivery that has arrived while its entry is ARMING and waits (R371). -/
structure CflWaiting where
  addr : Nat
  gen : Nat
  data : List Byte
  poison : Bool
  srcEp : Nat
  ctx : Nat
  number : Nat
  port : Nat
deriving DecidableEq, Repr

/-- A reduction entry in the unit (R365 to R374). `words` is the copied entry; `acc` holds the 80-bit accumulators of
the elements, `rowAcc` and `colAcc` those of the statistics; `nan` flags are keyed by element, and the row and column
flags beside them. `count` is the contributions of each block. -/
structure CflEntry where
  st : CflState := .idle
  words : List Word := []
  acc : Tbl Int := []
  nan : Tbl Bool := []
  count : Tbl Nat := []
  poisoned : Tbl Bool := []
  seeded : Bool := false
  seedOpen : Bool := false
  rowAcc : Tbl Int := []
  colAcc : Tbl Int := []
  rowNan : Tbl Bool := []
  colNan : Tbl Bool := []
  rowPoison : Tbl Bool := []
  colPoison : Tbl Bool := []
  outs : Tbl Nat := []
  sat : Nat := 0
  flush : Nat := 0
  blocks : Nat := 0
  anyPoison : Bool := false
  anyNan : Bool := false
  waiting : List CflWaiting := []
deriving DecidableEq, Repr

end Sys2Proof.Machine
end

