-- ==== Sys2Proof/Machine/State.lean ====
section
/-!
DEFINITION. The state of the module, and the reasons for which a command can stop.
The module is modelled as a block: it takes commands (operations and events of opcode_table.json) from a queue.
-/
namespace Sys2Proof.Machine

/-- The cases that R557 calls undefined, as far as a command of the table can meet them. -/
inductive Undefined where
  | registerAccess | reservedWrite | rampSeven | tableSize | guestAtMachineLevel
  | reservedRange | reservedInsnField | misalignedScalar | branchIntoLoop | descriptorShape | elementFormat
  | formatPair | mxBlocks | preThree | mxStoreIndex | slotSourceGanged | vectorFunc | compareTarget | reduceFormat
  | launchClass | syncCounterWrite | reservedDescField | transferOp | transferOverlap | queueClass | accumulatorWrite
  | entryOverlap | layerRange | layerClass | layerOverlap | touchList | decodeFields | decodeOverlap | decodeWrite
  | fabricIdTwin
deriving DecidableEq, Repr

/-- How far an undefined outcome may reach (R554, R555): what it may change is `Safety.Bounded`. -/
inductive Scope where
  | line | module | system
deriving DecidableEq, Repr

/-- Why a command stops with a fault. -/
inductive Fault where
  /-- The command meets a case that R557 lists as undefined, of the scope given: the manual gives it no effect, and bounds
  what it may change by the scope (R552 to R556). Raised by the meanings through `runU`. Safe: the model stops where the
  hardware may do anything within the scope. -/
  | undefinedCase (c : Undefined) (scope : Scope)
deriving DecidableEq, Repr

/-- Why a command is refused. -/
inductive Refusal where
  /-- The command has no meaning in this model yet. Raised by the arms of `exec`. Safe. -/
  | notModelled (mnemonic : String)
deriving DecidableEq, Repr

/-- The state of the module. Tables are keyed by unit number, as each field's note says; an unlisted unit is in its
default state. -/
structure State where
  /-- The commands that wait, the first in front. -/
  pending : List Instr := []
  /-- Device time in ns (R513). -/
  time : Nat := 0
  vault : Vault := {}
  /-- The model's own counter of free values taken (Config.freeNat); not the manual's. -/
  freeCtr : Nat := 0
  /-- The model's own note, within one command, that a case of R557 was met, and of which scope; not the manual's. -/
  misuse : Option (Undefined × Scope) := none
  /-- Stored registers, by `Ops.regKey`; an unlisted register reads its reset value. -/
  regs : Tbl Word := []
  /-- Messages and signals sent, the newest first. -/
  out : List Msg := []
  /-- LPDDR5X and Reservoir bytes by DPA (R34); an unlisted byte is 0. -/
  mem : List Host.Cell := []
  /-- Poison by 64-byte granule number (R450). -/
  poison : Tbl Bool := []
  /-- Bit errors that nothing has read yet, by 64-byte granule number (R218, R227): 1 where every codeword of the granule
  has at most one flipped bit, which its SECDED code corrects, 2 where one has two, which it detects. -/
  errs : Tbl Nat := []
  /-- By 4 KiB block number, the stored check word XOR the CRC-32C of the block's bytes (R446, R447). -/
  chkDiff : Tbl Nat := []
  /-- Host memory bytes by host address; an unlisted byte is 0. -/
  hostMem : List Host.Cell := []
  /-- Poison of host memory, by 64-byte granule number. -/
  hostPoison : Tbl Bool := []
  tt : Timetable := {}
  ttLoad : Option TtLoad := none
  /-- The Line that each basin belongs to, by its leader; 8 where it belongs to none (OFF). -/
  leaders : Tbl Nat := []
  /-- Lines by leader. -/
  lines : Tbl Line := []
  /-- Ponds by basin × 8 + pond. -/
  ponds : Tbl Pond := []
  /-- Grid slots by basin × 34 + slot. -/
  grids : Tbl GridSlot := []
  /-- What serves each grid name and logical core: by basin × 64 + name the slot (R58, R136), and by basin × 64 + 32 +
  logical core the physical core (R59, R412); an unlisted one is unserved and reads 34. -/
  bindings : Tbl Nat := []
  basinMem : Tbl BasinMem := []
  basinPower : Tbl BasinPower := []
  /-- Cached translations of each basin's units. -/
  tlbs : Tbl (List TlbEntry) := []
  coh : Coherence := {}
  /-- Transfer channels by basin × 16 + channel. -/
  chans : Tbl Channel := []
  /-- Arbiters: by basin that of its transfer engine, by 8 + leader that of its Line's submission queues, by 16 + port that
  of a rail port, by 48 + block that of a decode block, and by 64 + port that of a rail port's receiver. -/
  arbs : Tbl Arb := []
  /-- Apori queues by leader × 4,096 + number. -/
  queues : Tbl AQueue := []
  host : HostPort := {}
  /-- Rail ports 0 to 31. -/
  ports : Tbl Port := []
  /-- Peer contexts by leader × 4,096 + number. -/
  ctxs : Tbl Ctx := []
  /-- Reduction entries by leader × 256 + entry. -/
  cfls : Tbl CflEntry := []
  /-- Layer updates accepted by each basin's update engine, the oldest first. -/
  layers : Tbl (List Layer) := []
  /-- Harts by hart ID. -/
  harts : Tbl Core := []
  spurs : Tbl Spur := []
  dies : Tbl Die := []
  /-- Health records by KIND × 2^24 + UNIT, as HUB_UNIT_CMD encodes them (R470). -/
  health : Tbl Health := []
  /-- Running tests (R458, R459), by the key of the unit's health record. -/
  tests : Tbl (Option RunningTest) := []
  /-- 1 + the physical core whose place a basin's siding core has taken since the last apply, by basin (R464). -/
  sidings : Tbl Nat := []
  survey : Option SurveyOp := none
  flash : Flash := {}
  nvm : Nvm := {}
  sec : Security := {}
  /-- SPDM connections by transport, and sessions (R484). -/
  spdm : Tbl SpdmConn := []
  sessions : List SpdmSession := []
  boot : Boot := {}
  mgmt : Mgmt := {}
  pldm : Pldm := {}
  log : Logbook := {}
  power : Power := {}
  /-- Tenant values V (R491), by register key, and the exact values at the last boundary. -/
  tenant : Tbl Nat := []
  tenantPrev : Tbl Nat := []
deriving DecidableEq, Repr

/-- The module right after a power-on module reset, before its boot order (R534, R536): every Line OFF, HUB_BOOT_STATUS
in stage ALWAYS_ON with cause 0, memory zero, and nothing in flight. Every unit starts HEALTHY with CAUSE 0: which units the
manufacturing record of R140 marks is not stated (DESIGN CHOICE; notes/assumptions). -/
def State.reset : State := {}

end Sys2Proof.Machine
end

