-- ==== Sys2Proof/Machine/Regs.lean ====
section
/-!
DEFINITION. Where the stored registers lie: offsets by the chapter that names them, and the key of a register in
`State.regs`. A register of a basin is keyed by its basin with the offset it has in place 0 of a Line, so that it stays
with its basin when Lines are joined (R137).
-/
namespace Sys2Proof.Machine

/-- The key of a hub register at a PF0 BAR0 offset. -/
def hubKey (off : Nat) : Nat := off

/-- The key of a register that a Line's leader holds, at its Line BAR0 offset. -/
def lnKey (l off : Nat) : Nat := (l + 1) * 2 ^ 28 + off

/-- The key of a basin's register, by its Line BAR0 offset in place 0. -/
def bKey (b off : Nat) : Nat := (b + 16) * 2 ^ 28 + off

/-- A register of pond `u` = basin × 8 + pond (R188). -/
def pdKey (u off : Nat) : Nat := bKey (u / 8) (0x200000 + u % 8 * 0x8000 + off)

/-- A register of grid slot `g` = basin × 34 + slot (R137). -/
def grdKey (g off : Nat) : Nat :=
  let s := g % 34
  let p := if s < 32 then s / 4 else (s - 32) * 4
  let q := if s < 32 then s % 4 else 4
  bKey (g / 34) (0x204000 + p * 0x8000 + q * 0x400 + off)

/-- A register of transfer channel `c` = basin × 16 + channel (R269). -/
def chKey (c off : Nat) : Nat := bKey (c / 16) (0x401000 + c % 16 * 0x40 + off)

/-- A register of rail port `p` (R362). -/
def portKey (p off : Nat) : Nat := bKey (p / 4) (0x801000 + p % 4 * 0x100 + off)

/-- A register of spur `s` (R445). -/
def spurKey (s off : Nat) : Nat := hubKey (0x04000000 + s * 0x40 + off)

/-- A register of the LPDDR5X block (R241). -/
def memKey (b off : Nat) : Nat := bKey b (0xC00000 + off)
/-- A register of the Reservoir block (R241). -/
def rsvKey (b off : Nat) : Nat := bKey b (0xC20000 + off)
/-- A register of the transfer engine (R269). -/
def xeKey (b off : Nat) : Nat := bKey b (0x400000 + off)
/-- A register of a basin's update engine (R401). -/
def updKey (b off : Nat) : Nat := bKey b (0x600000 + off)
/-- A register of a basin's confluence unit (R379). -/
def cflKey (b off : Nat) : Nat := bKey b (0x620000 + off)
/-- A register of the translation and coherence block (R302). -/
def xlKey (l off : Nat) : Nat := lnKey l (0xA00000 + off)
/-- A register of a Line's telemetry block (R523). -/
def telKey (l off : Nat) : Nat := lnKey l (0xE00000 + off)
/-- A register of the security block (R492). -/
def secKey (off : Nat) : Nat := hubKey (0x02000000 + off)
/-- A Timetable register (R69). -/
def ttKey (off : Nat) : Nat := hubKey (0x01000000 + off)
/-- A Logbook register (R531). -/
def logKey (off : Nat) : Nat := hubKey (0x03000000 + off)

/-- The reset value of a stored register (R11). Registers whose Reset column reads 0 or whose value hardware loads later
are 0 here. -/
def regReset (k : Nat) : Word :=
  let sp := k / 2 ^ 28
  let off := k % 2 ^ 28
  if sp = 0 then
    if off = 0x01000008 then 0xFF0000
    else if 0x04000000 ≤ off ∧ off < 0x04000680 ∧ off % 0x40 = 0x20 then 10
    else 0
  else if 16 ≤ sp then
    if off = 0xC00030 then 24
    else if off = 0xC20020 then 60
    else if 0x801000 ≤ off ∧ off < 0x801400 ∧ off % 0x100 = 0x18 then 10
    else 0
  else 0

end Sys2Proof.Machine
end

