-- ==== Sys2Proof/Machine/Ops.lean ====
section
/-!
DEFINITION. The named operations over the state that every meaning is written with: outcomes, free values, registers,
tables of units, messages, and membership of Lines.
-/
namespace Sys2Proof.Machine

/-- What a command answers. -/
abbrev Out := Host.Outcome State Fault Refusal

/-- The queue, device time, the vault and the misuse note as they are in `s`. -/
def State.keeping (t s : State) : State :=
  { t with pending := s.pending, time := s.time, vault := s.vault, misuse := s.misuse }

/-- The state with the misuse note clear. -/
def State.clean (s : State) : State := { s with misuse := none }

/-- Replaces the vault. -/
def State.setVault (s : State) (v : Vault) : State := { s with vault := v }

/-- A command's effect, on everything but the queue, device time and the vault. -/
def run (f : State → State) (s : State) : Out := .next ((f s).keeping s)

/-- A command that can meet a case which R557 lists as undefined: it then stops. -/
def runU (f : State → State) (s : State) : Out :=
  match (f s.clean).misuse with
  | some c => .fault (.undefinedCase c.1 c.2)
  | none => .next ((f s.clean).keeping s)

/-- A command that also changes the vault, by the function `v`. -/
def runVault (v : State → Vault) (f : State → State) (s : State) : Out := .next (((f s).keeping s).setVault (v s))

/-- A command that also changes the vault and can meet a case of R557. -/
def runVaultU (v : State → Vault) (f : State → State) (s : State) : Out :=
  match (f s.clean).misuse with
  | some c => .fault (.undefinedCase c.1 c.2)
  | none => .next (((f s.clean).keeping s).setVault (v s))

/-- Notes that a case of R557 was met, of a scope, unless one already was. -/
def State.undefAt (s : State) (c : Undefined) (scope : Scope) : State :=
  { s with misuse := match s.misuse with | none => some (c, scope) | some d => some d }

/-- Notes that a case of Line scope was met: every case of R557 is, unless the table gives another. -/
def State.undef (s : State) (c : Undefined) : State := s.undefAt c .line

/-- The scope of a case met by an access to PF0's BAR0: the two cases of register accesses have Module scope there
(R557). -/
def pf0Case : Undefined × Scope → Undefined × Scope
  | (.registerAccess, _) => (.registerAccess, .module)
  | (.reservedWrite, _) => (.reservedWrite, .module)
  | c => c

/-- What an access to PF0's BAR0 notes. -/
def State.atPf0 (s : State) : State := { s with misuse := s.misuse.map pf0Case }

/-- What an access by a path notes. -/
def State.noted (s : State) (via : Via) : State := if via = .pf0 then s.atPf0 else s

/-- Notes an undefined case where a condition holds. -/
def State.undefIf (s : State) (b : Bool) (c : Undefined) : State := if b then s.undef c else s

/-- The next free value. -/
def State.free (s : State) : Nat := Config.freeNat s.freeCtr

/-- Moves on to another free value. -/
def State.bump (s : State) : State := { s with freeCtr := s.freeCtr + 1 }

/-- An address or a stride that its rule gives an alignment of `n`. Where it is misaligned and no rule says what happens,
its low bits are a free value (DESIGN CHOICE; notes/assumptions). -/
def State.lowBits (s : State) (a n : Nat) : Nat × State :=
  if a % n = 0 then (a, s) else (a / n * n + s.free % n, s.bump)

/-- The words of a descriptor with the low bits of the fields `(word, lowest bit, length, alignment)` so. -/
def State.lowBitsOf (s : State) (ws : List Word) (fields : List (Nat × Nat × Nat × Nat)) : List Word × State :=
  fields.foldl (fun r f =>
    let w := r.1.getD f.1 0
    if w.field f.2.1 f.2.2.1 % f.2.2.2 = 0 then r
    else
      let (a, s) := r.2.lowBits (w.field f.2.1 f.2.2.1) f.2.2.2
      (r.1.set f.1 (w.withField f.2.1 f.2.2.1 a), s)) (ws, s)

/-- Sends a message. -/
def State.emit (s : State) (m : Msg) : State := { s with out := m :: s.out }

/-! Registers. -/

/-- A stored register's value. -/
def State.reg (s : State) (k : Nat) : Word := tblGet (regReset k) s.regs k

/-- Sets a stored register. -/
def State.setReg (s : State) (k : Nat) (v : Word) : State := { s with regs := tblSet (regReset k) s.regs k v }

/-- A field of a stored register. -/
def State.fld (s : State) (k lo len : Nat) : Nat := (s.reg k).field lo len

/-- A bit of a stored register. -/
def State.flag (s : State) (k i : Nat) : Bool := (s.reg k).flag i

/-- Sets a field of a stored register. -/
def State.setFld (s : State) (k lo len v : Nat) : State := s.setReg k ((s.reg k).withField lo len v)

/-- Sets a bit of a stored register. -/
def State.setFlag (s : State) (k i : Nat) (b : Bool) : State := s.setFld k i 1 (ofBool b)

/-- Adds to a 64-bit counter register that stops at all ones. -/
def State.count (s : State) (k n : Nat) : State := s.setReg k (BitVec.ofNat 64 (satAdd64 (s.reg k).toNat n))

/-- Adds to a counter field that stops at all ones. -/
def State.countFld (s : State) (k lo len n : Nat) : State := s.setFld k lo len (satAdd len (s.fld k lo len) n)

/-- Removes the stored registers whose key satisfies `p`: they read their reset values. -/
def State.dropRegs (s : State) (p : Nat → Bool) : State := { s with regs := s.regs.filter (fun e => !p e.1) }

/-! Tables of units. -/

/-- Replaces the entry at `k` by its image under `f`. -/
def tblMod {α : Type} [DecidableEq α] (d : α) (t : Tbl α) (k : Nat) (f : α → α) : Tbl α := tblSet d t k (f (tblGet d t k))

def State.line (s : State) (l : Nat) : Line := tblGet {} s.lines l
def State.modLine (s : State) (l : Nat) (f : Line → Line) : State := { s with lines := tblMod {} s.lines l f }
def State.pond (s : State) (u : Nat) : Pond := tblGet {} s.ponds u
def State.modPond (s : State) (u : Nat) (f : Pond → Pond) : State := { s with ponds := tblMod {} s.ponds u f }
def State.grid (s : State) (g : Nat) : GridSlot := tblGet {} s.grids g
def State.modGrid (s : State) (g : Nat) (f : GridSlot → GridSlot) : State := { s with grids := tblMod {} s.grids g f }
def State.bmem (s : State) (b : Nat) : BasinMem := tblGet {} s.basinMem b
def State.modBmem (s : State) (b : Nat) (f : BasinMem → BasinMem) : State :=
  { s with basinMem := tblMod {} s.basinMem b f }
def State.bpow (s : State) (b : Nat) : BasinPower := tblGet {} s.basinPower b
def State.modBpow (s : State) (b : Nat) (f : BasinPower → BasinPower) : State :=
  { s with basinPower := tblMod {} s.basinPower b f }
def State.chan (s : State) (c : Nat) : Channel := tblGet {} s.chans c
def State.modChan (s : State) (c : Nat) (f : Channel → Channel) : State := { s with chans := tblMod {} s.chans c f }
def State.queue (s : State) (q : Nat) : AQueue := tblGet {} s.queues q
def State.modQueue (s : State) (q : Nat) (f : AQueue → AQueue) : State := { s with queues := tblMod {} s.queues q f }
def State.port (s : State) (p : Nat) : Port := tblGet {} s.ports p
def State.modPort (s : State) (p : Nat) (f : Port → Port) : State := { s with ports := tblMod {} s.ports p f }
def State.ctx (s : State) (c : Nat) : Ctx := tblGet {} s.ctxs c
def State.modCtx (s : State) (c : Nat) (f : Ctx → Ctx) : State := { s with ctxs := tblMod {} s.ctxs c f }
def State.cfl (s : State) (e : Nat) : CflEntry := tblGet {} s.cfls e
def State.modCfl (s : State) (e : Nat) (f : CflEntry → CflEntry) : State := { s with cfls := tblMod {} s.cfls e f }
def State.layerQ (s : State) (b : Nat) : List Layer := tblGet [] s.layers b
def State.setLayerQ (s : State) (b : Nat) (q : List Layer) : State := { s with layers := tblSet [] s.layers b q }
def State.hart (s : State) (h : Nat) : Core := tblGet {} s.harts h
def State.modHart (s : State) (h : Nat) (f : Core → Core) : State := { s with harts := tblMod {} s.harts h f }
def State.spur (s : State) (p : Nat) : Spur := tblGet {} s.spurs p
def State.modSpur (s : State) (p : Nat) (f : Spur → Spur) : State := { s with spurs := tblMod {} s.spurs p f }
def State.die (s : State) (d : Nat) : Die := tblGet {} s.dies d
def State.modDie (s : State) (d : Nat) (f : Die → Die) : State := { s with dies := tblMod {} s.dies d f }
def State.healthOf (s : State) (k : Nat) : Health := tblGet {} s.health k
def State.modHealth (s : State) (k : Nat) (f : Health → Health) : State := { s with health := tblMod {} s.health k f }
def State.tlb (s : State) (b : Nat) : List TlbEntry := tblGet [] s.tlbs b
def State.setTlb (s : State) (b : Nat) (t : List TlbEntry) : State := { s with tlbs := tblSet [] s.tlbs b t }

/-- The key of a health record (R470). -/
def healthKey (kind unit : Nat) : Nat := kind * 2 ^ 24 + unit

/-- Health record of grid slot `slot` of basin `b` (R470). -/
def gridHealth (b slot : Nat) : Nat := healthKey 0 (b + slot * 8)

/-- Health record of physical core `j` of basin `b`'s quadrant. -/
def coreHealth (b j : Nat) : Nat := healthKey 1 (b / 4 + (b % 4 * 17 + j) * 2)

/-- The unit is RETIRED. -/
def State.retired (s : State) (k : Nat) : Bool := (s.healthOf k).st == .retired

/-- The time that counts towards SINCE_TEST: device time and the operation before the last power-on (R140). -/
def State.aged (s : State) : Nat := s.nvm.agedNs + s.time

/-! Lines and basins. -/

/-- The leader of the Line that basin `b` belongs to, or 8. -/
def State.leaderOf (s : State) (b : Nat) : Nat := tblGet 8 s.leaders b

/-- The basins of the Line led by `l`, in ascending order. -/
def State.members (s : State) (l : Nat) : List Nat := (List.range 8).filter fun b => s.leaderOf b == l

/-- Bit `b` set for every basin of the Line led by `l` (LN_STATUS.MEMBERS). -/
def State.memberMask (s : State) (l : Nat) : Nat := (s.members l).foldl (fun m b => m + 2 ^ b) 0

/-- The function of basin `n` belongs to a Line's leader. -/
def State.isLeader (s : State) (n : Nat) : Bool := s.leaderOf n == n

/-- The state of the Line that basin `b` belongs to. -/
def State.lineStOf (s : State) (b : Nat) : LnState := if s.leaderOf b < 8 then (s.line (s.leaderOf b)).st else .off

/-- The Line is in a state from which it may begin STOPPING (R29). -/
def LnState.isUp : LnState → Bool
  | .starting | .running => true
  | _ => false

/-- Work already dispatched goes on (R31). -/
def LnState.works : LnState → Bool
  | .running | .stopping => true
  | _ => false

/-- The code of LN_STATUS.STATE (R26). -/
def LnState.code : LnState → Nat
  | .off => 0 | .stopped => 1 | .starting => 2 | .running => 3 | .stopping => 4 | .failed => 5 | .applying => 7

/-- Folds an effect over a list of units. -/
def State.each (s : State) (l : List Nat) (f : State → Nat → State) : State := l.foldl f s

/-- Applies an effect where a condition holds. -/
def State.when (s : State) (b : Bool) (f : State → State) : State := if b then f s else s

end Sys2Proof.Machine
end

