-- ==== Sys2Proof/Machine/Views.lean ====
section
/-!
DEFINITION. What the status registers that other operations record read as (R20, R26, R329, R510, R577), with the
conditions of LN_STATUS.EBOUND (R45), and the Timetable's fields (R57 to R67).
-/
namespace Sys2Proof.Machine

/-! The running Timetable's fields. -/

/-- The built-in default record of basin `b` (R57 to R68). -/
def ttDefault (b : Nat) : TtBasin :=
  { mem0 := 0xFFFFFFFF + 96 * b * 2 ^ 32
    power := 64 * 2 ^ 28 + 136 * 2 ^ 36
    test := 1440 + 600 * 2 ^ 16 + 64 * 2 ^ 32 + 2 ^ 40 }

/-- The running record of basin `b`, with the built-in defaults where none is held (R56, R68). -/
def Timetable.basin (t : Timetable) (b : Nat) : TtBasin := tblGet (ttDefault b) t.basins b

/-- Replaces the record of basin `b`. -/
def Timetable.setBasin (t : Timetable) (b : Nat) (r : TtBasin) : Timetable :=
  { t with basins := tblSet (ttDefault b) t.basins b r }

/-- WIN_BASE of basin `b`'s MEMORY record; its default is the basin's LPDDR5X base (R63). -/
def TtBasin.winBase (r : TtBasin) : Nat := bits r.mem0 32 20
def TtBasin.chanMap (r : TtBasin) : Nat := bits r.mem0 0 32
def TtBasin.syncBase (r : TtBasin) : Nat := bits r.mem1 0 14
def TtBasin.size (r : TtBasin) : Nat := bits r.lines 0 4
def TtBasin.priv (r : TtBasin) : Bool := bit r.lines 4
def TtBasin.survive (r : TtBasin) : Bool := bit r.lines 5
def TtBasin.ramp (r : TtBasin) : Nat := bits r.grids 51 4
def TtBasin.sqCount (r : TtBasin) : Nat := bits r.queues 0 10
def TtBasin.peerCtx (r : TtBasin) : Nat := bits r.queues 16 10
def TtBasin.portEn (r : TtBasin) (p : Nat) : Bool := bit r.rail p
def TtBasin.legacy (r : TtBasin) (p : Nat) : Bool := bit r.rail (4 + p)
def TtBasin.budget (r : TtBasin) : Nat := bits r.power 0 12
def TtBasin.wakeTol (r : TtBasin) : Nat := bits r.power 12 16
def TtBasin.gridFmax (r : TtBasin) : Nat := bits r.power 28 8
def TtBasin.coreFmax (r : TtBasin) : Nat := bits r.power 36 8
def TtBasin.healthyMin (r : TtBasin) : Nat := bits r.test 0 11
def TtBasin.suspectS (r : TtBasin) : Nat := bits r.test 16 10
def TtBasin.shadowDiv (r : TtBasin) : Nat := bits r.test 32 8
def TtBasin.idleCal (r : TtBasin) : Bool := bit r.test 40

/-- The rail port's engine has failed (R439): OE(p div 2) is die 11 + p div 2. -/
def State.portFailed (s : State) (p : Nat) : Bool := (s.die (11 + p / 2)).st != .ok

/-- The rail port is in service (R62). -/
def State.portInService (s : State) (p : Nat) : Bool :=
  (s.tt.basin (p / 4)).portEn (p % 4) && !s.portFailed p

/-- The optics domain of basin `b`'s engine pair is on: off only when all four ports of the basin are out of service,
whichever Line it belongs to (R42, R62). -/
def State.opticsOn (s : State) (b : Nat) : Bool := (List.range 4).any fun p => s.portInService (4 * b + p)

/-- The lasers of engine OE`e` are lit: one of its two ports is in service (R62). -/
def State.lasersLit (s : State) (e : Nat) : Bool :=
  s.opticsOn (e / 2) && (s.portInService (2 * e) || s.portInService (2 * e + 1))

/-- An E_CONTEXT grant of an ADMISSION section (R66): basin, peer context, Line port (R335) and rate in 10 Mb/s. -/
def eGrant (w : Word) : Option (Nat × Nat × Nat × Nat) :=
  if w.field 0 2 = 1 then some (w.field 2 3, w.field 8 9, w.field 17 5, w.field 32 16) else none

/-- The rates that E grants give on rail port `p`, where `lead` names each basin's leader: Line port q of leader l is
rail port 4 × l + q (R335). -/
def eRates (lead : Nat → Nat) (adm : List Word) (p : Nat) : List Nat :=
  adm.filterMap fun w => match eGrant w with
    | some (b, _, q, r) => if 4 * lead b + q = p then some r else none
    | none => none

/-- 5% of a port's rate, in 10 Mb/s units (R66). -/
def eLimit (legacy : Bool) : Nat := if legacy then 4000 else 8000

/-- The port counts as retraining under R45 (R360). -/
def State.portRetraining (s : State) (p : Nat) : Bool :=
  match (s.port p).st with
  | .training => true
  | .half => decide (eLimit (s.port p).legacy / 2 < (eRates s.leaderOf s.tt.admission p).sum)
  | _ => false

/-- The spur is used by the Line led by `l` (R429). -/
def State.spurUsedBy (s : State) (p l : Nat) : Bool :=
  if p < 8 then s.leaderOf p == l
  else if p < 10 then (List.range 4).any fun i => s.leaderOf ((p - 8) * 4 + i) == l
  else if p < 18 then s.leaderOf (p - 10) == l && s.leaderOf ((p - 9) % 8) == l && (s.members l).length != 1
  else s.leaderOf (p - 18) == l

/-- The spur retrains or is in HALF (R45, R441). -/
def Spur.slow (p : Spur) : Bool :=
  match p.st with
  | .training | .half => true
  | _ => false

/-- A Timetable section is being applied (R76, steps 1 to 5). -/
def State.applying (s : State) : Bool :=
  match s.ttLoad with
  | some t => decide (t.stage = .applying)
  | none => false

/-- The basins in APPLYING (TT_STATUS.APPLYING). -/
def State.applyingMask (s : State) : Nat :=
  match s.ttLoad with
  | some t => if t.stage = .applying then t.touched.foldl (fun m b => m + 2 ^ b) 0 else 0
  | none => 0

/-- The conditions of R45 hold for the Line led by `l`. -/
def State.ebound (s : State) (l : Nat) : Bool :=
  decide ((s.line l).st ≠ .off) && !s.applying
  && (s.members l).all (fun b => (List.range 4).all fun p => !(s.portInService (4 * b + p) && s.portRetraining (4 * b + p)))
  && (List.range 26).all (fun p => !(s.spurUsedBy p l && (s.spur p).slow))

/-- LN_STATUS of function `n` (R20, R26). -/
def State.lnStatus (s : State) (n : Nat) : Word :=
  let l := s.leaderOf n
  let app := bit s.applyingMask n
  let own := s.line n
  if l = 8 then
    BitVec.ofNat 64 ((if app then 7 else 0) + n * 2 ^ 12 + own.cause * 2 ^ 24 + own.ttGen % 2 ^ 16 * 2 ^ 32)
  else
    let ln := s.line l
    let common := ofBool (s.tt.basin l).priv * 2 ^ 7 + l * 2 ^ 12 + s.memberMask l * 2 ^ 16
      + ln.ttGen % 2 ^ 16 * 2 ^ 32
    if l = n then
      BitVec.ofNat 64 (common + (if app then 7 else ln.st.code)
        + (if ln.st = .running then ln.sleep else 0) * 2 ^ 4 + ofBool ln.locked * 2 ^ 6
        + ofBool (s.ebound l) * 2 ^ 8 + ln.cause * 2 ^ 24)
    else BitVec.ofNat 64 (common + (if app then 7 else 6))

/-- HUB_ATTACH (R329). -/
def State.hubAttach (s : State) : Word :=
  let h := s.host
  BitVec.ofNat 64 (ofBool h.attached + h.cause * 2 + h.speed * 2 ^ 4 + h.width * 2 ^ 8 + ofBool h.cxl * 2 ^ 13
    + h.gen * 2 ^ 32)

/-- The rail of basin `b`: the core quadrant's, or the compute rail. -/
def State.rail (s : State) (b : Nat) (core : Bool) : VfRail := if core then (s.bpow b).core else (s.bpow b).compute

/-- The frequency ceiling of a basin's grids or cores in 25 MHz units: GRID_FMAX or CORE_FMAX, lowered by a guard (R64,
R508), and never below 200 MHz (R506). -/
def State.ceiling (s : State) (b : Nat) (core : Bool) : Nat :=
  let f := if core then (s.tt.basin b).coreFmax else (s.tt.basin b).gridFmax
  if (s.rail b core).guardFreq then max 8 (f - 4) else f

/-- The basins whose frequencies move as one: those of a joined Line (R494). -/
def State.clockGroup (s : State) (b : Nat) : List Nat := if s.leaderOf b < 8 then s.members (s.leaderOf b) else [b]

/-- The lowest ceiling of a basin's Line (R494, R504). -/
def State.groupCeiling (s : State) (b : Nat) (core : Bool) : Nat :=
  (s.clockGroup b).foldl (fun m c => min m (s.ceiling c core)) (s.ceiling b core)

/-- *f*g or *f*c of a basin: the lowest of its three limits (R504). -/
def State.clockOf (s : State) (b : Nat) (core : Bool) : Nat :=
  let p := s.bpow b
  if core then min (s.groupCeiling b true) (min p.budCore s.power.capCore)
  else min (s.groupCeiling b false) (min p.budGrid s.power.capGrid)

/-- HUB_PWR_STATUS (R510). CAPPED: the cap limit lies below some ceiling. -/
def State.hubPwrStatus (s : State) : Word :=
  let capped := (List.range 8).any fun b =>
    decide (s.power.capGrid < s.ceiling b false) || decide (s.power.capCore < s.ceiling b true)
  BitVec.ofNat 64 (s.power.draw % 2 ^ 13 + ofBool capped * 2 ^ 13 + (64 - s.power.capGrid) * 2 ^ 16
    + s.fld (hubKey 0x58) 32 32 * 2 ^ 32)

/-- HUB_FABRIC_ID (R345). -/
def State.fabricId (s : State) : Word := s.reg (hubKey 0x48)

end Sys2Proof.Machine
end

