-- ==== Sys2Proof/Machine/Arbiter.lean ====
section
/-!
DEFINITION. The service of shared resources by class (R43): E first, then S and B by weighted round robin, and round robin
within a class (R267, R316).
-/
namespace Sys2Proof.Machine

/-- The S and B weights of the Line led by `l`: its WEIGHTS entry, or 3 and 1 (R66). -/
def State.weights (s : State) (l : Nat) : Nat × Nat :=
  match s.tt.admission.find? fun w => w.field 0 2 == 0 && w.field 2 3 == l with
  | some w => (w.field 8 8, w.field 16 8)
  | none => (3, 1)

/-- The class that is served next, where `has` names those that wait. A round gives S and B as many turns as their weights,
S's first; it ends once no class that waits has a turn left (DESIGN CHOICE; notes/assumptions). -/
def Arb.pick (a : Arb) (w : Nat × Nat) (has : Nat → Bool) : Option (Nat × Arb) :=
  if has 1 then some (1, a)
  else
    let a := if (has 0 && a.s != 0) || (has 2 && a.b != 0) then a else { a with s := w.1, b := w.2 }
    if has 0 && a.s != 0 then some (0, { a with s := a.s - 1 })
    else if has 2 && a.b != 0 then some (2, { a with b := a.b - 1 })
    else none

/-- The unit that is served next among those that wait, given in rising order with their classes: in its class the first
after the one served last. -/
def Arb.turn (a : Arb) (w : Nat × Nat) (ready : List (Nat × Nat)) : Option (Nat × Arb) :=
  match a.pick w fun k => ready.any fun e => e.2 == k with
  | none => none
  | some (k, a) =>
    let us := (ready.filter fun e => e.2 == k).map (·.1)
    ((us.find? fun u => decide (tblGet 0 a.last k ≤ u)) <|> us.head?).map fun u =>
      (u, { a with last := tblSet 0 a.last k (u + 1) })

def State.arb (s : State) (k : Nat) : Arb := tblGet {} s.arbs k

def State.setArb (s : State) (k : Nat) (a : Arb) : State := { s with arbs := tblSet {} s.arbs k a }

/-- Arbiter `k` of the Line led by `l` gives unit `u` its turn: the arbiter has moved on. None where another unit's turn has
come, or none waits. -/
def State.turnOf (s : State) (k l : Nat) (ready : List (Nat × Nat)) (u : Nat) : Option State :=
  match (s.arb k).turn (s.weights l) ready with
  | some (v, a) => if v = u then some (s.setArb k a) else none
  | none => none

end Sys2Proof.Machine
end

