-- ==== Sys2Proof/Machine/Crc.lean ====
section
/-!
DEFINITION. CRC-32C (R446): polynomial 0x1EDC6F41, reflected.
-/
namespace Sys2Proof.Machine

/-- `k` bits of the reflected division by the polynomial. -/
def crcBits : (k c : Nat) → Nat
  | 0, c => c
  | k + 1, c => crcBits k (if c % 2 = 1 then (c / 2) ^^^ 0x82F63B78 else c / 2)

/-- Folds bytes into a CRC-32C remainder. -/
def crcFold : (c : Nat) → (data : List Byte) → Nat
  | c, [] => c
  | c, b :: bs => crcFold (crcBits 8 (c ^^^ b.toNat)) bs

/-- Folds `n` zero bytes into a remainder. -/
def crcZeros : (n c : Nat) → Nat
  | 0, c => c
  | n + 1, c => crcZeros n (crcBits 8 c)

/-- CRC-32C with initial value and final XOR all ones (R446). -/
def crc32c (data : List Byte) : Nat := crcFold 0xFFFFFFFF data ^^^ 0xFFFFFFFF

/-- The fold of R447: the CRC, with initial value 0 and no final XOR, of a 4,096-byte block that holds `data` at offset
`off` and zeros elsewhere. -/
def crcDelta (off : Nat) (data : List Byte) : Nat := crcZeros (4096 - off - data.length) (crcFold 0 data)

end Sys2Proof.Machine
end

