-- ==== Sys2Proof/Machine/Log.lean ====
section
/-!
DEFINITION. Writing the Logbook (R527 to R532) and queueing PLDM platform events (R521).
-/
namespace Sys2Proof.Machine

/-- SEV of an event code (R529). -/
def sevOf (code : Nat) : Nat :=
  match code with
  | 0x0101 | 0x0103 | 0x0104 | 0x0301 => 0
  | 0x0202 | 0x0302 | 0x0400 | 0x0401 | 0x0500 | 0x0501 => 2
  | 0x0102 | 0x0300 | 0x0402 | 0x0503 | 0x0601 | 0x0800 | 0x0900 => 3
  | _ => 1

/-- An MCTP message or PLDM event awaits collection on the management bus: an in-band interrupt, or SMBALERT# (R517,
R518). -/
def State.attend (s : State) : State :=
  if s.mgmt.i3c && (s.mgmt.dynAddr.isNone || !bit s.mgmt.events 0) then s else s.emit .attention

/-- Sends an MCTP message on a binding: 0 the management bus, 1 PCIe VDM (R519). -/
def State.mctpSend (s : State) (binding type : Nat) (body : List Byte) : State :=
  let s := s.emit (.mctp binding type body)
  if binding = 0 then s.attend else s

/-- Sends a PlatformEventMessage with the count of those that were lost before it (R521). -/
def State.sendEvent (s : State) (binding : Nat) (e : PldmEvent) : State :=
  ({ s with pldm := { s.pldm with lost := 0 } }).mctpSend binding 1
    (leBytes 1 e.kind ++ leBytes 8 e.a ++ leBytes 8 e.b ++ leBytes 2 s.pldm.lost)

/-- Queues a platform event. The queue holds 32; a further one discards the oldest, and the loss is counted in the next one
sent (R521). -/
def State.queueEvent (s : State) (e : PldmEvent) : State :=
  let full := decide (32 ≤ s.pldm.events.length)
  { s with pldm := { s.pldm with
      events := (if full then s.pldm.events.drop 1 else s.pldm.events) ++ [e]
      lost := if full then s.pldm.lost + 1 else s.pldm.lost } }

/-- A platform event: sent at once to a receiver on I3C, or on PCIe VDM while the host port is attached, after those that wait;
queued for one on SMBus, which polls, and for one that cannot be reached (R519, R521). -/
def State.platformEvent (s : State) (e : PldmEvent) : State :=
  match s.pldm.receiver with
  | none => s
  | some binding =>
    if binding = 0 ∧ s.mgmt.i3c = false then (s.queueEvent e).attend
    else if binding = 0 ∨ s.host.attached then
      (s.pldm.events ++ [e]).foldl (fun s e => s.sendEvent binding e) { s with pldm := { s.pldm with events := [] } }
    else s.queueEvent e

/-- The 11 words of an entry's payload (R528). -/
def State.logPayload (s : State) : List Nat :=
  (List.range 8).map (fun n => (s.lnStatus n).toNat)
    ++ [s.hubAttach.toNat, s.hubPwrStatus.toNat, s.fabricId.toNat]

/-- An entry under construction (R528, R530): its SEQ is taken when it is written. -/
def State.newEntry (s : State) (code src lines a0 a1 a2 : Nat) : LogEntry :=
  { seq := s.log.next, time := s.time, boot := s.nvm.bootCount, code := code, sev := sevOf code, source := src,
    lines := lines, mirrored := decide (2 ≤ sevOf code), svn := s.sec.fwSvn, ttGen := s.tt.gen,
    arg0 := a0, arg1 := a1, arg2 := a2, payload := s.logPayload }

/-- Writes an entry: SEQ from the reserved block, the Logbook, then the mirror where its SEV is 2 or 3 or the Logbook
cannot be written (R530 steps 1, 2 and 4). -/
def State.commitEntry (s : State) (e : LogEntry) : State :=
  let toMirror := e.mirrored || s.log.mramFail
  { s with
    nvm := { s.nvm with
      logReserved := if s.log.next < s.nvm.logReserved then s.nvm.logReserved else (s.log.next / 256 + 1) * 256 }
    log := { s.log with
      entries := if s.log.mramFail then s.log.entries
        else e :: s.log.entries.filter fun x => decide (x.seq % 262144 ≠ e.seq % 262144)
      mirror := if toMirror then ({ e with mirrored := true } :: s.log.mirror).take 8192 else s.log.mirror
      mirrorNext := if toMirror then s.log.mirrorNext + 1 else s.log.mirrorNext
      next := s.log.next + 1 } }

/-- A committed entry of the last second with this CODE, SOURCE and ARG0 (R530 step 3). -/
def State.logRecent (s : State) (code src a0 : Nat) : Option LogEntry :=
  (s.log.entries ++ s.log.mirror).find? fun e =>
    decide (s.log.since ≤ e.seq) && e.code == code && e.source == src && e.arg0 == a0
      && decide (s.time < e.time + 1000000000)

/-- Counts a repeat for the REPEAT entry of the second that began at `since`. -/
def State.logRepeat (s : State) (since code src a0 : Nat) : State :=
  let (here, rest) := s.log.pendingRepeats.partition fun c => c.code == code && c.source == src && c.arg0 == a0
  let c := match here with
    | c :: _ => { c with count := c.count + 1 }
    | [] => { code := code, source := src, arg0 := a0, since := since, count := 1 }
  { s with log := { s.log with pendingRepeats := rest ++ [c] } }

/-- Records an event (R529, R530), with the platform event of one of SEV 2 or 3 (R521). -/
def State.logEvent (s : State) (code src lines a0 a1 : Nat) (a2 : Nat := 0) : State :=
  match (if sevOf code < 3 then s.logRecent code src a0 else none) with
  | some old => s.logRepeat old.time code src a0
  | none =>
    let e := s.newEntry code src lines a0 a1 a2
    let s := s.commitEntry e
    if 2 ≤ sevOf code then s.platformEvent { kind := 0xFA, a := e.seq, b := code * 256 + sevOf code } else s

/-- The Line's bit of an entry's LINES. -/
def lineBit (l : Nat) : Nat := if l < 8 then 2 ^ l else 0

/-- Moves a Line to a state, with the LINE_STATE entry (R529): ARG0 the old state, ARG1 LN_STATUS. -/
def State.setLineState (s : State) (l : Nat) (st : LnState) : State :=
  let old := (s.line l).st
  if old = st then s
  else
    let s := s.modLine l fun ln => { ln with st := st, sleep := 0, idle := false, idleFrom := none, sleepFrom := none, waking := false }
    s.logEvent 0x0301 (1 + l) (lineBit l) old.code (s.lnStatus l).toNat

end Sys2Proof.Machine
end

