-- ==== Sys2Proof/Machine/Map.lean ====
section
/-!
DEFINITION. The device physical address map (R34 to R37, R224), the bytes of memory with their poison (R450), latent bit
errors (R218, R227) and check words (R446, R447). A granule is 64 bytes, a block 4 KiB.
-/
namespace Sys2Proof.Machine

/-- What a DPA decodes to (R34). -/
inductive Target where
  | lpddr (b off : Nat)
  | reservoir (b off : Nat)
  | lnMmio (n off : Nat)
  | hubMmio (off : Nat)
  | host (addr : Nat)
  | window (index off : Nat)
  /-- A check-word, ECC or remainder range of a basin (R36). -/
  | reserved (b : Nat)
  | none
deriving DecidableEq, Repr

/-- The channels set in a CHAN_MAP, ascending (R223). -/
def chanList (m : Nat) : List Nat := (List.range 32).filter (bit m)

/-- Usable GiB with `n` channels (R224). -/
def usableGib (n : Nat) : Nat := 11892 * n / 1024

/-- The channels in use of a basin. -/
def State.chansOf (s : State) (b : Nat) : List Nat := chanList (s.bmem b).chanMap

/-- Bytes of usable LPDDR5X of a basin. -/
def State.usable (s : State) (b : Nat) : Nat := usableGib (s.chansOf b).length * 2 ^ 30

/-- LPDDR5X base DPA of a basin (R34). -/
def lpddrBase (b : Nat) : Nat := b * 0x6000000000
/-- Reservoir base DPA of a basin (R34). -/
def rsvBase (b : Nat) : Nat := 0x400000000000 + b * 0x20000000

/-- Decodes a DPA (R34, R35, R224). -/
def State.target (s : State) (a : Nat) : Target :=
  if a < 0x30000000000 then
    let b := a / 0x6000000000
    let x := a % 0x6000000000
    if x < s.usable b then .lpddr b x
    else if x < 12 * (s.chansOf b).length * 2 ^ 30 then .reserved b
    else .none
  else if 0x400000000000 ≤ a ∧ a < 0x400100000000 then
    .reservoir ((a - 0x400000000000) / 0x20000000) ((a - 0x400000000000) % 0x20000000)
  else if 0xF00000000000 ≤ a ∧ a < 0xF00020000000 then
    .lnMmio ((a - 0xF00000000000) / 0x4000000) ((a - 0xF00000000000) % 0x4000000)
  else if 0xF10000000000 ≤ a ∧ a < 0xF10010000000 then .hubMmio (a - 0xF10000000000)
  else if 0x4000000000000 ≤ a ∧ a < 0x8000000000000 then .host (a % 2 ^ 50)
  else if 0x8000000000000 ≤ a ∧ a < 0x10000000000000 then .window (bits a 40 11) (a % 2 ^ 40)
  else .none

/-- The basin whose usable memory or Reservoir a DPA lies in. -/
def Target.memBasin : Target → Option Nat
  | .lpddr b _ | .reservoir b _ => some b
  | _ => Option.none

/-- The DPA lies in the usable memory or Reservoir of the Line led by `l`. -/
def State.ownMem (s : State) (l a : Nat) : Bool :=
  match (s.target a).memBasin with
  | some b => decide (l < 8) && s.leaderOf b == l
  | Option.none => false

/-- The channel that a usable LPDDR5X offset lies on (R223). -/
def State.chanAt (s : State) (b x : Nat) : Nat :=
  let cs := s.chansOf b
  cs.getD (x / 1024 % cs.length) 0

/-- The granule lies on a channel declared failed (R226; MEM_CHAN.FAILED). -/
def State.onFailed (s : State) (a : Nat) : Option Nat :=
  match s.target a with
  | .lpddr b x => if s.flag (memKey b 0x8) (32 + s.chanAt b x) then some b else Option.none
  | _ => Option.none

/-! Bytes and granules. -/

/-- A byte of LPDDR5X or Reservoir. -/
def State.byteAt (s : State) (a : Nat) : Byte := tblGet 0 s.mem a

/-- `n` bytes of memory from `a`. -/
def memBytes (m : List Host.Cell) (a n : Nat) : List Byte := (List.range n).map fun i => tblGet 0 m (a + i)

/-- Writes bytes from `a`, keeping the canonical form. -/
def memPut : (m : List Host.Cell) → (a : Nat) → (bs : List Byte) → List Host.Cell
  | m, _, [] => m
  | m, a, b :: bs => memPut (tblSet 0 m a b) (a + 1) bs

/-- Clears the bytes from `lo` to before `hi`. -/
def memClear (m : List Host.Cell) (lo hi : Nat) : List Host.Cell := m.filter fun c => decide (c.1 < lo ∨ hi ≤ c.1)

/-- The canonical form of memory: addresses rise strictly and no listed byte is 0, which an unlisted one reads as. -/
def Memory.wf (m : List Host.Cell) : Bool := tblWf 0 m

/-- `k` free bytes, and the state past them: data that the manual does not state. -/
def State.freeBytes (s : State) (k : Nat) : List Byte × State :=
  ((List.range k).map fun i => BitVec.ofNat 8 (Config.freeNat (s.freeCtr + i)), { s with freeCtr := s.freeCtr + k })

def State.poisoned (s : State) (a : Nat) : Bool := tblGet false s.poison (a / 64)

/-- Writes a granule into memory with its poison bit. -/
def State.putGranule (s : State) (g : Nat) (data : List Byte) (poison : Bool) : State :=
  { s with mem := memPut s.mem (g * 64) data, poison := tblSet false s.poison g poison, errs := tblErase s.errs g }

/-- Zeroes memory from `lo` to before `hi`, with its poison bits clear. Both lie at granules. -/
def State.zeroRange (s : State) (lo hi : Nat) : State :=
  let keep (g : Nat) : Bool := decide (g * 64 < lo ∨ hi ≤ g * 64)
  { s with
    mem := memClear s.mem lo hi
    poison := s.poison.filter fun e => keep e.1
    errs := s.errs.filter fun e => keep e.1 }

/-- What the array holds of an LPDDR5X granule: its data encrypted under the basin's key, with DPA bits [51:6] for the tweak
(R229). No agent reads it, and the Reservoir is not encrypted. -/
def State.cipher (s : State) (b g : Nat) : List Byte := Config.xts (s.bmem b).key g (memBytes s.mem (g * 64) 64)

/-- The bytes of a granule come to differ from what was written, without a write: the stored check word stays as it is
(R219, R446), so the difference that `chkDiff` holds changes by the CRC of the change. -/
def State.corruptGranule (s : State) (g : Nat) (data : List Byte) : State :=
  let old := memBytes s.mem (g * 64) 64
  let change := List.zipWith (· ^^^ ·) old data
  { s with
    mem := memPut s.mem (g * 64) data
    chkDiff := tblSet 0 s.chkDiff (g / 64) (tblGet 0 s.chkDiff (g / 64) ^^^ crcDelta (g % 64 * 64) change) }

/-- The stored check word of a block agrees with its data (R446), counting data dirty in caches (R415). -/
def State.blockValid (s : State) (blk : Nat) : Bool := tblGet 0 s.chkDiff blk == 0

/-- Poisons all 64 granules of a block (R255, R449). -/
def State.poisonBlock (s : State) (blk : Nat) : State :=
  { s with poison := (List.range 64).foldl (fun t i => tblSet false t (blk * 64 + i) true) s.poison }

/-- Some granule of a block is poisoned. -/
def State.blockPoisoned (s : State) (blk : Nat) : Bool := s.poison.any fun e => e.1 / 64 == blk

/-- A block's check word is rewritten valid for its data (R447, R368, R422). -/
def State.validateBlock (s : State) (blk : Nat) : State := { s with chkDiff := tblErase s.chkDiff blk }

/-! Sync counters and accumulator areas, which only stated paths may write (R172, R366). -/

/-- DPA of the first sync counter of basin `b` (R63). -/
def State.syncBase (s : State) (b : Nat) : Nat := rsvBase b + (s.tt.basin b).syncBase * 0x8000

/-- The bytes of an access meet a sync counter. -/
def State.meetsCounter (s : State) (a n : Nat) : Bool :=
  (List.range 8).any fun b => decide (a < s.syncBase b + 0x8000 ∧ s.syncBase b < a + n)

end Sys2Proof.Machine
end

