-- ==== Sys2Proof/Machine/MemPhy.lean ====
section
/-!
DEFINITION. The training records, guards and live checks of LPDDR5X channels (R236 to R240), and the exit of a Line from
a sleep state (R498, R500).
-/
namespace Sys2Proof.Machine

/-- The training record of channel `c` of basin `b` (R236). -/
def State.trainRec (s : State) (b c : Nat) : TrainRec := tblGet {} (s.bmem b).trains c

/-- Makes a record of channel `c` at the present package temperature, of the settings that it runs with (R236, R238). -/
def State.makeRecord (s : State) (b c : Nat) (full : Bool) : State :=
  let m := s.bmem b
  let r : TrainRec :=
    { temp := tblGet 25 m.temps (c / 8), full := full, time := s.time, settings := tblGet 0 m.settings c }
  s.modBmem b fun m => { m with trains := tblSet {} m.trains c r }

/-- Training finds new settings for channel `c`; the manual does not describe them. -/
def State.trial (s : State) (b c : Nat) : State :=
  s.bump.modBmem b fun m => { m with settings := tblSet 0 m.settings c s.free }

/-- Bit GUARD of channel `c` (MEM_CHAN_GUARD, R243). -/
def State.setGuard (s : State) (b c : Nat) (on : Bool) : State := s.setFlag (memKey b 0x10) c on

/-- A channel of basin `b` runs guarded. -/
def State.guarded (s : State) (b : Nat) : Bool := s.fld (memKey b 0x10) 0 32 != 0

/-- What a guard adds to basin `b`'s memory PHY rail, in mV (R237). -/
def State.phyRise (s : State) (b : Nat) : Nat := if s.guarded b && decide (15 ≤ Config.phyHeadroom b) then 15 else 0

/-- WCK of channel `c` in MHz: a guard lowers it where the rail has no headroom (R222, R237). -/
def State.wckMhz (s : State) (b c : Nat) : Nat :=
  if s.flag (memKey b 0x10) c && decide (Config.phyHeadroom b < 15) then 5233 else 5333

/-- Bit RETRAIN of channel `c`. -/
def State.setRetrain (s : State) (b c : Nat) (on : Bool) : State := s.setFlag (memKey b 0x10) (32 + c) on

/-- A channel that is not declared failed. -/
def State.chanGood (s : State) (b c : Nat) : Bool := !s.flag (memKey b 0x8) (32 + c)

/-- Starts a live check of channel `c` (R238). -/
def State.startLiveCheck (s : State) (b c : Nat) : State :=
  if s.chanGood b c then s.modBmem b fun m => { m with liveCheck := tblSet false m.liveCheck c true } else s

/-- A channel with a LIGHT record runs guarded while the load class is FULL, and a live check follows (R237, R238). -/
def State.guardApply (s : State) (b : Nat) : State :=
  s.each (s.chansOf b) fun s c =>
    if (s.bmem b).loadFull && !(s.trainRec b c).full then (s.setGuard b c true).startLiveCheck b c else s

/-- A package temperature more than 10 °C away from a record starts a live check of each of its eight channels (R238). -/
def State.tempCheck (s : State) (b : Nat) : State :=
  s.each (List.range 4) fun s k =>
    let chans := (s.chansOf b).filter fun c => c / 8 == k
    let t := tblGet 25 (s.bmem b).temps k
    let far (c : Nat) : Bool := decide (10 < (t - (s.trainRec b c).temp).natAbs)
    if chans.any far then s.each chans fun s c => s.startLiveCheck b c else s

/-- Changes a rail of basin `b`. -/
def State.modRail (s : State) (b : Nat) (core : Bool) (f : VfRail → VfRail) : State :=
  s.modBpow b fun p => if core then { p with core := f p.core } else { p with compute := f p.compute }

/-- The load class of a rail is FULL (R507). -/
def State.railFull (s : State) (b : Nat) (core : Bool) : Bool := if core then (s.bpow b).coreFull else (s.bmem b).loadFull

/-- The voltage of a rail at its current frequency: that of the anchor at or above it (R507). -/
def State.railMv (s : State) (b : Nat) (core : Bool) : Nat :=
  let step := if core then 17 else 8
  (s.rail b core).anchors.getD ((s.clockOf b core + step - 1) / step - 1) 0

/-- The maximum voltage of a rail in mV, by basin and kind; the manual does not state it. -/
def railMax (b : Nat) (core : Bool) : Nat := Config.railMaxMv (b + ofBool core * 8)

/-- The guard of a rail: it runs while the record is LIGHT and the load class FULL (R508). A reduction that is kept
stays. -/
def State.railGuard (s : State) (b : Nat) (core : Bool) : State :=
  let r := s.rail b core
  if s.railFull b core && !r.full then
    if r.guard || r.guardFreq then s
    else if railMax b core ≤ s.railMv b core + 15 then s.modRail b core fun r => { r with guardFreq := true }
    else s.modRail b core fun r => { r with guard := true }
  else s.modRail b core fun r => { r with guard := false, guardFreq := r.kept }

/-- Abandons the calibration of a basin: the previous settings are restored and it waits for the next quiet period
(R239, R240). -/
def State.abandonCal (s : State) (b : Nat) : State :=
  s.modBmem b fun m =>
    { m with
      calibrating := none
      settings := match m.calibrating with
        | some c => tblSet 0 m.settings c (tblGet {} m.trains c).settings
        | none => m.settings }

/-- The time for which a Line has been idle begins again (R239, R499, R502). -/
def Line.awake (ln : Line) : Line := { ln with idle := false, idleFrom := none, sleepFrom := none }

/-- A sleeping Line returns to S0 (R499, R500). From S3 the PLLs lock, memory leaves self-refresh and temperatures are
compared with the records (R240). -/
def State.wakeExit (s : State) (l : Nat) : State :=
  let ln := s.line l
  if ln.st = .running ∧ ln.sleep ≠ 0 then
    let s := s.modLine l fun ln => { ln.awake with sleep := 0, waking := false }
    if ln.sleep = 3 then
      s.each (s.members l) fun s b =>
        ((s.modBmem b fun m => { m with selfRefresh := false }).modBpow b fun p => { p with pll := true }).tempCheck b
    else s
  else s.modLine l Line.awake

end Sys2Proof.Machine
end

