-- ==== Sys2Proof/Machine/Interrupts.lean ====
section
/-!
DEFINITION. Interrupts to cores through the route table (R416 to R419), and the MSI-X vectors of Line events (R324).
-/
namespace Sys2Proof.Machine

/-! Active cores. -/

/-- The physical core that logical core `j` of basin `b` is bound to, or a number above 16 (R59, R412). -/
def State.coreOf (s : State) (b j : Nat) : Nat := tblGet 34 s.bindings (b * 64 + 32 + j)

/-- Hart `h` is an active core of the Line led by `l` (R410). Logical core `j` of basin `b` has hart ID 16 × b + j. -/
def State.hartActive (s : State) (l h : Nat) : Bool :=
  decide (h < 128) && s.leaderOf (h / 16) == l && decide (s.coreOf (h / 16) (h % 16) ≤ 16)

/-! Interrupts. -/

/-- The route register of a source (R418). -/
def routeKey (l src : Nat) : Nat := lnKey l (0x4000 + src * 8)

/-- Sends the MSI of a route: EIID to its file of its hart (R418, R419). An MSI to a core in WFI wakes it. There are guest
files 1 to 7 only: which file, if any, a GUEST above 7 reaches is not stated, and is a free value (DESIGN CHOICE;
notes/assumptions). -/
def State.sendMsi (s : State) (l src : Nat) : State :=
  let r := s.reg (routeKey l src)
  let h := r.field 0 7
  let guest := r.field 8 4
  let eiid := r.field 16 11
  if eiid = 0 then s
  else if r.flag 7 ∧ guest ≠ 0 then s.undef .guestAtMachineLevel
  else if s.hartActive l h then
    let (guest, s) := if guest ≤ 7 then (guest, s) else (s.free % 9, s.bump)
    let file := if r.flag 7 then 0 else 1 + guest
    if 8 < file then s
    else s.modHart h fun c =>
      { c with imsic := tblSet false c.imsic (file * 2048 + eiid) true, mode := if c.mode = .wfi then .run else c.mode }
  else s.setFlag (routeKey l src) 33 true

/-- An event of an interrupt source, without the wake of R499. -/
def State.route (s : State) (l src : Nat) : State :=
  if s.flag (routeKey l src) 31 then s.sendMsi l src else s.setFlag (routeKey l src) 32 true

/-- An event of an interrupt source of the Line led by `l` (R417, R419). It is a wake event (R499). -/
def State.raise (s : State) (l src : Nat) : State := (s.wakeExit l).route l src

/-- Raises a source at every Line (R417: the host port's events). A detach has no effect on sleep (R502). -/
def State.raiseAll (s : State) (src : Nat) : State :=
  s.each (List.range 8) fun s l => s.when (s.isLeader l) (·.route l src)

/-- The place of basin `b` in its Line, counted from the leader (R137). -/
def State.place (s : State) (b : Nat) : Nat := ((s.members (s.leaderOf b)).filter fun m => decide (m < b)).length

/-- The basin at place `i` of the Line led by `l`. -/
def State.atPlace (s : State) (l i : Nat) : Option Nat := (s.members l)[i]?

/-! Vectors of Line events. -/

/-- Function `n` of the host port is PF0 (0) or that of Line `n - 1` (R303). -/
def lineFn (l : Nat) : Nat := l + 1

/-- An MSI-X message to the attached host (R324). -/
def State.signal (s : State) (fn vector : Nat) : State :=
  if s.host.attached then
    { s.emit (.msix fn vector) with
      host := { s.host with signals := s.host.signals + 1
                            vectors := tblSet 0 s.host.vectors (fn * 2048 + vector) (s.host.signals + 1) } }
  else s

/-- Forgets that vectors of the functions `p` were signalled. -/
def State.dropVectors (s : State) (p : Nat → Bool) : State :=
  { s with host := { s.host with vectors := s.host.vectors.filter fun e => !p (e.1 / 2048) } }

/-- A change of LN_STATUS.STATE of function `n` (R324). -/
def State.signalState (s : State) (n : Nat) : State := (s.signal (lineFn n) 0).signal 0 1

/-- Moves a Line to a state, signalling the change (R324). -/
def State.enterLineState (s : State) (l : Nat) (st : LnState) : State :=
  if (s.line l).st = st then s else (s.setLineState l st).signalState l

/-- Signals every function whose LN_STATUS.STATE reads otherwise than in `old`, a member's included (R20, R324). -/
def State.signalChanges (s old : State) : State :=
  s.each (List.range 8) fun s n => s.when ((s.lnStatus n).field 0 4 != (old.lnStatus n).field 0 4) (·.signalState n)

end Sys2Proof.Machine
end

