-- ==== Sys2Proof/Machine/Ecc.lean ====
section
/-!
DEFINITION. What ECC finds when memory is read (R218, R219, R227, R234), and the taking out of subarrays (R220, R221).
-/
namespace Sys2Proof.Machine

/-! Errors (R219, R220, R221, R234). -/

/-- Bank and subarray of a Reservoir offset (R216). -/
def rsvPlace (x : Nat) : Nat × Nat := ((bits x 8 8) ^^^ (bits x 16 8), bits x 24 5)

/-- Health record of a subarray (R470). -/
def subarrayHealth (b bank sub : Nat) : Nat := healthKey 2 (b + bank * 8 + sub * 2 ^ 11)

/-- Health record of channel `c` of basin `b` (R470). -/
def chanHealth (b c : Nat) : Nat := healthKey 5 (32 * b + c)

/-- The channel address of an LPDDR5X offset (R223). -/
def State.chanAddr (s : State) (b x : Nat) : Nat := x / 1024 / (s.chansOf b).length * 1024 + x % 1024

/-- The row of an LPDDR5X offset on its channel. The manual does not state the size of a row; 2 KiB is the family's
(PRESUMED). -/
def State.rowOf (s : State) (b x : Nat) : Nat := s.chanAddr b x / 2048

/-- A subarray is taken out: its bank begins to copy it into the spare, or NO_SPARE is set (R220, R221). -/
def State.takeSubarray (s : State) (b bank sub : Nat) : State :=
  let m := s.bmem b
  let running := m.copying.find? fun e => e.1 == bank
  if running = some (bank, sub) then s
  else if tblGet 0 m.spares bank ≠ 0 ∨ running ≠ none then s.setFlag (rsvKey b 0) 10 true
  else s.modBmem b fun m => { m with copying := m.copying ++ [(bank, sub)] }

/-- Queues a row for hard repair. -/
def State.queueRow (s : State) (b c row : Nat) : State :=
  if (s.bmem b).pprQueue.contains (c, row) then s
  else s.modBmem b fun m => { m with pprQueue := m.pprQueue ++ [(c, row)] }

/-- Notes a corrected error of a row or subarray. Answers how many it has had in 24 hours, this one included. -/
def State.noteCorrected (s : State) (b key : Nat) : Nat × State :=
  let recent := (s.bmem b).corrected.filter fun e => decide (s.time < e.2 + 86400000000000)
  let all := (key, s.time) :: recent
  ((all.filter fun e => e.1 == key).length, s.modBmem b fun m => { m with corrected := all })

/-- Records an error of an LPDDR5X granule at offset `x` (R243). -/
def State.memErrLog (s : State) (b x : Nat) (ue scrub : Bool) : State :=
  s.setReg (memKey b 0x28) (BitVec.ofNat 64 (x / 64 + s.chanAt b x * 2 ^ 33 + ofBool ue * 2 ^ 38
    + ofBool scrub * 2 ^ 39 + 2 ^ 40))

/-- Records an error of a Reservoir granule at offset `x` (R244). -/
def State.rsvErrLog (s : State) (b x : Nat) (ue scrub : Bool) : State :=
  s.setReg (rsvKey b 0x18) (BitVec.ofNat 64 (x / 64 + ofBool ue * 2 ^ 23 + ofBool scrub * 2 ^ 24 + 2 ^ 25))

/-- The data of a granule is lost: its bytes are free values, and it is poisoned (R219). -/
def State.loseGranule (s : State) (g : Nat) : State :=
  let (bs, s) := s.freeBytes 64
  let s := s.corruptGranule g bs
  { s with poison := tblSet false s.poison g true }

/-- An uncorrectable error is logged and interrupts the Line (R417, R529). -/
def State.reportUe (s : State) (b : Nat) (log : Word) (kind : Nat) : State :=
  (s.logEvent 0x0400 (1 + b) (lineBit (s.leaderOf b)) log.toNat kind).when (decide (s.leaderOf b < 8))
    fun s => s.raise (s.leaderOf b) 0x104

/-- An LPDDR5X address that holds granules under ECC: the basin and the offset. The check words and the unused remainder
are such, and the ECC reserve is not (R35, R224, R227). -/
def State.lpddrPlace (s : State) (a : Nat) : Option (Nat × Nat) :=
  match s.target a with
  | .lpddr b x => some (b, x)
  | .reserved b => if a - lpddrBase b < 11904 * (s.chansOf b).length * 2 ^ 20 then some (b, a - lpddrBase b) else none
  | _ => none

/-- A single-bit error of a granule is corrected, and the correction written back (R219, R234). -/
def State.eccFixed (s : State) (scrub : Bool) (g : Nat) : State :=
  match s.lpddrPlace (g * 64), s.target (g * 64) with
  | some (b, x), _ =>
    let s := (s.count (memKey b 0x18) 1).memErrLog b x false scrub
    let c := s.chanAt b x
    let (n, s) := s.noteCorrected b (c * 2 ^ 40 + s.rowOf b x)
    if 4 < n then s.queueRow b c (s.rowOf b x) else s
  | none, .reservoir b x =>
    let s := (s.count (rsvKey b 0x08) 1).rsvErrLog b x false scrub
    let (bank, sub) := rsvPlace x
    let (n, s) := s.noteCorrected b (2 ^ 60 + bank * 64 + sub)
    if 16 < n then s.takeSubarray b bank sub else s
  | _, _ => s

/-- An uncorrectable error of a granule: it is poisoned, and its row or subarray is to be replaced (R219, R220, R234). -/
def State.eccLost (s : State) (scrub : Bool) (g : Nat) : State :=
  match s.lpddrPlace (g * 64), s.target (g * 64) with
  | some (b, x), _ =>
    let s := ((s.loseGranule g).count (memKey b 0x20) 1).memErrLog b x true scrub
    let s := s.reportUe b (s.reg (memKey b 0x28)) 0
    let c := s.chanAt b x
    (s.logEvent 0x0404 (1 + b) (lineBit (s.leaderOf b)) (32 * b + c) (s.rowOf b x) 1).queueRow b c (s.rowOf b x)
  | none, .reservoir b x =>
    let s := ((s.loseGranule g).count (rsvKey b 0x10) 1).rsvErrLog b x true scrub
    let s := s.reportUe b (s.reg (rsvKey b 0x18)) 1
    let (bank, sub) := rsvPlace x
    s.takeSubarray b bank sub
  | _, _ => s

/-- No bit of a granule is wrong any longer. -/
def State.clearErr (s : State) (g : Nat) : State := { s with errs := tblErase s.errs g }

/-- What ECC finds when granule `g` is read from memory (R219). -/
def State.eccRead (s : State) (scrub : Bool) (g : Nat) : State :=
  match tblGet 0 s.errs g with
  | 0 => s
  | 1 => (s.clearErr g).eccFixed scrub g
  | _ => (s.clearErr g).eccLost scrub g

/-- Bits flip in a granule: one in a codeword, or two (R218, R227). -/
def State.strike (s : State) (e : EccEvent) : State :=
  let set (a n : Nat) : State :=
    if (s.lpddrPlace a).isSome || (s.target a).memBasin.isSome then
      { s with errs := tblSet 0 s.errs (a / 64) (max n (tblGet 0 s.errs (a / 64))) }
    else s
  match e with
  | .fixed a => set a 1
  | .lost a => set a 2

/-- The bit errors that have come up by the time of a command. -/
def State.strikes (s : State) (es : List EccEvent) : State := es.foldl State.strike s

end Sys2Proof.Machine
end

