-- ==== Sys2Proof/Machine/Home.lean ====
section
/-!
DEFINITION. The homes of a Line's memory and their directories (R293 to R298): agents, copies, transactions, snoops and
their answers, write-backs that cross snoops, requests that wait, and the accesses of cacheless agents at the home.
-/
namespace Sys2Proof.Machine

/-- The caching agent whose dirty copy of a line is newest: the directory's owner, when its copy is M or O (R294). -/
def State.dirtyOwner (s : State) (g : Nat) : Option (Nat × CacheLine) :=
  let own (o : Nat) : Option (Nat × CacheLine) :=
    match tblGet none s.coh.caches (o * 2 ^ 46 + g) with
    | some c => if c.st = .m ∨ c.st = .o then some (o, c) else none
    | none => none
  match tblGet DirEntry.inv s.coh.dir g with
  | .owned o => own o
  | .ownedShared o _ => own o
  | _ => none

/-- The data of a line that is on its way: in a snoop response, at its home in an open transaction, or in a write-back
(R297). -/
def State.movingData (s : State) (g : Nat) : Option (List Byte × Bool) :=
  let answer := (s.coh.resps.find? fun r => r.line == g && r.data.isSome).bind (·.data)
  let held := (s.coh.txns.find? fun t => t.line == g).bind (·.data)
  let sent := (s.coh.wbs.find? fun w => w.line == g && !w.arrived).map fun w => (w.data, w.poison)
  answer <|> held <|> sent

/-- The current data and poison of a granule: a dirty owner's copy, data on its way, or memory. -/
def State.granule (s : State) (g : Nat) : List Byte × Bool :=
  match s.dirtyOwner g with
  | some (_, c) => (c.data, c.poison)
  | none => (s.movingData g).getD (memBytes s.mem (g * 64) 64, tblGet false s.poison g)

/-- Removes every cached copy of a line and its directory record, and drops LR reservations on it (R295, R410). -/
def State.dropCopies (s : State) (g : Nat) : State :=
  { s with
    coh := { s.coh with
      caches := s.coh.caches.filter fun e => e.1 % 2 ^ 46 != g
      dir := tblErase s.coh.dir g
      wbs := s.coh.wbs.map fun w => if w.line = g then { w with arrived := true } else w }
    harts := s.harts.map fun e => (e.1, if e.2.reservation = some g then { e.2 with reservation := none } else e.2) }


/-! Agents, copies and the directory. -/

/-- A caching agent of the Line led by `l`: the L2 of an active core, or the L3 quarter of a member basin (R293, R302). -/
def State.cachingAgent (s : State) (l a : Nat) : Bool :=
  if a < 128 then s.hartActive l a else decide (a < 136) && s.leaderOf (a - 128) == l

/-- The Line whose memory holds line `g`, or 8. -/
def State.lineHome (s : State) (g : Nat) : Nat :=
  match (s.target (g * 64)).memBasin with
  | some b => s.leaderOf b
  | none => 8

/-- Agent `a` may take part in coherence on line `g`: it belongs to the Line whose memory holds `g`, which is neither OFF
nor stopped. -/
def State.cohLive (s : State) (a g : Nat) : Bool :=
  decide (s.lineHome g < 8) && s.cachingAgent (s.lineHome g) a && (s.line (s.lineHome g)).st.works

/-- Agent `a`'s copy of line `g`. -/
def State.copy (s : State) (a g : Nat) : Option CacheLine := tblGet none s.coh.caches (a * 2 ^ 46 + g)

/-- Sets agent `a`'s copy of line `g`. -/
def State.setCopy (s : State) (a g : Nat) (c : Option CacheLine) : State :=
  { s with coh := { s.coh with caches := tblSet none s.coh.caches (a * 2 ^ 46 + g) c } }

/-- The agents that hold a copy of line `g`, ascending. -/
def State.holders (s : State) (g : Nat) : List Nat :=
  (s.coh.caches.filter fun e => e.1 % 2 ^ 46 == g).map fun e => e.1 / 2 ^ 46

/-- A write-back of line `g` that has not arrived. -/
def State.wbFlying (s : State) (g : Nat) : Option WriteBackMsg := s.coh.wbs.find? fun w => w.line == g && !w.arrived

/-- Agent `a` awaits the WbAck of a write-back of line `g`. -/
def State.wbOf (s : State) (a g : Nat) : Option WriteBackMsg := s.coh.wbs.find? fun w => w.agent == a && w.line == g

/-- Forms the directory record of line `g` from the copies of it (R294). An agent whose write-back has not arrived is
still recorded as owner. -/
def State.redirect (s : State) (g : Nat) : State :=
  let hs := s.holders g
  let st (a : Nat) : Option Moesi := (s.copy a g).map (·.st)
  let owner : Option Nat := match hs.find? fun a => st a != some .s with
    | some a => some a
    | none => (s.wbFlying g).map (·.agent)
  let sharers := hs.filter fun a => some a != owner
  let d : DirEntry := match owner with
    | some o => if st o = some .o ∨ sharers ≠ [] then .ownedShared o sharers else .owned o
    | none => if sharers = [] then .inv else .shared sharers
  { s with coh := { s.coh with dir := tblSet .inv s.coh.dir g d } }

/-- The directory's owner of a line. -/
def DirEntry.owner : DirEntry → Option Nat
  | .owned o | .ownedShared o _ => some o
  | _ => none

/-- The agents that the directory records. -/
def DirEntry.agents : DirEntry → List Nat
  | .inv => []
  | .shared as => as
  | .owned o => [o]
  | .ownedShared o as => o :: as

/-- The directory record of line `g`. -/
def State.dirOf (s : State) (g : Nat) : DirEntry := tblGet .inv s.coh.dir g

/-- Drops agent `a`'s copy of line `g`, and its LR reservation (R410). -/
def State.dropCopy (s : State) (a g : Nat) : State :=
  (s.setCopy a g none).modHart a fun c => if c.reservation = some g then { c with reservation := none } else c

/-! Transactions at the home. -/

/-- The open transaction on line `g`: a home serves one at a time for a line. -/
def State.txnOf (s : State) (g : Nat) : Option CohTxn := s.coh.txns.find? fun t => t.line == g

/-- Replaces the open transaction on a line. -/
def State.setTxn (s : State) (g : Nat) (t : Option CohTxn) : State :=
  { s with coh := { s.coh with txns := (s.coh.txns.filter fun x => x.line != g) ++ t.toList } }

/-- Lines that an agent's cache holds: 2 MiB of L2, or a basin's quarter of 96 MiB of L3 (R4, R15, R17). -/
def cacheLines (a : Nat) : Nat := if a < 128 then 32768 else 393216

/-- A core's cache that is full gives up a line: one that is dirty is written back (R294). Which line is not stated. -/
def State.evictFor (s : State) (a g : Nat) : State :=
  let mine := (s.coh.caches.filter fun e => e.1 / 2 ^ 46 == a).map (·.1 % 2 ^ 46)
  if mine.length < cacheLines a then s
  else
    let free := mine.filter fun x => x != g && (s.txnOf x).isNone
    match free[s.free % free.length]? with
    | some x =>
      let s := s.bump
      let s : State := match s.copy a x with
        | some c =>
          if decide (c.st = .m ∨ c.st = .o) && (s.onFailed (x * 64)).isNone then s.putGranule x c.data c.poison else s
        | none => s
      (s.dropCopy a x).redirect x
    | none => s

/-- A home whose directory is full makes room: the holders of a victim line drop it, and dirty data is written back
(R298). How many entries there are, and which is the victim, is not stated. -/
def State.makeRoom (s : State) (g : Nat) : State :=
  match (s.target (g * 64)).memBasin with
  | none => s
  | some b =>
    let used := (s.coh.dir.filter fun e => e.1 != g && (s.target (e.1 * 64)).memBasin == some b && (s.txnOf e.1).isNone).map (·.1)
    if used.isEmpty || decide (used.length < Config.dirEntries b) then s
    else
      let x := used.getD (s.free % used.length) 0
      let s := s.bump
      let s : State := match s.dirtyOwner x with
        | some (_, c) => if (s.onFailed (x * 64)).isNone then s.putGranule x c.data c.poison else s
        | none => s
      (s.dropCopies x).count (xlKey (s.leaderOf b) 0x48) 1

/-- Agent `a` comes to hold line `g` in a state, with data. -/
def State.hold (s : State) (a g : Nat) (st : Moesi) (d : List Byte × Bool) : State :=
  (((s.evictFor a g).setCopy a g (some { st := st, data := d.1, poison := d.2 })).redirect g).makeRoom g

/-- Grants line `g` to agent `a` in a state, with data. -/
def State.grant (s : State) (a g : Nat) (st : Moesi) (d : List Byte × Bool) : State :=
  (s.hold a g st d).emit (.cohData a g d.1 d.2 (st != .s))

/-- A granule is read at its home, which no transaction on it occupies: from a dirty owner, or from memory under ECC
(R219, R226, R295). -/
def State.readNow (s : State) (g : Nat) : (List Byte × Bool) × State :=
  match s.onFailed (g * 64) with
  | some b =>
    let (d, s) := (s.count (memKey b 0x20) 1).freeBytes 64
    ((d, true), s)
  | none =>
    let s := if (s.dirtyOwner g).isSome then s else s.eccRead false g
    (s.granule g, s)

/-- A write of part or all of one granule at its home: copies are invalidated, dirty data is merged into a partial
write, and a partial write leaves a poisoned granule poisoned (R228, R295). -/
def State.writeNow (s : State) (a : Nat) (data : List Byte) (poison : Bool) : State :=
  let g := a / 64
  match s.onFailed a with
  | some _ => s.dropCopies g
  | none =>
    if data.length = 64 then (s.dropCopies g).putGranule g data poison
    else
      let s := if (s.dirtyOwner g).isSome then s else s.eccRead false g
      let (old, p) := s.granule g
      (s.dropCopies g).putGranule g (old.take (a % 64) ++ data ++ old.drop (a % 64 + data.length)) (p || poison)

/-- The data of a line at its home: what a snoop returned, or memory. -/
def State.homeData (s : State) (g : Nat) : Option (List Byte × Bool) → (List Byte × Bool) × State
  | some d => (d, s)
  | none => s.readNow g

/-- Ends a transaction whose snoops are all answered (R294, R295): from the returned data, or from memory. -/
def State.finishTxn (s : State) (t : CohTxn) : State :=
  let s := s.setTxn t.line none
  let own : Option (List Byte × Bool) := match t.req with
    | .upgrade => (s.copy t.requester t.line).map fun c => (c.data, c.poison)
    | _ => none
  match t.req with
  | .readShared =>
    let (d, s) := s.homeData t.line t.data
    s.grant t.requester t.line .s d
  | .readUnique | .upgrade =>
    let (d, s) := s.homeData t.line (own <|> t.data)
    s.grant t.requester t.line .m d
  | .read off n =>
    let (d, s) := s.homeData t.line t.data
    s.emit (.cacheless t.line ((d.1.drop off).take n) d.2)
  | .wholeWrite data poison => s.writeNow (t.line * 64) data poison
  | .partWrite off data poison =>
    let s := match t.data, s.onFailed (t.line * 64) with
      | some d, none => s.putGranule t.line d.1 d.2
      | _, _ => s
    s.writeNow (t.line * 64 + off) data poison

/-- Ends the transaction on line `g` where nothing is awaited. -/
def State.homeSettle (s : State) (g : Nat) : State :=
  match s.txnOf g with
  | some t => if t.waiting = [] ∧ t.held = [] then s.finishTxn t else s
  | none => s

/-- Opens a transaction that snoops `who`; with none to snoop it ends at once. -/
def State.openTxn (s : State) (a g : Nat) (req : CohReq) (kind : SnoopKind) (who : List Nat) (since : Nat) : State :=
  let code := match kind with | .shared => 0 | .invalidate => 1 | .readNoAlloc => 2
  let s := who.foldl (fun s x => s.emit (.snoop x g code)) s
  (s.setTxn g (some { line := g, requester := a, req := req, kind := kind, waiting := who, since := since })).homeSettle g

/-- The home serves a request on line `g`, on which nothing else is open (R294, R295). A core's request that its copy of the
line does not admit changes nothing. -/
def State.startReq (s : State) (a g : Nat) (req : CohReq) (since : Nat) : State :=
  match req with
  | .readShared =>
    if (s.copy a g).isSome then s
    else
      match s.dirOf g with
      | .inv =>
        let (d, s) := s.readNow g
        s.grant a g .e d
      | d => s.openTxn a g req .shared d.owner.toList since
  | .readUnique => if (s.copy a g).isSome then s else s.openTxn a g req .invalidate (s.dirOf g).agents since
  | .upgrade =>
    match s.copy a g with
    | some c =>
      if c.st = .s ∨ c.st = .o then s.openTxn a g req .invalidate ((s.dirOf g).agents.filter fun x => x != a) since else s
    | none => s
  | .read off n =>
    match s.onFailed (g * 64), (s.dirOf g).owner with
    | none, some o => s.openTxn a g req .readNoAlloc [o] since
    | _, _ =>
      let (d, s) := s.readNow g
      s.emit (.cacheless g ((d.1.drop off).take n) d.2)
  | .wholeWrite _ _ | .partWrite _ _ _ => s.openTxn a g req .invalidate (s.dirOf g).agents since

/-- The home is not free for a request of agent `a` on line `g`: a transaction is open on the line, or the agent's own
write-back of it has not been acknowledged. -/
def State.homeBusy (s : State) (a g : Nat) : Bool := (s.txnOf g).isSome || (s.wbOf a g).isSome

/-- A request reaches its home: it is served, or it waits (R294, R295, R297). -/
def State.request (s : State) (a g : Nat) (req : CohReq) : State :=
  if s.homeBusy a g || s.coh.waits.any (·.line == g) then
    { s with coh := { s.coh with waits := s.coh.waits ++ [{ agent := a, line := g, req := req, since := s.time }] } }
  else s.startReq a g req s.time

/-- The home serves requests that wait on line `g`, in the order of their arrival, as far as it is free for them. -/
def State.serveLine (s : State) (g : Nat) : State :=
  (s.coh.waits.filter fun w => w.line == g).foldl (fun s w =>
    if s.homeBusy w.agent g then s
    else { s with coh := { s.coh with waits := s.coh.waits.erase w } }.startReq w.agent g w.req w.since) s

/-! Snoops (R294, R295, R297). -/

/-- The NoData of agent `a` for line `g` answers a write-back that crossed a snoop. -/
def State.crossed (s : State) (a g : Nat) (kind : SnoopKind) : Bool :=
  match s.wbOf a g with
  | some w => w.cross == some kind
  | none => false

/-- What a snoop does at the agent: its answer and its copy. -/
def snoopCopy (kind : SnoopKind) (c : CacheLine) : Option (List Byte × Bool) × Option CacheLine :=
  let dirty := decide (c.st = .m ∨ c.st = .o)
  let answer := if dirty then some (c.data, c.poison) else none
  match kind with
  | .shared => (answer, some { c with st := if dirty then .o else .s })
  | .invalidate => (answer, none)
  | .readNoAlloc => (answer, some c)

/-- A snoop reaches agent `a`. -/
def State.snoop (s : State) (a g : Nat) (kind : SnoopKind) : State :=
  let awaited := match s.txnOf g with
    | some t => t.kind == kind && t.waiting.contains a
    | none => false
  let answered := s.coh.resps.any fun r => r.agent == a && r.line == g
  if (awaited || s.crossed a g kind) && !answered then
    let (answer, next) : Option (List Byte × Bool) × Option CacheLine := match s.copy a g with
      | some c => snoopCopy kind c
      | none => (none, none)
    let s := match next with
      | some c => s.setCopy a g (some c)
      | none => s.dropCopy a g
    { s with coh := { s.coh with resps := s.coh.resps ++ [{ agent := a, line := g, data := answer }] } }
  else s

/-- Forgets a response in flight. -/
def State.takeResp (s : State) (r : SnoopResp) : State :=
  { s with coh := { s.coh with resps := s.coh.resps.filter fun x => !(x.agent == r.agent && x.line == r.line) } }

/-- Sends the WbAck of a write-back that has arrived. -/
def State.ackWb (s : State) (a g : Nat) : State :=
  { s with coh := { s.coh with wbs := s.coh.wbs.map fun (w : WriteBackMsg) =>
      if w.agent == a && w.line == g then { w with arrived := true, cross := none } else w } }.emit (.wbAck a g)

/-- A snoop response arrives at the home: it completes its part of the transaction; a NoData whose write-back is on its way
is held; and one whose write-back has been taken is discarded (R297). -/
def State.respond (s : State) (a g : Nat) : State :=
  match s.coh.resps.find? fun r => r.agent == a && r.line == g with
  | none => s
  | some r =>
    let s := s.takeResp r
    let wb := s.wbOf a g
    let late := match wb with
      | some w => w.cross.isSome
      | none => false
    if late then s.ackWb a g
    else
      match s.txnOf g with
      | none => s
      | some t =>
        let waiting := t.waiting.filter fun x => x != a
        let flying := match wb with
          | some w => !w.arrived
          | none => false
        if r.data.isNone && flying && (s.dirOf g).owner == some a then
          s.setTxn g (some { t with waiting := waiting, held := a :: t.held })
        else
          let s := { s with coh := { s.coh with evicts := s.coh.evicts.filter fun e => e != (a, g) } }
          let t := { t with waiting := waiting, data := match r.data with | some d => some d | none => t.data }
          ((s.setTxn g (some t)).homeSettle g)

/-! Write-backs and CleanEvicts (R294, R297). -/

/-- A write-back arrives at the home: it is written to memory, and it is the answer to a snoop of its sender that is
outstanding. -/
def State.wbArrive (s : State) (w : WriteBackMsg) : State :=
  let g := w.line
  let a := w.agent
  let s := if (s.onFailed (g * 64)).isSome then s else s.putGranule g w.data w.poison
  let mark (cross : Option SnoopKind) (s : State) : State :=
    { s with coh := { s.coh with wbs := s.coh.wbs.map fun x =>
        if x.agent == a && x.line == g then { x with arrived := true, cross := cross } else x } }
  match s.txnOf g with
  | some t =>
    if t.waiting.contains a || t.held.contains a then
      let t' := { t with waiting := t.waiting.filter (· != a), held := t.held.filter (· != a),
                         data := some (w.data, w.poison) }
      let s := if t.held.contains a then (mark none s).emit (.wbAck a g) else mark (some t.kind) s
      (((s.redirect g).setTxn g (some t')).homeSettle g)
    else ((mark none s).redirect g).emit (.wbAck a g)
  | none => ((mark none s).redirect g).emit (.wbAck a g)

/-- CLEAN_EVICT: an agent drops a clean copy. One that crosses a snoop changes nothing at the home. -/
def State.cleanEvict (s : State) (a g : Nat) : State :=
  match s.copy a g with
  | some c =>
    if s.cohLive a g && decide (c.st = .e ∨ c.st = .s) then
      let s := s.dropCopy a g
      match s.txnOf g with
      | some t =>
        if t.waiting.contains a then { s with coh := { s.coh with evicts := s.coh.evicts ++ [(a, g)] } } else s.redirect g
      | none => s.redirect g
    else s
  | none => s

/-- WB_ACK: the WbAck reaches the core. -/
def State.wbAck (s : State) (a g : Nat) : State :=
  match s.wbOf a g with
  | some w =>
    if w.arrived && w.cross.isNone then
      { s with coh := { s.coh with wbs := s.coh.wbs.filter fun x => !(x.agent == a && x.line == g) } }
    else s
  | none => s

/-! Accesses of engines. -/

/-- An access that meets an open transaction, or a write-back on its way, carries it to its end first: the write-back
arrives, the snoops reach their agents, and the answers their home (DESIGN CHOICE: a home serves one transaction at a time
on a line, and in this model an engine's access is one step; notes/assumptions). -/
def State.settleLine (s : State) (g : Nat) : State :=
  let s := match s.wbFlying g with
    | some w => s.wbArrive w
    | none => s
  match s.txnOf g with
  | some t => t.waiting.foldl (fun s a => (s.snoop a g t.kind).respond a g) s
  | none => s

/-- A granule is read by a cacheless agent (R295). -/
def State.readHome (s : State) (g : Nat) : (List Byte × Bool) × State := (s.settleLine g).readNow g

/-- A granule is written by a cacheless agent, in part or whole (R295). Requests that have waited are served then. -/
def State.storeHome (s : State) (a : Nat) (data : List Byte) (poison : Bool) : State :=
  ((s.settleLine (a / 64)).writeNow a data poison).serveLine (a / 64)

/-- What a write at the home of line `g` is merged into: its present data, read under ECC where the write is partial. -/
def State.mergeBase (s : State) (g : Nat) (whole : Bool) : State :=
  let s := s.settleLine g
  if whole || (s.dirtyOwner g).isSome then s else s.eccRead false g

end Sys2Proof.Machine
end

