-- ==== Sys2Proof/Machine/Numeric.lean ====
section
/-!
DEFINITION. Number formats, rounding and conversion (03_number_formats.md, R81 to R96), the grid's carried
format (R97 to R102) and exact arithmetic on binary values. Every finite value is exact here: a sign, a natural
mantissa and a power of two, so that each rounding of the spec is one visible call.
-/
namespace Sys2Proof.Machine

/-- An exact value: a NaN, an infinity, or (-1)^neg × m × 2^e. A zero keeps its sign. -/
inductive Num where
  | nan
  | inf (neg : Bool)
  | fin (neg : Bool) (m : Nat) (e : Int)
deriving DecidableEq, Repr

/-- A floating-point format of R81. `maxM × 2^maxE` is its largest finite value. -/
structure FloatFmt where
  ebits : Nat
  mbits : Nat
  bias : Nat
  hasInf : Bool
  hasNan : Bool
  maxM : Nat
  maxE : Int
  nanCode : Nat
deriving DecidableEq, Repr

/-- The rows of R81 and R82. -/
def fp32 : FloatFmt := ⟨8, 23, 127, true, true, 0xFFFFFF, 104, 0x7FC00000⟩
def bf16 : FloatFmt := ⟨8, 7, 127, true, true, 0xFF, 120, 0x7FC0⟩
def fp16 : FloatFmt := ⟨5, 10, 15, true, true, 0x7FF, 5, 0x7E00⟩
def e4m3 : FloatFmt := ⟨4, 3, 7, false, true, 14, 5, 0x7F⟩
def e5m2 : FloatFmt := ⟨5, 2, 15, true, true, 7, 13, 0x7E⟩
def e3m2 : FloatFmt := ⟨3, 2, 3, false, false, 7, 2, 0⟩
def e2m3 : FloatFmt := ⟨2, 3, 1, false, false, 15, -1, 0⟩
def e2m1 : FloatFmt := ⟨2, 1, 1, false, false, 3, 1, 0⟩

/-- The width of a format in bits. -/
def FloatFmt.width (f : FloatFmt) : Nat := 1 + f.ebits + f.mbits

/-- The exponent of the format's smallest subnormal. -/
def FloatFmt.minExp (f : FloatFmt) : Int := 1 - (f.bias : Int) - (f.mbits : Int)

/-- `m × 2^e` as a multiple of `2^t`, rounded toward zero when bits fall below. -/
def shiftTo (m : Nat) (e t : Int) : Nat :=
  if t ≤ e then m <<< (e - t).toNat else m >>> (t - e).toNat

/-- The bits that an encoding spells (R81). -/
def decodeFloat (f : FloatFmt) (code : Nat) : Num :=
  let m := bits code 0 f.mbits
  let e := bits code f.mbits f.ebits
  let neg := bit code (f.mbits + f.ebits)
  if f.hasInf && e == 2 ^ f.ebits - 1 then
    if m == 0 then .inf neg else .nan
  else if f.hasNan && !f.hasInf && e == 2 ^ f.ebits - 1 && m == 2 ^ f.mbits - 1 then .nan
  else if e == 0 then .fin neg m f.minExp
  else .fin neg (2 ^ f.mbits + m) ((e : Int) - f.bias - f.mbits)

/-- The encoding of a value that the format holds exactly; a NaN is the canonical one (R82). -/
def encodeFloat (f : FloatFmt) : Num → Nat
  | .nan => f.nanCode
  | .inf neg => ofBool neg * 2 ^ (f.ebits + f.mbits) + (2 ^ f.ebits - 1) * 2 ^ f.mbits
  | .fin neg m e =>
    let s := ofBool neg * 2 ^ (f.ebits + f.mbits)
    if m = 0 then s else
      let top : Int := e + (m.log2 : Nat)
      if top < 1 - (f.bias : Int) then s + shiftTo m e f.minExp
      else
        let lsb := top - f.mbits
        s + ((top + f.bias).toNat) * 2 ^ f.mbits + (shiftTo m e lsb - 2 ^ f.mbits)

/-- `m / 2^sh` rounded to the nearest integer, ties to even (R85). -/
def rneShift (m sh : Nat) : Nat :=
  let q := m >>> sh
  let r := m % 2 ^ sh
  if sh = 0 then q
  else if r > 2 ^ (sh - 1) then q + 1
  else if r = 2 ^ (sh - 1) then q + q % 2
  else q

/-- `m × 2^e` rounded to a multiple of `2^t`, ties to even; the answer is in units of `2^t`. -/
def rneTo (m : Nat) (e t : Int) : Nat :=
  if t ≤ e then m <<< (e - t).toNat else rneShift m (t - e).toNat

/-- Rounds to `p` significant bits and, when a floor is given, to no finer unit than `2^floor` (R85). -/
def roundSig (p : Nat) (floor : Option Int) (m : Nat) (e : Int) : Nat × Int :=
  if m = 0 then (0, e) else
    let t : Int := e + (m.log2 : Nat) + 1 - p
    let t := match floor with | none => t | some f => max t f
    if t ≤ e then (m, e) else (rneTo m e t, t)

/-- Compares two magnitudes: is `a × 2^ea` greater than `b × 2^eb`? -/
def magGt (a : Nat) (ea : Int) (b : Nat) (eb : Int) : Bool :=
  let t := min ea eb
  decide (shiftTo a ea t > shiftTo b eb t)

/-- A converted value with its counts of R105. -/
structure Conv (α : Type) where
  val : α
  sat : Nat
  flush : Nat
deriving DecidableEq, Repr

/-- R87, R88 and R89: conversion to a floating-point format. `flushes` says that the engine flushes the format's
subnormals (R91) and `grid` that a flushed zero is +0 (R89). -/
def convert (f : FloatFmt) (flushes grid : Bool) : Num → Conv Num
  | .nan => if f.hasNan then ⟨.nan, 0, 0⟩ else ⟨.fin false 0 0, 1, 0⟩
  | .inf neg => if f.hasInf then ⟨.inf neg, 0, 0⟩ else ⟨.fin neg f.maxM f.maxE, 1, 0⟩
  | .fin neg m e =>
    if m = 0 then ⟨.fin (neg && !(flushes && grid)) 0 0, 0, 0⟩
    else if flushes then
      let r := roundSig (f.mbits + 1) none m e
      if magGt r.1 r.2 f.maxM f.maxE then ⟨.fin neg f.maxM f.maxE, 1, 0⟩
      else if magGt 1 (1 - (f.bias : Int)) r.1 r.2 then ⟨.fin (neg && !grid) 0 0, 0, 1⟩
      else ⟨.fin neg r.1 r.2, 0, 0⟩
    else
      let r := roundSig (f.mbits + 1) (some f.minExp) m e
      if magGt r.1 r.2 f.maxM f.maxE then ⟨.fin neg f.maxM f.maxE, 1, 0⟩
      else if r.1 = 0 then ⟨.fin neg 0 0, 0, 1⟩
      else ⟨.fin neg r.1 r.2, 0, 0⟩

/-- R88, R90: conversion to a two's-complement integer of `w` bits. -/
def convertInt (w : Nat) : Num → Conv Int
  | .nan => ⟨0, 1, 0⟩
  | .inf neg => ⟨if neg then -(2 ^ (w - 1) : Nat) else (2 ^ (w - 1) : Nat) - 1, 1, 0⟩
  | .fin neg m e =>
    let q := rneTo m e 0
    let i : Int := if neg then -(q : Int) else q
    if i > (2 ^ (w - 1) : Nat) - 1 then ⟨(2 ^ (w - 1) : Nat) - 1, 1, 0⟩
    else if i < -(2 ^ (w - 1) : Nat) then ⟨-(2 ^ (w - 1) : Nat), 1, 0⟩
    else ⟨i, 0, if q = 0 ∧ m ≠ 0 then 1 else 0⟩

/-- The exact value of an integer. -/
def ofInt (i : Int) : Num := .fin (decide (i < 0)) i.natAbs 0

/-! Exact arithmetic with the special-value rules of R99 and R201. -/

/-- The sign of a value; a NaN counts as positive. -/
def Num.isNeg : Num → Bool
  | .nan => false
  | .inf n => n
  | .fin n _ _ => n

def Num.isNan : Num → Bool
  | .nan => true
  | _ => false

/-- Is the value a zero of either sign? -/
def Num.isZero : Num → Bool
  | .fin _ m _ => m == 0
  | _ => false

def Num.neg : Num → Num
  | .nan => .nan
  | .inf n => .inf (!n)
  | .fin n m e => .fin (!n) m e

def Num.abs : Num → Num
  | .nan => .nan
  | .inf _ => .inf false
  | .fin _ m e => .fin false m e

/-- A finite value as an integer in units of `2^t`, for `t` no greater than its exponent. -/
def intAt (neg : Bool) (m : Nat) (e t : Int) : Int :=
  if neg then -(shiftTo m e t : Int) else shiftTo m e t

/-- Exact sum. An exact zero is -0 only when both addends are -0 (R201). -/
def Num.add : Num → Num → Num
  | .nan, _ => .nan
  | _, .nan => .nan
  | .inf a, .inf b => if a = b then .inf a else .nan
  | .inf a, .fin _ _ _ => .inf a
  | .fin _ _ _, .inf b => .inf b
  | .fin na ma ea, .fin nb mb eb =>
    if ma = 0 then (if mb = 0 then .fin (na && nb) 0 0 else .fin nb mb eb)
    else if mb = 0 then .fin na ma ea
    else
      let t := min ea eb
      let i := intAt na ma ea t + intAt nb mb eb t
      .fin (decide (i < 0)) i.natAbs t

def Num.sub (a b : Num) : Num := a.add b.neg

/-- Exact product. A zero carries the exclusive OR of the signs (R201). -/
def Num.mul : Num → Num → Num
  | .nan, _ => .nan
  | _, .nan => .nan
  | .inf a, .inf b => .inf (a != b)
  | .inf a, .fin nb mb _ => if mb = 0 then .nan else .inf (a != nb)
  | .fin na ma _, .inf b => if ma = 0 then .nan else .inf (na != b)
  | .fin na ma ea, .fin nb mb eb => .fin (na != nb) (ma * mb) (ea + eb)

/-- Quotient. An inexact quotient carries one sticky bit below at least 64 significant bits, which every rounding
to 24 bits or fewer treats as the exact quotient. -/
def Num.div : Num → Num → Num
  | .nan, _ => .nan
  | _, .nan => .nan
  | .inf _, .inf _ => .nan
  | .inf a, .fin nb _ _ => .inf (a != nb)
  | .fin na _ _, .inf b => .fin (na != b) 0 0
  | .fin na ma ea, .fin nb mb eb =>
    if mb = 0 then (if ma = 0 then .nan else .inf (na != nb))
    else if ma = 0 then .fin (na != nb) 0 0
    else
      let k := 64 + mb.log2
      let n := ma <<< k
      let q := n / mb
      .fin (na != nb) (2 * q + ofBool (n % mb != 0)) (ea - eb - (k : Int) - 1)

/-- The integer square root by bisection on `fuel` bits. -/
def isqrtAux : (fuel acc n : Nat) → Nat
  | 0, acc, _ => acc
  | k + 1, acc, n =>
    let c := acc + 2 ^ k
    isqrtAux k (if c * c ≤ n then c else acc) n

def isqrt (n : Nat) : Nat := isqrtAux (n.log2 / 2 + 1) 0 n

/-- Square root, with a sticky bit as in `Num.div`. -/
def Num.sqrt : Num → Num
  | .nan => .nan
  | .inf n => if n then .nan else .inf false
  | .fin n m e =>
    if m = 0 then .fin n 0 0
    else if n then .nan
    else
      let k : Nat := if e % 2 = 0 then 128 else 129
      let v := m <<< k
      let r := isqrt v
      .fin false (2 * r + ofBool (r * r != v)) ((e - (k : Int)) / 2 - 1)

/-- Is `a` less than `b`? A NaN is never ordered; -0 equals +0. -/
def Num.lt (a b : Num) : Bool :=
  match a, b with
  | .nan, _ => false
  | _, .nan => false
  | .inf na, .inf nb => na && !nb
  | .inf na, .fin _ _ _ => na
  | .fin _ _ _, .inf nb => !nb
  | .fin na ma ea, .fin nb mb eb =>
    let t := min ea eb
    decide (intAt na ma ea t < intAt nb mb eb t)

/-- Equality of values; a NaN equals nothing and -0 equals +0. -/
def Num.eq (a b : Num) : Bool :=
  match a, b with
  | .nan, _ => false
  | _, .nan => false
  | .inf na, .inf nb => na == nb
  | .inf _, .fin _ _ _ => false
  | .fin _ _ _, .inf _ => false
  | .fin na ma ea, .fin nb mb eb =>
    let t := min ea eb
    decide (intAt na ma ea t = intAt nb mb eb t)

/-- The order of R104, in which -0 lies below +0. -/
def Num.below (a b : Num) : Bool :=
  if a.isZero && b.isZero then a.isNeg && !b.isNeg else a.lt b

/-- max and min under R104 and R201. -/
def Num.max (a b : Num) : Num :=
  if a.isNan || b.isNan then .nan else if a.below b then b else a

def Num.min (a b : Num) : Num :=
  if a.isNan || b.isNan then .nan else if b.below a then b else a

/-! FP32 results of R201. -/

/-- A FP32 word with the counts of the operation that made it. -/
abbrev F32 := Conv Nat

/-- R201: one rounding to FP32 under R87, with subnormals honoured. -/
def toF32 (x : Num) : F32 :=
  let c := convert fp32 false false x
  ⟨encodeFloat fp32 c.val, c.sat, c.flush⟩

/-- The value of FP32 bits. -/
def ofF32 (code : Nat) : Num := decodeFloat fp32 code

/-- Is the FP32 encoding subnormal and nonzero? -/
def isSubnormal (f : FloatFmt) (code : Nat) : Bool :=
  bits code f.mbits f.ebits == 0 && bits code 0 f.mbits != 0

/-! Element formats of R152. -/

/-- The element formats of R152 with their codes 0x0 to 0xC. -/
inductive Fmt where
  | fp32 | bf16 | fp16 | e4m3 | e5m2
  | mx8e4m3 | mx8e5m2 | mx6e3m2 | mx6e2m3 | mx4
  | int8 | int4 | int32
deriving DecidableEq, Repr

/-- R152: codes 0xD to 0xF are reserved. -/
def fmtOfCode : Nat → Option Fmt
  | 0x0 => some .fp32 | 0x1 => some .bf16 | 0x2 => some .fp16 | 0x3 => some .e4m3
  | 0x4 => some .e5m2 | 0x5 => some .mx8e4m3 | 0x6 => some .mx8e5m2 | 0x7 => some .mx6e3m2
  | 0x8 => some .mx6e2m3 | 0x9 => some .mx4 | 0xA => some .int8 | 0xB => some .int4
  | 0xC => some .int32 | _ => none

/-- Element width in bits. -/
def fmtWidth : Fmt → Nat
  | .fp32 => 32 | .bf16 => 16 | .fp16 => 16 | .e4m3 => 8 | .e5m2 => 8 | .mx8e4m3 => 8 | .mx8e5m2 => 8
  | .mx6e3m2 => 6 | .mx6e2m3 => 6 | .mx4 => 4 | .int8 => 8 | .int4 => 4 | .int32 => 32

/-- Is the format one whose blocks carry a scale (R83)? -/
def fmtIsMx : Fmt → Bool
  | .mx8e4m3 | .mx8e5m2 | .mx6e3m2 | .mx6e2m3 | .mx4 => true
  | _ => false

def fmtIsInt : Fmt → Bool
  | .int8 | .int4 | .int32 => true
  | _ => false

/-- The floating-point encoding of an element; the integer formats are read by `signed`. -/
def fmtFloat : Fmt → FloatFmt
  | .fp32 => Machine.fp32 | .bf16 => Machine.bf16 | .fp16 => Machine.fp16
  | .e4m3 | .mx8e4m3 => Machine.e4m3
  | .e5m2 | .mx8e5m2 => Machine.e5m2
  | .mx6e3m2 => Machine.e3m2 | .mx6e2m3 => Machine.e2m3 | .mx4 => Machine.e2m1
  | .int8 | .int4 | .int32 => Machine.fp32

/-- EMAX of R92. -/
def fmtEmax : Fmt → Int
  | .mx8e4m3 => 8 | .mx8e5m2 => 15 | .mx6e3m2 => 4 | .mx6e2m3 => 2 | .mx4 => 2
  | _ => 0

/-- The exact value of an element; `scale` is its block's E8M0 byte (R83). -/
def elemValue (f : Fmt) (code scale : Nat) : Num :=
  if fmtIsInt f then ofInt (signed (fmtWidth f) code)
  else if fmtIsMx f then
    if scale = 0xFF then .nan
    else match decodeFloat (fmtFloat f) code with
      | .fin n m e => .fin n m (e + (scale : Int) - 127)
      | x => x
  else decodeFloat (fmtFloat f) code

/-- An element converted to a non-MX format under R87 or R90, as its encoding. -/
def convertElem (f : Fmt) (flushes grid : Bool) (x : Num) : Conv Nat :=
  if fmtIsInt f then
    let c := convertInt (fmtWidth f) x
    ⟨wrapInt (fmtWidth f) c.val, c.sat, c.flush⟩
  else
    let c := convert (fmtFloat f) flushes grid x
    ⟨encodeFloat (fmtFloat f) c.val, c.sat, c.flush⟩

/-! MX blocks. -/

/-- The magnitude that R92 takes of one value. -/
def mxMag : Num → Nat × Int
  | .nan => (0, 0)
  | .inf _ => (fp32.maxM, fp32.maxE)
  | .fin _ m e => (m, e)

/-- The largest magnitude of a list. -/
def mxMax : List Num → Nat × Int
  | [] => (0, 0)
  | x :: r =>
    let a := mxMag x
    let b := mxMax r
    if magGt b.1 b.2 a.1 a.2 then b else a

/-- An encoded MX block. -/
structure MxBlock where
  scale : Nat
  elems : List Nat
  sat : Nat
  flush : Nat
deriving DecidableEq, Repr

/-- One element of R92 with its counts: the division by the scale is exact. An infinity in an E5M2 block is the infinity of
R87 and is counted as nothing, as the pseudocode has it, though R92's prose counts an infinity as saturated (DESIGN CHOICE;
notes/assumptions). -/
def mxElem (f : Fmt) (s : Nat) (x : Num) : Conv Nat :=
  let y := match x with
    | .fin n m e => Num.fin n m (e - (s : Int) + 127)
    | z => z
  convertElem f false false y

/-- R92 to R95: encodes the values of one block. -/
def mxEncode (f : Fmt) (v : List Num) : MxBlock :=
  if v.any Num.isNan then ⟨0xFF, v.map (fun _ => 0), 0, 0⟩
  else
    let m := mxMax v
    if m.1 = 0 then ⟨0x00, v.map (fun _ => 0), 0, 0⟩
    else
      let e : Int := m.2 + (m.1.log2 : Nat) - fmtEmax f
      let s := (Min.min (Max.max e (-127)) 127 + 127).toNat
      let q := v.map (mxElem f s)
      ⟨s, q.map Conv.val, (q.map Conv.sat).sum, (q.map Conv.flush).sum⟩

/-! The grid's carried format. -/

/-- The highest weight among the nonzero finite addends, or `none` when every one is zero. -/
def topWeight : List Num → Option Int
  | [] => none
  | .fin _ m e :: r =>
    if m = 0 then topWeight r
    else
      let t : Int := e + (m.log2 : Nat)
      match topWeight r with
      | none => some t
      | some u => some (Max.max t u)
  | _ :: r => topWeight r

/-- R98: the sum of the addends truncated toward zero in units of `2^lsb`. -/
def windowSum (lsb : Int) : List Num → Int
  | [] => 0
  | .fin n m e :: r => intAt n m e lsb + windowSum lsb r
  | _ :: r => windowSum lsb r

/-- R98: renormalises a sum in units of `2^lsb` into the 27-bit window. The grid never produces -0. -/
def window (s lsb : Int) : Num :=
  if s = 0 then .fin false 0 0
  else
    let m := s.natAbs
    let drop := m.log2 - 26
    .fin (decide (s < 0)) (m >>> drop) (lsb + (drop : Nat))

/-- R99: the special result of a step, when an addend is special. -/
def specialSum : List Num → Option Num
  | [] => none
  | .nan :: _ => some .nan
  | .inf n :: r =>
    match specialSum r with
    | none => some (.inf n)
    | some .nan => some .nan
    | some (.inf k) => if n = k then some (.inf n) else some .nan
    | some x => some x
  | .fin _ _ _ :: r => specialSum r

/-- R98 and R99: one cell step on the incoming partial sum and the step's products. -/
def cellStep (c : Num) (products : List Num) : Num :=
  match specialSum (c :: products) with
  | some x => x
  | none =>
    match topWeight (c :: products) with
    | none => .fin false 0 0
    | some top => window (windowSum (top - 26) (c :: products)) (top - 26)

/-- R102: the exit rounding to FP32, with the grid's flush to +0. -/
def gridExit (c : Num) : F32 :=
  let r := convert fp32 true true c
  ⟨encodeFloat fp32 r.val, r.sat, r.flush⟩

/-- R91, R100: a FP32, BF16 or FP16 input of the grid, flushed to +0 when subnormal. -/
def gridInput (f : FloatFmt) (code : Nat) : Conv Num :=
  if isSubnormal f code then ⟨.fin false 0 0, 0, 1⟩ else ⟨decodeFloat f code, 0, 0⟩

/-- The range limits of the 48-bit partial sum (R101). -/
def acc48Max : Int := 2 ^ 47 - 1
def acc48Min : Int := -(2 ^ 47)

/-- R101: one integer step; the flag says that the sum left the 48-bit range. -/
def intStep (c : Int) (products : List Int) : Int × Bool :=
  let s := c + products.sum
  if s > acc48Max then (acc48Max, true)
  else if s < acc48Min then (acc48Min, true)
  else (s, false)

/-- R101: an F word preloaded into an integer mode. -/
def intPreload (code : Nat) : Conv Int :=
  let c := gridInput fp32 code
  let i := convertInt 48 c.val
  ⟨i.val, i.sat, c.flush + i.flush⟩

end Sys2Proof.Machine
end

