-- ==== Sys2Proof/Machine/Owned.lean ====
section
/-!
DEFINITION. Reduction entries and decode jobs by their fields (R365, R421), and the bytes that only one unit may write
(R172, R366, R423).
-/
namespace Sys2Proof.Machine

/-! The entry (R365). -/

def CflEntry.w (e : CflEntry) (i : Nat) : Word := e.words.getD i 0
def CflEntry.inBase (e : CflEntry) : Nat := (e.w 0).field 0 52
def CflEntry.inFmt (e : CflEntry) : Nat := (e.w 0).field 52 4
def CflEntry.outBf16 (e : CflEntry) : Bool := (e.w 0).flag 56
def CflEntry.seedEn (e : CflEntry) : Bool := (e.w 0).flag 57
def CflEntry.outBase (e : CflEntry) : Nat := (e.w 1).field 0 52
def CflEntry.scaleBase (e : CflEntry) : Nat := (e.w 2).field 0 52
def CflEntry.accBase (e : CflEntry) : Nat := (e.w 3).field 0 52
def CflEntry.rows (e : CflEntry) : Nat := (e.w 4).field 0 16
def CflEntry.cols (e : CflEntry) : Nat := (e.w 4).field 16 16
def CflEntry.contrib (e : CflEntry) : Nat := (e.w 4).field 32 15
def CflEntry.stats (e : CflEntry) : Bool := (e.w 4).flag 47
def CflEntry.statScale (e : CflEntry) : Nat := (e.w 4).field 48 8
def CflEntry.statBase (e : CflEntry) : Nat := (e.w 5).field 0 52
def CflEntry.gen (e : CflEntry) : Nat := (e.w 6).field 48 16
def CflEntry.recBase (e : CflEntry) : Nat := (e.w 8).field 0 52

/-- The format of addends: FP32, BF16, FP16, E4M3 or E5M2. -/
def CflEntry.fmt (e : CflEntry) : Fmt := (fmtOfCode e.inFmt).getD .fp32
/-- Bytes of an addend and of an output. -/
def CflEntry.wIn (e : CflEntry) : Nat := fmtWidth e.fmt / 8
def CflEntry.wOut (e : CflEntry) : Nat := if e.outBf16 then 2 else 4
def CflEntry.elems (e : CflEntry) : Nat := e.rows * e.cols
def CflEntry.blockCount (e : CflEntry) : Nat := e.elems / 32
/-- The home basin: the one whose Reservoir holds the accumulator area. -/
def CflEntry.home (e : CflEntry) : Nat := (e.accBase - 0x400000000000) / 0x20000000 % 8
/-- Bytes of the accumulator area. -/
def CflEntry.accBytes (e : CflEntry) : Nat :=
  (e.blockCount * 384 + (if e.stats then (e.rows + e.cols) * 16 else 0) + 4095) / 4096 * 4096

/-- An entry whose accumulators are in use. -/
def CflState.active : CflState → Bool
  | .arming | .armed | .finishing => true
  | _ => false

def DecodeJob.w (j : DecodeJob) (i : Nat) : Word := j.words.getD i 0
def DecodeJob.hevc (j : DecodeJob) : Bool := (j.w 0).flag 0
def DecodeJob.unit (j : DecodeJob) : Nat := (j.w 0).field 4 1
def DecodeJob.out (j : DecodeJob) : Nat := (j.w 0).field 5 2
def DecodeJob.src (j : DecodeJob) : Nat := (j.w 1).field 0 52
def DecodeJob.srcLen (j : DecodeJob) : Nat := (j.w 2).field 0 32
def DecodeJob.dst (j : DecodeJob) : Nat := (j.w 3).field 0 52
def DecodeJob.stride (j : DecodeJob) : Nat := (j.w 4).field 0 32
def DecodeJob.picStride (j : DecodeJob) : Nat := (j.w 4).field 32 32
def DecodeJob.dpb (j : DecodeJob) : Nat := (j.w 5).field 0 52
def DecodeJob.dpbLen (j : DecodeJob) : Nat := (j.w 6).field 0 32
def DecodeJob.recAt (j : DecodeJob) : Nat := (j.w 7).field 0 52

/-! Writes that R557 leaves undefined. -/

/-- The `n` bytes at `a` and the `m` bytes at `b` have a byte in common. -/
def spansMeet (a n b m : Nat) : Bool := decide (a < b + m ∧ b < a + n)

/-- A write of `n` bytes at `a` by another agent meets the accumulator area or the scale array of an entry in use, or the
input image of one whose seed read has begun (R366). -/
def State.meetsEntry (s : State) (a n : Nat) : Bool :=
  s.cfls.any fun x =>
    let e := x.2
    e.st.active && (spansMeet a n e.accBase e.accBytes || spansMeet a n e.scaleBase e.blockCount
      || (e.seedEn && e.seeded && spansMeet a n e.inBase (e.elems * e.wIn)))

/-- A write of `n` bytes at `a` by another agent meets the source or the decoded-picture buffer of a decode job that runs
(R423). Its output is known only as it is written, and a write there is not noticed (notes/assumptions). -/
def State.meetsJob (s : State) (a n : Nat) : Bool :=
  s.lines.any fun x => x.2.decode.any fun q => q.2.any fun j =>
    j.running && (spansMeet a n j.src j.srcLen || (j.hevc && spansMeet a n j.dpb j.dpbLen))

/-- Only its own unit may write bytes that these meet. -/
def State.meetsOwned (s : State) (a n : Nat) : Bool := s.meetsCounter a n || s.meetsEntry a n || s.meetsJob a n

/-- Notes a write of `n` bytes at `a` that R172 leaves undefined. -/
def State.noteCounter (s : State) (a n : Nat) : State := s.undefIf (s.meetsCounter a n) .syncCounterWrite

/-- Notes a write that R366 leaves undefined. -/
def State.noteEntry (s : State) (a n : Nat) : State := s.undefIf (s.meetsEntry a n) .accumulatorWrite

/-- Notes a write that R423 leaves undefined. -/
def State.noteJob (s : State) (a n : Nat) : State := s.undefIf (s.meetsJob a n) .decodeWrite

/-- Notes a write by any unit but a sync counter's, a confluence unit or a decode block. -/
def State.noteWrite (s : State) (a n : Nat) : State := ((s.noteCounter a n).noteEntry a n).noteJob a n

end Sys2Proof.Machine
end

