-- ==== Sys2Proof/Machine/Memory.lean ====
section
/-!
DEFINITION. The accesses that agents make to the device physical address map (R37, R295), with poison (R450) and sub-granule
writes (R228).
-/
namespace Sys2Proof.Machine

/-! Accesses by agents. -/

/-- LPDDR5X that is in self-refresh comes out of it for an access, without waking the Line (R501). -/
def State.touchMem (s : State) (a : Nat) : State :=
  match s.target a with
  | .lpddr b _ => if (s.bmem b).selfRefresh then s.modBmem b fun m => { m with selfRefresh := false } else s
  | _ => s

/-- What a read returns. -/
structure Rd where
  data : List Byte := []
  poison : Bool := false
  noTarget : Bool := false
deriving DecidableEq, Repr

/-- A piece of `[a, a + n)` for each granule that it meets. -/
def pieces (a n : Nat) : List (Nat × Nat) :=
  if n = 0 then [] else
    (List.range ((a + n + 63) / 64 - a / 64)).map fun i =>
      let lo := max a ((a / 64 + i) * 64)
      (lo, min (a + n) ((a / 64 + i + 1) * 64) - lo)

/-- A read that reaches no target: poisoned data (R37). -/
def State.noTargetRead (s : State) (n : Nat) : Rd × State :=
  let (d, s) := s.freeBytes n
  ({ data := d, poison := true, noTarget := true }, s)

/-- A read within one granule by an agent of the Line led by `l`, as a cacheless agent (R295). -/
def State.loadPiece (s : State) (l a n : Nat) : Rd × State :=
  match s.target a with
  | .lpddr _ _ | .reservoir _ _ =>
    if s.ownMem l a then
      match s.onFailed a with
      | some b =>
        let (d, s) := (s.count (memKey b 0x20) 1).freeBytes n
        ({ data := d, poison := true }, s)
      | Option.none =>
        let ((d, p), s) := s.readHome (a / 64)
        ({ data := (d.drop (a % 64)).take n, poison := p }, s.serveLine (a / 64))
    else s.noTargetRead n
  | .reserved b => if s.leaderOf b = l then s.noTargetRead n |>.map id (·.undef .reservedRange) else s.noTargetRead n
  | .lnMmio k _ => if s.leaderOf k = l then s.noTargetRead n |>.map id (·.undef .registerAccess) else s.noTargetRead n
  | .host h =>
    if s.host.attached then
      ({ data := memBytes s.hostMem h n, poison := tblGet false s.hostPoison (h / 64) }, s)
    else s.noTargetRead n
  | _ => s.noTargetRead n

/-- A read of `n` bytes at DPA `a` by an agent of the Line led by `l`. -/
def State.load (s : State) (l a n : Nat) : Rd × State :=
  (pieces a n).foldl (fun (r, s) p =>
    let (q, s) := s.loadPiece l p.1 p.2
    ({ data := r.data ++ q.data, poison := r.poison || q.poison, noTarget := r.noTarget || q.noTarget }, s)) ({}, s)

/-- The present contents of `n` bytes of host memory, as a posted write to them keeps them (R264). -/
def State.hostOld (s : State) (h n : Nat) : Nat × List Byte × Bool := (h, memBytes s.hostMem h n, tblGet false s.hostPoison (h / 64))

/-- A posted write to host memory within one granule. -/
def State.hostPut (s : State) (h : Nat) (data : List Byte) (poison : Bool) : State :=
  { s with
    host := { s.host with posted := s.hostOld h data.length :: s.host.posted }
    hostMem := memPut s.hostMem h data
    hostPoison := tblSet false s.hostPoison (h / 64) poison }

/-- The newest `n` writes that were still on the link are lost, and the bytes are what they were before them (R264, R328). -/
def State.losePosted (s : State) (n : Nat) : State :=
  let s' := (s.host.posted.take n).foldl (fun s w =>
    { s with hostMem := memPut s.hostMem w.1 w.2.1, hostPoison := tblSet false s.hostPoison (w.1 / 64) w.2.2 }) s
  { s' with host := { s'.host with posted := [] } }

/-- A write within one granule by an agent of the Line led by `l`. Answers whether it reached no target. A FAILED Line writes
no memory, the host's included (R30). -/
def State.storePiece (s : State) (l a : Nat) (data : List Byte) (poison : Bool) : Bool × State :=
  match s.target a with
  | .lpddr _ _ | .reservoir _ _ =>
    if s.ownMem l a then
      if (s.line l).st = .failed then (false, s)
      else (false, (s.storeHome a data poison).noteWrite a data.length)
    else (true, s)
  | .reserved b => if s.leaderOf b = l then (true, s.undef .reservedRange) else (true, s)
  | .lnMmio k _ => if s.leaderOf k = l then (true, s.undef .registerAccess) else (true, s)
  | .host h =>
    if (s.line l).st = .failed then (false, s)
    else if s.host.attached then
      (false, s.hostPut h data (poison || (data.length != 64 && tblGet false s.hostPoison (h / 64))))
    else (true, s)
  | _ => (true, s)

/-- A write of bytes at DPA `a` by an agent of the Line led by `l`. -/
def State.store (s : State) (l a : Nat) (data : List Byte) (poison : Bool := false) : Bool × State :=
  (pieces a data.length).foldl (fun (nt, s) p =>
    let (q, s) := s.storePiece l p.1 ((data.drop (p.1 - a)).take p.2) poison
    (nt || q, s)) (false, s)

/-- A read of one 64-bit word. -/
def State.loadWord (s : State) (l a : Nat) : Word × Rd × State :=
  let (r, s) := s.load l a 8
  (BitVec.ofNat 64 (leNat r.data), r, s)

/-- Reads `k` words from `a`. -/
def State.loadWords (s : State) (l a k : Nat) : List Word × Rd × State :=
  let (r, s) := s.load l a (8 * k)
  ((List.range k).map fun i => BitVec.ofNat 64 (leNat ((r.data.drop (8 * i)).take 8)), r, s)

/-- The bytes of a structure of words (R6). -/
def wordBytes (ws : List Word) : List Byte := ws.flatMap fun w => leBytes 8 w.toNat

/-- Clears a basin: LPDDR5X and Reservoir to zero, check words valid and poison clear, cached copies gone, and its key
replaced (R77, R225, R230, R489). -/
def State.clearBasin (s : State) (b : Nat) : State :=
  let inB (a : Nat) : Bool :=
    decide ((lpddrBase b ≤ a ∧ a < lpddrBase (b + 1)) ∨ (rsvBase b ≤ a ∧ a < rsvBase (b + 1)))
  { s with
    mem := memClear (memClear s.mem (lpddrBase b) (lpddrBase (b + 1))) (rsvBase b) (rsvBase (b + 1))
    poison := s.poison.filter fun e => !inB (e.1 * 64)
    errs := s.errs.filter fun e => !inB (e.1 * 64)
    chkDiff := s.chkDiff.filter fun e => !inB (e.1 * 4096)
    coh := { s.coh with
      caches := s.coh.caches.filter fun e => !inB (e.1 % 2 ^ 46 * 64)
      dir := s.coh.dir.filter fun e => !inB (e.1 * 64) } }

/-- Replaces a basin's AES-256-XTS key by one of the security block's random source (R229, R230). -/
def State.replaceKey (s : State) (b : Nat) : State :=
  s.bump.modBmem b fun m => { m with key := s.free % 2 ^ 512, keyGen := (m.keyGen + 1) % 256 }

end Sys2Proof.Machine
end

