-- ==== Sys2Proof/Machine/Signals.lean ====
section
/-!
DEFINITION. Sync counters (R168 to R172, R582).
-/
namespace Sys2Proof.Machine

/-! Sync counters. -/

/-- The DPA of counter `i` of the Line led by `l`; none where the index is at or beyond 4,096 × k (R168). -/
def State.counterDpa (s : State) (l i : Nat) : Option Nat :=
  (s.atPlace l (i / 4096)).map fun b => s.syncBase b + i % 4096 * 8

/-- A counter's value. -/
def State.counterVal (s : State) (l i : Nat) : Option Nat :=
  (s.counterDpa l i).map fun a => leNat (((s.granule (a / 64)).1.drop (a % 64)).take 8)

/-- Counter `i` is read at its bank. -/
def State.counterTouch (s : State) (l i : Nat) : State :=
  match s.counterDpa l i with
  | some a => s.mergeBase (a / 64) false
  | none => s

/-- The value satisfies a wait on counter `i` for `v` (R170); a counter outside the range satisfies none (R582). -/
def State.counterReached (s : State) (l i v : Nat) : Bool :=
  match s.counterVal l i with
  | some c => decide (v ≤ c)
  | none => false

/-- A SYNC_WAIT on counter `i` of the Line led by `l` becomes satisfied where the counter has reached its value. -/
def State.syncWake (s : State) (l i : Nat) (c : ACmd) : ACmd :=
  if c.w0.field 0 8 = 0x06 ∧ c.arg0.field 0 15 = i ∧ s.counterReached l i c.arg1.toNat then { c with satisfied := true }
  else c

/-- Tests the waits on counter `i` again after a change: a satisfied wait stays satisfied (R170, R320). -/
def State.counterChanged (s : State) (l i : Nat) : State :=
  let s := s.each (List.range 64) fun s u =>
    if s.leaderOf (u / 8) = l then
      match (s.pond u).wait with
      | .sync c v => if c = i ∧ s.counterReached l i v then s.modPond u fun p => { p with wait := .sync c 0 } else s
      | _ => s
    else s
  { s with queues := s.queues.map fun e =>
      if e.1 / 4096 = l then (e.1, { e.2 with running := e.2.running.map (s.syncWake l i) }) else e }

/-- Writes counter `i` at its bank. -/
def State.counterSet (s : State) (l i v : Nat) : State :=
  match s.counterDpa l i with
  | some a => (s.storeHome a (leBytes 8 v) false).counterChanged l i
  | none => s

/-- Adds to counter `i` modulo 2^64 (R170). An index out of range drops the add (R582), and so does a FAILED Line
(R30). -/
def State.counterAdd (s : State) (l i v : Nat) : State :=
  if (s.line l).st = .failed then s
  else
    let s := s.counterTouch l i
    match s.counterVal l i with
    | some c => s.counterSet l i ((c + v) % 2 ^ 64)
    | none => s

/-- The counter that a DPA is the first byte of, with its Line. -/
def State.counterAt (s : State) (a : Nat) : Option (Nat × Nat) :=
  ((List.range 8).find? fun b => decide (s.syncBase b ≤ a ∧ a < s.syncBase b + 0x8000)).bind fun b =>
    if s.leaderOf b < 8 ∧ a % 8 = 0 then
      some (s.leaderOf b, s.place b * 4096 + (a - s.syncBase b) / 8)
    else none

end Sys2Proof.Machine
end

