-- ==== Sys2Proof/Machine/Completion.lean ====
section
/-!
DEFINITION. Completions of Apori commands (R322 to R324) and the queue errors (R327).
-/
namespace Sys2Proof.Machine

/-- The key of queue `q` of the Line led by `l`. -/
def qKey (l q : Nat) : Nat := l * 4096 + q

/-- Records a queue error: the first since VALID was cleared (R327), with vector 0 and source 0x100. -/
def State.qError (s : State) (l q code seq : Nat) : State :=
  let k := lnKey l 0x410
  if s.flag k 36 then s.setFlag k 37 true
  else
    let s := s.setReg k (BitVec.ofNat 64 (q % 4096 + code * 2 ^ 12 + seq % 65536 * 2 ^ 20 + 2 ^ 36))
    (s.signal (lineFn l) 0).raise l 0x100

def ACmd.opcode (c : ACmd) : Nat := c.w0.field 0 8
def ACmd.job (c : ACmd) : Nat := c.w0.field 48 16
def ACmd.fenceFlag (c : ACmd) : Bool := c.w0.flag 12
def ACmd.noCq (c : ACmd) : Bool := c.w0.flag 14

/-- Every slot of CQ `c` holds an entry that the host has not read (R324). -/
def State.cqFull (s : State) (l c : Nat) : Bool :=
  let q := s.queue (qKey l c)
  decide (q.cqSize ≤ q.cqWritten - q.cqHead)

/-- The completion entry of command `c` of queue `q` (R322). -/
def State.completionWords (s : State) (l q : Nat) (c : ACmd) : List Word :=
  let sq := s.queue (qKey l q)
  let cq := s.queue (qKey l sq.cqid)
  let phase := if cq.cqSize = 0 then 0 else 1 - cq.cqWritten / cq.cqSize % 2
  [BitVec.ofNat 64 (c.w0.field 32 16 + q * 2 ^ 16 + phase * 2 ^ 28 + sq.h * 2 ^ 32 + c.status * 2 ^ 48),
   BitVec.ofNat 64 (ofBool c.poison * 2 ^ 32 + c.job * 2 ^ 48), c.result, BitVec.ofNat 64 c.doneAt]

/-- Writes a completion into the next slot of its CQ and signals its vector (R322, R324). One for a host CQ is dropped
while the port is detached (R328). The vector is signalled where it never has been, or where the host has written this CQ's
head doorbell since. -/
def State.writeCompletion (s : State) (l q : Nat) (c : ACmd) : State :=
  let cqid := (s.queue (qKey l q)).cqid
  let cq := s.queue (qKey l cqid)
  let (_, s) := s.store l (cq.cqBase + cq.cqWritten % cq.cqSize * 32) (wordBytes (s.completionWords l q c))
  let s := s.modQueue (qKey l cqid) fun x => { x with cqWritten := x.cqWritten + 1 }
  s.when (cq.irqEn && decide (tblGet 0 s.host.vectors (lineFn l * 2048 + cq.vector) ≤ cq.headMark)) fun s =>
    s.signal (lineFn l) cq.vector

/-- Removes a command from those that run. -/
def State.dropCommand (s : State) (l q seq : Nat) : State :=
  s.modQueue (qKey l q) fun x => { x with running := x.running.filter fun c => c.seq != seq }

/-- Writes one completed command's entry where its CQ has a free slot. -/
def State.tryCompletion (s : State) (l q : Nat) (c : ACmd) : State :=
  let cqid := (s.queue (qKey l q)).cqid
  if c.noCq && c.status == 0 || (s.queue (qKey l cqid)).st == .off || (s.line l).st == .failed then
    s.dropCommand l q c.seq
  else if s.cqFull l cqid then s
  else (s.writeCompletion l q c).dropCommand l q c.seq

/-- The queues of the Line led by `l`. -/
def State.lineQueues (s : State) (l : Nat) : List Nat :=
  (s.queues.filter fun e => e.1 / 4096 == l).map fun e => e.1 % 4096

/-- Writes the completions that wait for a slot of CQ `cqid`. -/
def State.flushCq (s : State) (l cqid : Nat) : State :=
  s.each (s.lineQueues l) fun s q =>
    if (s.queue (qKey l q)).cqid = cqid then
      ((s.queue (qKey l q)).running.filter (·.done)).foldl (fun s c => s.tryCompletion l q c) s
    else s

/-- Completes a dispatched command, unless it already has. -/
def State.complete (s : State) (l q seq status : Nat) (result : Word := 0) (poison : Bool := false) : State :=
  match (s.queue (qKey l q)).running.find? fun c => c.seq == seq && !c.done with
  | none => s
  | some c =>
    let c' := { c with done := true, doneAt := s.time, status := status, result := result, poison := poison }
    (s.modQueue (qKey l q) fun x =>
      { x with running := x.running.map fun d => if d.seq = seq then c' else d }).flushCq l (s.queue (qKey l q)).cqid

/-- Completes every dispatched command of the Line that satisfies `p`. -/
def State.completeAll (s : State) (l status : Nat) (p : ACmd → Bool) : State :=
  s.each (s.lineQueues l) fun s q =>
    ((s.queue (qKey l q)).running.filter fun c => !c.done && p c).foldl (fun s c => s.complete l q c.seq status) s

/-- Entry to STOPPING ends every waiting SYNC_WAIT with ABORTED (R330). One that is satisfied waits no more. -/
def State.abortWaits (s : State) (l : Nat) : State := s.completeAll l 0x31 fun c => c.opcode == 6 && !c.satisfied

end Sys2Proof.Machine
end

