-- ==== Sys2Proof/Machine/Translate.lean ====
section
/-!
DEFINITION. Translation through a Line's address-space table and Sv57 page tables (R272 to R279), its faults (R276,
R302), accesses at virtual addresses, and the ending of jobs at sinks (R454, R455).
-/
namespace Sys2Proof.Machine

/-- An agent that translates: its Line, the basin whose unit serves it, its code in LN_XLAT_FAULT.AGENT, its unit number,
and the address space (R274, R302). -/
structure Who where
  l : Nat
  b : Nat
  agent : Nat
  unit : Nat
  asid : Nat
deriving DecidableEq, Repr

/-- The outcome of a translation. -/
inductive Xl where
  | ok (pa : Nat)
  | fault (cause : Nat)
deriving DecidableEq, Repr

/-- A page-table entry is valid and not of a reserved encoding (R275), at `level`. -/
def pteValid (level : Nat) (p : Word) : Bool :=
  let leaf := p.flag 1 || p.flag 3
  let n := p.flag 63
  let ppn := p.field 10 44
  p.flag 0 && !(p.flag 2 && !p.flag 1) && p.field 54 7 == 0
  && (if leaf then
        p.field 61 2 != 3
        && (if n then level == 0 && ppn % 16 == 8 else ppn % 2 ^ (9 * level) == 0)
      else
        level != 0 && !n && p.field 61 2 == 0 && !p.flag 4 && !p.flag 6 && !p.flag 7)

/-- A valid entry is a leaf: R or X is 1. -/
def pteLeaf (p : Word) : Bool := p.flag 1 || p.flag 3

/-- The physical address that a leaf at `level` gives for `va`. -/
def leafPa (level : Nat) (p : Word) (va : Nat) : Nat :=
  let size := if p.flag 63 then 16 else 12 + 9 * level
  let ppn := p.field 10 44
  let base := ppn * 4096 / 2 ^ size * 2 ^ size
  base + va % 2 ^ size

/-- What a leaf gives for an access: the faults of R276 in the order validity, permission, A and D, address, host. -/
def leafOutcome (hostOk : Bool) (level : Nat) (p : Word) (va : Nat) (rd wr : Bool) : Xl :=
  let pa := leafPa level p va
  if !p.flag 4 || (rd && !p.flag 1) || (wr && !p.flag 2) then .fault 3
  else if !p.flag 6 || (wr && !p.flag 7) then .fault 4
  else if 0x8000000000000 ≤ pa then .fault 5
  else if 0x4000000000000 ≤ pa && !hostOk then .fault 6
  else .ok pa

/-- Bits of the address range that a cached leaf covers. -/
def TlbEntry.size (e : TlbEntry) : Nat := if e.leaf && e.pte.flag 63 then 16 else 12 + 9 * e.level

/-- The cached entries of `asid` at `level` for `va` (R279). Level 5 is the address-space table entry. -/
def tlbFind (t : List TlbEntry) (asid level va : Nat) : List TlbEntry :=
  t.filter fun e => e.asid == asid && e.level == level && (level == 5 || e.part == va / 2 ^ e.size)

/-- Entries of each kind that a translation unit caches (R279). -/
def tlbRoom (leaf : Bool) : Nat := if leaf then 8192 else 1024

/-- Caches an entry. A newer entry replaces one of its kind where the cache is full; which one is a free value (R279). -/
def State.tlbFill (s : State) (b : Nat) (e : TlbEntry) : State :=
  let t := s.tlb b
  if t.contains e then s
  else
    let kind := t.filter fun x => x.leaf == e.leaf
    if kind.length < tlbRoom e.leaf then s.setTlb b (e :: t)
    else
      let victim := kind.getD (s.free % kind.length) e
      s.bump.setTlb b (e :: t.erase victim)

/-- Reads a word of a table as R277 states: `none` where the read returns poisoned data or NO_TARGET. -/
def State.walkRead (s : State) (l a : Nat) : Option Word × State :=
  if s.ownMem l a then
    let (w, r, s) := s.loadWord l a
    (if r.poison then none else some w, s)
  else (none, s)

/-- One of what is read and what is cached: which one a unit uses is not stated (R279), and a free value chooses. -/
def State.either {α : Type} [DecidableEq α] (s : State) (fresh : α) (cached : List α) : α × State :=
  let all := fresh :: cached.filter fun e => decide (e ≠ fresh)
  if all.length = 1 then (fresh, s) else (all.getD (s.free % all.length) fresh, s.bump)

/-- The entry that a unit uses at one step of a walk: a cached one or the one in memory. -/
def State.walkEntry (s : State) (l b asid level va a : Nat) : Option Word × State :=
  let (m, s) := s.walkRead l a
  s.either m ((tlbFind (s.tlb b) asid level va).map fun e => some e.pte)

/-- The address-space table entry in use for `asid`: word 0, or the cause of the fault (R272). -/
def State.astEntry (s : State) (l b asid : Nat) : Except Nat (Word × Bool) × State :=
  let ast := s.reg (xlKey l 0)
  let s := s.undefIf (9 ≤ ast.field 0 4 && ast.flag 63) .tableSize
  if !ast.flag 63 || 2 ^ (ast.field 0 4 + 4) ≤ asid then (.error 1, s)
  else
    let a := ast.field 4 48 * 16 + asid * 16
    let (w0, s) := s.walkEntry l b asid 5 0 a
    let (w1, s) := s.walkRead l (a + 8)
    match w0, w1 with
    | some w0, some w1 =>
      if w0.flag 63 then
        (.ok (w0, w1.flag 1), s.tlbFill b { asid := asid, level := 5, part := 0, pte := w0, leaf := false })
      else (.error 1, s)
    | _, _ => (.error 7, s)

/-- Walks from the table at `table` for `level + 1` more levels. Answers the leaf with its level. -/
def State.walk (s : State) (l b asid va : Nat) : (level : Nat) → (table : Nat) → Except Nat (Nat × Word) × State
  | 0, table =>
    let (e, s) := s.walkEntry l b asid 0 va (table + va / 2 ^ 12 % 512 * 8)
    match e with
    | none => (.error 7, s)
    | some p => if pteValid 0 p && pteLeaf p then (.ok (0, p), s) else (.error 2, s)
  | level + 1, table =>
    let sh := 12 + 9 * (level + 1)
    let (e, s') := s.walkEntry l b asid (level + 1) va (table + va / 2 ^ sh % 512 * 8)
    match e with
    | none => (.error 7, s')
    | some p =>
      if !pteValid (level + 1) p then (.error 2, s')
      else if pteLeaf p then (.ok (level + 1, p), s')
      else
        State.walk (s'.tlbFill b { asid := asid, level := level + 1, part := va / 2 ^ sh, pte := p, leaf := false })
          l b asid va level (p.field 10 44 * 4096)

/-- The cached leaves for `va`, with their levels (R279). -/
def tlbLeaves (t : List TlbEntry) (asid va : Nat) : List (Nat × Word) :=
  (t.filter fun e => e.asid == asid && e.leaf && e.part == va / 2 ^ e.size).map fun e => (e.level, e.pte)

/-- The leaf that a walk has found, where it has. -/
def walked : Except Nat (Nat × Word) → Option (Nat × Word)
  | .ok r => some r
  | .error _ => none

/-- Translates a virtual address of 57 bits for an access: by a cached leaf, or by a walk whose leaf is then cached. Faults
are never cached. -/
def State.xlate (s : State) (l b asid va0 : Nat) (rd wr : Bool) : Xl × State :=
  let va := va0 % 2 ^ 57
  let (ast, s) := s.astEntry l b asid
  match ast with
  | .error c => (.fault c, s)
  | .ok (root, host) =>
    let hostOk := host && s.flag (xlKey l 0x8) 0
    let (fresh, s) := s.walk l b asid va 4 (root.field 0 40 * 4096)
    let (used, s) := s.either (walked fresh) ((tlbLeaves (s.tlb b) asid va).map some)
    match used, fresh with
    | none, .error c => (.fault c, s)
    | none, .ok _ => (.fault 2, s)
    | some (lv, p), _ =>
      let r := leafOutcome hostOk lv p va rd wr
      let e : TlbEntry := { asid := asid, level := lv, part := 0, pte := p, leaf := true }
      let s := match r with
        | .ok _ => s.tlbFill b { e with part := va / 2 ^ e.size }
        | .fault _ => s
      (r, s)

/-- Sign-extends a 57-bit address from bit 56 (R274). -/
def signVa (va : Nat) : Word := BitVec.ofInt 64 (signed 57 va)

/-- Records a translation fault (R276, R302): the first since VALID was cleared, and the count. -/
def State.xlatFault (s : State) (w : Who) (va cause : Nat) (wr : Bool) : State :=
  let s := s.count (xlKey w.l 0x38) 1
  if s.flag (xlKey w.l 0x28) 32 then s
  else
    ((s.setReg (xlKey w.l 0x28) (BitVec.ofNat 64 (cause + w.agent * 2 ^ 4 + w.b * 2 ^ 8 + w.unit * 2 ^ 11
      + ofBool wr * 2 ^ 15 + w.asid * 2 ^ 16 + 2 ^ 32))).setReg (xlKey w.l 0x30) (signVa va)).raise w.l 0x101

/-- Translates for an agent, recording a fault. -/
def State.xlateFor (s : State) (w : Who) (va : Nat) (rd wr : Bool) : Xl × State :=
  let (x, s) := s.xlate w.l w.b w.asid va rd wr
  match x with
  | .ok pa => (.ok pa, s)
  | .fault c => (.fault c, s.xlatFault w va c wr)

/-- What an access at a virtual address answers. -/
inductive VRes where
  | ok (r : Rd)
  | fault (cause : Nat)
  /-- Poisoned data refused on its way to host memory (R454). -/
  | sink
deriving DecidableEq, Repr

/-- The pieces of an access, one for each 4 KiB page it meets. -/
def pagePieces (a n : Nat) : List (Nat × Nat) :=
  if n = 0 then [] else
    (List.range ((a + n + 4095) / 4096 - a / 4096)).map fun i =>
      let lo := max a ((a / 4096 + i) * 4096)
      (lo, min (a + n) ((a / 4096 + i + 1) * 4096) - lo)

/-- Reads `n` bytes at a virtual address. -/
def State.vload (s : State) (w : Who) (va n : Nat) : VRes × State :=
  (pagePieces va n).foldl (fun (r, s) p =>
    match r with
    | .ok rd =>
      match s.xlateFor w p.1 true false with
      | (.fault c, s) => (.fault c, s)
      | (.ok pa, s) =>
        let (q, s) := s.load w.l pa p.2
        (.ok { data := rd.data ++ q.data, poison := rd.poison || q.poison, noTarget := rd.noTarget || q.noTarget }, s)
    | r => (r, s)) (.ok {}, s)

/-- The DPA is in the host aperture. -/
def isHostPa (pa : Nat) : Bool := decide (0x4000000000000 ≤ pa ∧ pa < 0x8000000000000)

/-- Writes bytes at a virtual address; one that leaves part of a granule asks for R as well (R228, R275). Poisoned bytes
are not written to host memory: that is a sink (R454). -/
def State.vstore (s : State) (w : Who) (va : Nat) (data : List Byte) (poison : Bool) : VRes × State :=
  (pagePieces va data.length).foldl (fun (r, s) p =>
    match r with
    | .ok rd =>
      match s.xlateFor w p.1 (p.1 % 64 != 0 || p.2 % 64 != 0) true with
      | (.fault c, s) => (.fault c, s)
      | (.ok pa, s) =>
        if poison && isHostPa pa then (.sink, s)
        else
          let (nt, s) := s.store w.l pa ((data.drop (p.1 - va)).take p.2) poison
          (.ok { rd with noTarget := rd.noTarget || nt }, s)
    | r => (r, s)) (.ok {}, s)

/-! Jobs (R453 to R455, R469). -/

/-- The tag is in the Line's ended set. -/
def State.jobEnded (s : State) (l tag : Nat) : Bool := tblGet false (s.line l).ended tag

/-- Ends a job: its tag joins the ended set, LN_JOB_END records the first ending since VALID was cleared, and the ending
is counted and logged (R454, R455, R469, R529). Its Apori commands end at once (R454). -/
def State.endJob (s : State) (l tag sink agent b unit va : Nat) : State :=
  if s.jobEnded l tag then s else
  let s := (s.modLine l fun ln => { ln with ended := tblSet false ln.ended tag true }).completeAll l 0x30 fun c =>
    c.job == tag
  let s := s.count (lnKey l 0x718) 1
  let s :=
    if s.flag (lnKey l 0x708) 27 then s.setFlag (lnKey l 0x708) 28 true
    else
      (s.setReg (lnKey l 0x708) (BitVec.ofNat 64 (tag % 2 ^ 16 + sink * 2 ^ 16 + agent * 2 ^ 18 + b * 2 ^ 20
        + unit * 2 ^ 23 + 2 ^ 27))).setReg (lnKey l 0x710) (if sink = 3 then 0 else BitVec.ofNat 64 va)
  s.logEvent 0x0302 (1 + l) (lineBit l) (s.reg (lnKey l 0x708)).toNat (s.reg (lnKey l 0x710)).toNat

end Sys2Proof.Machine
end

