-- ==== Sys2Proof/Machine/Access.lean ====
section
/-!
DEFINITION. Who may write a register: Line functions (R20, R330, R487, R489), PF0 (R38, R545) and cores (R38), with the
wake that a write makes (R499).
-/
namespace Sys2Proof.Machine

/-- The TDISP state of the interface of function `l`. -/
def State.tdisp (s : State) (l : Nat) : Tdisp := tblGet .unlocked s.host.tdisp l

/-- The Line is confidential: its interface is in CONFIG_LOCKED, RUN or ERROR (R486). -/
def State.confidential (s : State) (l : Nat) : Bool := s.tdisp l != .unlocked

/-- CLAIMED of a Line function (R330). -/
def State.claimed (s : State) (n : Nat) : Bool := tblGet false s.host.claimed n

/-- SEC_LINE.CLEARING of a Line (R489). -/
def State.clearing (s : State) (l : Nat) : Bool := tblGet 0 s.host.clearing l != 0

/-- Boot has stopped in HALTED or RECOVERY (R545). -/
def Stage.stopped : Stage → Bool
  | .halted | .recovery => true
  | _ => false

/-- Steps 1 to 7 of the boot order (R536). -/
def Stage.early : Stage → Bool
  | .alwaysOn | .image | .inventory | .spurs | .dies | .lpddr | .timetable => true
  | _ => false

/-- The channels have not been trained yet (R536). -/
def Stage.untrained : Stage → Bool
  | .alwaysOn | .image | .inventory | .spurs | .dies | .lpddr => true
  | _ => false

/-- A running core of the Line led by `l`. -/
def State.coreOn (s : State) (l h : Nat) : Bool :=
  s.hartActive l h && (decide ((s.hart h).mode = .run) || decide ((s.hart h).mode = .wfi))

/-- A write by this path to a register of Line function `l`, a leader, takes effect. Line functions answer no host before
boot ends (R543). -/
def State.lnWrites (s : State) (via : Via) (l : Nat) : Bool :=
  s.isLeader l &&
  match via with
  | .host => s.host.attached && !s.boot.running && s.claimed l && !s.clearing l && s.tdisp l != .error
  | .hostOff => s.host.attached && !s.boot.running && s.claimed l && !s.clearing l && !s.confidential l
  | .pf0 => s.host.attached && !s.boot.running && !s.confidential l && !s.boot.stage.stopped
  | .core h => s.coreOn l h
  | .pond u => s.leaderOf (u / 8) == l && (s.pond u).mode != .idle

/-- A write by this path to a register of basin `b`, in its Line's function. -/
def State.bWrites (s : State) (via : Via) (b : Nat) : Bool := s.leaderOf b < 8 && s.lnWrites via (s.leaderOf b)

/-- A write through PF0 to a hub register takes effect (R545). -/
def State.hubWrites (s : State) : Bool := s.host.attached && s.boot.powered && !s.boot.stage.stopped

/-- A write to a register of Line `l`, where the path allows it. -/
def State.lnWrite (s : State) (via : Via) (l : Nat) (f : State → State) : State := 
  if s.lnWrites via l then (f s).noted via else s

/-- A write to a register of basin `b`, where the path allows it. -/
def State.bWrite (s : State) (via : Via) (b : Nat) (f : State → State) : State := 
  if s.bWrites via b then (f s).noted via else s

/-- A write through PF0, where it is served. -/
def State.hubWrite (s : State) (f : State → State) : State := if s.hubWrites then (f s).atPf0 else s

/-- A write that is a wake event: it is held until the exit has completed (R499). -/
def State.waking (s : State) (b : Nat) (f : State → State) : State := f (s.wakeExit (s.leaderOf b))

/-- The Line lock of the Line that basin `b` belongs to: rwl fields ignore writes (R9). -/
def State.lockedAt (s : State) (b : Nat) : Bool := (s.line (s.leaderOf b)).locked

end Sys2Proof.Machine
end

