-- ==== Sys2Proof/Machine/Sluice.lean ====
section
/-!
DEFINITION. What the engines of a pond share: scalar registers and descriptors (R142, R151), tiles (R191, R196), tickets
and slots (R161, R162, R192), the interlocks of R144, record rings (R182, R190), and the counts of operations (R107).
A pond is named by its number u = basin × 8 + pond.
-/
namespace Sys2Proof.Machine

/-! Registers of the sequencer. -/

/-- A scalar register; s0 reads 0 (R142). -/
def Pond.sreg (p : Pond) (r : Nat) : Word := if r = 0 then 0 else tblGet 0 p.sregs r

/-- Writes a scalar register; s0 ignores writes. -/
def Pond.setSreg (p : Pond) (r : Nat) (v : Word) : Pond := if r = 0 then p else { p with sregs := tblSet 0 p.sregs r v }

/-- An address descriptor. -/
def Pond.desc (p : Pond) (d : Nat) : Desc := tblGet {} p.descs d

/-- The instruction at an index. -/
def Pond.insnAt (p : Pond) (i : Nat) : Word := tblGet 0 p.imem i

/-- The Line that a pond belongs to, by its leader. -/
def State.pondLine (s : State) (u : Nat) : Nat := s.leaderOf (u / 8)

/-- The identity under which a pond's program translates. -/
def State.pondWho (s : State) (u asid : Nat) : Who := { l := s.pondLine u, b := u / 8, agent := 0, unit := u % 8, asid := asid }

/-! Descriptors (R151). -/

def Desc.base (d : Desc) : Nat := d.w0.field 0 57
def Desc.fmt (d : Desc) : Nat := d.w0.field 57 4
def Desc.mxdir (d : Desc) : Bool := d.w0.flag 61
def Desc.rowStride (d : Desc) : Nat := d.w1.field 0 32
def Desc.rows (d : Desc) : Nat := d.w1.field 32 16
def Desc.cols (d : Desc) : Nat := d.w1.field 48 16
def Desc.scaleBase (d : Desc) : Nat := d.w2.field 0 57
def Desc.scaleStride (d : Desc) : Nat := d.w3.field 0 32

/-- The descriptor has a shape that R151 or R152 leaves undefined. -/
def Desc.badShape (d : Desc) : Bool :=
  d.base % 64 != 0 || d.rowStride % 64 != 0 || d.rows == 0 || d.cols == 0

/-! Tiles. -/

/-- The word at position `k` = i × 64 + j. -/
def Tile.at (t : Tile) (k : Nat) : TileWord := tblGet {} t.words k

/-- The poison bit of the run that position `k` lies in. -/
def Tile.poisonAt (t : Tile) (k : Nat) : Bool := tblGet false t.poison (k / 16)

/-- Some run is poisoned. -/
def Tile.poisoned (t : Tile) : Bool := !t.poison.isEmpty

/-- A tile from its words and the poison bits of its runs. -/
def Tile.make (f : Nat → TileWord) (p : Nat → Bool) : Tile :=
  { words := (List.range 4096).filterMap fun k => if f k = {} then none else some (k, f k)
    poison := (List.range 256).filterMap fun r => if p r then some (r, true) else none }

/-- The words listed in `new` replace those of the tile. Runs that `new` covers wholly take `poison`; runs that it covers
in part are poisoned when they were or when `poison` is set (R198, R450). -/
def Tile.write (t : Tile) (new : Tbl TileWord) (poison : Bool) : Tile :=
  let touched (r : Nat) : Nat := (new.filter fun e => e.1 / 16 == r).length
  Tile.make
    (fun k => match new.find? (fun e => e.1 == k) with | some e => e.2 | none => t.at k)
    (fun r => if touched r = 0 then tblGet false t.poison r
              else if touched r = 16 then poison else poison || tblGet false t.poison r)

/-- The value of a word as a FP32 operand: an I word is converted (R197). -/
def TileWord.num (w : TileWord) : Num :=
  if w.isInt then ofF32 (toF32 (ofInt (signed 32 w.code.toNat))).val else ofF32 w.code.toNat

/-- The exact value that a store of the word converts (R197). -/
def TileWord.exact (w : TileWord) : Num := if w.isInt then ofInt (signed 32 w.code.toNat) else ofF32 w.code.toNat

/-- A tile buffer. -/
def Pond.tb (p : Pond) (k : Nat) : Tile := tblGet {} p.tbs k

/-- Sluice slot `k`. -/
def Pond.slot (p : Pond) (k : Nat) : Slot := tblGet {} p.slots k
def Pond.modSlot (p : Pond) (k : Nat) (f : Slot → Slot) : Pond := { p with slots := tblMod {} p.slots k f }

/-! Tickets (R161). -/

/-- The held ticket's record. -/
def Pond.ticketOf (p : Pond) (t : Nat) : Option TicketInfo := p.held.find? fun i => i.ticket == t

/-- A ticket leaves the held set. -/
def Pond.unhold (p : Pond) (t : Nat) : Pond := { p with held := p.held.filter fun i => i.ticket != t }

/-- The slots that hold a ticket's tile, by quadrant, from their claim until they are FREE again. -/
def Pond.slotsOf (p : Pond) (t : Nat) : List Nat :=
  ((List.range 8).filter fun k =>
    let sl := p.slot k
    sl.st != .free && sl.ticket == t)

/-- Every slot of the ticket has been filled (R144): one for an MMA, four for an MMAG. A slot whose release has begun
still holds its tile for the reads issued before (R192). -/
def Pond.tileFull (p : Pond) (t : Nat) : Bool :=
  let ss := p.slotsOf t
  match ss with
  | [] => false
  | k :: _ => ss.all (fun k => (p.slot k).st != .filling) && (!(p.slot k).gang || ss.length == 4)

/-- The tile of a single MMA's ticket. -/
def Pond.tileOf (p : Pond) (t : Nat) : Tile :=
  match p.slotsOf t with
  | k :: _ => (p.slot k).tile
  | [] => {}

/-- The quadrants of a ticket's tile, by quadrant number; a single tile is quadrant 0. -/
def Pond.quadrants (p : Pond) (t : Nat) : List (Nat × Tile) :=
  (p.slotsOf t).map fun k => ((p.slot k).quad, (p.slot k).tile)

/-- A release begins: the slots of a ticket become RELEASING (R192). -/
def Pond.beginRelease (p : Pond) (t seq : Nat) : Pond :=
  (p.slotsOf t).foldl (fun p k => p.modSlot k fun sl => { sl with st := .releasing, relSeq := seq }) p

/-! Pending work and interlocks (R144). -/

def PondOp.op (o : PondOp) : Nat := o.insn.field 56 8

/-- FUNC of a VOP that reads tile buffer TBB (R200). -/
def readsTbb (func : Nat) : Bool :=
  [0x01, 0x02, 0x03, 0x04, 0x05, 0x09, 0x0A, 0x0B, 0x10, 0x11, 0x12, 0x13, 0x14, 0x15, 0x2A, 0x33].contains func

/-- FUNC of a VOP that reads no tile: FILL and DIAG. -/
def readsNoA (func : Nat) : Bool := func == 0x06 || func == 0x38

/-- FUNC of a comparison, whose TD names a mask plane. -/
def isCompare (func : Nat) : Bool := func == 0x30 || func == 0x31 || func == 0x32 || func == 0x33

/-- The tile buffers that queued work reads. -/
def PondOp.tbReads (o : PondOp) : List Nat :=
  let f := o.insn.field 48 8
  if o.op = 0x50 then
    (if o.insn.flag 44 || readsNoA f then [] else [o.insn.field 39 3])
    ++ (if readsTbb f then [o.insn.field 36 3] else []) ++ (if f = 0x05 then [o.insn.field 45 3] else [])
  else if o.op = 0x51 then (if o.insn.flag 44 then [] else [o.insn.field 39 3])
  else if o.op = 0x41 then [o.insn.field 49 3]
  else []

/-- The tile buffers that queued work writes. -/
def PondOp.tbWrites (o : PondOp) : List Nat :=
  if o.op = 0x50 then (if isCompare (o.insn.field 48 8) then [] else [o.insn.field 45 3])
  else if o.op = 0x51 then [o.insn.field 45 3]
  else if o.op = 0x42 then [o.insn.field 49 3]
  else []

/-- All MMAs in the pond's grid queues. -/
def Pond.mmas (p : Pond) : List MmaOp := p.gridQ.flatMap (·.2)

/-- Loads that wait for a tile buffer, in feeders or already paired. -/
def Pond.tbLoads (p : Pond) : List Load :=
  ((p.feedA.flatMap (·.2)) ++ (p.feedB.flatMap (·.2)) ++ p.mmas.flatMap fun m => [m.a, m.b]).filter fun x =>
    !x.ready && x.tb.isSome

/-- Work in the vector and store queues. -/
def Pond.tileOps (p : Pond) : List PondOp := p.vecQ ++ p.storeQ

/-- Work issued before `seq` still has to write tile buffer `tb`. -/
def Pond.tbWritePending (p : Pond) (tb seq : Nat) : Bool :=
  p.tileOps.any fun o => decide (o.seq < seq) && o.tbWrites.contains tb

/-- Work issued before `seq` still has to read tile buffer `tb`. -/
def Pond.tbReadPending (p : Pond) (tb seq : Nat) : Bool :=
  (p.tileOps.any fun o => decide (o.seq < seq) && o.tbReads.contains tb)
  || (p.tbLoads.any fun x => decide (x.seq < seq) && x.tb == some tb)
  || (p.mmas.any fun m => decide (m.seq < seq) && m.pre == 1 && !m.preReady && m.ptb == tb)

/-- Work issued before `seq` still has to read ticket `t`. -/
def Pond.ticketReadPending (p : Pond) (t seq : Nat) : Bool :=
  (p.tileOps.any fun o => decide (o.seq < seq) && o.ticket == some t && o.op != 0x43)
  || (p.mmas.any fun m => decide (m.seq < seq) && m.pre == 2 && !m.preReady && m.preTicket == t)

/-- A queued operation of the vector engine or store unit may run: its tile is full and its buffers are settled. -/
def Pond.opReady (p : Pond) (o : PondOp) : Bool :=
  (match o.ticket with
   | some t => p.tileFull t
   | none => true)
  && o.tbReads.all (fun b => !p.tbWritePending b o.seq)
  && o.tbWrites.all (fun b => !p.tbWritePending b o.seq && !p.tbReadPending b o.seq)

/-! Rings and counts. -/

/-- The value of a ring's head: INDEX and WRAP (R190). -/
def ringIndex (head : Word) : Nat := head.field 0 20

/-- Appends a 16-byte record to the ring at register `ring` with head `head`, where `rec` makes its words from the WRAP
bit (R182, R190). A record for a ring outside the Line's memory is dropped, and the ring's FAULT bit is set (R176). -/
def State.appendRing (s : State) (l ring head : Nat) (rec : Bool → Word × Word) : State :=
  let r := s.reg ring
  if r.flag 63 then
    let h := s.reg head
    let n := 2 ^ (r.field 0 4 + 4)
    let i := ringIndex h % n
    let (w0, w1) := rec (h.flag 20)
    let a := r.field 4 48 * 16 + i * 16
    let (nt, s) := if isHostPa a then (true, s) else s.store l a (wordBytes [w0, w1])
    let s := if nt then s.setFlag ring 62 true else s
    s.setReg head (if i + 1 = n then BitVec.ofNat 64 (ofBool (!h.flag 20) * 2 ^ 20)
                   else BitVec.ofNat 64 (i + 1 + ofBool (h.flag 20) * 2 ^ 20))
  else s

/-- Adds an operation's exact counts to the Line totals (R107). -/
def State.addTotals (s : State) (l sat flush : Nat) : State := (s.count (lnKey l 0x200) sat).count (lnKey l 0x208) flush

/-- What an operation of a program reports when its work finishes (R182). -/
structure OpDone where
  opcode : Nat
  pc : Nat
  ticket : Nat := 0
  record : Bool := false
  sat : Nat := 0
  flush : Nat := 0
  empty : Bool := false
  poison : Bool := false
deriving DecidableEq, Repr

/-- An operation of pond `u` finishes: its counts reach the program and the Line totals, and its record the ring
(R106, R107, R181, R182). -/
def State.opDone (s : State) (u : Nat) (d : OpDone) : State :=
  let s := s.modPond u fun p =>
    { p with fin := { p.fin with
        sat := p.fin.sat + d.sat, flush := p.fin.flush + d.flush
        poison := p.fin.poison || d.poison, emptyAny := p.fin.emptyAny || d.empty } }
  let s := s.addTotals (s.pondLine u) d.sat d.flush
  if d.record then
    s.appendRing (s.pondLine u) (pdKey u 0x48) (pdKey u 0x50) fun wrap =>
      (BitVec.ofNat 64 (min d.sat 0xFFFF + min d.flush 0xFFFF * 2 ^ 16 + ofBool d.empty * 2 ^ 32
          + ofBool d.poison * 2 ^ 33 + ofBool wrap * 2 ^ 34 + d.opcode * 2 ^ 40 + d.pc * 2 ^ 48),
       BitVec.ofNat 64 (d.ticket % 2 ^ 16 + s.time % 2 ^ 48 * 2 ^ 16))
  else s

/-! The end of a program (R180 to R186). -/

/-- Discards the stores, releases and transfer starts issued after `seq` that are not visible yet (R185). A discarded
store still releases the tile that its release bit names. -/
def Pond.discardAfter (p : Pond) (seq : Nat) : Pond :=
  { p with
    storeQ := p.storeQ.filter fun o => decide (o.seq ≤ seq) || o.op == 0x43
    xsQ := p.xsQ.filter fun o => decide (o.seq ≤ seq)
    posted := p.posted.filter fun o => decide (o.seq ≤ seq) }

/-- Issue stops at the instruction at `pc`, and the ending begins (R180, R185). Everything issued so far is earlier work. -/
def State.stopProgram (s : State) (u status pc : Nat) (va : Nat := 0) (code : Nat := 0) : State :=
  s.modPond u fun p =>
    if p.mode = .run then
      { p with
        mode := .ending, wait := .none, pc := pc
        fin := { p.fin with status := status, pc := pc, faultVa := va, code := code } }
    else p

/-- A cause found by an engine for work issued as `seq` at `pc`: the first cause stands, and later work that is not
visible yet is discarded (R185). -/
def State.engineFault (s : State) (u status seq pc va : Nat) : State :=
  if (s.pond u).mode = .idle ∨ ((s.pond u).mode = .ending ∧ (s.pond u).fin.status ≠ 0) then s
  else
    s.modPond u fun p =>
      { p.discardAfter seq with
        mode := .ending, wait := .none
        fin := { p.fin with status := status, pc := pc, faultVa := va, code := 0 } }

/-- A poison sink met by pond `u`: its job ends and its program ends with POISON_SINK (R186, R454). -/
def State.pondSink (s : State) (u seq pc va : Nat) : State :=
  (s.endJob (s.pondLine u) (s.pond u).cur.job 0 0 (u / 8) (u % 8) va).engineFault u 0x30 seq pc 0

end Sys2Proof.Machine
end

