-- ==== Sys2Proof/Machine/Store.lean ====
section
/-!
DEFINITION. What pond programs read and write in memory: places of elements (R151 to R154), loads of regions, and the
stores of tiles (R165, R166, R210), granule by granule (R185).
-/
namespace Sys2Proof.Machine

/-! Access by a program. -/

/-- What a program's read answers: bytes with their poison, or the status and address of what ends the program. -/
inductive PRead where
  | ok (bytes : List (Byte × Bool))
  | bad (status va : Nat)
deriving DecidableEq, Repr

/-- What a granule held before each store of the program that has not been waited for (R145). -/
def Pond.staleAt (p : Pond) (g : Nat) : StaleGranule := tblGet {} p.stale g

/-- The data that a program's load finds in a granule: where earlier stores of the program have not been waited for, what
is there now or what was there before any of them, which is not stated (R145). -/
def State.staleChoice (s : State) (u pa : Nat) (now : List Byte × Bool) (n : Nat) : (List Byte × Bool) × State :=
  let olds := ((s.pond u).staleAt (pa / 64)).olds
  if olds.isEmpty then (now, s)
  else
    let old := (olds[s.free % (olds.length + 1)]?).map fun o => ((o.1.drop (pa % 64)).take n, o.2)
    (old.getD now, s.bump)

/-- A SWAIT is satisfied: no later load of the program reads what another agent's write, ordered by the wait, has
replaced (R171). A granule that still holds what the program's own last store left stays open between old and new. -/
def State.acquire (s : State) (u : Nat) : State :=
  let keep := (s.pond u).stale.filter fun e => decide (s.granule e.1 = e.2.last)
  s.modPond u fun p => { p with stale := keep }

/-- Reads one page piece at physical address `pa`. -/
def State.pondPieces (s : State) (u pa n : Nat) : Option (List (Byte × Bool)) × State :=
  (pieces pa n).foldl (fun (r, s) p =>
    match r with
    | none => (none, s)
    | some bs =>
      let (q, s) := s.loadPiece (s.pondLine u) p.1 p.2
      if q.noTarget then (none, s)
      else
        let (d, s) := s.staleChoice u p.1 (q.data, q.poison) p.2
        (some (bs ++ d.1.map fun b => (b, d.2)), s)) (some [], s)

/-- Reads `n` bytes at a virtual address for the running program of pond `u`. -/
def State.pondRead (s : State) (u va n : Nat) : PRead × State :=
  (pagePieces va n).foldl (fun (r, s) p =>
    match r with
    | .bad st va => (.bad st va, s)
    | .ok bs =>
      match s.xlateFor (s.pondWho u (s.pond u).cur.asid) p.1 true false with
      | (.fault _, s) => (.bad 0x20 p.1, s)
      | (.ok pa, s) =>
        match s.pondPieces u pa p.2 with
        | (some d, s) => (.ok (bs ++ d), s)
        | (none, s) => (.bad 0x21 p.1, s)) (.ok [], s)

/-- Some byte of a read is poisoned. -/
def anyPoison (bs : List (Byte × Bool)) : Bool := bs.any (·.2)

/-- The number that bytes spell. -/
def bytesNat (bs : List (Byte × Bool)) : Nat := leNat (bs.map (·.1))

/-! Places of elements (R153). -/

/-- A run of elements whose bits are contiguous: the address and bit of the first, and how many there are. -/
structure ElemRun where
  va : Nat
  bit : Nat
  count : Nat
deriving DecidableEq, Repr

/-- Blocks of the format run along columns in this descriptor. -/
def Desc.byCols (d : Desc) (f : Fmt) : Bool := fmtIsMx f && d.mxdir

/-- The run of `n` elements from (i, j): along the row, or along the column where blocks run along columns. -/
def Desc.run (d : Desc) (f : Fmt) (i j n : Nat) : ElemRun :=
  let w := fmtWidth f
  let (base, bit) :=
    if d.byCols f then (d.base + i / 32 * d.rowStride + j * 4 * w, w * (i % 32)) else (d.base + i * d.rowStride, w * j)
  { va := base + bit / 8, bit := bit % 8, count := n }

/-- Bytes of a run. -/
def ElemRun.bytes (r : ElemRun) (w : Nat) : Nat := (r.bit + w * r.count + 7) / 8

/-- The address of the scale byte of element (i, j). -/
def Desc.scaleVa (d : Desc) (i j : Nat) : Nat :=
  if d.mxdir then d.scaleBase + i / 32 * d.scaleStride + j else d.scaleBase + i * d.scaleStride + j / 32

/-! Loads. -/

/-- An element as loaded, by its stored row and column. -/
structure Elem where
  i : Nat
  j : Nat
  code : Nat
  scale : Nat := 127
  poison : Bool := false
deriving DecidableEq, Repr

/-- Code and poison of element `k` of a run's bytes. -/
def runElem (w : Nat) (r : ElemRun) (bs : List (Byte × Bool)) (k : Nat) : Nat × Bool :=
  let b := r.bit + w * k
  let part := (bs.drop (b / 8)).take ((b % 8 + w + 7) / 8)
  (bits (bytesNat part) (b % 8) w, anyPoison part)

/-- The answer of a region load; one that fails gives what it read before (R185). -/
inductive Region where
  | ok (es : List Elem)
  | bad (status va : Nat) (es : List Elem)
deriving DecidableEq, Repr

/-- Reads one run that begins at (i, j), with its scale bytes for an MX format: along a row from the byte of its first
block to that of its last, along a column the one of its band. -/
def State.readRun (s : State) (u : Nat) (d : Desc) (f : Fmt) (i j n : Nat) : Region × State :=
  let w := fmtWidth f
  let cols := d.byCols f
  let r := d.run f i j n
  match s.pondRead u r.va (r.bytes w) with
  | (.bad st va, s) => (.bad st va [], s)
  | (.ok bs, s) =>
    let place (k : Nat) : Nat × Nat := if cols then (i + k, j) else (i, j + k)
    let plain (k : Nat) : Elem :=
      let e := runElem w r bs k
      { i := (place k).1, j := (place k).2, code := e.1, poison := e.2 }
    if fmtIsMx f then
      let blocks := if cols then 1 else (j + n - 1) / 32 - j / 32 + 1
      match s.pondRead u (d.scaleVa i j) blocks with
      | (.bad st va, s) => (.bad st va [], s)
      | (.ok sc, s) =>
        (.ok ((List.range n).map fun k =>
          let b := if cols then 0 else (j + k) / 32 - j / 32
          let q := sc.getD b (0, false)
          let e := plain k
          { e with scale := q.1.toNat, poison := e.poison || q.2 }), s)
    else (.ok ((List.range n).map plain), s)

/-- The runs of a region clipped to the descriptor's bounds (R154): first row and column of each, and its length. -/
def Desc.regionRuns (d : Desc) (f : Fmt) (i0 j0 rows cols : Nat) : List (Nat × Nat × Nat) :=
  let i1 := min (i0 + rows) d.rows
  let j1 := min (j0 + cols) d.cols
  if i1 ≤ i0 ∨ j1 ≤ j0 then []
  else if d.byCols f then
    ((List.range (i1 - i0)).filter fun k => k == 0 || (i0 + k) % 32 == 0).flatMap fun k =>
      let i := i0 + k
      (List.range (j1 - j0)).map fun c => (i, j0 + c, min (i1 - i) (32 - i % 32))
  else (List.range (i1 - i0)).map fun k => (i0 + k, j0, j1 - j0)

/-- Reads a region of a stored matrix. -/
def State.readRegion (s : State) (u : Nat) (d : Desc) (f : Fmt) (i0 j0 rows cols : Nat) : Region × State :=
  (d.regionRuns f i0 j0 rows cols).foldl (fun (r, s) q =>
    match r with
    | .bad st va es => (.bad st va es, s)
    | .ok es =>
      match s.readRun u d f q.1 q.2.1 q.2.2 with
      | (.ok es', s) => (.ok (es ++ es'), s)
      | (.bad st va _, s) => (.bad st va es, s)) (.ok [], s)

/-- The tile that an LDT loads (R166, R198): 64 × 64 words from the elements of the region at (i0, j0). -/
def ldtTile (f : Fmt) (trans : Bool) (i0 j0 : Nat) (es : List Elem) : Tile × Nat × Nat :=
  let rs := es.map fun e => (e, toF32 (elemValue f e.code e.scale))
  let pos (e : Elem) : Nat := if trans then (e.j - j0) * 64 + (e.i - i0) else (e.i - i0) * 64 + (e.j - j0)
  let words : Tbl TileWord := rs.foldl (fun t r =>
    tblSet {} t (pos r.1) { code := BitVec.ofNat 32 r.2.val, valid := true }) []
  let poison : Tbl Bool := es.foldl (fun t e => if e.poison then tblSet false t (pos e / 16) true else t) []
  ({ words := words, poison := poison }, (rs.map fun r => r.2.sat).sum, (rs.map fun r => r.2.flush).sum)

/-! Stores. -/

/-- A byte on its way to memory: the bits that are written, and its poison. -/
structure OutByte where
  v : Nat := 0
  m : Nat := 0
  p : Bool := false
deriving DecidableEq, Repr

/-- Bytes for a virtual address, with the counts of the elements in them. -/
structure OutRun where
  va : Nat
  bs : List OutByte
  sat : Nat := 0
  flush : Nat := 0
deriving DecidableEq, Repr

/-- Whole bytes. -/
def wholeBytes (bs : List Byte) (p : Bool) : List OutByte := bs.map fun b => { v := b.toNat, m := 255, p := p }

/-- The bytes of a run of elements of width `w` from bit `b`: `none` leaves a place as it is. -/
def packRun (w b : Nat) (es : List (Option (Nat × Bool))) : List OutByte :=
  let at_ (k : Nat) : Nat := b + w * k
  let z := es.zipIdx
  let v := z.foldl (fun a e => match e.1 with | some (c, _) => a + (c % 2 ^ w) * 2 ^ at_ e.2 | none => a) 0
  let m := z.foldl (fun a e => match e.1 with | some _ => a + (2 ^ w - 1) * 2 ^ at_ e.2 | none => a) 0
  let hot := z.filter fun e => match e.1 with | some (_, q) => q | none => false
  (List.range ((b + w * es.length + 7) / 8)).map fun i =>
    { v := bits v (8 * i) 8, m := bits m (8 * i) 8
      p := hot.any fun e => decide (at_ e.2 < 8 * i + 8 ∧ 8 * i < at_ e.2 + w) }

/-- What a store of one granule answers. -/
inductive PWrite where
  | ok (poison : Bool)
  | sink (va : Nat)
  | bad (status va : Nat)
deriving DecidableEq, Repr

/-- Notes what a granule held in `old` before a program's store to it, which has been made (R145). -/
def State.noteStale (s : State) (u pa : Nat) (old : List Byte × Bool) : State :=
  match s.target pa with
  | .lpddr _ _ | .reservoir _ _ =>
    let g := pa / 64
    let now := s.granule g
    s.modPond u fun p =>
      { p with stale := tblSet {} p.stale g { olds := (p.staleAt g).olds ++ [old], last := now } }
  | _ => s

/-- Drops the leading and trailing bytes that nothing writes, with how many led. -/
def trimRun (bs : List OutByte) : Nat × List OutByte :=
  let k := (bs.takeWhile fun b => b.m == 0).length
  let r := bs.drop k
  (k, r.take (r.length - (r.reverse.takeWhile fun b => b.m == 0).length))

/-- Stores bytes of one granule at a virtual address for the program of pond `u`. A place of which not every bit is
written keeps its other bits (R84, R154). -/
def State.putBits (s : State) (u va : Nat) (bs0 : List OutByte) : PWrite × State :=
  let (k, bs) := trimRun bs0
  let va := va + k
  if bs.isEmpty then (.ok false, s)
  else
    let whole := bs.all fun b => b.m == 255
    match s.xlateFor (s.pondWho u (s.pond u).cur.asid) va (!whole || bs.length != 64) true with
    | (.fault _, s) => (.bad 0x20 va, s)
    | (.ok pa, s) =>
      let p := bs.any (·.p)
      if p && isHostPa pa then (.sink va, s)
      else
        let l := s.pondLine u
        let (old, s) := if whole then (({} : Rd), s) else s.load l pa bs.length
        let data := bs.zipIdx.map fun b =>
          let o := (old.data.getD b.2 0).toNat
          BitVec.ofNat 8 (o - (o &&& b.1.m) + (b.1.v &&& b.1.m))
        let before := s.granule (pa / 64)
        let (nt, s) := s.store l pa data (p || (!whole && old.poison))
        if nt then (.bad 0x21 va, s) else (.ok p, s.noteStale u pa before)

/-- What a store of runs answers: how it ended, whether poison was written, and the counts of what was converted. -/
structure PutOut where
  res : PWrite := .ok false
  poison : Bool := false
  sat : Nat := 0
  flush : Nat := 0
deriving DecidableEq, Repr

/-- Stores one run granule by granule, stopping at the first that faults or meets a sink (R185). Answers whether a granule
written before that is poisoned. -/
def State.putRun (s : State) (u : Nat) (r : OutRun) : PWrite × Bool × State :=
  (pieces r.va r.bs.length).foldl (fun (a, poison, s) p =>
    match a with
    | .ok _ =>
      match s.putBits u p.1 ((r.bs.drop (p.1 - r.va)).take p.2) with
      | (.ok c, s) => (.ok false, poison || c, s)
      | (x, s) => (x, poison, s)
    | x => (x, poison, s)) (.ok false, false, s)

/-- Stores runs in order (R185). Of the run in which a store stops, how many elements it has converted and counted is not
stated: a free value. -/
def State.putRuns (s : State) (u : Nat) (rs : List OutRun) : PutOut × State :=
  rs.foldl (fun (o, s) r =>
    match o.res with
    | .ok _ =>
      let (x, poison, s) := s.putRun u r
      let part (n : Nat) (s : State) : Nat := match x with | .ok _ => n | _ => s.free % (n + 1)
      ({ res := x, poison := o.poison || poison, sat := o.sat + part r.sat s, flush := o.flush + part r.flush s.bump },
       match x with | .ok _ => s | _ => s.bump.bump)
    | _ => (o, s)) ({}, s)

/-- A tile to be stored: its words by row and column, whether each word's run is poisoned, and its sides. -/
structure Source where
  word : Nat → Nat → TileWord
  poison : Nat → Nat → Bool
  side : Nat

/-- The source of a single tile. -/
def tileSource (t : Tile) : Source :=
  { word := fun i j => t.at (i * 64 + j), poison := fun i j => t.poisonAt (i * 64 + j), side := 64 }

/-- The source of an MMAG tile from its quadrants (R126). -/
def quadSource (qs : List (Nat × Tile)) : Source :=
  let q (i j : Nat) : Tile := ((qs.find? fun e => e.1 == i / 64 * 2 + j / 64).map (·.2)).getD {}
  { word := fun i j => (q i j).at (i % 64 * 64 + j % 64), poison := fun i j => (q i j).poisonAt (i % 64 * 64 + j % 64)
    side := 128 }

/-- A store of a tile at (i0, j0) in a format without blocks: one run for each stored row (R165, R166). `flushes` is the
grid's flush rule for BF16 and FP16 outputs of ST. -/
def storePlain (d : Desc) (f : Fmt) (flushes : Bool) (src : Source) (i0 j0 : Nat) : List OutRun :=
  let fl := flushes && (f == .bf16 || f == .fp16)
  (List.range (min src.side (d.rows - i0))).map fun r =>
    let es := (List.range (min src.side (d.cols - j0))).map fun c =>
      let w := src.word r c
      if w.valid then some (convertElem f fl fl w.exact, src.poison r c) else none
    let run := d.run f (i0 + r) j0 es.length
    let cs := es.filterMap fun e => e.map (·.1)
    { va := run.va, bs := packRun (fmtWidth f) run.bit (es.map fun e => e.map fun x => (x.1.val, x.2))
      sat := (cs.map Conv.sat).sum, flush := (cs.map Conv.flush).sum }

/-- One block of an MX store (R210): its 32 places in the tile, given by the row and column of each. -/
def storeBlock (d : Desc) (f : Fmt) (src : Source) (i0 j0 : Nat) (places : List (Nat × Nat)) : List OutRun :=
  let counted (q : Nat × Nat) : Bool :=
    decide (q.1 < src.side ∧ q.2 < src.side ∧ i0 + q.1 < d.rows ∧ j0 + q.2 < d.cols) && (src.word q.1 q.2).valid
  match places with
  | [] => []
  | q0 :: _ =>
    if places.any counted then
      let vals := places.map fun q => if counted q then (src.word q.1 q.2).exact else .fin false 0 0
      let b := mxEncode f vals
      let p := places.any fun q => counted q && src.poison q.1 q.2
      let run := d.run f (i0 + q0.1) (j0 + q0.2) 32
      [{ va := run.va, bs := packRun (fmtWidth f) run.bit (b.elems.map fun c => some (c, p)), sat := b.sat, flush := b.flush },
       { va := d.scaleVa (i0 + q0.1) (j0 + q0.2), bs := wholeBytes [BitVec.ofNat 8 b.scale] p }]
    else []

/-- A store of a tile at (i0, j0) in an MX format: blocks of a row, or of a 32-row band of a column. -/
def storeMx (d : Desc) (f : Fmt) (src : Source) (i0 j0 : Nat) : List OutRun :=
  let n := src.side / 32
  let blocks : List (List (Nat × Nat)) :=
    if d.mxdir then
      (List.range n).flatMap fun q => (List.range src.side).map fun c => (List.range 32).map fun k => (q * 32 + k, c)
    else
      (List.range src.side).flatMap fun r => (List.range n).map fun q => (List.range 32).map fun k => (r, q * 32 + k)
  blocks.flatMap (storeBlock d f src i0 j0)

/-- The runs that a store of a tile writes, with their counts. -/
def storeTile (d : Desc) (f : Fmt) (flushes : Bool) (src : Source) (i0 j0 : Nat) : List OutRun :=
  if fmtIsMx f then storeMx d f src i0 j0 else storePlain d f flushes src i0 j0

/-- Appends a phase record (R175, R176). -/
def State.phaseRecord (s : State) (l phase src b pond step job : Nat) : State :=
  s.appendRing l (lnKey l 0x300) (lnKey l 0x308) fun wrap =>
    (BitVec.ofNat 64 s.time,
     BitVec.ofNat 64 (phase + src * 2 ^ 4 + b * 2 ^ 5 + pond * 2 ^ 8 + ofBool wrap * 2 ^ 11
       + step % 2 ^ 32 * 2 ^ 16 + job % 2 ^ 16 * 2 ^ 48))

end Sys2Proof.Machine
end

