-- ==== Sys2Proof/Machine/Grid.lean ====
section
/-!
DEFINITION. The grids: the arithmetic of an MMA (R97 to R102, R112, R124), ramps and tile boundaries (R132 to R136), and
the drain into the sluice (R119, R120, R193, R462).
-/
namespace Sys2Proof.Machine

/-! Operands. -/

/-- The format in which a mode takes an operand. -/
def Load.operandFmt (x : Load) : Nat := if x.tb.isSome then (if x.cvt then 1 else 0) else x.fmt

/-- A mode admits a pair of operand formats (R113). -/
def modeAdmits (mode a b : Nat) : Bool :=
  match mode with
  | 0 => (a == 3 || a == 4) && (b == 3 || b == 4)
  | 1 => decide (5 ≤ a ∧ a ≤ 9 ∧ 5 ≤ b ∧ b ≤ 9) && !(a == 9 && b == 9)
  | 2 => a == 9 && b == 9
  | 3 => a == 0xA && b == 0xA
  | 4 => a == 0xB && b == 0xB
  | 5 => (a == 1 || a == 2) && (b == 1 || b == 2)
  | 6 => a == 0 && b == 0
  | _ => false

/-- An integer mode. -/
def intMode (mode : Nat) : Bool := mode == 3 || mode == 4

/-- Values of k in one step (R112). -/
def stepSize (mode : Nat) : Nat := if mode = 2 ∨ mode = 4 then 8 else 4

/-- The operand elements of one row of A or column of B, by ascending k. -/
def Load.lane (x : Load) (o : Nat) : List (Nat × OperandElem) :=
  x.elems.filterMap fun e => if e.1 / 65536 = o then some (e.1 % 65536, e.2) else none

/-- The value of an operand element (R91, R97). -/
def operandNum (f : Nat) (e : OperandElem) : Num :=
  match f with
  | 0 => (gridInput fp32 e.code).val
  | 1 => (gridInput bf16 e.code).val
  | 2 => (gridInput fp16 e.code).val
  | f => match fmtOfCode f with | some f => elemValue f e.code e.scale | none => .nan

/-- The pairs of a row and a column at equal k, both ascending. A position that either leaves out is padding (R124). -/
def pairLanes {α : Type} : (fuel : Nat) → List (Nat × α) → List (Nat × α) → List (Nat × α × α)
  | fuel + 1, (i, x) :: a, (j, y) :: b =>
    if i = j then (i, x, y) :: pairLanes fuel a b
    else if i < j then pairLanes fuel a ((j, y) :: b)
    else pairLanes fuel ((i, x) :: a) b
  | _, _, _ => []

/-- Products grouped by step. -/
def stepGroups {α : Type} (size : Nat) : List (Nat × α) → List (Nat × List α)
  | [] => []
  | (k, x) :: r =>
    match stepGroups size r with
    | [] => [(k / size, [x])]
    | (j, g) :: t => if j = k / size then (j, x :: g) :: t else (k / size, [x]) :: (j, g) :: t

/-- The products of one output element by step. -/
def productSteps {α : Type} (mul : α → α → α) (size : Nat) (a b : List (Nat × α)) : List (List α) :=
  (stepGroups size ((pairLanes (a.length + b.length) a b).map fun p => (p.1, mul p.2.1 p.2.2))).map (·.2)

/-- One output element of a floating-point mode, with the counts of its exit (R98 to R102). -/
def floatElem (size : Nat) (c : Num) (a b : List (Nat × Num)) : F32 :=
  gridExit ((productSteps Num.mul size a b).foldl cellStep (cellStep c []))

/-- One output element of an integer mode (R101): its word, and its counts. -/
def intElem (size ofmt : Nat) (c : Int) (a b : List (Nat × Int)) : TileWord × Nat × Nat :=
  let r := (productSteps (· * ·) size a b).foldl (fun (x, sat) g =>
    let y := intStep x g
    (y.1, sat || y.2)) (c, false)
  if ofmt = 0xC then
    let v := convertInt 32 (ofInt r.1)
    ({ code := BitVec.ofNat 32 (wrapInt 32 v.val), valid := true, isInt := true }, ofBool r.2 + v.sat, v.flush)
  else
    let v := toF32 (ofInt r.1)
    ({ code := BitVec.ofNat 32 v.val, valid := true }, ofBool r.2 + v.sat, v.flush)

/-- A word that a preload enters into C, with its counts (R100, R101, R163, R197). -/
def preloadNum (w : TileWord) : Conv Num :=
  if !w.valid then ⟨.fin false 0 0, 0, 0⟩
  else if w.isInt then ⟨w.num, 0, 0⟩ else gridInput fp32 w.code.toNat

def preloadInt (w : TileWord) : Conv Int :=
  if !w.valid then ⟨0, 0, 0⟩
  else if w.isInt then ⟨signed 32 w.code.toNat, 0, 0⟩ else intPreload w.code.toNat

/-- The counts of a preload's words. -/
def preloadCounts (mode : Nat) (t : Tile) : Nat × Nat :=
  t.words.foldl (fun c e =>
    if intMode mode then (c.1 + (preloadInt e.2).sat, c.2 + (preloadInt e.2).flush)
    else (c.1 + (preloadNum e.2).sat, c.2 + (preloadNum e.2).flush)) (0, 0)

/-- The tile that grid `q` drains for an MMA, with its exit counts: quadrant `q` of an MMAG (R119, R124, R126). Rows and
columns inside EXT are valid also where the operand's descriptor pads them (DESIGN CHOICE: R154 pads an operand under R124,
whose M and N are those of the loads; notes/assumptions). -/
def MmaOp.tile (m : MmaOp) (q : Nat) : Tile × Nat × Nat :=
  let r0 := if m.gang then q / 2 * 64 else 0
  let c0 := if m.gang then q % 2 * 64 else 0
  let pre : Tile := m.preTiles.getD (if m.gang then q else 0) {}
  let rows := min 64 (m.a.ext - r0)
  let cols := min 64 (m.b.ext - c0)
  let size := stepSize m.mode
  let fa := m.a.operandFmt
  let fb := m.b.operandFmt
  let cells : List (Nat × TileWord × Nat × Nat) :=
    if intMode m.mode then
      let w := if m.mode = 3 then 8 else 4
      let ints (x : Load) (o : Nat) : List (Nat × Int) := (x.lane o).map fun e => (e.1, signed w e.2.code)
      let bs := (List.range cols).map fun j => ints m.b (c0 + j)
      (List.range rows).flatMap fun i =>
        let a := ints m.a (r0 + i)
        bs.zipIdx.map fun b => (i * 64 + b.2, intElem size m.ofmt (preloadInt (pre.at (i * 64 + b.2))).val a b.1)
    else
      let nums (f : Nat) (x : Load) (o : Nat) : List (Nat × Num) := (x.lane o).map fun e => (e.1, operandNum f e.2)
      let bs := (List.range cols).map fun j => nums fb m.b (c0 + j)
      (List.range rows).flatMap fun i =>
        let a := nums fa m.a (r0 + i)
        bs.zipIdx.map fun b =>
          let r := floatElem size (preloadNum (pre.at (i * 64 + b.2))).val a b.1
          (i * 64 + b.2, { code := BitVec.ofNat 32 r.val, valid := true }, r.sat, r.flush)
  let bad := m.poison || m.a.poison || m.b.poison
  ({ words := cells.map fun c => (c.1, c.2.1), poison := if bad then (List.range 256).map fun r => (r, true) else [] },
   (cells.map fun c => c.2.2.1).sum, (cells.map fun c => c.2.2.2).sum)

/-! Slots and names. -/

/-- The slot that serves grid `q` of pond `u`, as basin × 34 + slot (R58, R139). -/
def State.gridOf (s : State) (u q : Nat) : Option Nat :=
  let k := tblGet 34 s.bindings (u / 8 * 64 + u % 8 * 4 + q)
  if k < 34 then some (u / 8 * 34 + k) else none

/-- The grid name that slot `g` serves: the pond and the grid. -/
def State.nameOf (s : State) (g : Nat) : Option (Nat × Nat) :=
  ((List.range 32).find? fun n => tblGet 34 s.bindings (g / 34 * 64 + n) == g % 34).map fun n => (g / 34 * 8 + n / 4, n % 4)

/-- The queue of grid `q`. -/
def Pond.gridOps (p : Pond) (q : Nat) : List MmaOp := tblGet [] p.gridQ q

/-- Applies an effect to every copy of the MMA issued as `seq`. -/
def Pond.modMma (p : Pond) (seq : Nat) (f : MmaOp → MmaOp) : Pond :=
  { p with gridQ := p.gridQ.map fun e => (e.1, e.2.map fun m => if m.seq = seq then f m else m) }

/-- The next MMA that grid `q` has not started. -/
def Pond.nextMma (p : Pond) (q : Nat) : Option MmaOp := (p.gridOps q).find? fun m => !m.started

/-- The copy of an MMA that holds its operands. -/
def Pond.mmaOf (p : Pond) (m : MmaOp) : MmaOp :=
  if m.gang then ((p.gridOps 0).find? fun x => x.seq == m.seq).getD m else m

/-- An MMA's operands and preload are at hand (R118, R121). -/
def MmaOp.fed (m : MmaOp) : Bool := m.a.ready && m.b.ready && (m.pre == 0 || m.preReady)

/-- The grids of pond `u` that an MMA at the head of grid `q`'s queue needs. -/
def mmaGrids (m : MmaOp) (q : Nat) : List Nat := if m.gang then [0, 1, 2, 3] else [q]

/-- Grid `q` of pond `u` is served by a slot that takes tiles: no request asks it to leave, and it is not out (R135). -/
def State.gridTakes (s : State) (u q : Nat) : Bool :=
  match s.gridOf u q with
  | some g => let x := s.grid g; !x.takeOut && !x.leave && !x.testReq && !x.out && x.phase != .test
  | none => false

/-- Grid `q` of pond `u` holds (R122). -/
def State.gridHeld (s : State) (u q : Nat) : Bool :=
  match s.gridOf u q with
  | some g => (s.grid g).held
  | none => false

/-- A C bank of grid `q` is free for another tile (R111, R117): of its two, at most one holds a tile whose drain has not
begun. -/
def Pond.bankFree (p : Pond) (q : Nat) : Bool :=
  decide (((p.gridOps q).filter fun m => m.started && !m.claimed.contains q).length < 2)

/-- The next MMA of grid `q` of pond `u` whose turn has come at every grid that it needs: they take tiles, none of them
holds, and each has a bank for it (R118, R122, R135). -/
def State.turn (s : State) (u q : Nat) : Option MmaOp :=
  let p := s.pond u
  (p.nextMma q).bind fun m0 =>
    let m := p.mmaOf m0
    if (mmaGrids m q).all (fun k =>
        s.gridTakes u k && !s.gridHeld u k && p.bankFree k && decide ((p.nextMma k).map (·.seq) = some m.seq))
    then some m else none

/-- The MMA that grid `q` of pond `u` could start: the one whose turn has come, with its operands and preload. -/
def State.startable (s : State) (u q : Nat) : Option MmaOp := (s.turn u q).filter MmaOp.fed

/-- The phase of grid `q` of pond `u`. -/
def State.phaseOf (s : State) (u q : Nat) : GridPhase :=
  match s.gridOf u q with
  | some g => (s.grid g).phase
  | none => .idle

/-- An MMA starts on its grids, which take the phase that `f` gives. -/
def State.startMma (s : State) (u q : Nat) (m : MmaOp) (f : GridPhase → GridPhase) : State :=
  let s := s.modPond u fun p => p.modMma m.seq fun x => { x with started := true }
  s.each (mmaGrids m q) fun s k =>
    match s.gridOf u k with
    | some g => s.modGrid g fun x => { x with phase := f x.phase, lastMode := m.mode, ganged := m.gang }
    | none => s

/-- A grid that issues without a new ramp: from a stop ramp's stage s the start ramp goes on from stage 3 − s (R134). -/
def GridPhase.resume : GridPhase → GridPhase
  | .rampDown st => .rampUp (3 - st)
  | x => x

/-- The Line of pond `u` works: it is not FAILED, and dispatched work goes on (R30, R31). -/
def State.pondWorks (s : State) (u : Nat) : Bool := (s.lineStOf (u / 8)).works

/-! Ramps. -/

/-- The grid advances: its Line is not FAILED (R136). -/
def State.gridRuns (s : State) (g : Nat) : Bool := s.lineStOf (g / 34) != .failed

/-- The slots that share a ramp with slot `g`: the four of a super-grid, or itself (R134). -/
def State.rampGroup (s : State) (g : Nat) : List Nat :=
  match s.nameOf g with
  | some (u, _) =>
    if (s.grid g).ganged then
      (List.range 4).filterMap fun q => (s.gridOf u q).filter fun k => (s.grid k).ganged && (s.grid k).phase == (s.grid g).phase
    else [g]
  | none => [g]

/-- Sets the phase of all slots that share a ramp with `g`. -/
def State.setPhase (s : State) (g : Nat) (f : GridPhase → GridPhase) : State :=
  s.each (s.rampGroup g) fun s k => s.modGrid k fun x => { x with phase := f x.phase }

/-- START_RAMP of slot `g` (R132): from idle, or after a dry spell or stall of at least L cycles (R134), between tiles or
inside one. The quiet count is in clock cycles, which the model does not have: that it has reached L is the event's. -/
def State.startRamp (s : State) (g : Nat) : State :=
  match s.nameOf g with
  | none => s
  | some (u, q) =>
    if !s.pondWorks u then s
    else
      match s.startable u q with
      | some m =>
        if (mmaGrids m q).all fun k => s.phaseOf u k == .idle || s.phaseOf u k == .active then
          s.startMma u q m fun _ => .rampUp 0
        else s
      | none =>
        let inTile := ((s.pond u).gridOps q).any fun m => m.started && !m.claimed.contains q
        if (s.grid g).phase == .active && inTile && !(s.grid g).held then s.setPhase g fun _ => .rampUp 0 else s

/-- STOP_RAMP of slot `g`: the last queued MMA has issued its last step, or the grid is leaving (R133, R135). -/
def State.stopRamp (s : State) (g : Nat) : State :=
  let more := (s.rampGroup g).any fun k => match s.nameOf k with
    | some (u, q) => ((s.pond u).nextMma q).isSome && s.gridTakes u q
    | none => false
  match (s.grid g).phase with
  | .active | .rampUp _ => if more || !s.gridRuns g then s else s.setPhase g fun _ => .rampDown 0
  | _ => s

/-- The phase after a stage of a ramp. -/
def GridPhase.stageEnd : GridPhase → GridPhase
  | .rampUp st => if 3 ≤ st then .active else .rampUp (st + 1)
  | .rampDown st => .rampDown (min 3 (st + 1))
  | p => p

/-- RAMP_STAGE_END of slot `g` (R132, R133). -/
def State.rampStageEnd (s : State) (g : Nat) : State := if s.gridRuns g then s.setPhase g GridPhase.stageEnd else s

/-- Grid slot `g` has a tile that is started and whose slot is not full. A super-grid's tile ends for all four grids
together (R135). -/
def State.gridBusy (s : State) (g : Nat) : Bool :=
  match s.nameOf g with
  | some (u, q) => ((s.pond u).gridOps q).any fun m => m.started && (m.gang || !m.full.contains q)
  | none => false

/-- The group of a basin's slot: ponds 0 to 3 with slot 32, or ponds 4 to 7 with slot 33 (R459). -/
def slotGroup (k : Nat) : Nat := if k < 16 ∨ k = 32 then 0 else 1

/-- The spare of a group of basin `b`: a slot that serves no name, is HEALTHY and is not under test (R459). -/
def State.groupSpare (s : State) (b grp : Nat) : Option Nat :=
  let free (k : Nat) : Bool :=
    (s.nameOf (b * 34 + k)).isNone && (s.healthOf (gridHealth b k)).st == .healthy
    && (tblGet none s.tests (gridHealth b k)).isNone
  ((32 + grp) :: (List.range 16).map (· + 16 * grp)).find? free

/-- The name that slot `g` serves is given to slot `k` of its basin, or left unserved (R135, R463). -/
def State.giveName (s : State) (g : Nat) (k : Option Nat) : State :=
  match s.nameOf g with
  | some (u, q) => { s with bindings := tblSet 34 s.bindings (g / 34 * 64 + u % 8 * 4 + q) (k.getD 34) }
  | none => s

/-- A slot at rest that is to leave gives its name to the group's spare, if there is one (R463). -/
def State.takeOver (s : State) (g : Nat) : State :=
  if (s.grid g).leave then
    (s.giveName g (s.groupSpare (g / 34) (slotGroup (g % 34)))).modGrid g fun x =>
      { x with leave := false, out := s.flag (grdKey g 0) 8, takeOut := false }
  else s

/-- A grid that has stopped: IDLE, or TEST when a test was requested (R135). TEST_REQ stays set until the test begins
(R138). -/
def State.rest (s : State) (g : Nat) : State :=
  let x := s.grid g
  if x.out && x.testReq then s.modGrid g fun x => { x with phase := .test }
  else (s.modGrid g fun x => { x with phase := .idle }).takeOver g

/-- GRID_IDLE of slot `g` (R133): the last ballast step has left, and every claimed slot is full. -/
def State.gridIdle (s : State) (g : Nat) : State :=
  if (s.grid g).phase = .rampDown 3 ∧ s.gridBusy g = false ∧ s.gridRuns g = true then s.rest g else s

/-- TILE_BOUNDARY_TAKE_OUT of slot `g` (R135): a pending request takes the grid out. -/
def State.takeOut (s : State) (g : Nat) : State :=
  let x := s.grid g
  if (x.takeOut || x.leave || x.testReq) && s.gridRuns g then
    let s := s.modGrid g fun x => { x with out := true, takeOut := false }
    match x.phase with
    | .idle => s.rest g
    | .active | .rampUp _ => s.modGrid g fun x => { x with phase := .rampDown 0 }
    | _ => s
  else s

/-- A request that reaches an IDLE grid acts at once (R135). -/
def State.requestAtRest (s : State) (g : Nat) : State :=
  if (s.grid g).phase = .idle ∧ s.gridBusy g = false then s.takeOut g else s

/-- A write of GRD_CTL of slot `g` (R138, R136). RAMP is frozen by the Line lock (R9). -/
def State.writeGrdCtl (s : State) (g : Nat) (v : Word) : State :=
  let s := (s.undefIf (v.field 3 5 != 0 || v.field 10 54 != 0) .reservedWrite).undefIf (v.field 0 3 == 7) .rampSeven
  let k := grdKey g 0
  let s := if s.lockedAt (g / 34) then s else s.setFld k 0 3 (v.field 0 3)
  let s := s.setFlag k 8 (v.flag 8)
  let s := if v.flag 8 then s.modGrid g fun x => if x.out then x else { x with takeOut := true }
           else s.modGrid g fun x => { x with takeOut := false, out := x.out && (x.testReq || x.leave || x.phase == .test) }
  let s := if v.flag 9 then (s.setFlag k 9 true).modGrid g fun x => { x with testReq := true } else s
  s.requestAtRest g

/-! The drain. -/

/-- The FREE slots of a pond, ascending. -/
def Pond.freeSlots (p : Pond) : List Nat := (List.range 8).filter fun k => (p.slot k).st == .free

/-- The MMA whose band 0 is due to leave the drain of grid `q`. -/
def Pond.draining (p : Pond) (q : Nat) : Option MmaOp :=
  ((p.gridOps q).find? fun m => m.started && !m.claimed.contains q).map p.mmaOf

/-- Steps of an MMA (R112). -/
def MmaOp.steps (m : MmaOp) : Nat := (m.a.k + stepSize m.mode - 1) / stepSize m.mode

/-- Counts on the registers of the slots that serve grids (R141). -/
def State.countGrids (s : State) (u off n : Nat) (qs : List Nat) : State :=
  s.each qs fun s q => match s.gridOf u q with | some g => s.count (grdKey g off) n | none => s

/-- Marks the slots that serve grids as held or not (R139). -/
def State.holdGrids (s : State) (u : Nat) (qs : List Nat) (on : Bool) : State :=
  s.each qs fun s q => match s.gridOf u q with | some g => s.modGrid g fun x => { x with held := on } | none => s

/-- One claim of grid `q` (R120, R193): answers whether one was due and failed. The tile's steps have all issued by then;
how many bubbles it had depends on clock cycles, which the model does not have: they are a free value (DESIGN CHOICE;
notes/assumptions). -/
def State.claimOne (s : State) (u q : Nat) : Bool × State :=
  match (s.pond u).draining q with
  | none => (false, s)
  | some m =>
    let qs := mmaGrids m q
    let free := (s.pond u).freeSlots
    if m.gang ∧ q ≠ 0 then (false, s)
    else if free.length < qs.length then (true, (s.holdGrids u qs true).countGrids u 0x28 1 qs)
    else
      let s := s.modPond u fun p =>
        (qs.zip free).foldl (fun p c => p.modSlot c.2 fun _ =>
          { st := .filling, ticket := m.ticket, ofmt := m.ofmt, omx := m.omx, gang := m.gang
            quad := if m.gang then c.1 else 0 }) (p.modMma m.seq fun x => { x with claimed := qs })
      let bubbles := s.free
      let s := (s.bump.holdGrids u qs false).countGrids u 0x18 (m.steps - m.issued) qs
      (false, s.countGrids u 0x20 bubbles qs)

/-- The steps that grid `q` of pond `u` has issued of the tile in its array come into GRD_STEPS (R141): how many, up to those
that the tile has left, is a free value until the tile drains. -/
def State.sampleGrid (s : State) (u q : Nat) : State :=
  match (s.pond u).draining q with
  | some m =>
    if m.gang && q != 0 then s
    else
      let k := s.free % (m.steps - m.issued + 1)
      (s.bump.countGrids u 0x18 k (mmaGrids m q)).modPond u fun p => p.modMma m.seq fun x => { x with issued := x.issued + k }
  | none => s

/-- GRD_STEPS of every grid of basin `b` as far as its tiles have come. -/
def State.sampleBasin (s : State) (b : Nat) : State :=
  s.each (List.range 32) fun s n => s.sampleGrid (b * 8 + n / 4) (n % 4)

/-- SLOT_CLAIM: the claims of one clock cycle by the grids in `mask`, in the order G0 to G3 (R193). -/
def State.slotClaim (s : State) (u mask : Nat) : State :=
  if s.pondWorks u then
    let (fail, s) := ((List.range 4).filter (bit mask)).foldl (fun (f, s) q =>
      let (g, s) := s.claimOne u q
      (f || g, s)) (false, s)
    s.when fail (·.count (pdKey u 0x88) 1)
  else s

/-- The MMA whose last band grid `q` writes next. -/
def Pond.filling (p : Pond) (q : Nat) : Option MmaOp :=
  ((p.gridOps q).find? fun m => m.claimed.contains q && !m.full.contains q).map p.mmaOf

/-- The slot that an MMA's grid `q` fills. -/
def Pond.slotFor (p : Pond) (m : MmaOp) (q : Nat) : Option Nat :=
  (List.range 8).find? fun k =>
    let sl := p.slot k
    sl.st == .filling && sl.ticket == m.ticket && (!m.gang || sl.quad == q)

/-- The slot of grid `q` becomes full with the tile of its MMA (R119). A shadow mismatch poisons it (R462). Answers the
MMA when all its slots are full. -/
def State.fillSlot (s : State) (u q : Nat) (mismatch : Bool) : Option MmaOp × State :=
  let p := s.pond u
  match p.filling q with
  | none => (none, s)
  | some m =>
    match p.slotFor m q with
    | none => (none, s)
    | some k =>
      let (t, sat, flush) := m.tile q
      let t := if mismatch then { t with poison := (List.range 256).map fun r => (r, true) } else t
      let add (x : MmaOp) : MmaOp :=
        { x with full := x.full ++ [q], sat := x.sat + sat, flush := x.flush + flush, poison := x.poison || mismatch }
      let s := s.modPond u fun p => (p.modSlot k fun sl => { sl with st := .full, tile := t }).modMma m.seq add
      let m := add m
      if m.full.length = (mmaGrids m q).length then
        (some m, s.modPond u fun p =>
          { p with gridQ := (p.gridQ.map fun e => (e.1, e.2.filter fun x => x.seq != m.seq)).filter fun e => !e.2.isEmpty })
      else (none, s)

/-- The report of an MMA that has finished: its loads' and its preload's counts are charged to it (R101, R129, R158). -/
def MmaOp.report (m : MmaOp) : OpDone :=
  let pre := m.preTiles.foldl (fun c t => let x := preloadCounts m.mode t; (c.1 + x.1, c.2 + x.2)) (0, 0)
  { opcode := if m.gang then 0x39 else 0x38, pc := m.pc, ticket := m.ticket, record := m.record
    sat := m.sat + m.a.sat + m.b.sat + pre.1, flush := m.flush + m.a.flush + m.b.flush + pre.2
    poison := m.poison || m.a.poison || m.b.poison }

/-- HOLD_NEW: a write of GRD_CTL. -/
def execHoldNew (via : Via) (g : SlotId) (v : Word) : State → Out :=
  runU fun s => s.bWrite via (g / 34) (·.writeGrdCtl g v)

/-- TEST_REQ: a write of GRD_CTL. -/
def execTestReq (via : Via) (g : SlotId) (v : Word) : State → Out :=
  runU fun s => s.bWrite via (g / 34) (·.writeGrdCtl g v)

/-- START_RAMP: a start ramp begins. -/
def execStartRamp (g : SlotId) : State → Out := run fun s => s.startRamp g

/-- STOP_RAMP: a stop ramp begins. -/
def execStopRamp (g : SlotId) : State → Out := run fun s => s.stopRamp g

/-- RAMP_STAGE_END: a stage of a ramp expires. -/
def execRampStageEnd (g : SlotId) : State → Out := run fun s => s.rampStageEnd g

/-- GRID_IDLE: the grid comes to rest. -/
def execGridIdle (g : SlotId) : State → Out := run fun s => s.gridIdle g

/-- TILE_BOUNDARY_TAKE_OUT: a pending request takes the grid out. -/
def execTileBoundaryTakeOut (g : SlotId) : State → Out := run fun s => s.takeOut g

end Sys2Proof.Machine
end

