-- ==== Sys2Proof/Machine/Launch.lean ====
section
/-!
DEFINITION. Launches of tile programs, the end of a program, instruction-memory loads and the writes of PD_CTL,
PD_LAUNCH and PD_IMEM_CTL (R177 to R190, R580, R581).
-/
namespace Sys2Proof.Machine

/-! The end of a program. -/

/-- The words of a completion record (R181). -/
def State.progRecord (s : State) (u : Nat) (la : Launch) (f : PondEnd) : List Word :=
  [BitVec.ofNat 64 (f.status + ofBool f.poison * 2 ^ 8 + ofBool f.emptyAny * 2 ^ 9 + min f.sat 0xFFFF * 2 ^ 16
     + min f.flush 0xFFFF * 2 ^ 32 + la.job % 2 ^ 16 * 2 ^ 48),
   BitVec.ofNat 64 (f.pc % 2 ^ 13 + u % 8 * 2 ^ 13 + u / 8 * 2 ^ 16 + f.code % 2 ^ 16 * 2 ^ 32),
   BitVec.ofNat 64 s.time,
   if f.status = 0x20 ∨ f.status = 0x21 then signVa f.faultVa else 0]

/-- Records a program or load that did not end OK in PD_FAULT and PD_FAULT_VA (R190). -/
def State.pdFault (s : State) (u status pc : Nat) (va : Word) : State :=
  (s.setReg (pdKey u 0x60) (BitVec.ofNat 64 (status + pc % 2 ^ 13 * 2 ^ 8))).setReg (pdKey u 0x68) va

/-- Steps 4 and 5 of R180 for a launch: the record, the DONE add, PD_FAULT and the interrupt of R417. -/
def State.endLaunch (s : State) (u : Nat) (la : Launch) (rec : Option Nat) (f : PondEnd) : State :=
  let l := s.pondLine u
  let s := match rec with
    | some a => (s.store l a (wordBytes (s.progRecord u la f))).2
    | none => s
  let s := s.when la.doneEn (·.counterAdd l la.doneCtr 1)
  s.when (f.status != 0) fun s =>
    (s.pdFault u f.status f.pc (if f.status = 0x20 ∨ f.status = 0x21 then signVa f.faultVa else 0)).raise l
      (0x40 + 8 * s.place (u / 8) + u % 8)

/-- Translates a launch's REC_VA (R180): the record's address, or none where there is none or it faults. -/
def State.recAddr (s : State) (u : Nat) (la : Launch) : Option Nat × Bool × State :=
  if la.recVa = 0 then (none, false, s)
  else
    match s.xlateFor (s.pondWho u la.asid) la.recVa false true with
    | (.ok pa, s) => (some pa, false, s)
    | (.fault _, s) => (none, true, s)

/-- A launch ends before it starts (R180, R454). -/
def State.dropLaunch (s : State) (u : Nat) (la : Launch) (status : Nat) : State :=
  let (rec, _, s) := s.recAddr u la
  s.endLaunch u la rec { status := status, pc := la.entry }

/-- Every queued launch ends with LAUNCH_DROPPED, in queue order (R187, R188). -/
def State.flushLaunches (s : State) (u : Nat) : State :=
  let q := (s.pond u).launches
  q.foldl (fun s la => s.dropLaunch u la 0x32) (s.modPond u fun p => { p with launches := [] })

/-- Nothing of the program is still under way. -/
def Pond.drained (p : Pond) : Bool :=
  p.mmas.isEmpty && p.vecQ.isEmpty && p.storeQ.isEmpty && p.xsQ.isEmpty && p.posted.isEmpty && p.tbLoads.isEmpty

/-- The pond after a program: its queues are empty, and the release of the tickets that it held begins (R179, R180 step 3,
R192). -/
def Pond.afterProgram (p : Pond) : Pond :=
  { p with
    mode := .idle, wait := .none, cur := {}, recDpa := none, fenced := false, loops := [], held := [], feedA := [], feedB := []
    gridQ := [], vecQ := [], storeQ := [], xsQ := [], posted := [], stale := [], fin := {}
    slots := (p.slots.filter fun e => e.2.st != .free).map fun e => (e.1, { e.2 with st := .releasing, relSeq := 0 }) }

/-- The running program of pond `u` finishes (R180 steps 3 to 5). No grid holds for it any more. -/
def State.finishProgram (s : State) (u : Nat) : State :=
  let p := s.pond u
  let s := (s.modPond u Pond.afterProgram).holdGrids u [0, 1, 2, 3] false
  s.endLaunch u p.cur p.recDpa p.fin

/-- What is left of a program cannot go on: its MMAs wait for slots that only its own end frees, or for a grid name that
nothing serves, and its vector and store queues wait for them (R58, R162). -/
def State.stuck (s : State) (u : Nat) : Bool :=
  let p := s.pond u
  let all := (List.range 8).map p.slot
  let free := (all.filter fun sl => sl.st == .free).length
  let blocked (m : MmaOp) : Bool :=
    m.claimed.isEmpty && (decide (free < if m.gang then 4 else 1)
      || (!m.started && (List.range 4).any fun q => (p.gridOps q).any (·.seq == m.seq) && !s.gridTakes u q))
  !p.mmas.isEmpty && all.all (fun sl => sl.st == .free || sl.st == .full) && p.mmas.all blocked
  && (p.vecQ.take 1 ++ p.storeQ.take 1).all fun o => !p.opReady o

/-- A program that is ending finishes when its earlier work has (R180), or, once PD_RUN_LIMIT has passed, when that work
cannot go on (R162). -/
def State.tryFinish (s : State) (u : Nat) : State :=
  let p := s.pond u
  if p.mode = .ending ∧ (p.drained || (p.limitHit && s.stuck u)) = true ∧ s.lineStOf (u / 8) ≠ .failed then s.finishProgram u
  else s

/-- The running program of pond `u` ends for a cause outside its instructions (R184, R188). What it has issued finishes
(R180). -/
def State.cutProgram (s : State) (u status : Nat) : State :=
  let p := s.pond u
  let s := s.when (p.mode != .idle && status == 0x23) (·.modPond u fun p => { p with limitHit := true })
  if p.mode = .idle then s
  else if p.mode = .ending ∧ p.fin.status ≠ 0 then s.tryFinish u
  else
    (s.modPond u fun p =>
      { p with
        mode := .ending, wait := .none
        fin := { p.fin with status := status, pc := p.pc, code := 0, faultVa := 0 } }).tryFinish u

/-! Launches. -/

/-- The launch that a block of eight words names (R177). -/
def launchOf (ws : List Word) : Launch :=
  let w (i : Nat) : Word := ws.getD i 0
  { entry := (w 0).field 0 13, asid := (w 0).field 16 16, job := (w 0).field 32 16, cls := (w 0).field 48 2
    doneEn := (w 0).flag 50, recVa := (w 1).field 0 57, doneCtr := (w 2).field 0 15
    args := [w 3, w 4, w 5, w 6, w 7] }

/-- The undefined value of a launch block: CLASS 3 (R177, R557). -/
def State.launchUndef (s : State) (ws : List Word) : State :=
  s.undefIf ((ws.getD 0 0).field 48 2 == 3) .launchClass

/-- An instruction-memory load is pending (PD_IMEM_CTL.BUSY). -/
def State.imemBusy (s : State) (u : Nat) : Bool := s.flag (pdKey u 0x20) 33

/-- The next queued launch of pond `u` may start (R178, R187, R190). -/
def State.startDue (s : State) (u : Nat) : Bool :=
  decide ((s.pond u).mode = .idle) && s.lineStOf (u / 8) == .running && !s.flag (pdKey u 0) 1 && !s.imemBusy u

/-- A launch reaches a pond (R178, R187, R581). Answers whether it was dropped at a full queue. At a full queue whose first
launch is about to start it takes the entry that this start leaves. -/
def State.enterLaunch (s : State) (u : Nat) (la : Launch) : Bool × State :=
  let (va, s) := s.lowBits la.recVa 32
  let la : Launch := { la with recVa := va }
  if s.lineStOf (u / 8) = .stopping then (false, s.dropLaunch u la 0x32)
  else if (if s.startDue u then 9 else 8) ≤ (s.pond u).launches.length then (true, s)
  else (false, s.modPond u fun p => { p with launches := p.launches ++ [la] })

/-- A write of PD_LAUNCH (R178, R190, R580). -/
def State.writeLaunch (s : State) (u : Nat) (v : Word) : State :=
  let s := s.undefIf (v.field 52 12 != 0) .reservedWrite
  let (ws, r, s) := s.loadWords (s.pondLine u) (v.field 6 46 * 64) 8
  if r.noTarget then s.pdFault u 0x21 0 0
  else if r.poison then s.pdFault u 0x30 0 0
  else
    let (full, s) := (s.launchUndef ws).enterLaunch u (launchOf ws)
    if full then s.setFlag (pdKey u 0x8) 3 true else s

/-- The running state that a program starts with (R179). -/
def Pond.start (p : Pond) (la : Launch) (rec : Option Nat) (now : Nat) : Pond :=
  { p with
    pc := la.entry, cur := la, recDpa := rec, fenced := false, mode := .run, wait := .none, loops := [], held := []
    sregs := la.args.zipIdx.foldl (fun t a => tblSet 0 t (a.2 + 1) a.1) []
    descs := [], feedA := [], feedB := [], gridQ := [], vecQ := [], storeQ := [], xsQ := [], posted := [], stale := []
    fin := {}, seq := 0, startTime := now, limitHit := false }

/-- The next queued launch of pond `u` starts, where it may (R178 to R180, R187, R190, R454). -/
def State.startProgram (s : State) (u : Nat) : State :=
  let p := s.pond u
  match p.launches with
  | [] => s
  | la :: rest =>
    if s.startDue u then
      let s := s.modPond u fun p => { p with launches := rest }
      if s.jobEnded (s.pondLine u) la.job then s.dropLaunch u la 0x30
      else
        let (rec, bad, s) := s.recAddr u la
        if bad then s.endLaunch u la none { status := 0x20, pc := la.entry, faultVa := la.recVa }
        else s.modPond u fun p => p.start la rec s.time
    else s

/-! PD_CTL and PD_IMEM_CTL. -/

/-- A write of PD_CTL (R188). -/
def State.writePdCtl (s : State) (u : Nat) (v : Word) : State :=
  let s := s.undefIf (v.field 3 61 != 0) .reservedWrite
  let s := s.when (v.flag 0) (·.cutProgram u 0x31)
  let s := s.when (v.flag 2) (·.flushLaunches u)
  s.setFlag (pdKey u 0) 1 (v.flag 1)

/-- A write of PD_IMEM_CTL (R190). A load that GO starts keeps the source, the index and the count that it was given. -/
def State.writeImemCtl (s : State) (u : Nat) (v : Word) : State :=
  let s := s.undefIf (v.field 14 2 != 0 || v.field 29 3 != 0 || v.field 35 29 != 0) .reservedWrite
  let k := pdKey u 0x20
  let s := s.when (v.flag 34) (·.setFlag k 34 false)
  let s := (s.setFld k 0 14 (v.field 0 14)).setFld k 16 13 (v.field 16 13)
  if v.flag 32 then
    if s.flag k 33 then s.setFlag k 34 true
    else if v.field 0 14 = 0 ∨ 8192 < v.field 0 14 ∨ 8192 < v.field 16 13 + v.field 0 14 then s
    else
      (s.setFlag k 33 true).modPond u fun p =>
        { p with imemLoad := some (s.fld (pdKey u 0x18) 3 49 * 8, v.field 16 13, v.field 0 14) }
  else s

/-- Reads `n` instructions into instruction memory from index `i`, granule by granule. -/
def State.loadImem (s : State) (u src i n : Nat) : State :=
  ((pieces src (8 * n)).foldl (fun (stop, s) p =>
    if stop then (true, s)
    else
      let (r, s) := s.loadPiece (s.pondLine u) p.1 p.2
      if r.noTarget then (true, s.pdFault u 0x21 0 0)
      else if r.poison then (true, s.pdFault u 0x30 0 0)
      else
        let ws := (List.range (p.2 / 8)).map fun k => BitVec.ofNat 64 (leNat ((r.data.drop (8 * k)).take 8))
        (false, s.modPond u fun q =>
          { q with imem := ws.zipIdx.foldl (fun t w => tblSet 0 t (i + (p.1 - src) / 8 + w.2) w.1) q.imem }))
    (false, s)).2

/-- A pending load finishes, when no program runs (R187, R190). -/
def State.imemDone (s : State) (u : Nat) : State :=
  let k := pdKey u 0x20
  match (s.pond u).imemLoad with
  | some (src, i, n) =>
    if s.imemBusy u ∧ (s.pond u).mode = .idle ∧ s.lineStOf (u / 8) ≠ .failed then
      ((s.loadImem u src i n).setFlag k 33 false).modPond u fun p => { p with imemLoad := none }
    else s
  | none => s

/-- PD_LAUNCH: a write to it reads a launch block and queues it. -/
def execPdLaunch (via : Via) (u : PondId) (v : Word) : State → Out :=
  runU fun s => s.bWrite via (u / 8) fun s => s.waking (u / 8) fun s => s.writeLaunch u v

/-- PD_ABORT: a write of PD_CTL. -/
def execPdAbort (via : Via) (u : PondId) (v : Word) : State → Out := runU fun s => s.bWrite via (u / 8) (·.writePdCtl u v)

/-- HOLD_LAUNCH: a write of PD_CTL. -/
def execHoldLaunch (via : Via) (u : PondId) (v : Word) : State → Out :=
  runU fun s => s.bWrite via (u / 8) (·.writePdCtl u v)

/-- FLUSH_QUEUE: a write of PD_CTL. -/
def execFlushQueue (via : Via) (u : PondId) (v : Word) : State → Out :=
  runU fun s => s.bWrite via (u / 8) (·.writePdCtl u v)

/-- IMEM_LOAD: a write of PD_IMEM_CTL; with GO it is a wake event. -/
def execImemLoad (via : Via) (u : PondId) (v : Word) : State → Out :=
  runU fun s => s.bWrite via (u / 8) fun s => (s.when (v.flag 32) fun s => s.wakeExit (s.pondLine u)).writeImemCtl u v

/-- IMEM_LOAD_DONE: a pending load writes its instructions. -/
def execImemLoadDone (u : PondId) : State → Out := runU fun s => s.imemDone u

end Sys2Proof.Machine
end

