-- ==== Sys2Proof/Machine/Transfer.lean ====
section
/-!
DEFINITION. Transfers (08_transfers.md): descriptors, the walk, deliveries with their check words, completion records,
and the completion of local deliveries. What a delivery to or from a remote window adds stands in Rail.lean.
-/
namespace Sys2Proof.Machine

/-! The descriptor (R249). -/

def Xfer.w (x : Xfer) (i : Nat) : Word := x.words.getD i 0
def Xfer.op (x : Xfer) : Nat := (x.w 0).field 0 2
def Xfer.srcRemote (x : Xfer) : Bool := (x.w 0).flag 4 && x.op != 1
def Xfer.dstRemote (x : Xfer) : Bool := (x.w 0).flag 5
def Xfer.peer (x : Xfer) : Nat := (x.w 0).field 8 12
def Xfer.len0 (x : Xfer) : Nat := (x.w 0).field 32 32

/-- COUNT of dimension `d`, 1 to 4. -/
def Xfer.count (x : Xfer) (d : Nat) : Nat := (x.w 3).field (16 * (d - 1)) 16

/-- Positions of the walk below one index of dimension `d`: LEN0 × COUNT1 × … × COUNT(d − 1). -/
def Xfer.span (x : Xfer) : (d : Nat) → Nat
  | 0 => 1
  | 1 => x.len0
  | d + 2 => Xfer.span x (d + 1) * x.count (d + 1)

/-- Positions of the whole walk (R250). -/
def Xfer.total (x : Xfer) : Nat := x.span 5

/-- The fields of START: START0 to START4. -/
def Xfer.startFields (x : Xfer) : List Nat :=
  [(x.w 15).field 0 32, (x.w 15).field 32 16, (x.w 15).field 48 16, (x.w 16).field 0 16, (x.w 16).field 16 16]

/-- The walk position of START. -/
def Xfer.start (x : Xfer) : Nat :=
  match x.startFields with
  | [s0, s1, s2, s3, s4] => s0 + s1 * x.span 1 + s2 * x.span 2 + s3 * x.span 3 + s4 * x.span 4
  | _ => 0

/-- Nothing lies between START and the last position (R250). -/
def Xfer.empty (x : Xfer) : Bool := decide (x.total ≤ x.start)

/-- The address of a walk position: the base, i0 and the strided sum, with the stride words from `first` (R250). -/
def Xfer.addrAt (x : Xfer) (base first width pos : Nat) : Nat :=
  let idx (d : Nat) : Nat := pos / x.span d % x.count d
  let off : Int := [1, 2, 3, 4].foldl (fun a d => a + (idx d : Int) * (x.w (first + d - 1)).toInt) (pos % x.len0 : Nat)
  wrapInt width (base + off)

/-- The source address of a position: virtual, or a remote-window DPA. -/
def Xfer.srcAt (x : Xfer) (pos : Nat) : Nat :=
  if x.srcRemote then x.addrAt ((x.w 1).field 0 52) 4 52 pos else x.addrAt ((x.w 1).field 0 57) 4 57 pos

/-- The destination address of a position. -/
def Xfer.dstAt (x : Xfer) (pos : Nat) : Nat :=
  if x.dstRemote then x.addrAt ((x.w 2).field 0 52) 8 52 pos else x.addrAt ((x.w 2).field 0 57) 8 57 pos

/-- A run of positions whose source and destination bytes are both contiguous. -/
structure Seg where
  pos : Nat
  src : Nat
  dst : Nat
  len : Nat
deriving DecidableEq, Repr

/-- The runs of the delivery that begins at `pos`: consecutive positions whose destination bytes lie in `blk` (R253). -/
def Xfer.segs (x : Xfer) (blk : Nat) : (fuel : Nat) → (pos : Nat) → List Seg
  | 0, _ => []
  | fuel + 1, pos =>
    let dst := x.dstAt pos
    if x.total ≤ pos ∨ dst / 4096 ≠ blk then []
    else
      let n := min (x.len0 - pos % x.len0) (4096 - dst % 4096)
      { pos := pos, src := x.srcAt pos, dst := dst, len := n } :: Xfer.segs x blk fuel (pos + n)

/-- The delivery that begins at `pos`. -/
def Xfer.delivery (x : Xfer) (pos : Nat) : List Seg := x.segs (x.dstAt pos / 4096) 4096 pos

/-- Bytes of a delivery. -/
def segBytes (d : List Seg) : Nat := d.foldl (fun n g => n + g.len) 0

/-- The descriptor has a nonzero reserved field (R249, R557). -/
def Xfer.reserved (x : Xfer) : Bool :=
  (x.w 0).flag 7 || (x.w 0).field 22 10 != 0 || (x.w 2).field 57 7 != 0 || (x.w 14).field 57 7 != 0

/-- The rows that the walk covers from START on: the position of the first byte and the length. -/
def Xfer.rows (x : Xfer) : List (Nat × Nat) :=
  ((List.range (x.total / x.len0)).map fun r => (max x.start (r * x.len0), (r + 1) * x.len0)).filterMap fun r =>
    if r.1 < r.2 then some (r.1, r.2 - r.1) else none

/-- Destination bytes overlap the source or each other (R251). Rows are compared as ranges of addresses. -/
def Xfer.overlaps (x : Xfer) : Bool :=
  x.rows.any fun r => x.rows.any fun q =>
    (decide (r.1 < q.1) && spansMeet (x.dstAt r.1) r.2 (x.dstAt q.1) q.2)
    || (x.op != 1 && x.srcRemote == x.dstRemote && !x.dstRemote && spansMeet (x.dstAt r.1) r.2 (x.srcAt q.1) q.2)

/-- The cases of R251 and R557 that the descriptor itself shows. -/
def State.xferUndef (s : State) (x : Xfer) : State :=
  let remoteReduce := x.op == 2 && !x.dstRemote
  let s := s.undefIf (x.op == 3 || x.cls == 3 || remoteReduce || (x.srcRemote && x.dstRemote)) .transferOp
  (s.undefIf x.reserved .reservedDescField).undefIf (!x.empty && x.overlaps) .transferOverlap

/-! Acceptance (R245 to R247). -/

/-- The status that a transfer reports for a translation fault (R261, R276, R290): a host-aperture leaf that a detach has
revoked is HOST_GONE. -/
def State.xlStatus (s : State) (l cause : Nat) : Nat := if cause = 6 ∧ s.flag (xlKey l 0x8) 0 = false then 0x25 else 0x20

/-- The identity under which channel `c` translates (R302). -/
def State.chanWho (s : State) (c asid : Nat) : Who :=
  { l := s.leaderOf (c / 16), b := c / 16, agent := 1, unit := c % 16, asid := asid }

/-- The channel has a free place (R245). -/
def State.chanRoom (s : State) (c : Nat) : Bool := (s.chan c).queue.length < 8

/-- Accepts a descriptor: translates REC_VA and queues the copy. Answers the status and the virtual address where it
faults. -/
def State.acceptXfer (s : State) (c : Nat) (words : List Word) (asid job cls : Nat) (src : XferSrc) (who : Who) :
    Option (Nat × Nat) × State :=
  let (words, s) := s.lowBitsOf words [(14, 0, 57, 64)]
  let x : Xfer := { words := words, asid := asid, job := job, cls := cls, src := src }
  let va := (x.w 14).field 0 57
  if va = 0 then (none, s.modChan c fun q => { queue := q.queue ++ [x] })
  else
    match s.xlateFor who va false true with
    | (.fault cause, s) => (some (s.xlStatus who.l cause, va), s)
    | (.ok pa, s) => (none, s.modChan c fun q => { queue := q.queue ++ [{ x with recDpa := some pa }] })

/-- LAST_STATUS of a channel (R271). -/
def State.setLastStatus (s : State) (c st : Nat) : State := s.setFld (chKey c 0x08) 16 8 st

/-- A submission through XE_CH_SUBMIT reads its descriptor, and is discarded where R247 and R580 say so. -/
def State.submitXfer (s : State) (c dpa : Nat) : State :=
  let l := s.leaderOf (c / 16)
  if (s.lineStOf (c / 16)) = .stopping ∨ s.chanRoom c = false then s.setFlag (chKey c 0x08) 8 true
  else
    let (ws, r, s) := s.loadWords l (dpa / 8 * 8) 17
    if r.noTarget then s.setLastStatus c 0x21
    else if r.poison then s.setLastStatus c 0x30
    else
      let x : Xfer := { words := ws, cls := (ws.getD 0 0).field 2 2 }
      let asid := (x.w 16).field 32 16
      let (f, s) := s.acceptXfer c ws asid ((x.w 16).field 48 16) x.cls .register (s.chanWho c asid)
      match f with
      | some (st, _) => s.setLastStatus c st
      | none => s

/-! Completion (R259, R260). -/

/-- Replaces the transfer at the head of a channel. -/
def State.setHead (s : State) (c : Nat) (x : Xfer) : State := s.modChan c fun q => { queue := x :: q.queue.drop 1 }

/-- The cursor that a record reports (R260). Once every delivery has committed it is the OK cursor. -/
def Xfer.cursor (x : Xfer) : List Nat :=
  if x.empty then x.startFields
  else if x.total ≤ x.pos then [x.len0, x.count 1 - 1, x.count 2 - 1, x.count 3 - 1, x.count 4 - 1]
  else x.pos % x.len0 :: [1, 2, 3, 4].map fun d => x.pos / x.span d % x.count d

/-- FAULT_VA: a virtual address, sign-extended (R274), or a remote-window DPA. -/
def Xfer.faultWord (x : Xfer) (side va : Nat) : Word :=
  if (if side = 0 then x.srcRemote else x.dstRemote) then BitVec.ofNat 64 va else signVa va

/-- The words of the completion record (R260). -/
def State.xferRecord (s : State) (c : Nat) (x : Xfer) (status side va : Nat) : List Word :=
  match x.cursor with
  | [c0, c1, c2, c3, c4] =>
    [BitVec.ofNat 64 (status + ofBool x.poison * 2 ^ 8 + ofBool x.chk * 2 ^ 9 + x.job * 2 ^ 48),
     BitVec.ofNat 64 (c0 + c1 * 2 ^ 32 + c2 * 2 ^ 48),
     BitVec.ofNat 64 (c3 + c4 * 2 ^ 16 + c % 16 * 2 ^ 32 + c / 16 * 2 ^ 36 + side * 2 ^ 39),
     x.faultWord side va, BitVec.ofNat 64 x.bytes, BitVec.ofNat 64 s.time, 0, 0]
  | _ => []

/-- Ends the transfer at the head of channel `c`: its record, its DONE add, and what the registers report. -/
def State.xferFinish (s : State) (c : Nat) (x : Xfer) (status : Nat) (side : Nat := 0) (va : Nat := 0) : State :=
  let b := c / 16
  let l := s.leaderOf b
  let s := match x.recDpa with
    | some a => (s.store l a (wordBytes (s.xferRecord c x status side va))).2
    | none => s
  let s := s.when (status == 0 && (x.w 12).flag 15) fun s =>
    s.counterAdd l ((x.w 12).field 0 15) ((x.w 12).field 16 16)
  let s := (s.modChan c fun q => { queue := q.queue.drop 1 }).setLastStatus c status
  s.when (status != 0) fun s =>
    ((s.count (xeKey b 0x18) 1).setReg (chKey c 0x20) (x.faultWord side va)).raise l (0x80 + 16 * s.place b + c % 16)

/-- A poison sink met by a transfer: its job ends, and it ends with POISON_SINK (R266, R454). `sink` is 0 for host
memory and 1 for a rail send; `jobVa` is what LN_JOB_END_VA names. -/
def State.xferSink (s : State) (c : Nat) (x : Xfer) (va : Nat) (sink jobVa : Nat) : State :=
  (s.endJob (s.leaderOf (c / 16)) x.job sink 1 (c / 16) (c % 16) jobVa).xferFinish c x 0x30 1 va

/-- Ends the transfer at the head of channel `c` at a delivery boundary: once the deliveries that it has sent to a remote
window are answered, so that none of them lands after its record (R262, R265). -/
def State.endXfer (s : State) (c : Nat) (x : Xfer) (status : Nat) (side : Nat := 0) (va : Nat := 0) : State :=
  if x.sent = [] then s.xferFinish c x status side va
  else s.setHead c { x with ending := x.ending <|> some (status, side, va) }

/-- PROG adds for the positions from `a` to before `z` (R259). -/
def State.progAdds (s : State) (c : Nat) (x : Xfer) (a z : Nat) : State :=
  let d := (x.w 0).field 20 2 + 1
  let size := x.span d
  if (x.w 12).flag 47 && size != 0 then
    s.each (List.range (z / size - a / size)) fun s _ =>
      s.counterAdd (s.leaderOf (c / 16)) ((x.w 12).field 32 15) ((x.w 12).field 48 16)
  else s

/-- A delivery of `n` bytes from the cursor has committed. -/
def State.advance (s : State) (c : Nat) (x : Xfer) (n : Nat) (poison chk : Bool) : Xfer × State :=
  let y := { x with pos := x.pos + n, bytes := x.bytes + n, poison := x.poison || poison, chk := x.chk || chk }
  (y, ((s.setHead c y).count (chKey c 0x18) n).progAdds c x x.pos y.pos)

/-! Sources and destinations (R255). -/

/-- Bytes on their way to a destination address. -/
structure Piece where
  dst : Nat
  data : List Byte
  poison : Bool := false
deriving DecidableEq, Repr

/-- A check-word mismatch found by the engine of basin `b`: the block is poisoned, counted, recorded and logged (R255,
R270, R529). `who` is ARG1 of the Logbook entry. -/
def State.chkMismatch (s : State) (b blk : Nat) (who : Nat := 1) : State :=
  (((s.poisonBlock blk).count (xeKey b 0x08) 1).setReg (xeKey b 0x10) (BitVec.ofNat 64 (blk * 4096 + 2 ^ 52))).logEvent
    0x0401 (1 + b) (lineBit (s.leaderOf b)) (blk * 4096) who

/-- Step 1 of R255 for a source block of the Line's own memory. Answers whether it failed. -/
def State.checkSource (s : State) (b l blk : Nat) (who : Nat := 1) : Bool × State :=
  if s.ownMem l (blk * 4096) && !s.blockValid blk then (true, s.chkMismatch b blk who) else (false, s)

/-- Reads `n` bytes from physical address `pa`, by granule, for destination `dst`. -/
def State.readPieces (s : State) (l pa n dst : Nat) : List Piece × Bool × State :=
  (pieces pa n).foldl (fun (ps, nt, s) p =>
    let (r, s) := s.loadPiece l p.1 p.2
    (ps ++ [{ dst := dst + (p.1 - pa), data := r.data, poison := r.poison }], nt || r.noTarget, s)) ([], false, s)

/-- What the sources of a delivery have given so far. -/
structure Fetched where
  ps : List Piece := []
  blocks : List Nat := []
  chk : Bool := false
  /-- Status, SIDE and address of the first fault. -/
  bad : Option (Nat × Nat × Nat) := none
deriving DecidableEq, Repr

/-- Reads the source bytes of one page: `va`, length and destination. -/
def State.fetchPage (s : State) (c : Nat) (x : Xfer) (f : Fetched) (va n dst : Nat) : Fetched × State :=
  if f.bad.isSome then (f, s) else
  let b := c / 16
  let l := s.leaderOf b
  match s.xlateFor (s.chanWho c x.asid) va true false with
  | (.fault cause, s) => ({ f with bad := some (s.xlStatus l cause, 0, va) }, s)
  | (.ok pa, s) =>
    let blk := pa / 4096
    let (k, s) := if f.blocks.contains blk then (false, s) else s.checkSource b l blk
    let (ps, nt, s) := s.readPieces l pa n dst
    ({ ps := f.ps ++ ps, blocks := blk :: f.blocks, chk := f.chk || k,
       bad := if nt then some (0x21, 0, va) else none }, s)

/-- The pages of a delivery's sources in walk order: address, length, destination. -/
def sourcePages (d : List Seg) : List (Nat × Nat × Nat) :=
  d.flatMap fun g => (pagePieces g.src g.len).map fun p => (p.1, p.2, g.dst + (p.1 - g.src))

/-- The bytes that FILL writes: byte i0 mod 8 of the pattern (R252). -/
def Xfer.fillPieces (x : Xfer) (d : List Seg) : List Piece :=
  let pat := leBytes 8 (x.w 1).toNat
  d.map fun g => { dst := g.dst, data := (List.range g.len).map fun i => pat.getD ((g.pos % x.len0 + i) % 8) 0 }

/-- Reads the sources of a delivery by the pages given. -/
def State.fetchPages (s : State) (c : Nat) (x : Xfer) (f : Fetched) (pages : List (Nat × Nat × Nat)) : Fetched × State :=
  pages.foldl (fun (f, s) p => s.fetchPage c x f p.1 p.2.1 p.2.2) (f, s)

/-- The bytes of a granule that pieces give, by position, with their poison. -/
def granuleBytes (ps : List Piece) (a : Nat) : List (Option (Byte × Bool)) :=
  (List.range 64).map fun i =>
    ps.findSome? fun p =>
      if p.dst ≤ a + i ∧ a + i < p.dst + p.data.length then some (p.data.getD (a + i - p.dst) 0, p.poison) else none

/-- Writes the bytes that pieces give to one granule of device memory (R228). Answers whether it was written poisoned. -/
def State.storeGranule (s : State) (g : Nat) (new : List (Option (Byte × Bool))) : Bool × State :=
  if new.all (·.isNone) then (false, s)
  else
    match s.onFailed (g * 64) with
    | some _ => (false, s.dropCopies g)
    | none =>
      let s := s.mergeBase g (new.all (·.isSome))
      let (old, p) := s.granule g
      let data := List.zipWith (fun o n => match n with | some (v, _) => v | none => o) old new
      let poison := (new.any fun n => match n with | some (_, q) => q | none => false) || (p && new.any (·.isNone))
      (poison, ((s.dropCopies g).putGranule g data poison).serveLine g)

/-- Writes a delivery to block `blk` of device memory by the engine of basin `b`, with the block's new check word
(R255 steps 2 and 3). Addresses of the pieces are DPAs. Answers whether the old check word failed, and whether a granule
was written poisoned. `note` notes a write that is undefined of the writer. -/
def State.writeBlock (s : State) (b blk : Nat) (ps : List Piece) (who : Nat := 1)
    (note : State → (a : Nat) → (n : Nat) → State := State.noteWrite) : Bool × Bool × State :=
  let n := ps.foldl (fun n p => n + p.data.length) 0
  let bad := n != 4096 && !s.blockValid blk
  let s := ps.foldl (fun s p => note s p.dst p.data.length) s
  let s := if bad then s.chkMismatch b blk who else s
  let (q, s) := (List.range 64).foldl (fun (q, s) i =>
    let a := blk * 4096 + i * 64
    let (r, s) := s.storeGranule (a / 64) (granuleBytes (ps.filter fun p => spansMeet p.dst p.data.length a 64) a)
    (q || r, s)) (false, s)
  (bad, q, s.validateBlock blk)

/-- Writes pieces to host memory: only the bytes are written (R255 step 4). -/
def State.writeHost (s : State) (ps : List Piece) : State :=
  ps.foldl (fun s p => (pieces (p.dst % 2 ^ 50) p.data.length).foldl (fun (s : State) q =>
    s.hostPut q.1 ((p.data.drop (q.1 - p.dst % 2 ^ 50)).take q.2) (tblGet false s.hostPoison (q.1 / 64))) s) s

/-- Moves pieces from a virtual to a physical destination. -/
def movePieces (ps : List Piece) (va pa : Nat) : List Piece := ps.map fun p => { p with dst := pa + p.dst - va }

/-- Commits the next delivery of a transfer to a local destination, or ends the transfer at its boundary (R254, R255,
R262). `given` holds the bytes of a remote source that have arrived. -/
def State.commitLocal (s : State) (c : Nat) (x : Xfer) (given : Option (List Piece)) : State :=
  let b := c / 16
  let l := s.leaderOf b
  let d := x.delivery x.pos
  let va := x.dstAt x.pos
  let pages := match given with
    | some _ => []
    | none => if x.op = 1 then [] else sourcePages d
  let f0 : Fetched := { ps := match given with | some ps => ps | none => if x.op = 1 then x.fillPieces d else [] }
  let (f, s) := s.fetchPages c x f0 (pages.take 1)
  match f.bad with
  | some (st, side, a) => s.endXfer c { x with chk := x.chk || f.chk } st side a
  | none =>
    match s.xlateFor (s.chanWho c x.asid) va false true with
    | (.fault cause, s) => s.endXfer c { x with chk := x.chk || f.chk } (s.xlStatus l cause) 1 va
    | (.ok pa, s) =>
      let isHost := isHostPa pa
      if !(s.ownMem l pa || (isHost && s.host.attached)) then
        let (_, s) := s.store l pa [0]
        s.endXfer c { x with chk := x.chk || f.chk } 0x21 1 va
      else
        let (f, s) := s.fetchPages c x f (pages.drop 1)
        match f.bad with
        | some (st, side, a) => s.endXfer c { x with chk := x.chk || f.chk } st side a
        | none =>
          let ps := movePieces f.ps va pa
          if isHost && ps.any (·.poison) then s.xferSink c { x with chk := x.chk || f.chk } va 0 va
          else
            let (bad, q, s) := if isHost then (false, false, s.writeHost ps) else s.writeBlock b (pa / 4096) ps
            let (y, s) := s.advance c x (segBytes d) q (f.chk || bad)
            if y.total ≤ y.pos then s.xferFinish c y 0 else s

end Sys2Proof.Machine
end

