-- ==== Sys2Proof/Machine/Xlat.lean ====
section
/-!
DEFINITION. Translation fences (R282 to R284), the translation registers (R302) and mirror updates (R285 to R288).
-/
namespace Sys2Proof.Machine

/-! Fences. -/

/-- Queues a fence; the caller has checked that fewer than four are pending. -/
def State.queueFence (s : State) (l : Nat) (f : Fence) : State :=
  s.modLine l fun ln => { ln with fences := ln.fences ++ [f], fencesIssued := (ln.fencesIssued + 1) % 65536 }

/-- A fence may be queued: fewer than four are pending (R283). -/
def State.fenceRoom (s : State) (l : Nat) : Bool := decide ((s.line l).fences.length < 4)

/-- The fence removes a cached entry (R282 step 1). -/
def Fence.hits (f : Fence) (e : TlbEntry) : Bool :=
  (f.allAsid || e.asid == f.asid) &&
  (!e.leaf || f.allVa ||
    f.pages != 0 && decide (e.part * 2 ^ e.size < (f.vpn + f.pages) * 4096 ∧ f.vpn * 4096 < (e.part + 1) * 2 ^ e.size))

/-- The fence covers a translation of `va` that a unit holds for a later access: its page is in the range, or the leaf that
gave it is removed whole. -/
def State.fenceCovers (s : State) (f : Fence) (b asid va : Nat) : Bool :=
  (f.allAsid || asid == f.asid) &&
    (f.allVa || decide (f.vpn ≤ va / 4096 ∧ va / 4096 < f.vpn + f.pages)
     || (s.tlb b).any fun e => e.leaf && f.hits e && e.asid == asid && e.part == va / 2 ^ e.size)

/-- Marks the transfers, programs and the layer of basin `b` whose record has been translated before the snapshot cycle of a
fence that covers it (R282 step 3). No other access outlasts a command, and no channel holds the translation of a delivery
between commands (step 2). -/
def State.fenceMark (s : State) (f : Fence) (b : Nat) : State :=
  let covers := s.fenceCovers f b
  let s := s.each (List.range 16) fun s c => s.modChan (b * 16 + c) fun q =>
    { queue := q.queue.map fun x => { x with fenced := x.recDpa.isSome && covers x.asid ((x.w 14).field 0 57) } }
  let s := s.each (List.range 8) fun s p => s.modPond (b * 8 + p) fun p =>
    { p with fenced := p.recDpa.isSome && covers p.cur.asid p.cur.recVa }
  s.setLayerQ b ((s.layerQ b).map fun y =>
    { y with fenced := y.recDpa.isSome && covers ((y.words.getD 0 0).field 0 16) ((y.words.getD 18 0).field 0 57) })

/-- An access translated before the fence has not finished. -/
def State.fenceHeld (s : State) (l : Nat) : Bool :=
  (s.members l).any fun b =>
    (List.range 16).any (fun c => (s.chan (b * 16 + c)).queue.any (·.fenced))
    || (List.range 8).any (fun p => (s.pond (b * 8 + p)).fenced) || (s.layerQ b).any (·.fenced)

/-- FENCE_BEGIN: the oldest fence begins and the units of every member drop what it names (R282). -/
def State.fenceBegin (s : State) (l : Nat) : State :=
  match (s.line l).fences with
  | f :: _ =>
    if (s.line l).fenceOn then s
    else
      s.each (s.members l) (fun s b => (s.fenceMark f b).setTlb b ((s.tlb b).filter fun e => !f.hits e))
        |>.modLine l fun ln => { ln with fenceOn := true }
  | [] => s

/-- The command that waits for a fence place, if any: the lowest queue's (R283). -/
def State.fenceWaiter (s : State) (l : Nat) : Option (Nat × ACmd) :=
  (s.lineQueues l).findSome? fun q =>
    ((s.queue (qKey l q)).running.find? fun c =>
      !c.done && !c.fenced && (c.opcode == 9 || c.opcode == 8)).map fun c => (q, c)

/-- The address space of a command: its own, or its queue's default (R312). -/
def State.cmdAsid (s : State) (l q : Nat) (c : ACmd) : Nat :=
  if c.w1.field 0 16 = 0 then (s.queue (qKey l q)).asid else c.w1.field 0 16

/-- The fence that an XLAT_FENCE command asks for (R319). That of a MIRROR is kept in its argument words (R287). -/
def State.cmdFence (s : State) (l q : Nat) (c : ACmd) : Fence :=
  { allAsid := c.opcode == 9 && c.arg0.flag 16, asid := s.cmdAsid l q c, allVa := c.arg0.flag 17,
    vpn := c.arg1.field 12 45, pages := c.arg0.field 18 20, src := .command q c.seq }

/-- Queues the fence of a command where a place is free. -/
def State.fenceCommand (s : State) (l q : Nat) (c : ACmd) : State :=
  if s.fenceRoom l then
    (s.queueFence l (s.cmdFence l q c)).modQueue (qKey l q) fun x =>
      { x with running := x.running.map fun d => if d.seq = c.seq then { d with fenced := true } else d }
  else s

/-- FENCE_COMPLETE: the running fence completes once no access that it waits for is left, the command that asked for it
completes, and a waiting command's fence takes the place (R282, R283, R287). -/
def State.fenceComplete (s : State) (l : Nat) : State :=
  match (s.line l).fences with
  | f :: rest =>
    if (s.line l).fenceOn && !s.fenceHeld l then
      let s := s.modLine l fun ln =>
        { ln with fences := rest, fenceOn := false, fencesDone := (ln.fencesDone + 1) % 65536 }
      let s := match f.src with
        | .register => s
        | .command q seq =>
          match (s.queue (qKey l q)).running.find? fun (c : ACmd) => c.seq == seq with
          | some c => s.complete l q seq c.status c.result
          | none => s
      match s.fenceWaiter l with
      | some (q, c) => s.fenceCommand l q c
      | none => s
    else s
  | [] => s

/-- A write of LN_XLAT_FENCE (R283, R302). -/
def State.writeFence (s : State) (l : Nat) (v : Word) : State :=
  let s := s.undefIf (v.field 39 25 != 0) .reservedWrite
  let s := s.setReg (xlKey l 0x10) (BitVec.ofNat 64 (v.field 0 38))
  if v.flag 38 then
    if s.fenceRoom l then
      s.queueFence l { allAsid := v.flag 16, asid := v.field 0 16, allVa := v.flag 17,
                       vpn := s.fld (xlKey l 0x18) 12 45, pages := v.field 18 20 }
    else s.setFlag (xlKey l 0x20) 35 true
  else s

/-- LN_XLAT_FENCE_STATUS (R302). -/
def State.fenceStatus (s : State) (l : Nat) : Word :=
  let ln := s.line l
  BitVec.ofNat 64 (ln.fencesIssued + ln.fencesDone * 2 ^ 16 + ln.fences.length * 2 ^ 32
    + ofBool (s.flag (xlKey l 0x20) 35) * 2 ^ 35)

/-- A write of LN_XLAT_CTL: HOST_EN can be set only while the host port is attached (R290). -/
def State.writeXlatCtl (s : State) (l : Nat) (v : Word) : State :=
  let s := s.undefIf (v.field 1 63 != 0) .reservedWrite
  s.setFlag (xlKey l 8) 0 (v.flag 0 && (s.host.attached || s.flag (xlKey l 8) 0))

/-- Removes the cached host-aperture leaves of a Line's units and clears HOST_EN (R290). -/
def State.dropHostLeaves (s : State) (l : Nat) : State :=
  let host (e : TlbEntry) : Bool := e.leaf && isHostPa (e.pte.field 10 44 * 4096)
  (s.each (s.members l) fun s b => s.setTlb b ((s.tlb b).filter fun e => !host e)).setFlag (xlKey l 8) 0 false

/-! Mirror updates. -/

/-- The walk of a mirror record: the physical address of the entry at `level`, or the result code (R287). Any leaf above it
counts as one, and an entry that is neither a leaf nor valid as none (DESIGN CHOICE: R287 names V = 0 only;
notes/assumptions). -/
def State.mirrorWalk (s : State) (l va level : Nat) : (at_ : Nat) → (table : Nat) → Except Nat Nat × State
  | 0, table => (.ok (table + va / 2 ^ 12 % 512 * 8), s)
  | k + 1, table =>
    let a := table + va / 2 ^ (12 + 9 * (k + 1)) % 512 * 8
    if level = k + 1 then (.ok a, s)
    else
      match s.walkRead l a with
      | (none, s) => (.error 0x43, s)
      | (some p, s) =>
        if p.flag 0 && pteLeaf p then (.error 0x42, s)
        else if !pteValid (k + 1) p then (.error 0x41, s)
        else s.mirrorWalk l va level k (p.field 10 44 * 4096)

/-- What a mirror update has done: the result, the records applied, and the pages they cover. -/
structure Mirrored where
  code : Nat := 0
  applied : Nat := 0
  lo : Nat := 0
  hi : Nat := 0
deriving DecidableEq, Repr

/-- The agent of a mirror-update walk (R302). -/
def mirrorWho (l asid : Nat) : Who := { l := l, b := l, agent := 3, unit := 0, asid := asid }

/-- Applies one record (R286, R287). -/
def State.mirrorRecord (s : State) (l asid root : Nat) (m : Mirrored) (r : Word × Word) : Mirrored × State :=
  let level := r.1.field 0 3
  let va := r.1.field 12 45 * 4096
  if m.code ≠ 0 then (m, s)
  else if 4 < level then ({ m with code := 0x44 }, s)
  else
    match s.mirrorWalk l va level 4 (root * 4096) with
    | (.error c, s) => ({ m with code := c }, s.when (c == 0x43) (·.xlatFault (mirrorWho l asid) va 7 false))
    | (.ok a, s) =>
      if s.ownMem l a then
        let (_, s) := s.store l a (leBytes 8 r.2.toNat)
        let n := 2 ^ (9 * level)
        let vpn := va / 4096 / n * n
        ({ m with applied := m.applied + 1
                  lo := if m.applied = 0 then vpn else min m.lo vpn
                  hi := if m.applied = 0 then vpn + n else max m.hi (vpn + n) }, s)
      else ({ m with code := 0x43 }, s.xlatFault (mirrorWho l asid) va 7 false)

/-- The ROOT of an address space as R272 reads it, or the cause of the fault. -/
def State.mirrorRoot (s : State) (l asid : Nat) : Except Nat Nat × State :=
  let ast := s.reg (xlKey l 0)
  let s := s.undefIf (9 ≤ ast.field 0 4 && ast.flag 63) .tableSize
  if !ast.flag 63 || 2 ^ (ast.field 0 4 + 4) ≤ asid then (.error 1, s)
  else
    match s.walkRead l (ast.field 4 48 * 16 + asid * 16) with
    | (none, s) => (.error 7, s)
    | (some w, s) => (if w.flag 63 then .ok (w.field 0 40) else .error 1, s)

/-- Applies the records of a MIRROR command in list order (R287). -/
def State.mirrorApply (s : State) (l asid : Nat) (rs : List (Word × Word)) : Mirrored × State :=
  match s.mirrorRoot l asid with
  | (.error c, s) => ({ code := if c = 7 then 0x43 else 0x40 }, s.xlatFault (mirrorWho l asid) 0 c false)
  | (.ok root, s) => rs.foldl (fun (m, s) r => s.mirrorRecord l asid root m r) ({}, s)

/-! The commands. -/

/-- XLAT_FENCE_GO (R283); a wake event. -/
def execXlatFenceGo (via : Via) (l : LineId) (v : Word) : State → Out :=
  runU fun s => s.lnWrite via l fun s => (s.when (v.flag 38) (·.wakeExit l)).writeFence l v

/-- FENCE_BEGIN (R282). -/
def execFenceBegin (l : LineId) : State → Out := run fun s => s.fenceBegin l

/-- FENCE_COMPLETE (R282). -/
def execFenceComplete (l : LineId) : State → Out := runU fun s => s.fenceComplete l

/-- HOST_EN (R290). -/
def execHostEn (via : Via) (l : LineId) (v : Word) : State → Out := runU fun s => s.lnWrite via l (·.writeXlatCtl l v)

end Sys2Proof.Machine
end

