-- ==== Sys2Proof/Machine/Apori.lean ====
section
/-!
DEFINITION. Apori queues (R310 to R327, R333): the queue table, doorbells, fetch, dispatch and the commands.
-/
namespace Sys2Proof.Machine

/-! The queue table and LN_QCTL. -/

/-- Q: the sum of SQ_COUNT over the Line's basins (R60). -/
def State.queueCount (s : State) (l : Nat) : Nat := ((s.members l).map fun b => (s.tt.basin b).sqCount).sum

/-- The DPA of entry `q` of the queue table. -/
def State.tableEntry (s : State) (l q : Nat) : Nat := s.fld (lnKey l 0x400) 6 46 * 64 + q * 64

/-- Writes HEAD_SEQ and PARKED to a queue's table entry (R310). -/
def State.writeHead (s : State) (l q : Nat) (parked : Bool) : State :=
  (s.store l (s.tableEntry l q + 32) (leBytes 8 ((s.queue (qKey l q)).h + ofBool parked * 65536))).2

/-- A queue that fetches nothing: what it has fetched and not dispatched is dropped. -/
def AQueue.idle (x : AQueue) (st : QState) : AQueue :=
  { x with st := st, reach := x.h, kept := [], fetched := [], waiting := none, refetch := 0 }

/-- Parks a queue: nothing from H onward is dispatched (R315, R317, R318, R328). A DISABLING queue fetches no more, and its
table entry will say that it was parked. -/
def State.park (s : State) (l q code seq : Nat) : State :=
  match (s.queue (qKey l q)).st with
  | .off => s
  | .disabling => ((s.modQueue (qKey l q) fun x => { x with wasParked := true }).qError l q code seq).writeHead l q true
  | .active | .parked => ((s.modQueue (qKey l q) fun x => x.idle .parked).qError l q code seq).writeHead l q true

/-- A DPA in the Line's own memory or in the host aperture. -/
def State.ringPlace (s : State) (l a : Nat) : Bool := s.ownMem l a || isHostPa a

/-- ENABLE of queue `q` (R311). -/
def State.enableQueue (s : State) (l q : Nat) : State :=
  if s.queueCount l ≤ q then s.qError l q 0x04 0
  else if (s.queue (qKey l q)).st ≠ .off then s
  else
    let (ws, r, s) := s.loadWords l (s.tableEntry l q) 8
    let w (i : Nat) : Word := ws.getD i 0
    let cqid := (w 2).field 0 12
    let sqBase := (w 0).field 0 52
    let cqBase := (w 1).field 0 52
    let cqOn := cqid == q || (s.queue (qKey l cqid)).st != .off
    let bad := r.poison || 8 < (w 0).field 52 4 || 12 < (w 1).field 52 4 || !s.ringPlace l sqBase
      || !s.ringPlace l cqBase || !cqOn
    if bad then s.qError l q 0x09 0
    else
      (s.undefIf ((w 0).field 56 2 == 3) .queueClass).modQueue (qKey l q) fun x =>
        { st := .active, sqBase := sqBase, sqSize := 2 ^ ((w 0).field 52 4 + 4), cls := (w 0).field 56 2,
          cqBase := cqBase, cqSize := 2 ^ ((w 1).field 52 4 + 4), cqid := cqid, vector := (w 2).field 12 11,
          irqEn := (w 2).flag 23, asid := (w 2).field 32 16, h := (w 3).field 0 16, t := (w 3).field 0 16,
          reach := (w 3).field 0 16, headMark := x.headMark }

/-- DISABLE of queue `q` (R326, R333). -/
def State.disableQueue (s : State) (l q : Nat) : State :=
  let x := s.queue (qKey l q)
  if x.st = .off ∨ x.st = .disabling then s
  else if (s.lineQueues l).any fun p => p != q && (s.queue (qKey l p)).st != .off && (s.queue (qKey l p)).cqid == q then
    s.qError l q 0x09 0
  else
    s.modQueue (qKey l q) fun x => { x.idle .disabling with wasParked := x.st == .parked }

/-- QUEUE_DISABLE_DONE: each DISABLING queue whose commands have completed and are written reads OFF (R326). -/
def State.disableDone (s : State) (l : Nat) : State :=
  s.each (s.lineQueues l) fun s q =>
    let x := s.queue (qKey l q)
    if x.st = .disabling ∧ x.running = [] ∧ (s.line l).st ≠ .failed then
      (s.writeHead l q x.wasParked).modQueue (qKey l q) fun x => { x with st := .off }
    else s

/-- RESUME of a PARKED queue: it fetches again from H, with a new count (R317, R326). -/
def State.resumeQueue (s : State) (l q : Nat) : State :=
  if (s.queue (qKey l q)).st = .parked then s.modQueue (qKey l q) fun x => x.idle .active else s

/-- A write of LN_QCTL (R326). -/
def State.writeQctl (s : State) (l : Nat) (v : Word) : State :=
  let s := s.undefIf (v.field 19 13 != 0) .reservedWrite
  let s := s.setReg (lnKey l 0x408) (BitVec.ofNat 64 (v.field 0 14))
  let q := v.field 0 12
  if v.flag 14 then
    match v.field 12 2 with
    | 1 => s.enableQueue l q
    | 2 => s.disableQueue l q
    | 3 => s.resumeQueue l q
    | _ => s
  else s

/-- LN_QCTL as read (R326). -/
def State.readQctl (s : State) (l : Nat) : Word :=
  let r := s.reg (lnKey l 0x408)
  let x := s.queue (qKey l (r.field 0 12))
  let st := match x.st with
    | .off => 0 | .active => 1 | .parked => 2 | .disabling => 3
  BitVec.ofNat 64 (r.field 0 14 + ofBool (x.st == .disabling) * 2 ^ 15 + st * 2 ^ 16 + x.h * 2 ^ 32 + x.t * 2 ^ 48)

/-! Doorbells (R314, R315). -/

/-- Sequence distance modulo 2^16. -/
def seqSub (a b : Nat) : Nat := (a % 65536 + 65536 - b % 65536) % 65536

/-- An SQ doorbell. -/
def State.doorbell (s : State) (l q : Nat) (v : Word) : State :=
  let s := s.undefIf (v.field 32 32 != 0) .reservedWrite
  let d := v.field 16 16
  let x := s.queue (qKey l q)
  if s.queueCount l ≤ q then s.qError l q 0x04 0
  else if x.st = .off then s.qError l q 0x05 0
  else if v.field 0 16 ≠ d % x.sqSize then s.qError l q 0x03 d
  else if seqSub x.h d ≤ x.sqSize ∧ d ≠ x.h then s
  else if seqSub d x.h ≤ x.sqSize then
    if seqSub d x.t < 32768 then s.modQueue (qKey l q) fun x => { x with t := d } else s
  else s.park l q 0x02 d

/-- A CQ head doorbell. An index equal to the last head frees nothing. -/
def State.cqHead (s : State) (l q : Nat) (v : Word) : State :=
  let s := s.undefIf (v.field 16 48 != 0) .reservedWrite
  let head := v.field 0 16
  let x := s.queue (qKey l q)
  if s.queueCount l ≤ q then s.qError l q 0x04 0
  else if x.st = .off then s.qError l q 0x05 0
  else
    let d := (head + x.cqSize - x.cqHead % x.cqSize) % x.cqSize
    if x.cqSize ≤ head ∨ x.cqWritten - x.cqHead < d then s.qError l q 0x0A 0
    else (s.modQueue (qKey l q) fun x => { x with cqHead := x.cqHead + d, headMark := s.host.signals }).flushCq l q

/-! Fetch (R312, R313, R316 to R318). -/

/-- Reads the entry with sequence `seq`: its bytes, or the code of the error (R318). -/
def State.fetchEntry (s : State) (l : Nat) (x : AQueue) (seq : Nat) : Except Nat (List Byte) × State :=
  let a := x.sqBase + seq % x.sqSize * 128
  if isHostPa a && !s.host.attached then (.error 0x08, s)
  else
    let (r, s) := s.load l a 128
    (if r.poison then .error 0x07 else .ok r.data, s)

/-- Word `i` of an entry. -/
def entryWord (bs : List Byte) (i : Nat) : Word := BitVec.ofNat 64 (leNat ((bs.drop (8 * i)).take 8))

/-- The entry is valid for sequence `seq` of a ring of `n` entries (R313). -/
def entryValid (bs : List Byte) (seq n : Nat) : Bool :=
  (entryWord bs 0).field 16 16 == seq && (entryWord bs 0).field 8 1 == 1 - seq / n % 2

/-- The bits of ARG0 and ARG1 that an opcode uses (R319); any other bit is reserved. -/
def argMasks : (opcode : Nat) → Option (Nat × Nat)
  | 0 => some (0, 0)
  | 1 => some (0x3F, 0)
  | 2 => some (0x7F, 0)
  | 3 => some (2 ^ 57 - 1, 0x3FF)
  | 4 => some (2 ^ 57 - 1, 0)
  | 5 | 7 => some (0x7FFF, 2 ^ 64 - 1)
  | 6 => some (0x7FFF + (2 ^ 32 - 1) * 2 ^ 16, 2 ^ 64 - 1)
  | 8 => some (3 + 0xFFFF * 2 ^ 16, 2 ^ 52 - 1)
  | 9 => some ((2 ^ 22 - 1) * 2 ^ 16, (2 ^ 45 - 1) * 2 ^ 12)
  | _ => none

/-- The words of a payload. -/
def payloadWords (bs : List Byte) (n : Nat) : List Word := (List.range n).map (entryWord bs)

/-- A launch block with a nonzero reserved field (R177). -/
def launchReserved (ws : List Word) : Bool :=
  let w (i : Nat) : Word := ws.getD i 0
  (w 0).field 13 3 != 0 || (w 0).field 51 13 != 0 || (w 1).field 57 7 != 0 || (w 2).field 15 49 != 0

/-- A mirror-update record with a nonzero reserved field (R286). -/
def recordReserved (r : Word × Word) : Bool := r.1.field 3 9 != 0 || r.1.field 57 7 != 0

/-- Words in pairs. -/
def wordPairs (ws : List Word) (n : Nat) : List (Word × Word) :=
  (List.range n).map fun i => (ws.getD (2 * i) 0, ws.getD (2 * i + 1) 0)

/-- The command breaks R319: an unlisted opcode, a nonzero reserved field of its own or of what its payload holds, or a
payload that is too short. -/
def ACmd.isBad (c : ACmd) : Bool :=
  match argMasks c.opcode with
  | none => true
  | some (m0, m1) =>
    let n := c.payload.length
    c.w0.flag 15 || c.w1.field 20 12 != 0 || 5 < c.entries
    || c.arg0.toNat &&& (2 ^ 64 - 1 - m0) != 0 || c.arg1.toNat &&& (2 ^ 64 - 1 - m1) != 0
    || (c.opcode == 1 && launchReserved (payloadWords c.payload 8))
    || (c.opcode == 2 && n < 136)
    || (c.opcode == 3 && (c.arg1.field 0 10 == 0 || n < c.arg1.field 0 10))
    || (c.opcode == 8 && (c.arg0.field 16 16 == 0
        || (!c.arg0.flag 1 && (36 < c.arg0.field 16 16 || n < 16 * c.arg0.field 16 16
            || (wordPairs (payloadWords c.payload (2 * c.arg0.field 16 16)) (c.arg0.field 16 16)).any recordReserved))))

/-- What the entries fetched make of the command at a sequence. -/
inductive Fetch where
  | visible (c : ACmd)
  /-- Not all its entries have been fetched. -/
  | beyond
  /-- The entry with this sequence was not valid. -/
  | missing (seq : Nat)
  /-- The continuation with this sequence is none (BAD_CONT). -/
  | bad (seq : Nat)
deriving DecidableEq, Repr

/-- Gathers `k` continuations from sequence `seq`; a nonzero reserved field of one makes the command bad (R312, R319). -/
def AQueue.conts (x : AQueue) (c : ACmd) : (k : Nat) → (seq : Nat) → Fetch
  | 0, _ => .visible c
  | k + 1, seq =>
    if seqSub x.reach c.seq ≤ seqSub seq c.seq then .beyond
    else
      let bs := tblGet [] x.kept seq
      let w := entryWord bs 0
      if bs = [] then .missing seq
      else if w.field 0 8 ≠ 0xFF then .bad seq
      else
        let reserved := w.field 9 7 != 0 || w.field 32 32 != 0
        AQueue.conts x { c with payload := c.payload ++ bs.drop 8, status := if reserved then 0x50 else c.status } k
          ((seq + 1) % 65536)

/-- The command at sequence `seq`. -/
def AQueue.command (x : AQueue) (seq : Nat) : Fetch :=
  if seq = x.reach then .beyond
  else
    let bs := tblGet [] x.kept seq
    if bs = [] then .missing seq
    else
      let n := (entryWord bs 0).field 9 3
      match x.conts { seq := seq, entries := 1 + n, w0 := entryWord bs 0, w1 := entryWord bs 1, arg0 := entryWord bs 2,
                      arg1 := entryWord bs 3, payload := bs.drop 32 } n ((seq + 1) % 65536) with
      | .visible c => .visible { c with status := if c.isBad then 0x50 else c.status }
      | f => f

/-- The sequence after the visible commands. -/
def AQueue.next (x : AQueue) : Nat := (x.fetched.foldl (fun n c => n + c.entries) x.h) % 65536

/-- Moves visible commands, `k` at most, from the entries kept to those ready for dispatch. -/
def AQueue.collect : (k : Nat) → AQueue → AQueue
  | 0, x => x
  | k + 1, x =>
    match x.command x.next with
    | .visible c =>
      AQueue.collect k { x with
        kept := x.kept.filter fun e => c.entries ≤ seqSub e.1 c.seq, fetched := x.fetched ++ [c] }
    | _ => x

/-- The queue takes what its entries make visible. Where nothing can be dispatched, the entry at H or the continuation that
was not valid is waited for, its count beginning anew, or a continuation that is none parks the queue (R317). -/
def State.assemble (s : State) (l q : Nat) : State :=
  let x := (s.queue (qKey l q)).collect 4096
  let s := s.modQueue (qKey l q) fun _ => x
  let wait (w : Option Nat) : State := s.modQueue (qKey l q) fun x =>
    { x with waiting := w, refetch := if x.waiting = w then x.refetch else 0 }
  if x.fetched ≠ [] then wait none
  else
    match x.command x.next with
    | .bad seq => s.park l q 0x06 seq
    | .missing seq => wait (some seq)
    | _ => wait none

/-- The queue fetches: its Line is RUNNING and it is ACTIVE (R316). -/
def State.fetches (s : State) (l q : Nat) : Bool := (s.line l).st == .running && (s.queue (qKey l q)).st == .active

/-- Fetches the entry with sequence `seq`, and keeps it where it is valid; a fetch that fails parks the queue (R317,
R318). -/
def State.fetchOne (s : State) (l q seq : Nat) : State :=
  let x := s.queue (qKey l q)
  if x.st ≠ .active then s
  else
    match s.fetchEntry l x seq with
    | (.error code, s) => s.park l q code seq
    | (.ok bs, s) =>
      s.when (entryValid bs seq x.sqSize) (·.modQueue (qKey l q) fun x => { x with kept := tblSet [] x.kept seq bs })

/-- A fetch of queue `q` towards T: each entry that has not been fetched is read and judged by itself (R316). -/
def State.fetch (s : State) (l q : Nat) : State :=
  let x := s.queue (qKey l q)
  let s := (List.range (seqSub x.t x.reach)).foldl (fun s i => State.fetchOne s l q ((x.reach + i) % 65536)) s
  if (s.queue (qKey l q)).st = .active then (s.modQueue (qKey l q) fun x => { x with reach := x.t }).assemble l q else s

/-- A re-fetch of the entry that was not valid; the eighth that finds it so parks the queue (R317). -/
def State.refetch (s : State) (l q : Nat) : State :=
  match (s.queue (qKey l q)).waiting with
  | none => s
  | some seq =>
    let s := s.fetchOne l q seq
    let x := s.queue (qKey l q)
    if x.st ≠ .active then s
    else if tblGet [] x.kept seq ≠ [] then s.assemble l q
    else if 7 ≤ x.refetch then s.park l q 0x01 seq
    else s.modQueue (qKey l q) fun x => { x with refetch := x.refetch + 1 }

/-! Dispatch (R316, R320, R321, R324). -/

/-- The next command of queue `q`, where it may be dispatched. -/
def State.nextCommand (s : State) (l q : Nat) : Option ACmd :=
  let x := s.queue (qKey l q)
  if s.fetches l q && !s.cqFull l x.cqid then
    match x.fetched with
    | c :: _ =>
      let open_ := x.running.filter fun d => !d.done
      if (c.fenceFlag && open_ != []) || open_.any (fun d => d.opcode == 6) then none else some c
    | [] => none
  else none

/-- Dispatches the next command: H moves past it, and PMARK writes its phase record. -/
def State.take (s : State) (l q : Nat) (c : ACmd) : State :=
  let s := (s.modQueue (qKey l q) fun x =>
    { x with fetched := x.fetched.drop 1, h := (c.seq + c.entries) % 65536,
             running := x.running ++ [{ c with since := s.time }] }).assemble l q
  s.when (c.w0.flag 13) (·.phaseRecord l (c.w1.field 16 4) 1 l 0 (c.w1.field 32 32) c.job)

/-- Commands that break R319 complete with BAD_COMMAND as they reach the front, `fuel` at most. -/
def State.rejectBad (s : State) (l q : Nat) : (fuel : Nat) → State
  | 0 => s
  | k + 1 =>
    match s.nextCommand l q with
    | some c => if c.status = 0 then s else ((s.take l q c).complete l q c.seq 0x50).rejectBad l q k
    | none => s

/-- Bad commands at the front are completed. -/
def State.tidy (s : State) (l q : Nat) : State := s.rejectBad l q (s.queue (qKey l q)).fetched.length

/-- The class that a queue's work carries: E without an E_QUEUE grant is S (R310, R66). -/
def State.queueCls (s : State) (l q : Nat) : Nat :=
  let x := s.queue (qKey l q)
  let granted := match s.atPlace l (q / 512) with
    | some b => s.tt.admission.any fun w => w.field 0 2 == 2 && w.field 2 3 == b && w.field 8 10 == q % 512
    | none => false
  if x.cls = 1 ∧ granted = false then 0 else x.cls

/-- The queues of a Line whose next command may be dispatched, with their classes. -/
def State.queueWaits (s : State) (l : Nat) : List (Nat × Nat) :=
  (s.lineQueues l).filterMap fun q =>
    match s.nextCommand l q with
    | some c => if c.status = 0 then some (q, s.queueCls l q) else none
    | none => none

/-- Dispatches the next command of queue `q`, where it has this opcode and the queue's turn has come (R43, R316). A command
whose job has ended completes with POISON_SINK (R454). -/
def State.dispatch (s : State) (l q op : Nat) (f : State → ACmd → State) : State :=
  match s.nextCommand l q with
  | some c =>
    if c.opcode = op ∧ c.status = 0 then
      match s.turnOf (8 + l) l (s.queueWaits l) q with
      | none => s
      | some s =>
        let s := s.take l q c
        (if s.jobEnded l c.job then s.complete l q c.seq 0x30 else f s c).tidy l q
    else s.tidy l q
  | none => s

/-! The commands (R319). -/

/-- The agent of an Apori command other than MIRROR (R302). -/
def State.cmdWho (s : State) (l q : Nat) (c : ACmd) : Who :=
  { l := l, b := l, agent := 4, unit := 0, asid := s.cmdAsid l q c }

/-- LAUNCH: the inline block enters the pond's queue. -/
def State.cmdLaunch (s : State) (l q : Nat) (c : ACmd) : State :=
  match s.atPlace l (c.arg0.field 0 3) with
  | none => s.complete l q c.seq 0x50
  | some b =>
    let ws := payloadWords c.payload 8
    let (full, s) := (s.launchUndef ws).enterLaunch (b * 8 + c.arg0.field 3 3) (launchOf ws)
    s.complete l q c.seq (if full then 0x51 else 0)

/-- XFER: the inline descriptor goes to its channel, under the command's address space, job and class. -/
def State.cmdXfer (s : State) (l q : Nat) (c : ACmd) : State :=
  match s.atPlace l (c.arg0.field 0 3) with
  | none => s.complete l q c.seq 0x50
  | some b =>
    let ch := b * 16 + c.arg0.field 3 4
    if s.chanRoom ch then
      let asid := s.cmdAsid l q c
      match s.acceptXfer ch (payloadWords c.payload 17) asid c.job (s.queueCls l q) .command (s.chanWho ch asid) with
      | (some (st, va), s) => s.complete l q c.seq st (if st = 0x20 then signVa va else 0)
      | (none, s) => s.complete l q c.seq 0
    else s.complete l q c.seq 0x51

/-- The deliveries of WRITE_INLINE: the page pieces of its bytes, in order, until one fails. Answers the status, the
address of a fault, and whether a granule was written poisoned. -/
def State.inlineWrites (s : State) (w : Who) (va : Nat) (data : List Byte) :
    List (Nat × Nat) → (poison : Bool) → Nat × Nat × Bool × State
  | [], q => (0, 0, q, s)
  | (a, n) :: rest, q =>
    match s.xlateFor w a false true with
    | (.fault c, s) => (s.xlStatus w.l c, a, q, s)
    | (.ok pa, s) =>
      let piece : Piece := { dst := pa, data := (data.drop (a - va)).take n }
      if isHostPa pa && s.host.attached then (s.writeHost [piece]).inlineWrites w va data rest q
      else if s.ownMem w.l pa then
        let (_, r, s) := s.writeBlock w.b (pa / 4096) [piece]
        s.inlineWrites w va data rest (q || r)
      else
        let (_, s) := s.store w.l pa [0]
        (0x21, 0, q, s)

/-- WRITE_INLINE: a COPY of its payload (R255). -/
def State.cmdWriteInline (s : State) (l q : Nat) (c : ACmd) : State :=
  let va := c.arg0.field 0 57
  let data := c.payload.take (c.arg1.field 0 10)
  let (st, fva, poison, s) := s.inlineWrites (s.cmdWho l q c) va data (pagePieces va data.length) false
  s.complete l q c.seq st (if st = 0x20 then signVa fva else 0) poison

/-- RESULT of a translation fault: the faulting address for TRANSLATION, otherwise 0 (R322). -/
def State.resultVa (s : State) (l cause va : Nat) : Word := if s.xlStatus l cause = 0x20 then signVa va else 0

/-- READ_INLINE: eight bytes in RESULT. Poison ends the job (R454). -/
def State.cmdReadInline (s : State) (l q : Nat) (c : ACmd) : State :=
  let va := c.arg0.field 0 57
  match s.vload (s.cmdWho l q c) va 8 with
  | (.fault cause, s) => s.complete l q c.seq (s.xlStatus l cause) (s.resultVa l cause va)
  | (.sink, s) => s
  | (.ok r, s) =>
    if r.noTarget then s.complete l q c.seq 0x21
    else if r.poison then (s.endJob l c.job 0 3 l 0 va).complete l q c.seq 0x30
    else s.complete l q c.seq 0 (BitVec.ofNat 64 (leNat r.data))

/-- SYNC_ADD (R170). -/
def State.cmdSyncAdd (s : State) (l q : Nat) (c : ACmd) : State :=
  let i := c.arg0.field 0 15
  match s.counterDpa l i with
  | none => s.complete l q c.seq 0x52
  | some _ => (s.counterAdd l i c.arg1.toNat).complete l q c.seq 0

/-- SYNC_SET: swaps and answers the old value. -/
def State.cmdSyncSet (s : State) (l q : Nat) (c : ACmd) : State :=
  let i := c.arg0.field 0 15
  let s := s.counterTouch l i
  match s.counterVal l i with
  | none => s.complete l q c.seq 0x52
  | some old => (s.counterSet l i c.arg1.toNat).complete l q c.seq 0 (BitVec.ofNat 64 old)

/-- SYNC_WAIT: it completes at once where it is satisfied already (R170). -/
def State.cmdSyncWait (s : State) (l q : Nat) (c : ACmd) : State :=
  let i := c.arg0.field 0 15
  let s := s.counterTouch l i
  match s.counterDpa l i with
  | none => s.complete l q c.seq 0x52
  | some _ => if s.counterReached l i c.arg1.toNat then s.complete l q c.seq 0 else s

/-- A SYNC_WAIT of the queue that has not completed. -/
def State.waiter (s : State) (l q : Nat) : Option ACmd :=
  (s.queue (qKey l q)).running.find? fun c => !c.done && c.opcode == 6

/-- SYNC_WAIT_SATISFIED (R320). -/
def State.waitSatisfied (s : State) (l q : Nat) : State :=
  match s.waiter l q with
  | some c =>
    if (c.satisfied || s.counterReached l (c.arg0.field 0 15) c.arg1.toNat) && (s.line l).st.works then
      (s.complete l q c.seq 0).tidy l q
    else s
  | none => s

/-- SYNC_WAIT_TIMEOUT: the timeout, in µs from dispatch, has passed (R319). -/
def State.waitTimeout (s : State) (l q : Nat) : State :=
  match s.waiter l q with
  | some c =>
    let us := c.arg0.field 16 32
    if us != 0 && decide (c.since + us * 1000 ≤ s.time) && !c.satisfied && (s.line l).st.works then
      (s.complete l q c.seq 0x22).tidy l q
    else s
  | none => s

/-- The update records of a MIRROR command, or the status with which reading its list fails (R319). -/
def State.mirrorRecords (s : State) (l : Nat) (c : ACmd) : Except Nat (List (Word × Word)) × State :=
  let n := c.arg0.field 16 16
  if c.arg0.flag 1 then
    let a := c.arg1.field 4 48 * 16
    if isHostPa a && !s.host.attached then (.error 0x25, s)
    else if !s.ringPlace l a then (.error 0x21, s)
    else
      let (ws, r, s) := s.loadWords l a (2 * n)
      (if r.poison then .error 0x21 else if (wordPairs ws n).any recordReserved then .error 0x50 else .ok (wordPairs ws n), s)
  else (.ok (wordPairs (payloadWords c.payload (2 * n)) n), s)

/-- MIRROR (R287): its records, then with FENCE one fence over the pages that they cover. -/
def State.cmdMirror (s : State) (l q : Nat) (c : ACmd) : State :=
  match s.mirrorRecords l c with
  | (.error st, s) => s.complete l q c.seq st
  | (.ok rs, s) =>
    let (m, s) := s.mirrorApply l (s.cmdAsid l q c) rs
    let result := BitVec.ofNat 64 m.applied
    if c.arg0.flag 0 && m.applied != 0 then
      let pages := m.hi - m.lo
      let all := decide (1048575 < pages)
      let a0 := BitVec.ofNat 64 (1 + ofBool all * 2 ^ 17 + (if all then 0 else pages) * 2 ^ 18)
      let c' := { c with arg0 := a0, arg1 := BitVec.ofNat 64 (m.lo * 4096), status := m.code, result := result }
      (s.modQueue (qKey l q) fun x =>
        { x with running := x.running.map fun d => if d.seq = c.seq then { c' with since := d.since } else d }).fenceCommand
        l q c'
    else s.complete l q c.seq m.code result

/-! The rows. -/

/-- A write to an Apori register that wakes the Line (R499). -/
def State.queueWrite (s : State) (via : Via) (l : Nat) (f : State → State) : State :=
  s.lnWrite via l fun s => f (s.wakeExit l)

/-- A write of LN_QCTL, which wakes the Line where GO is set. -/
def State.qctlWrite (s : State) (via : Via) (l : Nat) (v : Word) : State :=
  s.lnWrite via l fun s => (s.when (v.flag 14) (·.wakeExit l)).writeQctl l v

/-- QUEUE_ENABLE (R311). -/
def execQueueEnable (via : Via) (l : LineId) (v : Word) : State → Out := runU fun s => s.qctlWrite via l v
/-- QUEUE_DISABLE (R326). -/
def execQueueDisable (via : Via) (l : LineId) (v : Word) : State → Out := runU fun s => s.qctlWrite via l v
/-- QUEUE_RESUME (R317). -/
def execQueueResume (via : Via) (l : LineId) (v : Word) : State → Out := runU fun s => s.qctlWrite via l v
/-- QUEUE_DISABLE_DONE (R326). -/
def execQueueDisableDone (l : LineId) : State → Out := runU fun s => s.disableDone l
/-- SQ_DOORBELL (R315). -/
def execSqDoorbell (via : Via) (l : LineId) (q : QueueId) (v : Word) : State → Out :=
  runU fun s => s.queueWrite via l (·.doorbell l q v)
/-- CQ_HEAD_DOORBELL (R315). -/
def execCqHeadDoorbell (via : Via) (l : LineId) (q : QueueId) (v : Word) : State → Out :=
  runU fun s => s.queueWrite via l fun s => (s.cqHead l q v).tidy l q

/-- SQ_FETCH_RETURN (R316). -/
def execSqFetchReturn (l : LineId) (q : QueueId) : State → Out :=
  runU fun s => s.when (s.fetches l q) fun s => (s.fetch l q).tidy l q
/-- REFETCH (R317). -/
def execRefetch (l : LineId) (q : QueueId) : State → Out :=
  runU fun s => s.when (s.fetches l q && (s.queue (qKey l q)).waiting.isSome) fun s => (s.refetch l q).tidy l q

/-- APORI_NOP (R319). -/
def execAporiNop (l : LineId) (q : QueueId) : State → Out :=
  runU fun s => s.dispatch l q 0 fun s c => s.complete l q c.seq 0
/-- LAUNCH (R319). -/
def execLaunch (l : LineId) (q : QueueId) : State → Out := runU fun s => s.dispatch l q 1 fun s c => s.cmdLaunch l q c
/-- XFER (R319). -/
def execXfer (l : LineId) (q : QueueId) : State → Out := runU fun s => s.dispatch l q 2 fun s c => s.cmdXfer l q c
/-- WRITE_INLINE (R319). -/
def execWriteInline (l : LineId) (q : QueueId) : State → Out :=
  runU fun s => s.dispatch l q 3 fun s c => s.cmdWriteInline l q c
/-- READ_INLINE (R319). -/
def execReadInline (l : LineId) (q : QueueId) : State → Out :=
  runU fun s => s.dispatch l q 4 fun s c => s.cmdReadInline l q c
/-- SYNC_ADD (R319). -/
def execSyncAdd (l : LineId) (q : QueueId) : State → Out := runU fun s => s.dispatch l q 5 fun s c => s.cmdSyncAdd l q c
/-- SYNC_WAIT (R319). -/
def execSyncWait (l : LineId) (q : QueueId) : State → Out := runU fun s => s.dispatch l q 6 fun s c => s.cmdSyncWait l q c
/-- SYNC_WAIT_SATISFIED (R320). -/
def execSyncWaitSatisfied (l : LineId) (q : QueueId) : State → Out := runU fun s => s.waitSatisfied l q
/-- SYNC_WAIT_TIMEOUT (R319). -/
def execSyncWaitTimeout (l : LineId) (q : QueueId) : State → Out := runU fun s => s.waitTimeout l q
/-- SYNC_SET (R319). -/
def execSyncSet (l : LineId) (q : QueueId) : State → Out := runU fun s => s.dispatch l q 7 fun s c => s.cmdSyncSet l q c
/-- MIRROR (R287). -/
def execMirror (l : LineId) (q : QueueId) : State → Out := runU fun s => s.dispatch l q 8 fun s c => s.cmdMirror l q c
/-- XLAT_FENCE (R283). -/
def execXlatFence (l : LineId) (q : QueueId) : State → Out :=
  runU fun s => s.dispatch l q 9 fun s c => s.fenceCommand l q c

end Sys2Proof.Machine
end

