-- ==== Sys2Proof/Machine/Codeword.lean ====
section
/-!
DEFINITION. The layout of rail codewords and flits (R337, R338, R342), and of spur flits (R430).
-/
namespace Sys2Proof.Machine

/-- Folds the `k` low bits of `v`, the lowest first, into a CRC-32C remainder, reflected as in R446. -/
def crcOfBits : (k v c : Nat) → Nat
  | 0, _, c => c
  | k + 1, v, c => if (c + v) % 2 = 1 then crcOfBits k (v / 2) ((c / 2) ^^^ 0x82F63B78) else crcOfBits k (v / 2) (c / 2)

/-- CW_CRC of a message: CRC-32C over bits [58:0] and then [5139:148], each from its lowest bit (DEDUCED: R338 names the bits;
notes/assumptions). -/
def cwCrc (msg : Nat) : Nat :=
  crcOfBits 4992 (msg / 2 ^ 148) (crcOfBits 59 msg 0xFFFFFFFF) ^^^ 0xFFFFFFFF

/-- The TYPE values whose flits have a body (R343). -/
def hasBody (type : Nat) : Bool := type == 1 || type == 2 || type == 4 || type == 8

/-- The flit whose header begins at bit `h` of the message (R342), with its decrypted body. -/
def readFlit (msg h : Nat) (body : List Byte) (tagOk : Bool) : Flit :=
  let w (i lo len : Nat) : Nat := bits msg (h + 64 * i + lo) len
  let type := w 0 0 4
  { type := type, cls := w 0 4 2, last := bit msg (h + 6), epoch := bit msg (h + 7), dstEp := w 0 8 17, dstCtx := w 0 25 12,
    srcEp := w 0 37 17, seq := w 1 0 64, addr := w 2 0 52, srcCtx := w 2 52 12, delivery := w 3 0 32, offset := w 3 40 12,
    info := w 4 0 64, body := if hasBody type then body.take (w 3 32 8 + 1) else [], tagOk := tagOk }

/-! Codewords that a port sends. -/

/-- Word `i` of a flit's header (R342), but for the TAG. BYTES of a flit without a body is 0. -/
def flitWord (f : Flit) : Nat → Nat
  | 0 => f.type % 16 + f.cls % 4 * 2 ^ 4 + ofBool f.last * 2 ^ 6 + ofBool f.epoch * 2 ^ 7 + f.dstEp % 2 ^ 17 * 2 ^ 8
      + f.dstCtx % 2 ^ 12 * 2 ^ 25 + f.srcEp % 2 ^ 17 * 2 ^ 37
  | 1 => f.seq % 2 ^ 64
  | 2 => f.addr % 2 ^ 52 + f.srcCtx % 2 ^ 12 * 2 ^ 52
  | 3 => f.delivery % 2 ^ 32 + (f.body.length - 1) % 2 ^ 8 * 2 ^ 32 + f.offset % 2 ^ 12 * 2 ^ 40
  | _ => f.info % 2 ^ 64

/-- The body of a flit as it is sealed: its bytes, and zeros up to 256 (R341). -/
def plainBody (f : Flit) : List Byte := (List.range 256).map fun i => f.body.getD i 0

/-- Body and TAG of a flit as they are sent: sealed, but for a HANDSHAKE, which is plain with a zero TAG (R349, R350). The
additional data is header words 0, 2, 3 and 4, and the nonce SEQ and DST_CTX. -/
def sealedFlit (p n : Nat) (f : Flit) : List Byte × Nat :=
  if f.type = 8 then (plainBody f, 0)
  else Config.railSeal p n (leBytes 8 f.seq ++ leBytes 4 (f.dstCtx % 4096))
    ([0, 2, 3, 4].flatMap fun i => leBytes 8 (flitWord f i)) (plainBody f)

/-- Header and body of a flit as 2,496 bits of the message (R337, R342). -/
def flitBits (p : Nat) (x : Nat × Flit) : Nat :=
  let (body, tag) := sealedFlit p x.1 x.2
  ((List.range 5).map fun i => flitWord x.2 i * 2 ^ (64 * i)).sum + tag % 2 ^ 128 * 2 ^ 320
    + ((List.range 256).map fun i => (body.getD i 0).toNat * 2 ^ (448 + 8 * i)).sum

/-- The message of a codeword that port `p` sends, with its CW_CRC (R337, R338). -/
def TxCodeword.message (p : Nat) (c : TxCodeword) : Nat :=
  let slot (x : Option (Nat × Flit)) : Nat := (x.map (flitBits p)).getD 0
  let m := c.seq % 4096 + c.ack.getD 0 % 4096 * 2 ^ 12 + ofBool c.ack.isSome * 2 ^ 24 + ofBool c.nak * 2 ^ 25
    + ofBool c.slotA.isSome * 2 ^ 26 + ofBool c.slotB.isSome * 2 ^ 27 + c.laneCmd % 8 * 2 ^ 28 + c.lane % 16 * 2 ^ 31
    + c.laneAt % 4096 * 2 ^ 35 + c.creditCls % 4 * 2 ^ 47 + c.credits % 1024 * 2 ^ 49
    + slot c.slotA * 2 ^ 148 + slot c.slotB * 2 ^ 2644
  m + cwCrc m * 2 ^ 59

/-- The CW_SEQ of the next slot. -/
def RailStream.seq (r : RailStream) : Nat := r.slot / 2

/-- `n` slots pass. Of the codewords before the next slot the last 2,048 stay in the replay buffer (R340). -/
def RailStream.pass (r : RailStream) (n : Nat) : RailStream :=
  { r with slot := (r.slot + n) % 8192
           replay := r.replay.filter fun c => decide ((r.seq + 4096 - c.seq) % 4096 + (r.slot % 2 + n) / 2 ≤ 2048) }

/-- Empty slots pass on port `p`, as many as time makes of them. -/
def RailStream.idle (p : Nat) (r : RailStream) : RailStream :=
  { r.pass (Config.idleSlots p r.waits) with waits := r.waits + 1 }

/-- Changes the codeword of the next slot, which carries `ack` where nothing stands in it yet. -/
def RailStream.write (ack : Option Nat) (g : TxCodeword → TxCodeword) (r : RailStream) : RailStream :=
  match r.replay with
  | c :: cs => if c.seq = r.seq then { r with replay := g c :: cs } else { r with replay := g { seq := r.seq, ack := ack } :: c :: cs }
  | [] => { r with replay := [g { seq := r.seq, ack := ack }] }

/-- Puts a flit into the next slot. -/
def RailStream.put (ack : Option Nat) (f : Flit) (r : RailStream) : RailStream :=
  (r.write ack fun c => if r.slot % 2 = 0 then { c with slotA := some (r.waits, f) } else { c with slotB := some (r.waits, f) }).pass 1

/-- Begins the next codeword that carries no command yet. -/
def RailStream.fresh (r : RailStream) : RailStream :=
  let r := r.pass (r.slot % 2)
  if r.replay.any fun c => c.seq == r.seq then r.pass 2 else r

/-- Puts a command into a codeword of its own on port `p`: a LANE_CMD with its lane and LANE_AT, a NAK with the last sequence
received in order (kind 5), or the places freed for a class (kind 7) (R338). -/
def RailStream.ctl (p : Nat) (ack : Option Nat) (kind x y : Nat) (r : RailStream) : RailStream :=
  (r.idle p).fresh.write ack fun c =>
    match kind with
    | 5 => { c with nak := true, ack := some x }
    | 7 => { c with creditCls := x, credits := y }
    | k => { c with laneCmd := k, lane := x, laneAt := y }

/-- How many codewords are resent for a NAK that names `last`: those after it, of the last 2,048 (R340). -/
def RailStream.after (r : RailStream) (last : Nat) : Nat := min 2048 ((r.fresh.seq + 4095 - last % 4096) % 4096)

/-- ACK_SEQ as this end sends it, where it is meaningful (R338). -/
def Port.ack (q : Port) : Option Nat := if q.heard then some ((q.cwRx + 4095) % 4096) else none

end Sys2Proof.Machine

namespace Sys2Proof
open Machine

/-- The codeword cannot be corrected, or its CW_CRC fails (R337). -/
def Codeword.lost (cw : Codeword) : Bool := decide (15 < cw.errors) || bits cw.msg 59 32 != cwCrc cw.msg

/-! The control field (R338). -/

def Codeword.seq (cw : Codeword) : Nat := bits cw.msg 0 12
def Codeword.ackSeq (cw : Codeword) : Option Nat := if bit cw.msg 24 then some (bits cw.msg 12 12) else none
def Codeword.nak (cw : Codeword) : Bool := bit cw.msg 25
def Codeword.laneCmd (cw : Codeword) : Nat := bits cw.msg 28 3
def Codeword.lane (cw : Codeword) : Nat := bits cw.msg 31 4
def Codeword.laneAt (cw : Codeword) : Nat := bits cw.msg 35 12
def Codeword.creditCls (cw : Codeword) : Nat := bits cw.msg 47 2
def Codeword.credits (cw : Codeword) : Nat := bits cw.msg 49 10

/-- The flits of a codeword: of slot A and of slot B, where they are valid. -/
def Codeword.flits (cw : Codeword) : List Flit :=
  (if bit cw.msg 26 then [readFlit cw.msg 148 (cw.bodies.getD 0 []) (cw.tagOk.getD 0 false)] else [])
  ++ if bit cw.msg 27 then [readFlit cw.msg 2644 (cw.bodies.getD 1 []) (cw.tagOk.getD 1 false)] else []

/-! Spur flits (R430). -/

/-- The flit's CRC holds, over its 64 payload bytes and the control bits [31:0]. -/
def SpurFlit.crcOk (f : SpurFlit) : Bool :=
  f.payload.length == 64 && crc32c (f.payload ++ leBytes 4 (f.control.field 0 32)) == f.control.field 32 32

def SpurFlit.seq (f : SpurFlit) : Nat := f.control.field 0 10
def SpurFlit.ack (f : SpurFlit) : Nat := f.control.field 10 10
def SpurFlit.nak (f : SpurFlit) : Bool := f.control.flag 20
def SpurFlit.cls (f : SpurFlit) : Nat := f.control.field 21 2
def SpurFlit.laneCmd (f : SpurFlit) : Nat := f.control.field 23 3
def SpurFlit.lane (f : SpurFlit) : Nat := f.control.field 26 6

end Sys2Proof
end

