-- ==== Sys2Proof/Machine/RailLink.lean ====
section
/-!
DEFINITION. Paths of peer contexts and the sending of deliveries over rail ports (R339, R342 to R356).
-/
namespace Sys2Proof.Machine

/-! Contexts and their paths. -/

/-- The key of context `c` of the Line led by `l`. -/
def ctxKey (l c : Nat) : Nat := l * 4096 + c

/-- Context `c` of the Line led by `l` exists (R348). -/
def State.ctxExists (s : State) (l c : Nat) : Bool :=
  match s.atPlace l (c / 512) with
  | some b => decide (c % 512 < (s.tt.basin b).peerCtx)
  | none => false

/-- The endpoint of the Line led by `l` (R344). -/
def State.endpoint (s : State) (l : Nat) : Nat := s.fabricId.field 0 14 * 8 + l

/-- The port carries flits: it is UP or HALF. -/
def Port.isUp (p : Port) : Bool := p.st == .up || p.st == .half

/-- Rail port `p` is a path of a context of the Line led by `l` (R348), and not quiesced (R364). -/
def State.isPath (s : State) (l p : Nat) (x : Ctx) : Bool :=
  let q := s.port p
  decide (4 * l ≤ p) && decide (p < 4 * l + 4 * (s.members l).length) && bit x.portMask (p - 4 * l) && q.isUp
    && !q.quiesce && q.farFid * 8 + q.farLine == x.remoteEp

/-- The paths of a context, by rail port, ascending. -/
def State.paths (s : State) (l : Nat) (x : Ctx) : List Nat := (List.range 32).filter fun p => s.isPath l p x

/-- The E grants of context `c`: rail port and rate in 10 Mb/s (R356). -/
def State.ctxGrants (s : State) (l c : Nat) : List (Nat × Nat) :=
  s.tt.admission.filterMap fun w =>
    match eGrant w with
    | some (b, x, q, r) => if s.atPlace l (c / 512) = some b ∧ x = c % 512 then some (4 * l + q, r) else none
    | none => none

/-- The Line sends flits: it is neither OFF nor FAILED (R30). -/
def State.railLive (s : State) (l : Nat) : Bool :=
  s.isLeader l && decide ((s.line l).st ≠ .off) && decide ((s.line l).st ≠ .failed)

/-! Flits. -/

/-- Cuts bytes at an address into flit bodies of at most 256 bytes. -/
def cutBodies : (fuel : Nat) → (a : Nat) → (bs : List Byte) → List (Nat × List Byte)
  | 0, _, _ => []
  | k + 1, a, bs => if bs = [] then [] else (a, bs.take 256) :: cutBodies k (a + 256) (bs.drop 256)

/-- Joins pieces in walk order into runs of contiguous addresses (R342, ADDR). -/
def joinRuns : List (Nat × List Byte) → List (Nat × List Byte)
  | [] => []
  | (a, bs) :: r =>
    match joinRuns r with
    | (z, cs) :: t => if z = a + bs.length then (a, bs ++ cs) :: t else (a, bs) :: (z, cs) :: t
    | [] => [(a, bs)]

/-- The flit bodies of a delivery with their addresses. -/
def flitBodies (ps : List (Nat × List Byte)) : List (Nat × List Byte) :=
  (joinRuns ps).flatMap fun r => cutBodies r.2.length r.1 r.2

/-- A token bucket's shortfall at `now`, in 1/800 byte: it fills at `rate` × 10 Mb/s (R356). -/
def shortfall (rate now : Nat) (b : Nat × Nat) : Nat := b.1 - rate * (now - b.2)

/-- The class in which an E flit of `n` body bytes is sent on a port: E where the port is granted and its bucket holds
BYTES + 1 bytes, otherwise S, counted in DEMOTED (R356). BYTES of a flit without a body is 0 (R342), so it takes one byte
(DEDUCED; notes/assumptions). -/
def State.policed (s : State) (l c p cls n : Nat) : Nat × State :=
  if cls ≠ 1 then (cls, s)
  else
    let n := max 1 n
    let demote (s : State) : State := s.modCtx (ctxKey l c) fun x => { x with demoted := satAdd 32 x.demoted 1 }
    match (s.ctxGrants l c).find? fun g => g.1 == p with
    | none => (0, demote s)
    | some (_, rate) =>
      let d := shortfall rate s.time (tblGet (0, 0) (s.ctx (ctxKey l c)).buckets (p - 4 * l))
      if d + 800 * n ≤ 800 * 4096 then
        (1, s.modCtx (ctxKey l c) fun x =>
          { x with buckets := tblSet (0, 0) x.buckets (p - 4 * l) (d + 800 * n, s.time) })
      else (0, demote s)

/-- Flits of class `cls` that wait at a port. -/
def Port.waiting (q : Port) (cls : Nat) : Nat := (q.txq.filter fun f => f.cls == cls).length

/-- Sends a command in a codeword of port `p` (R338). -/
def State.railCtl (s : State) (p kind x y : Nat) : State :=
  (s.modPort p fun q => { q with stream := q.stream.ctl p q.ack kind x y }).emit (.railCmd p kind x y)

/-- Fills one slot of port `p`: the oldest flit of the class whose turn it is, among those with a credit (R43, R339). None
where no flit qualifies, or its Line sends none (R30). Before the `first` flit of a run empty slots have passed. -/
def State.fillPortSlot (s : State) (p : Nat) (first : Bool) : Option State :=
  let q := s.port p
  let l := s.leaderOf (p / 4)
  if !s.railLive l then none
  else
    match (s.arb (16 + p)).pick (s.weights l) fun k => tblGet 0 q.credits k != 0 && q.txq.any fun f => f.cls == k with
    | none => none
    | some (k, a) =>
      (q.txq.find? fun f => f.cls == k).map fun f =>
        (((s.setArb (16 + p) a).modPort p fun q =>
          { q with txq := q.txq.erase f, credits := tblSet 0 q.credits k (tblGet 0 q.credits k - 1)
                   stream := (if first then q.stream.idle p else q.stream).put q.ack f }).count
            (portKey p 0x38) 1).emit (.flit p f)

/-- Fills `k` slots of port `p` one after another, while flits qualify. -/
def State.fillPort (p : Nat) (first : Bool) : (k : Nat) → State → State
  | 0, s => s
  | k + 1, s =>
    match s.fillPortSlot p first with
    | some s => State.fillPort p false k s
    | none => s

/-- Sends what the credits of port `p` allow. -/
def State.drainPort (s : State) (p : Nat) : State := State.fillPort p true (s.port p).txq.length s

/-- Hands one flit of context `c` to port `p`: SEQ and EPOCH are the context's, except in a HANDSHAKE (R342, R350). -/
def State.sendFlit (s : State) (l c p : Nat) (f : Flit) : State :=
  let x := s.ctx (ctxKey l c)
  let f := { f with dstEp := x.remoteEp, dstCtx := x.remoteCtx, srcEp := s.endpoint l, srcCtx := c,
                    seq := if f.type = 8 then 0 else x.txSeq, epoch := x.epoch }
  let s := s.when (f.type != 8) (·.modCtx (ctxKey l c) fun x => { x with txSeq := x.txSeq + 1 })
  (s.modPort p fun q => { q with txq := q.txq ++ [f] }).drainPort p

/-- INFO of a flit: CHECK stands in the last flit alone (R343). -/
def flitInfo (type info : Nat) (last : Bool) : Nat :=
  if (type = 1 ∨ type = 2 ∨ type = 4) ∧ last = false then info / 2 ^ 32 * 2 ^ 32 else info

/-- ADDR applies to the flits that name a remote address or a counter (R342). -/
def hasAddr (type : Nat) : Bool := type == 1 || type == 2 || type == 3 || type == 6

/-- Hands every flit of a delivery to port `p`; the last carries LAST (R342, R343). -/
def State.sendFlits (s : State) (l c p type cls number info : Nat) (bodies : List (Nat × List Byte)) : State :=
  let bodies := if bodies = [] then [(0, [])] else bodies
  ((bodies.zipIdx).foldl (fun (off, s) (b, i) =>
    let (k, s) := State.policed s l c p cls b.2.length
    let last := i + 1 == bodies.length
    let f : Flit := { type := type, cls := k, last := last, addr := if hasAddr type then b.1 else 0,
                      delivery := number, offset := off, info := flitInfo type info last, body := b.2 }
    (off + b.2.length, State.sendFlit s l c p f)) ((0 : Nat), s)).2

/-- The path for a new delivery of class `cls`: for E a granted one where there is one; the fewest flits queued in the
class, then the lowest port (R352, R356). -/
def State.choosePath (s : State) (l c cls : Nat) : Option Nat :=
  let ps := s.paths l (s.ctx (ctxKey l c))
  let granted := ps.filter fun p => (s.ctxGrants l c).any fun g => g.1 == p
  let ps := if cls = 1 ∧ granted ≠ [] then granted else ps
  let load (p : Nat) : Nat := (s.port p).waiting (if cls = 1 ∧ granted = [] then 0 else cls)
  ps.foldl (fun best p => match best with
    | some b => if load p < load b then some p else some b
    | none => some p) none

/-- Sends a new delivery of context `c` on port `p`, to be acknowledged. -/
def State.railSend (s : State) (l c p : Nat) (d : SentDelivery) : State :=
  let x := s.ctx (ctxKey l c)
  let d := { d with number := x.nextDelivery, port := p, at_ := s.time }
  (s.modCtx (ctxKey l c) fun x => { x with nextDelivery := (x.nextDelivery + 1) % 2 ^ 32, sent := x.sent ++ [d] }).sendFlits
    l c p d.type d.cls d.number d.info d.bodies

/-- Sends again on other paths the unacknowledged deliveries whose port is no longer a path (R353). -/
def State.resendCtx (s : State) (l c : Nat) : State :=
  (s.ctx (ctxKey l c)).sent.foldl (fun s d =>
    if s.isPath l d.port (s.ctx (ctxKey l c)) then s
    else
      match s.choosePath l c d.cls with
      | none => s
      | some p =>
        (s.modCtx (ctxKey l c) fun x =>
          { x with sent := x.sent.map fun e => if e.number = d.number then { e with port := p } else e }).sendFlits
          l c p d.type d.cls d.number d.info d.bodies) s

/-- Delivery numbers within the window of R353 around `number`. -/
def inWindow (number n : Nat) : Bool :=
  decide ((number + 2 ^ 32 - n % 2 ^ 32) % 2 ^ 32 < 4096 ∨ (n + 2 ^ 32 - number % 2 ^ 32) % 2 ^ 32 < 4096)

/-- Sends an answer of context `c` in class `cls` on the port its request came by, or on a path where that port is none. -/
def State.answer (s : State) (l c port type cls number info : Nat) (bodies : List (Nat × List Byte)) : State :=
  if s.railLive l then
    let p := if s.isPath l port (s.ctx (ctxKey l c)) then some port else s.choosePath l c cls
    match p with
    | some p => s.sendFlits l c p type cls number info bodies
    | none => s
  else s

/-- Sends an ACK and records the delivery as committed with that answer (R343, R353). -/
def State.sendAck (s : State) (l c port number status : Nat) (chk refused : Bool) : State :=
  let info := status + ofBool chk * 2 ^ 8 + ofBool refused * 2 ^ 9
  (s.modCtx (ctxKey l c) fun x =>
    { x with committed := tblInsert (x.committed.filter fun e => inWindow number e.1) number info }).answer
    l c port 5 0 number info []

end Sys2Proof.Machine
end

