-- ==== Sys2Proof/Machine/Confluence.lean ====
section
/-!
DEFINITION. The confluence unit (12_confluence.md): reduction entries, the exact sum, statistics, and deliveries into an
entry. An entry is keyed leader × 256 + number.
-/
namespace Sys2Proof.Machine

/-! ARM (R366). -/

/-- A range of bytes lies in the Line's own usable memory or Reservoir. -/
def State.ownRange (s : State) (l a n : Nat) : Bool :=
  n == 0 || (s.ownMem l a && s.ownMem l (a + n - 1) &&
    match s.target a, s.target (a + n - 1) with
    | .lpddr b _, .lpddr c _ => b == c
    | .reservoir _ _, .reservoir _ _ => true
    | _, _ => false)

/-- The ranges of an entry but for its accumulator area: input, output, scales, statistics. -/
def CflEntry.ranges (e : CflEntry) : List (Nat × Nat) :=
  [(e.inBase, e.elems * e.wIn), (e.outBase, e.elems * e.wOut), (e.scaleBase, e.blockCount)]
    ++ (if e.stats then [(e.statBase, (e.rows + e.cols) * 4)] else [])

/-- BAD_FIELD of R366, by the entry's words. -/
def CflEntry.badField (e : CflEntry) : Bool :=
  (List.range 7).any (fun i => e.w (9 + i) != 0) || (e.w 0).field 58 6 != 0
  || [1, 2, 3, 5, 8].any (fun i => (e.w i).field 52 12 != 0) || (e.w 6).flag 47
  || decide (4 < e.inFmt ∨ e.rows = 0 ∨ e.cols = 0 ∨ e.cols % 32 ≠ 0 ∨ e.contrib = 0 ∨ 16384 < e.contrib)
  || e.inBase % 4096 != 0 || e.outBase % 4096 != 0 || e.accBase % 4096 != 0 || e.statBase % 64 != 0
  || e.recBase % 32 != 0 || (e.w 4).field 56 8 != 0

/-- RANGE of R366. -/
def State.cflRange (s : State) (l : Nat) (e : CflEntry) : Bool :=
  e.ranges.any (fun r => !s.ownRange l r.1 r.2)
  || (match s.target e.accBase, s.target (e.accBase + e.accBytes - 1) with
      | .reservoir b _, .reservoir c _ => b != c || s.leaderOf b != l
      | _, _ => true)

/-- The overlaps that R366 leaves undefined. -/
def State.cflOverlap (s : State) (l : Nat) (e : CflEntry) : Bool :=
  let all := (e.accBase, e.accBytes) :: e.ranges
  let meets (r q : Nat × Nat) : Bool := spansMeet r.1 r.2 q.1 q.2
  (s.cfls.any fun x => x.1 / 256 == l && x.2.st.active && spansMeet x.2.accBase x.2.accBytes e.accBase e.accBytes)
  || (all.zipIdx.any fun r => all.zipIdx.any fun q =>
        r.2 != q.2 && (r.2 == 2 || r.2 == 4) && meets r.1 q.1
        && !(r.2 == 2 && q.2 == 1 && e.outBase == e.inBase && e.wOut == e.wIn))

/-- ARM of entry `n`: the RESULT, and the state after it. -/
def State.cflArm (s : State) (l n : Nat) : Nat × State :=
  let t := s.reg (cflKey l 0)
  let s := s.undefIf (5 ≤ t.field 0 4) .tableSize
  if 2 ^ (t.field 0 4 + 4) ≤ n then (1, s)
  else
    let (ws, r, s) := s.loadWords l (t.field 7 45 * 128 + n * 128) 16
    let e : CflEntry := { st := .arming, words := ws }
    if r.noTarget || r.poison then (4, s)
    else if e.badField then (1, s)
    else if s.cflRange l e then (2, s)
    else if (s.cfl (l * 256 + n)).st.active then (3, s)
    else (0, (s.undefIf (s.cflOverlap l e) .entryOverlap).modCfl (l * 256 + n) fun _ => e)

/-! The sum (R367). -/

/-- The result of placing an addend on a block's grid. -/
structure GridAddend where
  a : Int := 0
  sat : Nat := 0
  flush : Nat := 0
  nan : Bool := false
deriving DecidableEq, Repr

/-- R367: an addend on the grid of scale `sc`. -/
def gridAddend (x : Num) (sc : Nat) : GridAddend :=
  let lim : Int := 2 ^ 62 - 1
  match x with
  | .nan => { nan := true }
  | .inf n => { a := if n then -lim else lim, sat := 1 }
  | .fin n m e =>
    let ee : Int := (sc : Int) - 127
    if m ≠ 0 ∧ magGt 1 ee m e = false then { a := if n then -lim else lim, sat := 1 }
    else
      let v := shiftTo m e (ee - 62)
      { a := if n then -(v : Int) else v, flush := ofBool (v == 0 && m != 0) }

/-- R368: the result of an accumulator on the grid of scale `sc`, with its encoding. -/
def gridResult (f : FloatFmt) (a : Int) (nan : Bool) (sc : Nat) : Conv Nat :=
  if nan then ⟨f.nanCode, 0, 0⟩
  else
    let c := convert f false false (.fin (decide (a < 0)) a.natAbs ((sc : Int) - 127 - 62))
    ⟨encodeFloat f c.val, c.sat, c.flush⟩

/-- Adds one contribution's elements, each with its index, to block `k`. -/
def CflEntry.addBlock (e : CflEntry) (k sc : Nat) (vals : List (Nat × Num)) (poison : Bool) : CflEntry :=
  let e := { e with count := tblSet 0 e.count k (tblGet 0 e.count k + 1)
                    poisoned := tblSet false e.poisoned k (poison || tblGet false e.poisoned k) }
  if sc = 0xFF then e
  else vals.foldl (fun e v =>
    let g := gridAddend v.2 sc
    { e with acc := tblSet 0 e.acc v.1 (tblGet 0 e.acc v.1 + g.a), nan := tblSet false e.nan v.1 (g.nan || tblGet false e.nan v.1)
             sat := e.sat + g.sat, flush := e.flush + g.flush }) e

/-- The statistics of one converted element (R369). -/
def CflEntry.addStat (e : CflEntry) (i : Nat) (code : Nat) (poison : Bool) : CflEntry :=
  let row := i / e.cols
  let col := i % e.cols
  let g := decodeFloat (if e.outBf16 then bf16 else fp32) code
  let q := toF32 (g.mul g)
  let x := gridAddend (ofF32 q.val) e.statScale
  let e := { e with
    rowPoison := tblSet false e.rowPoison row (poison || tblGet false e.rowPoison row)
    colPoison := tblSet false e.colPoison col (poison || tblGet false e.colPoison col) }
  if g.isNan then
    { e with rowNan := tblSet false e.rowNan row true, colNan := tblSet false e.colNan col true }
  else if e.statScale = 0xFF then { e with sat := e.sat + q.sat, flush := e.flush + q.flush }
  else
    { e with
      rowAcc := tblSet 0 e.rowAcc row (tblGet 0 e.rowAcc row + x.a)
      colAcc := tblSet 0 e.colAcc col (tblGet 0 e.colAcc col + x.a)
      sat := e.sat + q.sat + x.sat, flush := e.flush + q.flush + x.flush }

/-- Converts block `k`, which holds all its contributions (R368, R369). Its output codes are kept until their 4 KiB block
is complete. -/
def CflEntry.convertBlock (e : CflEntry) (k sc : Nat) : CflEntry :=
  let f := if e.outBf16 then bf16 else fp32
  let poison := tblGet false e.poisoned k
  let e := { e with blocks := e.blocks + 1, anyPoison := e.anyPoison || poison }
  (List.range 32).foldl (fun e j =>
    let i := 32 * k + j
    let nan := sc == 0xFF || tblGet false e.nan i
    let r := gridResult f (tblGet 0 e.acc i) nan sc
    let e := { e with outs := tblInsert e.outs i r.val, sat := e.sat + r.sat, flush := e.flush + r.flush
                      anyNan := e.anyNan || nan }
    if e.stats then e.addStat i r.val poison else e) e

/-- The scale byte of block `k`, with its poison (R365, R373). -/
def State.cflScale (s : State) (l : Nat) (e : CflEntry) (k : Nat) : Nat × Bool × State :=
  let (r, s) := s.load l (e.scaleBase + k) 1
  (leNat r.data, r.poison, s)

/-- The first and last reduction blocks of output block `o` (R368). -/
def CflEntry.outBlock (e : CflEntry) (o : Nat) : Nat × Nat :=
  let n := 128 / e.wOut
  (o * n, min e.blockCount ((o + 1) * n))

/-- Writes output block `o` with its check word. -/
def State.cflWriteOut (s : State) (e : CflEntry) (o : Nat) : State :=
  let (a, z) := e.outBlock o
  let ps : List Piece := (List.range (z - a)).map fun i =>
    let k := a + i
    { dst := e.outBase + k * 32 * e.wOut
      data := (List.range 32).flatMap fun j => leBytes e.wOut (tblGet 0 e.outs (32 * k + j))
      poison := tblGet false e.poisoned k }
  (s.writeBlock e.home ((e.outBase + a * 32 * e.wOut) / 4096) ps 4 fun s a n =>
    (s.noteCounter a n).noteJob a n).2.2

/-- Block `k` of entry `c` has taken a contribution: when it holds all, it is converted, its output block is written when
complete, and after the last block the entry is FINISHING (R366, R368). -/
def State.cflSettle (s : State) (l c k sc : Nat) : State :=
  let e := s.cfl c
  if tblGet 0 e.count k = e.contrib ∧ e.st = .armed then
    let e := e.convertBlock k sc
    let e := if e.blocks = e.blockCount then { e with st := .finishing } else e
    let s := s.modCfl c fun _ => e
    let o := k / (128 / e.wOut)
    let (a, z) := e.outBlock o
    if (s.line l).st ≠ .failed ∧ (List.range (z - a)).all (fun i => tblGet 0 e.count (a + i) == e.contrib) = true then
      s.cflWriteOut e o
    else s
  else s

/-- One contribution to block `k` of entry `c`. -/
def State.cflAddBlock (s : State) (l c k : Nat) (vals : List (Nat × Num)) (poison : Bool) : State :=
  let (sc, sp, s) := s.cflScale l (s.cfl c) k
  let s := s.modCfl c fun e => e.addBlock k sc vals (poison || sp)
  let s := s.when (sc != 0xFF) (·.count (cflKey (s.cfl c).home 0x18) vals.length)
  s.cflSettle l c k sc

/-! Deliveries (R370, R371). -/

/-- The elements that bytes at an address give, with their indexes. -/
def CflEntry.elemsOf (e : CflEntry) (addr : Nat) (data : List Byte) : List (Nat × Num) :=
  let w := e.wIn
  (List.range (data.length / w)).map fun i =>
    ((addr - e.inBase) / w + i, decodeFloat (fmtFloat e.fmt) (leNat ((data.drop (i * w)).take w)))

/-- The cause of R371 that refuses a delivery of pieces into entry `e`; none where it passes. -/
def cflRefusal (e : CflEntry) (gen : Nat) (ps : List (Nat × List Byte)) : Option Nat :=
  let w := 32 * e.wIn
  let outside (p : Nat × List Byte) : Bool :=
    decide (p.1 < e.inBase ∨ e.inBase + e.elems * e.wIn < p.1 + p.2.length)
  let first := match ps with | p :: _ => p.1 - e.inBase | [] => 0
  let last := match ps.getLast? with | some p => p.1 + p.2.length - e.inBase | none => 0
  let full (k : Nat) : Bool :=
    decide (e.contrib ≤ tblGet 0 e.count k + ofBool (e.seedEn && !e.seeded))
  let blocks := ps.flatMap fun p => (List.range ((p.2.length + w - 1) / w)).map fun i => (p.1 - e.inBase) / w + i
  if !e.st.active then some 1
  else if e.gen ≠ gen then some 2
  else if ps.any outside then some 3
  else if first % w ≠ 0 ∨ last % w ≠ 0 then some 4
  else if blocks.any full then some 5
  else none

/-- Records a refused delivery (R371, R379). -/
def State.cflRefused (s : State) (l b entry cause srcEp : Nat) : State :=
  let s := s.count (cflKey b 0x20) 1
  if s.flag (cflKey l 0x10) 28 then s.setFlag (cflKey l 0x10) 29 true
  else
    (s.setReg (cflKey l 0x10) (BitVec.ofNat 64 (entry % 256 + cause * 2 ^ 8 + srcEp % 2 ^ 17 * 2 ^ 11 + 2 ^ 28))).raise l
      0x102

/-- Applies a delivery that has passed: one contribution to every block it covers (R371). -/
def State.cflApply (s : State) (l c : Nat) (ps : List (Nat × List Byte)) (poison : Bool) : State :=
  let e := s.cfl c
  let es := ps.flatMap fun p => e.elemsOf p.1 p.2
  let blocks := es.foldl (fun ks v => if ks.contains (v.1 / 32) then ks else ks ++ [v.1 / 32]) []
  s.each blocks fun s k => s.cflAddBlock l c k (es.filter fun v => v.1 / 32 == k) poison

/-- A REDUCE delivery that R291 has passed reaches entry `n` of the Line led by `l`: it waits while the
entry is ARMING, it is refused, or its addends are applied and it is acknowledged (R371). -/
def State.cflDeliver (s : State) (l b n gen : Nat) (ps : List (Nat × List Byte)) (bad : Bool) (srcEp ctx number port : Nat) :
    State :=
  let c := l * 256 + n
  let e := if 2 ^ (s.fld (cflKey l 0) 0 4 + 4) ≤ n then {} else s.cfl c
  if e.st = .arming then
    s.modCfl c fun e =>
      { e with waiting := e.waiting ++ ps.map fun p =>
          { addr := p.1, gen := gen, data := p.2, poison := bad, srcEp := srcEp, ctx := ctx, number := number, port := port } }
  else
    match cflRefusal e gen ps with
    | some cause =>
      (s.cflRefused l (if cause = 1 then b else e.home) n cause srcEp).sendAck l ctx port number 0x24 bad false
    | none => (s.cflApply l c ps bad).sendAck l ctx port number 0 bad false

/-- The deliveries that wait at an entry, each with its pieces. -/
def waitingDeliveries : List CflWaiting → List (CflWaiting × List (Nat × List Byte))
  | [] => []
  | x :: r =>
    match waitingDeliveries r with
    | (y, ps) :: t =>
      if x.ctx = y.ctx ∧ x.number = y.number then (x, (x.addr, x.data) :: ps) :: t
      else (x, [(x.addr, x.data)]) :: (y, ps) :: t
    | [] => [(x, [(x.addr, x.data)])]

/-- Hands the waiting deliveries of entry `n` to it again. -/
def State.cflRelease (s : State) (l b n : Nat) : State :=
  let c := l * 256 + n
  let ws := waitingDeliveries (s.cfl c).waiting
  ws.foldl (fun s w => s.cflDeliver l b n w.1.gen w.2 w.1.poison w.1.srcEp w.1.ctx w.1.number w.1.port)
    (s.modCfl c fun e => { e with waiting := [] })

/-! Seed, end and abort (R372 to R374). -/

/-- SEED_READ of entry `n` (R372): one contribution to every block, once SEED_CTR has reached SEED_VAL. -/
def State.cflSeed (s : State) (l n : Nat) : State :=
  let c := l * 256 + n
  let e := s.cfl c
  if e.st = .armed ∧ e.seedEn ∧ e.seeded = false ∧ (s.line l).st ≠ .failed
      ∧ s.counterReached l ((e.w 6).field 32 15) (e.w 7).toNat = true then
    let bytes := e.elems * e.wIn
    let (bad, s) := (List.range ((bytes + 4095) / 4096)).foldl (fun (bad, s) i =>
      let blk := e.inBase / 4096 + i
      let (k, s) := s.checkSource e.home l blk 4
      (if k then blk :: bad else bad, s)) (([] : List Nat), s)
    let s := s.modCfl c fun e => { e with seeded := true }
    s.each (List.range e.blockCount) fun s k =>
      let a := e.inBase + k * 32 * e.wIn
      let (r, s) := s.load l a (32 * e.wIn)
      s.cflAddBlock l c k (e.elemsOf a r.data) (bad.contains (a / 4096) || r.poison)
  else s

/-- The words of the completion record (R374). -/
def State.cflRecord (s : State) (n : Nat) (e : CflEntry) (status : Nat) : List Word :=
  [BitVec.ofNat 64 (status + ofBool e.anyPoison * 2 ^ 8 + ofBool e.anyNan * 2 ^ 9 + min e.sat 0xFFFF * 2 ^ 16
     + min e.flush 0xFFFF * 2 ^ 32 + n % 256 * 2 ^ 48),
   BitVec.ofNat 64 e.gen, BitVec.ofNat 64 e.blocks, BitVec.ofNat 64 s.time]

/-- Writes the record and adds the entry's counts to the Line totals. -/
def State.cflEnd (s : State) (l n : Nat) (e : CflEntry) (status : Nat) : State :=
  let s := s.addTotals l e.sat e.flush
  s.when (e.recBase != 0) fun s => (s.store l e.recBase (wordBytes (s.cflRecord n e status))).2

/-- The statistics: for each result its FP32 bits and poison, rows first (R369, R373). -/
def CflEntry.statWords (e : CflEntry) : List (F32 × Bool) :=
  let out (acc : Tbl Int) (nan poison : Tbl Bool) (i : Nat) : F32 × Bool :=
    (gridResult fp32 (tblGet 0 acc i) (e.statScale == 0xFF || tblGet false nan i) e.statScale, tblGet false poison i)
  (List.range e.rows).map (out e.rowAcc e.rowNan e.rowPoison) ++ (List.range e.cols).map (out e.colAcc e.colNan e.colPoison)

/-- Writes the statistics granule by granule: a granule with a poisoned result is poisoned. -/
def State.cflStats (s : State) (l : Nat) (e : CflEntry) : CflEntry × State :=
  let ws := e.statWords
  let e' := { e with sat := e.sat + (ws.map fun w => w.1.sat).sum, flush := e.flush + (ws.map fun w => w.1.flush).sum
                     anyNan := e.anyNan }
  let s := s.each (List.range ((ws.length + 15) / 16)) fun s g =>
    let part := (ws.drop (16 * g)).take 16
    (s.store l (e.statBase + 64 * g) (part.flatMap fun w => leBytes 4 w.1.val) (part.any (·.2))).2
  (e', s)

/-- FINISHING of entry `n`: statistics, record and DONE add (R374). -/
def State.cflFinish (s : State) (l n : Nat) : State :=
  let c := l * 256 + n
  let e := s.cfl c
  if e.st = .finishing ∧ (s.line l).st ≠ .failed then
    let (e, s) := if e.stats then s.cflStats l e else (e, s)
    let s := s.modCfl c fun _ => { e with st := .done }
    let s := s.cflEnd l n e 0
    s.when ((e.w 6).flag 15) fun s => s.counterAdd l ((e.w 6).field 0 15) ((e.w 6).field 16 16)
  else s

/-- ABORT of entry `n` (R374, R375): deliveries that wait are refused with NO_ENTRY. -/
def State.cflAbort (s : State) (l b n : Nat) : State :=
  let c := l * 256 + n
  let e := s.cfl c
  if e.st.active then
    let s := s.modCfl c fun e => { e with st := .aborted }
    let s := s.when ((s.line l).st != .failed) fun s => s.cflEnd l n e 0x31
    s.cflRelease l b n
  else s

/-- A write of CFL_CTL (R379). -/
def State.writeCflCtl (s : State) (b : Nat) (v : Word) : State :=
  let s := s.undefIf (v.flag 11 || v.flag 15 || v.field 20 12 != 0 || v.field 60 4 != 0) .reservedWrite
  let l := s.leaderOf b
  if l = b then
    let s := (s.setFld (cflKey l 0x8) 0 8 (v.field 0 8)).setFld (cflKey l 0x8) 8 2 (v.field 8 2)
    if v.flag 10 then
      if v.field 8 2 = 1 then
        let (r, s) := s.cflArm l (v.field 0 8)
        s.setFld (cflKey l 0x8) 16 4 r
      else if v.field 8 2 = 2 then s.cflAbort l b (v.field 0 8)
      else s
    else s
  else s

/-- A write of CFL_CTL by a path: with GO it is a wake event (R499). -/
def State.cflCtlBy (s : State) (via : Via) (b : Nat) (v : Word) : State :=
  s.bWrite via b fun s => (s.when (v.flag 10) (·.wakeExit (s.leaderOf b))).writeCflCtl b v

/-- ARM: a write of CFL_CTL. -/
def execArm (via : Via) (b : BasinId) (v : Word) : State → Out := runU fun s => s.cflCtlBy via b v

/-- CFL_ABORT: a write of CFL_CTL. -/
def execCflAbort (via : Via) (b : BasinId) (v : Word) : State → Out := runU fun s => s.cflCtlBy via b v

/-- ZEROING_DONE: the accumulator area is zeroed, and the entry takes deliveries (R366, R371). -/
def State.zeroingDone (s : State) (l b n : Nat) : State :=
  let c := l * 256 + n
  let e := s.cfl c
  if e.st = .arming ∧ (s.line l).st ≠ .failed then
    let s := s.undefIf (s.meetsCounter e.accBase e.accBytes) .syncCounterWrite
    let s := s.zeroRange e.accBase (e.accBase + e.accBytes)
    (s.modCfl c fun e => { e with st := .armed }).cflRelease l b n
  else s

/-- ZEROING_DONE (R366). -/
def execZeroingDone (b : BasinId) (e : EntryId) : State → Out :=
  runU fun s => s.zeroingDone (s.leaderOf b) (s.leaderOf b) e

/-- SEED_READ (R372). -/
def execSeedRead (b : BasinId) (e : EntryId) : State → Out := runU fun s => s.cflSeed (s.leaderOf b) e

/-- FINISHING (R374). -/
def execFinishing (b : BasinId) (e : EntryId) : State → Out := runU fun s => s.cflFinish (s.leaderOf b) e

end Sys2Proof.Machine
end

