-- ==== Sys2Proof/Machine/Pictures.lean ====
section
/-!
DEFINITION. The output conversion of the decode blocks (R422, R85).
-/
namespace Sys2Proof.Machine

/-- How samples stand for values: the matrix coefficients Kr and Kb in 1/10,000, the offset and span of Y, and the centre and
span of Cb and Cr (PRESUMED, the standards that R422 names; notes/assumptions). -/
structure Colour where
  kr : Int
  kb : Int
  y0 : Int
  ySpan : Int
  c0 : Int
  cSpan : Int
deriving DecidableEq, Repr

/-- The matrix of a code of `Config.DecodeOut.vui`. -/
def matrixOf : Nat → Int × Int
  | 0 => (2990, 1140)
  | 1 => (2126, 722)
  | _ => (2627, 593)

/-- JFIF BT.601 full range for JPEG; for HEVC what the VUI signals, else BT.709 limited range (R422). -/
def colourOf (hevc : Bool) (vui : Option (Nat × Bool)) : Colour :=
  if hevc then
    let (m, full) := vui.getD (1, false)
    let (kr, kb) := matrixOf m
    if full then ⟨kr, kb, 0, 1023, 512, 1023⟩ else ⟨kr, kb, 64, 876, 512, 896⟩
  else ⟨2990, 1140, 0, 255, 128, 255⟩

/-- R, G and B of a sample as fractions with one denominator: 1 is the greatest component. -/
def Colour.rgb (k : Colour) (y cb cr : Int) : List Int × Int :=
  let one : Int := 10000
  let kg := one - k.kr - k.kb
  let yv := (y - k.y0) * one * kg * k.cSpan
  let b := 2 * (one - k.kb) * (cb - k.c0) * k.ySpan
  let r := 2 * (one - k.kr) * (cr - k.c0) * k.ySpan
  ([yv + r * kg, yv - (b * k.kb + r * k.kr), yv + b * kg], k.ySpan * one * kg * k.cSpan)

/-- A component in FP32: the fraction times `scale` (R422). -/
def component (n d : Int) (scale : Int) : Num := decodeFloat fp32 (toF32 ((ofInt (n * scale)).div (ofInt d))).val

/-- A component rounded once to an 8-bit integer, and whether it was clamped. -/
def toByte (x : Num) : Byte × Bool :=
  let i := (convertInt 32 x).val
  if i < 0 then (0, true) else if 255 < i then (255, true) else (BitVec.ofInt 8 i, false)

/-- A component rounded once to BF16, and whether it was clamped to 0 or 1. -/
def toBf16 (x : Num) : List Byte × Bool :=
  let v := (convert bf16 false false x).val
  let one := Num.fin false 1 0
  let (c, k) := if v.lt (.fin false 0 0) then (Num.fin false 0 0, true) else if one.lt v then (one, true) else (v, false)
  (leBytes 2 (encodeFloat bf16 c), k)

end Sys2Proof.Machine

namespace Sys2Proof
open Machine

/-- The sample of a component at a place, chroma replicated over its factors. -/
def Config.DecodedPic.sample (p : Config.DecodedPic) (c hsub vsub x y : Nat) : Int :=
  (((p.comps.getD c []).getD (y / vsub) []).getD (x / hsub) 0 : Nat)

/-- R, G and B at a place; grayscale is replicated. -/
def Config.DecodedPic.rgbAt (p : Config.DecodedPic) (hevc : Bool) (o : Config.DecodeOut) (x y : Nat) : List Int × Int :=
  let k := colourOf hevc o.vui
  let luma := p.sample 0 1 1 x y
  if p.comps.length ≤ 1 then (List.replicate 3 (luma - k.y0), k.ySpan)
  else k.rgb luma (p.sample 1 o.hsub o.vsub x y) (p.sample 2 o.hsub o.vsub x y)

/-- The planes of a picture in output form OUT, as rows of bytes, and the components clamped (R422). -/
def Config.DecodedPic.planes (p : Config.DecodedPic) (hevc : Bool) (out : Nat) (o : Config.DecodeOut) :
    List (List (List Byte)) × Nat :=
  let rows {α : Type} (f : List Int × Int → α) : List (List α) :=
    (List.range o.height).map fun y => (List.range o.width).map fun x => f (p.rgbAt hevc o x y)
  match out with
  | 0 => (p.comps.map fun c => c.map fun r => r.flatMap fun v => leBytes (if hevc then 2 else 1) v, 0)
  | 1 =>
    let px := rows fun (ns, d) => ns.map fun n => toByte (component n d 255)
    ([px.map fun r => r.flatMap fun q => q.map (·.1)], (px.flatten.flatten.filter (·.2)).length)
  | _ =>
    let px := rows fun (ns, d) => ns.map fun n => toBf16 (component n d 1)
    ([0, 1, 2].map fun c => px.map fun r => r.flatMap fun q => (q.getD c ([], false)).1,
     (px.flatten.flatten.filter (·.2)).length)

end Sys2Proof
end

