-- ==== Sys2Proof/Machine/Services.lean ====
section
/-!
DEFINITION. Server cores as Line events reach them (R408 to R415, R426), the interrupt routes (R418, R419) and the
image-decode blocks (R420 to R425).
-/
namespace Sys2Proof.Machine

/-! Cores and their caches. -/

/-- The basin whose core or L3 quarter a caching agent is (R302). -/
def agentBasin (a : Nat) : Nat := if a < 128 then a / 16 else (a - 128) % 8

/-- The caching agent belongs to the Line led by `l`. -/
def State.agentOf (s : State) (l a : Nat) : Bool := s.leaderOf (agentBasin a) == l

/-- The line of memory lies in the Line's own memory. -/
def State.lineOf (s : State) (l g : Nat) : Bool := s.ownMem l (g * 64)

/-- Forgets the coherence state of the Line led by `l`: copies, directory, transactions and messages (R301). -/
def State.dropCoherence (s : State) (l : Nat) : State :=
  { s with coh := { s.coh with
      caches := s.coh.caches.filter fun e => !s.agentOf l (e.1 / 2 ^ 46)
      dir := s.coh.dir.filter fun e => !s.lineOf l e.1
      txns := s.coh.txns.filter fun t => !s.lineOf l t.line
      waits := s.coh.waits.filter fun w => !s.lineOf l w.line
      resps := s.coh.resps.filter fun r => !s.agentOf l r.agent
      wbs := s.coh.wbs.filter fun w => !s.agentOf l w.agent
      evicts := s.coh.evicts.filter fun e => !s.agentOf l e.1 } }

/-- Writes the Line's dirty lines back to memory: the copies held M or O, and write-backs on their way (R297, R301). -/
def State.writeBackAll (s : State) (l : Nat) : State :=
  let held := (s.coh.caches.filter fun e => s.agentOf l (e.1 / 2 ^ 46)).filterMap fun e =>
    match e.2 with
    | some c => if c.st = .m ∨ c.st = .o then some (e.1 % 2 ^ 46, c.data, c.poison) else none
    | none => none
  let sent := (s.coh.wbs.filter fun w => s.agentOf l w.agent && !w.arrived).map fun w => (w.line, w.data, w.poison)
  (sent ++ held).foldl (fun s e => if (s.onFailed (e.1 * 64)).isSome then s else s.putGranule e.1 e.2.1 e.2.2) s

/-- Sets every hart of the Line led by `l`: an active core by `f`, any other OFF. -/
def State.setCores (s : State) (l : Nat) (f : Nat → Core) : State :=
  s.each ((List.range 128).filter fun h => s.leaderOf (h / 16) == l) fun s h =>
    s.modHart h fun _ => if s.hartActive l h then f h else {}

/-- The DPA of the Line MMIO range of a Line's leader (R34). -/
def lnMmioBase (l : Nat) : Nat := 0xF00000000000 + l * 0x4000000

/-- Starts the cores at entry to RUNNING (R413). -/
def State.startCores (s : State) (l : Nat) : State :=
  let pc := s.fld (lnKey l 0x500) 2 50 * 4
  s.setCores l fun h =>
    if pc ≠ 0 ∧ s.ownMem l pc then
      { mode := .run, pc := pc,
        regs := tblSet 0 (tblSet 0 [] 10 (BitVec.ofNat 64 h)) 11 (BitVec.ofNat 64 (lnMmioBase l)) }
    else { mode := .halted }

/-- Stops the cores at entry to STOPPED from STOPPING: dirty lines are written back and every line is invalidated. -/
def State.haltCores (s : State) (l : Nat) : State :=
  ((s.writeBackAll l).dropCoherence l).setCores l fun h => { s.hart h with mode := .halted, reservation := none }

/-- Stops the cores of a FAILED Line in the cycle of entry, with no write-back (R30, R301). -/
def State.failCores (s : State) (l : Nat) : State := s.setCores l fun h => { s.hart h with mode := .halted }

/-- Holds the cores of a Line in reset; their caches are invalidated without write-back (R301). -/
def State.resetCores (s : State) (l : Nat) : State := (s.dropCoherence l).setCores l fun _ => {}

/-- LN_CORE_STATE of the basin in place `i` (R426). -/
def State.coreState (s : State) (l i : Nat) : Word :=
  match s.atPlace l i with
  | none => 0
  | some b =>
    let ks := List.range 16
    let code (k : Nat) : Nat :=
      match (s.hart (16 * b + k)).mode with
      | .off => 0 | .run => 1 | .wfi => 2 | .halted => 3
    let active (k : Nat) : Bool := decide (s.coreOf b k ≤ 16)
    BitVec.ofNat 64 ((ks.map fun k => code k * 2 ^ (2 * k)).sum + (ks.map fun k => ofBool (active k) * 2 ^ (32 + k)).sum
      + ofBool (ks.any fun k => s.coreOf b k == 16) * 2 ^ 48)

/-! Interrupt routes. -/

/-- A write of LN_IRQ_ROUTE (R418, R419). -/
def State.writeRoute (s : State) (l src : Nat) (v : Word) : State :=
  let s := s.undefIf (v.field 12 4 != 0 || v.field 27 4 != 0 || v.field 34 30 != 0) .reservedWrite
  let k := routeKey l src
  let old := s.reg k
  let err := old.flag 33 && !v.flag 33
  let sends := v.flag 31 && old.flag 32
  let s := s.setReg k (BitVec.ofNat 64 (v.field 0 12 + v.field 16 11 * 2 ^ 16 + ofBool (v.flag 31) * 2 ^ 31
    + ofBool (old.flag 32 && !sends) * 2 ^ 32 + ofBool err * 2 ^ 33))
  s.when sends (·.sendMsi l src)

/-- IRQ_ROUTE_WRITE (R419). -/
def execIrqRouteWrite (via : Via) (l : LineId) (src : Fin 512) (v : Word) : State → Out :=
  runU fun s => s.lnWrite via l (·.writeRoute l src v)

/-! Image decode. -/

/-- A reserved field of the descriptor is not 0 (R421). -/
def DecodeJob.reserved (j : DecodeJob) : Bool :=
  (j.w 0).field 7 9 != 0 || (j.w 0).field 32 16 != 0 || (j.w 1).field 52 12 != 0 || (j.w 2).field 32 32 != 0
  || (j.w 3).field 52 12 != 0 || (j.w 5).field 52 12 != 0 || (j.w 7).field 52 12 != 0

/-- The Line's jobs for decode block CX`unit`. -/
def State.decodeQ (s : State) (l unit : Nat) : List DecodeJob := tblGet [] (s.line l).decode unit

/-- Replaces the Line's jobs for a decode block. -/
def State.setDecodeQ (s : State) (l unit : Nat) (q : List DecodeJob) : State :=
  s.modLine l fun ln => { ln with decode := tblSet [] ln.decode unit q }

/-- LN_DEC_STATUS (R426). -/
def State.decStatus (s : State) (l : Nat) : Word :=
  ((s.reg (lnKey l 0x608)).withField 0 4 (s.decodeQ l 0).length).withField 4 4 (s.decodeQ l 1).length

/-- LAST_STATUS of LN_DEC_STATUS. -/
def State.setDecLast (s : State) (l st : Nat) : State := s.setFld (lnKey l 0x608) 16 8 st

/-- A write of LN_DEC_SUBMIT (R423, R425, R580). -/
def State.writeDecSubmit (s : State) (l : Nat) (v : Word) : State :=
  let s := s.undefIf (v.field 52 12 != 0) .reservedWrite
  let (ws, r, s) := s.loadWords l (v.field 3 49 * 8) 8
  if (s.line l).st = .stopping then s.setFlag (lnKey l 0x608) 8 true
  else if r.noTarget then s.setDecLast l 0x21
  else if r.poison then s.setDecLast l 0x30
  else
    let (ws, s) := s.lowBitsOf ws [(3, 0, 52, 64), (4, 0, 32, 64), (4, 32, 32, 4096), (5, 0, 52, 4096), (7, 0, 52, 32)]
    let j : DecodeJob := { words := ws }
    let q := s.decodeQ l j.unit
    if 8 ≤ q.length then s.setFlag (lnKey l 0x608) 8 true
    else
      let s := s.undefIf (j.reserved) .reservedDescField
      let s := s.undefIf ((j.w 0).flag 1 || (j.w 0).field 2 2 == 3 || j.out == 3) .decodeFields
      s.setDecodeQ l j.unit (q ++ [j])

/-- DECODE_START: the block starts the Line's next job (R423). -/
def State.decodeStart (s : State) (l unit : Nat) : State :=
  match s.decodeQ l unit with
  | j :: r => if (s.line l).st.works && !j.running then s.setDecodeQ l unit ({ j with running := true } :: r) else s
  | [] => s

/-- The rows of picture `k` with their addresses (R422). -/
def DecodeJob.rows (j : DecodeJob) (h k : Nat) (planes : List (List (List Byte))) : List (Nat × List Byte) :=
  (planes.zipIdx).flatMap fun (plane, n) => (plane.zipIdx).map fun (row, r) =>
    (j.dst + k * j.picStride + n * h * j.stride + r * j.stride, row)

/-- Pieces cut at block boundaries, with their block. -/
def blockPieces (poison : Bool) (rows : List (Nat × List Byte)) : List (Nat × Piece) :=
  rows.flatMap fun (a, bs) => (pagePieces a bs.length).map fun (x, n) =>
    (x / 4096, { dst := x, data := (bs.drop (x - a)).take n, poison := poison })

/-- Writes rows of bytes with the check words of their blocks (R255, R422). Answers whether a granule was poisoned. -/
def State.writeRows (s : State) (poison : Bool) (rows : List (Nat × List Byte)) : Bool × State :=
  let ps := blockPieces poison rows
  (ps.map (·.1)).eraseDups.foldl (fun (q, s) blk =>
    let b := ((s.target (blk * 4096)).memBasin).getD 0
    let (_, r, s) := s.writeBlock b blk ((ps.filter fun p => p.1 == blk).map (·.2)) 1 fun s a n =>
      (s.noteCounter a n).noteEntry a n
    (q || r, s)) (false, s)

/-- How a decode job ends: its status, what it wrote and its counts. -/
structure DecodeEnd where
  status : Nat
  pics : Nat := 0
  errByte : Nat := 0
  clamped : Nat := 0
  poison : Bool := false
deriving DecidableEq, Repr

/-- The record of a decode job (R424). -/
def State.decodeRecord (s : State) (j : DecodeJob) (e : DecodeEnd) : List Word :=
  [BitVec.ofNat 64 (e.status + ofBool e.poison * 2 ^ 8 + min e.clamped 0xFFFF * 2 ^ 16 + (j.w 0).field 48 16 * 2 ^ 48),
   BitVec.ofNat 64 (e.pics + e.errByte * 2 ^ 32), 0, BitVec.ofNat 64 s.time]

/-- Ends the job at the head of a decode block's queue: counts, record, DONE add and interrupt (R424, R417). -/
def State.decodeEnd (s : State) (l unit : Nat) (j : DecodeJob) (e : DecodeEnd) : State :=
  let s := s.setDecodeQ l unit ((s.decodeQ l unit).drop 1)
  let s := s.addTotals l e.clamped 0
  let s := s.when (j.recAt != 0) fun s => (s.store l j.recAt (wordBytes (s.decodeRecord j e))).2
  let s := s.when (e.status == 0 && (j.w 6).flag 47) fun s =>
    s.counterAdd l ((j.w 6).field 32 15) ((j.w 6).field 48 16)
  let s := s.setDecLast l e.status
  s.when (e.status != 0) (·.raise l 0x109)

/-- `n` bytes from `a` all lie in the Line's own usable LPDDR5X or Reservoir. -/
def State.ownSpan (s : State) (l a n : Nat) : Bool := (pagePieces a n).all fun p => s.ownMem l p.1

/-- Decodes the running job of a block (R421 to R424). -/
def State.decodeRun (s : State) (l unit : Nat) (j : DecodeJob) : State :=
  let served := (s.members l).any fun b => b / 4 == unit
  if !served || !s.ownSpan l j.src j.srcLen || (j.hevc && !s.ownSpan l j.dpb j.dpbLen) then
    s.decodeEnd l unit j { status := 0x21 }
  else
    let (stream, s) := s.load l j.src j.srcLen
    let o := Config.decode (ofBool j.hevc) stream.data
    let limit := if j.hevc then (j.w 0).field 16 16 else 1
    let pics := o.pics.take limit
    let made := pics.map fun p => (p, p.planes j.hevc j.out o)
    let rows := (made.zipIdx).map fun (m, k) => (j.rows o.height k m.2.1, m.1)
    let all := rows.flatMap (·.1)
    let need := (18 * o.width * o.height + 4095) / 4096 * 4096
    let meets (a n : Nat) : Bool := all.any fun (x, bs) => spansMeet x bs.length a n
    let s := s.undefIf (meets j.src j.srcLen || (j.hevc && (meets j.dpb j.dpbLen
      || spansMeet j.src j.srcLen j.dpb j.dpbLen))) .decodeOverlap
    if o.unsupported then s.decodeEnd l unit j { status := 0x61 }
    else if j.hevc && decide (j.dpbLen < need) then s.decodeEnd l unit j { status := 0x62 }
    else if !all.all (fun (x, bs) => s.ownSpan l x bs.length) then s.decodeEnd l unit j { status := 0x21 }
    else
      let dirty (p : Config.DecodedPic) : Bool :=
        (pieces (j.src + p.first) p.len).any fun q => (s.granule (q.1 / 64)).2
      let (bad, s) := rows.foldl (fun (bad, s) (rs, p) =>
        let (q, s) := s.writeRows (dirty p) rs
        (bad || q, s)) (false, s)
      let (frames, s) := s.freeBytes (if j.hevc then need else 0)
      let (_, s) := s.writeRows false [(j.dpb, frames)]
      let failed := o.error.isSome && decide (pics.length < limit)
      s.decodeEnd l unit j
        { status := if failed then 0x60 else 0, pics := pics.length, errByte := if failed then o.error.getD 0 else 0,
          clamped := (made.map fun m => m.2.2).sum, poison := bad }

/-- The Lines whose jobs a decode block can go on with, with the class of each. -/
def State.decodeWaits (s : State) (unit : Nat) : List (Nat × Nat) :=
  (List.range 8).filterMap fun l =>
    match s.decodeQ l unit with
    | j :: _ => if (s.line l).st.works && j.running then some (l, (j.w 0).field 2 2) else none
    | [] => none

/-- DECODE_COMPLETE: the job of the Line that the block chooses runs to its end: E first, then S and B by the Line's weights,
and in turn within a class (R423). -/
def State.decodeComplete (s : State) (l unit : Nat) : State :=
  match s.turnOf (48 + unit) l (s.decodeWaits unit) l with
  | none => s
  | some s =>
    match s.decodeQ l unit with
    | j :: _ => s.decodeRun l unit j
    | [] => s

/-- DEC_SUBMIT (R423); a wake event. -/
def execDecSubmit (via : Via) (l : LineId) (v : Word) : State → Out :=
  runU fun s => s.lnWrite via l fun s => (s.wakeExit l).writeDecSubmit l v

/-- DECODE_START (R423). -/
def execDecodeStart (l : LineId) (unit : Fin 2) : State → Out := run fun s => s.decodeStart l unit

/-- DECODE_COMPLETE (R424). -/
def execDecodeComplete (l : LineId) (unit : Fin 2) : State → Out := runU fun s => s.decodeComplete l unit

end Sys2Proof.Machine
end

