-- ==== Sys2Proof/Machine/Special.lean ====
section
/-!
DEFINITION. The special functions of the vector engine (R202): exact values to far more bits than FP32 holds, and the
results that lie within a function's error bound, of which each engine returns one.
Fixed-point numbers are in units of 2^-320. No operand of FP32 brings an exact value so near to the edge of a bound that
this precision decides; the bound is taken wider by 2^-32 ulp, so that no permitted result is left out.
-/
namespace Sys2Proof.Machine

/-- 1 as a fixed-point number. -/
def fixOne : Nat := 2 ^ 320

/-- ln 2. -/
def fixLn2 : Nat := 0xb17217f7d1cf79abc9e3b39803f2f6af40f343267298b62d8a0d175b8baafa2be7b876206debac98

/-- 2 × √(2/π), by which R200's GELU becomes a × sigmoid. -/
def fixGelu : Nat := 0x19884533d436508d0fcb3c500bab8e2ff4e0a7cc1449c1b63011c6d20098e74ba77e2b15511f4f6dc

/-- The first `k` terms of the series of e^r - 1 over 1 + …, by Horner's rule. -/
def expSeries (r : Nat) : (k acc : Nat) → Nat
  | 0, acc => acc
  | k + 1, acc => expSeries r k (fixOne + r * acc / fixOne / (k + 1))

/-- e^r for a fixed-point r below 1. -/
def fixExp (r : Nat) : Nat := expSeries r 72 fixOne

/-- A magnitude as a fixed-point number; one of 2,048 or more counts as 2,048, where every function here has long passed
what FP32 holds. -/
def fixOf (m : Nat) (e : Int) : Nat := if magGt m e 2048 0 then 2048 * fixOne else shiftTo m e (-320)

/-- e^x. -/
def expNum (neg : Bool) (m : Nat) (e : Int) : Num :=
  let x := fixOf m e
  let n := x / fixLn2
  if neg && x != 0 then .fin false (fixExp ((n + 1) * fixLn2 - x)) (-(n : Int) - 321)
  else .fin false (fixExp (x - n * fixLn2)) ((n : Int) - 320)

/-- 2^x. -/
def exp2Num (neg : Bool) (m : Nat) (e : Int) : Num :=
  let x := fixOf m e
  let n := x / fixOne
  let f := x % fixOne
  if neg && f != 0 then .fin false (fixExp ((fixOne - f) * fixLn2 / fixOne)) (-(n : Int) - 321)
  else if neg then .fin false 1 (-(n : Int))
  else .fin false (fixExp (f * fixLn2 / fixOne)) ((n : Int) - 320)

/-- The odd series z + z^3/3 + z^5/5 + … over z, from the term of index `k` down. -/
def atanhSeries (z2 : Nat) : (k acc : Nat) → Nat
  | 0, acc => acc
  | k + 1, acc => atanhSeries z2 k (fixOne / (2 * k + 1) + z2 * acc / fixOne)

/-- ln (m × 2^e), for m > 0. -/
def lnNum (m : Nat) (e : Int) : Num :=
  let p := 2 ^ m.log2
  let z := (m - p) * fixOne / (m + p)
  let frac : Nat := 2 * (z * atanhSeries (z * z / fixOne) 110 0 / fixOne)
  let i : Int := (e + (m.log2 : Nat)) * (fixLn2 : Nat) + (frac : Nat)
  .fin (decide (i < 0)) i.natAbs (-320)

/-- e^-|x| as a fixed-point number, never 0. -/
def fixDecay (m : Nat) (e : Int) : Nat :=
  match expNum true m e with
  | .fin _ a b => max 1 (shiftTo a b (-320))
  | _ => 1

/-- tanh x. -/
def tanhNum (neg : Bool) (m : Nat) (e : Int) : Num :=
  let t := fixDecay m (e + 1)
  Num.div (.fin neg (fixOne - t) 0) (.fin false (fixOne + t) 0)

/-- 1 ÷ (1 + e^-x). -/
def sigmoidNum : Num → Num
  | .fin neg m e =>
    let t := fixDecay m e
    Num.div (.fin false (if neg && m != 0 then t else fixOne) 0) (.fin false (fixOne + t) 0)
  | _ => .nan

/-- The argument of the sigmoid that GELU multiplies by: 2√(2/π)(a + 0.044715a³). -/
def geluArg (a : Num) : Num :=
  let cube := Num.div ((a.mul (a.mul a)).mul (.fin false 44715 0)) (.fin false 1000000 0)
  (a.add cube).mul (.fin false fixGelu (-320))

/-- The exact value of special function `func` at a finite operand in its domain. -/
def exactFn (func : Nat) (neg : Bool) (m : Nat) (e : Int) : Num :=
  let a : Num := .fin neg m e
  match func with
  | 0x20 => (Num.fin false 1 0).div a
  | 0x22 => (Num.fin false 1 0).div a.sqrt
  | 0x24 => exp2Num neg m e
  | 0x25 => lnNum m e
  | 0x26 => tanhNum neg m e
  | 0x27 => sigmoidNum a
  | 0x28 => a.mul (sigmoidNum a)
  | 0x29 => a.mul (sigmoidNum (geluArg a))
  | _ => expNum neg m e

/-- The error bound of a function in units in the last place. -/
def ulpBound (func : Nat) : Nat :=
  if func = 0x20 ∨ func = 0x22 then 1 else if 0x26 ≤ func ∧ func ≤ 0x29 then 4 else 2

/-- FP32 values in order: the `i`-th above zero, or below it. -/
def orderedCode (zeroNeg : Bool) (i : Int) : Nat :=
  if i = 0 then ofBool zeroNeg * 2 ^ 31 else ofBool (decide (i < 0)) * 2 ^ 31 + i.natAbs

/-- The finite FP32 encodings within `k` ulp of y, a nonzero finite value whose nearest encoding is `r`. -/
def withinUlp (k : Nat) (neg : Bool) (m : Nat) (e : Int) (r : Nat) : List Nat :=
  let unit : Int := max (e + (m.log2 : Nat) - 23) (-149)
  let mid : Int := if neg then -(r % 2 ^ 31 : Nat) else (r % 2 ^ 31 : Nat)
  let near (i : Int) : Bool :=
    match (ofF32 (orderedCode neg i)).sub (.fin neg m e) with
    | .fin _ d x => decide (i.natAbs ≤ 0x7F7FFFFF) && !magGt d x (k * 2 ^ 32 + 1) (unit - 32)
    | _ => false
  (((List.range (4 * k + 3)).map fun (n : Nat) => mid + (n : Int) - (2 * (k : Int) + 1)).filter near).map (orderedCode neg)

/-- What a function returns for the exact value `y` at FP32 bits `a`: one of the encodings within its bound, the same at
every time for the same bits, with the counts that compare it with `y` (R201). A value beyond every encoding within its
bound gives the largest. -/
def boundedFn (func a : Nat) (y : Num) : F32 :=
  match y with
  | .fin neg m e =>
    if m = 0 then toF32 y
    else
      let r := (toF32 y).val
      let cs := withinUlp (ulpBound func) neg m e r
      let v := cs.getD (Config.vecFn func a % cs.length) r
      ⟨v, ofBool (v % 2 ^ 31 == 0x7F7FFFFF && magGt m e fp32.maxM fp32.maxE), ofBool (v % 2 ^ 31 == 0)⟩
  | y => toF32 y

/-- Special function `func` of R202 at FP32 bits `a`. -/
def specialFn (func a : Nat) : F32 :=
  let one (neg : Bool) : F32 := toF32 (.fin neg 1 0)
  let zero (neg : Bool) : F32 := toF32 (.fin neg 0 0)
  let nan : F32 := toF32 .nan
  match ofF32 a with
  | .nan => nan
  | .inf n =>
    match func with
    | 0x20 => zero n
    | 0x21 => if n then nan else toF32 (.inf false)
    | 0x22 => if n then nan else zero false
    | 0x25 => if n then nan else toF32 (.inf false)
    | 0x26 => one n
    | 0x27 => if n then zero false else one false
    | 0x28 => if n then zero true else toF32 (.inf false)
    | 0x29 => if n then zero true else toF32 (.inf false)
    | _ => if n then zero false else toF32 (.inf false)
  | .fin n m e =>
    match func with
    | 0x20 => if m = 0 then toF32 (.inf n) else boundedFn func a (exactFn func n m e)
    | 0x21 => toF32 (Num.fin n m e).sqrt
    | 0x22 => if m = 0 then toF32 (.inf n) else if n then nan else boundedFn func a (exactFn func n m e)
    | 0x25 => if m = 0 then toF32 (.inf true) else if n then nan else boundedFn func a (exactFn func n m e)
    | 0x26 => if m = 0 then zero n else boundedFn func a (exactFn func n m e)
    | 0x28 => if m = 0 then zero n else boundedFn func a (exactFn func n m e)
    | 0x29 => if m = 0 then zero n else boundedFn func a (exactFn func n m e)
    | _ => boundedFn func a (exactFn func n m e)

end Sys2Proof.Machine
end

