-- ==== Sys2Proof/Machine/Vector.lean ====
section
/-!
DEFINITION. The vector engine's arithmetic (06_vector_engine.md): the functions of VOP (R199 to R203), masks (R204) and
the reductions of VRED (R205 to R209).
-/
namespace Sys2Proof.Machine

/-! Element-wise operations. -/

/-- The operands of a VOP at one position (R199), with b(i, 0) and b(0, j). -/
structure VecArgs where
  a : TileWord
  b : TileWord
  bRow : TileWord
  bCol : TileWord
  d : TileWord
  s : Nat
  i : Nat
  j : Nat
deriving DecidableEq, Repr

/-- The result of a VOP function that writes a tile word, with its counts and whether it is an I word (R200, R201). -/
def vopValue (f : Nat) (x : VecArgs) : F32 × Bool :=
  let a := x.a.num
  let b := x.b.num
  let s := ofF32 x.s
  let r : F32 := match f with
    | 0x00 => toF32 a
    | 0x01 => toF32 (a.add b)
    | 0x02 => toF32 (a.sub b)
    | 0x03 => toF32 (a.mul b)
    | 0x04 => toF32 (a.div b)
    | 0x05 => toF32 ((a.mul b).add x.d.num)
    | 0x06 => toF32 s
    | 0x07 => toF32 (a.add s)
    | 0x08 => toF32 (a.mul s)
    | 0x09 => toF32 ((a.mul s).add b)
    | 0x0A => toF32 (a.max b)
    | 0x0B => toF32 (a.min b)
    | 0x0C => toF32 (a.max s)
    | 0x0D => toF32 a.abs
    | 0x0E => toF32 a.neg
    | 0x10 => toF32 (a.add x.bRow.num)
    | 0x11 => toF32 (a.sub x.bRow.num)
    | 0x12 => toF32 (a.mul x.bRow.num)
    | 0x13 => toF32 (a.div x.bRow.num)
    | 0x14 => toF32 (a.add x.bCol.num)
    | 0x15 => toF32 (a.mul x.bCol.num)
    | 0x2A =>
      let t := toF32 (a.sub x.bRow.num)
      let r := specialFn 0x2A t.val
      ⟨r.val, t.sat + r.sat, t.flush + r.flush⟩
    | 0x38 => toF32 ((ofInt ((x.j : Int) - (x.i : Int))).add s)
    | 0x3C =>
      let c := convertInt 32 a
      ⟨wrapInt 32 c.val, c.sat, c.flush⟩
    | f => specialFn f (encodeFloat fp32 a)
  (r, f == 0x3C)

/-- The relation of a comparison (R203). -/
def vopCompare (f : Nat) (x : VecArgs) : Bool :=
  let a := x.a.num
  match f with
  | 0x30 => a.lt (ofF32 x.s)
  | 0x31 => a.lt (ofF32 x.s) || a.eq (ofF32 x.s)
  | 0x32 => a.eq (ofF32 x.s)
  | _ => a.lt x.b.num

/-- The valid bit of a result: the AND over the tile words read at the position (R199). -/
def vopValid (f : Nat) (x : VecArgs) : Bool :=
  if readsNoA f then true
  else
    x.a.valid
    && (if [0x01, 0x02, 0x03, 0x04, 0x05, 0x09, 0x0A, 0x0B, 0x33].contains f then x.b.valid else true)
    && (if f = 0x05 then x.d.valid else true)
    && (if [0x10, 0x11, 0x12, 0x13, 0x2A].contains f then x.bRow.valid else true)
    && (if f = 0x14 ∨ f = 0x15 then x.bCol.valid else true)

/-- The FUNC codes of VOP (R200). -/
def vopListed (f : Nat) : Bool :=
  decide (f ≤ 0x0E) || (decide (0x10 ≤ f) && decide (f ≤ 0x15)) || (decide (0x20 ≤ f) && decide (f ≤ 0x2A))
  || (decide (0x30 ≤ f) && decide (f ≤ 0x33)) || f == 0x38 || f == 0x3C

/-- Cycles of a VOP (R200). -/
def vopCycles (f : Nat) : Nat :=
  if [0x04, 0x05, 0x09, 0x13].contains f || (decide (0x20 ≤ f) && decide (f ≤ 0x2A)) then 64 else 32

/-- Position (i, j) is active under MASK (R204). `valid` is the valid bit of `a`, `plane` gives the mask planes. -/
def maskActive (mask : Nat) (valid : Bool) (plane : Nat → Bool) (i j : Nat) : Bool :=
  match mask with
  | 0x0 => true
  | 0x1 => valid
  | 0x2 => decide (j ≤ i)
  | 0x3 => valid && decide (j ≤ i)
  | m =>
    if m < 8 then plane (m % 4) else if m < 12 then valid && plane (m % 4) else valid && !plane (m % 4)

/-- Bit `k` of a mask plane. -/
def Pond.plane (p : Pond) (m k : Nat) : Bool := tblGet false p.planes (m * 4096 + k)

/-! Reductions. -/

/-- A node of the reduction tree (R207): its FP32 bits, and its index for the arg functions. -/
structure RedNode where
  active : Bool := false
  code : Nat := 0
  idx : Nat := 0
deriving DecidableEq, Repr

/-- A node with the counts of the joins below it. -/
structure RedSum where
  node : RedNode
  sat : Nat := 0
  flush : Nat := 0
deriving DecidableEq, Repr

/-- The join of two active nodes that hold no NaN. ARGMAX and ARGMIN take −0 and +0 as equal, and so as a tie that the left
index wins (DESIGN CHOICE: R104 orders the zeros for max and min only; notes/assumptions). -/
def redOp (f : Nat) (x y : RedNode) : RedSum :=
  let a := ofF32 x.code
  let b := ofF32 y.code
  let num (r : F32) : RedSum := { node := { active := true, code := r.val }, sat := r.sat, flush := r.flush }
  match f with
  | 0x81 => num (toF32 (a.mul b))
  | 0x82 => num (toF32 (a.max b))
  | 0x83 => num (toF32 (a.min b))
  | 0x84 => { node := if a.below b && !(a.isZero && b.isZero) then y else x }
  | 0x85 => { node := if b.below a && !(a.isZero && b.isZero) then y else x }
  | 0x87 => num (toF32 (a.max b))
  | _ => num (toF32 (a.add b))

/-- A join of the tree (R207). -/
def redJoin (f : Nat) (x y : RedSum) : RedSum :=
  let s : RedSum :=
    if !x.node.active then { node := y.node }
    else if !y.node.active then { node := x.node }
    else if (ofF32 x.node.code).isNan then { node := x.node }
    else if (ofF32 y.node.code).isNan then { node := y.node }
    else redOp f x.node y.node
  { s with sat := s.sat + x.sat + y.sat, flush := s.flush + x.flush + y.flush }

/-- One level of the tree: neighbours are joined. -/
def redLevel (f : Nat) : List RedSum → List RedSum
  | x :: y :: r => redJoin f x y :: redLevel f r
  | l => l

/-- The tree over 64 leaves. -/
def redTree (f : Nat) (leaves : List RedSum) : RedSum :=
  ((List.range 6).foldl (fun l _ => redLevel f l) leaves).headD { node := {} }

/-- The leaf of one position (R206). -/
def redLeaf (f : Nat) (w : TileWord) (active : Bool) (idx : Nat) : RedSum :=
  if !active then { node := {} }
  else
    let a := w.num
    let r : F32 := match f with
      | 0x86 => toF32 (a.mul a)
      | 0x87 => toF32 a.abs
      | _ => toF32 a
    { node := { active := true, code := r.val, idx := idx }, sat := r.sat, flush := r.flush }

/-- The FUNC codes of VRED (R206). -/
def vredListed (f : Nat) : Bool := decide (0x80 ≤ f) && decide (f ≤ 0x87)

/-- ARGMAX and ARGMIN. -/
def isArg (f : Nat) : Bool := f == 0x84 || f == 0x85

/-- The identity of a reduction (R103, R206). -/
def redIdentity (f : Nat) : Num :=
  match f with
  | 0x81 => .fin false 1 0
  | 0x82 => .inf true
  | 0x83 => .inf false
  | _ => .fin false 0 0

/-- The word that a result writes, with its counts (R208, R209). -/
def redWord (f : Nat) (fmt : Fmt) (r : RedSum) : TileWord × Nat × Nat :=
  if isArg f then
    ({ code := BitVec.ofNat 32 (if r.node.active then r.node.idx else 0xFFFFFFFF), valid := true, isInt := true },
     r.sat, r.flush)
  else
    let x := if r.node.active then ofF32 r.node.code else redIdentity f
    let c := convertElem fmt false false x
    let w : TileWord :=
      if fmtIsInt fmt then { code := BitVec.ofNat 32 c.val, valid := true, isInt := true }
      else { code := BitVec.ofNat 32 (encodeFloat fp32 (elemValue fmt c.val 127)), valid := true }
    if r.node.active then (w, r.sat + c.sat, r.flush + c.flush) else (w, 0, 0)

/-- The results of a reduction with the positions of TD that take them (R205). -/
def redResults (f axis : Nat) (a : Tile) (active : Nat → Bool) : List (Nat × RedSum) :=
  let leaf (i j idx : Nat) : RedSum := redLeaf f (a.at (i * 64 + j)) (active (i * 64 + j)) idx
  let rowRed (i : Nat) (idx : Nat → Nat) : RedSum := redTree f ((List.range 64).map fun j => leaf i j (idx j))
  match axis with
  | 0 => (List.range 64).map fun i => (i * 64, rowRed i id)
  | 1 => (List.range 64).map fun j => (j, redTree f ((List.range 64).map fun i => leaf i j i))
  | _ => [(0, redTree f ((List.range 64).map fun i => rowRed i fun j => i * 64 + j))]

/-! The operations on a pond. -/

/-- The tile that a VOP or VRED names as `a`. -/
def Pond.vecSource (p : Pond) (o : PondOp) : Tile :=
  match o.ticket with
  | some t => p.tileOf t
  | none => p.tb (o.insn.field 39 3)

/-- Some source region of a vector operation holds a poisoned granule (R198). -/
def Pond.vecPoisoned (p : Pond) (o : PondOp) : Bool :=
  (match o.ticket with | some t => (p.tileOf t).poisoned | none => false)
  || o.tbReads.any fun b => (p.tb b).poisoned

/-- What a vector operation does to the pond, with what it reports. POISON is set whenever a source region is poisoned, also
for a comparison and where no position is active (R198). -/
def Pond.runVop (p : Pond) (o : PondOp) : Pond × OpDone :=
  let f := o.insn.field 48 8
  let a := p.vecSource o
  let b := p.tb (o.insn.field 36 3)
  let td := o.insn.field 45 3
  let d := p.tb td
  let poison := p.vecPoisoned o
  let args (k : Nat) : VecArgs :=
    { a := a.at k, b := b.at k, bRow := b.at (k / 64 * 64), bCol := b.at (k % 64), d := d.at k, s := o.x.toNat % 2 ^ 32,
      i := k / 64, j := k % 64 }
  let mask := o.insn.field 27 4
  let on (k : Nat) : Bool := maskActive mask (readsNoA f || (a.at k).valid) (fun m => p.plane m k) (k / 64) (k % 64)
  let act := (List.range 4096).filter on
  let done : OpDone := { opcode := 0x50, pc := o.pc, record := o.insn.flag 26, poison := poison }
  if isCompare f then
    ({ p with planes := act.foldl (fun t k => tblSet false t (td % 4 * 4096 + k) (vopCompare f (args k))) p.planes },
     done)
  else
    let res := act.map fun k => (k, vopValue f (args k), vopValid f (args k))
    let words := res.map fun r =>
      (r.1, ({ code := BitVec.ofNat 32 r.2.1.1.val, valid := r.2.2, isInt := r.2.1.2 } : TileWord))
    ({ p with tbs := tblSet {} p.tbs td (d.write words poison) },
     { done with
       sat := (res.map fun r => r.2.1.1.sat).sum, flush := (res.map fun r => r.2.1.1.flush).sum })

/-- What a reduction does to the pond, with what it reports. -/
def Pond.runVred (p : Pond) (o : PondOp) : Pond × OpDone :=
  let f := o.insn.field 48 8
  let a := p.vecSource o
  let td := o.insn.field 45 3
  let poison := p.vecPoisoned o
  let mask := o.insn.field 27 4
  let on (k : Nat) : Bool := maskActive mask (a.at k).valid (fun m => p.plane m k) (k / 64) (k % 64)
  let fmt := (fmtOfCode (o.insn.field 33 4)).getD .fp32
  let rs := redResults f (o.insn.field 37 2) a on
  let ws := rs.map fun r => (r.1, redWord f fmt r.2)
  ({ p with tbs := tblSet {} p.tbs td ((p.tb td).write (ws.map fun w => (w.1, w.2.1)) poison) },
   { opcode := 0x51, pc := o.pc, record := o.insn.flag 26
     sat := (ws.map fun w => w.2.2.1).sum, flush := (ws.map fun w => w.2.2.2).sum
     empty := rs.any fun r => !r.2.node.active
     poison := poison })

/-- Cycles of a reduction (R207). -/
def vredCycles (o : PondOp) : Nat := if o.insn.field 37 2 = 2 then 48 else 42

end Sys2Proof.Machine
end

