-- ==== Sys2Proof/Machine/Update.lean ====
section
/-!
DEFINITION. The update engine (13_update_engine.md): the factored rule of R382 in FP32, layers and their queue, the row
commit, and the step fence.
-/
namespace Sys2Proof.Machine

/-! Arithmetic of R382. A value is a FP32 code; `Ct` counts saturations and flushes on the way. -/

/-- A computation that counts saturations and flushes. -/
abbrev Ct (α : Type) := StateM (Nat × Nat) α

/-- `f` of R382: one rounding to FP32. -/
def fRound (x : Num) : Ct Nat := do
  let r := toF32 x
  modify fun c => (c.1 + r.sat, c.2 + r.flush)
  pure r.val

def fAdd (a b : Nat) : Ct Nat := fRound ((ofF32 a).add (ofF32 b))
def fSub (a b : Nat) : Ct Nat := fRound ((ofF32 a).sub (ofF32 b))
def fMul (a b : Nat) : Ct Nat := fRound ((ofF32 a).mul (ofF32 b))
def fDiv (a b : Nat) : Ct Nat := fRound ((ofF32 a).div (ofF32 b))
def fSqrt (a : Nat) : Ct Nat := fRound (ofF32 a).sqrt

/-- 1.0 and +0 in FP32. -/
def one32 : Nat := 0x3F800000

/-- An integer rounded to FP32 as an operand of a product or quotient: the product itself is rounded once. -/
def natNum (n : Nat) : Num := .fin false n 0

/-- `pow32` over the bits of `k`, from bit `n - 1` down. -/
def powBits (b k : Nat) : (n : Nat) → (p : Nat) → Ct Nat
  | 0, p => pure p
  | n + 1, p => do
    let p ← fMul p p
    let p ← if bit k n then fMul p b else pure p
    powBits b k n p

/-- `pow32` of R382. -/
def pow32 (b k : Nat) : Ct Nat := powBits b k (if k = 0 then 0 else k.log2 + 1) one32

/-- Sums a list in order from a start value. -/
def sumFrom : (acc : Nat) → List Nat → Ct Nat
  | a, [] => pure a
  | a, x :: r => do
    let a ← fAdd a x
    sumFrom a r

/-- One level of the fixed tree. -/
def sumLevel : List Nat → Ct (List Nat)
  | x :: y :: r => do
    let a ← fAdd x y
    let t ← sumLevel r
    pure (a :: t)
  | l => pure l

/-- The tree over 64 values. -/
def sumTree : (levels : Nat) → List Nat → Ct Nat
  | 0, l => pure (l.headD 0)
  | n + 1, l => do
    let l ← sumLevel l
    sumTree n l

/-- `fsum` of R382. -/
def fsum (v : List Nat) : Ct Nat := do
  let z := v.zipIdx
  let parts ← (List.range 64).mapM fun r => sumFrom 0 ((z.filter fun e => e.2 % 64 == r).map (·.1))
  sumTree 6 parts

/-! The descriptor (R386). -/

def Layer.w (y : Layer) (i : Nat) : Word := y.words.getD i 0
def Layer.asid (y : Layer) : Nat := (y.w 0).field 0 16
def Layer.job (y : Layer) : Nat := (y.w 0).field 16 16
def Layer.gBf16 (y : Layer) : Bool := (y.w 0).flag 34
def Layer.momEn (y : Layer) : Bool := (y.w 0).flag 35
def Layer.emb (y : Layer) : Bool := (y.w 0).flag 36
def Layer.rows (y : Layer) : Nat := (y.w 1).field 0 16
def Layer.cols (y : Layer) : Nat := (y.w 1).field 16 16
def Layer.mRows (y : Layer) : Nat := (y.w 1).field 32 32
/-- The virtual address in word `i`. -/
def Layer.va (y : Layer) (i : Nat) : Nat := (y.w i).field 0 57
def Layer.beta2 (y : Layer) : Nat := (y.w 13).field 0 32
def Layer.beta1 (y : Layer) : Nat := (y.w 13).field 32 32
def Layer.eps1 (y : Layer) : Nat := (y.w 14).field 0 32
def Layer.clipD (y : Layer) : Nat := (y.w 14).field 32 32
def Layer.lambda (y : Layer) : Nat := (y.w 15).field 0 32
def Layer.lrMult (y : Layer) : Nat := (y.w 15).field 32 32
def Layer.nTouch (y : Layer) : Nat := (y.w 16).field 16 16
def Layer.start (y : Layer) : Nat := (y.w 17).field 32 16
/-- Rows, or touch-list positions, of the layer. -/
def Layer.count (y : Layer) : Nat := if y.emb then y.nTouch else y.rows
def Layer.gWidth (y : Layer) : Nat := if y.gBf16 then 2 else 4

/-- Some reserved field of the descriptor is set (R386, R557). -/
def Layer.reserved (y : Layer) : Bool :=
  (y.w 0).field 37 27 != 0 || [2, 3, 4, 5, 6, 7, 8, 9, 10, 11, 12, 18].any (fun i => (y.w i).field 57 7 != 0)
  || (y.w 17).field 48 16 != 0

/-- Virtual ranges of the tensors: those that the engine writes, and those that it only reads. -/
def Layer.writes (y : Layer) : List (Nat × Nat) :=
  let n := y.rows * y.cols
  [(y.va 3, 2 * n), (y.va 4, 2 * n), (y.va 6, 4 * y.rows), (y.va 7, 4 * y.cols), (y.va 10, 8)]
    ++ (if y.momEn then [(y.va 5, 2 * n)] else []) ++ (if y.emb then [(y.va 12, 4 * y.rows)] else [])
def Layer.reads (y : Layer) : List (Nat × Nat) :=
  [(y.va 2, y.gWidth * y.rows * y.cols), (y.va 8, 4 * y.rows), (y.va 9, 4 * y.cols)]
    ++ (if y.emb then [(y.va 11, 2 * y.nTouch)] else [])

/-- Two layers name overlapping tensors (R388), as far as their virtual addresses in one space show. -/
def layersMeet (y z : Layer) : Bool :=
  y.asid == z.asid &&
    (y.writes ++ y.reads).any fun a => (z.writes ++ z.reads).any fun b => spansMeet a.1 a.2 b.1 b.2

/-- A tensor is misaligned to its element size (R386). -/
def Layer.misaligned (y : Layer) : Bool :=
  y.va 2 % y.gWidth != 0 || y.va 3 % 2 != 0 || y.va 4 % 2 != 0 || (y.momEn && y.va 5 % 2 != 0)
  || [6, 7, 8, 9].any (fun i => y.va i % 4 != 0) || (y.emb && y.va 12 % 4 != 0)

/-- A FP32 code in the range 0 to 1, excluding 1. -/
def inUnit (c : Nat) : Bool := c < one32 || c == 0x80000000
/-- A FP32 code with a finite value. -/
def isFin32 (c : Nat) : Bool := bits c 23 8 != 0xFF

/-- A parameter outside the range of R381, `eta` the latched step size. -/
def Layer.badParam (y : Layer) (eta : Nat) : Bool :=
  !inUnit y.beta2 || (y.momEn && !inUnit y.beta1)
  || !(decide (y.eps1 < 0x7F800000) && decide (0x00800000 ≤ y.eps1))
  || !(decide (y.clipD < 0x7F800000)) || !(decide (y.lambda < 0x7F800000) || y.lambda == 0x80000000)
  || !isFin32 y.lrMult || !isFin32 eta

/-! Memory of a layer. -/

/-- What a read or check of a tensor answers. -/
inductive URead where
  | ok (bytes : List Byte) (poison : Bool)
  | bad (status va : Nat)
deriving DecidableEq, Repr

/-- The identity of the engine of basin `b` for a layer. -/
def State.updWho (s : State) (b : Nat) (y : Layer) : Who :=
  { l := s.leaderOf b, b := b, agent := 2, unit := 0, asid := y.asid }

/-- Reads tensor bytes; a host-aperture leaf is NO_TARGET (R380). `wr` checks that they may be written too. -/
def State.updRead (s : State) (b : Nat) (y : Layer) (va n : Nat) (wr : Bool := false) : URead × State :=
  (pagePieces va n).foldl (fun (r, s) p =>
    match r with
    | .bad st va => (.bad st va, s)
    | .ok bs poison =>
      match s.xlateFor (s.updWho b y) p.1 true wr with
      | (.fault _, s) => (.bad 0x20 p.1, s)
      | (.ok pa, s) =>
        if isHostPa pa then (.bad 0x21 p.1, s)
        else
          let (q, s) := s.load (s.leaderOf b) pa p.2
          if q.noTarget then (.bad 0x21 p.1, s) else (.ok (bs ++ q.data) (poison || q.poison), s)) (.ok [] false, s)

/-- Reads several ranges; the answers are in order. -/
def State.updReads (s : State) (b : Nat) (y : Layer) : List (Nat × Nat × Bool) →
    Except (Nat × Nat) (List (List Byte × Bool × Nat)) × State
  | [] => (.ok [], s)
  | (va, n, wr) :: r =>
    match s.updRead b y va n wr with
    | (.bad st a, s) => (.error (st, a), s)
    | (.ok bs p, s) =>
      match State.updReads s b y r with
      | (.ok t, s) => (.ok ((bs, p, va) :: t), s)
      | (.error e, s) => (.error e, s)

/-- Writes tensor bytes that a check has found writable. Answers a fault where one arises all the same. -/
def State.updWrite (s : State) (b : Nat) (y : Layer) (va : Nat) (bs : List Byte) : Option (Nat × Nat) × State :=
  match s.updRead b y va bs.length true with
  | (.bad st a, s) => (some (st, a), s)
  | (.ok _ _, s) =>
    match s.vstore (s.updWho b y) va bs false with
    | (.ok r, s) => (if r.noTarget then some (0x21, va) else none, s)
    | (_, s) => (some (0x20, va), s)

/-- The FP32 codes of bytes. -/
def codes32 (bs : List Byte) : List Nat := (List.range (bs.length / 4)).map fun i => leNat ((bs.drop (4 * i)).take 4)
/-- The 16-bit codes of bytes. -/
def codes16 (bs : List Byte) : List Nat := (List.range (bs.length / 2)).map fun i => leNat ((bs.drop (2 * i)).take 2)

/-! The queue and the end of a layer. -/

/-- The running layer of engine `b`. -/
def State.runningLayer (s : State) (b : Nat) : Option Layer := (s.layerQ b).find? (·.running)

/-- Replaces the running layer. -/
def State.setRunning (s : State) (b : Nat) (y : Layer) : State :=
  s.setLayerQ b ((s.layerQ b).map fun x => if x.running then y else x)

/-- The words of the completion record (R399). -/
def State.layerRecord (s : State) (b : Nat) (y : Layer) (status cursor va : Nat) : List Word :=
  [BitVec.ofNat 64 (status + ofBool (status == 0x30) * 2 ^ 8 + ofBool y.anyNan * 2 ^ 9 + min y.sat 0xFFFF * 2 ^ 16
     + min y.flush 0xFFFF * 2 ^ 32 + y.job * 2 ^ 48),
   BitVec.ofNat 64 (cursor + b * 2 ^ 16 + y.t * 2 ^ 32), signVa va, BitVec.ofNat 64 s.time]

/-- A layer ends (R391, R397, R401): totals, record, DONE, UPD_STATUS.LAST_STATUS, UPD_FAULT_VA and the interrupt. -/
def State.layerEnd (s : State) (b : Nat) (y : Layer) (status cursor : Nat) (va : Nat := 0) : State :=
  let l := s.leaderOf b
  let s := s.addTotals l y.sat y.flush
  let s := match y.recDpa with
    | some a => (s.store l a (wordBytes (s.layerRecord b y status cursor va))).2
    | none => s
  let s := s.when (status == 0 && (y.w 17).flag 15) fun s => s.counterAdd l ((y.w 17).field 0 15) ((y.w 17).field 16 16)
  let s := s.setFld (updKey b 0x18) 8 8 status
  s.when (status != 0) fun s => (s.setReg (updKey b 0x30) (signVa va)).raise l 0x103

/-- The running layer of engine `b` ends at its cursor. -/
def State.runningEnd (s : State) (b : Nat) (y : Layer) (status : Nat) (va : Nat := 0) : State :=
  (s.setLayerQ b ((s.layerQ b).filter fun x => !x.running)).layerEnd b y status y.row va

/-- A poisoned input stops the running layer: its job ends (R398, R454). -/
def State.layerSink (s : State) (b : Nat) (y : Layer) (va : Nat) : State :=
  (s.endJob (s.leaderOf b) y.job 2 2 b 0 va).runningEnd b y 0x30

/-- Translates REC_VA: the address, and whether it faults (R397). -/
def State.layerRec (s : State) (b : Nat) (y : Layer) : Option Nat × Bool × State :=
  if y.va 18 = 0 then (none, false, s)
  else
    match s.xlateFor (s.updWho b y) (y.va 18) false true with
    | (.ok pa, s) => (some pa, false, s)
    | (.fault _, s) => (none, true, s)

/-- A layer ends before it starts, with LAUNCH_DROPPED (R397, R400). -/
def State.dropLayer (s : State) (b : Nat) (y : Layer) : State :=
  let (rec, _, s) := s.layerRec b y
  s.layerEnd b { y with recDpa := rec } 0x32 y.start

/-- Every queued layer that has not started ends with LAUNCH_DROPPED (R400, R401). -/
def State.flushLayers (s : State) (b : Nat) : State :=
  let q := s.layerQ b
  (q.filter fun y => !y.running).foldl (fun s y => s.dropLayer b y) (s.setLayerQ b (q.filter (·.running)))

/-- A write of UPD_SUBMIT (R387, R400, R580). -/
def State.writeUpdSubmit (s : State) (b : Nat) (v : Word) : State :=
  let s := s.undefIf (v.field 52 12 != 0) .reservedWrite
  let l := s.leaderOf b
  if s.lineStOf b = .stopping ∨ 16 ≤ (s.layerQ b).length then s.setFlag (updKey b 0x18) 7 true
  else
    let (ws, r, s) := s.loadWords l (v.field 3 49 * 8) 19
    if r.noTarget then s.setFld (updKey b 0x18) 8 8 0x21
    else if r.poison then s.setFld (updKey b 0x18) 8 8 0x30
    else
      let (ws, s) := s.lowBitsOf ws [(10, 0, 57, 8), (11, 0, 57, 2), (18, 0, 57, 32)]
      let y : Layer := { words := ws }
      let s := (s.undefIf y.reserved .reservedDescField).undefIf ((y.w 0).field 32 2 == 3) .layerClass
      let s := s.undefIf ((s.members l).any fun c => (s.layerQ c).any fun z => layersMeet y z) .layerOverlap
      s.setLayerQ b (s.layerQ b ++ [y])

/-! Start (R382, R388, R389). -/

/-- `layer_start` of R382. -/
def layerStart (y : Layer) (eta hdrT : Nat) (c colsq : List Nat) : Ct (List Nat × Nat × Nat × Nat) := do
  let t := min (hdrT + 1) 0xFFFFFFFF
  let ob2 ← fSub one32 y.beta2
  let ec ← fRound ((ofF32 y.eps1).mul (natNum y.mRows))
  let cn ← (List.zip c colsq).mapM fun e => do
    let a ← fMul y.beta2 e.1
    let q ← fAdd e.2 ec
    let b ← fMul ob2 q
    fAdd a b
  let sum ← fsum cn
  let p ← pow32 y.beta2 t
  let bc ← fSub one32 p
  let d ← fMul sum bc
  let etaL ← fMul eta y.lrMult
  let el ← fMul etaL y.lambda
  let keep ← fSub one32 el
  pure (cn, d, etaL, keep)

/-- SHAPE of R388. -/
def Layer.badShape (y : Layer) : Bool :=
  decide (y.rows = 0 ∨ y.cols = 0 ∨ y.mRows = 0 ∨ y.mRows < y.rows)
  || (y.emb && decide (y.nTouch = 0 ∨ y.rows < y.nTouch)) || decide (y.count < y.start)

/-- The layer that starts, once its record address and the checks of R388 are settled: the per-layer reads. -/
def State.openLayer (s : State) (b : Nat) (y : Layer) : State :=
  let eta := s.fld (updKey (s.leaderOf b) 0) 32 32
  let s := (s.undefIf (y.badParam eta) .layerRange).undefIf y.misaligned .layerClass
  match s.updReads b y [(y.va 10, 8, false), (y.va 7, 4 * y.cols, false), (y.va 9, 4 * y.cols, false)] with
  | (.error (st, va), s) => s.runningEnd b y st va
  | (.ok rs, s) =>
    match rs.find? (·.2.1) with
    | some r => s.layerSink b y r.2.2
    | none =>
      match rs with
      | [h, c, q] =>
        let t := leNat (h.1.take 4)
        let (r, n) := (layerStart y eta t (codes32 c.1) (codes32 q.1)).run (0, 0)
        s.setRunning b { y with
          eta := eta, t := min (t + 1) 0xFFFFFFFF, cn := r.1, d := r.2.1, etaL := r.2.2.1, keep := r.2.2.2
          sat := n.1, flush := n.2 }
      | _ => s

/-- A queued layer is ready (R389). -/
def State.layerReady (s : State) (l : Nat) (y : Layer) : Bool :=
  !y.running && (!(y.w 16).flag 15 || s.counterReached l ((y.w 16).field 0 15) ((y.w 16).field 32 32))

/-- LAYER_START of engine `b`. -/
def State.startLayer (s : State) (b : Nat) : State :=
  let l := s.leaderOf b
  if s.lineStOf b = .running ∧ (s.line l).stepFence = .open_ ∧ (s.runningLayer b).isNone = true
      ∧ s.flag (updKey b 0x20) 1 = false then
    match (s.layerQ b).find? (s.layerReady l) with
    | none => s
    | some y =>
      let q := s.layerQ b
      let i := q.findIdx (s.layerReady l)
      let y1 := { y with running := true, row := y.start }
      let s := s.setLayerQ b (q.take i ++ y1 :: q.drop (i + 1))
      let (rec, bad, s) := s.layerRec b y
      let y2 := { y1 with recDpa := rec }
      let s := s.setRunning b y2
      if bad then
        let s := s.setLayerQ b ((s.layerQ b).filter fun x => !x.running)
        s.layerEnd b y2 0x20 y.start (y.va 18)
      else if s.jobEnded l y.job then s.runningEnd b y2 0x30
      else if y.badShape then s.runningEnd b y2 0x16
      else s.openLayer b y2
  else s

/-! Rows (R382, R391, R396). -/

/-- The values of a row as read. -/
structure RowIn where
  g : List Nat
  hi : List Nat
  lo : List Nat
  mom : List Nat
  r : Nat
  rowsq : Nat
deriving DecidableEq, Repr

/-- The values of a row as written. -/
structure RowOut where
  r : Nat
  hi : List Nat
  lo : List Nat
  mom : List Nat
deriving DecidableEq, Repr

/-- The weight and momentum of one element: `u` its update element, `m` the momentum's BF16 code. -/
def updElem (y : Layer) (c kw kb u hi lo m : Nat) : Ct (Nat × Nat) := do
  let uc ← fDiv u c
  let (step, m) ← if y.momEn then do
      let a ← fMul (m * 65536) kb
      let a ← fMul y.beta1 a
      let ob1 ← fSub one32 y.beta1
      let b ← fMul ob1 uc
      let t ← fAdd a b
      let q := convert bf16 false false (ofF32 t)
      modify fun n => (n.1 + q.sat, n.2 + q.flush)
      let code := encodeFloat bf16 q.val
      pure (code * 65536, code)
    else pure (uc, m)
  let w ← fMul (hi * 65536 + lo) kw
  let w ← fMul w y.keep
  let d ← fMul y.etaL step
  let w ← fSub w d
  pure (w, m)

/-- `update_row` of R382 with `k` skipped steps. -/
def updateRow (y : Layer) (k : Nat) (x : RowIn) : Ct RowOut := do
  let p2 ← pow32 y.beta2 k
  let ri ← fMul x.r p2
  let a ← fMul y.beta2 ri
  let ob2 ← fSub one32 y.beta2
  let e ← fRound ((ofF32 y.eps1).mul (natNum y.cols))
  let q ← fAdd x.rowsq e
  let b ← fMul ob2 q
  let ri ← fAdd a b
  let u ← (List.zip x.g y.cn).mapM fun gc =>
    if (ofF32 gc.1).isZero then pure 0
    else do
      let v ← fMul ri gc.2
      let v ← fDiv v y.d
      let v ← fSqrt v
      fDiv gc.1 v
  let sq ← u.mapM fun v => fMul v v
  let tot ← fsum sq
  let ms ← fRound ((ofF32 tot).div (natNum y.cols))
  let rms ← fSqrt ms
  let c ← if y.clipD = 0 then pure one32
    else do
      let v ← fDiv rms y.clipD
      pure (encodeFloat fp32 ((ofF32 one32).max (ofF32 v)))
  let kw ← pow32 y.keep k
  let kb ← pow32 y.beta1 k
  let ws ← ((List.range y.cols).mapM fun j =>
    updElem y c kw kb (u.getD j 0) (x.hi.getD j 0) (x.lo.getD j 0) (x.mom.getD j 0))
  pure { r := ri, hi := ws.map (·.1 / 65536), lo := ws.map (·.1 % 65536), mom := ws.map (·.2) }

/-- Some value written is a NaN. -/
def RowOut.anyNan (o : RowOut) (mom : Bool) : Bool :=
  (ofF32 o.r).isNan || (List.zip o.hi o.lo).any (fun h => (ofF32 (h.1 * 65536 + h.2)).isNan)
  || (mom && o.mom.any fun m => (decodeFloat bf16 m).isNan)

/-- Writes several ranges in order, stopping at a fault. -/
def State.updWrites (s : State) (b : Nat) (y : Layer) : List (Nat × List Byte) → Option (Nat × Nat) × State
  | [] => (none, s)
  | (va, bs) :: r =>
    match s.updWrite b y va bs with
    | (some e, s) => (some e, s)
    | (none, s) => State.updWrites s b y r

/-- Row `i` of the layer is read, computed and written, at position `y.row`; `n` is its row step (R391, R396). -/
def State.commitRow (s : State) (b : Nat) (y : Layer) (i n : Nat) : State :=
  let c := y.cols
  let at2 (w : Nat) : Nat := y.va w + 2 * i * c
  let reads := [(y.va 2 + y.gWidth * i * c, y.gWidth * c, false), (at2 3, 2 * c, true), (at2 4, 2 * c, true),
    (y.va 6 + 4 * i, 4, true), (y.va 8 + 4 * i, 4, false)] ++ (if y.momEn then [(at2 5, 2 * c, true)] else [])
    ++ (if y.emb then [(y.va 12 + 4 * i, 4, true)] else [])
  match s.updReads b y reads with
  | (.error (st, va), s) => s.runningEnd b y st va
  | (.ok rs, s) =>
    match rs.find? (·.2.1) with
    | some r => s.layerSink b y r.2.2
    | none =>
      let part (k : Nat) : List Byte := (rs.getD k ([], false, 0)).1
      let g := if y.gBf16 then (codes16 (part 0)).map (· * 65536) else codes32 (part 0)
      let x : RowIn :=
        { g := g, hi := codes16 (part 1), lo := codes16 (part 2), r := leNat (part 3), rowsq := leNat (part 4)
          mom := if y.momEn then codes16 (part 5) else [] }
      let k := if y.emb then (if y.t ≤ n then 0 else y.t - n - 1) else 0
      let (o, cnt) := (updateRow y k x).run (0, 0)
      let h16 (l : List Nat) : List Byte := l.flatMap fun v => leBytes 2 v
      let writes := [(y.va 6 + 4 * i, leBytes 4 o.r), (at2 3, h16 o.hi), (at2 4, h16 o.lo)]
        ++ (if y.momEn then [(at2 5, h16 o.mom)] else []) ++ (if y.emb then [(y.va 12 + 4 * i, leBytes 4 y.t)] else [])
      match s.updWrites b y writes with
      | (some (st, va), s) => s.runningEnd b y st va
      | (none, s) =>
        (s.setRunning b { y with
          row := y.row + 1, sat := y.sat + cnt.1, flush := y.flush + cnt.2, anyNan := y.anyNan || o.anyNan y.momEn }).count
          (updKey b 0x28) c

/-- ROW_COMMIT of engine `b`. -/
def State.rowCommit (s : State) (b : Nat) : State :=
  match s.runningLayer b with
  | none => s
  | some y =>
    if (s.lineStOf b).works ∧ y.row < y.count then
      if s.jobEnded (s.leaderOf b) y.job then s.runningEnd b y 0x30
      else if y.emb then
        match s.updRead b y (y.va 11 + 2 * y.row) 2 with
        | (.bad st va, s) => s.runningEnd b y st va
        | (.ok bs p, s) =>
          if p then s.layerSink b y (y.va 11 + 2 * y.row)
          else
            let i := leNat bs
            let (before, s) := if y.row = 0 then (.ok [] false, s) else s.updRead b y (y.va 11 + 2 * (y.row - 1)) 2
            let falls : Bool := match before with
              | .ok (p :: q) _ => decide (i ≤ leNat (p :: q))
              | _ => false
            let s := s.undefIf (falls || decide (y.rows ≤ i)) .touchList
            match s.updRead b y (y.va 12 + 4 * i) 4 true with
            | (.bad st va, s) => s.runningEnd b y st va
            | (.ok bs p, s) => if p then s.layerSink b y (y.va 12 + 4 * i) else s.commitRow b y i (leNat bs)
      else s.commitRow b y y.row 0
    else s

/-- The first fault that writes of these ranges would meet (R397). -/
def State.updChecks (s : State) (b : Nat) (y : Layer) : List (Nat × Nat) → Option (Nat × Nat) × State
  | [] => (none, s)
  | (va, n) :: r =>
    match s.updRead b y va n true with
    | (.bad st a, s) => (some (st, a), s)
    | (.ok _ _, s) => State.updChecks s b y r

/-- LAYER_COMPLETE of engine `b`: C, the header, the record and the DONE add (R391). A fault on either leaves both as they
were (R397). -/
def State.layerComplete (s : State) (b : Nat) : State :=
  match s.runningLayer b with
  | none => s
  | some y =>
    if (s.lineStOf b).works ∧ y.count ≤ y.row then
      let c := y.cn.flatMap fun v => leBytes 4 v
      match s.updChecks b y [(y.va 7, 4 * y.cols), (y.va 10, 4)] with
      | (some (st, va), s) => s.runningEnd b y st va
      | (none, s) =>
        match s.updWrites b y [(y.va 7, c), (y.va 10, leBytes 4 y.t)] with
        | (some (st, va), s) => s.runningEnd b y st va
        | (none, s) => s.runningEnd b { y with anyNan := y.anyNan || y.cn.any fun v => (ofF32 v).isNan } 0
    else s

/-! UPD_CTL and UPD_FENCE. -/

/-- A write of UPD_CTL (R401). The state between commands is a row boundary, so ABORT acts at once. -/
def State.writeUpdCtl (s : State) (b : Nat) (v : Word) : State :=
  let s := s.undefIf (v.field 3 61 != 0) .reservedWrite
  let s := if v.flag 0 then
      match s.runningLayer b with
      | some y => if (s.lineStOf b).works then s.runningEnd b y 0x31 else s
      | none => s
    else s
  (s.when (v.flag 2) (·.flushLayers b)).setFlag (updKey b 0x20) 1 (v.flag 1)

/-- A write of UPD_FENCE at the leader (R393, R401). -/
def State.writeUpdFence (s : State) (l : Nat) (v : Word) : State :=
  let s := s.undefIf (v.field 21 11 != 0) .reservedWrite
  let k := updKey l 0x8
  let s := s.when (v.flag 4) (·.setFlag k 4 false)
  let s := (s.setFlag k 5 (v.flag 5)).setFld k 6 15 (v.field 6 15)
  if v.flag 1 then
    if (s.line l).stepFence = .open_ then s.modLine l fun ln => { ln with stepFence := .closing } else s
  else if v.flag 0 then
    if (s.line l).stepFence = .closed then
      let s := s.setFld (updKey l 0) 32 32 (s.fld (updKey l 0) 0 32)
      let s := s.setFld k 32 32 (s.fld k 32 32 + 1)
      s.modLine l fun ln => { ln with stepFence := .open_ }
    else s.setFlag k 4 true
  else s

/-- FENCE_CLOSED: no engine of the Line runs a layer (R393). -/
def State.fenceClosed (s : State) (l : Nat) : State :=
  if (s.line l).stepFence = .closing ∧ (s.line l).st ≠ .failed
      ∧ (s.members l).all (fun b => (s.runningLayer b).isNone) = true then
    let s := s.modLine l fun ln => { ln with stepFence := .closed }
    let s := s.when (s.flag (updKey l 0x8) 5) fun s => s.counterAdd l (s.fld (updKey l 0x8) 6 15) 1
    s.raise l 0x108
  else s

/-- UPD_SUBMIT (R387); a wake event. -/
def execUpdSubmit (via : Via) (b : BasinId) (v : Word) : State → Out :=
  runU fun s => s.bWrite via b fun s => s.waking b fun s => s.writeUpdSubmit b v

/-- LAYER_START (R389). -/
def execLayerStart (b : BasinId) : State → Out := runU fun s => s.startLayer b

/-- ROW_COMMIT (R391). -/
def execRowCommit (b : BasinId) : State → Out := runU fun s => s.rowCommit b

/-- LAYER_COMPLETE (R391). -/
def execLayerComplete (b : BasinId) : State → Out := runU fun s => s.layerComplete b

/-- FENCE_OPEN: a write of UPD_FENCE; a wake event. -/
def execFenceOpen (via : Via) (l : LineId) (v : Word) : State → Out :=
  runU fun s => s.lnWrite via l fun s => s.waking l fun s => s.writeUpdFence l v

/-- FENCE_CLOSE: a write of UPD_FENCE; a wake event. -/
def execFenceClose (via : Via) (l : LineId) (v : Word) : State → Out :=
  runU fun s => s.lnWrite via l fun s => s.waking l fun s => s.writeUpdFence l v

/-- FENCE_CLOSED (R393). -/
def execFenceClosed (l : LineId) : State → Out := runU fun s => s.fenceClosed l

/-- UPD_ABORT: a write of UPD_CTL. -/
def execUpdAbort (via : Via) (b : BasinId) (v : Word) : State → Out := runU fun s => s.bWrite via b (·.writeUpdCtl b v)

/-- UPD_HOLD: a write of UPD_CTL. -/
def execUpdHold (via : Via) (b : BasinId) (v : Word) : State → Out := runU fun s => s.bWrite via b (·.writeUpdCtl b v)

/-- UPD_FLUSH: a write of UPD_CTL. -/
def execUpdFlush (via : Via) (b : BasinId) (v : Word) : State → Out := runU fun s => s.bWrite via b (·.writeUpdCtl b v)

end Sys2Proof.Machine
end

