-- ==== Sys2Proof/Machine/LineControl.lean ====
section
/-!
DEFINITION. Line control (R24 to R33): starting, stopping, draining, failing and resetting a Line, and the detach of a
Line from the host (R328, R331), with the TDISP ERROR state (R332, R488).
-/
namespace Sys2Proof.Machine

/-! Stopping. -/

/-- LN_STATUS.CAUSE of the Line led by `l`. -/
def State.setCause (s : State) (l cause : Nat) : State := s.modLine l fun ln => { ln with cause := cause }

/-- The PLLs of a Line's basins stop and their channels enter self-refresh (R493, R501). -/
def State.restBasins (s : State) (l : Nat) : State :=
  s.each (s.members l) fun s b =>
    ((s.modBpow b fun p => { p with pll := false }).abandonCal b).modBmem b fun m => { m with selfRefresh := true }

/-- A STARTING or RUNNING Line enters STOPPING: queued launches and layers end with LAUNCH_DROPPED and waiting
SYNC_WAITs with ABORTED (R29, R31, R187, R330, R400). -/
def State.beginStopping (s : State) (l cause : Nat) : State :=
  if (s.line l).st.isUp then
    let s := ((s.wakeExit l).setCause l cause).enterLineState l .stopping
    let s := s.each (s.members l) fun s b =>
      (s.each (List.range 8) fun s p => s.flushLaunches (b * 8 + p)).flushLayers b
    s.abortWaits l
  else s

/-- Everything dispatched has completed (R31). -/
def State.drained (s : State) (l : Nat) : Bool :=
  (s.members l).all (fun b =>
    (List.range 8).all (fun p => (s.pond (b * 8 + p)).mode == .idle)
    && (List.range 16).all (fun c => (s.chan (b * 16 + c)).queue.isEmpty)
    && (s.layerQ b).isEmpty)
  && (List.range 2).all (fun u => (s.decodeQ l u).isEmpty)
  && (List.range 256).all (fun e => (s.cfl (l * 256 + e)).st != .arming && (s.cfl (l * 256 + e)).st != .finishing)
  && (s.lineQueues l).all (fun q => (s.queue (qKey l q)).running.isEmpty)

/-- LINE_DRAINED: a STOPPING Line enters STOPPED, and its cores stop (R29, R413). -/
def State.lineDrained (s : State) (l : Nat) : State :=
  if (s.line l).st = .stopping ∧ s.isLeader l ∧ s.drained l then
    ((s.haltCores l).enterLineState l .stopped).restBasins l
  else s

/-- LINE_READY: a STARTING Line enters RUNNING: its PLLs run, its channels are out of self-refresh, and its cores start
(R29, R413, R493). -/
def State.lineReady (s : State) (l : Nat) : State :=
  if (s.line l).st = .starting ∧ s.isLeader l then
    let s := s.each (s.members l) fun s b =>
      (s.modBpow b fun p => { p with pll := true }).modBmem b fun m => { m with selfRefresh := false }
    ((s.enterLineState l .running).startCores l)
  else s

/-! The detach of a Line (R328 steps 2 to 5). -/

/-- The pieces of a transfer's walk from position `pos` on, by source and destination page. -/
def Xfer.rest (x : Xfer) (pos : Nat) : List Seg :=
  x.rows.flatMap fun r =>
    let a := max r.1 pos
    if r.1 + r.2 ≤ a then [] else [{ pos := a, src := x.srcAt a, dst := x.dstAt a, len := r.1 + r.2 - a }]

/-- The first host-memory byte that the running transfer of channel `c` has still to read or write: its side and address
(R264). -/
def State.hostTransfer (s : State) (c : Nat) : Option (Nat × Nat) :=
  match (s.chan c).queue with
  | x :: _ =>
    if x.running && !x.empty && !x.rdone then
      let who := s.chanWho c x.asid
      let host (va : Nat) (wr : Bool) : Bool :=
        match (s.xlate who.l who.b x.asid va (!wr) wr).1 with
        | .ok pa => isHostPa pa
        | .fault _ => false
      (x.rest (if x.dstRemote then x.sentPos else x.pos)).findSome? fun g =>
        let srcs := if x.op = 1 || x.srcRemote then [] else (pagePieces g.src g.len).map (·.1)
        let dsts := if x.dstRemote then [] else (pagePieces g.dst g.len).map (·.1)
        ((srcs.find? fun va => host va false).map fun va => (0, va))
          <|> ((dsts.find? fun va => host va true).map fun va => (1, va))
    else none
  | [] => none

/-- Ends with HOST_GONE the transfers that `hit` names by channel, side and address. -/
def State.endHostTransfers (s : State) (hit : List (Nat × Nat × Nat)) : State :=
  hit.foldl (fun s (c, side, va) =>
    match (s.chan c).queue with
    | x :: _ => s.endXfer c x 0x25 side va
    | [] => s) s

/-- A queue with a ring in the host aperture parks with HOST_GONE, and its entries not dispatched are abandoned. -/
def State.parkHostQueues (s : State) (l : Nat) : State :=
  s.each (s.lineQueues l) fun s q =>
    let x := s.queue (qKey l q)
    if x.st ≠ .off ∧ (isHostPa x.sqBase || isHostPa x.cqBase) then s.park l q 0x08 x.h else s

/-- A detach of the Line led by `l` (R328 steps 2 to 5, R331). -/
def State.detachLine (s : State) (l : Nat) : State :=
  let chans := (s.members l).flatMap fun b => (List.range 16).map fun c => b * 16 + c
  let hit := if (s.line l).st.works then chans.filterMap fun c => (s.hostTransfer c).map fun (side, va) => (c, side, va)
    else []
  let s := (((s.dropHostLeaves l).endHostTransfers hit).parkHostQueues l)
  if (s.line l).survive then s else s.beginStopping l 0x02

/-- Clears CLAIMED of a function. -/
def State.unclaim (s : State) (n : Nat) : State :=
  { s with host := { s.host with claimed := tblErase s.host.claimed n } }

/-- A confidential interface enters ERROR, with the effects of a detach of the Line and a stop (R332, R488). -/
def State.tdispError (s : State) (l : Nat) : State :=
  match s.tdisp l with
  | .locked | .run =>
    let s := { s with host := { s.host with tdisp := tblSet .unlocked s.host.tdisp l .error } }
    ((s.detachLine l).unclaim l).beginStopping l 0x06
  | _ => s

/-- The basin of a grid slot or core by its health record. -/
def testBasin (k : Nat) : Option Nat :=
  let u := k % 2 ^ 24
  match k / 2 ^ 24 with
  | 0 => some (u % 8)
  | 1 => some (u % 2 * 4 + u / 2 / 17)
  | _ => none

/-- The tests of a Line's grids, and of its cores where `cores` is set, are abandoned: the units are due again, and
stand-ins keep their names (R468). A slot whose HOLD_NEW is 1 stays out (R138). -/
def State.abandonTests (s : State) (l : Nat) (cores : Bool := true) : State :=
  let mine (k : Nat) : Bool := match testBasin k with
    | some b => s.leaderOf b == l && (cores || decide (k < 2 ^ 24))
    | none => false
  let gone := (s.tests.filter fun e => mine e.1).map (·.1)
  let s := { s with tests := s.tests.filter fun e => !mine e.1 }
  s.each gone fun s k =>
    let s := s.modHealth k fun h => { h with due := true }
    if k < 2 ^ 24 then s.modGrid (k % 8 * 34 + k / 8) fun x =>
      { x with phase := .idle, out := s.flag (grdKey (k % 8 * 34 + k / 8) 0) 8 } else s

/-! Failing (R29, R30, R299 to R301). -/

/-- LN_COH_STATUS records the first fail-stop cause (R301, R302). -/
def State.cohRecord (s : State) (l agent kind home line : Nat) : State :=
  let k := xlKey l 0x40
  if s.flag k 15 then s
  else s.setReg k (BitVec.ofNat 64 (agent + kind * 2 ^ 8 + home * 2 ^ 12 + 2 ^ 15 + line % 2 ^ 46 * 2 ^ 16))

/-- A pond whose Line fails: arrays, banks and unfilled slots are discarded (R136). -/
def Pond.freeze (p : Pond) : Pond :=
  { p with
    slots := p.slots.filter fun e => e.2.st != .filling
    gridQ := p.gridQ.map fun e => (e.1, e.2.filter fun m => !m.started) }

/-- A fail-stop condition: the Line enters FAILED. Its cores and grids stop in the cycle of entry, and nothing more is
written. -/
def State.failLine (s : State) (l cause agent kind home line : Nat) : State :=
  match (s.line l).st with
  | .starting | .running | .stopping =>
    let s := (s.cohRecord l agent kind home line).setCause l cause
    let s := (s.logEvent 0x0300 (1 + l) (lineBit l) (s.reg (xlKey l 0x40)).toNat cause).enterLineState l .failed
    let s := s.each (s.members l) fun s b =>
      (s.each (List.range 8) fun s p => s.modPond (b * 8 + p) Pond.freeze).abandonCal b
    ((s.failCores l).abandonTests l).tdispError l
  | _ => s

/-! Reset (R32). -/

/-- A pond after Line reset: instruction memory is kept (R142). -/
def Pond.reset (p : Pond) : Pond := { imem := p.imem }

/-- The registers of basin `b` that Line reset clears. -/
def basinResets (b k : Nat) : Bool :=
  let off := k % 2 ^ 28
  k / 2 ^ 28 == b + 16 &&
  ( -- ponds and grids (R142, R188 to R190, R209, R141), GRD_CTL excepted
    (decide (0x200000 ≤ off ∧ off < 0x240000) &&
      !(decide (0x4000 ≤ off % 0x8000 ∧ off % 0x8000 < 0x5400) && off % 0x400 == 0))
  || -- XE_FAULTS and XE_CH_BYTES (R271)
    off == 0x400018 || (decide (0x401000 ≤ off ∧ off < 0x401400) && off % 0x40 == 0x18)
  || -- the counters of R402
    off == 0x600028 || off == 0x600030
  || -- CFL_ADDENDS and CFL_REFUSED (R379)
    off == 0x620018 || off == 0x620020 )

/-- The registers of a leader that Line reset clears. -/
def lineResets (l k : Nat) : Bool :=
  let off := k % 2 ^ 28
  k / 2 ^ 28 == l + 1 &&
  ( off == 0x200 || off == 0x208 || off == 0x410 || decide (0x700 ≤ off ∧ off < 0x720)
  || decide (0x4000 ≤ off ∧ off < 0x5000) || decide (0xA00000 ≤ off ∧ off < 0xA00040)
  || decide (0xE00000 ≤ off ∧ off < 0xF00000) )

/-- Line reset of basin `b`: ponds, grids, channels, updates, translations and the registers of their chapters. -/
def State.resetBasin (s : State) (b : Nat) : State :=
  let s := (s.dropRegs (basinResets b)).each (List.range 8) fun s p => s.modPond (b * 8 + p) Pond.reset
  let s := s.each (List.range 34) fun s g =>
    (s.modGrid (b * 34 + g) fun x =>
      { x with phase := .idle, held := false, ganged := false, lastMode := 0 }).setFld
      (grdKey (b * 34 + g) 0) 0 3 (s.tt.basin b).ramp
  let s := s.each (List.range 16) fun s c => s.modChan (b * 16 + c) fun _ => {}
  let s := (s.setReg (updKey b 0) 0).setFld (updKey b 8) 32 32 0
  let s := s.each (List.range 4) fun s i => ((s.modPort (b * 4 + i) fun q => { q with txq := [] }).setArb (16 + b * 4 + i) {}).setArb (64 + b * 4 + i) {}
  { ((s.setArb b {}).setLayerQ b []).setTlb b [] with
    tenant := s.tenant.filter fun e => e.1 / 2 ^ 28 != b + 16 }

/-- Reloads the rwl fields whose reset is hw from the running Timetable (R32): LN_WAKE_TOL and LN_WIN_BASE. -/
def State.reloadLine (s : State) (l : Nat) : State :=
  let r := s.tt.basin l
  (s.setReg (lnKey l 0x140) (BitVec.ofNat 64 r.wakeTol)).setReg (lnKey l 0x110) (BitVec.ofNat 64 r.winBase)

/-- Line reset (R32). Grids come to IDLE, so that a test of one is abandoned (R136). Everything goes but the Line's state,
its cause, its Timetable configuration and its memory. -/
def State.resetLine (s : State) (l : Nat) : State :=
  let s := (s.members l).foldl State.resetBasin ((s.abandonTests l false).resetCores l)
  let s := (s.dropRegs (lineResets l)).reloadLine l
  let s := { s with
    queues := s.queues.filter fun e => e.1 / 4096 != l
    ctxs := s.ctxs.filter fun e => e.1 / 4096 != l
    cfls := s.cfls.filter fun e => e.1 / 256 != l
    arbs := s.arbs.filter fun e => e.1 != 8 + l
    tenant := s.tenant.filter fun e => e.1 / 2 ^ 28 != l + 1 }
  let s := (s.setFlag (xlKey l 8) 0 s.host.attached).dropVectors (· == lineFn l)
  s.modLine l fun ln => { st := ln.st, cause := ln.cause, ttGen := ln.ttGen, survive := (s.tt.basin l).survive }

/-- LN_CTL.RESET, or the reset of STOP_INTERFACE: the Line reads STOPPED with CAUSE 0x05 (R32). A confidential interface
enters ERROR unless STOP_INTERFACE made the reset (R488). -/
def State.ctlReset (s : State) (l : Nat) (byStopInterface : Bool) : State :=
  match (s.line l).st with
  | .off | .applying => s
  | _ =>
    let s := (((s.resetLine l).setCause l 0x05).enterLineState l .stopped).restBasins l
    if byStopInterface then s else s.tdispError l

/-! LN_CTL. -/

/-- LN_CTL.START in STOPPED (R24). A Line being cleared ignores it (R489), and an interface in CONFIG_LOCKED has not been
started (R332). -/
def State.startLine (s : State) (l : Nat) : State :=
  if (s.line l).st = .stopped ∧ s.clearing l = false ∧ s.tdisp l ≠ .locked then s.enterLineState l .starting else s

/-- A write of LN_CTL that takes effect (R24, R25). -/
def State.writeLnCtl (s : State) (l : Nat) (v : Word) : State :=
  let s := s.undefIf (v.field 5 59 != 0) .reservedWrite
  let s :=
    if v.flag 2 then s.ctlReset l false
    else if v.flag 1 then s.beginStopping l 0x01
    else if v.flag 0 then s.startLine l
    else s
  let s := if (s.line l).locked then s else s.modLine l fun ln => { ln with survive := v.flag 4 }
  s.when (v.flag 3) (·.modLine l fun ln => { ln with locked := true })

/-- A write of LN_CTL by a path. Through PF0 to a confidential Line only its STOP bit acts (R487). -/
def State.ctlWrite (s : State) (via : Via) (l : Nat) (v : Word) : State :=
  if s.lnWrites via l then (s.writeLnCtl l v).noted via
  else if via = .pf0 ∧ s.isLeader l ∧ s.confidential l ∧ s.hubWrites ∧ v.flag 1 then s.beginStopping l 0x01
  else s

/-- A write of HUB_LINE_STOP (R28). -/
def State.writeLineStop (s : State) (v : Word) : State :=
  let s := s.undefIf (v.field 8 56 != 0) .reservedWrite
  s.each (List.range 8) fun s n => s.when (v.flag n && s.isLeader n) (·.beginStopping n 0x06)

/-- START (R24): a write of LN_CTL. -/
def execStart (via : Via) (l : LineId) (v : Word) : State → Out := runU fun s => s.ctlWrite via l v
/-- STOP (R29): a write of LN_CTL. -/
def execStop (via : Via) (l : LineId) (v : Word) : State → Out := runU fun s => s.ctlWrite via l v
/-- RESET (R32): a write of LN_CTL. -/
def execReset (via : Via) (l : LineId) (v : Word) : State → Out := runU fun s => s.ctlWrite via l v
/-- LOCK (R9): a write of LN_CTL. -/
def execLock (via : Via) (l : LineId) (v : Word) : State → Out := runU fun s => s.ctlWrite via l v
/-- HUB_LINE_STOP (R28). -/
def execHubLineStop (v : Word) : State → Out := runU fun s => s.hubWrite (·.writeLineStop v)
/-- LINE_READY (R29). -/
def execLineReady (l : LineId) : State → Out := runU fun s => s.lineReady l
/-- LINE_DRAINED (R31). -/
def execLineDrained (l : LineId) : State → Out := runU fun s => s.lineDrained l

end Sys2Proof.Machine
end

