-- ==== Sys2Proof/Machine/RailPort.lean ====
section
/-!
DEFINITION. Peer contexts opening and closing (R348 to R351), and rail ports: codewords, training, lanes (R334 to R346,
R358 to R364).
-/
namespace Sys2Proof.Machine

/-! Contexts: handshakes and keys (R349, R350). -/

/-- This side is the initiator: its (endpoint, context) pair is the lower one. -/
def State.initiator (s : State) (l c : Nat) : Bool :=
  let x := s.ctx (ctxKey l c)
  decide (s.endpoint l * 4096 + c < x.remoteEp * 4096 + x.remoteCtx)

/-- Sends a HANDSHAKE message with this side's role where the context has a path: a ciphertext of 1,568 bytes. -/
def State.sendHandshake (s : State) (l c : Nat) (rekey : Bool) : State :=
  match s.choosePath l c 0 with
  | none => s
  | some p =>
    let (body, s) := s.freeBytes 1568
    (s.sendFlits l c p 8 0 0 (ofBool (!s.initiator l c) + ofBool rekey * 2) (flitBodies [(0, body)])).modCtx (ctxKey l c)
      fun x => { x with sentHandshake := true }

/-- Carries an opening or a rekey on: sends the message that is due, and derives the keys once both messages have
passed. An opening side then sends an empty ACK. -/
def State.ctxKick (s : State) (l c : Nat) : State :=
  let k := ctxKey l c
  let x := s.ctx k
  if !s.railLive l then s
  else if x.st = .opening ∧ x.keyed = false then
    let s := s.when (!x.sentHandshake && (s.initiator l c || x.gotHandshake)) (·.sendHandshake l c false)
    let x := s.ctx k
    if x.sentHandshake && x.gotHandshake then
      let s := s.modCtx k fun x => { x with keyed := true, keyTime := s.time, txSeq := 0, rxSeq := 0, epoch := false }
      s.answer l c 32 5 0 0 0 []
    else s
  else if x.st = .open_ ∧ x.rekeying then
    let s := s.when (!x.sentHandshake) (·.sendHandshake l c true)
    let x := s.ctx k
    if x.sentHandshake && x.gotHandshake then
      s.modCtx k fun x => { x with epoch := !x.epoch, oldEpoch := true, newSeen := none, txSeq := 0, rxSeq := 0,
                                   keyTime := s.time, rekeying := false, sentHandshake := false, gotHandshake := false }
    else s
  else s

/-- Starts a rekey of an OPEN context. -/
def State.startRekey (s : State) (l c : Nat) : State :=
  let x := s.ctx (ctxKey l c)
  if x.st = .open_ ∧ x.rekeying = false then
    (s.modCtx (ctxKey l c) fun x => { x with rekeying := true, sentHandshake := false, gotHandshake := false }).ctxKick l c
  else s

/-! Contexts going DOWN (R351). -/

/-- The transfer needs a peer context. -/
def Xfer.remote (x : Xfer) : Bool := x.srcRemote || x.dstRemote

/-- SIDE of a cause that arises at the remote side. -/
def Xfer.remoteSide (x : Xfer) : Nat := if x.srcRemote then 0 else 1

/-- Ends with PEER_DOWN every started transfer of the Line that names the context. -/
def State.endPeer (s : State) (l c : Nat) : State :=
  if (s.line l).st.works then
    s.each ((s.members l).flatMap fun b => (List.range 16).map fun k => b * 16 + k) fun s ch =>
      match (s.chan ch).queue with
      | x :: _ => if x.running && x.remote && x.peer == c then s.xferFinish ch x 0x26 x.remoteSide else s
      | [] => s
  else s

/-- What a context keeps when it is no longer open. -/
def Ctx.shut (x : Ctx) (st : CtxState) (cause : Nat) : Ctx :=
  { st := st, cause := cause, remoteEp := x.remoteEp, remoteCtx := x.remoteCtx, portMask := x.portMask,
    pathWait := x.pathWait, demoted := x.demoted }

/-- The context goes DOWN with a cause; an interrupt source fires (R417). -/
def State.ctxDown (s : State) (l c cause : Nat) : State :=
  ((s.modCtx (ctxKey l c) fun x => x.shut .down cause).endPeer l c).raise l 0x107

/-! Paths after a change of a port (R353, R361). -/

/-- The contexts of the Line led by `l` that are listed. -/
def State.lineCtxs (s : State) (l : Nat) : List Nat :=
  (s.ctxs.filter fun e => e.1 / 4096 == l).map fun e => e.1 % 4096

/-- Re-evaluates the paths of every context of a Line: unacknowledged deliveries move to another path, handshakes that
wait are sent, and the time without a path is noted. -/
def State.pathScan (s : State) (l : Nat) : State :=
  if s.railLive l then
    s.each (s.lineCtxs l) fun s c =>
      let x := s.ctx (ctxKey l c)
      let gone := s.paths l x == []
      let s := s.modCtx (ctxKey l c) fun x =>
        { x with noPathFrom := if gone && x.st == .open_ then some (x.noPathFrom.getD s.time) else none }
      if x.st = .open_ ∨ x.st = .opening ∨ x.st = .closing then (s.resendCtx l c).ctxKick l c else s
  else s

/-! Context control (R348, R351, R363). -/

/-- OPEN of a context in OFF or DOWN. R557 does not list a reserved field of the entry, and it is ignored (DEDUCED;
notes/assumptions). -/
def State.ctxOpen (s : State) (l c : Nat) : State :=
  let k := ctxKey l c
  let x := s.ctx k
  if s.ctxExists l c && s.railLive l && (x.st == .off || x.st == .down) then
    let (ws, r, s) := s.loadWords l (s.fld (bKey l 0x800000) 6 46 * 64 + c * 32) 4
    if r.noTarget || r.poison then s.ctxDown l c 7
    else
      let w (i : Nat) : Word := ws.getD i 0
      let ep := (w 0).field 0 17
      let rc := (w 0).field 17 12
      let y : Ctx := { st := .opening, cause := x.cause, remoteEp := ep, remoteCtx := rc, portMask := (w 1).field 0 32,
                       pathWait := if (w 1).field 32 16 = 0 then 100 else (w 1).field 32 16,
                       gotHandshake := x.hsFrom == some (ep, rc), openedAt := s.time }
      (s.modCtx k fun _ => y).ctxKick l c
  else s

/-- CLOSE of an OPENING or OPEN context: CLOSE goes to the peer and the transfers end as on DOWN. -/
def State.ctxClose (s : State) (l c : Nat) : State :=
  let k := ctxKey l c
  let x := s.ctx k
  if x.st = .open_ ∨ x.st = .opening then
    let y : Ctx := { x.shut .closing 1 with txSeq := x.txSeq, epoch := x.epoch, keyed := x.keyed,
                                            nextDelivery := x.nextDelivery, openedAt := s.time }
    let s := (s.modCtx k fun _ => y).endPeer l c
    match (if x.keyed && s.railLive l then s.choosePath l c 0 else none) with
    | some p => s.railSend l c p { number := 0, port := p, type := 9 }
    | none => s
  else s

/-- A write of RAIL_CTX_CTL (R363). -/
def State.writeCtxCtl (s : State) (l : Nat) (v : Word) : State :=
  let s := s.undefIf (v.flag 15 || v.field 24 8 != 0) .reservedWrite
  let s := s.setFld (bKey l 0x800008) 0 14 (v.field 0 14)
  let c := v.field 0 12
  if v.flag 14 then
    match v.field 12 2 with
    | 1 => s.ctxOpen l c
    | 2 => s.ctxClose l c
    | 3 => s.startRekey l c
    | _ => s
  else s

/-- RAIL_CTX_CTL as it reads. -/
def State.readCtxCtl (s : State) (l : Nat) : Word :=
  let r := s.reg (bKey l 0x800008)
  let c := r.field 0 12
  let x := s.ctx (ctxKey l c)
  let st := match x.st with | .off => 0 | .opening => 1 | .open_ => 2 | .closing => 3 | .down => 4
  BitVec.ofNat 64 (r.field 0 14 + st * 2 ^ 16 + x.cause * 2 ^ 19
    + ofBool (x.st != .off && x.st != .down && s.paths l x != []) * 2 ^ 22
    + ofBool (s.ctxGrants l c != []) * 2 ^ 23 + x.demoted * 2 ^ 32)

/-- CTX_CLOSE_DONE: a closing context reads OFF once its CLOSE is acknowledged or after 20 ms (R351). -/
def State.ctxCloseDone (s : State) (l c : Nat) : State :=
  let x := s.ctx (ctxKey l c)
  if x.st = .closing ∧ ((x.keyed ∧ x.sent = []) ∨ x.openedAt + 20000000 ≤ s.time) then
    s.modCtx (ctxKey l c) fun x => { cause := x.cause, demoted := x.demoted }
  else s

/-- REKEY_DUE: either direction's SEQ has reached 2^36, or the key is 24 hours old (R350). -/
def State.rekeyDue (s : State) (l c : Nat) : State :=
  let x := s.ctx (ctxKey l c)
  if 2 ^ 36 ≤ x.txSeq ∨ 2 ^ 36 ≤ x.rxSeq ∨ x.keyTime + 86400000000000 ≤ s.time then s.startRekey l c else s

/-- EPOCH_GRACE_END: 10 ms after the first flit of the new epoch (R350). -/
def State.epochGraceEnd (s : State) (l c : Nat) : State :=
  match (s.ctx (ctxKey l c)).newSeen with
  | some t =>
    if t + 10000000 ≤ s.time then s.modCtx (ctxKey l c) fun x => { x with oldEpoch := false, newSeen := none } else s
  | none => s

/-- PATH_WAIT_EXPIRY: OPENING for PATH_WAIT, or OPEN without a path for as long (R349, R351). -/
def State.pathWaitExpiry (s : State) (l c : Nat) : State :=
  let x := s.ctx (ctxKey l c)
  let late (t : Nat) : Bool := decide (t + x.pathWait * 1000000 ≤ s.time)
  let gone : Bool := match x.noPathFrom with | some t => late t | none => false
  if (x.st == .opening && late x.openedAt) || (x.st == .open_ && gone) then s.ctxDown l c 3 else s

/-- ACK_TIMEOUT: a delivery stays unacknowledged for 20 ms (R351). -/
def State.ackTimeout (s : State) (l c : Nat) : State :=
  let x := s.ctx (ctxKey l c)
  if x.st = .open_ ∧ x.sent.any (fun d => decide (d.at_ + 20000000 ≤ s.time)) then s.ctxDown l c 4 else s

/-! Lanes (R358, R359). -/

/-- 0 for the transmit direction of a port, or A→B of a spur. -/
def dirNo : Dir → Nat
  | .fwd => 0
  | .rev => 1

/-- Health record of a rail lane (R470). -/
def railLane (p : Nat) (d : Dir) (lane : Nat) : Nat := healthKey 4 (p + dirNo d * 32 + lane * 64)

/-- One direction of a port. -/
def Port.side (q : Port) : Dir → LaneDir
  | .fwd => q.tx
  | .rev => q.rx

/-- Replaces one direction of a port. -/
def Port.setSide (q : Port) (d : Dir) (x : LaneDir) : Port :=
  match d with
  | .fwd => { q with tx := x }
  | .rev => { q with rx := x }

def State.modSide (s : State) (p : Nat) (d : Dir) (f : LaneDir → LaneDir) : State :=
  s.modPort p fun q => q.setSide d (f (q.side d))

/-- The lane is retired. -/
def State.laneRetired (s : State) (p : Nat) (d : Dir) (lane : Nat) : Bool := (s.healthOf (railLane p d lane)).st == .retired

/-- The healthy lanes of a direction, ascending. -/
def State.goodLanes (s : State) (p : Nat) (d : Dir) : List Nat := (List.range 9).filter fun i => !s.laneRetired p d i

/-- ARG0 of a LANE_RETIRED entry: KIND and UNIT as HUB_UNIT_CMD holds them (R470, R529). -/
def unitArg (k : Nat) : Nat := k / 2 ^ 24 + k % 2 ^ 24 * 256

/-- Retires a lane's record, with its Logbook entry. -/
def State.retireLane (s : State) (k src lines cause : Nat) : State :=
  if (s.healthOf k).st = .retired then s
  else (s.modHealth k fun h => { h with st := .retired, cause := cause }).logEvent 0x0600 src lines (unitArg k) 0

/-- A direction as it trains: on the lanes not retired, with the ninth as the spare (R359). -/
def State.trainedSide (s : State) (p : Nat) (d : Dir) : LaneDir :=
  let g := s.goodLanes p d
  if g.length = 9 then {} else { spare := none, halfRate := decide (g.length < 8) }

/-- The next lane that a step names: the lowest data lane after the one freed last. -/
def State.nextLane (s : State) (p : Nat) (d : Dir) : Option Nat :=
  let x := (s.port p).side d
  let data := (s.goodLanes p d).filter fun i => some i != x.spare
  (data.find? fun i => decide (x.lastFreed < i)).orElse fun _ => data.head?

/-- Begins a recalibration step of a direction (R358). The transmitting end sends MIRROR. -/
def State.beginStep (s : State) (p : Nat) (d : Dir) : State :=
  let x := (s.port p).side d
  if (s.port p).st = .up ∧ x.step = .none ∧ x.change = .none ∧ x.spare ≠ none then
    match s.nextLane p d with
    | some i => (s.modSide p d fun x => { x with step := .mirror i }).when (d == .fwd) (·.railCtl p 1 i 0)
    | none => s
  else s

/-- RECAL_STEP: a step begins unless INTERVAL_S stops live recalibration. -/
def State.recalStep (s : State) (p : Nat) (d : Dir) : State :=
  if s.fld (portKey p 0x18) 0 8 = 0 then s else s.beginStep p d

/-- LANE_MIRROR: a MIRROR command of a direction: the spare carries a copy of the lane's data. -/
def State.laneMirror (s : State) (p : Nat) (d : Dir) (lane : Nat) : State :=
  let x := (s.port p).side d
  if (s.port p).st = .up ∧ x.spare ≠ none ∧ x.spare ≠ some lane ∧ x.change = .none ∧ x.step = .none then
    s.modSide p d fun x => { x with step := .mirror lane }
  else s

/-- A codeword sequence that the module chooses for LANE_AT: at most 2,048 after the codeword of the direction in transit, the
one sent or expected next (R338). -/
def State.laneAt (s : State) (p : Nat) (d : Dir) : Nat × State :=
  (((match d with
     | .fwd => (s.port p).stream.seq
     | .rev => (s.port p).cwRx) + s.free % 2049) % 4096, s.bump)

/-- MIRROR_COMPARE_DONE: the receiving end sends SWITCH with a LANE_AT. The far end compares the transmit direction. -/
def State.mirrorDone (s : State) (p : Nat) (d : Dir) : State :=
  match d, ((s.port p).side d).step with
  | .rev, .mirror i =>
    let (at_, s) := s.laneAt p .rev
    (s.modSide p d fun x => { x with step := .switching i at_ }).railCtl p 2 i at_
  | _, _ => s

/-- LANE_SWITCH: a SWITCH command of the receiving end. -/
def State.laneSwitch (s : State) (p : Nat) (d : Dir) (lane at_ : Nat) : State :=
  if ((s.port p).side d).step = .mirror lane then s.modSide p d fun x => { x with step := .switching lane (at_ % 4096) }
  else s

/-- The port leaves service for a state in which it carries no flits. -/
def State.portLoses (s : State) (p : Nat) (st : PortState) : State :=
  (s.modPort p fun q => { q with st := st, txq := [], nakSent := false, stream := { q.stream with replay := [] } }).pathScan (s.leaderOf (p / 4))

/-- A port with fewer than four healthy lanes in a direction is FAILED (R359). -/
def State.portFails (s : State) (p : Nat) : State :=
  (s.portLoses p .failed).logEvent 0x0601 (11 + p / 2) (lineBit (s.leaderOf (p / 4))) (p + 0x100) 6

/-- The transmit direction is to go to half rate: this end sends HALF with LANE_AT (R359). -/
def State.sendHalf (s : State) (p : Nat) : State :=
  match (s.port p).tx.halfRate, (s.port p).tx.change with
  | true, _ | _, .half _ => s
  | _, _ =>
    let (at_, s) := s.laneAt p .fwd
    (s.modSide p .fwd fun x => { x with step := .none, change := .half at_ }).railCtl p 4 0 at_

/-- The spare is to take the data of a lane of the transmit direction: this end sends RETIRE with LANE_AT (R359). -/
def State.sendRetire (s : State) (p lane : Nat) : State :=
  let (at_, s) := s.laneAt p .fwd
  (s.modSide p .fwd fun x => { x with step := .none, change := .retire lane at_ }).railCtl p 3 lane at_

/-- What a lane that has failed means to its direction (R359). The spare that fails is lost, and so is a lane that is being
calibrated, which the spare stands in for; a lane whose data is being switched to the spare stays out (DEDUCED). A free or
mirroring spare takes the lane's data: the transmitting end sends RETIRE, for which the receiving end waits. Otherwise the
port goes to HALF. -/
def State.laneLost (s : State) (p : Nat) (d : Dir) (lane : Nat) : State :=
  let x := (s.port p).side d
  if x.halfRate then s
  else if x.spare = some lane ∨ x.step = .calibrating lane then s.modSide p d fun x => { x with spare := none, step := .none }
  else
    let half := s.sendHalf p
    match x.spare, x.step, x.change with
    | some _, .none, .none | some _, .mirror _, .none => s.when (d == .fwd) (·.sendRetire p lane)
    | some _, .switching i at_, .none =>
      if i = lane then s.modSide p d fun x => { x with step := .none, change := .retire lane at_ } else half
    | _, _, _ => half

/-- A lane of a direction fails or is retired by command (R359). -/
def State.railLaneFail (s : State) (p : Nat) (d : Dir) (lane cause : Nat) : State :=
  if s.laneRetired p d lane then s
  else
    let s := s.retireLane (railLane p d lane) (11 + p / 2) (lineBit (s.leaderOf (p / 4))) cause
    if !(s.port p).isUp then s
    else if (s.goodLanes p d).length < 4 then s.portFails p
    else s.laneLost p d lane

/-- RETIRE of the transmitting end of a direction: the spare is to take the lane's data from LANE_AT (R359). -/
def State.laneRetire (s : State) (p : Nat) (d : Dir) (lane at_ : Nat) : State :=
  let x := (s.port p).side d
  let s := s.retireLane (railLane p d lane) (11 + p / 2) (lineBit (s.leaderOf (p / 4))) 0
  if (s.port p).isUp ∧ x.spare ≠ none ∧ x.spare ≠ some lane ∧ x.change = .none then
    s.modSide p d fun x => { x with step := .none, change := .retire lane at_ }
  else s

/-- HALF of the transmitting end of a direction; the other end answers with its own (R359). -/
def State.laneHalf (s : State) (p : Nat) (d : Dir) (at_ : Nat) : State :=
  if (s.port p).isUp then
    let s := s.when (!((s.port p).side d).halfRate) (·.modSide p d fun x => { x with step := .none, change := .half at_ })
    s.when (d == .rev) (·.sendHalf p)
  else s

/-- LANE_AT_REACHED: the direction changes lanes as the command in force says (R338). -/
def State.laneAtReached (s : State) (p : Nat) (d : Dir) : State :=
  let x := (s.port p).side d
  match x.change, x.step with
  | .retire _ _, _ => s.modSide p d fun x => { x with change := .none, spare := none }
  | .half _, _ =>
    (s.modSide p d fun x => { x with change := .none, spare := none, halfRate := true }).modPort p fun q => { q with st := .half }
  | .none, .switching i _ => s.modSide p d fun x => { x with step := .calibrating i, spare := none }
  | _, _ => s

/-- RECAL_STEP_DONE: the freed lane becomes the spare. -/
def State.recalDone (s : State) (p : Nat) (d : Dir) : State :=
  match ((s.port p).side d).step with
  | .calibrating i =>
    (s.modSide p d fun x => { x with step := .none, spare := some i, lastFreed := i }).countFld (portKey p 0x18) 32 32 1
  | _ => s

/-! Training (R346). -/

/-- The port begins training: it announces the fabric ID, the rail port and the Line's leader (R346). -/
def State.trainPort (s : State) (p : Nat) (retest : Bool) : State :=
  let s := (s.portLoses p .training).countFld (portKey p 0x08) 32 32 1
  let s := s.emit (.announce p (s.fabricId.field 0 14) (s.leaderOf (p / 4)))
  s.modPort p fun q => { q with retest := retest, legacy := (s.tt.basin (p / 4)).legacy (p % 4) }

/-- PORT_TRAIN: a port in service that is DARK or REFUSED trains. -/
def State.portTrain (s : State) (p : Nat) : State :=
  if s.portInService p ∧ s.lasersLit (p / 2) ∧ ((s.port p).st = .dark ∨ (s.port p).st = .refused) then s.trainPort p false else s

/-- The lanes of a direction after training: those that fail are retired, and where retired lanes were tested again, one
that passes is HEALTHY (R359). -/
def State.trainLanes (s : State) (p : Nat) (d : Dir) (bad : Nat) : State :=
  let retest := (s.port p).retest
  s.each (List.range 9) fun s i =>
    if bit bad i then s.retireLane (railLane p d i) (11 + p / 2) (lineBit (s.leaderOf (p / 4))) 0
    else if retest && s.laneRetired p d i then s.modHealth (railLane p d i) fun h => { h with st := .healthy }
    else s

/-- TRAIN_RESULT: what the training finds, with the conditions of R346 that this module can judge. A rail key that the
identity key could not sign fails with AUTH (R481). -/
def State.trainResult (s : State) (r : TrainResult) : Nat :=
  if r.result.val ≠ 0 then r.result.val
  else if !s.fabricId.flag 14 then 3
  else if r.fid % 2 ^ 14 = s.fabricId.field 0 14 then 5
  else if !s.sec.railSigned then 4
  else 0

/-- PORT_TRAIN_DONE (R346). A far end that is another module with this module's fabric ID is undefined (R344). -/
def State.portTrainDone (s : State) (p : Nat) (r : TrainResult) : State :=
  if (s.port p).st = .training then
    let s := (s.trainLanes p .fwd r.badTx).trainLanes p .rev r.badRx
    let s := if r.twin && decide (r.fid % 2 ^ 14 = s.fabricId.field 0 14) then s.undefAt .fabricIdTwin .system else s
    let res := s.trainResult r
    let least := min (s.goodLanes p .fwd).length (s.goodLanes p .rev).length
    let st : PortState :=
      if res = 1 then .dark else if res ≠ 0 then .refused
      else if least < 4 then .failed else if least < 8 then .half else .up
    let s := s.modPort p fun q =>
      { q with st := st, trainResult := res, farFid := if res = 1 then q.farFid else r.fid % 2 ^ 14,
               farPort := if res = 1 then q.farPort else r.port, farLine := if res = 1 then q.farLine else r.line,
               tx := s.trainedSide p .fwd, rx := s.trainedSide p .rev, cwRx := 0, heard := false, retest := false,
               stream := { q.stream with slot := 0, replay := [] }, nakSent := false, cwAcked := 4095,
               credits := [(0, 2048), (1, 256), (2, 2048)], txq := [] }
    let s := s.when (st == .failed) fun s =>
      s.logEvent 0x0601 (11 + p / 2) (lineBit (s.leaderOf (p / 4))) (p + 0x100) 6
    s.pathScan (s.leaderOf (p / 4))
  else s

/-- PORT_DARK: the far end goes dark or a switch is reconfigured (R361). -/
def State.portDark (s : State) (p : Nat) : State :=
  match (s.port p).st with
  | .training | .up | .half | .refused => s.portLoses p .dark
  | _ => s

/-- Retrains a port that is not OFF (R345, R364). -/
def State.retrainPort (s : State) (p : Nat) (retest : Bool) : State :=
  if (s.port p).st = .off then s else s.trainPort p retest

/-- A write of RAIL_PORT_CTL (R364). -/
def State.writePortCtl (s : State) (p : Nat) (v : Word) : State :=
  let s := s.undefIf (v.field 3 61 != 0) .reservedWrite
  let s := (s.modPort p fun q => { q with quiesce := v.flag 2 }).pathScan (s.leaderOf (p / 4))
  let s := s.when (v.flag 0) (·.retrainPort p true)
  s.when (v.flag 1) fun s => (s.beginStep p .fwd).beginStep p .rev

/-- RAIL_PORT_STATUS (R364). -/
def State.portStatus (s : State) (p : Nat) : Word :=
  let q := s.port p
  let st := match q.st with
    | .off => 0 | .dark => 1 | .training => 2 | .up => 3 | .half => 4 | .refused => 5 | .failed => 6
  let retired := ((List.range 9).map fun i => ofBool (s.laneRetired p .fwd i || s.laneRetired p .rev i) * 2 ^ i).sum
  let step (x : LaneDir) : Bool := x.step != .none
  BitVec.ofNat 64 (st + ofBool q.legacy * 2 ^ 3
    + ofBool ((q.tx.spare.isSome && !step q.tx) || (q.rx.spare.isSome && !step q.rx)) * 2 ^ 4
    + ofBool (step q.tx || step q.rx) * 2 ^ 5 + (q.tx.spare.getD 15) * 2 ^ 8 + retired * 2 ^ 12
    + q.trainResult * 2 ^ 24 + s.fld (portKey p 0x08) 32 32 * 2 ^ 32)

/-- RAIL_PORT_REMOTE (R364). -/
def State.portRemote (s : State) (p : Nat) : Word :=
  let q := s.port p
  BitVec.ofNat 64 (q.farFid + q.farPort * 2 ^ 14 + q.farLine * 2 ^ 19 + ofBool q.isUp * 2 ^ 22)

/-- A write of HUB_FABRIC_ID (R345). -/
def State.writeFabricId (s : State) (v : Word) : State :=
  let s := s.undefIf (v.field 15 49 != 0) .reservedWrite
  if v.field 0 15 = s.fabricId.field 0 15 then s
  else
    let s := s.setReg (hubKey 0x48) (BitVec.ofNat 64 (v.field 0 15))
    let s := s.each ((s.ctxs.filter fun e => e.2.st != .off).map (·.1)) fun s k => s.ctxDown (k / 4096) (k % 4096) 6
    s.each (List.range 32) fun s p => s.retrainPort p false

/-! Codewords (R337 to R340). -/

/-- A NAK makes the transmitter resend from the codeword after `from_`, and RAIL_REPLAY counts what it resends (R340). -/
def State.railNak (s : State) (p from_ : Nat) : State :=
  if (s.port p).isUp then
    let r := (s.port p).stream.idle p
    ((s.count (portKey p 0x28) (r.after from_)).modPort p fun q => { q with stream := r.fresh }).emit
      (.railCmd p 6 ((from_ + 1) % 4096) 0)
  else s

/-- The LANE_CMD of a codeword: SWITCH concerns the opposite direction (R338). -/
def State.laneCommand (s : State) (p cmd lane at_ : Nat) : State :=
  match cmd with
  | 1 => s.laneMirror p .rev lane
  | 2 => s.laneSwitch p .fwd lane at_
  | 3 => s.laneRetire p .rev lane at_
  | 4 => s.laneHalf p .rev at_
  | _ => s

/-- Counts in RAIL_E_LATE the E messages of a codeword that was lost and has been resent, each once (R357). -/
def State.noteLate (s : State) (p : Nat) (fs : List Flit) : State :=
  (fs.filter fun f => f.cls == 1).foldl (fun s f =>
    let k := (f.srcCtx, f.delivery)
    if (s.port p).late.contains k then s
    else (s.count (portKey p 0x30) 1).modPort p fun q => { q with late := k :: q.late }) s

/-- The TYPE values of R343. -/
def flitTypes : List Nat := [1, 2, 3, 4, 5, 6, 8, 9]

/-- Takes a codeword received in order: its acknowledgement, credits and commands, and its flits (R338 to R343). -/
def State.takeCodeword (s : State) (p : Nat) (cw : Codeword) : State :=
  let q := s.port p
  let fs := cw.flits
  let s := s.when q.nakSent (·.noteLate p fs)
  let known := fs.filter fun f => flitTypes.contains f.type
  let s := s.modPort p fun q =>
    { q with cwRx := (q.cwRx + 1) % 4096, heard := true, nakSent := false, cwAcked := cw.ackSeq.getD q.cwAcked
             credits := tblSet 0 q.credits cw.creditCls (tblGet 0 q.credits cw.creditCls + cw.credits)
             rxq := q.rxq ++ known
             late := q.late.filter fun k => !known.any fun f => f.last && (f.srcCtx, f.delivery) == k }
  let s := s.count (portKey p 0x48) (fs.length - known.length)
  let s := s.when cw.nak (·.railNak p ((s.port p).cwAcked))
  (s.laneCommand p cw.laneCmd cw.lane cw.laneAt).drainPort p

/-- CODEWORD_RECEIVE: the symbols of a codeword that can be corrected are counted (R337, R364), and a codeword in order is
taken. One that is lost, or out of order, is discarded, and a NAK names the last one received in order (R340). -/
def State.codewordReceive (s : State) (p : Nat) (cw : Codeword) : State :=
  let q := s.port p
  if !q.isUp then s
  else
  let s := s.when (decide (cw.errors ≤ 15)) (·.count (portKey p 0x20) cw.errors)
  if !cw.lost && cw.seq == q.cwRx then s.takeCodeword p cw
  else if q.nakSent then s
  else (s.modPort p fun q => { q with nakSent := true }).railCtl p 5 ((q.cwRx + 4095) % 4096) 0

/-! The commands. -/

/-- A write of a register of rail port `p`. -/
def State.portWrite (s : State) (via : Via) (p : Nat) (v : Word) : State := s.bWrite via (p / 4) (·.writePortCtl p v)

/-- CODEWORD_RECEIVE (R337). -/
def execCodewordReceive (p : PortId) (cw : Codeword) : State → Out := run fun s => s.codewordReceive p cw
/-- RAIL_NAK (R340). -/
def execRailNak (p : PortId) (from_ : Nat) : State → Out := run fun s => s.railNak p from_
/-- PORT_TRAIN (R346). -/
def execPortTrain (p : PortId) : State → Out := run fun s => s.portTrain p
/-- PORT_TRAIN_DONE (R346). -/
def execPortTrainDone (p : PortId) (res : TrainResult) : State → Out := runU fun s => s.portTrainDone p res
/-- PORT_DARK (R361). -/
def execPortDark (p : PortId) : State → Out := run fun s => s.portDark p
/-- PATH_LOST (R353): the Line's paths are re-evaluated. -/
def execPathLost (p : PortId) : State → Out := run fun s => s.pathScan (s.leaderOf (p / 4))
/-- FABRIC_ID_WRITE (R345). -/
def execFabricIdWrite (v : Word) : State → Out := runU fun s => s.hubWrite (·.writeFabricId v)
/-- CTX_OPEN (R349): a write of RAIL_CTX_CTL. -/
def execCtxOpen (via : Via) (l : LineId) (v : Word) : State → Out := runU fun s => s.lnWrite via l (·.writeCtxCtl l v)
/-- CTX_CLOSE (R351): a write of RAIL_CTX_CTL. -/
def execCtxClose (via : Via) (l : LineId) (v : Word) : State → Out := runU fun s => s.lnWrite via l (·.writeCtxCtl l v)
/-- CTX_REKEY (R350): a write of RAIL_CTX_CTL. -/
def execCtxRekey (via : Via) (l : LineId) (v : Word) : State → Out := runU fun s => s.lnWrite via l (·.writeCtxCtl l v)
/-- CTX_CLOSE_DONE (R351). -/
def execCtxCloseDone (l : LineId) (x : CtxId) : State → Out := run fun s => s.ctxCloseDone l x
/-- REKEY_DUE (R350). -/
def execRekeyDue (l : LineId) (x : CtxId) : State → Out := run fun s => s.rekeyDue l x
/-- EPOCH_GRACE_END (R350). -/
def execEpochGraceEnd (l : LineId) (x : CtxId) : State → Out := run fun s => s.epochGraceEnd l x
/-- PATH_WAIT_EXPIRY (R351). -/
def execPathWaitExpiry (l : LineId) (x : CtxId) : State → Out := runU fun s => s.pathWaitExpiry l x
/-- ACK_TIMEOUT (R351). -/
def execAckTimeout (l : LineId) (x : CtxId) : State → Out := runU fun s => s.ackTimeout l x
/-- RECAL_STEP (R358). -/
def execRecalStep (p : PortId) (dir : Dir) : State → Out := run fun s => s.recalStep p dir
/-- CAL_NOW (R364): a write of RAIL_PORT_CTL. -/
def execCalNow (via : Via) (p : PortId) (v : Word) : State → Out := runU fun s => s.portWrite via p v
/-- PORT_RETRAIN (R364): a write of RAIL_PORT_CTL. -/
def execPortRetrain (via : Via) (p : PortId) (v : Word) : State → Out := runU fun s => s.portWrite via p v
/-- QUIESCE (R364): a write of RAIL_PORT_CTL. -/
def execQuiesce (via : Via) (p : PortId) (v : Word) : State → Out := runU fun s => s.portWrite via p v
/-- LANE_MIRROR (R358). -/
def execLaneMirror (p : PortId) (dir : Dir) (lane : Fin 9) : State → Out := run fun s => s.laneMirror p dir lane
/-- MIRROR_COMPARE_DONE (R358). -/
def execMirrorCompareDone (p : PortId) (dir : Dir) : State → Out := run fun s => s.mirrorDone p dir
/-- LANE_SWITCH (R358). -/
def execLaneSwitch (p : PortId) (dir : Dir) (lane : Fin 9) (at_ : Nat) : State → Out :=
  run fun s => s.laneSwitch p dir lane at_
/-- LANE_AT_REACHED (R338). -/
def execLaneAtReached (p : PortId) (dir : Dir) : State → Out := run fun s => s.laneAtReached p dir
/-- RECAL_STEP_DONE (R358). -/
def execRecalStepDone (p : PortId) (dir : Dir) : State → Out := run fun s => s.recalDone p dir
/-- LANE_FAIL (R359). -/
def execLaneFail (p : PortId) (dir : Dir) (lane : Fin 9) : State → Out := run fun s => s.railLaneFail p dir lane 0
/-- LANE_RETIRE (R359). The row gives no LANE_AT, which is free. -/
def execLaneRetire (p : PortId) (dir : Dir) (lane : Fin 9) : State → Out :=
  run fun s => let (at_, s) := s.laneAt p dir; s.laneRetire p dir lane at_
/-- LANE_HALF (R359). The row gives no LANE_AT, which is free. -/
def execLaneHalf (p : PortId) (dir : Dir) : State → Out := run fun s => let (at_, s) := s.laneAt p dir; s.laneHalf p dir at_

end Sys2Proof.Machine
end

