-- ==== Sys2Proof/Machine/MemoryUnits.lean ====
section
/-!
DEFINITION. What the memories do beside reads and writes (07_memory.md, 17_integrity.md): errors and spare subarrays,
channel failure, scrubbing, repair, refresh, training, live checks and maintenance windows.
-/
namespace Sys2Proof.Machine

/-! Spare subarrays (R220). -/

/-- SPARE_COPY_DONE: the spare serves the subarray; words with single-bit errors have been copied corrected (R220 steps 5
and 6). -/
def State.spareCopyDone (s : State) (b bank : Nat) : State :=
  match (s.bmem b).copying.find? fun e => e.1 == bank with
  | some (_, sub) =>
    let held (g : Nat) : Bool := match s.target (g * 64) with
      | .reservoir d x => d == b && decide (rsvPlace x = (bank, sub))
      | _ => false
    let s := { s with errs := s.errs.filter fun e => e.2 != 1 || !held e.1 }
    let s := s.modBmem b fun m =>
      { m with copying := m.copying.filter fun e => e.1 != bank, spares := tblSet 0 m.spares bank (1 + sub) }
    let k := subarrayHealth b bank sub
    (s.modHealth k fun h => { h with st := .retired }).logEvent 0x0403 (1 + b) (lineBit (s.leaderOf b)) (unitArg k) 0
  | none => s

/-! Quiet conditions (R239). -/

/-- Nothing pends in the Line's Apori queues: no entry to fetch or dispatch. -/
def State.noEntries (s : State) (l : Nat) : Bool :=
  (s.lineQueues l).all fun q =>
    let x := s.queue (qKey l q)
    x.st != .active || (x.fetched.isEmpty && x.h % 65536 == x.t % 65536)

/-- Pond `u` is IDLE, as PD_STATUS reads it: no program runs, and no instruction-memory load (R189, R190). -/
def State.pondIdle (s : State) (u : Nat) : Bool := decide ((s.pond u).mode = .idle) && !s.imemBusy u

/-- The Line does nothing that R239 counts as work. -/
def State.idleNow (s : State) (l : Nat) : Bool :=
  match (s.line l).st with
  | .stopped => true
  | .running =>
    (s.members l).all (fun b =>
      (List.range 8).all (fun p => s.pondIdle (b * 8 + p) && (s.pond (b * 8 + p)).launches.isEmpty)
      && (List.range 16).all fun c => (s.chan (b * 16 + c)).queue.isEmpty)
    && s.noEntries l
  | _ => false

/-- A condition has held since `t` for 1 ms. -/
def sinceMs (t : Option Nat) (now : Nat) : Bool :=
  match t with
  | some t => decide (t + 1000000 ≤ now)
  | none => false

/-- LINE_IDLE: the Line is STOPPED, or it has been idle for 1 ms. -/
def State.lineIdle (s : State) (l : Nat) : State :=
  let ln := s.line l
  if s.isLeader l ∧ s.idleNow l ∧ (ln.st = .stopped ∨ sinceMs ln.idleFrom s.time) then
    s.modLine l fun ln => { ln with idle := true }
  else s

/-- Quiet work may run in a basin. -/
def State.quiet (s : State) (b : Nat) : Bool :=
  let l := s.leaderOf b
  (s.bmem b).maintEnd.isSome ||
    (decide (l < 8) && ((s.line l).idle || decide ((s.line l).st = .stopped)) && s.idleNow l && (s.tt.basin b).idleCal)

/-- The quiet work of basin `b` is not held off: its Line is neither in S3 nor FAILED (R240). -/
def State.calAllowed (s : State) (b : Nat) : Bool :=
  s.lineStOf b != .failed && s.lineStOf b != .applying && (s.line (s.leaderOf b)).sleep != 3

/-! Channel failure and retraining (R226, R238, R239). -/

/-- A channel is declared failed, until an apply removes it (R226). -/
def State.failChannel (s : State) (b c : Nat) : State :=
  if s.flag (memKey b 8) (32 + c) then s
  else
    let s := (s.setFlag (memKey b 8) (32 + c) true).modHealth (chanHealth b c) fun h => { h with st := .retired }
    let s := s.modBmem b fun m =>
      { m with linkLost := tblErase m.linkLost c, liveCheck := tblErase m.liveCheck c
               calibrating := if m.calibrating = some c then none else m.calibrating }
    s.logEvent 0x0402 (1 + b) (lineBit (s.leaderOf b)) (32 * b + c) 0

/-- CHANNEL_LINK_LOSS: a channel in use loses its link and retrains. -/
def State.linkLoss (s : State) (b c : Nat) : State :=
  if (s.chansOf b).contains c && s.chanGood b c then
    s.modBmem b fun m => { m with linkLost := tblSet false m.linkLost c true }
  else s

/-- A channel has been retrained quietly: its new record is LIGHT, and it runs guarded while the load class is FULL (R237,
R239). -/
def State.lightRecord (s : State) (b c : Nat) : State :=
  let s := (s.makeRecord b c false).setRetrain b c false
  let s := s.modBmem b fun m => { m with calibrating := if m.calibrating = some c then none else m.calibrating }
  if (s.bmem b).loadFull then (s.setGuard b c true).startLiveCheck b c else s.setGuard b c false

/-- Channel `c` may be retrained: its basin is quiet, and no other of its channels is being worked on (R239). -/
def State.mayRetrain (s : State) (b c : Nat) : Bool :=
  s.quiet b && s.calAllowed b && (s.chansOf b).contains c && s.chanGood b c
  && ((s.bmem b).calibrating.getD c == c)

/-- CHANNEL_RETRAIN_DONE: a retrain after a lost link, or a quiet retrain, ends. Both are work of R239: they end only while
the basin is quiet. -/
def State.channelRetrainDone (s : State) (b c : Nat) (ok : Bool) : State :=
  if !s.mayRetrain b c then s
  else if tblGet false (s.bmem b).linkLost c then
    if ok then ((s.modBmem b fun m => { m with linkLost := tblErase m.linkLost c }).trial b c).lightRecord b c
    else s.failChannel b c
  else if (s.bmem b).calibrating = some c then if ok then s.lightRecord b c else s.abandonCal b
  else s

/-- QUIET_RETRAIN: a channel of a quiet basin, where none is being calibrated, begins its retraining with new settings;
repeated for the channel that is being calibrated, its last step ends (R239). -/
def State.quietRetrain (s : State) (b c : Nat) : State :=
  if s.mayRetrain b c then
    match (s.bmem b).calibrating with
    | none => (s.modBmem b fun m => { m with calibrating := some c }).trial b c
    | some _ => s.lightRecord b c
  else s

/-- CALIBRATION_ABANDON: the quiet conditions have ended (R239). -/
def State.calibrationAbandon (s : State) (b c : Nat) : State :=
  if (s.bmem b).calibrating = some c ∧ !s.quiet b then s.abandonCal b else s

/-- The package temperature is more than 10 °C from a record of the package (R238). -/
def State.tempFar (s : State) (b c : Nat) : Bool :=
  let t := tblGet 25 (s.bmem b).temps (c / 8)
  (s.chansOf b).any fun d => d / 8 == c / 8 && decide (10 < (t - (s.trainRec b d).temp).natAbs)

/-- LIVE_CHECK: a check begins where a guard applies or the temperature has moved (R238). -/
def State.liveCheck (s : State) (b c : Nat) : State :=
  if (s.chansOf b).contains c && (s.flag (memKey b 0x10) c || s.tempFar b c) then s.startLiveCheck b c else s

/-- LIVE_CHECK_DONE (R237, R238). -/
def State.liveCheckDone (s : State) (b c : Nat) (pass : Bool) : State :=
  if tblGet false (s.bmem b).liveCheck c then
    let s := s.modBmem b fun m => { m with liveCheck := tblErase m.liveCheck c }
    if pass then (s.makeRecord b c (s.bmem b).loadFull).setGuard b c false
    else (s.setGuard b c true).setRetrain b c true
  else s

/-- LOAD_CLASS_CHANGE: the basin's load class (R236, R237, R508). A guard that a failed check keeps stays. -/
def State.loadClass (s : State) (b : Nat) (full : Bool) : State :=
  let s := (s.modBmem b fun m => { m with loadFull := full }).railGuard b false
  if full then s.guardApply b
  else s.each (List.range 32) fun s c => if s.flag (memKey b 0x10) (32 + c) then s else s.setGuard b c false

/-! Scrubbing (R232, R233, R449). -/

/-- Scrubbing of basin `b` is paused (R233, R240). -/
def State.scrubPaused (s : State) (b : Nat) : Bool :=
  s.lineStOf b == .failed || s.lineStOf b == .applying || (s.line (s.leaderOf b)).sleep == 3

/-- The scrubber finds a block whose check word disagrees (R449). -/
def State.scrubMismatch (s : State) (b : Nat) (rsv : Bool) (blk : Nat) : State :=
  ((s.poisonBlock blk).count (if rsv then rsvKey b 0x38 else memKey b 0x58) 1).logEvent 0x0401 (1 + b)
    (lineBit (s.leaderOf b)) (blk * 4096) 0

/-- The first granule that a scrubber of basin `b` covers. -/
def scrubBase (b : Nat) (rsv : Bool) : Nat := (if rsv then rsvBase b else lpddrBase b) / 64

/-- The granules that it covers: the Reservoir slice, or the usable LPDDR5X with the remainder and the check words (R224,
R232). -/
def State.scrubLen (s : State) (b : Nat) (rsv : Bool) : Nat :=
  if rsv then 2 ^ 23 else 11904 * (s.chansOf b).length * 2 ^ 14

/-- The position of a scrubber (R233). -/
def State.scrubAt (s : State) (b : Nat) (rsv : Bool) : Nat := if rsv then (s.bmem b).rsvScrubPos else (s.bmem b).scrubPos

/-- Granule `g` lies on a channel in service. -/
def State.scrubs (s : State) (b : Nat) (rsv : Bool) (g : Nat) : Bool :=
  rsv || s.chanGood b (s.chanAt b (g * 64 - lpddrBase b))

/-- The scrubber of basin `b` goes on to granule `n` of its range: it reads every granule that it passes (R219), and compares
the check word of each whole block of usable memory whose last granule it passes and which holds no poison (R449). -/
def State.scrubTo (s : State) (b : Nat) (rsv : Bool) (n : Nat) : State :=
  let lo := scrubBase b rsv + s.scrubAt b rsv
  let hi := scrubBase b rsv + n
  let passed (g : Nat) : Bool := decide (lo ≤ g ∧ g < hi)
  let s := ((s.errs.filter fun e => passed e.1 && s.scrubs b rsv e.1).map (·.1)).foldl (fun s g => s.eccRead true g) s
  let bad := (s.chkDiff.filter fun e =>
    passed (e.1 * 64 + 63) && (s.target (e.1 * 4096)).memBasin == some b && e.2 != 0 && !s.blockPoisoned e.1).map (·.1)
  let s := s.each bad fun s blk => s.scrubMismatch b rsv blk
  s.modBmem b fun m => if rsv then { m with rsvScrubPos := n } else { m with scrubPos := n }

/-- SCRUB_PASS: a pass begins, or the running one goes on. How far it comes by this step is not stated. A scrubber that is
paused keeps its position (R233). -/
def State.scrubPass (s : State) (b : Nat) (rsv : Bool) (found : List EccEvent) : State :=
  let s := s.strikes found
  let m := s.bmem b
  let period := s.fld (if rsv then rsvKey b 0x20 else memKey b 0x30) 0 8
  let runs := if rsv then m.scrubRsv else m.scrubLpddr
  if s.scrubPaused b || (period == 0 && !runs) then s
  else
    let p := s.scrubAt b rsv
    let n := p + s.free % (s.scrubLen b rsv + 1 - p)
    (s.bump.modBmem b fun m => if rsv then { m with scrubRsv := true } else { m with scrubLpddr := true }).scrubTo b rsv n

/-- SCRUB_PASS_END: the running pass comes to its end. -/
def State.scrubPassEnd (s : State) (b : Nat) (rsv : Bool) : State :=
  let m := s.bmem b
  if (if rsv then m.scrubRsv else m.scrubLpddr) && !s.scrubPaused b then
    ((s.scrubTo b rsv (s.scrubLen b rsv)).modBmem b fun m =>
      if rsv then { m with scrubRsv := false, rsvScrubPos := 0 } else { m with scrubLpddr := false, scrubPos := 0 }).countFld
      (if rsv then rsvKey b 0x20 else memKey b 0x30) 32 32 1
  else s

/-! Repair, refresh and maintenance windows (R234, R235, R239, R243). -/

/-- HARD_REPAIR: a queued row is repaired under quiet conditions, or the device refuses. -/
def State.hardRepair (s : State) (b c row : Nat) (ok : Bool) : State :=
  if s.quiet b && s.calAllowed b && (s.bmem b).pprQueue.contains (c, row) then
    let held (g : Nat) : Bool := match s.lpddrPlace (g * 64) with
      | some (d, x) => d == b && s.chanAt b x == c && s.rowOf b x == row
      | none => false
    let s := if ok then { s with errs := s.errs.filter fun e => e.2 != 1 || !held e.1 } else s
    let s := s.modBmem b fun m => { m with pprQueue := m.pprQueue.filter fun e => e != (c, row) }
    let s := s.countFld (memKey b 0x48) (if ok then 16 else 32) 16 1
    s.logEvent 0x0404 (1 + b) (lineBit (s.leaderOf b)) (32 * b + c) row (if ok then 0 else 2)
  else s

/-- REFRESH: the rate that a package reports in MR4. In self-refresh the controllers issue nothing. -/
def State.refreshAt (s : State) (b pkg rate : Nat) : State :=
  if (s.bmem b).selfRefresh then s else s.modBmem b fun m => { m with refresh := tblSet 0 m.refresh pkg rate }

/-- A write of MEM_MAINT.GRANT_MS (R243). -/
def State.writeMaint (s : State) (b : Nat) (v : Word) : State :=
  let s := s.undefIf (v.field 17 15 != 0 || v.field 48 16 != 0) .reservedWrite
  let ms := v.field 0 16
  let s := s.modBmem b fun m => { m with maintEnd := if ms = 0 then none else some (s.time + ms * 1000000) }
  if s.quiet b then s else s.abandonCal b

/-- MAINT_WINDOW_END: the window's time has passed. -/
def State.maintWindowEnd (s : State) (b : Nat) : State :=
  match (s.bmem b).maintEnd with
  | some t =>
    if t ≤ s.time then
      let s := s.modBmem b fun m => { m with maintEnd := none }
      if s.quiet b then s else s.abandonCal b
    else s
  | none => s

/-! The commands. -/

/-- SPARE_COPY_DONE (R220). -/
def execSpareCopyDone (b : BasinId) (bank : Nat) : State → Out := run fun s => s.spareCopyDone b bank
/-- CHANNEL_LINK_LOSS (R226). -/
def execChannelLinkLoss (mc : MemChanId) : State → Out := run fun s => s.linkLoss (mc / 32) (mc % 32)
/-- CHANNEL_RETRAIN_DONE (R226). -/
def execChannelRetrainDone (mc : MemChanId) (ok : Bool) : State → Out :=
  run fun s => s.channelRetrainDone (mc / 32) (mc % 32) ok
/-- SCRUB_PASS (R232). -/
def execScrubPass (b : BasinId) (rsv : Bool) (found : List EccEvent) : State → Out := runU fun s => s.scrubPass b rsv found
/-- SCRUB_PASS_END (R232). -/
def execScrubPassEnd (b : BasinId) (rsv : Bool) : State → Out := run fun s => s.scrubPassEnd b rsv
/-- HARD_REPAIR (R234). -/
def execHardRepair (mc : MemChanId) (row : Nat) (ok : Bool) : State → Out :=
  run fun s => s.hardRepair (mc / 32) (mc % 32) row ok
/-- REFRESH (R235). -/
def execRefresh (b : BasinId) (pkg : Fin 4) (rate : Nat) : State → Out := run fun s => s.refreshAt b pkg rate
/-- LOAD_CLASS_CHANGE (R236). -/
def execLoadClassChange (b : BasinId) (full : Bool) : State → Out := run fun s => s.loadClass b full
/-- LIVE_CHECK (R238). -/
def execLiveCheck (mc : MemChanId) : State → Out := run fun s => s.liveCheck (mc / 32) (mc % 32)
/-- LIVE_CHECK_DONE (R238). -/
def execLiveCheckDone (mc : MemChanId) (pass : Bool) : State → Out := run fun s => s.liveCheckDone (mc / 32) (mc % 32) pass
/-- LINE_IDLE (R239). -/
def execLineIdle (l : LineId) : State → Out := run fun s => s.lineIdle l
/-- QUIET_RETRAIN (R239). -/
def execQuietRetrain (mc : MemChanId) : State → Out := run fun s => s.quietRetrain (mc / 32) (mc % 32)
/-- CALIBRATION_ABANDON (R239). -/
def execCalibrationAbandon (mc : MemChanId) : State → Out := run fun s => s.calibrationAbandon (mc / 32) (mc % 32)
/-- GRANT_MS (R243): a write of MEM_MAINT. -/
def execGrantMs (via : Via) (b : BasinId) (v : Word) : State → Out := runU fun s => s.bWrite via b (·.writeMaint b v)
/-- MAINT_WINDOW_END (R239). -/
def execMaintWindowEnd (b : BasinId) : State → Out := run fun s => s.maintWindowEnd b

end Sys2Proof.Machine
end

