-- ==== Sys2Proof/Machine/Keccak.lean ====
section
/-!
DEFINITION. SHAKE256 of FIPS 202, which R52, R53, R478 and R485 name: PRESUMED from that standard, as the manual gives
only the name.
-/
namespace Sys2Proof.Machine

/-- Rotation of a lane to the left. -/
def lrot (w : Word) (n : Nat) : Word := (w <<< n) ||| (w >>> (64 - n))

/-- A lane of the state, at x + 5 × y. -/
def lane (a : List Word) (i : Nat) : Word := a.getD i 0

/-- Rotation offsets of step ρ, at x + 5 × y. -/
def rhoOffsets : List Nat :=
  [0, 1, 62, 28, 27, 36, 44, 6, 55, 20, 3, 10, 43, 25, 39, 41, 45, 15, 21, 8, 18, 2, 61, 56, 14]

/-- Round constants of step ι. -/
def roundConstants : List Word :=
  [0x0000000000000001, 0x0000000000008082, 0x800000000000808A, 0x8000000080008000, 0x000000000000808B,
   0x0000000080000001, 0x8000000080008081, 0x8000000000008009, 0x000000000000008A, 0x0000000000000088,
   0x0000000080008009, 0x000000008000000A, 0x000000008000808B, 0x800000000000008B, 0x8000000000008089,
   0x8000000000008003, 0x8000000000008002, 0x8000000000000080, 0x000000000000800A, 0x800000008000000A,
   0x8000000080008081, 0x8000000000008080, 0x0000000080000001, 0x8000000080008008]

/-- One round of Keccak-f[1600]. -/
def keccakRound (a : List Word) (rc : Word) : List Word :=
  let c := (List.range 5).map fun x => (List.range 5).foldl (fun w y => w ^^^ lane a (x + 5 * y)) 0
  let d := (List.range 5).map fun x => lane c ((x + 4) % 5) ^^^ lrot (lane c ((x + 1) % 5)) 1
  let t := (List.range 25).map fun i => lrot (lane a i ^^^ lane d (i % 5)) (rhoOffsets.getD i 0)
  -- lane (x, y) of π is lane (x + 3y, x)
  let b := (List.range 25).map fun i => lane t ((i % 5 + 3 * (i / 5)) % 5 + 5 * (i % 5))
  let e := (List.range 25).map fun i =>
    let y := i / 5
    lane b i ^^^ ((~~~ lane b ((i % 5 + 1) % 5 + 5 * y)) &&& lane b ((i % 5 + 2) % 5 + 5 * y))
  match e with
  | [] => []
  | w :: r => (w ^^^ rc) :: r

/-- Keccak-f[1600]. -/
def keccakF (a : List Word) : List Word := roundConstants.foldl keccakRound a

/-- Absorbs blocks of 17 lanes. -/
def absorb : (fuel : Nat) → (a : List Word) → (ws : List Word) → List Word
  | 0, a, _ => a
  | k + 1, a, ws =>
    if ws = [] then a
    else absorb k (keccakF ((List.range 25).map fun i => lane a i ^^^ if i < 17 then lane ws i else 0)) (ws.drop 17)

/-- Squeezes blocks of 136 bytes. -/
def squeeze : (blocks : Nat) → (a : List Word) → List Byte
  | 0, _ => []
  | k + 1, a => (a.take 17).flatMap (fun w => leBytes 8 w.toNat) ++ squeeze k (keccakF a)

/-- The 64-bit lanes of a byte string. -/
def lanesOf : (n : Nat) → (bs : List Byte) → List Word
  | 0, _ => []
  | n + 1, bs => BitVec.ofNat 64 (leNat (bs.take 8)) :: lanesOf n (bs.drop 8)

/-- The first `n` bytes of SHAKE256 over a message. -/
def shake256 (n : Nat) (msg : List Byte) : List Byte :=
  let blocks := msg.length / 136 + 1
  let zeros := blocks * 136 - msg.length - 1
  let padded :=
    if zeros = 0 then msg ++ [0x9F]
    else msg ++ [0x1F] ++ List.replicate (zeros - 1) 0 ++ [0x80]
  (squeeze ((n + 135) / 136) (absorb blocks (List.replicate 25 0) (lanesOf (blocks * 17) padded))).take n

end Sys2Proof.Machine
end

