-- ==== Sys2Proof/Machine/TtImage.lean ====
section
/-!
DEFINITION. Timetable images (R49 to R68) and the checks of R72 that read an image: what a module takes from it, or the
code with which it refuses it.
-/
namespace Sys2Proof.Machine

/-- HUB_ID (R478). -/
def hubId : Nat := leNat (shake256 8 Config.identityKey)

/-- The stored hash of an owner key (R53, R482). -/
def ownerKeyHash (key : List Byte) : List Byte := shake256 64 key

/-- The field of `n` bytes at byte `off` of an image. -/
def fieldAt (img : List Byte) (off n : Nat) : Nat := leNat ((img.drop off).take n)

/-- A section (R54): its index, type, SVER, BASINS, whether its reserved fields are 0, and its records. -/
structure TtSection where
  idx : Nat
  type : Nat
  sver : Nat
  basins : Nat
  clean : Bool
  recs : List Nat
deriving DecidableEq, Repr

/-- Record size of a section type; 0 for an unknown one (R55). -/
def recSize (type : Nat) : Nat := if type = 5 ∨ type = 7 then 16 else if 1 ≤ type ∧ type ≤ 11 then 8 else 0

/-- A type whose record is per basin (R55). -/
def perBasin (type : Nat) : Bool := [1, 2, 3, 4, 6, 7, 8, 10].contains type

/-- Parses sections from byte `off` up to `stop`. Where the lengths disagree, it gives the SECTION that TT_STATUS names:
the index of a section that does not fit, or 0xFF where bytes are left over (R54, R70). -/
def parseSections (img : List Byte) (stop : Nat) : (count i off : Nat) → Except Nat (List TtSection)
  | 0, _, off => if off = stop then .ok [] else .error 0xFF
  | k + 1, i, off =>
    if stop < off + 16 then .error i
    else
      let type := fieldAt img off 1
      let len := fieldAt img (off + 4) 4
      let n := fieldAt img (off + 8) 4
      let size := recSize type
      if len < 16 ∨ len % 8 ≠ 0 ∨ stop < off + len ∨ (size ≠ 0 ∧ len ≠ 16 + n * size) then .error i
      else
        (parseSections img stop k (i + 1) (off + len)).map fun r =>
          { idx := i, type := type, sver := fieldAt img (off + 1) 1, basins := fieldAt img (off + 2) 1
            clean := fieldAt img (off + 3) 1 == 0 && fieldAt img (off + 12) 4 == 0
            recs := if size = 0 then [] else (List.range n).map fun j => fieldAt img (off + 16 + j * size) size } :: r

/-- A refusal: RESULT, SECTION and BASINS of TT_STATUS. -/
structure TtRefusal where
  code : Nat
  sect : Nat := 0xFF
  basins : Nat := 0
deriving DecidableEq, Repr

/-! The running content. -/

/-- The leader that a Timetable gives basin `b`, or 8 (R18, R57). -/
def Timetable.leader (t : Timetable) (b : Nat) : Nat :=
  let z := (t.basin b).size
  if z ≤ 3 then b / 2 ^ z * 2 ^ z else 8

/-- The basins of the Line led by `l` under a Timetable. -/
def Timetable.members (t : Timetable) (l : Nat) : List Nat := (List.range 8).filter fun b => t.leader b == l

/-- The leaders of a Timetable's Lines. -/
def Timetable.leads (t : Timetable) : List Nat := (List.range 8).filter fun b => t.leader b == b

/-- The mask of a list of basins. -/
def basinMask (bs : List Nat) : Nat := bs.foldl (fun m b => m ||| 2 ^ b) 0

/-- The memory ranges of basin `b` under a Timetable: first and past-last DPA (R34, R224). -/
def Timetable.ranges (t : Timetable) (b : Nat) : List (Nat × Nat) :=
  let n := (chanList (t.basin b).chanMap).length
  [(lpddrBase b, lpddrBase b + usableGib n * 2 ^ 30), (rsvBase b, rsvBase (b + 1))]

/-- The memory of the Line led by `l` under a Timetable in ascending order: its LPDDR5X ranges and then its Reservoir,
whose slices adjoin (R34). -/
def Timetable.lineRanges (t : Timetable) (l : Nat) : List (Nat × Nat) :=
  ((t.members l).map fun b => (t.ranges b).headD (0, 0)) ++ (t.members l).flatMap fun b => (t.ranges b).tail

/-- The content of a per-basin section set for a basin. -/
def TtBasin.put (r : TtBasin) (type v : Nat) : TtBasin :=
  match type with
  | 1 => { r with lines := v }
  | 2 => { r with grids := v }
  | 3 => { r with cores := v }
  | 4 => { r with queues := v }
  | 6 => { r with rail := v }
  | 7 => { r with mem0 := v % 2 ^ 64, mem1 := v / 2 ^ 64 }
  | 8 => { r with power := v }
  | _ => { r with test := v }

/-- The basins of a mask, ascending. -/
def maskBasins (m : Nat) : List Nat := (List.range 8).filter (bit m)

/-- The ADMISSION entries of basin `b`. -/
def admissionOf (adm : List Word) (b : Nat) : List Word := adm.filter fun w => w.field 2 3 == b

/-- LINE of a WINDOWS record. -/
def winLine (w : Word × Word) : Nat := w.1.field 11 3

/-- The windows that a Line's table holds. -/
def windowsOf (ws : List (Word × Word)) (l : Nat) : List (Word × Word) := ws.filter fun w => winLine w == l

/-- A Timetable with one section's content. WINDOWS comes last, once the Lines are known (R61). -/
def Timetable.load (t : Timetable) (s : TtSection) : Timetable :=
  if perBasin s.type then
    ((maskBasins s.basins).zip s.recs).foldl (fun t e => t.setBasin e.1 ((t.basin e.1).put s.type e.2)) t
  else if s.type = 9 then
    { t with admission := (t.admission.filter fun w => !bit s.basins (w.field 2 3)) ++ s.recs.map (BitVec.ofNat 64 ·) }
  else if s.type = 11 then { t with moduleRec := s.recs.headD 0 }
  else t

/-- The WINDOWS section replaces the table of every Line that owns a basin in BASINS, before or after (R61). -/
def Timetable.loadWindows (t old : Timetable) (s : TtSection) : Timetable :=
  let hit (l : Nat) : Bool :=
    bit s.basins l || (t.members l).any (bit s.basins) || (old.members l).any (bit s.basins)
  { t with windows := (t.windows.filter fun w => !hit (winLine w)) ++
      s.recs.map fun r => (BitVec.ofNat 64 r, BitVec.ofNat 64 (r / 2 ^ 64)) }

/-! BAD_FIELD: reserved fields and ranges (R57 to R67). -/

/-- The spares that a GRIDS record binds: slot and the grid name 4 × pond + grid that it serves (R58). -/
def spareTargets (r : Nat) : List (Nat × Nat) :=
  (if bit r 40 then [(32, bits r 41 4)] else []) ++ (if bit r 45 then [(33, 16 + bits r 46 4)] else [])

/-- A GRIDS record with AUTO 0 gives each enabled pond its four grids once, and a disabled pond none (R58). -/
def gridsWhole (r : Nat) : Bool :=
  let named := (List.range 32).filter (bit r) ++ (spareTargets r).map (·.2)
  (List.range 32).all fun g => (named.filter (· == g)).length == if bit r (32 + g / 4) then 1 else 0

/-- The number of bits set in the low `n` bits. -/
def onesIn (n v : Nat) : Nat := ((List.range n).filter (bit v)).length

/-- A record's reserved fields are 0 and its values within their ranges. -/
def recordOk (type r : Nat) : Bool :=
  match type with
  | 1 => bits r 6 26 == 0 && [0, 1, 2, 3, 15].contains (bits r 0 4)
  | 2 => bits r 55 9 == 0 && decide (bits r 51 4 ≤ 6) && (bit r 50 || gridsWhole r)
  | 3 => bits r 18 46 == 0 && (bit r 17 || (decide (1 ≤ onesIn 17 r) && decide (onesIn 17 r ≤ 16)))
  | 4 => bits r 10 6 == 0 && bits r 26 38 == 0 && decide (bits r 0 10 ≤ 512) && decide (bits r 16 10 ≤ 512)
  | 5 => bits r 16 16 == 0 && bits r 60 4 == 0 && decide (1 ≤ bits r 32 28) && bits r 64 12 == 0
         && bits r 116 12 == 0
  | 6 => bits r 8 56 == 0
  | 7 => bits r 52 12 == 0 && bits r 78 50 == 0 && bits r 0 32 != 0
  | 8 => bits r 44 20 == 0 && decide (8 ≤ bits r 28 8) && decide (bits r 28 8 ≤ 64) && decide (8 ≤ bits r 36 8)
         && decide (bits r 36 8 ≤ 136)
  | 9 =>
    bits r 5 3 == 0 &&
    (match bits r 0 2 with
     | 0 => bits r 24 40 == 0 && bits r 8 8 != 0 && bits r 16 8 != 0
     | 1 => bits r 22 10 == 0 && bits r 48 16 == 0 && bits r 32 16 != 0
     | 2 => bits r 18 46 == 0 && decide (bits r 8 10 < 512)
     | _ => false)
  | 10 => bits r 11 5 == 0 && bits r 26 6 == 0 && bits r 41 23 == 0 && decide (10 ≤ bits r 0 11)
          && decide (bits r 0 11 ≤ 1440) && decide (60 ≤ bits r 16 10) && decide (bits r 16 10 ≤ 600)
          && [16, 32, 64].contains (bits r 32 8)
  | _ => bits r 12 52 == 0 && (bits r 0 12 == 0 || (decide (1000 ≤ bits r 0 12) && decide (bits r 0 12 ≤ 3800)))

/-- An ADMISSION entry against the Lines that would stand (R66): WEIGHTS on a leader only, and the port of an E_CONTEXT
among those of its basin's Line. -/
def admissionFits (t : Timetable) (r : Nat) : Bool :=
  let b := bits r 2 3
  match bits r 0 2 with
  | 0 => t.leader b == b
  | 1 => decide ((t.basin b).size ≤ 3 ∧ bits r 17 5 < 4 * 2 ^ (t.basin b).size)
  | _ => true

/-- PAGES of a window. The field has 28 bits, so that the largest size, 2^28 pages, cannot be written (R61). -/
def windowPages (w : Word) : Nat := w.field 32 28

/-- The first record of a section that breaks a field rule, as the basins it names. `t` is the Timetable that would
stand. An ADMISSION entry whose BASIN the section's BASINS does not name is refused too (DESIGN CHOICE: R66 does not say
so; notes/assumptions). -/
def badRecord (t : Timetable) (s : TtSection) : Option Nat :=
  if perBasin s.type then
    ((maskBasins s.basins).zip s.recs).findSome? fun e => if recordOk s.type e.2 then none else some (2 ^ e.1)
  else
    s.recs.findSome? fun r =>
      let b := bits r 2 3
      if !recordOk s.type r then some s.basins
      else if s.type = 5 then if bit s.basins (bits r 11 3) then none else some s.basins
      else if s.type = 9 then
        if bit s.basins b && admissionFits t r then none else some (2 ^ b)
      else none

/-- The first ADMISSION entry that the load keeps and that does not fit the Lines it forms, as its basin (R56). -/
def badKept (t : Timetable) : Option Nat :=
  t.admission.findSome? fun w => if admissionFits t w.toNat then none else some (2 ^ w.field 2 3)

/-! UNIT_SHORT (R58, R59, R62, R63, R439). -/

/-- The grid names of a pond mask that a spare must serve: enabled native slots that are RETIRED. -/
def State.gridsNeeding (s : State) (b r : Nat) (half : Nat) : List Nat :=
  (List.range 16).map (· + 16 * half) |>.filter fun g => bit r (32 + g / 4) && s.retired (gridHealth b g)

/-- The type of the first section that names or needs a unit basin `b` does not have (R439, R442). It is judged on the
content that would stand, also of a type that the image does not carry (DESIGN CHOICE; notes/assumptions). -/
def State.unitShort (s : State) (t : Timetable) (b : Nat) : Option Nat :=
  let r := t.basin b
  let half (i : Nat) : Bool :=
    let need := (s.gridsNeeding b r.grids i).length
    decide (need ≤ if s.retired (gridHealth b (32 + i)) then 0 else 1)
  let gridsOk :=
    if bit r.grids 50 then half 0 && half 1
    else ((List.range 32).filter (bit r.grids) ++ (spareTargets r.grids).map (·.1)).all fun g => !s.retired (gridHealth b g)
  let coreOk (j : Nat) : Bool := !s.retired (coreHealth b j)
  let coresOk :=
    if bit r.cores 17 then (List.range 17).any coreOk
    else (List.range 17).all fun j => !bit r.cores j || coreOk j
  let railOk := (List.range 4).all fun p => !r.portEn p || !s.portFailed (4 * b + p)
  let memOk := (chanList r.chanMap).all fun c => !s.flag (memKey b 8) (32 + c)
  let dead (p : Nat) : Bool := decide ((s.spur p).st = .failed ∨ (s.spur p).st = .refused)
  if (s.die (1 + b)).st ≠ .ok ∨ dead b ∨ dead (8 + b / 4) ∨ dead (18 + b) then some 1
  else if !gridsOk then some 2
  else if !coresOk then some 3
  else if !railOk then some 6
  else if !memOk then some 7
  else none

/-- The basins whose joined Line crosses a FAILED or REFUSED ring spur, under a Timetable (R429, R439). -/
def State.ringBroken (s : State) (t : Timetable) : List Nat :=
  (List.range 8).flatMap fun n =>
    let m := (n + 1) % 8
    let st := (s.spur (10 + n)).st
    if (st = .failed ∨ st = .refused) ∧ t.leader n = t.leader m ∧ t.leader n < 8 ∧ (n < m ∨ (t.basin n).size = 3) then
      [n, m]
    else []

/-- The joined basins whose grid-microcode levels differ (R57, R440). -/
def State.ucodeMixed (s : State) (t : Timetable) (ls : List Nat) : List Nat :=
  ls.flatMap fun l =>
    let ms := t.members l
    if ms.all fun b => (s.die (1 + b)).ucode == (s.die (1 + l)).ucode then [] else ms

/-! The checks. -/

/-- What an accepted image gives: the Timetable, and at boot the refusals that left basins OFF (R79). -/
structure TtAccepted where
  next : Timetable
  hasModule : Bool := false
  partials : List TtRefusal := []
deriving DecidableEq, Repr

/-- The section of a type, by its index. -/
def sectIdx (ss : List TtSection) (type : Nat) : Nat := ((ss.find? fun x => x.type == type).map (·.idx)).getD 0xFF

/-- The header, lengths, digest and owner checks of R72, codes 0x02 to 0x09. Where an owner key is enrolled, a
countersignature block that does not end in its 4 zero bytes fails R53 (DESIGN CHOICE of the code; notes/assumptions). -/
def State.ttHeader (s : State) (img : List Byte) (boot sigOk : Bool) : Except TtRefusal (List TtSection) :=
  let ver := fieldAt img 4 2
  let flags := fieldAt img 14 2
  let gen := fieldAt img 16 8
  let signed := ver == 3 && bit flags 0
  let stop := 64 + fieldAt img 8 4
  let total := stop + 64 + if signed then 2888 else 0
  let secs := parseSections img stop (fieldAt img 12 2) 0 64
  let block := img.drop (stop + 64)
  if fieldAt img 0 4 ≠ 0x4C425454 then .error { code := 0x02 }
  else if (ver ≠ 2 ∧ ver ≠ 3) ∨ (ver = 2 ∧ (bit flags 0 ∨ 2 ^ 32 ≤ gen)) then .error { code := 0x03 }
  else if img.length < 64 ∨ fieldAt img 6 2 ≠ 64 ∨ img.length ≠ total ∨ 2 ^ 20 < total ∨ total % 8 ≠ 0 then
    .error { code := 0x04 }
  else match secs with
  | .error i => .error { code := 0x04, sect := i }
  | .ok ss =>
  if shake256 64 (img.take stop) ≠ (img.drop stop).take 64 then .error { code := 0x05 }
  else if s.nvm.ownerHash.isSome ∧ signed = false then .error { code := 0x06 }
  else if s.nvm.ownerHash.isSome ∧ (s.nvm.ownerHash ≠ some (ownerKeyHash (block.take 64)) ∨ sigOk = false
      ∨ (block.drop 2884).any (· != 0)) then
    .error { code := 0x07 }
  else if fieldAt img 24 8 ≠ 0 ∧ fieldAt img 24 8 ≠ hubId then .error { code := 0x08 }
  else if boot = false ∧ gen ≤ s.tt.gen then .error { code := 0x09 }
  else .ok ss

/-- The section checks of R55, code 0x0A. -/
def badSection (ver : Nat) (ss : List TtSection) : Option TtRefusal :=
  if ss.length = 0 ∨ 12 < ss.length then some { code := 0x0A }
  else
    ss.findSome? fun x =>
      let dup := ss.any fun y => decide (y.idx < x.idx) && y.type == x.type
      let shape :=
        if x.type = 11 then x.basins == 0 && x.recs.length == 1
        else x.basins != 0 && (!perBasin x.type || x.recs.length == onesIn 8 x.basins)
      if recSize x.type == 0 || x.sver != 1 || dup || (x.type == 10 && ver == 2) || !shape then
        some { code := 0x0A, sect := x.idx, basins := x.basins }
      else none

/-- R57: the basins of each group carry one record, and BASINS covers every Line it names, before and after. -/
def badGroup (old t : Timetable) (ss : List TtSection) : Option TtRefusal :=
  (ss.find? fun x => x.type == 1).bind fun x =>
    (maskBasins x.basins).findSome? fun b =>
      let z := (t.basin b).size
      let g := if z ≤ 3 then (List.range (2 ^ z)).map (· + b / 2 ^ z * 2 ^ z) else [b]
      let was := if old.leader b < 8 then old.members (old.leader b) else [b]
      if !g.all (fun m => bit x.basins m && (t.basin m).lines == (t.basin b).lines) then
        some { code := 0x0C, sect := x.idx, basins := basinMask g }
      else if !was.all (bit x.basins) then some { code := 0x0C, sect := x.idx, basins := basinMask was }
      else none

/-- R56: a LINES section comes with the other per-basin types for at least its basins. -/
def incomplete (ver : Nat) (ss : List TtSection) : Option TtRefusal :=
  (ss.find? fun x => x.type == 1).bind fun x =>
    [2, 3, 4, 6, 7, 8, 10].findSome? fun ty =>
      let have_ := ((ss.find? fun y => y.type == ty).map (·.basins)).getD 0
      let missing := (maskBasins x.basins).filter fun b => !bit have_ b
      if (ty = 10 ∧ ver = 2) ∨ missing = [] then none
      else some { code := 0x0D, sect := x.idx, basins := basinMask missing }

/-- R44 and R66: the E rates and contexts of each rail port. -/
def badAdmission (t : Timetable) (ss : List TtSection) : Option TtRefusal :=
  (List.range 32).findSome? fun p =>
    let rs := eRates t.leader t.admission p
    if eLimit ((t.basin (p / 4)).legacy (p % 4)) < rs.sum ∨ 64 < rs.length then
      some { code := 0x10, sect := sectIdx ss 9, basins := 2 ^ (p / 4) }
    else none

/-- R61 and R63: windows in their Lines' memory with indexes used once, and leaders' windows over their Lines' memory. -/
def badRange (t : Timetable) (ss : List TtSection) (covered : Nat) : Option TtRefusal :=
  let inLine (l lo hi : Nat) : Bool := decide (hi ≤ ((t.lineRanges l).foldl (fun p r => if r.1 ≤ p ∧ p < r.2 then r.2 else p) lo))
  let badWin := (t.windows.zipIdx).findSome? fun (w, i) =>
    let l := winLine w
    let dup := (t.windows.zipIdx).any fun (v, j) => decide (j < i) && v.1.field 0 11 == w.1.field 0 11
    let lo := w.2.field 0 52
    if dup || t.leader l != l || !inLine l lo (lo + windowPages w.1 * 4096) then
      some ({ code := 0x11, sect := sectIdx ss 5, basins := 2 ^ l } : TtRefusal)
    else none
  badWin.orElse fun _ =>
    t.leads.findSome? fun l =>
      let lo := (t.basin l).winBase * 2 ^ 32
      let meets := (t.lineRanges l).any fun r => decide (r.1 < lo + 2 ^ 32 ∧ lo < r.2)
      if (t.members l).any (bit covered) && !meets then
        some { code := 0x11, sect := sectIdx ss 7, basins := 2 ^ l }
      else none

/-- The module cap that a MODULE record gives (R65). -/
def moduleCap (r : Nat) : Nat := if bits r 0 12 = 0 then 3800 else bits r 0 12

/-- R65: the budgets of the basins that stand in a Line, against the module cap `cap` that results. -/
def badPower (t : Timetable) (ss : List TtSection) (cap : Nat) : Option TtRefusal :=
  let bs := (List.range 8).filter fun b => decide (t.leader b < 8) && (t.basin b).budget != 0
  if cap < (bs.map fun b => (t.basin b).budget).sum then
    some { code := 0x12, sect := sectIdx ss 8, basins := basinMask bs }
  else none

/-- A refusal where one is found. -/
def refuseIf (r : Option TtRefusal) : Except TtRefusal Unit :=
  match r with
  | some x => .error x
  | none => .ok ()

/-- Leaves basins OFF (R79): their LINES content runs with SIZE 0xF, so that a later load compares with that (DESIGN
CHOICE; notes/assumptions). -/
def Timetable.leaveOff (t : Timetable) (bs : List Nat) : Timetable :=
  bs.foldl (fun t b => t.setBasin b { t.basin b with lines := (t.basin b).lines / 16 * 16 + 15 }) t

/-- The checks of R72 over an image, codes 0x02 to 0x12 in order. At boot the windows of a Line that is left OFF go with
it, as the chapter's own boot of a lost channel has them; R61 alone would refuse the image (DESIGN CHOICE;
notes/assumptions). -/
def State.ttCheck (s : State) (img : List Byte) (boot sigOk : Bool) : Except TtRefusal TtAccepted := do
  let ss ← s.ttHeader img boot sigOk
  let ver := fieldAt img 4 2
  refuseIf (badSection ver ss)
  let old : Timetable := if boot then {} else s.tt
  let t := ss.foldl Timetable.load { old with gen := fieldAt img 16 8, digest := (img.drop (64 + fieldAt img 8 4)).take 64 }
  refuseIf (if 2 ≤ fieldAt img 14 2 || (img.drop 0x24).take 28 != List.replicate 28 0 then some { code := 0x0B } else none)
  refuseIf (ss.findSome? fun x =>
    if !x.clean then some { code := 0x0B, sect := x.idx, basins := x.basins }
    else (badRecord t x).map fun m => { code := 0x0B, sect := x.idx, basins := m })
  refuseIf (if boot then none else (badKept t).map fun m => { code := 0x0B, sect := sectIdx ss 9, basins := m })
  refuseIf (badGroup old t ss)
  refuseIf (if boot then none else incomplete ver ss)
  let t := match ss.find? fun x => x.type == 5 with
    | some x => t.loadWindows old x
    | none => t
  let covered := if boot then 0xFF else ss.foldl (fun m x => m ||| x.basins) 0
  let lines : List Nat := t.leads.filter fun l => (t.members l).any (bit covered)
  let all := lines.flatMap t.members
  let ring := (s.ringBroken t).filter all.contains
  let short : List Nat := all.filter fun b => (s.unitShort t b).isSome || ring.contains b
  let why := ((all.findSome? fun b => s.unitShort t b).map (sectIdx ss)).getD (sectIdx ss 1)
  let mixed := s.ucodeMixed t lines
  let shortR : Option TtRefusal := if short = [] then none else some { code := 0x0E, sect := why, basins := basinMask short }
  let mixedR : Option TtRefusal :=
    if mixed = [] then none else some { code := 0x0F, sect := sectIdx ss 1, basins := basinMask mixed }
  if !boot then
    refuseIf shortR
    refuseIf mixedR
  let off := if boot then all.filter fun b => (t.members (t.leader b)).any fun m => short.contains m || mixed.contains m
    else []
  let left : Timetable := t.leaveOff off
  let t := { left with windows := left.windows.filter fun w => !off.contains (winLine w) }
  refuseIf (badAdmission t ss)
  refuseIf (badRange t ss covered)
  let hasModule := ss.any fun x => x.type == 11
  refuseIf (badPower t ss (if boot || hasModule then moduleCap t.moduleRec else s.power.cap))
  return { next := t, hasModule := hasModule, partials := shortR.toList ++ mixedR.toList }

/-! What an accepted image changes (R74, R77, R225). -/

/-- A section differs for basin `b`. -/
def Timetable.differs (t u : Timetable) (b : Nat) : Bool :=
  t.basin b != u.basin b || admissionOf t.admission b != admissionOf u.admission b

/-- The basins of the Lines that an apply touches, those before it and those after. -/
def Timetable.touched (t u : Timetable) : List Nat :=
  let winDiff (l : Nat) : Bool := windowsOf t.windows l != windowsOf u.windows l
  let hit (b : Nat) : Bool := t.differs u b || winDiff b
  let near (x : Timetable) (b : Nat) : Bool := decide (x.leader b < 8) && (x.members (x.leader b)).any hit
  (List.range 8).filter fun b => hit b || near t b || near u b

/-- Basins whose membership or CHAN_MAP changes: they are cleared. -/
def Timetable.clears (t u : Timetable) : List Nat :=
  (List.range 8).filter fun b =>
    (t.basin b).size != (u.basin b).size || (t.basin b).chanMap != (u.basin b).chanMap

end Sys2Proof.Machine
end

