-- ==== Sys2Proof/Machine/Timetable.lean ====
section
/-!
DEFINITION. Loading, applying and persisting a Timetable (R69 to R80).
-/
namespace Sys2Proof.Machine

/-! Binding units (R58, R59, R136, R412). -/

/-- The grid names of a basin with the slot that each is bound to (R58). -/
def State.gridBinds (s : State) (b r : Nat) : List (Nat × Nat) :=
  if bit r 50 then
    ((List.range 32).filter fun g => bit r (32 + g / 4)).map fun g =>
      (g, if s.retired (gridHealth b g) then 32 + g / 16 else g)
  else (((List.range 32).filter (bit r)).map fun g => (g, g)) ++ (spareTargets r).map fun e => (e.2, e.1)

/-- The physical cores that a basin activates, in the order of their logical numbers (R59). AUTO takes every core that is
not RETIRED as healthy, a SUSPECT one included (DESIGN CHOICE; notes/assumptions). -/
def State.coreBinds (s : State) (b r : Nat) : List Nat :=
  if bit r 17 then ((List.range 17).filter fun j => !s.retired (coreHealth b j)).take 16
  else (List.range 17).filter (bit r)

/-- Binds the grids and cores of a basin from its records; a basin that belongs to no Line binds none. -/
def State.bindBasin (s : State) (b : Nat) : State :=
  let r := s.tt.basin b
  let rest := s.bindings.filter fun e => e.1 / 64 != b
  let s := { s with sidings := tblErase s.sidings b }
  if s.leaderOf b = 8 then { s with bindings := rest }
  else
    let grids := (s.gridBinds b r.grids).map fun e => (b * 64 + e.1, e.2)
    let cores := ((s.coreBinds b r.cores).zipIdx).map fun e => (b * 64 + 32 + e.2, e.1)
    { s with bindings := (grids ++ cores).foldl (fun t e => tblSet 34 t e.1 e.2) rest }

/-! Applying (R76, R77). -/

/-- The rail ports of a basin as its RAIL record has them: a port leaving service is OFF, one entering it is DARK until it
trains, and a changed rate retrains it (R335, R361). -/
def State.applyPorts (s : State) (b : Nat) : State :=
  s.each (List.range 4) fun s i =>
    let p := 4 * b + i
    if !s.portInService p then
      if (s.port p).st = .off then s else (s.portLoses p .off)
    else if (s.port p).st = .off then s.modPort p fun q => { q with st := .dark, legacy := (s.tt.basin b).legacy i }
    else if (s.port p).legacy != (s.tt.basin b).legacy i then s.retrainPort p false
    else s

/-- Puts a Timetable in force on the basins `bs` (R76 steps 3 to 5). Their Lines leave APPLYING together; `cause` is what
LN_STATUS.CAUSE reads. -/
def State.putTimetable (s : State) (t : Timetable) (bs clear : List Nat) (cause : Nat) : State :=
  let old := s
  let s := s.each clear fun s b => (s.clearBasin b).replaceKey b
  let s := { s with tt := t, ttLoad := none }
  let was := bs.filter s.isLeader
  let now := bs.filter fun b => t.leader b == b
  let s := { s with leaders := bs.foldl (fun m b => tblSet 8 m b (t.leader b)) s.leaders }
  let s := s.each bs fun s b => s.bindBasin b
  let s := s.each bs fun s b => s.modBmem b fun m => { m with chanMap := (t.basin b).chanMap }
  let s := s.each (was.filter fun b => !now.contains b) fun s b => s.setLineState b .off
  let s := s.each (bs.filter fun b => !now.contains b) fun s b => s.modLine b fun _ =>
    if t.leader b = 8 then { cause := cause, ttGen := t.gen % 2 ^ 16 } else {}
  let s := s.each now fun s l =>
    let s := s.modLine l fun ln => { ln with cause := cause, ttGen := t.gen % 2 ^ 16 }
    ((s.resetLine l).setLineState l .stopped).restBasins l
  (s.each bs fun s b => s.applyPorts b).signalChanges old

/-- R76 steps 1 and 2: the touched Lines enter APPLYING and are reset. -/
def State.enterApplying (s : State) (bs : List Nat) : State :=
  let s := s.each (bs.filter s.isLeader) fun s l =>
    (((s.setLineState l .applying).abandonTests l).resetLine l).setCause l 0x07
  s.each (bs.filter fun b => s.leaderOf b == 8) fun s b => s.setCause b 0x07

/-! Loading (R69 to R73). -/

/-- The source of a load as the Logbook gives it. -/
def TtSrc.code : TtSrc → Nat
  | .host => 0 | .slotA => 1 | .slotB => 2

/-- TT_STATUS (R70). BUSY reads 1 from step 1 of the boot order until step 7 ends (R541). -/
def State.ttStatus (s : State) : Word :=
  ((((s.reg (ttKey 8)).withField 0 1 (ofBool (s.ttLoad.isSome || s.boot.stage.early))).withField 3 1 (ofBool s.nvm.ownerHash.isSome)).withField
    32 8 s.applyingMask)

/-- A load completes: BUSY clears, the result is reported, and the PF0 Timetable interrupt is raised (R71, R324). -/
def State.ttComplete (s : State) (src : TtSrc) (r : TtRefusal) : State :=
  let s := { s with ttLoad := none }
  let s := (((s.setFld (ttKey 8) 8 8 r.code).setFld (ttKey 8) 16 8 r.sect).setFld (ttKey 8) 24 8 r.basins)
  let s := s.when (r.code != 0) fun s => s.logEvent 0x0201 0 0 s.ttStatus.toNat src.code
  s.signal 0 0

/-- A firmware image of PLDM is being written to the flash (R522). -/
def State.fwWriting (s : State) : Bool :=
  match s.pldm.update with
  | some u => u.comp == 1 && !u.waiting
  | none => false

/-- A write of TT_LOAD (R69, R71, R80, R522, R551). A load waits while an owner request runs (R482). TT_SRC_ADDR and TT_SRC_LEN
describe a host source, so a flash source does not judge them (DESIGN CHOICE: R71 names no source; notes/assumptions). -/
def State.writeTtLoad (s : State) (v : Word) : State :=
  let s := s.undefIf (v.field 5 59 != 0) .reservedWrite
  let s := s.setReg (ttKey 0) (BitVec.ofNat 64 (v.field 0 4))
  if !v.flag 4 then s
  else if s.ttLoad.isSome || s.boot.stage.early || s.fwWriting then s.setFlag (ttKey 8) 1 true
  else
    let src : TtSrc := match v.field 0 2 with | 1 => .slotA | 2 => .slotB | _ => .host
    let addr := (s.reg (ttKey 0x10)).toNat
    let len := s.fld (ttKey 0x18) 0 21
    if v.field 0 2 = 3 ∨ (src = .host ∧ (addr % 8 ≠ 0 ∨ len < 8 ∨ 0x100000 < len)) then s.ttComplete src { code := 1 }
    else
      { s with ttLoad := some { stage := if s.sec.ownerOp.isSome then .waiting else .reading, src := src,
                                dryRun := v.flag 2, persist := v.flag 3, addr := addr, len := len } }

/-- The image as it is read: from the flash slot, or from host memory; none where the read fails (R72, 0x01). -/
def State.ttImage (s : State) (t : TtLoad) (readOk : Bool) : Option (List Byte) :=
  if !readOk then none
  else
    match t.src with
    | .slotA => some s.flash.slotA
    | .slotB => some s.flash.slotB
    | .host =>
      let dirty := (pieces t.addr t.len).any fun p => tblGet false s.hostPoison (p.1 / 64)
      if s.host.attached && !dirty then some (memBytes s.hostMem t.addr t.len) else none

/-- The touched Lines that do not permit an apply (R75, R489). -/
def State.ttBusy (s : State) (bs : List Nat) : List Nat :=
  (bs.filter s.isLeader).flatMap fun l =>
    let ready := (s.line l).st == .stopped || (s.line l).st == .off || (s.line l).st == .failed
    if ready && !s.confidential l && !s.clearing l then [] else s.members l

/-- What remains once a load has applied: the cap of a MODULE section, the status bits, the Logbook entry, and PERSIST
(R65, R76 steps 5 and 6, R78). A MODULE section reloads HUB_PWR_CAP also where its record equals the running one (DESIGN
CHOICE; notes/assumptions). -/
def State.ttApplied (s : State) (t : TtLoad) : State :=
  let s := s.when t.hasModule fun s => { s with power := { s.power with cap := moduleCap t.next.moduleRec } }
  let s := s.logEvent 0x0200 0 0 t.next.gen (basinMask t.touched)
  let s := s.setFlag (ttKey 8) 4 false
  match t.src with
  | .host =>
    let s := s.setFlag (ttKey 8) 2 false
    if t.persist then { s with ttLoad := some { t with stage := .persisting } } else s.ttComplete t.src { code := 0 }
  | src => ((s.setFlag (ttKey 8) 2 true).setFlag (ttKey 8) 5 (src == .slotB)).ttComplete src { code := 0 }

/-- The verdict of the signature that an image carries, over its digest (R53). -/
def imageSigned (img : List Byte) : Bool :=
  let stop := 64 + fieldAt img 8 4
  let block := img.drop (stop + 64)
  Config.xmssOk (block.take 64) ((img.drop stop).take 64) ((block.drop 64).take 2820)

/-- TT_IMAGE_READ_DONE: the checks of R72, and the start of the apply. Where an owner key is enrolled the verdict that the
event brings must be that of the image's signature; any other is no event of this module. -/
def State.ttReadDone (s : State) (readOk sigOk : Bool) : State :=
  match s.ttLoad with
  | some t =>
    if t.stage ≠ .reading then s
    else
      match s.ttImage t readOk with
      | none => s.ttComplete t.src { code := 1 }
      | some img =>
       if s.nvm.ownerHash.isSome && sigOk != imageSigned img then s
       else
        match s.ttCheck img false sigOk with
        | .error r => s.ttComplete t.src r
        | .ok a =>
          let bs := s.tt.touched a.next
          let busy := s.ttBusy bs
          if busy ≠ [] then s.ttComplete t.src { code := 0x13, basins := basinMask busy }
          else if t.dryRun then s.ttComplete t.src { code := 0 }
          else
            let t := { t with image := img, next := a.next, touched := bs, clear := s.tt.clears a.next,
                              hasModule := a.hasModule, stage := .applying }
            if bs = [] then { s with tt := a.next }.ttApplied t
            else State.signalChanges { s.enterApplying bs with ttLoad := some t } s
  | none => s

/-- TT_APPLY_DONE: clearing and programming end (R76 steps 3 to 6). -/
def State.ttApplyDone (s : State) : State :=
  match s.ttLoad with
  | some t => if t.stage = .applying then (s.putTimetable t.next t.touched t.clear 0x07).ttApplied t else s
  | none => s

/-- An image whose digest no longer agrees with it, as an interrupted write leaves a slot (R78). -/
def breakImage (img : List Byte) : List Byte :=
  let at_ := 64 + fieldAt img 8 4
  img.take at_ ++ ((img.drop at_).take 1).map (· ^^^ 1) ++ img.drop (at_ + 1)

/-- A firmware image that has waited for a PERSIST is written (R522). -/
def State.fwGo (s : State) : State :=
  { s with pldm := { s.pldm with update := s.pldm.update.map fun u => { u with waiting := false } } }

/-- TT_PERSIST_DONE: the flash write of PERSIST ends (R78). It waits while a firmware image that began before it is
written (R522). -/
def State.ttPersistDone (s : State) (ok : Bool) : State :=
  match s.ttLoad with
  | some t =>
    if t.stage ≠ .persisting ∨ s.fwWriting then s
    else
      let toB := !s.flag (ttKey 8) 5
      let img := if ok then t.image else breakImage t.image
      let s := { s with flash := if toB then { s.flash with slotB := img } else { s.flash with slotA := img } }
      let s := s.fwGo
      if ok then ((s.setFlag (ttKey 8) 2 true).setFlag (ttKey 8) 5 toB).ttComplete t.src { code := 0 }
      else s.ttComplete t.src { code := 0x14 }
  | none => s

/-- A Timetable read from host memory ends with SOURCE_ERROR at a detach or a Function Level Reset of PF0 (R80, R331). -/
def State.ttHostGone (s : State) : State :=
  match s.ttLoad with
  | some t =>
    if t.src = .host ∧ (t.stage = .reading ∨ t.stage = .waiting) then s.ttComplete t.src { code := 1 } else s
  | none => s

/-! Boot (R79). -/

/-- What validating a flash slot at boot gives. -/
def State.bootSlot (s : State) (img : List Byte) : Except TtRefusal TtAccepted := s.ttCheck img true (imageSigned img)

/-- The code of a validation. -/
def checkCode : Except TtRefusal TtAccepted → Nat
  | .error r => r.code
  | .ok _ => 0

/-- Puts a Timetable in force at boot: every basin that it places in a Line is cleared, and every present basin gets its
boot key (R230, R541). -/
def State.bootPut (s : State) (t : Timetable) : State :=
  let placed := (List.range 8).filter fun b => decide (t.leader b < 8)
  let off := (List.range 8).filter fun b => decide (t.leader b = 8) && (s.die (1 + b)).st != .absent
  (off.foldl State.replaceKey s).putTimetable t (List.range 8) placed 0

/-- The built-in default, with the basins that cannot be used left OFF (R68, R79). -/
def State.bootDefault (s : State) : Timetable :=
  Timetable.leaveOff {} ((List.range 8).filter fun b => (s.unitShort {} b).isSome)

/-- Loads the Timetable at boot: the valid slot of higher generation, A on a tie, or the built-in default (R79). Where
basins are left OFF for both reasons, both codes are logged and TT_STATUS keeps the one that R72 tests first. -/
def State.bootTimetable (s : State) : State :=
  let a := s.bootSlot s.flash.slotA
  let b := s.bootSlot s.flash.slotB
  let put (s : State) (x : TtAccepted) (slotB : Bool) : State :=
    let s := (((s.bootPut x.next).setFlag (ttKey 8) 2 true).setFlag (ttKey 8) 4 false).setFlag (ttKey 8) 5 slotB
    let s := { s with power := { s.power with cap := moduleCap x.next.moduleRec } }
    (x.partials.reverse).foldl (fun s r =>
      let s := ((s.setFld (ttKey 8) 8 8 r.code).setFld (ttKey 8) 16 8 r.sect).setFld (ttKey 8) 24 8 r.basins
      s.logEvent 0x0201 0 0 s.ttStatus.toNat (1 + ofBool slotB)) s
  match a, b with
  | .ok x, .ok y => if y.next.gen ≤ x.next.gen then put s x false else put s y true
  | .ok x, .error _ => put s x false
  | .error _, .ok y => put s y true
  | .error _, .error _ =>
    let s := ((s.bootPut s.bootDefault).setFlag (ttKey 8) 2 false).setFlag (ttKey 8) 4 true
    { s with power := { s.power with cap := 3800 } }.logEvent 0x0202 0 0 (checkCode a) (checkCode b)

/-! The commands. -/

/-- TT_LOAD (R69): a write of TT_LOAD. -/
def execTtLoad (v : Word) : State → Out := runU fun s => s.hubWrite (·.writeTtLoad v)
/-- TT_DRY_RUN (R69): a write of TT_LOAD with DRY_RUN. -/
def execTtDryRun (v : Word) : State → Out := runU fun s => s.hubWrite (·.writeTtLoad v)
/-- TT_IMAGE_READ_DONE (R72). -/
def execTtImageReadDone (readOk sigOk : Bool) : State → Out := run fun s => s.ttReadDone readOk sigOk
/-- TT_PERSIST_DONE (R78). -/
def execTtPersistDone (ok : Bool) : State → Out := run fun s => s.ttPersistDone ok

end Sys2Proof.Machine
end

