-- ==== Sys2Proof/Machine/HostPort.lean ====
section
/-!
DEFINITION. The host port (10_host_port.md): the link and its detach, function resets, claims, the Line window and BAR2,
CXL.mem, and the TDISP and IDE events (R332, R486 to R489).
-/
namespace Sys2Proof.Machine

/-! The link (R303, R304, R328, R329). -/

/-- A lane count of R303. -/
def linkWidth (w : Nat) : Bool := w == 1 || w == 2 || w == 4 || w == 8 || w == 16

/-- Offsets of PF0's BAR2 (R306). -/
def barLayout (off : Nat) : Option Nat :=
  if off < 0x30000000000 then some off
  else if off < 0x30000000000 + 2 ^ 32 then some (0x400000000000 + (off - 0x30000000000))
  else none

/-- A decoder maps a host range onto one contiguous range of LPDDR5X or Reservoir DPAs (R304). -/
def HdmDecoder.ok (d : HdmDecoder) : Bool :=
  decide (d.dpa + d.size ≤ 0x30000000000)
  || (decide (0x400000000000 ≤ d.dpa) && decide (d.dpa + d.size ≤ 0x400000000000 + 2 ^ 32))

/-- Sets up HDM decoder `i`; a range that R304 does not admit is not taken. -/
def State.setHdm (s : State) (i : Nat) (d : HdmDecoder) : State :=
  if d.ok then { s with host := { s.host with hdm := tblSet {} s.host.hdm i d } } else s

/-- The link trains and configures, once step 2 of the boot order has ended (R543, R545). CXL needs 32 or 64 GT/s (R303);
`big` has bit n set for each Line function n whose BAR2 the host sizes at 4 TiB, and above bit 8 the size of PF0's (R306).
`hdm` are the HDM decoders that it sets up, at most 8 (R304). -/
def State.linkUp (s : State) (speed width : Nat) (cxl : Bool) (big : Nat) (hdm : List (Nat × Nat × Nat)) : State :=
  let h := s.host
  if h.attached || !s.boot.powered || s.boot.stage == .alwaysOn || s.boot.stage == .image
      || !(3 ≤ speed && speed ≤ 6) || !linkWidth width then s
  else
    let gen := if h.detachedOnce then (if h.gen = 0xFFFFFFFF then 1 else h.gen + 1) else h.gen
    let s := { s with host := { h with
      attached := true, speed := speed, width := width, cxl := cxl && decide (5 ≤ speed), gen := gen,
      detachedOnce := false,
      bigBar := (List.range 9).foldl (fun t f => tblSet false t f (f != 0 && bit big f)) [],
      pf0Bar := min 12 (big / 2 ^ 9 % 16), hdm := [] } }
    let s := (hdm.take 8).zipIdx.foldl (fun s e => State.setHdm s e.2 { host := e.1.1, size := e.1.2.1, dpa := e.1.2.2 }) s
    if h.detachedOnce then s.raiseAll 0x106 else s

/-- Clears the MSI-X tables of the functions that satisfy `p`: they belong to the host port (R306, R533). -/
def State.dropMsix (s : State) (p : Nat → Bool) : State :=
  s.dropRegs fun k => decide (k / 2 ^ 28 ≤ 8) && p (k / 2 ^ 28) && decide (0x80000 ≤ k % 2 ^ 28 ∧ k % 2 ^ 28 < 0x88000)

/-- The host port detaches (R328). A clear that runs goes on and leaves its interface in ERROR (R489). How many of the
posted writes were still on the link, and are lost, is a free value. -/
def State.detach (s : State) (cause : Nat) : State :=
  if !s.host.attached then s
  else
    let s := (s.losePosted (s.free % (s.host.posted.length + 1))).bump
    let s := { s with host := { s.host with
      attached := false, cause := cause, cxl := false, detachedOnce := true,
      claimed := [], bigBar := [], pf0Bar := 0, hdm := [], ideKeys := [],
      clearing := s.host.clearing.map fun (e : Nat × Nat) => (e.1, 3) } }
    let s := s.each ((List.range 8).filter s.isLeader) fun s l =>
      match s.tdisp l with
      | .locked | .run => s.tdispError l
      | _ => s.detachLine l
    let s := (((s.dropMsix fun _ => true).dropVectors fun _ => true).raiseAll 0x105).ttHostGone
    s.logEvent 0x0700 0x20 0 s.hubAttach.toNat 0

/-- A retrain that returns to L0 without going down: only the rate and width can change (R328). In CXL mode the link runs at
32 or 64 GT/s (R303). -/
def State.linkRetrain (s : State) (speed width : Nat) : State :=
  if s.host.attached && ((if s.host.cxl then 5 else 3) ≤ speed && speed ≤ 6) && linkWidth width then
    { s with host := { s.host with speed := speed, width := width } }
  else s

/-! Function Level Resets (R331). -/

/-- The PCIe state of function `fn` takes its reset values: MSI-X, and the size of its BAR2 (R306, R331). -/
def State.resetFunction (s : State) (fn : Nat) : State :=
  let s := (s.dropMsix (· == fn)).dropVectors (· == fn)
  { s with host := { s.host with
      bigBar := tblErase s.host.bigBar fn
      pf0Bar := if fn = 0 then 0 else s.host.pf0Bar } }

/-- A Function Level Reset of function `n`: of a leader, as a detach of the Line; of another basin, of nothing but the
function. Only the function's PCIe state and its claim go with it. -/
def State.lineFlr (s : State) (n : Nat) : State :=
  if !s.host.attached then s
  else ((s.when (s.isLeader n) (·.detachLine n)).unclaim n).resetFunction (n + 1)

/-- A Function Level Reset of PF0. -/
def State.pf0Flr (s : State) : State :=
  if s.host.attached then (State.resetFunction { s with host := { s.host with cause := 4, hdm := [] } } 0).ttHostGone else s

/-! Claims (R330). -/

/-- A write by this path reaches LN_CLAIM of function `n`: a host's needs no claim (R330). -/
def State.claimWrites (s : State) (via : Via) (n : Nat) : Bool :=
  match via with
  | .host => !s.clearing n
  | .hostOff => !s.clearing n && !s.confidential n
  | .pf0 => !s.boot.running && !s.confidential n && !s.boot.stage.stopped
  | .core _ | .pond _ => s.lnWrites via n

/-- A write of LN_CLAIM of function `n`, a member's and an OFF basin's included (R20). -/
def State.writeClaim (s : State) (via : Via) (n : Nat) (v : Word) : State :=
  let s := (s.undefIf (v.field 33 31 != 0) .reservedWrite).noted via
  if s.claimWrites via n ∧ s.host.attached ∧ v.field 0 32 = s.host.gen then
    { s with host := { s.host with claimed := tblSet false s.host.claimed n true } }
  else s

/-! The window (R307, R308). -/

/-- `[a, a + n)` meets usable LPDDR5X or the Reservoir of the Line led by `l`. -/
def State.meetsOwn (s : State) (l a n : Nat) : Bool :=
  (s.members l).any fun b =>
    decide (a < lpddrBase b + s.usable b ∧ lpddrBase b < a + n) || decide (a < rsvBase b + 2 ^ 29 ∧ rsvBase b < a + n)

/-- A write of LN_WIN_BASE at the leader. -/
def State.writeWinBase (s : State) (l : Nat) (v : Word) : State :=
  let s := s.undefIf (v.field 20 44 != 0) .reservedWrite
  if (s.line l).locked || !s.meetsOwn l (v.field 0 20 * 2 ^ 32) (2 ^ 32) then s
  else s.setReg (lnKey l 0x110) (BitVec.ofNat 64 (v.field 0 20))

/-! Host accesses to device memory (R39, R306, R307, R452, R487, R501). -/

/-- The DPA of an offset of the BAR2 of function `l`, a leader's: the whole map for a privileged Line of 4 TiB, else the
window (R307). -/
def State.bar2Dpa (s : State) (l off : Nat) : Option Nat :=
  if (s.tt.basin l).priv && tblGet false s.host.bigBar (l + 1) then barLayout off
  else if off < 2 ^ 32 then some (s.fld (lnKey l 0x110) 0 20 * 2 ^ 32 + off)
  else none

/-- The whole map is reached, and not the window. -/
def State.bar2Whole (s : State) (l : Nat) : Bool := (s.tt.basin l).priv && tblGet false s.host.bigBar (l + 1)

/-- A byte that a host access through the BAR2 of function `l` reaches: in the window the Line's own memory, in the whole
map any memory. The BAR2 of a privileged Line reaches no confidential Line's memory (R487). -/
def State.hostReach (s : State) (l : Nat) (whole : Bool) (a : Nat) : Bool :=
  match (s.target a).memBasin with
  | some b =>
    let closed := decide (s.leaderOf b < 8) && s.confidential (s.leaderOf b)
    if whole then !closed else s.leaderOf b == l && !(closed && (s.tt.basin l).priv)
  | none => false

/-- A host read within one granule of memory. -/
def State.hostLoad (s : State) (a n : Nat) : (List Byte × Bool) × State :=
  match s.onFailed a with
  | some b =>
    let (d, s) := (s.count (memKey b 0x20) 1).freeBytes n
    ((d, true), s)
  | none =>
    let ((d, p), s) := s.readHome (a / 64)
    (((d.drop (a % 64)).take n, p), s.serveLine (a / 64))

/-- A host write within one granule of memory. A poisoned one leaves the poison bit as it was (R450, R452). -/
def State.hostStore (s : State) (a : Nat) (data : List Byte) (poison : Bool) : State :=
  let s := s.mergeBase (a / 64) (data.length == 64)
  let was := (s.granule (a / 64)).2
  let s := (s.storeHome a data false).noteWrite a data.length
  if poison && (s.onFailed a).isNone then { s with poison := tblSet false s.poison (a / 64) was } else s

/-- All-ones data of a read that is not served (R309). -/
def allOnes (n : Nat) : List Byte := List.replicate n 0xFF

/-- A host read of `n` bytes at DPA `a`: bytes out of reach read as all ones. -/
def State.hostRead (s : State) (l : Nat) (whole : Bool) (a n : Nat) : (List Byte × Bool) × State :=
  (pieces a n).foldl (fun (r, s) p =>
    if s.hostReach l whole p.1 then
      let (q, s) := ((s.touchMem p.1).hostLoad p.1 p.2)
      ((r.1 ++ q.1, r.2 || q.2), s)
    else
      let own := match s.target p.1 with
        | .reserved _ => whole
        | _ => false
      ((r.1 ++ allOnes p.2, r.2), s.undefIf own .reservedRange)) (([], false), s)

/-- A host write at DPA `a`: bytes out of reach are discarded. -/
def State.hostWriteMem (s : State) (l : Nat) (whole : Bool) (a : Nat) (data : List Byte) (poison : Bool)
    : State :=
  (pieces a data.length).foldl (fun s p =>
    if s.hostReach l whole p.1 then
      (s.touchMem p.1).hostStore p.1 ((data.drop (p.1 - a)).take p.2) poison
    else
      let own := match s.target p.1 with
        | .reserved _ => whole
        | _ => false
      s.undefIf own .reservedRange) s

/-- Answers a host read with all ones; a write is discarded. -/
def State.hostUnserved (s : State) (acc : MemOp) (poison : Bool) : State :=
  match acc with
  | .read n => s.emit (.hostData (allOnes n) poison)
  | .write _ _ => s

/-- A host access at a DPA, or at none. The completion of a read stands behind every write posted before it, so that none of
these is still on the link (PRESUMED, the ordering of PCIe; notes/assumptions). -/
def State.hostAccess (s : State) (l : Nat) (whole : Bool) (dpa : Option Nat) (acc : MemOp) : State :=
  match dpa, acc with
  | none, acc => s.hostUnserved acc false
  | some a, .read n =>
    let (r, s) := s.hostRead l whole a n
    State.emit { s with host := { s.host with posted := [] } } (.hostData r.1 r.2)
  | some a, .write data poison => s.hostWriteMem l whole a data poison

/-- A host access through the BAR2 of a Line function (R307). `bound` says that it arrives on the stream bound to the
function: a confidential Line's answers no other request (R332). -/
def State.bar2 (s : State) (l : Nat) (bound : Bool) (off : Nat) (acc : MemOp) : State :=
  let isWrite : Bool := match acc with
    | .write _ _ => true
    | .read _ => false
  if !s.host.attached then s
  else if !s.isLeader l then s.hostUnserved acc false
  else if s.tdisp l = .error || (s.confidential l && !bound) then s.emit .hostError
  else if s.clearing l || (isWrite && !s.claimed l) then s.hostUnserved acc false
  else if (s.line l).st = .failed then s.hostUnserved acc true
  else s.hostAccess l (s.bar2Whole l) (s.bar2Dpa l off) acc

/-- A host access through PF0's BAR2, which is served once the boot has ended: all memory but a confidential Line's, within
the size of the BAR (R306, R309, R487). -/
def State.pf0Bar2 (s : State) (off : Nat) (acc : MemOp) : State :=
  if !s.host.attached || s.boot.running || s.boot.stage.stopped then s
  else s.hostAccess 8 true (if off < 2 ^ (30 + s.host.pf0Bar) then barLayout off else none) acc

/-- What reaches the port in CXL mode (R304): the decoder that holds an address maps a CXL.mem access, and every host snoop is
answered as a miss, the device keeping no host lines. -/
def State.cxl (s : State) (addr : Nat) (op : CxlOp) : State :=
  if s.host.attached && s.host.cxl then
    match op with
    | .mem acc =>
      let d := (s.host.hdm.map (·.2)).find? fun d => decide (d.host ≤ addr ∧ addr < d.host + d.size)
      s.hostAccess 8 true (d.map fun d => d.dpa + (addr - d.host)) acc
    | .decoder i size dpa => s.setHdm i { host := addr, size := size, dpa := dpa }
    | .snoop => s.emit .cxlMiss
  else s

/-! TDISP (R332, R486, R488, R489). -/

/-- Sets the TDISP state of the interface of leader `l`. -/
def State.setTdisp (s : State) (l : Nat) (t : Tdisp) : State :=
  { s with host := { s.host with tdisp := tblSet .unlocked s.host.tdisp l t } }

/-- A Line clear begins: every member basin is cleared under a new key (R489). -/
def State.clearLine (s : State) (l code : Nat) : State :=
  let s := s.each (s.members l) fun s b => (s.clearBasin b).replaceKey b
  { s with host := { s.host with
      clearing := tblSet 0 s.host.clearing l code
      clears := tblSet 0 s.host.clears l ((tblGet 0 s.host.clears l + 1) % 256) } }

/-- LOCK_INTERFACE (R486): accepted on a leader's function in STOPPED. -/
def State.lockInterface (s : State) (l : Nat) : State :=
  if !s.host.attached then s
  else if s.isLeader l && decide ((s.line l).st = .stopped) && decide (s.tdisp l = .unlocked) && !s.clearing l then
    (s.ctlReset l true).clearLine l 1
  else s.emit (.tdisp (l + 1) 1 false)

/-- START_INTERFACE (R332). -/
def State.startInterface (s : State) (l : Nat) : State :=
  if !s.host.attached then s
  else if s.isLeader l && decide (s.tdisp l = .locked) then (s.setTdisp l .run).emit (.tdisp (l + 1) 2 true)
  else s.emit (.tdisp (l + 1) 2 false)

/-- STOP_INTERFACE (R332, R489): a reset of the Line, and of a confidential one a clear. -/
def State.stopInterface (s : State) (l : Nat) : State :=
  if !s.host.attached then s
  else if s.isLeader l && s.confidential l && !s.clearing l then (s.ctlReset l true).clearLine l 2
  else if s.isLeader l && !s.clearing l then (s.ctlReset l true).emit (.tdisp (l + 1) 3 true)
  else s.emit (.tdisp (l + 1) 3 false)

/-- LINE_CLEAR_DONE: a clear ends, with what LOCK_INTERFACE or STOP_INTERFACE does next, or ERROR where the host port has
detached (R486, R489). -/
def State.clearDone (s : State) (l : Nat) : State :=
  let code := tblGet 0 s.host.clearing l
  let s := { s with host := { s.host with clearing := tblErase s.host.clearing l } }
  if code = 0 then s
  else if code = 1 then
    ((s.modLine l fun ln => { ln with locked := true }).setTdisp l .locked).emit (.tdisp (l + 1) 1 true)
  else if code = 2 then (s.setTdisp l .unlocked).emit (.tdisp (l + 1) 3 true)
  else s.setTdisp l .error

/-- An integrity failure on the stream bound to function `l` (R488). -/
def State.ideFail (s : State) (l : Nat) : State := if s.isLeader l then s.tdispError l else s

/-- An IDE_KM message for the stream of function `fn`, or of the link where `fn` is 9, within an established SPDM session of
the DOE mailbox (R332). -/
def State.ideKm (s : State) (fn : Nat) (r : IdeRequest) : State :=
  if !s.host.attached then s
  else if !(s.sessions.any fun e => e.transport == 2 && e.established) then s.emit (.ideKm fn false)
  else
    let s := match r with
      | .keyProg => { s with host := { s.host with ideKeys := tblSet 0 s.host.ideKeys fn (tblGet 0 s.host.ideKeys fn + 1) } }
      | .keySetStop => { s with host := { s.host with ideKeys := tblErase s.host.ideKeys fn } }
      | .query | .keySetGo => s
    s.emit (.ideKm fn true)

/-! The commands. -/

/-- LINK_UP (R329). -/
def execLinkUp (speed width : Nat) (cxl : Bool) (big : Nat) (hdm : List (Nat × Nat × Nat)) : State → Out :=
  runU fun s => s.linkUp speed width cxl big hdm
/-- LINK_DOWN (R328). -/
def execLinkDown : State → Out := runU fun s => s.detach 1
/-- HOT_RESET (R328). -/
def execHotReset : State → Out := runU fun s => s.detach 2
/-- PERST (R328). -/
def execPerst : State → Out := runU fun s => s.detach 3
/-- LINK_RETRAIN (R328). -/
def execLinkRetrain (speed width : Nat) : State → Out := run fun s => s.linkRetrain speed width
/-- LINE_FLR (R331). -/
def execLineFlr (l : LineId) : State → Out := runU fun s => s.lineFlr l
/-- PF0_FLR (R331). -/
def execPf0Flr : State → Out := run fun s => s.pf0Flr
/-- CLAIM (R330): a write of LN_CLAIM. -/
def execClaim (via : Via) (l : LineId) (v : Word) : State → Out := runU fun s => s.writeClaim via l v
/-- WIN_BASE_WRITE (R308): a write of LN_WIN_BASE. -/
def execWinBaseWrite (via : Via) (l : LineId) (v : Word) : State → Out :=
  runU fun s => s.lnWrite via l (·.writeWinBase l v)
/-- BAR2_ACCESS (R307). -/
def execBar2Access (fn : HostFn) (off : Nat) (acc : MemOp) (ecc : List EccEvent) : State → Out :=
  runU fun s =>
    let s := s.strikes ecc
    if fn.fn = 0 then s.pf0Bar2 off acc else s.bar2 (fn.fn - 1 : Nat) fn.bound off acc
/-- CXL_MEM_ACCESS (R304). -/
def execCxlMemAccess (addr : Nat) (op : CxlOp) : State → Out := runU fun s => s.cxl addr op
/-- LOCK_INTERFACE (R486). -/
def execLockInterface (l : LineId) : State → Out := runU fun s => s.lockInterface l
/-- START_INTERFACE (R332). -/
def execStartInterface (l : LineId) : State → Out := run fun s => s.startInterface l
/-- STOP_INTERFACE (R332). -/
def execStopInterface (l : LineId) : State → Out := runU fun s => s.stopInterface l
/-- LINE_CLEAR_DONE (R489). -/
def execLineClearDone (l : LineId) : State → Out := run fun s => s.clearDone l
/-- IDE_INTEGRITY_FAIL (R488). -/
def execIdeIntegrityFail (l : LineId) : State → Out := runU fun s => s.ideFail l
/-- IDE_KM (R332). -/
def execIdeKm (stream : Fin 10) (request : IdeRequest) : State → Out := run fun s => s.ideKm stream request

end Sys2Proof.Machine
end

