-- ==== Sys2Proof/Machine/Coherence.lean ====
section
/-!
DEFINITION. Coherence within a Line (R293 to R302): the commands of caching and cacheless agents, and fail-stop.
-/
namespace Sys2Proof.Machine

/-! Fail-stop (R299, R300). -/

/-- The basin whose home holds line `g`. -/
def State.homeBasin (s : State) (g : Nat) : Nat := ((s.target (g * 64)).memBasin).getD 0

/-- Agent `a` has sent an unexpected message on line `g`: its Line fails (R300). -/
def State.unexpected (s : State) (a g : Nat) : State := s.failLine (s.lineHome g) 4 a 4 (s.homeBasin g) g

/-- The limit of R299. -/
def cohLimit : Nat := 2000000

/-- A message sent at time `t` has waited for as long as R299 allows. -/
def State.late (s : State) (t : Nat) : Bool := decide (t + cohLimit ≤ s.time)

/-- The first transaction of the Line that has awaited agent `a` for 2 ms. -/
def State.overdue (s : State) (l a : Nat) : Option CohTxn :=
  s.coh.txns.find? fun t => s.lineHome t.line == l && (t.waiting.contains a || t.held.contains a) && s.late t.since

/-- The line of the first request that the home of basin `b` has left unanswered for 2 ms. -/
def State.unserved (s : State) (b : Nat) : Option Nat :=
  ((s.coh.txns.find? fun t => s.homeBasin t.line == b && s.late t.since).map (·.line))
  <|> ((s.coh.waits.find? fun w => s.homeBasin w.line == b && s.late w.since).map (·.line))

/-- AGENT_TIMEOUT (R299): a snoop unanswered, a write-back awaited, or a request that a home has not answered. -/
def State.agentTimeout (s : State) (l a : Nat) : State :=
  if 136 ≤ a ∧ a < 144 then
    match s.unserved (a - 136) with
    | some g => if s.leaderOf (a - 136) = l then s.failLine l 3 a 2 (a - 136) g else s
    | none => s
  else
    match s.overdue l a with
    | some t => s.failLine l 3 a (if t.held.contains a then 3 else 1) (s.homeBasin t.line) t.line
    | none => s

/-- A line of the memory of basin `b`, taken by a free value: which one an event concerns is not stated. -/
def State.someLine (s : State) (b : Nat) : Nat :=
  let n := s.usable b / 64
  let k := s.free % (n + 2 ^ 23)
  if k < n then lpddrBase b / 64 + k else rsvBase b / 64 + (k - n)

/-- PROTOCOL_ERROR (R300): an error detected at a home, the agent being a caching agent or, for an uncorrectable directory
entry, the home. The line concerned is a free value. -/
def State.protocolError (s : State) (l a : Nat) : State :=
  if 136 ≤ a ∧ a < 144 then
    if s.leaderOf (a - 136) = l then s.bump.failLine l 4 a 5 (a - 136) (s.someLine (a - 136)) else s
  else if s.cachingAgent l a then
    let b := (s.members l).getD (s.free % (s.members l).length) l
    s.bump.bump.failLine l 4 a 4 b (s.bump.someLine b)
  else s

/-! Requests of caching agents (R294, R297). -/

/-- A request of a core, from the states that it is made from. -/
def State.coreRequest (s : State) (a g : Nat) (req : CohReq) : State :=
  if s.cohLive a g then (s.request a g req).serveLine g else s

/-- SNOOP_RESPONSE: an answer arrives. One that nothing awaits is a protocol error. -/
def State.snoopResponse (s : State) (a g : Nat) : State :=
  let due := s.coh.resps.any fun r => r.agent == a && r.line == g
  let awaited := (match s.txnOf g with
    | some t => t.waiting.contains a
    | none => false) || (match s.wbOf a g with
    | some w => w.cross.isSome
    | none => false)
  if due then (s.respond a g).serveLine g
  else if s.cohLive a g && !awaited then s.unexpected a g
  else s

/-- WRITE_BACK: an agent that holds a dirty copy sends it and keeps none; the next one for that agent and line is its
arrival at the home. One for which nothing is outstanding is a protocol error. -/
def State.writeBack (s : State) (a g : Nat) : State :=
  if !s.cohLive a g then s
  else
    match s.wbOf a g, s.copy a g with
    | some w, _ => if w.arrived then s.unexpected a g else (s.wbArrive w).serveLine g
    | none, some c =>
      if c.st = .m ∨ c.st = .o then
        let s := s.dropCopy a g
        { s with coh := { s.coh with wbs := s.coh.wbs ++ [{ agent := a, line := g, data := c.data, poison := c.poison }] } }
      else s
    | none, none => s.unexpected a g

/-! Cacheless accesses (R295). -/

/-- CACHELESS_ACCESS: an access by a cacheless agent of the Line led by `l`. At a line on which a transaction is open it
waits. -/
def State.cacheless (s : State) (l a : Nat) (acc : MemOp) (ecc : List EccEvent) : State :=
  let n := match acc with
    | .read n => n
    | .write data _ => data.length
  let s := s.strikes ecc
  if !s.isLeader l || (s.line l).st == .failed then s
  else
    (pieces a n).foldl (fun s p =>
      if s.ownMem l p.1 then
        let g := p.1 / 64
        let s := s.touchMem p.1
        match acc with
        | .read _ => (s.request 255 g (.read (p.1 % 64) p.2)).serveLine g
        | .write data poison =>
          let s := s.noteWrite p.1 p.2
          let part := (data.drop (p.1 - a)).take p.2
          let req : CohReq := if p.2 = 64 then .wholeWrite part poison else .partWrite (p.1 % 64) part poison
          (s.request 255 g req).serveLine g
      else
        match acc with
        | .read _ =>
          let (r, s) := s.loadPiece l p.1 p.2
          s.emit (.cacheless (p.1 / 64) r.data r.poison)
        | .write data poison => (s.storePiece l p.1 ((data.drop (p.1 - a)).take p.2) poison).2) s

/-! The commands. -/

/-- READ_SHARED (R294). -/
def execReadShared (agent : AgentId) (line : Nat) : State → Out := run fun s => s.coreRequest agent line .readShared
/-- READ_UNIQUE (R294). -/
def execReadUnique (agent : AgentId) (line : Nat) : State → Out := run fun s => s.coreRequest agent line .readUnique
/-- UPGRADE (R294). -/
def execUpgrade (agent : AgentId) (line : Nat) : State → Out := run fun s => s.coreRequest agent line .upgrade
/-- WRITE_BACK (R297). -/
def execWriteBack (agent : AgentId) (line : Nat) : State → Out := runU fun s => s.writeBack agent line
/-- CLEAN_EVICT (R294). -/
def execCleanEvict (agent : AgentId) (line : Nat) : State → Out := run fun s => s.cleanEvict agent line
/-- SNP_SHARED (R294). -/
def execSnpShared (agent : AgentId) (line : Nat) : State → Out := run fun s => s.snoop agent line .shared
/-- SNP_INVALIDATE (R295). -/
def execSnpInvalidate (agent : AgentId) (line : Nat) : State → Out := run fun s => s.snoop agent line .invalidate
/-- SNP_READ_NO_ALLOC (R295). -/
def execSnpReadNoAlloc (agent : AgentId) (line : Nat) : State → Out := run fun s => s.snoop agent line .readNoAlloc
/-- SNOOP_RESPONSE (R297). -/
def execSnoopResponse (agent : AgentId) (line : Nat) : State → Out := runU fun s => s.snoopResponse agent line
/-- WB_ACK (R297). -/
def execWbAck (agent : AgentId) (line : Nat) : State → Out := run fun s => (s.wbAck agent line).serveLine line
/-- CACHELESS_ACCESS (R295). -/
def execCachelessAccess (l : LineId) (addr : Nat) (acc : MemOp) (ecc : List EccEvent) : State → Out :=
  runU fun s => s.cacheless l addr acc ecc
/-- AGENT_TIMEOUT (R299). -/
def execAgentTimeout (l : LineId) (agent : AgentId) : State → Out := runU fun s => s.agentTimeout l agent
/-- PROTOCOL_ERROR (R300). -/
def execProtocolError (l : LineId) (agent : AgentId) : State → Out := runU fun s => s.protocolError l agent

end Sys2Proof.Machine
end

