-- ==== Sys2Proof/Machine/Power.lean ====
section
/-!
DEFINITION. Power and clocks (19_power_and_clocks.md): sleep states, self-refresh, power readings, the budget loop and the
fast limiter, and the V-F records.
-/
namespace Sys2Proof.Machine

/-! Sleep (R495 to R502). -/

/-- Every dispatched command of the Line has completed, except waiting SYNC_WAITs. -/
def State.onlyWaits (s : State) (l : Nat) : Bool :=
  (s.lineQueues l).all fun q =>
    (s.queue (qKey l q)).running.all fun c => c.done || (c.w0.field 0 8 == 0x06 && !c.satisfied)

/-- A test runs on the Line's units. -/
def State.lineTests (s : State) (l : Nat) : Bool :=
  s.tests.any fun e => match testBasin e.1 with
    | some b => s.leaderOf b == l
    | none => false

/-- What R497 requires of a sleep-idle Line; its grids are gated only when IDLE (R136). -/
def State.sleepIdle (s : State) (l : Nat) : Bool :=
  let ln := s.line l
  (s.members l).all (fun b =>
    (List.range 8).all (fun p => s.pondIdle (b * 8 + p) && (s.pond (b * 8 + p)).launches.isEmpty)
    && (List.range 16).all (fun c => (s.chan (b * 16 + c)).queue.isEmpty)
    && (s.layerQ b).isEmpty && (s.bmem b).calibrating.isNone
    && (List.range 34).all (fun k => (s.grid (b * 34 + k)).phase == .idle))
  && s.noEntries l && s.onlyWaits l && ln.fences.isEmpty
  && (List.range 2).all (fun u => (s.decodeQ l u).isEmpty)
  && (List.range 256).all (fun e => (s.cfl (l * 256 + e)).st != .arming && (s.cfl (l * 256 + e)).st != .finishing)
  && !s.lineTests l

/-- The basin that an E_CONTEXT or E_QUEUE grant names (R66). -/
def grantBasin (w : Word) : Option Nat := if w.field 0 2 = 1 ∨ w.field 0 2 = 2 then some (w.field 2 3) else none

/-- The Line holds an E grant in the running Timetable: it enters no sleep state (R496). -/
def State.holdsGrant (s : State) (l : Nat) : Bool :=
  s.tt.admission.any fun w => match grantBasin w with
    | some b => s.leaderOf b == l
    | none => false

/-- The deepest state whose exit latency is at most `us` (R496). -/
def sleepDepth (us : Nat) : Nat := if us < 2 then 0 else if us < 60 then 1 else if us < 4000 then 2 else 3

/-- Every active core of the Line is in WFI. -/
def State.allWfi (s : State) (l : Nat) : Bool :=
  (List.range 128).all fun h => !s.hartActive l h || decide ((s.hart h).mode = .wfi)

/-- A pond that is clock-gated keeps its contents; one that is power-gated keeps its instruction memory (R498). -/
def Pond.gate (off : Bool) (p : Pond) : Pond :=
  if off then { p with slots := [], tbs := [], planes := [], sregs := [], descs := [], stale := [] } else { p with slots := [] }

/-- A line that has been written back is clean. -/
def CacheLine.clean (c : CacheLine) : CacheLine :=
  { c with st := match c.st with | .m => .e | .o => .s | .e => .e | .s => .s }

/-- Dirty lines are written back and stay held, clean (R413). -/
def State.cleanCaches (s : State) (l : Nat) : State :=
  let mine := (s.coh.caches.filter fun e => s.agentOf l (e.1 / 2 ^ 46)).map (·.1)
  let s := s.writeBackAll l
  s.each mine fun s k => (s.setCopy (k / 2 ^ 46) (k % 2 ^ 46) ((s.copy (k / 2 ^ 46) (k % 2 ^ 46)).map CacheLine.clean)).redirect
    (k % 2 ^ 46)

/-- Notes since when the Line led by `l` has been idle and sleep-idle, while it runs in S0 (R239, R497). -/
def State.noteIdle (s : State) (l : Nat) : State :=
  let ln := s.line l
  let awake := s.isLeader l && decide (ln.st = .running) && ln.sleep == 0
  let from_ (on : Bool) (t : Option Nat) : Option Nat := if on then some (t.getD s.time) else none
  let i := from_ (awake && s.idleNow l) ln.idleFrom
  let z := from_ (awake && s.sleepIdle l) ln.sleepFrom
  if i = ln.idleFrom ∧ z = ln.sleepFrom ∧ (i ≠ none ∨ ln.idle = false ∨ ln.st ≠ .running) then s
  else s.modLine l fun ln => { ln with idleFrom := i, sleepFrom := z, idle := ln.idle && (i.isSome || decide (ln.st ≠ .running)) }

/-- A Line that has been sleep-idle for 1 ms enters the state that its wake tolerance allows (R496 to R498). -/
def State.sleepEntry (s : State) (l : Nat) : State :=
  let ln := s.line l
  let d := sleepDepth (s.fld (lnKey l 0x140) 0 16)
  let d := if d = 3 ∧ !s.allWfi l then 2 else d
  if s.isLeader l && decide (ln.st = .running) && ln.sleep == 0 && d != 0 && !s.holdsGrant l
      && s.sleepIdle l && sinceMs ln.sleepFrom s.time then
    let s := s.each (s.members l) fun s b =>
      s.each (List.range 8) fun s p => s.modPond (b * 8 + p) (Pond.gate (decide (2 ≤ d)))
    let s := if d = 3 then (s.cleanCaches l).restBasins l else s
    s.modLine l fun ln => { ln with sleep := d, waking := false }
  else s

/-- A wake event reaches a sleeping Line (R499). -/
def State.wake (s : State) (l : Nat) : State :=
  if (s.line l).sleep = 0 then s.wakeExit l else s.modLine l fun ln => { ln with waking := true }

/-- The exit that a wake event began ends (R500). -/
def State.sleepExitDone (s : State) (l : Nat) : State := if (s.line l).waking then s.wakeExit l else s

/-- The basin's LPDDR5X rests in self-refresh unless an access needs it: S3, STOPPED, FAILED or OFF (R501). -/
def State.quietBasin (s : State) (b : Nat) : Bool :=
  match s.lineStOf b with
  | .stopped | .failed | .off => true
  | .running => (s.line (s.leaderOf b)).sleep == 3
  | _ => false

/-- A write of LN_WAKE_TOL (R495, R499, R502). -/
def State.writeWakeTol (s : State) (l : Nat) (v : Word) : State :=
  let s := (s.undefIf (v.field 16 48 != 0) .reservedWrite).wakeExit l
  if (s.line l).locked then s else s.setReg (lnKey l 0x140) (BitVec.ofNat 64 (v.field 0 16))

/-! Readings (R503, R505). -/

/-- A basin's draw in W: its own rails and its core quadrant (R503). -/
def BasinPower.draw (p : BasinPower) : Nat := p.computeDraw + p.otherDraw + p.coreDraw

/-- The draw of a Line: the sum over its members. -/
def State.lineDraw (s : State) (l : Nat) : Nat := ((s.members l).map fun b => (s.bpow b).draw).sum

/-- The fast limiter: 800 MHz for grids and 1.7 GHz for cores, or lower where the limit already is (R505). -/
def State.fastLimiter (s : State) : State :=
  let p := s.power
  let s := { s with power := { p with capGrid := min p.capGrid 32, capCore := min p.capCore 68 } }
  s.countFld (hubKey 0x58) 32 32 1

/-- The readings of one basin: compute rail, its other rails and its core quadrant. -/
def State.basinSample (s : State) (b : Nat) (r : Nat × Nat × Nat) : State :=
  let s := s.modBpow b fun p =>
    { p with computeDraw := r.1, otherDraw := r.2.1, coreDraw := r.2.2, coreFull := decide (40 ≤ r.2.2) }
  let s := s.railGuard b true
  if decide (150 ≤ r.1) = (s.bmem b).loadFull then s else s.loadClass b (decide (150 ≤ r.1))

/-- POWER_SAMPLE: the readings of CD0 to CD7, and the module's in the ninth place. -/
def State.powerSample (s : State) (rs : List (Nat × Nat × Nat)) : State :=
  let s := (rs.take 8).zipIdx.foldl (fun s e => s.basinSample e.2 e.1) s
  match rs[8]? with
  | none => s
  | some (w, _, _) =>
    let overCap := decide (s.power.capNow * 11 < w * 10)
    let first := overCap && !s.power.overCap
    let s := { s with power := { s.power with draw := w, overCap := overCap } }
    s.when first (·.fastLimiter)

/-! The budget loop (R504, R506, R575). -/

/-- A move of a clock limit by one step, within 200 MHz and its top. -/
inductive Move where
  | down | hold | up
deriving DecidableEq, Repr

def Move.app (m : Move) (top x : Nat) : Nat :=
  match m with
  | .down => if x ≤ 8 then x else x - 1
  | .hold => x
  | .up => if x < top then x + 1 else x

/-- How a limit moves against a draw and its bound (R504). -/
def moveOf (draw bound : Nat) : Move := if bound < draw then .down else if draw * 20 < bound * 19 then .up else .hold

/-- The critical threshold of a temperature sensor (R574). -/
def criticalAt (id : Nat) : Option Int :=
  if 0x10 ≤ id ∧ id < 0x18 then some 100
  else if 0x18 ≤ id ∧ id < 0x1A then some 95
  else if 0x20 ≤ id ∧ id < 0x30 then some 75
  else if 0x40 ≤ id ∧ id < 0x60 then some 95
  else none

/-- Some sensor lies at or above its critical threshold, less `margin`. -/
def State.critical (s : State) (margin : Int) : Bool :=
  s.power.temps.any fun e => match criticalAt e.1 with
    | some c => decide (c - margin ≤ e.2)
    | none => false

/-- The move of the cap limit: by R575 while THROTTLE reads 1. In ride-through the draw counts as above the cap (R568). -/
def State.capMove (s : State) : Move :=
  if s.power.throttle then if s.critical 0 then .down else .hold
  else if s.power.rideThrough then .down
  else moveOf s.power.draw s.power.capNow

/-- The budget of a Line: the sum of its members' nonzero budgets (R504). -/
def State.lineBudget (s : State) (l : Nat) : Nat := ((s.members l).map fun b => (s.tt.basin b).budget).sum

/-- The budget limits of a Line's basins. With no budget there is no limit. -/
def State.budgetMove (s : State) (l : Nat) : State :=
  let w := s.lineBudget l
  let m := moveOf (s.lineDraw l) w
  let above := decide (w ≠ 0 ∧ w < s.lineDraw l)
  let s := s.each (s.members l) fun s b =>
    s.modBpow b fun p =>
      if w = 0 then { p with budGrid := 64, budCore := 136 }
      else { p with budGrid := m.app 64 p.budGrid, budCore := m.app 136 p.budCore }
  s.each (s.members l) fun s b => s.modBpow b fun p => { p with floor := above && s.clockOf b false == 8 }

/-- BUDGET_LOOP. A cap that was written takes effect now (R506). -/
def State.budgetLoop (s : State) : State :=
  let s := { s with power := { s.power with capNow := s.power.cap } }
  let m := s.capMove
  let s := { s with power := { s.power with capGrid := m.app 64 s.power.capGrid, capCore := m.app 136 s.power.capCore } }
  s.each (List.range 8) fun s l => s.when (s.isLeader l) (·.budgetMove l)

/-- A write of HUB_PWR_CAP (R509). -/
def State.writePwrCap (s : State) (v : Word) : State :=
  let s := s.undefIf (v.field 12 52 != 0) .reservedWrite
  let w := v.field 0 12
  if 1000 ≤ w ∧ w ≤ 3800 then { s with power := { s.power with cap := w } } else s

/-! V-F records (R507, R508). -/

/-- The temperature of a rail's die: the basin's hottest point or its core die (R520). -/
def State.railTemp (s : State) (b : Nat) (core : Bool) : Int :=
  tblGet 25 s.power.temps (if core then 0x18 + b / 4 else 0x10 + b)

/-- Eight anchor voltages from boot calibration, which the manual does not state. -/
def State.freeAnchors (s : State) : List Nat × State :=
  ((List.range 8).map fun i => Config.freeNat (s.freeCtr + i) % 2 ^ 12, { s with freeCtr := s.freeCtr + 8 })

/-- Boot calibration of a rail: its record is LIGHT. -/
def State.bootRail (s : State) (b : Nat) (core : Bool) : State :=
  let (a, s) := s.freeAnchors
  s.modRail b core fun _ => { anchors := a, temp := s.railTemp b core, time := s.time }

/-- The rail is due for a live re-validation: a guard applies, or its temperature has moved. -/
def State.railDue (s : State) (b : Nat) (core : Bool) : Bool :=
  let r := s.rail b core
  ((r.guard || r.guardFreq) && !r.kept) || decide (10 < (s.railTemp b core - r.temp).natAbs)

/-- VF_REVALIDATE: the path monitors pass or fail a rail. -/
def State.vfRevalidate (s : State) (b : Nat) (core pass : Bool) : State :=
  if !s.railDue b core then s
  else
    let r := s.rail b core
    let fresh (a : List Nat) : VfRail := { anchors := a, temp := s.railTemp b core, full := true, time := s.time }
    if pass then s.modRail b core fun r => fresh r.anchors
    else if r.anchors.all fun a => decide (a + 10 ≤ railMax b core) then
      (s.modRail b core fun r => fresh (r.anchors.map (· + 10))).logEvent 0x0504 (if core then 9 + b / 4 else 1 + b)
        (lineBit (s.leaderOf b)) (b + ofBool core * 2 ^ 8) 0
    else s.modRail b core fun r => { r with guard := false, guardFreq := true, kept := true }

/-! What the registers read as (R511, R512). -/

/-- The limit that gives *f*g: 0 ceiling, 1 budget, 2 cap. -/
def State.limitOf (s : State) (b : Nat) : Nat :=
  let f := s.clockOf b false
  if f = s.groupCeiling b false then 0 else if f = (s.bpow b).budGrid then 1 else 2

/-- PWR_STATUS of basin `b`, with DRAW_W as it is given. -/
def State.pwrStatus (s : State) (b draw : Nat) : Word :=
  let p := s.bpow b
  let f (core : Bool) : Nat := if p.pll then s.clockOf b core else 0
  BitVec.ofNat 64 (f false + f true * 2 ^ 8 + draw % 2 ^ 12 * 2 ^ 16 + ofBool (s.bmem b).loadFull * 2 ^ 28
    + ofBool (p.compute.guard || p.core.guard) * 2 ^ 29 + ofBool (p.compute.guardFreq || p.core.guardFreq) * 2 ^ 30
    + ofBool p.floor * 2 ^ 31 + s.limitOf b * 2 ^ 32)

/-- PWR_VF of basin `b`. -/
def State.pwrVf (s : State) (b : Nat) : Word :=
  let k := bKey b 0xE30008
  let r := s.rail b (s.flag k 0)
  BitVec.ofNat 64 (s.fld k 0 4 + r.anchors.getD (s.fld k 1 3) 0 % 2 ^ 12 * 2 ^ 16 + wrapInt 8 r.temp * 2 ^ 28
    + ofBool r.full * 2 ^ 36 + min 0xFFFF ((s.time - r.time) / 1000000000) * 2 ^ 48)

/-! The commands. -/

/-- SLEEP_ENTRY (R496). -/
def execSleepEntry (l : LineId) : State → Out := run fun s => s.sleepEntry l
/-- WAKE (R499). -/
def execWake (l : LineId) : State → Out := run fun s => s.wake l
/-- WAKE_TOL_WRITE (R499). -/
def execWakeTolWrite (via : Via) (l : LineId) (v : Word) : State → Out := runU fun s => s.lnWrite via l (·.writeWakeTol l v)
/-- SLEEP_EXIT_DONE (R500). -/
def execSleepExitDone (l : LineId) : State → Out := run fun s => s.sleepExitDone l
/-- SELF_REFRESH_EXIT (R501). -/
def execSelfRefreshExit (b : BasinId) : State → Out :=
  run fun s => if s.quietBasin b then s.modBmem b fun m => { m with selfRefresh := false } else s
/-- SELF_REFRESH_REENTRY (R501). -/
def execSelfRefreshReentry (b : BasinId) : State → Out :=
  run fun s => if s.quietBasin b then s.modBmem b fun m => { m with selfRefresh := true } else s
/-- POWER_SAMPLE (R503). -/
def execPowerSample (readings : List (Nat × Nat × Nat)) : State → Out := run fun s => s.powerSample readings
/-- BUDGET_LOOP (R504). -/
def execBudgetLoop : State → Out := run State.budgetLoop
/-- PWR_CAP_WRITE (R509). -/
def execPwrCapWrite (v : Word) : State → Out := runU fun s => s.hubWrite (·.writePwrCap v)
/-- VF_REVALIDATE (R508). -/
def execVfRevalidate (b : BasinId) (core pass : Bool) : State → Out := run fun s => s.vfRevalidate b core pass

end Sys2Proof.Machine
end

