-- ==== Sys2Proof/Machine/Spur.lean ====
section
/-!
DEFINITION. Spurs (R428 to R445): flits and their replay, lanes and spares, live recalibration, retrains and failure.
-/
namespace Sys2Proof.Machine

/-! Ends, versions and lanes (R428, R430, R433, R441). -/

/-- The dies at ends A and B of a spur, by their index in HUB_DIE_INV (R428, R444). -/
def spurEnds (p : Nat) : Nat × Nat :=
  if p < 8 then (0, 1 + p)
  else if p < 10 then (0, 9 + (p - 8))
  else if p < 18 then (1 + (p - 10), 1 + (p - 9) % 8)
  else (1 + (p - 18), 9 + (p - 18) / 4)

/-- The protocol version at which a spur trains; none where it is REFUSED (R433). -/
def State.spurVersion (s : State) (p : Nat) : Option Nat :=
  let a := s.die (spurEnds p).1
  let b := s.die (spurEnds p).2
  let v := min a.spurMax b.spurMax
  if v < a.spurMin ∨ v < b.spurMin then none else some v

/-- Health record of a spur lane (R470). -/
def spurLane (p : Nat) (d : Dir) (lane : Nat) : Nat := healthKey 3 (p + dirNo d * 32 + lane * 64)

/-- The lanes of a direction that are not retired, ascending. -/
def State.spurGood (s : State) (p : Nat) (d : Dir) : List Nat :=
  (List.range 34).filter fun i => !((s.healthOf (spurLane p d i)).st == .retired)

/-- One direction of a spur. -/
def Spur.side (q : Spur) : Dir → SpurDir
  | .fwd => q.ab
  | .rev => q.ba

def State.modSpurSide (s : State) (p : Nat) (d : Dir) (f : SpurDir → SpurDir) : State :=
  s.modSpur p fun q =>
    match d with
    | .fwd => { q with ab := f q.ab }
    | .rev => { q with ba := f q.ba }

/-- A direction as module reset lays it out: data on the 32 lowest lanes not retired, and the next two as spares; with
16 to 31 of them it is in HALF (R430). -/
def State.spurLayout (s : State) (p : Nat) (d : Dir) : SpurDir :=
  let g := s.spurGood p d
  { spare0 := g[32]?, spare1 := g[33]?, half := decide (g.length < 32) }

/-- The state of a spur that has trained (R430, R433, R441). -/
def State.spurTrained (s : State) (p : Nat) : SpurState :=
  let q := s.spur p
  if (s.spurVersion p).isNone then .refused
  else if (s.spurGood p .fwd).length < 16 ∨ (s.spurGood p .rev).length < 16 then .failed
  else if q.ab.half || q.ba.half then .half
  else .up

/-- The spur carries flits. -/
def Spur.works (q : Spur) : Bool := decide (q.st = .up ∨ q.st = .half)

/-- A training of the spur begins; TRAINS counts it. -/
def State.trainSpur (s : State) (p : Nat) (retest : Bool) : State :=
  (s.modSpur p fun q =>
    { q with st := .training, retest := retest, ab := { q.ab with calLane := none }, ba := { q.ba with calLane := none } }).countFld
    (spurKey p 8) 32 32 1

/-! Failure (R442). -/

/-- The Lines that use a spur. -/
def State.spurLines (s : State) (p : Nat) : List Nat := (List.range 8).filter fun l => s.isLeader l && s.spurUsedBy p l

/-- Their bits in a Logbook entry. -/
def State.spurMask (s : State) (p : Nat) : Nat := (s.spurLines p).foldl (fun m l => m + 2 ^ l) 0

/-- The coherence messages of the Line that are on their way: the caching agent and the line of each. -/
def State.cohFlying (s : State) (l : Nat) : List (Nat × Nat) :=
  (s.coh.txns.flatMap (fun t => t.waiting.map fun a => (a, t.line)) ++ s.coh.resps.map (fun r => (r.agent, r.line))
    ++ s.coh.wbs.map fun w => (w.agent, w.line)).filter fun m => s.lineHome m.2 == l

/-- The spur enters FAILED. Of a Line that uses it and has coherence messages on their way, whether one lies in its replay
buffers, and which, is a free value: then the Line fails at once, for the home and the line of that message. -/
def State.spurFails (s : State) (p : Nat) : State :=
  let s := (s.modSpur p fun q => { q with st := .failed }).logEvent 0x0601 (spurEnds p).1 (s.spurMask p) p 4
  s.each (s.spurLines p) fun s l =>
    match s.cohFlying l with
    | [] => s
    | m :: r =>
      let i := s.free % (r.length + 2)
      if i = 0 then s.bump
      else
        let (a, g) := (m :: r).getD (i - 1) m
        s.bump.failLine l 4 a 6 (s.homeBasin g) g

/-! Flits (R430, R431). -/

/-- The transmitter of a direction resends from a flit. How many it resends is what it has sent since: a free value up to
the 1,023 that it may hold. -/
def State.spurResend (s : State) (p : Nat) (d : Dir) (from_ : Nat) : State :=
  let n := 1 + s.free % 1023
  ((s.bump.count (spurKey p 0x28) n).emit (.spurCmd p (dirNo d) 6 (from_ % 1024)))

/-- The other direction. -/
def otherDir : Dir → Dir
  | .fwd => .rev
  | .rev => .fwd

/-- A lane of a direction is retired, and its place taken (R441, R443). -/
def State.spurLaneFail (s : State) (p : Nat) (d : Dir) (lane cause : Nat) : State :=
  if (s.healthOf (spurLane p d lane)).st = .retired then s
  else
    let s := s.retireLane (spurLane p d lane) (spurEnds p).1 (s.spurMask p) cause
    let q := s.spur p
    let x := q.side d
    if !q.works then s
    else if (s.spurGood p d).length < 16 then s.spurFails p
    else if x.half then s
    else
      let s := s.modSpurSide p d fun x => { x with calLane := none }
      if x.spare0 = some lane then s.modSpurSide p d fun x => { x with spare0 := none }
      else if x.spare1 = some lane then s.modSpurSide p d fun x => { x with spare1 := none }
      else if x.spare0.isSome || x.spare1.isSome then
        let s := s.modSpurSide p d fun x => if x.spare0.isSome then { x with spare0 := none } else { x with spare1 := none }
        if q.ver < 3 then s.trainSpur p false else s.emit (.spurCmd p (dirNo d) 3 lane)
      else
        ((s.modSpurSide p d fun x => { x with half := true }).modSpur p fun q => { q with st := .half }).emit
          (.spurCmd p (dirNo d) 4 lane)

/-- The buffer of a direction that flits of a class take (R432). -/
def spurPool (k cls : Nat) : Nat := 2 * k + ofBool (cls == 1)

/-- A place is free in the buffer of a direction for a class: a flit is sent only with a credit for it (R432, R339). -/
def Spur.room (q : Spur) (k cls : Nat) : Bool :=
  let n := tblGet 0 q.buffered (spurPool k cls)
  n == 0 || decide (n < Config.spurBuffer (ofBool (cls == 1)))

/-- A flit is received in a direction: a flit whose CRC fails is answered with NAK, one in sequence is delivered into the
buffer of its class, and any other is dropped. Its ACK and NAK, and the places that its sender has freed, are for the other
direction. -/
def State.spurReceive (s : State) (p : Nat) (d : Dir) (f : SpurFlit) : State :=
  let q := s.spur p
  let k := dirNo d
  let back := dirNo (otherDir d)
  let next := tblGet 0 q.rxSeq k
  if !q.works then s
  else if !f.crcOk then
    ((s.count (spurKey p 0x30) 1).modSpur p fun q => { q with nak := tblSet false q.nak k true }).emit
      (.spurCmd p back 5 ((next + 1023) % 1024))
  else if f.seq ≠ next ∨ q.room k f.cls = false then s
  else
    let into := spurPool k f.cls
    let from_ := 2 * back + ofBool f.freedE
    let s := s.modSpur p fun q =>
      { q with rxSeq := tblSet 0 q.rxSeq k ((next + 1) % 1024), nak := tblErase q.nak k
               acked := tblSet 0 q.acked back f.ack
               buffered := tblSet 0 (tblSet 0 q.buffered into (tblGet 0 q.buffered into + 1)) from_
                 (tblGet 0 q.buffered from_ - f.freed) }
    let s := if f.nak then s.spurResend p (otherDir d) (f.ack + 1) else s
    if f.laneCmd = 3 ∧ f.lane < 34 then s.spurLaneFail p d f.lane 0 else s

/-- SPUR_NAK: the transmitter of a direction resends from the flit named. -/
def State.spurNak (s : State) (p : Nat) (d : Dir) (from_ : Nat) : State :=
  if (s.spur p).works then s.spurResend p d from_ else s

/-! Live recalibration (R437, R443). -/

/-- The next lane that a step frees: the lowest data lane after the one freed last, as R358 has it. -/
def State.spurNextLane (s : State) (p : Nat) (d : Dir) : Option Nat :=
  let x := (s.spur p).side d
  let data := (s.spurGood p d).filter fun i => some i != x.spare0 && some i != x.spare1
  (data.find? fun i => decide (x.lastFreed < i)).orElse fun _ => data.head?

/-- A step begins in a direction of a version 3 spur that is UP and has a free spare. -/
def State.spurStep (s : State) (p : Nat) (d : Dir) : State :=
  let q := s.spur p
  let x := q.side d
  if q.st = .up ∧ q.ver = 3 ∧ x.calLane = none ∧ (x.spare0.isSome || x.spare1.isSome) then
    match s.spurNextLane p d with
    | some i => (s.modSpurSide p d fun x => { x with calLane := some i }).emit (.spurCmd p (dirNo d) 1 i)
    | none => s
  else s

/-- SPUR_RECAL_STEP: a step that SPUR_CAL.INTERVAL_S brings. -/
def State.spurRecal (s : State) (p : Nat) (d : Dir) : State := if s.fld (spurKey p 0x20) 0 8 = 0 then s else s.spurStep p d

/-- SPUR_RECAL_STEP_DONE: the freed lane becomes the spare. -/
def State.spurRecalDone (s : State) (p : Nat) (d : Dir) : State :=
  match ((s.spur p).side d).calLane with
  | some i =>
    (s.modSpurSide p d fun x =>
      if x.spare0.isSome then { x with spare0 := some i, lastFreed := i, calLane := none }
      else { x with spare1 := some i, lastFreed := i, calLane := none }).countFld (spurKey p 0x20) 32 32 1
  | none => s

/-! Retrains (R441 to R443). -/

/-- SPUR_LOCK_LOSS: the spur retrains. -/
def State.spurLockLoss (s : State) (p : Nat) : State := if (s.spur p).works then s.trainSpur p false else s

/-- The lanes of a direction after training: those that fail are retired; where retired lanes were tested again, one that
passes is HEALTHY, and the direction is laid out anew. -/
def State.spurLanesTrained (s : State) (p : Nat) (d : Dir) (bad : Nat) : State :=
  let retest := (s.spur p).retest
  let s := s.each (List.range 34) fun s i =>
    let k := spurLane p d i
    if bit bad i then
      let x := (s.spur p).side d
      let s := s.retireLane k (spurEnds p).1 (s.spurMask p) 0
      if x.spare0 = some i then s.modSpurSide p d fun x => { x with spare0 := none }
      else if x.spare1 = some i then s.modSpurSide p d fun x => { x with spare1 := none }
      else if x.spare0.isSome then s.modSpurSide p d fun x => { x with spare0 := none }
      else if x.spare1.isSome then s.modSpurSide p d fun x => { x with spare1 := none }
      else s.modSpurSide p d fun x => { x with half := true }
    else if retest && (s.healthOf k).st == .retired then s.modHealth k fun h => { h with st := .healthy }
    else s
  if retest then s.modSpurSide p d fun _ => s.spurLayout p d else s

/-- SPUR_RETRAIN_DONE: an attempt ends. `lanes` are the lanes that fail in it, by direction. -/
def State.spurRetrainDone (s : State) (p : Nat) (ok : Bool) (lanes : Nat × Nat) : State :=
  let q := s.spur p
  if q.st ≠ .training then s
  else if !ok then
    if 3 ≤ q.attempts + 1 then (s.modSpur p fun q => { q with attempts := 0, retest := false }).spurFails p
    else (s.modSpur p fun q => { q with attempts := q.attempts + 1 }).trainSpur p q.retest
  else
    let s := (s.spurLanesTrained p .fwd lanes.1).spurLanesTrained p .rev lanes.2
    let s := s.modSpur p fun q => { q with attempts := 0, retest := false, ver := (s.spurVersion p).getD 0 }
    match s.spurTrained p with
    | .failed => s.spurFails p
    | st => s.modSpur p fun q => { q with st := st }

/-! Registers (R445). -/

/-- A write of SPUR_CTL. -/
def State.writeSpurCtl (s : State) (p : Nat) (v : Word) : State :=
  let s := s.undefIf (v.field 2 62 != 0) .reservedWrite
  let s := s.when (v.flag 0 && (s.spur p).works) (·.trainSpur p true)
  s.when (v.flag 1) fun s => (s.spurStep p .fwd).spurStep p .rev

/-- SPUR_STATUS. -/
def State.spurStatus (s : State) (p : Nat) : Word :=
  let q := s.spur p
  let code : Nat := match q.st with
    | .off => 0 | .training => 1 | .up => 2 | .half => 3 | .failed => 4 | .refused => 5
  let free (x : SpurDir) : Nat := ofBool x.spare0.isSome + ofBool x.spare1.isSome
  BitVec.ofNat 64 (code + ofBool (q.ab.calLane.isSome || q.ba.calLane.isSome) * 2 ^ 3 + q.ver * 2 ^ 4
    + free q.ab * 2 ^ 8 + free q.ba * 2 ^ 10 + s.fld (spurKey p 8) 32 32 * 2 ^ 32)

/-- SPUR_LANES_AB and SPUR_LANES_BA. -/
def State.spurLanes (s : State) (p : Nat) (d : Dir) : Word :=
  let x := (s.spur p).side d
  let retired := ((List.range 34).filter fun i => !(s.spurGood p d).contains i).foldl (fun m i => m + 2 ^ i) 0
  BitVec.ofNat 64 (retired + x.spare0.getD 0x3F * 2 ^ 34 + x.spare1.getD 0x3F * 2 ^ 40)

/-! The commands. -/

/-- SPUR_FLIT_RECEIVE (R431). -/
def execSpurFlitReceive (sp : SpurId) (dir : Dir) (flit : SpurFlit) : State → Out :=
  runU fun s => s.spurReceive sp dir flit
/-- SPUR_NAK (R431). -/
def execSpurNak (sp : SpurId) (dir : Dir) (from_ : Nat) : State → Out := run fun s => s.spurNak sp dir from_
/-- SPUR_LOCK_LOSS (R442). -/
def execSpurLockLoss (sp : SpurId) : State → Out := run fun s => s.spurLockLoss sp
/-- SPUR_RETRAIN_DONE (R442). -/
def execSpurRetrainDone (sp : SpurId) (ok : Bool) (lanes : Nat × Nat) : State → Out :=
  runU fun s => s.spurRetrainDone sp ok lanes
/-- SPUR_LANE_FAIL (R441). -/
def execSpurLaneFail (sp : SpurId) (dir : Dir) (lane : Fin 34) : State → Out :=
  runU fun s => if (s.spur sp).works then s.spurLaneFail sp dir lane 0 else s
/-- SPUR_RECAL_STEP (R437). -/
def execSpurRecalStep (sp : SpurId) (dir : Dir) : State → Out := run fun s => s.spurRecal sp dir
/-- SPUR_RECAL_STEP_DONE (R437). -/
def execSpurRecalStepDone (sp : SpurId) (dir : Dir) : State → Out := run fun s => s.spurRecalDone sp dir
/-- SPUR_RETRAIN (R445): a write of SPUR_CTL. -/
def execSpurRetrain (sp : SpurId) (v : Word) : State → Out := runU fun s => s.hubWrite (·.writeSpurCtl sp v)
/-- SPUR_CAL_NOW (R445): a write of SPUR_CTL. -/
def execSpurCalNow (sp : SpurId) (v : Word) : State → Out := runU fun s => s.hubWrite (·.writeSpurCtl sp v)

end Sys2Proof.Machine
end

