-- ==== Sys2Proof/Machine/Health.lean ====
section
/-!
DEFINITION. Units and their health records (R456, R457, R470) and jobs (R455, R469), as their registers show them.
-/
namespace Sys2Proof.Machine

/-! Units and their health records (R456, R457, R470). -/

/-- KIND of HUB_UNIT_CMD. -/
def kindNo : UnitKind → Nat
  | .grid => 0 | .core => 1 | .subarray => 2 | .spurLane => 3 | .railLane => 4 | .memChan => 5

/-- UNIT names a unit of its kind. -/
def unitOk (kind u : Nat) : Bool :=
  match kind with
  | 0 => decide (u / 8 < 34)
  | 1 => decide (u / 2 < 68)
  | 2 => decide (u < 2 ^ 16 ∧ u / 2 ^ 11 < 33)
  | 3 => decide (u % 32 < 26 ∧ u < 2 ^ 12 ∧ u / 64 < 34)
  | 4 => decide (u < 2 ^ 10 ∧ u / 64 < 9)
  | 5 => decide (u < 256)
  | _ => false

/-- The direction that a lane's UNIT names. -/
def unitDir (u : Nat) : Dir := if bit u 5 then .rev else .fwd

/-- The die that a unit lies on, by its index (R444). -/
def unitDie (kind u : Nat) : Nat :=
  match kind with
  | 0 | 2 => 1 + u % 8
  | 1 => 9 + u % 2
  | 3 => (spurEnds (u % 32)).1
  | 4 => 11 + u % 32 / 2
  | _ => 1 + u / 32

/-- The group in which one unit is tested at a time (R459). -/
def testGroup (k : Nat) : Nat × Nat :=
  let u := k % 2 ^ 24
  match k / 2 ^ 24 with
  | 0 => (0, u % 8 * 2 + slotGroup (u / 8))
  | 1 => (1, (testBasin k).getD 0)
  | 2 => (2, u % 2 ^ 11)
  | n => (n, u % 64)

/-- A test runs on the unit. -/
def State.testing (s : State) (k : Nat) : Bool := (tblGet none s.tests k).isSome

/-- A test runs in the unit's group. -/
def State.groupTesting (s : State) (k : Nat) : Bool := s.tests.any fun e => testGroup e.1 == testGroup k

/-- The spare that could shadow slot `slot` of basin `b` (R462). -/
def State.shadowSpare (s : State) (b slot : Nat) : Option Nat := s.groupSpare b (slotGroup slot)

/-- GRD_HEALTH and HUB_UNIT_HEALTH of a unit (R140, R470). -/
def State.unitHealth (s : State) (k : Nat) : Word :=
  let h := s.healthOf k
  let u := k % 2 ^ 24
  let g := u % 8 * 34 + u / 8
  let grid := decide (k < 2 ^ 24)
  let code : Nat := match h.st with | .healthy => 0 | .suspect => 1 | .retired => 2
  let shadowed := grid && h.st == .suspect && (s.shadowSpare (u % 8) (u / 8)).isSome
  let standing := grid && match s.nameOf g with
    | some (p, q) => decide (p % 8 * 4 + q ≠ u / 8)
    | none => false
  let since := min 0xFFFF ((s.aged - h.testedAt) / 60000000000)
  let tested := decide (k / 2 ^ 24 < 5)
  BitVec.ofNat 64 (code + h.cause * 2 ^ 4 + min 255 h.mismatches * 2 ^ 8 + ofBool shadowed * 2 ^ 16
    + ofBool (s.testing k) * 2 ^ 17 + ofBool standing * 2 ^ 18
    + (if tested then min 0xFFFF h.tests * 2 ^ 32 + since * 2 ^ 48 else 0))

/-- HUB_UNIT_COUNTS (R470). -/
def State.unitCounts (s : State) : Word :=
  let count (kind : Nat) (st : HealthState) : Nat :=
    (s.health.filter fun e => e.1 / 2 ^ 24 == kind && e.2.st == st).length
  BitVec.ofNat 64 (count 0 .retired + count 1 .retired * 2 ^ 16 + count 0 .suspect * 2 ^ 32 + count 1 .suspect * 2 ^ 48)

/-- Logs a change of health (R529). -/
def State.logHealth (s : State) (k : Nat) : State :=
  let l := match testBasin k with
    | some b => s.leaderOf b
    | none => 8
  s.logEvent 0x0500 (unitDie (k / 2 ^ 24) (k % 2 ^ 24)) (lineBit l) (unitArg k) (s.unitHealth k).toNat

/-! Jobs (R455, R469). -/

/-- A write of LN_JOB_CTL. -/
def State.writeJobCtl (s : State) (l : Nat) (v : Word) : State :=
  let s := s.undefIf (v.field 19 13 != 0 || v.field 49 15 != 0) .reservedWrite
  let tag := v.field 0 16
  let s := s.setReg (lnKey l 0x700) (BitVec.ofNat 64 tag)
  if v.flag 16 then s.endJob l tag 3 0 0 0 0
  else if v.flag 17 then s.modLine l fun ln => { ln with ended := tblErase ln.ended tag }
  else s

/-- LN_JOB_CTL as it reads. -/
def State.jobCtl (s : State) (l : Nat) : Word :=
  let tag := s.fld (lnKey l 0x700) 0 16
  BitVec.ofNat 64 (tag + ofBool (s.jobEnded l tag) * 2 ^ 18 + (s.line l).ended.length * 2 ^ 32)

end Sys2Proof.Machine
end

