-- ==== Sys2Proof/Machine/Rail.lean ====
section
/-!
DEFINITION. Transfer channels at work (R245 to R271), with deliveries to and from remote windows, and what arriving
flits do (R291, R347 to R355).
-/
namespace Sys2Proof.Machine

/-! Channels: the sending side. -/

/-- Whether a context can take a new delivery: on a port; not yet; or never, with the status that a transfer ends with
(R261, R351, R353). -/
inductive CtxGate where
  | go (p : Nat)
  | wait
  | gone (status : Nat)
deriving DecidableEq, Repr

/-- The gate of context `c` for a delivery of class `cls`. -/
def State.ctxGate (s : State) (l c cls : Nat) : CtxGate :=
  let x := s.ctx (ctxKey l c)
  if !s.ctxExists l c then .gone 0x21
  else
    match x.st with
    | .off | .down | .closing => .gone 0x26
    | .opening => .wait
    | .open_ =>
      if 4096 ≤ x.sent.length then .wait
      else match s.choosePath l c cls with
        | some p => .go p
        | none => .wait

/-- Every delivery has committed: the RDONE add travels where one is due, and otherwise the transfer ends OK (R259,
R355). -/
def State.xferOk (s : State) (c : Nat) (x : Xfer) : State :=
  if x.dstRemote && (x.w 13).flag 15 then
    if x.rdone then s
    else
      match s.ctxGate (s.leaderOf (c / 16)) x.peer x.cls with
      | .gone st => s.xferFinish c x st 1
      | .wait => s
      | .go p =>
        (s.setHead c { x with rdone := true }).railSend (s.leaderOf (c / 16)) x.peer p
          { number := 0, port := p, isCounter := true, chan := c, type := 6, cls := x.cls
            info := (x.w 13).field 16 16 + bits (x.dstAt x.start) 40 11 * 2 ^ 16
            bodies := [((x.w 13).field 0 15, [])] }
  else s.xferFinish c x 0

/-- The offset of the first poisoned byte of pieces in walk order. -/
def firstPoison : List Piece → Nat
  | [] => 0
  | p :: r => if p.poison then 0 else p.data.length + firstPoison r

/-- A sent delivery has been refused, or the transfer is to end: it sends nothing more. -/
def Xfer.closing (x : Xfer) : Bool :=
  x.ending.isSome || x.sent.any fun p => match p.ack with
    | some (st, _) => st != 0
    | none => false

/-- Sends the next delivery of a transfer to a remote window. One that cannot be sent ends the transfer once every
delivery before it has committed (R254, R262, R266). -/
def State.sendDelivery (s : State) (c : Nat) (x : Xfer) : State :=
  let l := s.leaderOf (c / 16)
  match s.ctxGate l x.peer x.cls with
  | .gone st => s.xferFinish c x st 1
  | .wait => s
  | .go p =>
    if x.total ≤ x.sentPos ∨ x.closing then s
    else
      let d := x.delivery x.sentPos
      let (f, t) := if x.op = 1 then ({ ps := x.fillPieces d }, s) else s.fetchPages c x {} (sourcePages d)
      match f.bad with
      | some (st, side, a) => if x.sent = [] then t.xferFinish c { x with chk := x.chk || f.chk } st side a else s
      | none =>
        if f.ps.any (·.poison) then
          if x.sent = [] then
            t.xferSink c { x with chk := x.chk || f.chk } (x.dstAt x.pos) 1 (x.srcAt (x.pos + firstPoison f.ps))
          else s
        else
          let part : SentPart := { number := (t.ctx (ctxKey l x.peer)).nextDelivery, pos := x.sentPos, len := segBytes d }
          let check := crc32c (f.ps.flatMap (·.data))
          (t.setHead c { x with sentPos := x.sentPos + segBytes d, sent := x.sent ++ [part], chk := x.chk || f.chk }).railSend
            l x.peer p
            { number := 0, port := p, chan := c, type := if x.op = 2 then 2 else 1, cls := x.cls
              info := check + (if x.op = 2 then (x.w 13).field 32 32 * 2 ^ 32 else 0)
              bodies := flitBodies (f.ps.map fun q => (q.dst, q.data)) }

/-- Commits in walk order the deliveries that have been acknowledged (R254, R352). A refusal ends the transfer when every
delivery that it has sent is answered. -/
def State.settleSent (c : Nat) : (fuel : Nat) → State → State
  | 0, s => s
  | k + 1, s =>
    match (s.chan c).queue with
    | [] => s
    | x :: _ =>
      match x.sent with
      | [] =>
        match x.ending with
        | some (st, side, va) => s.xferFinish c x st side va
        | none => s
      | p :: rest =>
        match p.ack with
        | none => s
        | some (0, chk) =>
          let (y, s) := s.advance c { x with sent := rest } p.len false chk
          if y.total ≤ y.pos ∧ y.ending = none then s.xferOk c y else State.settleSent c k s
        | some (st, chk) =>
          if rest.all (·.ack.isSome) then s.xferFinish c { x with chk := x.chk || chk, sent := [] } st 1 (x.dstAt p.pos) else s

/-- Asks for the sources of the next delivery: one READ_REQ for each run within a source block (R354). -/
def State.requestSources (s : State) (c : Nat) (x : Xfer) : State :=
  let l := s.leaderOf (c / 16)
  match s.ctxGate l x.peer x.cls with
  | .gone st => s.xferFinish c x st 0
  | .wait => s
  | .go p =>
    if x.closing then s else
    ((sourcePages (x.delivery x.pos)).foldl (fun (pos, s) (a, n, _) =>
      let part : FetchPart := { number := (State.ctx s (ctxKey l x.peer)).nextDelivery, pos := pos, addr := a, len := n }
      let s := State.modChan s c fun q => { queue := match q.queue with
        | y :: r => { y with fetch := y.fetch ++ [part] } :: r
        | [] => [] }
      (pos + n, State.railSend s l x.peer p
        { number := 0, port := p, isRead := true, chan := c, type := 3, cls := x.cls, info := n, bodies := [(a, [])] }))
      (x.pos, s)).2

/-- The next delivery of a transfer from a remote window: its sources are asked for, and it commits when all of them have
come. Bytes that came poisoned set CHK (R354). -/
def State.fetchDelivery (s : State) (c : Nat) (x : Xfer) : State :=
  if x.fetch = [] then s.requestSources c x
  else if x.fetch.all (·.data.isSome) then
    let ps := x.fetch.map fun f =>
      { dst := x.dstAt f.pos, data := (f.data.getD ([], false)).1, poison := (f.data.getD ([], false)).2 : Piece }
    let y := { x with fetch := [], chk := x.chk || ps.any (·.poison) }
    (s.setHead c y).commitLocal c y (some ps)
  else s

/-- The context of a transfer lets a new delivery go, or ends the transfer. -/
def State.gateOpen (s : State) (l : Nat) (x : Xfer) : Bool := s.ctxGate l x.peer x.cls != .wait

/-- The class in which the transfer at the head of channel `c` waits for the engine, where it can go on: E over a context
with no grant is carried as S (R66, R267). Once its RDONE add has been sent, nothing ends it but the answer (R259). -/
def State.chanWaits (s : State) (c : Nat) : Option Nat :=
  let l := s.leaderOf (c / 16)
  match (s.chan c).queue with
  | x :: _ =>
    let go : Bool :=
      if s.jobEnded l x.job then true
      else if x.total ≤ x.pos then !x.dstRemote || !(x.w 13).flag 15 || s.gateOpen l x
      else if x.dstRemote then !x.closing && decide (x.sentPos < x.total) && s.gateOpen l x
      else if x.srcRemote then if x.fetch = [] then s.gateOpen l x else x.fetch.all (·.data.isSome)
      else true
    if x.running && !x.rdone && x.ending.isNone && (s.lineStOf (c / 16)).works && go then
      some (if x.cls = 1 && x.remote && s.ctxGrants l x.peer == [] then 0 else x.cls)
    else none
  | [] => none

/-- The channels of basin `b` that wait on its engine, with their classes. -/
def State.engineWaits (s : State) (b : Nat) : List (Nat × Nat) :=
  (List.range 16).filterMap fun k => (s.chanWaits (b * 16 + k)).map fun cls => (k, cls)

/-- DELIVERY_COMMIT: the engine serves channel `c`, whose turn it is (R43, R267): its running transfer carries its next
delivery on (R253 to R255). A transfer whose job has ended stops at the boundary (R454). -/
def State.deliveryCommit (s : State) (c : Nat) : State :=
  match s.turnOf (c / 16) (s.leaderOf (c / 16)) (s.engineWaits (c / 16)) (c % 16) with
  | none => s
  | some s =>
    match (s.chan c).queue with
    | x :: _ =>
      if s.jobEnded (s.leaderOf (c / 16)) x.job then s.endXfer c x 0x30
      else if x.total ≤ x.pos then s.xferOk c x
      else if x.dstRemote then s.sendDelivery c x
      else if x.srcRemote then s.fetchDelivery c x
      else s.commitLocal c x none
    | [] => s

/-- TRANSFER_START: the channel starts its next descriptor (R250, R258, R271, R351, R454). -/
def State.transferStart (s : State) (c : Nat) : State :=
  match (s.chan c).queue with
  | x :: _ =>
    if x.running || !(s.lineStOf (c / 16)).works || s.flag (chKey c 0) 1 then s
    else
      let s := s.xferUndef x
      let y := { x with running := true, pos := x.start, sentPos := x.start }
      if s.jobEnded (s.leaderOf (c / 16)) x.job then s.xferFinish c y 0x30
      else
        let gate := if x.remote then s.ctxGate (s.leaderOf (c / 16)) x.peer x.cls else .wait
        match gate with
        | .gone st => s.xferFinish c y st x.remoteSide
        | _ => if x.empty then (s.setHead c y).xferOk c y else s.setHead c y
  | [] => s

/-- A write of XE_CH_CTL (R271). -/
def State.writeChCtl (s : State) (c : Nat) (v : Word) : State :=
  let s := (s.undefIf (v.field 2 62 != 0) .reservedWrite).setFlag (chKey c 0) 1 (v.flag 1)
  if v.flag 0 then
    match (s.chan c).queue with
    | x :: _ => if x.running && !x.rdone && (s.lineStOf (c / 16)).works then s.endXfer c x 0x31 else s
    | [] => s
  else s

/-- XE_CH_STATUS (R271). A channel is FENCED while its next descriptor waits at its FENCE for one that has moved all its
bytes. -/
def State.chStatus (s : State) (c : Nat) : Word :=
  let q := (s.chan c).queue
  let run := match q with | x :: _ => if x.running then some x else none | [] => none
  let held := run.isNone && q != [] && s.flag (chKey c 0) 1
  let fenced := match q with
    | x :: y :: _ => x.running && decide (x.total ≤ x.pos) && (y.w 0).flag 6
    | _ => false
  let (cls, job) := match run with | some x => (x.cls, x.job) | none => (0, 0)
  (((((s.reg (chKey c 8)).withField 0 2 (if fenced then 3 else if run.isSome then 1 else if held then 2 else 0)).withField 2 4 q.length).withField
    6 2 cls).withField 48 16 job)

/-- XE_STATUS of basin `b` (R270). -/
def State.xeStatus (s : State) (b : Nat) : Word :=
  let runs (c : Nat) : Bool := match (s.chan (b * 16 + c)).queue with | x :: _ => x.running | [] => false
  BitVec.ofNat 64 (((List.range 16).map fun c => ofBool (runs c) * 2 ^ c
    + ofBool ((s.chan (b * 16 + c)).queue != []) * 2 ^ (16 + c)).sum)

/-! Arriving flits (R347, R350). -/

/-- The class in which an arrived flit is served. CLASS 3, which R342 does not name, is served as B (DEDUCED;
notes/assumptions). -/
def flitRank (f : Flit) : Nat := min f.cls 2

/-- The flit that port `p` serves next, with the arbiter moved on: E first, then S and B by the weights of the Line's leader,
in each class the oldest (R43, R356). -/
def State.nextFlit (s : State) (p : Nat) : Option (Flit × Arb) :=
  let q := (s.port p).rxq
  match (s.arb (64 + p)).pick (s.weights (s.leaderOf (p / 4))) fun k => q.any fun f => flitRank f == k with
  | some (k, a) => (q.find? fun f => flitRank f == k).map fun f => (f, a)
  | none => none

/-- Takes the flit that is served next from a port, where it has a TYPE. Its place in the buffer is free again (R339). -/
def State.popFlit (s : State) (p type : Nat) : Option (Flit × State) :=
  match s.nextFlit p with
  | some (f, a) =>
    if f.type = type then
      some (f, (((s.setArb (64 + p) a).modPort p fun x => { x with rxq := x.rxq.erase f }).railCtl p 7 (flitRank f) 1))
    else none
  | none => none

/-- Drops a flit (RAIL_RX_DROP). -/
def State.dropFlit (s : State) (p : Nat) : State := s.count (portKey p 0x48) 1

/-- Accepts the flit whose turn it is, where it has this TYPE: it is dropped where R347, R350 or R361 says so, and a failing tag takes its
context DOWN. `f` is the effect of an accepted flit, with the Line, the context and whether this flit opened it. -/
def State.receive (s : State) (p type : Nat) (f : State → Nat → Nat → Flit → Bool → State) : State :=
  match s.popFlit p type with
  | none => s
  | some (fl, s) =>
    let l := s.leaderOf (p / 4)
    if !s.railLive l || fl.dstEp != s.endpoint l then s.dropFlit p
    else
      let s := s.wakeExit l
      let c := fl.dstCtx
      let k := ctxKey l c
      let x := s.ctx k
      let opens := x.st == .opening && x.keyed
      if !(x.st == .open_ || opens || (x.st == .closing && type == 5 && x.keyed)) then s.dropFlit p
      else if !fl.tagOk || (fl.epoch != x.epoch && !x.oldEpoch) then (s.dropFlit p).ctxDown l c 5
      else
        let s := s.modCtx k fun x =>
          { x with st := if opens then .open_ else x.st
                   newSeen := if x.oldEpoch && fl.epoch == x.epoch then some (x.newSeen.getD s.time) else x.newSeen
                   rxSeq := if fl.epoch = x.epoch then fl.seq + 1 else x.rxSeq }
        f (s.count (portKey p 0x40) 1) l c fl opens

/-- The flit with a delivery's other flits (R342). Those of a delivery may come out of order, since each carries its own class;
one that is sent again replaces what it sent before. -/
def Arriving.add (a : Arriving) (f : Flit) : Arriving :=
  { a with pieces := tblInsert a.pieces f.offset (f.addr, f.body)
           last := if f.last then some (f.offset + f.body.length, f.info) else a.last }

/-- The INFO of the flit with LAST and the pieces in walk order, once every byte of the delivery has come. -/
def Arriving.whole (a : Arriving) : Option (Nat × List (Nat × List Byte)) :=
  match a.last with
  | some (n, info) =>
    if (a.pieces.map fun e => e.2.2.length).sum = n then some (info, a.pieces.map (·.2)) else none
  | none => none

/-- Adds a flit to its delivery, and takes the delivery out where it is whole. -/
def State.gather (s : State) (l c : Nat) (f : Flit) : Option (Nat × List (Nat × List Byte)) × State :=
  let here (a : Arriving) : Bool := a.number == f.delivery && a.type == f.type
  let x := s.ctx (ctxKey l c)
  let a := ((x.arriving.find? here).getD { number := f.delivery, type := f.type }).add f
  let rest := x.arriving.filter fun a => !here a
  let put (as : List Arriving) : State := s.modCtx (ctxKey l c) fun x => { x with arriving := as }
  match a.whole with
  | some w => (some w, put rest)
  | none => (none, put (rest ++ [a]))

/-- Steps 1 to 3 of R291 for a window index: the window's words, where they pass. -/
def State.windowFor (s : State) (l index : Nat) (wr : Bool) : Option (Word × Word) :=
  (s.tt.windows.find? fun w => w.1.field 0 11 == index % 2048).bind fun w =>
    if w.1.field 11 3 = l ∧ w.1.flag (if wr then 15 else 14) then some w else none

/-- Resolves an access of `n` bytes at a remote-window DPA at the receiving Line (R291). -/
def State.resolve (s : State) (l a n : Nat) (wr : Bool) : Option Nat :=
  match (s.line l).st with
  | .starting | .running | .stopping | .stopped =>
    (s.windowFor l (bits a 40 11) wr).bind fun w =>
      if a % 2 ^ 40 + n ≤ w.1.field 32 28 * 4096 then some (w.2.field 0 52 + a % 2 ^ 40) else none
  | _ => none

/-- Resolves every piece of a delivery; none where one is refused. -/
def State.resolveAll (s : State) (l : Nat) : List (Nat × List Byte) → Option (List (Nat × List Byte))
  | [] => some []
  | (a, bs) :: r =>
    (s.resolve l a bs.length true).bind fun d => (State.resolveAll s l r).map fun t => (d, bs) :: t

/-- CHECK of a last flit agrees with the bytes received. -/
def checkOk (f : Flit) (ps : List (Nat × List Byte)) : Bool := crc32c (ps.flatMap (·.2)) == f.info % 2 ^ 32

/-- Acknowledges again a delivery that has been committed (R353). -/
def State.ackAgain (s : State) (l c p number : Nat) : Option State :=
  match (s.ctx (ctxKey l c)).committed.find? fun e => e.1 == number with
  | some e => some (s.answer l c p 5 0 number e.2 [])
  | none => none

/-- The last flit of a WRITE delivery: it is resolved, checked, written and acknowledged (R352). -/
def State.commitWrite (s : State) (l c p : Nat) (f : Flit) (ps : List (Nat × List Byte)) : State :=
  match s.resolveAll l ps with
  | none => s.sendAck l c p f.delivery 0x24 false false
  | some ds =>
    let bad := !checkOk f ps
    let blk := ((ds.map (·.1)).headD 0) / 4096
    let (old, _, s) := s.writeBlock (p / 4) blk (ds.map fun d => { dst := d.1, data := d.2, poison := bad }) 2
    (s.when bad (·.poisonBlock blk)).sendAck l c p f.delivery 0 (bad || old) false

/-- The last flit of a REDUCE delivery: it is resolved and handed to the confluence unit (R352, R370). -/
def State.commitReduce (s : State) (l c p : Nat) (f : Flit) (ps : List (Nat × List Byte)) : State :=
  match s.resolveAll l ps with
  | none => s.sendAck l c p f.delivery 0x24 false false
  | some ds => s.cflDeliver l (p / 4) (bits f.info 32 8) (bits f.info 40 16) ds (!checkOk f ps) f.srcEp c f.delivery p

/-- A REDUCE delivery waits at an ARMING entry. -/
def State.cflWaits (s : State) (l c number : Nat) : Bool :=
  s.cfls.any fun e => e.1 / 256 == l && e.2.waiting.any fun w => w.ctx == c && w.number == number

/-- A flit of a WRITE or REDUCE delivery (R352, R353). -/
def State.rxData (s : State) (l c p : Nat) (f : Flit) (commit : State → Flit → List (Nat × List Byte) → State) : State :=
  match s.gather l c f with
  | (some (info, ps), s) =>
    match s.ackAgain l c p f.delivery with
    | some s => s
    | none => if s.cflWaits l c f.delivery then s else commit s { f with info := info } ps
  | (none, s) => s

/-- A READ_REQ (R354). Its answer travels in its class (R267). -/
def State.rxReadReq (s : State) (l c p : Nat) (f : Flit) : State :=
  let n := bits f.info 0 13
  match s.resolve l f.addr n false with
  | none => s.answer l c p 4 (flitRank f) f.delivery (0x24 * 2 ^ 32) []
  | some a =>
    let (bad, s) := s.checkSource (p / 4) l (a / 4096) 3
    if bad || s.blockPoisoned (a / 4096) then s.answer l c p 4 (flitRank f) f.delivery (0x30 * 2 ^ 32) []
    else
      let (r, s) := s.load l a n
      s.answer l c p 4 (flitRank f) f.delivery (crc32c r.data) (flitBodies [(0, r.data)])

/-- The delivery of a context that an answer names, removed from those unacknowledged. -/
def State.popSent (s : State) (l c number : Nat) (isRead : Bool) : Option SentDelivery × State :=
  let k := ctxKey l c
  match (s.ctx k).sent.find? fun d => d.number == number && d.isRead == isRead with
  | some d => (some d, s.modCtx k fun x => { x with sent := x.sent.filter fun e => !(e.number == number && e.isRead == isRead) })
  | none => (none, s)

/-- Replaces the running transfer of a channel that uses context `c`. -/
def State.onXfer (s : State) (ch c : Nat) (f : State → Xfer → State) : State :=
  match (s.chan ch).queue with
  | x :: _ => if x.running && x.remote && x.peer == c && (s.lineStOf (ch / 16)).works then f s x else s
  | [] => s

/-- A READ_DATA answer: its data, or poisoned data where the source was poisoned or CHECK fails; a refusal ends the
transfer with PERMISSION (R354). -/
def State.rxReadData (s : State) (l c : Nat) (f : Flit) : State :=
  match s.gather l c f with
  | (none, s) => s
  | (some (info, ps), s) =>
    let f := { f with info := info }
    let (d, s) := s.popSent l c f.delivery true
    match d with
    | none => s
    | some d =>
      s.onXfer d.chan c fun s x =>
        match x.fetch.find? fun g => g.number == f.delivery with
        | none => s
        | some g =>
          let data := ps.flatMap (·.2)
          let status := bits f.info 32 8
          if status = 0x24 then s.xferFinish d.chan x 0x24 0 g.addr
          else
            let good := status == 0 && checkOk f ps && data.length == g.len
            let (junk, s) := s.freeBytes (if good then 0 else g.len)
            let got := if good then (data, false) else (junk, true)
            s.setHead d.chan { x with fetch := x.fetch.map fun h => if h.number = g.number then { h with data := some got } else h }

/-- An ACK (R352, R355). The empty ACK that opens a context acknowledges nothing. -/
def State.rxAck (s : State) (l c : Nat) (f : Flit) (opens : Bool) : State :=
  if opens then s
  else
    let (d, s) := s.popSent l c f.delivery false
    match d with
    | none => s
    | some d =>
      s.onXfer d.chan c fun s x =>
        if d.isCounter then (if x.rdone then s.xferFinish d.chan x 0 else s)
        else
          let ack := (f.info % 2 ^ 8, bit f.info 8)
          (s.setHead d.chan { x with sent := x.sent.map fun q => if q.number = f.delivery then { q with ack := some ack } else q }).settleSent
            d.chan (x.sent.length + 1)

/-- A COUNTER_ADD: applied once, or refused and logged (R353, R355). -/
def State.rxCounterAdd (s : State) (l c p : Nat) (f : Flit) : State :=
  match s.ackAgain l c p f.delivery with
  | some s => s
  | none =>
    let i := f.addr % 2 ^ 15
    if (s.windowFor l (bits f.info 16 11) true).isSome && (s.counterDpa l i).isSome then
      (s.counterAdd l i (bits f.info 0 16)).sendAck l c p f.delivery 0 false false
    else
      (s.logEvent 0x0602 (1 + p / 4) (lineBit l) f.srcEp i).sendAck l c p f.delivery 0 false true

/-- A CLOSE (R351): it is acknowledged, and the context goes DOWN. -/
def State.rxClose (s : State) (l c p : Nat) (f : Flit) : State := (s.sendAck l c p f.delivery 0 false false).ctxDown l c 2

/-- A HANDSHAKE flit (R349, R350). The last flit of a message counts: at an OPENING context it is the peer's message; at an
OPEN one a rekey; at one in OFF or DOWN it is kept for the OPEN to come. -/
def State.handshake (s : State) (p : Nat) : State :=
  match s.popFlit p 8 with
  | none => s
  | some (f, s) =>
    let l := s.leaderOf (p / 4)
    if !s.railLive l || f.dstEp != s.endpoint l || !s.ctxExists l f.dstCtx then s.dropFlit p
    else
      let s := s.wakeExit l
      let c := f.dstCtx
      let k := ctxKey l c
      let x := s.ctx k
      let mine := f.srcEp == x.remoteEp && f.srcCtx == x.remoteCtx && (bit f.info 0 == s.initiator l c)
      let take (s : State) (g : Ctx → Ctx) : State :=
        let s := s.count (portKey p 0x40) 1
        if f.last then (s.modCtx k g).ctxKick l c else s
      match x.st, bit f.info 1 with
      | .off, false | .down, false => take s fun x => { x with hsFrom := some (f.srcEp, f.srcCtx) }
      | .opening, false => if mine then take s fun x => { x with gotHandshake := true } else s.dropFlit p
      | .open_, true =>
        if mine then
          take s fun x => { x with rekeying := true, gotHandshake := true, sentHandshake := x.rekeying && x.sentHandshake }
        else s.dropFlit p
      | _, _ => s.dropFlit p

/-! The commands. -/

/-- XE_CH_SUBMIT (R246); a wake event. -/
def execXeChSubmit (via : Via) (c : ChanId) (v : Word) : State → Out :=
  runU fun s => s.bWrite via (c / 16) fun s => s.waking (c / 16) fun s =>
    (s.undefIf (v.field 52 12 != 0) .reservedWrite).submitXfer c (v.field 0 52)
/-- XE_CH_ABORT (R271): a write of XE_CH_CTL. -/
def execXeChAbort (via : Via) (c : ChanId) (v : Word) : State → Out :=
  runU fun s => s.bWrite via (c / 16) (·.writeChCtl c v)
/-- XE_CH_HOLD (R271): a write of XE_CH_CTL. -/
def execXeChHold (via : Via) (c : ChanId) (v : Word) : State → Out :=
  runU fun s => s.bWrite via (c / 16) (·.writeChCtl c v)
/-- TRANSFER_START (R258). -/
def execTransferStart (c : ChanId) : State → Out := runU fun s => s.transferStart c
/-- DELIVERY_COMMIT (R254). -/
def execDeliveryCommit (c : ChanId) : State → Out := runU fun s => s.deliveryCommit c
/-- FLIT_WRITE (R352). -/
def execFlitWrite (p : PortId) : State → Out :=
  runU fun s => s.receive p 1 fun s l c f _ => s.rxData l c p f fun s f ps => s.commitWrite l c p f ps
/-- FLIT_REDUCE (R352). -/
def execFlitReduce (p : PortId) : State → Out :=
  runU fun s => s.receive p 2 fun s l c f _ => s.rxData l c p f fun s f ps => s.commitReduce l c p f ps
/-- FLIT_READ_REQ (R354). -/
def execFlitReadReq (p : PortId) : State → Out := runU fun s => s.receive p 3 fun s l c f _ => s.rxReadReq l c p f
/-- FLIT_READ_DATA (R354). -/
def execFlitReadData (p : PortId) : State → Out := runU fun s => s.receive p 4 fun s l c f _ => s.rxReadData l c f
/-- FLIT_ACK (R352). -/
def execFlitAck (p : PortId) : State → Out := runU fun s => s.receive p 5 fun s l c f o => s.rxAck l c f o
/-- COUNTER_ADD (R355). -/
def execCounterAdd (p : PortId) : State → Out := runU fun s => s.receive p 6 fun s l c f _ => s.rxCounterAdd l c p f
/-- HANDSHAKE (R349). -/
def execHandshake (p : PortId) : State → Out := runU fun s => s.handshake p
/-- FLIT_CLOSE (R351). -/
def execFlitClose (p : PortId) : State → Out := runU fun s => s.receive p 9 fun s l c f _ => s.rxClose l c p f

end Sys2Proof.Machine
end

