-- ==== Sys2Proof/Machine/RegTable.lean ====
section
/-!
DEFINITION. The register field tables of the manual as bit masks by access code (R7, R8, R12). A bit in none of the masks
of a register is ro.
-/
namespace Sys2Proof.Machine

/-- A register: the bits of each access code, its reserved bits, and whether a field that can be written spans bit 32. -/
structure RegSpec where
  rsv : Nat := 0
  rw : Nat := 0
  rwl : Nat := 0
  w1c : Nat := 0
  w1s : Nat := 0
  wo : Nat := 0
  span : Bool := false
deriving DecidableEq, Repr

/-- The registers of a Line function below +0x1000. -/
def leadRegs : Tbl RegSpec := [
  -- LN_CTL
  (0x100, { rsv := 0xFFFFFFFFFFFFFFE0, rwl := 0x10, w1s := 0x8, wo := 0x7 }),
  -- LN_STATUS
  (0x108, { rsv := 0xFFFF000000008E00 }),
  -- LN_WIN_BASE
  (0x110, { rsv := 0xFFFFFFFFFFF00000, rwl := 0xFFFFF }),
  -- LN_CLAIM
  (0x118, { rsv := 0xFFFFFFFE00000000, wo := 0xFFFFFFFF }),
  -- LN_ATTACH_GEN
  (0x120, { rsv := 0xFFFFFFFF00000000 }),
  -- LN_ENDPOINT
  (0x128, { rsv := 0xFFFFFFFFFFFC0000 }),
  -- LN_TIME
  (0x130, {}),
  -- LN_WAKE_TOL
  (0x140, { rsv := 0xFFFFFFFFFFFF0000, rwl := 0xFFFF }),
  -- LN_NUM_SAT
  (0x200, {}),
  -- LN_NUM_FLUSH
  (0x208, {}),
  -- LN_PHASE_RING
  (0x300, { rsv := 0x3FF0000000000000, rw := 0x800FFFFFFFFFFFFF, w1c := 0x4000000000000000, span := true }),
  -- LN_PHASE_HEAD
  (0x308, { rsv := 0xFFFFFFFFFFE00000 }),
  -- LN_QTABLE
  (0x400, { rsv := 0xFFF000000000003F, rwl := 0xFFFFFFFFFFFC0, span := true }),
  -- LN_QCTL
  (0x408, { rsv := 0xFFF80000, rw := 0x3FFF, wo := 0x4000 }),
  -- LN_QERR
  (0x410, { rsv := 0xFFFFFFC000000000, w1c := 0x1000000000 }),
  -- LN_CORE_ENTRY
  (0x500, { rsv := 0xFFF0000000000003, rwl := 0xFFFFFFFFFFFFC, span := true }),
  -- LN_CORE_STATE 0
  (0x510, { rsv := 0xFFFE000000000000 }),
  -- LN_CORE_STATE 1
  (0x518, { rsv := 0xFFFE000000000000 }),
  -- LN_CORE_STATE 2
  (0x520, { rsv := 0xFFFE000000000000 }),
  -- LN_CORE_STATE 3
  (0x528, { rsv := 0xFFFE000000000000 }),
  -- LN_CORE_STATE 4
  (0x530, { rsv := 0xFFFE000000000000 }),
  -- LN_CORE_STATE 5
  (0x538, { rsv := 0xFFFE000000000000 }),
  -- LN_CORE_STATE 6
  (0x540, { rsv := 0xFFFE000000000000 }),
  -- LN_CORE_STATE 7
  (0x548, { rsv := 0xFFFE000000000000 }),
  -- LN_DEC_SUBMIT
  (0x600, { rsv := 0xFFF0000000000000, wo := 0xFFFFFFFFFFFFF, span := true }),
  -- LN_DEC_STATUS
  (0x608, { rsv := 0xFFFFFFFFFF00FE00, w1c := 0x100 }),
  -- LN_JOB_CTL
  (0x700, { rsv := 0xFFFE0000FFF80000, rw := 0xFFFF, wo := 0x30000 }),
  -- LN_JOB_END
  (0x708, { rsv := 0xFFFFFFFFE0000000, w1c := 0x8000000 }),
  -- LN_JOB_END_VA
  (0x710, {}),
  -- LN_JOB_ENDS
  (0x718, {}) ]

/-- The registers of a pond block (R188 to R190, R212, R213). -/
def pondRegs : Tbl RegSpec := [
  -- PD_CTL
  (0x0, { rsv := 0xFFFFFFFFFFFFFFF8, rw := 0x2, wo := 0x5 }),
  -- PD_STATUS
  (0x8, { rsv := 0xFFE00000, w1c := 0x8 }),
  -- PD_LAUNCH
  (0x10, { rsv := 0xFFF0000000000000, wo := 0xFFFFFFFFFFFFF, span := true }),
  -- PD_IMEM_SRC
  (0x18, { rsv := 0xFFF0000000000000, rw := 0xFFFFFFFFFFFFF, span := true }),
  -- PD_IMEM_CTL
  (0x20, { rsv := 0xFFFFFFF8E000C000, rw := 0x1FFF3FFF, w1c := 0x400000000, wo := 0x100000000 }),
  -- PD_IMEM_ADDR
  (0x28, { rsv := 0xFFFFFFFFFFFFE000, rw := 0x1FFF }),
  -- PD_IMEM_DATA
  (0x30, {}),
  -- PD_WAIT_LIMIT
  (0x38, { rsv := 0xFFFFFFFF00000000, rwl := 0xFFFFFFFF }),
  -- PD_RUN_LIMIT
  (0x40, { rsv := 0xFFFFFFFF00000000, rwl := 0xFFFFFFFF }),
  -- PD_REC_RING
  (0x48, { rsv := 0x3FF0000000000000, rw := 0x800FFFFFFFFFFFFF, w1c := 0x4000000000000000, span := true }),
  -- PD_REC_HEAD
  (0x50, { rsv := 0xFFFFFFFFFFE00000 }),
  -- PD_SIGNAL
  (0x58, { rsv := 0xFFFFFFFFFFFE0000, w1c := 0x10000 }),
  -- PD_FAULT
  (0x60, { rsv := 0xFFFFFFFFFFE00000 }),
  -- PD_FAULT_VA
  (0x68, {}),
  -- PD_SLUICE
  (0x70, { rsv := 0xFFFFFF0000F00000 }),
  -- PD_SLOT_TKT0
  (0x78, {}),
  -- PD_SLOT_TKT1
  (0x80, {}),
  -- PD_CLAIM_FAIL
  (0x88, {}),
  -- VEC_STATUS
  (0x1000, { rsv := 0xFFFFFFFF0000E0FC }),
  -- VEC_OPS
  (0x1008, {}),
  -- VEC_BUSY
  (0x1010, {}),
  -- VEC_TB_ADDR
  (0x1018, { rsv := 0xFFFFFFFFFFFF0000, rw := 0xFFFF }),
  -- VEC_TB_DATA
  (0x1020, { rsv := 0xFFFFFF8000000000 }) ]

/-- The registers of a grid slot (R137 to R141). -/
def gridRegs : Tbl RegSpec := [
  -- GRD_CTL
  (0x0, { rsv := 0xFFFFFFFFFFFFFCF8, rw := 0x100, rwl := 0x7, w1s := 0x200 }),
  -- GRD_STATUS
  (0x8, { rsv := 0xFFFFFFFFFFF00000 }),
  -- GRD_HEALTH
  (0x10, { rsv := 0xFFF8000C }),
  -- GRD_STEPS
  (0x18, {}),
  -- GRD_BUBBLES
  (0x20, {}),
  -- GRD_HELD
  (0x28, {}) ]

/-- The registers of a transfer engine (R270). -/
def xeRegs : Tbl RegSpec := [
  -- XE_STATUS
  (0x0, { rsv := 0xFFFFFFFF00000000 }),
  -- XE_CHK_ERR
  (0x8, {}),
  -- XE_CHK_LOG
  (0x10, { rsv := 0xFFE0000000000FFF, w1c := 0x10000000000000 }),
  -- XE_FAULTS
  (0x18, {}) ]

/-- The registers of a transfer channel (R271). -/
def chanRegs : Tbl RegSpec := [
  -- XE_CH_CTL
  (0x0, { rsv := 0xFFFFFFFFFFFFFFFC, rw := 0x2, wo := 0x1 }),
  -- XE_CH_STATUS
  (0x8, { rsv := 0xFFFFFF00FE00, w1c := 0x100 }),
  -- XE_CH_SUBMIT
  (0x10, { rsv := 0xFFF0000000000000, wo := 0xFFFFFFFFFFFFF, span := true }),
  -- XE_CH_BYTES
  (0x18, {}),
  -- XE_CH_FAULT_VA
  (0x20, {}) ]

/-- The registers of an update engine (R401). -/
def updRegs : Tbl RegSpec := [
  -- UPD_STEP_SIZE
  (0x0, { rw := 0xFFFFFFFF }),
  -- UPD_FENCE
  (0x8, { rsv := 0xFFE00000, rw := 0x1FFFE0, w1c := 0x10, wo := 0x3 }),
  -- UPD_SUBMIT
  (0x10, { rsv := 0xFFF0000000000000, wo := 0xFFFFFFFFFFFFF, span := true }),
  -- UPD_STATUS
  (0x18, { rsv := 0xFFFF000000000000, w1c := 0x80 }),
  -- UPD_CTL
  (0x20, { rsv := 0xFFFFFFFFFFFFFFF8, rw := 0x2, wo := 0x5 }),
  -- UPD_ELEMS
  (0x28, {}),
  -- UPD_FAULT_VA
  (0x30, {}) ]

/-- The registers of a confluence unit (R379). -/
def cflRegs : Tbl RegSpec := [
  -- CFL_TABLE
  (0x0, { rsv := 0xFFF0000000000070, rwl := 0xFFFFFFFFFFF8F, span := true }),
  -- CFL_CTL
  (0x8, { rsv := 0xF0000000FFF08800, rw := 0x3FF, wo := 0x400 }),
  -- CFL_ERR
  (0x10, { rsv := 0xFFFFFFFFC0000000, w1c := 0x10000000 }),
  -- CFL_ADDENDS
  (0x18, {}),
  -- CFL_REFUSED
  (0x20, {}) ]

/-- The context registers (R363). -/
def railRegs : Tbl RegSpec := [
  -- RAIL_CTX_TABLE
  (0x0, { rsv := 0xFFF000000000003F, rwl := 0xFFFFFFFFFFFC0, span := true }),
  -- RAIL_CTX_CTL
  (0x8, { rsv := 0xFF008000, rw := 0x3FFF, wo := 0x4000 }) ]

/-- The registers of a rail port (R364). -/
def portRegs : Tbl RegSpec := [
  -- RAIL_PORT_CTL
  (0x0, { rsv := 0xFFFFFFFFFFFFFFF8, rw := 0x4, wo := 0x3 }),
  -- RAIL_PORT_STATUS
  (0x8, { rsv := 0xE000C0 }),
  -- RAIL_PORT_REMOTE
  (0x10, { rsv := 0xFFFFFFFFFF800000 }),
  -- RAIL_CAL
  (0x18, { rsv := 0xFFFFFF00, rwl := 0xFF }),
  -- RAIL_FEC_CORR
  (0x20, {}),
  -- RAIL_REPLAY
  (0x28, {}),
  -- RAIL_E_LATE
  (0x30, {}),
  -- RAIL_TX_FLITS
  (0x38, {}),
  -- RAIL_RX_FLITS
  (0x40, {}),
  -- RAIL_RX_DROP
  (0x48, {}) ]

/-- The translation and coherence registers (R302). -/
def xlatRegs : Tbl RegSpec := [
  -- LN_AST
  (0x0, { rsv := 0x7FF0000000000000, rwl := 0x800FFFFFFFFFFFFF, span := true }),
  -- LN_XLAT_CTL
  (0x8, { rsv := 0xFFFFFFFFFFFFFFFE, rw := 0x1 }),
  -- LN_XLAT_FENCE
  (0x10, { rsv := 0xFFFFFF8000000000, rw := 0x3FFFFFFFFF, wo := 0x4000000000, span := true }),
  -- LN_XLAT_FENCE_VA
  (0x18, { rsv := 0xFE00000000000FFF, rw := 0x1FFFFFFFFFFF000, span := true }),
  -- LN_XLAT_FENCE_STATUS
  (0x20, { rsv := 0xFFFFFFF000000000, w1c := 0x800000000 }),
  -- LN_XLAT_FAULT
  (0x28, { rsv := 0xFFFFFFFE00000000, w1c := 0x100000000 }),
  -- LN_XLAT_FAULT_VA
  (0x30, {}),
  -- LN_XLAT_FAULTS
  (0x38, {}),
  -- LN_COH_STATUS
  (0x40, { rsv := 0xC000000000000000, w1c := 0x8000 }),
  -- LN_COH_BACKINV
  (0x48, {}) ]

/-- The LPDDR5X registers (R242, R243, R472). -/
def memRegs : Tbl RegSpec := [
  -- MEM_STATUS
  (0x0, { rsv := 0xFFFFFFFF00F00000 }),
  -- MEM_CHAN
  (0x8, {}),
  -- MEM_CHAN_GUARD
  (0x10, {}),
  -- MEM_CE
  (0x18, {}),
  -- MEM_UE
  (0x20, {}),
  -- MEM_ERR_LOG
  (0x28, { rsv := 0xFFFFFE0000000000, w1c := 0x10000000000 }),
  -- MEM_SCRUB
  (0x30, { rsv := 0xFFFFFF00, rwl := 0xFF }),
  -- MEM_SCRUB_POS
  (0x38, { rsv := 0xFFFFFF800000003F }),
  -- MEM_MAINT
  (0x40, { rsv := 0xFFFF0000FFFE0000, wo := 0xFFFF }),
  -- MEM_PPR
  (0x48, { rsv := 0xFFFF000000000000 }),
  -- MEM_TRAIN
  (0x50, { rsv := 0xFFFF000000FE00E0, rw := 0x1F }),
  -- MEM_CHK_ERR
  (0x58, {}) ]

/-- The Reservoir registers (R244, R472). -/
def rsvRegs : Tbl RegSpec := [
  -- RSV_STATUS
  (0x0, { rsv := 0xFFFFFFFFE000F800 }),
  -- RSV_CE
  (0x8, {}),
  -- RSV_UE
  (0x10, {}),
  -- RSV_ERR_LOG
  (0x18, { rsv := 0xFFFFFFFFFC000000, w1c := 0x2000000 }),
  -- RSV_SCRUB
  (0x20, { rsv := 0xFFFFFF00, rwl := 0xFF }),
  -- RSV_BANK_SEL
  (0x28, { rsv := 0xFFFFFFFFFFFFFF00, rw := 0xFF }),
  -- RSV_BANK_INFO
  (0x30, { rsv := 0xFFFFFFFFFFFFFFC0 }),
  -- RSV_CHK_ERR
  (0x38, {}) ]

/-- The telemetry registers (R523). -/
def telRegs : Tbl RegSpec := [
  -- TEL_RING
  (0x0, { rsv := 0xFFF0000000000000, rw := 0xFFFFFFFFFFFFF, span := true }),
  -- TEL_HEAD
  (0x8, { rsv := 0xFFFFFFFFFFE00000 }),
  -- TEL_CTL
  (0x10, { rsv := 0xFFFFFFFFFFFFF800, rw := 0x3FF, w1c := 0x400 }),
  -- TEL_SRC
  (0x18, { rsv := 0xFFFF000000000000, rw := 0xFFFFFFFFFFFF }) ]

/-- The power registers (R511, R512). -/
def pwrRegs : Tbl RegSpec := [
  -- PWR_STATUS
  (0x0, { rsv := 0xFFFFFFFC00000000 }),
  -- PWR_VF
  (0x8, { rsv := 0xFFE00000FFF0, rw := 0xF }) ]

/-- An LN_IRQ_ROUTE register (R418). -/
def routeRegs : Tbl RegSpec := [
  -- LN_IRQ_ROUTE
  (0x0, { rsv := 0xFFFFFFFC7800F000, rw := 0x87FF0FFF, w1c := 0x200000000 }) ]

/-- A submission-queue doorbell (R314). -/
def sqRegs : Tbl RegSpec := [
  -- SQ doorbell
  (0x0, { rsv := 0xFFFFFFFF00000000, wo := 0xFFFFFFFF }) ]

/-- A completion-queue head doorbell (R314). -/
def cqRegs : Tbl RegSpec := [
  -- CQ head doorbell
  (0x0, { rsv := 0xFFFFFFFFFFFF0000, wo := 0xFFFF }) ]

/-- The hub registers below +0x1000, but for HUB_DIE_INV. -/
def hubRegs : Tbl RegSpec := [
  -- HUB_ID
  (0x0, {}),
  -- HUB_BOOT_STATUS
  (0x10, { rsv := 0xFF0000F0 }),
  -- HUB_RESET
  (0x18, { rsv := 0xFFFFFFFFFFFFFE00, wo := 0x1FF }),
  -- HUB_RECOVERY_ADDR
  (0x20, { rw := 0xFFFFFFFFFFFFFFFF, span := true }),
  -- HUB_RECOVERY_CTL
  (0x28, { rsv := 0xFFFFFFFFF0000000, rw := 0x7FFFFFF, wo := 0x8000000 }),
  -- HUB_RECOVERY_STATUS
  (0x30, { rsv := 0xFFFF0000000000FC, w1c := 0x2 }),
  -- HUB_ATTACH
  (0x40, { rsv := 0xFFFFC000 }),
  -- HUB_FABRIC_ID
  (0x48, { rsv := 0xFFFFFFFFFFFF8000, rw := 0x7FFF }),
  -- HUB_PWR_CAP
  (0x50, { rsv := 0xFFFFFFFFFFFFF000, rw := 0xFFF }),
  -- HUB_PWR_STATUS
  (0x58, { rsv := 0xC000 }),
  -- HUB_TIME
  (0x60, {}),
  -- HUB_THERMAL
  (0x68, { rsv := 0xFFFFFFFFFFF00000, w1c := 0x4000 }),
  -- HUB_LINE_STOP
  (0x70, { rsv := 0xFFFFFFFFFFFFFF00, wo := 0xFF }),
  -- HUB_UNIT_CMD
  (0x800, { rsv := 0xFFFFFFFE00000000, rw := 0xFFFFFFFF, wo := 0x100000000 }),
  -- HUB_UNIT_STATUS
  (0x808, { rsv := 0xFFFFFFFFFFFFFF0C, w1c := 0x2 }),
  -- HUB_UNIT_HEALTH
  (0x810, {}),
  -- HUB_UNIT_COUNTS
  (0x818, {}),
  -- HUB_SURVEY_ADDR
  (0x820, { rw := 0xFFFFFFFFFFFFFFFF, span := true }),
  -- HUB_SURVEY_CTL
  (0x828, { rsv := 0xFFFFFFFFE0000000, rw := 0xFFFFFFF, wo := 0x10000000 }),
  -- HUB_SURVEY_STATUS
  (0x830, { rsv := 0xFFFFFFFFF80000FC, w1c := 0x2 }),
  -- HUB_OFFLINE_TEST
  (0x838, { rsv := 0xFFFFFFFFFFFFFFFC, rw := 0x2, wo := 0x1 }) ]

/-- An HUB_DIE_INV register (R444). -/
def dieRegs : Tbl RegSpec := [
  -- HUB_DIE_INV
  (0x0, { rsv := 0xFF00E000000000C0 }) ]

/-- The Timetable registers (R69). -/
def ttRegs : Tbl RegSpec := [
  -- TT_LOAD
  (0x0, { rsv := 0xFFFFFFFFFFFFFFE0, rw := 0xF, wo := 0x10 }),
  -- TT_STATUS
  (0x8, { rsv := 0xFFFFFF00000000C0, w1c := 0x2 }),
  -- TT_SRC_ADDR
  (0x10, { rw := 0xFFFFFFFFFFFFFFFF, span := true }),
  -- TT_SRC_LEN
  (0x18, { rsv := 0xFFFFFFFFFFE00000, rw := 0x1FFFFF }),
  -- TT_RUN_GEN
  (0x20, {}) ]

/-- The security registers (R492). -/
def secRegs : Tbl RegSpec := [
  -- SEC_STATUS
  (0x0, { rsv := 0xFFFFFFFE00000000 }),
  -- SEC_CTL
  (0x8, { rsv := 0xFFFFFFFFFFFFFFFE, wo := 0x1 }),
  -- SEC_OWNER_ADDR
  (0x10, { rw := 0xFFFFFFFFFFFFFFFF, span := true }),
  -- SEC_OWNER_CTL
  (0x18, { rsv := 0xFFFFFFFFFFFFFFFE, wo := 0x1 }),
  -- SEC_OWNER_STATUS
  (0x20, { rsv := 0xFFFF00FC, w1c := 0x2 }),
  -- SEC_ID_STATUS
  (0x30, { rsv := 0xFFFFF80000000000 }),
  -- SEC_ID_PK0
  (0x40, {}),
  -- SEC_ID_PK1
  (0x48, {}),
  -- SEC_ID_PK2
  (0x50, {}),
  -- SEC_ID_PK3
  (0x58, {}),
  -- SEC_ID_PK4
  (0x60, {}),
  -- SEC_ID_PK5
  (0x68, {}),
  -- SEC_ID_PK6
  (0x70, {}),
  -- SEC_ID_PK7
  (0x78, {}),
  -- SEC_LINE0
  (0x100, { rsv := 0xFFFFFFFFFFFF00F8 }),
  -- SEC_LINE1
  (0x108, { rsv := 0xFFFFFFFFFFFF00F8 }),
  -- SEC_LINE2
  (0x110, { rsv := 0xFFFFFFFFFFFF00F8 }),
  -- SEC_LINE3
  (0x118, { rsv := 0xFFFFFFFFFFFF00F8 }),
  -- SEC_LINE4
  (0x120, { rsv := 0xFFFFFFFFFFFF00F8 }),
  -- SEC_LINE5
  (0x128, { rsv := 0xFFFFFFFFFFFF00F8 }),
  -- SEC_LINE6
  (0x130, { rsv := 0xFFFFFFFFFFFF00F8 }),
  -- SEC_LINE7
  (0x138, { rsv := 0xFFFFFFFFFFFF00F8 }) ]

/-- The Logbook registers (R531). -/
def logRegs : Tbl RegSpec := [
  -- LOG_NEXT
  (0x0, {}),
  -- LOG_OLDEST
  (0x8, {}),
  -- LOG_MIRROR
  (0x10, { rsv := 0xFFFFFFFFFFFFC000 }),
  -- LOG_STATUS
  (0x18, { rsv := 0xFFFFFFFC00000000 }),
  -- LOG_WIN
  (0x20, { rsv := 0xFFFFFFFFFFFFFF80, rw := 0x7F }),
  -- LOG_NOTE
  (0x28, { wo := 0xFFFFFFFFFFFFFFFF, span := true }),
  -- LOG_WALL
  (0x30, { wo := 0xFFFFFFFFFFFFFFFF, span := true }) ]

/-- The registers of a spur (R445). -/
def spurRegs : Tbl RegSpec := [
  -- SPUR_CTL
  (0x0, { rsv := 0xFFFFFFFFFFFFFFFC, wo := 0x3 }),
  -- SPUR_STATUS
  (0x8, { rsv := 0xFFFFF000 }),
  -- SPUR_LANES_AB
  (0x10, { rsv := 0xFFFFC00000000000 }),
  -- SPUR_LANES_BA
  (0x18, { rsv := 0xFFFFC00000000000 }),
  -- SPUR_CAL
  (0x20, { rsv := 0xFFFFFF00, rw := 0xFF }),
  -- SPUR_RESENT
  (0x28, {}),
  -- SPUR_CRC_ERR
  (0x30, {}) ]

end Sys2Proof.Machine
end

