-- ==== Sys2Proof/Machine/Telemetry.lean ====
section
/-!
DEFINITION. Tenant values (R491) and telemetry rings (R523 to R526).
-/
namespace Sys2Proof.Machine

/-! Tenant values (R491). -/

/-- The quantum Q of a counter register, by its key; 0 for a register that is no such counter. -/
def State.quantum (s : State) (k : Nat) : Nat :=
  let sp := k / 2 ^ 28
  let off := k % 2 ^ 28
  if 16 ≤ sp then
    if 0x200000 ≤ off ∧ off < 0x240000 then
      let o := off % 0x8000
      let grid := decide (0x4000 ≤ o ∧ o < 0x5400) && [0x18, 0x20, 0x28].contains (o % 0x400)
      if o = 0x88 ∨ o = 0x1008 ∨ o = 0x1010 ∨ grid then 25000 else 0
    else if 0x401000 ≤ off ∧ off < 0x401400 then (if off % 0x40 = 0x18 then 51200000 else 0)
    else if off = 0x400008 ∨ off = 0x400018 ∨ off = 0x620020 then 1
    else if off = 0x600028 then 1600000
    else if off = 0x620018 then 3200000
    else if 0x801000 ≤ off ∧ off < 0x801400 then
      (if [0x20, 0x38, 0x40].contains (off % 0x100) then 12208
       else if [0x28, 0x30, 0x48].contains (off % 0x100) then 1 else 0)
    else 0
  else if 1 ≤ sp ∧ sp ≤ 8 then
    if off = 0x200 ∨ off = 0x208 then 102400000 * (s.members (sp - 1)).length
    else if off = 0x718 ∨ off = 0xA00038 ∨ off = 0xA00048 then 1
    else 0
  else 0

/-- The value V after a boundary, from V, the exact value and the one at the boundary before, and Q. -/
def atBoundary (v now prev q : Nat) : Nat := if now = prev then now else v + (now - v) / q * q

/-- V of every counter at an aligned 1 ms boundary, once (R491). -/
def State.tenantStep (s : State) : State :=
  if s.time % 1000000 ≠ 0 ∨ s.sec.tenantAt = s.time then s
  else
    let s := s.each (List.range 8) State.sampleBasin
    let cs := s.regs.filter fun e => s.quantum e.1 != 0
    let v : Tbl Nat := cs.foldl (fun t e =>
      tblSet 0 t e.1 (atBoundary (tblGet 0 s.tenant e.1) e.2.toNat (tblGet 0 s.tenantPrev e.1) (s.quantum e.1))) []
    let p : Tbl Nat := cs.map fun e => (e.1, e.2.toNat)
    { s with tenant := v, tenantPrev := p, sec := { s.sec with tenantAt := s.time } }

/-- TENANT_VALUE_UPDATE: V of every counter at an aligned 1 ms boundary of device time, and at an aligned 50 ms boundary
the Lines' mean draws of the interval that ends. -/
def State.tenantUpdate (s : State) (draws : List Nat) : State :=
  let t : State := s.tenantStep
  if s.time % 50000000 ≠ 0 then t
  else
    { t with power := { t.power with
        lineDraws := (draws.take 8).zipIdx.foldl (fun t e => tblSet 0 t e.2 (e.1 / 10 * 10)) [] } }

/-! Telemetry rings (R523 to R526). -/

/-- The register that a source code names, for every instance in basin `b`; those of a leader are named once (R524). -/
def telemetryKeys (l b code : Nat) : List Nat :=
  let lead (k : Nat) : List Nat := if b = l then [k] else []
  match code with
  | 0x01 => (List.range 34).map fun g => grdKey (b * 34 + g) 0x18
  | 0x02 => (List.range 34).map fun g => grdKey (b * 34 + g) 0x20
  | 0x03 => (List.range 34).map fun g => grdKey (b * 34 + g) 0x28
  | 0x04 => (List.range 8).map fun p => pdKey (b * 8 + p) 0x1010
  | 0x05 => (List.range 8).map fun p => pdKey (b * 8 + p) 0x88
  | 0x06 => (List.range 16).map fun c => chKey (b * 16 + c) 0x18
  | 0x07 => [cflKey b 0x18]
  | 0x08 => [updKey b 0x28]
  | 0x09 => (List.range 4).map fun p => portKey (4 * b + p) 0x38
  | 0x0A => (List.range 4).map fun p => portKey (4 * b + p) 0x40
  | 0x0B => (List.range 4).map fun p => portKey (4 * b + p) 0x28
  | 0x0C => lead (lnKey l 0x200)
  | 0x0D => lead (lnKey l 0x208)
  | 0x0E => lead (lnKey l 0x718)
  | _ => []

/-- The value of a telemetry source: the sum of tenant values over the Line (R524). -/
def State.telemetryValue (s : State) (l code : Nat) : Nat :=
  if code = 0x0F then tblGet 0 s.power.lineDraws l
  else if code = 0x10 then s.fld (updKey l 8) 32 32
  else (((s.members l).flatMap fun b => telemetryKeys l b code).map fun k => tblGet 0 s.tenant k).sum

/-- The record of a boundary (R525). -/
def State.telemetryRecord (s : State) (l : Nat) (wrap : Bool) : List Byte :=
  wordBytes ([BitVec.ofNat 64 s.time, BitVec.ofNat 64 ((s.line l).telSeq % 2 ^ 32 + ofBool wrap * 2 ^ 32)]
    ++ (List.range 6).map fun i => BitVec.ofNat 64 (s.telemetryValue l (s.fld (telKey l 0x18) (8 * i) 8)))

/-- TELEMETRY_SAMPLE at a PERIOD boundary of device time. -/
def State.telemetrySample (s : State) (l : Nat) : State :=
  let period := s.fld (telKey l 0x10) 0 10
  if !s.isLeader l || decide ((s.line l).st = .failed) || period == 0 || s.time % (period * 1000000) != 0 then s
  else
    let s := s.tenantStep
    let n := 2 ^ (s.fld (telKey l 0) 0 4 + 4)
    let (base, s) := s.lowBits (s.fld (telKey l 0) 4 48 * 16) (n * 64)
    let i := s.fld (telKey l 8) 0 20
    let wrap := s.flag (telKey l 8) 20
    let a := base + i * 64
    if s.ownMem l a then
      let (_, s) := (s.touchMem a).storePiece l a (s.telemetryRecord l wrap) false
      let s := s.modLine l fun ln => { ln with telSeq := (ln.telSeq + 1) % 2 ^ 32 }
      if i + 1 < n then s.setFld (telKey l 8) 0 20 (i + 1) else s.setReg (telKey l 8) (BitVec.ofNat 64 (ofBool (!wrap) * 2 ^ 20))
    else (s.setFlag (telKey l 0x10) 10 true).setFld (telKey l 0x10) 0 10 0

/-- A write of TEL_CTL: PERIOD is set, and the ring begins again (R523). -/
def State.writeTelCtl (s : State) (l : Nat) (v : Word) : State :=
  let s := s.undefIf (v.field 11 53 != 0) .reservedWrite
  let fault := s.flag (telKey l 0x10) 10 && !v.flag 10
  let s := (s.setReg (telKey l 0x10) (BitVec.ofNat 64 (v.field 0 10 + ofBool fault * 2 ^ 10))).setReg (telKey l 8) 0
  s.modLine l fun ln => { ln with telSeq := 0 }

/-! The commands. -/

/-- TENANT_VALUE_UPDATE (R491). -/
def execTenantValueUpdate (draws : List Nat) : State → Out := run fun s => s.tenantUpdate draws
/-- TELEMETRY_SAMPLE (R525). -/
def execTelemetrySample (l : LineId) : State → Out := runU fun s => s.telemetrySample l
/-- TEL_CTL_WRITE (R523). -/
def execTelCtlWrite (via : Via) (l : LineId) (v : Word) : State → Out := runU fun s => s.lnWrite via l (·.writeTelCtl l v)

end Sys2Proof.Machine
end

