-- ==== Sys2Proof/Machine/Registers.lean ====
section
/-!
DEFINITION. The registers of Line functions: where they lie, what they read as, and what a write of one does (R7 to R13,
R20, R38, R491).
-/
namespace Sys2Proof.Machine

/-! Where registers lie. -/

/-- The blocks of a Line function's BAR0. -/
inductive LnBlk where
  | lead | route | msix | sq | cq | pond | grid | xe | chan | upd | cfl | rail | port | xlat | mem | rsv | tel | pwr
deriving DecidableEq, Repr

/-- A register of a Line: its block, basin, unit and offset in the block, and the key that it is stored under. -/
structure RegAt where
  blk : LnBlk
  b : Nat
  unit : Nat
  off : Nat
  key : Nat
deriving DecidableEq, Repr

/-- The registers of a block. The MSI-X tables are plain storage (R306). -/
def LnBlk.regs : LnBlk → Tbl RegSpec
  | .lead => leadRegs | .route => routeRegs | .msix => [(0, { rw := 0xFFFFFFFFFFFFFFFF })] | .sq => sqRegs | .cq => cqRegs
  | .pond => pondRegs | .grid => gridRegs | .xe => xeRegs | .chan => chanRegs | .upd => updRegs | .cfl => cflRegs
  | .rail => railRegs | .port => portRegs | .xlat => xlatRegs | .mem => memRegs | .rsv => rsvRegs | .tel => telRegs
  | .pwr => pwrRegs

/-- The register at an offset of a pond's range: the pond's own, or a grid slot's (R137, R188, R213). -/
def pondRegAt (b p x key : Nat) : Option RegAt :=
  if x < 0x400 ∨ (0x1000 ≤ x ∧ x < 0x1400) then some ⟨.pond, b, b * 8 + p, x, key⟩
  else if 0x4000 ≤ x ∧ x < 0x5000 then some ⟨.grid, b, b * 34 + p * 4 + (x - 0x4000) / 0x400, x % 0x400, key⟩
  else if 0x5000 ≤ x ∧ x < 0x5400 ∧ p % 4 = 0 then some ⟨.grid, b, b * 34 + 32 + p / 4, x % 0x400, key⟩
  else none

/-- The register at an offset of a leader's own range. -/
def leadRegAt (l off : Nat) : Option RegAt :=
  let key := lnKey l off
  if off < 0x1000 then some ⟨.lead, l, 0, off, key⟩
  else if 0x4000 ≤ off ∧ off < 0x5000 then some ⟨.route, l, (off - 0x4000) / 8, 0, key⟩
  else if 0x80000 ≤ off ∧ off < 0x88000 then some ⟨.msix, l, 0, 0, key⟩
  else if 0x100000 ≤ off ∧ off < 0x108000 then some ⟨.sq, l, (off - 0x100000) / 8, 0, key⟩
  else if 0x108000 ≤ off ∧ off < 0x110000 then some ⟨.cq, l, (off - 0x108000) / 8, 0, key⟩
  else none

/-- The register at offset `x` of a basin's range of a region, the basin being in the Line led by `l`. Registers of the
leader alone read 0 in members. -/
def basinRegAt (l b region x key : Nat) : Option RegAt :=
  match region with
  | 1 => pondRegAt b (x / 0x8000) (x % 0x8000) key
  | 2 =>
    if x < 0x1000 then some ⟨.xe, b, 0, x, key⟩
    else if x < 0x1400 then some ⟨.chan, b, b * 16 + (x - 0x1000) / 0x40, x % 0x40, key⟩
    else none
  | 3 =>
    if x < 0x20000 then (if b = l ∨ 0x10 ≤ x then some ⟨.upd, b, 0, x, key⟩ else none)
    else if b = l ∨ 0x20018 ≤ x then some ⟨.cfl, b, 0, x - 0x20000, key⟩
    else none
  | 4 =>
    if x < 0x1000 then (if b = l then some ⟨.rail, b, 0, x, key⟩ else none)
    else if x < 0x1400 then some ⟨.port, b, b * 4 + (x - 0x1000) / 0x100, x % 0x100, key⟩
    else none
  | 6 => if x < 0x20000 then some ⟨.mem, b, 0, x, key⟩ else some ⟨.rsv, b, 0, x - 0x20000, key⟩
  | 7 => if 0x30000 ≤ x then some ⟨.pwr, b, 0, x - 0x30000, key⟩ else none
  | _ => none

/-- The register at an offset of the BAR0 of the Line led by `l`, with its fields; none where no register lies (R13). -/
def State.regAt (s : State) (l off : Nat) : Option (RegAt × RegSpec) :=
  let x := off % 0x40000
  let region := off / 0x200000
  let at_ : Option RegAt :=
    if region = 0 then leadRegAt l off
    else if region = 5 then (if off < 0xA01000 then some ⟨.xlat, l, 0, x, lnKey l off⟩ else none)
    else if region = 7 ∧ off < 0xE01000 then some ⟨.tel, l, 0, x, lnKey l off⟩
    else (s.atPlace l (off / 0x40000 % 8)).bind fun b => basinRegAt l b region x (bKey b (region * 0x200000 + x))
  at_.bind fun r => (r.blk.regs.lookup r.off).map fun sp => (r, sp)

/-! What registers read as. -/

/-- PD_STATUS (R189). A stalled sequencer waits for a counter, or for its engines; one whose next launch waits for an
instruction-memory load loads. -/
def State.pdStatus (s : State) (u : Nat) : Word :=
  let p := s.pond u
  let st : Nat := match p.mode with
    | .idle => if s.imemBusy u then 5 else 0
    | .ending => 4
    | .run => match p.wait with | .none => 1 | .sync _ _ => 2 | _ => 3
  let (pc, job) := if p.mode = .idle then (0, 0) else (p.pc, p.cur.job)
  BitVec.ofNat 64 (st + ofBool (s.flag (pdKey u 8) 3) * 2 ^ 3 + min 8 p.launches.length * 2 ^ 4 + pc % 2 ^ 13 * 2 ^ 8
    + job * 2 ^ 32 + p.nextTicket * 2 ^ 48)

/-- PD_SLUICE (R212). -/
def Pond.sluiceWord (p : Pond) : Word :=
  let sum (f : Nat → Nat) : Nat := ((List.range 8).map f).sum
  let code (k : Nat) : Nat := match (p.slot k).st with | .free => 0 | .filling => 1 | .full => 2 | .releasing => 3
  BitVec.ofNat 64 (sum (fun k => code k * 4 ^ k) + sum (fun k => ofBool ((p.slot k).st == .free)) * 2 ^ 16
    + sum (fun k => ofBool ((p.slot k).gang && code k != 0) * 2 ^ k) * 2 ^ 24
    + sum (fun k => ofBool ((p.slot k).tile.poisoned && code k != 0) * 2 ^ k) * 2 ^ 32)

/-- PD_SLOT_TKT0 and PD_SLOT_TKT1: the tickets of four slots from `k` (R212). -/
def Pond.slotTickets (p : Pond) (k : Nat) : Word :=
  BitVec.ofNat 64 ((List.range 4).map fun i => (p.slot (k + i)).ticket % 2 ^ 16 * 2 ^ (16 * i)).sum

/-- VEC_STATUS (R213). An operation that could begin has been done as a whole, so that one in the queue waits. The one done
last may still be in progress for the cycles that it takes: within 400 ns of it a free value decides whether the status
shows it. -/
def State.vecStatus (s : State) (u : Nat) : Word :=
  let p := s.pond u
  let busy := match p.vecLast with
    | some (op, func, at_) =>
      if s.time - at_ ≤ 400 ∧ s.free % 2 = 1 then some (1 + op * 2 ^ 16 + func * 2 ^ 24) else none
    | none => none
  let waits := match p.vecQ with
    | [] => 0
    | o :: _ =>
      let op := o.insn.field 56 8
      2 + op * 2 ^ 16 + (if op = 0x42 then 0 else o.insn.field 48 8) * 2 ^ 24
  BitVec.ofNat 64 (busy.getD waits + p.vecQ.length * 2 ^ 8)

/-- VEC_TB_DATA at VEC_TB_ADDR `a` (R213). -/
def Pond.tbData (p : Pond) (a : Word) : Word :=
  let k := a.field 0 12
  let sel := a.field 12 4
  if sel < 6 then
    let w := (p.tb sel).at k
    BitVec.ofNat 64 (w.code.toNat + ofBool w.valid * 2 ^ 32 + ofBool w.isInt * 2 ^ 33 + ofBool ((p.tb sel).poisonAt k) * 2 ^ 34)
  else if sel = 6 then BitVec.ofNat 64 ((List.range 4).map fun m => ofBool (p.plane m k) * 2 ^ (35 + m)).sum
  else 0

/-- GRD_STATUS of slot `g` (R139). -/
def State.grdStatus (s : State) (g : Nat) : Word :=
  let x := s.grid g
  let test := x.phase == .test || s.testing (gridHealth (g / 34) (g % 34))
  let name := s.nameOf g
  let (p, q) := name.getD (0, 0)
  let off := match name with
    | some (u, _) => !bit (s.tt.basin (g / 34)).grids (32 + u % 8)
    | none => true
  let st : Nat := if test then 6 else if off then 0 else if x.held then 5 else match x.phase with
    | .idle => 1 | .rampUp _ => 2 | .active => 3 | .rampDown _ => 4 | .test => 6
  BitVec.ofNat 64 (st + ofBool x.ganged * 2 ^ 3 + (if name.isSome then q * 2 ^ 4 + p % 8 * 2 ^ 6 + 2 ^ 9 else 0)
    + g % 34 * 2 ^ 10 + x.lastMode * 2 ^ 16)

/-- UPD_FENCE at the leader (R401). -/
def State.updFence (s : State) (l : Nat) : Word :=
  let st : Nat := match (s.line l).stepFence with | .closed => 0 | .open_ => 1 | .closing => 2
  (s.reg (updKey l 8)).withField 2 2 st

/-- UPD_STATUS (R401). -/
def State.updStatus (s : State) (b : Nat) : Word :=
  let q := s.layerQ b
  let r := (s.reg (updKey b 0x18)).withField 2 5 q.length
  match s.runningLayer b with
  | some y => ((r.withField 0 2 2).withField 16 16 y.job).withField 32 16 y.row
  | none => r.withField 0 2 (if q = [] then 0 else 1)

/-- CFL_CTL at the leader (R379). -/
def State.readCflCtl (s : State) (l : Nat) : Word :=
  let r := s.reg (cflKey l 8)
  let e := s.cfl (l * 256 + r.field 0 8)
  let st : Nat := match e.st with
    | .idle => 0 | .arming => 1 | .armed => 2 | .finishing => 3 | .done => 4 | .aborted => 5
  (r.withField 12 3 st).withField 32 28 (e.blockCount - e.blocks)

/-- MEM_STATUS (R242). A basin reads TRAINING until boot has trained its channels, and while one of them is retrained; and
OFF where it is not present (DESIGN CHOICE: which of its states a basin reads while some channels work is not stated;
notes/assumptions). -/
def State.memStatus (s : State) (b : Nat) : Word :=
  let m := s.bmem b
  let n := (s.chansOf b).length
  let g := s.reg (memKey b 0x10)
  let training := s.boot.stage.untrained || m.calibrating.isSome || !m.linkLost.isEmpty
  let st : Nat := if n = 0 ∨ (s.die (1 + b)).st ≠ .ok then 3 else if training then 0 else if m.selfRefresh then 2 else 1
  BitVec.ofNat 64 (st + n * 2 ^ 2 + usableGib n * 2 ^ 8 + ofBool (g.field 0 32 != 0) * 2 ^ 17
    + ofBool (g.field 32 32 != 0) * 2 ^ 18 + ofBool m.maintEnd.isSome * 2 ^ 19 + m.keyGen % 256 * 2 ^ 24)

/-- MEM_SCRUB_POS (R243): the next granule to scrub. -/
def State.scrubPosWord (s : State) (b : Nat) : Word := BitVec.ofNat 64 ((s.bmem b).scrubPos % 2 ^ 33 * 2 ^ 6)

/-- MEM_MAINT (R243): the time left in whole milliseconds. -/
def State.memMaint (s : State) (b : Nat) : Word :=
  match (s.bmem b).maintEnd with
  | some t => BitVec.ofNat 64 (2 ^ 16 + (t - s.time) / 1000000 % 2 ^ 16 * 2 ^ 32)
  | none => 0

/-- MEM_TRAIN (R243). -/
def State.memTrain (s : State) (b : Nat) : Word :=
  let c := s.fld (memKey b 0x50) 0 5
  let r := s.trainRec b c
  BitVec.ofNat 64 (c + wrapInt 8 r.temp * 2 ^ 8 + ofBool r.full * 2 ^ 16 + wrapInt 8 (tblGet 25 (s.bmem b).temps (c / 8)) * 2 ^ 24
    + min 0xFFFF ((s.time - r.time) / 1000000000) * 2 ^ 32)

/-- RSV_STATUS (R244). -/
def State.rsvStatus (s : State) (b : Nat) : Word :=
  let m := s.bmem b
  let (bank, sub) := (m.copying.head?).getD (0, 0)
  BitVec.ofNat 64 (m.spares.length + ofBool (m.copying != []) * 2 ^ 9 + ofBool (s.flag (rsvKey b 0) 10) * 2 ^ 10
    + bank * 2 ^ 16 + sub * 2 ^ 24)

/-- RSV_BANK_INFO (R244). -/
def State.bankInfo (s : State) (b : Nat) : Word :=
  let r := tblGet 0 (s.bmem b).spares (s.fld (rsvKey b 0x28) 0 8)
  BitVec.ofNat 64 (if r = 0 then 0 else 1 + (r - 1) * 2)

/-- A register as it reads. `tenant` is a tenant read: counters with a quantum read their tenant values, and DRAW_W the
Line's mean draw (R491, R511). -/
def State.readReg (s : State) (tenant : Bool) (l : Nat) (r : RegAt) : Word :=
  match r.blk, r.off with
  | .lead, 0x100 => BitVec.ofNat 64 (ofBool (s.line l).locked * 2 ^ 3 + ofBool (s.line l).survive * 2 ^ 4)
  | .lead, 0x128 => BitVec.ofNat 64 (s.endpoint l + ofBool (s.fabricId.flag 14) * 2 ^ 17)
  | .lead, 0x408 => s.readQctl l
  | .lead, 0x608 => s.decStatus l
  | .lead, 0x700 => s.jobCtl l
  | .sq, _ | .cq, _ => 0
  | .pond, 0x8 => s.pdStatus r.unit
  | .pond, 0x30 => (s.pond r.unit).insnAt (s.fld (pdKey r.unit 0x28) 0 13)
  | .pond, 0x70 => (s.pond r.unit).sluiceWord
  | .pond, 0x78 => (s.pond r.unit).slotTickets 0
  | .pond, 0x80 => (s.pond r.unit).slotTickets 4
  | .pond, 0x1000 => s.vecStatus r.unit
  | .pond, 0x1020 => (s.pond r.unit).tbData (s.reg (pdKey r.unit 0x1018))
  | .grid, 0x8 => s.grdStatus r.unit
  | .grid, 0x10 => s.unitHealth (gridHealth r.b (r.unit % 34))
  | .xe, 0x0 => s.xeStatus r.b
  | .chan, 0x8 => s.chStatus r.unit
  | .upd, 0x8 => s.updFence r.b
  | .upd, 0x18 => s.updStatus r.b
  | .cfl, 0x8 => s.readCflCtl r.b
  | .rail, 0x8 => s.readCtxCtl l
  | .port, 0x0 => BitVec.ofNat 64 (ofBool (s.port r.unit).quiesce * 2 ^ 2)
  | .port, 0x8 => s.portStatus r.unit
  | .port, 0x10 => s.portRemote r.unit
  | .xlat, 0x20 => s.fenceStatus l
  | .mem, 0x0 => s.memStatus r.b
  | .mem, 0x8 => (s.reg r.key).withField 0 32 (s.bmem r.b).chanMap
  | .mem, 0x38 => s.scrubPosWord r.b
  | .mem, 0x40 => s.memMaint r.b
  | .mem, 0x48 => (s.reg r.key).withField 0 16 (s.bmem r.b).pprQueue.length
  | .mem, 0x50 => s.memTrain r.b
  | .rsv, 0x0 => s.rsvStatus r.b
  | .rsv, 0x30 => s.bankInfo r.b
  | .pwr, 0x0 => s.pwrStatus r.b (if !tenant then (s.bpow r.b).draw else if r.b = l then tblGet 0 s.power.lineDraws l else 0)
  | .pwr, 0x8 => s.pwrVf r.b
  | .lead, o => if 0x510 ≤ o ∧ o < 0x550 then s.coreState l ((o - 0x510) / 8)
                else if tenant && s.quantum r.key != 0 then BitVec.ofNat 64 (tblGet 0 s.tenant r.key) else s.reg r.key
  | _, _ => if tenant && s.quantum r.key != 0 then BitVec.ofNat 64 (tblGet 0 s.tenant r.key) else s.reg r.key

/-- A register of function `n` as it reads (R13, R20). -/
def State.readLine (s : State) (tenant : Bool) (n off : Nat) : Word :=
  match off with
  | 0x108 => s.lnStatus n
  | 0x118 => BitVec.ofNat 64 (ofBool (s.claimed n) * 2 ^ 32)
  | 0x120 => BitVec.ofNat 64 s.host.gen
  | 0x130 => BitVec.ofNat 64 s.time
  | _ =>
    if !s.isLeader n then 0
    else match s.regAt n off with
      | some (r, _) => s.readReg tenant n r
      | none => 0

/-- A read by a path is a tenant read (R491). -/
def State.tenantRead (s : State) (via : Via) (n : Nat) : Bool :=
  match via with
  | .pf0 => s.confidential n
  | _ => true

/-- The hub registers that Line agents reach: HUB_ID, HUB_ATTACH, HUB_FABRIC_ID and HUB_TIME (R38, R490). -/
def State.hubVisible (s : State) (off : Nat) : Option Word :=
  match off with
  | 0x00 => some (BitVec.ofNat 64 hubId)
  | 0x40 => some s.hubAttach
  | 0x48 => some s.fabricId
  | 0x60 => some (BitVec.ofNat 64 s.time)
  | _ => none

/-! What a write does. -/

/-- The bits that an access covers (R7). -/
def accessMask : Access → Nat
  | .whole => 0xFFFFFFFFFFFFFFFF
  | .low => 0xFFFFFFFF
  | .high => 0xFFFFFFFF00000000
  | .other => 0

/-- The data of an access in its place: a half access has it in the low 32 bits of the operand. -/
def accessPlace (a : Access) (v : Word) : Nat :=
  match a with
  | .high => v.field 0 32 * 2 ^ 32
  | .low => v.field 0 32
  | _ => v.toNat

/-- Bits that a write can act on. -/
def RegSpec.writable (sp : RegSpec) : Nat := sp.rw ||| sp.rwl ||| sp.w1c ||| sp.w1s ||| sp.wo

/-- An access whose width or alignment R7 leaves undefined: it is not one of the three that are accepted, or it writes
half of a field that spans bit 32. -/
def RegSpec.badAccess (sp : RegSpec) (a : Access) : Bool :=
  match a with
  | .whole => false
  | .other => true
  | _ => sp.span

/-- The word that a write gives a register's own meaning: the bits that it covers, and rw and rwl fields beyond them as
they are. -/
def RegSpec.compose (sp : RegSpec) (old : Word) (a : Access) (v : Word) : Word :=
  let keep := (sp.rw ||| sp.rwl) &&& (0xFFFFFFFFFFFFFFFF ^^^ accessMask a)
  BitVec.ofNat 64 (accessPlace a v ||| (old.toNat &&& keep))

/-- A write to a register with no behaviour of its own (R8, R9): rw and rwl bits are stored, the latter where the Line
lock is clear, w1c bits clear and w1s bits set. -/
def RegSpec.apply (sp : RegSpec) (locked : Bool) (old : Word) (a : Access) (v : Word) : Word :=
  let x := accessPlace a v
  let store := (sp.rw ||| (if locked then 0 else sp.rwl)) &&& accessMask a
  let kept := old.toNat &&& (0xFFFFFFFFFFFFFFFF ^^^ store)
  BitVec.ofNat 64 (((kept ||| (x &&& store)) &&& (0xFFFFFFFFFFFFFFFF ^^^ (x &&& sp.w1c))) ||| (x &&& sp.w1s))

/-- A write to a register that wakes the Line whatever its value (R499). -/
def RegAt.wakes (r : RegAt) : Bool :=
  match r.blk, r.off with
  | .sq, _ | .cq, _ | .lead, 0x140 | .lead, 0x600 | .pond, 0x10 | .chan, 0x10 | .upd, 0x8 | .upd, 0x10 => true
  | _, _ => false

/-- The bit whose write of 1 wakes the Line (R499). -/
def RegAt.goBit (r : RegAt) : Option Nat :=
  match r.blk, r.off with
  | .lead, 0x408 => some 14
  | .pond, 0x20 => some 32
  | .xlat, 0x10 => some 38
  | .cfl, 0x8 => some 10
  | _, _ => none

/-- The effect of writing `v` to a register, where it has a behaviour of its own. -/
def State.writeOwn (s : State) (l : Nat) (r : RegAt) (v : Word) : Option State :=
  match r.blk, r.off with
  | .lead, 0x110 => some (s.writeWinBase l v)
  | .lead, 0x140 => some (s.writeWakeTol l v)
  | .lead, 0x408 => some (s.writeQctl l v)
  | .lead, 0x600 => some (s.writeDecSubmit l v)
  | .lead, 0x700 => some (s.writeJobCtl l v)
  | .route, _ => some (s.writeRoute l r.unit v)
  | .sq, _ => some (s.doorbell l r.unit v)
  | .cq, _ => some ((s.cqHead l r.unit v).tidy l r.unit)
  | .pond, 0x0 => some (s.writePdCtl r.unit v)
  | .pond, 0x10 => some (s.writeLaunch r.unit v)
  | .pond, 0x20 => some (s.writeImemCtl r.unit v)
  | .grid, 0x0 => some (s.writeGrdCtl r.unit v)
  | .chan, 0x0 => some (s.writeChCtl r.unit v)
  | .chan, 0x10 => some (s.submitXfer r.unit (v.field 0 52))
  | .upd, 0x8 => some (s.writeUpdFence l v)
  | .upd, 0x10 => some (s.writeUpdSubmit r.b v)
  | .upd, 0x20 => some (s.writeUpdCtl r.b v)
  | .cfl, 0x8 => some (s.writeCflCtl r.b v)
  | .rail, 0x8 => some (s.writeCtxCtl l v)
  | .port, 0x0 => some (s.writePortCtl r.unit v)
  | .xlat, 0x8 => some (s.writeXlatCtl l v)
  | .xlat, 0x10 => some (s.writeFence l v)
  | .mem, 0x40 => some (s.writeMaint r.b v)
  | .tel, 0x10 => some (s.writeTelCtl l v)
  | _, _ => none

/-- A write to a register with no behaviour of its own. A table size that its register leaves undefined is noted (R302,
R379), and MORE is cleared with VALID (R327, R379, R469). -/
def State.writePlain (s : State) (l : Nat) (r : RegAt) (sp : RegSpec) (a : Access) (v : Word) : State :=
  let s : State := s.setReg r.key (sp.apply (s.line l).locked (s.reg r.key) a v)
  match r.blk, r.off with
  | .lead, 0x410 => s.when (bit (accessPlace a v) 36) (·.setFlag r.key 37 false)
  | .lead, 0x708 => s.when (bit (accessPlace a v) 27) (·.setFlag r.key 28 false)
  | .cfl, 0x10 => s.when (bit (accessPlace a v) 28) (·.setFlag r.key 29 false)
  | .xlat, 0x0 => s.undefIf (decide (8 < s.fld r.key 0 4)) .tableSize
  | .cfl, 0x0 => s.undefIf (decide (4 < s.fld r.key 0 4)) .tableSize
  | _, _ => s

/-- A write to a register of the Line led by `l` that takes effect. -/
def State.writeReg (s : State) (l : Nat) (r : RegAt) (sp : RegSpec) (a : Access) (v : Word) : State :=
  let x := sp.compose (s.readReg false l r) a v
  let s := (s.undefIf (sp.badAccess a) .registerAccess).undefIf (accessPlace a v &&& sp.rsv != 0) .reservedWrite
  let go := match r.goBit with
    | some i => bit (accessPlace a v) i
    | none => false
  let s := s.when (r.wakes || go) (·.wakeExit l)
  if sp.writable &&& accessMask a = 0 then s
  else (s.writeOwn l r x).getD (s.writePlain l r sp a v)

/-- A write to a register of Line function `n` by a path (R20, R330, R487): LN_CLAIM is served in every function, and
LN_CTL and the rest in a leader's. -/
def State.mmioWrite (s : State) (via : Via) (n off : Nat) (a : Access) (v : Word) : State :=
  if off % 8 ≠ 0 ∨ a = .other then s.undefIf (s.lnWrites via n) .registerAccess
  else if off = 0x118 then
    if a = .high then s.undefIf (accessPlace a v / 2 ^ 33 != 0) .reservedWrite
    else s.writeClaim via n (BitVec.ofNat 64 (accessPlace a v))
  else if off = 0x100 then
    if a = .high then s.undefIf (s.lnWrites via n && accessPlace a v != 0) .reservedWrite
    else s.ctlWrite via n (BitVec.ofNat 64 (accessPlace a v))
  else if s.lnWrites via n then
    match s.regAt n off with
    | some (r, sp) => s.writeReg n r sp a v
    | none => s
  else s

end Sys2Proof.Machine
end

