-- ==== Sys2Proof/Machine/Engines.lean ====
section
/-!
DEFINITION. The engines of a pond at work (R143 to R145, R163, R165, R166, R171, R174, R192): each takes the head of its
queue when the interlocks allow, until none can go on.
-/
namespace Sys2Proof.Machine

/-! Operands and preloads. -/

/-- The elements that a load takes from a tile buffer (R158): positions from (RI, RJ), the invalid ones left out. A word
is keyed like an operand from memory. -/
def tbElems (x : Load) (outerRow : Bool) (t : Tile) : Load :=
  let rows := if outerRow then x.ext else x.k
  let cols := if outerRow then x.k else x.ext
  let here := t.words.filter fun e =>
    e.2.valid && decide (x.ri ≤ e.1 / 64 ∧ e.1 / 64 < x.ri + rows ∧ x.rj ≤ e.1 % 64 ∧ e.1 % 64 < x.rj + cols)
  let key (p : Nat) : Nat :=
    if outerRow then (p / 64 - x.ri) * 65536 + (p % 64 - x.rj) else (p % 64 - x.rj) * 65536 + (p / 64 - x.ri)
  let conv (w : TileWord) : Conv Nat :=
    if x.cvt then
      let c := convert bf16 true true w.num
      ⟨encodeFloat bf16 c.val, c.sat, c.flush⟩
    else
      let c := encodeFloat fp32 w.num
      ⟨c, 0, ofBool (isSubnormal fp32 c)⟩
  let cs := here.map fun e => (key e.1, conv e.2)
  { x with
    ready := true
    elems := cs.foldl (fun m c => tblInsert m c.1 { code := c.2.val }) []
    poison := (List.range 256).any fun r => tblGet false t.poison r &&
      decide (x.ri ≤ r / 4 ∧ r / 4 < x.ri + rows ∧ r % 4 * 16 < x.rj + cols ∧ x.rj < r % 4 * 16 + 16)
    sat := (cs.map fun c => c.2.sat).sum, flush := (cs.map fun c => c.2.flush).sum }

/-- A load from a tile buffer reads it, once every earlier write to it is done (R144). -/
def Pond.fillLoad (p : Pond) (isA : Bool) (x : Load) : Load :=
  match x.tb with
  | some b => if x.ready || p.tbWritePending b x.seq then x else tbElems x (isA != x.trans) (p.tb b)
  | none => x

/-- Every load that can read its tile buffer does. -/
def Pond.fillLoads (p : Pond) : Pond :=
  { p with
    feedA := p.feedA.map fun e => (e.1, e.2.map (p.fillLoad true))
    feedB := p.feedB.map fun e => (e.1, e.2.map (p.fillLoad false))
    gridQ := p.gridQ.map fun e => (e.1, e.2.map fun m => { m with a := p.fillLoad true m.a, b := p.fillLoad false m.b }) }

/-- The preload of an MMA into its grids' idle banks, when its source is at hand (R118, R163): from a tile buffer, or from
the tile of a ticket, which it then releases. -/
def Pond.preload (p : Pond) (m : MmaOp) : Pond :=
  if m.preReady then p
  else if m.pre = 1 then
    if p.tbWritePending m.ptb m.seq then p
    else p.modMma m.seq fun x =>
      { x with preReady := true, preTiles := [p.tb m.ptb], poison := x.poison || (p.tb m.ptb).poisoned }
  else if m.pre = 2 then
    if p.tileFull m.preTicket then
      let qs := p.quadrants m.preTicket
      let ts := if m.gang then (List.range 4).map fun q => ((qs.find? fun e => e.1 == q).map (·.2)).getD {}
                else qs.map (·.2)
      (p.modMma m.seq fun x =>
        { x with preReady := true, preTiles := ts, poison := x.poison || ts.any (·.poisoned) }).beginRelease m.preTicket m.seq
    else p
  else p

/-- The preloads that can be made: of each grid's next MMA, once its turn has come (R118, R122). -/
def State.preloads (s : State) (u : Nat) (p : Pond) : Pond :=
  (List.range 4).foldl (fun p q => match s.turn u q with | some m => p.preload m | none => p) p

/-- Whether an MMA that a free-running grid takes up issues under a start ramp, because the grid's quiet count has reached
L (R132, R134). The count is in clock cycles, which the model does not have: a free value decides. -/
def State.afterDry (s : State) (u : Nat) (m : MmaOp) (q : Nat) : Bool :=
  (mmaGrids m q).any (fun k => s.phaseOf u k == .active) && s.free % 2 == 1

/-- The grids of pond `u` that run start their next MMAs (R134). -/
def State.runOn (s : State) (u : Nat) : State :=
  s.each (List.range 4) fun s q =>
    match s.startable u q with
    | some m =>
      if (mmaGrids m q).all fun k => s.phaseOf u k != .idle then
        if s.afterDry u m q then s.bump.startMma u q m fun _ => .rampUp 0 else s.bump.startMma u q m GridPhase.resume
      else s
    | none => s

/-! Faults of loads (R185). -/

/-- The loads of a pond that have met a fault which is not detected yet. -/
def Pond.faulty (p : Pond) : List Load :=
  ((p.feedA.flatMap (·.2)) ++ (p.feedB.flatMap (·.2)) ++ p.mmas.flatMap fun m => [m.a, m.b]).filter fun x => x.fault.isSome

/-- Every load's fault counts as detected. -/
def Pond.detected (p : Pond) : Pond :=
  let clear (x : Load) : Load := { x with fault := none }
  { p with
    feedA := p.feedA.map fun e => (e.1, e.2.map clear)
    feedB := p.feedB.map fun e => (e.1, e.2.map clear)
    gridQ := p.gridQ.map fun e => (e.1, e.2.map fun m => { m with a := clear m.a, b := clear m.b }) }

/-- A load's fault is detected: how many instructions have issued by then is not stated (R185), and a free value decides
whether the sequencer goes on meanwhile; once it waits or ends, or an MMA has started, the fault has been detected. -/
def State.detect (s : State) (u : Nat) : State :=
  let p := s.pond u
  match p.faulty with
  | [] => s
  | x :: xs =>
    let first := xs.foldl (fun a b => if b.seq < a.seq then b else a) x
    let sure := p.mode != .run || p.wait != .none || p.mmas.any fun m => m.started && (m.a.fault.isSome || m.b.fault.isSome)
    match first.fault with
    | some (st, va) =>
      if sure || s.free % 2 == 0 then (s.bump.modPond u Pond.detected).engineFault u st first.seq first.pc va else s.bump
    | none => s

/-! The queues. -/

/-- The vector engine takes the head of its queue. -/
def State.runVec (s : State) (u : Nat) : Bool × State :=
  let p := s.pond u
  match p.vecQ with
  | [] => (false, s)
  | o :: rest =>
    if p.opReady o then
      let p1 := { p with vecQ := rest }
      let (p2, d) : Pond × OpDone :=
        if o.op = 0x50 then p1.runVop o
        else if o.op = 0x51 then p1.runVred o
        else ({ p1 with tbs := tblSet {} p1.tbs (o.insn.field 49 3) o.tile },
              { opcode := 0x42, pc := o.pc, record := o.insn.flag 35, sat := o.sat, flush := o.flush
                poison := o.tile.poisoned })
      let p3 := match o.ticket with
        | some t => if o.insn.flag 25 then p2.beginRelease t o.seq else p2
        | none => p2
      let cycles := if o.op = 0x50 then vopCycles (o.insn.field 48 8) else if o.op = 0x51 then vredCycles o else s.free
      let func := if o.op = 0x42 then 0 else o.insn.field 48 8
      let s := (s.when (o.op == 0x42) (·.bump)).modPond u fun _ => { p3 with vecLast := some (o.op, func, s.time) }
      (true, ((s.opDone u d).count (pdKey u 0x1008) 1).count (pdKey u 0x1010) cycles)
    else (false, s)

/-- An SD to a register of the program's own Line, where its address translates to one: a 64-bit access (R7, R34). -/
def State.sdRegister (s : State) (u : Nat) (o : PondOp) : Option State :=
  match s.xlateFor (s.pondWho u (s.pond u).cur.asid) (o.x.toNat % 2 ^ 57) false true with
  | (.ok pa, t) =>
    match s.target pa with
    | .lnMmio n off => if s.leaderOf n = s.pondLine u ∧ n < 8 then some (t.mmioWrite (.pond (Fin.ofNat 64 u)) n off .whole o.y) else none
    | .hubMmio off => if (s.hubVisible off).isSome then some t else none
    | _ => none
  | _ => none

/-- What the store unit does for an operation. -/
def State.storeOp (s : State) (u : Nat) (o : PondOp) : PWrite × OpDone × State :=
  let p := s.pond u
  let f := (fmtOfCode o.desc.fmt).getD .fp32
  let none_ : OpDone := { opcode := o.op, pc := o.pc }
  let tile (src : Source) (flushes : Bool) (ticket : Nat) : PWrite × OpDone × State :=
    let (out, s) := s.putRuns u (storeTile o.desc f flushes src o.x.toNat o.y.toNat)
    let ended := match out.res with | .ok _ => true | _ => false
    (out.res, { none_ with ticket := ticket, record := o.insn.flag 35 && ended, sat := out.sat, flush := out.flush
                           poison := out.poison }, s)
  match o.op, o.ticket with
  | 0x40, some t =>
    tile (if ((p.slotsOf t).any fun k => (p.slot k).gang) then quadSource (p.quadrants t) else tileSource (p.tileOf t)) true t
  | 0x41, _ => tile (tileSource (p.tb (o.insn.field 49 3))) false 0
  | 0x1C, _ =>
    match s.sdRegister u o with
    | some s => (.ok false, none_, s)
    | none =>
      let (out, s) := s.putRuns u [{ va := o.x.toNat % 2 ^ 57, bs := wholeBytes (leBytes 8 o.y.toNat) false }]
      (out.res, none_, s)
  | _, _ => (.ok false, none_, s)

/-- The store unit takes the head of its queue. A tile store that stops has still written and counted what it had come to
(R181, R185). -/
def State.runStore (s : State) (u : Nat) : Bool × State :=
  match (s.pond u).storeQ with
  | [] => (false, s)
  | o :: rest =>
    if (s.pond u).opReady o then
      let (w, d, s) := s.storeOp u o
      let rel := (o.op == 0x40 && o.insn.flag 36) || o.op == 0x43
      let s := s.modPond u fun p =>
        let p := { p with storeQ := if p.storeQ.take 1 = [o] then rest else p.storeQ }
        match o.ticket with
        | some t => if rel then p.beginRelease t o.seq else p
        | none => p
      let s := s.when (o.op == 0x40 || o.op == 0x41) (·.opDone u d)
      (true, match w with
        | .ok _ => s
        | .sink va => s.pondSink u o.seq o.pc va
        | .bad st va => s.engineFault u st o.seq o.pc va)
    else (false, s)

/-- The transfer start port takes the head of its queue, once the channel has a place (R174, R580). -/
def State.runXstart (s : State) (u : Nat) : Bool × State :=
  match (s.pond u).xsQ with
  | [] => (false, s)
  | o :: rest =>
    let c := u / 8 * 16 + o.insn.field 52 4
    if s.chanRoom c then
      let cur := (s.pond u).cur
      let s := s.modPond u fun p => { p with xsQ := rest }
      match s.pondRead u (o.x.toNat % 2 ^ 57) 136 with
      | (.bad st va, s) => (true, s.engineFault u st o.seq o.pc va)
      | (.ok bs, s) =>
        if anyPoison bs then (true, s.engineFault u 0x30 o.seq o.pc 0)
        else
          let ws := (List.range 17).map fun i => BitVec.ofNat 64 (bytesNat ((bs.drop (8 * i)).take 8))
          match s.acceptXfer c ws cur.asid cur.job cur.cls (.program (u % 8)) (s.chanWho c cur.asid) with
          | (some (st, va), s) => (true, s.engineFault u st o.seq o.pc va)
          | (none, s) => (true, s)
    else (false, s)

/-- What a release does (R148, R169, R170): an SADD, or a SIGNAL with its interrupt. -/
def State.releaseOp (s : State) (u : Nat) (o : PondOp) : State :=
  let l := s.pondLine u
  if o.op = 0x60 then s.counterAdd l o.x.toNat o.y.toNat
  else
    let s := (s.setFld (pdKey u 0x58) 0 16 (o.insn.field 0 16)).setFlag (pdKey u 0x58) 16 true
    s.when (o.insn.flag 16) (·.raise l (8 * s.place (u / 8) + u % 8))

/-- The oldest posted release takes effect, once every earlier store is visible and every earlier XSTART accepted
(R171). -/
def State.runPosted (s : State) (u : Nat) : Bool × State :=
  let p := s.pond u
  match p.posted with
  | [] => (false, s)
  | o :: rest =>
    if (p.storeQ.any fun x => decide (x.seq < o.seq) && x.op != 0x43) || (p.xsQ.any fun x => decide (x.seq < o.seq)) then
      (false, s)
    else (true, (s.modPond u fun p => { p with posted := rest }).releaseOp u o)

/-! The sequencer's own waits. -/

/-- The next index after one that has been executed, with the loops that run on (R149). -/
def loopBack : List LoopFrame → Nat → Nat × List LoopFrame
  | [], pc => (pc + 1, [])
  | f :: r, pc =>
    if pc = f.last then if 0 < f.left then (f.first, { f with left := f.left - 1 } :: r) else loopBack r pc
    else (pc + 1, f :: r)

/-- The opcodes of R147. -/
def knownOpcode (op : Nat) : Bool :=
  decide (op ≤ 5) || (decide (0x10 ≤ op) && decide (op ≤ 0x1C)) || (decide (0x20 ≤ op) && decide (op ≤ 0x22))
  || [0x30, 0x31, 0x38, 0x39, 0x40, 0x41, 0x42, 0x43, 0x50, 0x51, 0x60, 0x61, 0x70, 0x78].contains op

/-- Fetch past the last index, and an opcode that R147 does not list, end the program (R146, R148). -/
def State.settle (s : State) (u : Nat) : State :=
  let p := s.pond u
  if p.mode = .run then
    if 8192 ≤ p.pc then s.stopProgram u 0x11 8191
    else if knownOpcode ((p.insnAt p.pc).field 56 8) then s
    else s.stopProgram u 0x10 p.pc
  else s

/-- The instruction at the program counter has issued: the next one follows, and the loops run on. -/
def State.adv (s : State) (u : Nat) : State :=
  (s.modPond u fun p =>
    let n := loopBack p.loops p.pc
    { p with pc := n.1, loops := n.2, wait := .none, seq := p.seq + 1 }).settle u

/-- The mark of a PHASE instruction. -/
def State.phaseMark (s : State) (u : Nat) (w : Word) : State :=
  let p := s.pond u
  s.phaseRecord (s.pondLine u) (w.field 52 4) 0 (u / 8) (u % 8) ((p.sreg (w.field 46 5)).field 0 32) p.cur.job

/-- A PHASE that drains goes on once everything earlier has finished (R175). -/
def State.runDrain (s : State) (u : Nat) : Bool × State :=
  let p := s.pond u
  if p.mode = .run ∧ p.wait = .drain ∧ p.drained = true then (true, (s.phaseMark u (p.insnAt p.pc)).adv u) else (false, s)

/-- Every load and preload that can read its source does. -/
def State.fill (s : State) (u : Nat) : State :=
  let p := s.preloads u (s.pond u).fillLoads
  if p = s.pond u then s else s.modPond u fun _ => p

/-- One round of the engines of pond `u`; answers whether anything went on. -/
def State.engineRound (s : State) (u : Nat) : Bool × State :=
  let s := ((s.fill u).detect u).runOn u
  let (a, s) := s.runVec u
  let (b, s) := s.runStore u
  let (c, s) := s.runXstart u
  let (d, s) := s.runPosted u
  let (e, s) := s.runDrain u
  (a || b || c || d || e, s)

/-- Rounds of the engines until nothing goes on. -/
def State.engineRounds (u : Nat) : (fuel : Nat) → State → State
  | 0, s => s
  | k + 1, s =>
    let (b, s) := s.engineRound u
    if b then State.engineRounds u k s else s

/-- The engines of pond `u` do all they can, and a program that is ending finishes when its work is done (R180). -/
def State.pump (s : State) (u : Nat) : State :=
  if s.pondWorks u && (s.pond u).mode != .idle then (State.engineRounds u 64 s).tryFinish u else s

end Sys2Proof.Machine
end

