-- ==== Sys2Proof/Machine/Integrity.lean ====
section
/-!
DEFINITION. Changes of health, tests, shadow computation, sidings and survey packs (17_integrity.md).
-/
namespace Sys2Proof.Machine

/-! Cores and the siding core (R412, R464). -/

/-- The basin and physical core of a core's UNIT. -/
def unitCore (u : Nat) : Nat × Nat := (u % 2 * 4 + u / 2 / 17, u / 2 % 17)

/-- The logical number that physical core `j` of basin `b` serves. -/
def State.logicalOf (s : State) (b j : Nat) : Option Nat := (List.range 16).find? fun i => s.coreOf b i == j

/-- The siding core of basin `b` serves nothing, is not retired and is not under test. -/
def State.sidingFree (s : State) (b : Nat) : Bool :=
  (s.logicalOf b 16).isNone && (s.healthOf (coreHealth b 16)).st == .healthy && !s.testing (coreHealth b 16)

/-- Writes back and drops every line of agent `a` (R464 step 3). Where its lines cannot be read, they are written back
poisoned. A FAILED Line writes nothing (R30). -/
def State.flushAgent (s : State) (a : Nat) (poison : Bool) : State :=
  let mine := s.coh.caches.filter fun e => e.1 / 2 ^ 46 == a
  mine.foldl (fun s e =>
    let g := e.1 % 2 ^ 46
    match e.2 with
    | some c =>
      let dirty := decide (c.st = .m ∨ c.st = .o)
      let writes := dirty && (s.onFailed (g * 64)).isNone && s.lineStOf (a / 16) != .failed
      let s := if writes then s.putGranule g c.data (c.poison || poison) else s
      (s.dropCopy a g).redirect g
    | none => s) s

/-- The hart of logical core `i` of basin `b` moves to physical core `j`: its caches are flushed and its reservation
dropped; registers, CSRs and IMSIC files go with it (R464). -/
def State.moveCore (s : State) (b i j : Nat) : State :=
  let h := 16 * b + i
  let s := (s.flushAgent h false).modHart h fun c => { c with reservation := none }
  { s with bindings := tblSet 34 s.bindings (b * 64 + 32 + i) j }

/-- A core that leaves with nobody to take its place: its hart stops. -/
def State.dropCore (s : State) (b i : Nat) : State :=
  let h := 16 * b + i
  let s := (s.flushAgent h false).modHart h fun _ => {}
  { s with bindings := tblErase s.bindings (b * 64 + 32 + i) }

/-- The cores of basin `b` are running. -/
def State.coresUp (s : State) (b : Nat) : Bool := (s.lineStOf b).works

/-- A core must leave (R464): where its Line's cores do not run the siding core takes its number at once; while they run
CORE_MIGRATION moves the hart; with no siding core free its number is left unserved. Answers whether one was free. -/
def State.coreLeaves (s : State) (b j : Nat) : Bool × State :=
  match s.logicalOf b j with
  | none => (true, s)
  | some i =>
    if !s.sidingFree b || j == 16 then (false, s.dropCore b i)
    else if s.coresUp b then (true, s.modHealth (coreHealth b j) fun h => { h with leaving := true })
    else
      (true, { s with bindings := tblSet 34 s.bindings (b * 64 + 32 + i) 16, sidings := tblSet 0 s.sidings b (1 + j) })

/-- CORE_MIGRATION: the siding core has run its ROM self-test, and takes the place of a core that leaves or is due for
test. -/
def State.coreMigrate (s : State) (b i : Nat) (r : MigrateResult) : State :=
  let j := s.coreOf b i
  let k := coreHealth b j
  let wanted := (s.healthOf k).leaving || (s.healthOf k).due
  if decide (j < 16) && wanted && s.sidingFree b && s.coresUp b && r.romPass then
    let s := s.modHealth k fun h => { h with leaving := false }
    let h := 16 * b + i
    let s := if r.stateReadable then s.moveCore b i 16
      else
        let s := ((s.flushAgent h true).modHart h fun _ => { mode := .halted }).logEvent 0x0503 (9 + b / 4)
          (lineBit (s.leaderOf b)) h 0
        { s with bindings := tblSet 34 s.bindings (b * 64 + 32 + i) 16 }
    { s with sidings := tblSet 0 s.sidings b (1 + j) }
  else s

/-! Changes of health (R457, R463). -/

/-- A spare is at hand for a grid or core. -/
def State.spareAtHand (s : State) (k : Nat) : Bool :=
  let u := k % 2 ^ 24
  if k < 2 ^ 24 then
    (s.nameOf (u % 8 * 34 + u / 8)).isNone || (s.groupSpare (u % 8) (slotGroup (u / 8))).isSome
  else
    let (b, j) := unitCore u
    (s.logicalOf b j).isNone || (s.sidingFree b && j != 16)

/-- A grid or core that may no longer serve gives up its place. Answers whether a spare was at hand. While its basin is
in APPLYING the fault is only noted (R76). -/
def State.unitLeaves (s : State) (k : Nat) : Bool × State :=
  let u := k % 2 ^ 24
  if bit s.applyingMask ((testBasin k).getD 8) then
    (s.spareAtHand k, s.modHealth k fun h => { h with deferred := true })
  else if k < 2 ^ 24 then
    let b := u % 8
    let g := b * 34 + u / 8
    if (s.nameOf g).isNone then (true, s)
    else
      let found := (s.groupSpare b (slotGroup (u / 8))).isSome
      let x := s.grid g
      if (x.phase == .idle || x.phase == .test) && !s.gridBusy g then
        (found, (s.modGrid g fun x => { x with phase := .idle, leave := true }).takeOver g)
      else (found, s.modGrid g fun x => { x with leave := true })
  else s.coreLeaves (unitCore u).1 (unitCore u).2

/-- The unit faults that were noted while basins applied are acted on (R76). -/
def State.actDeferred (s : State) (bs : List Nat) : State :=
  (s.health.filter fun e => e.2.deferred && bs.contains ((testBasin e.1).getD 8)).foldl (fun s e =>
    ((s.modHealth e.1 fun h => { h with deferred := false }).unitLeaves e.1).2) s

/-- TT_APPLY_DONE, and the faults that its apply has deferred. -/
def State.applyDone (s : State) : State :=
  let bs := maskBasins s.applyingMask
  s.ttApplyDone.when (bs != []) (·.actDeferred bs)

/-- A grid or core becomes SUSPECT or RETIRED, with its cause. -/
def State.setSuspect (s : State) (k cause : Nat) : State :=
  (s.modHealth k fun h =>
    { h with st := .suspect, cause := cause, mismatches := 0, passes := 0, mmas := 0, shadowOwed := false }).logHealth k

def State.setRetired (s : State) (k cause : Nat) : State :=
  ((s.modHealth k fun h => { h with st := .retired, cause := cause, due := false }).logHealth k)

/-- A unit is due for a test, unless it is RETIRED (R456, R468). -/
def State.makeDue (s : State) (k : Nat) : State :=
  if s.retired k then s else s.modHealth k fun h => { h with due := true }

/-! Survey packs (R465 to R467). -/

/-- A pack's header fields. -/
def packField (p : List Byte) (off n : Nat) : Nat := leNat ((p.drop off).take n)

/-- The kinds of the records of a pack's body, in order; none where a record breaks R466. -/
def packRecords : (fuel : Nat) → List Byte → Option (List Nat)
  | _, [] => some []
  | 0, _ => none
  | fuel + 1, body =>
    let w := leNat (body.take 8)
    let len := bits w 8 24
    if body.length < 16 ∨ len < 16 ∨ len % 8 ≠ 0 ∨ body.length < len ∨ bits w 4 4 ≠ 0 ∨ 4 < bits w 0 4 then none
    else (packRecords fuel (body.drop len)).map fun r => bits w 0 4 :: r

/-- The body of a pack. -/
def packBody (p : List Byte) : List Byte := (p.drop 64).take (packField p 0x10 4)

/-- The record kinds of a held pack. -/
def packKinds (p : List Byte) : List Nat := (packRecords (p.length / 16) (packBody p)).getD []

/-- A pack keeps the format of R465 and R466. -/
def packFormat (p : List Byte) : Bool :=
  let n := packField p 0x10 4
  let kinds := packRecords (p.length / 16) (packBody p)
  decide (p.length = 64 + n + 64 + 2888 ∧ n % 8 = 0) && packField p 0 4 == 0x4B505653 && packField p 4 2 == 1
  && packField p 0x1B 37 == 0 && decide (packField p 0x1A 1 < 2)
  && (match kinds with
      | some ks => ks.length == packField p 0x14 4
          && packField p 6 2 == ((List.range 16).filter ks.contains).foldl (fun m k => m + 2 ^ k) 0
      | none => false)

/-- The held pack of a slot. -/
def State.packAt (s : State) (i : Nat) : List Byte := tblGet [] s.flash.survey i

/-- The revision range of a pack contains a die's REV. -/
def packFits (p : List Byte) (rev : Nat) : Bool := decide (packField p 0x18 1 ≤ rev ∧ rev ≤ packField p 0x19 1)

/-- The records that a test of a unit runs: pack slot and record index, in order (R467). -/
def State.recordsFor (s : State) (kind u : Nat) : List (Nat × Nat) :=
  (List.range 8).flatMap fun i =>
    let p := s.packAt i
    if p ≠ [] ∧ packFits p (s.die (unitDie kind u)).rev then
      ((packKinds p).zipIdx.filter fun e => e.1 == kind).map fun e => (i, e.2)
    else []

/-- HUB_SURVEY_STATUS (R471). -/
def State.surveyStatus (s : State) : Word :=
  let held := ((List.range 8).filter fun i => s.packAt i != []).foldl (fun m i => m + 2 ^ i) 0
  ((s.reg (hubKey 0x830)).withField 0 1 (ofBool s.survey.isSome)).withField 16 8 held

/-- An operation on survey packs ends with a result. -/
def State.surveyResult (s : State) (r : Nat) : State := { s with survey := none }.setFld (hubKey 0x830) 8 8 r

/-- A write of HUB_SURVEY_CTL. What the reserved OP 3 answers is not stated: it does nothing but give a free RESULT (DESIGN
CHOICE; notes/assumptions). -/
def State.writeSurveyCtl (s : State) (v : Word) : State :=
  let s := s.undefIf (v.field 29 35 != 0) .reservedWrite
  let s := s.setReg (hubKey 0x828) (BitVec.ofNat 64 (v.field 0 28))
  let addr := (s.reg (hubKey 0x820)).toNat
  let len := v.field 0 23
  if !v.flag 28 then s
  else if s.survey.isSome then s.setFlag (hubKey 0x830) 1 true
  else if v.field 26 2 = 3 then s.bump.surveyResult (s.free % 256)
  else if v.field 26 2 = 0 ∧ (len < 3016 ∨ 0x400000 < len ∨ addr % 8 ≠ 0) then s.surveyResult 1
  else { s with survey := some { op := v.field 26 2, addr := addr, len := len, slot := v.field 23 3 } }

/-- The result of loading a pack, and the slot it takes (R465, R467). -/
def State.packVerdict (s : State) (p : List Byte) (sigOk : Bool) : Except Nat Nat :=
  let stop := 64 + packField p 0x10 4
  let owner := packField p 0x1A 1 == 1
  let key := (p.drop (stop + 64)).take 64
  let series := packField p 8 4
  let same := (List.range 8).find? fun i => s.packAt i != [] && packField (s.packAt i) 8 4 == series
  if !packFormat p then .error 2
  else if shake256 64 (p.take stop) ≠ (p.drop stop).take 64 then .error 3
  else if !sigOk || (owner && s.nvm.ownerHash != some (ownerKeyHash key)) then .error 4
  else
    match same with
    | some i => if packField (s.packAt i) 0xC 4 < packField p 0xC 4 then .ok i else .error 5
    | none =>
      match (List.range 8).find? fun i => s.packAt i == [] with
      | some i => .ok i
      | none => .error 6

/-- The pack that a LOAD reads from host memory. -/
def State.packRead (s : State) (o : SurveyOp) (readOk : Bool) : Option (List Byte) :=
  let dirty := (pieces o.addr o.len).any fun p => tblGet false s.hostPoison (p.1 / 64)
  if readOk && s.host.attached && !dirty then some (memBytes s.hostMem o.addr o.len) else none

/-- The UNIT values of a kind end below this. -/
def unitEnd : Nat → Nat
  | 0 => 272
  | 1 => 136
  | 2 => 0x10800
  | 3 => 0x880
  | _ => 0x240

/-- RUN_NOW: every unit that a pack has records for is due (R458, R467). -/
def State.runNow (s : State) (p : List Byte) : State :=
  let ks := packKinds p
  s.each ((List.range 5).filter ks.contains) fun s kind =>
    s.each (List.range (unitEnd kind)) fun s u =>
      if unitOk kind u && packFits p (s.die (unitDie kind u)).rev then s.makeDue (healthKey kind u) else s

/-- A pack that has been read is checked and written to its slot (R465, R467). -/
def State.packStore (s : State) (p : List Byte) (sigOk flashOk : Bool) : State :=
  match s.packVerdict p sigOk with
  | .error c => s.surveyResult c
  | .ok i =>
    let put (x : List Byte) (s : State) : State := { s with flash := { s.flash with survey := tblSet [] s.flash.survey i x } }
    if flashOk then ((put p s).setFld (hubKey 0x830) 24 3 i).surveyResult 0 else (put [] s).surveyResult 1

/-- An owner request runs, for which loads wait (R482). -/
def State.ownerRuns (s : State) : Bool := match s.sec.ownerOp with | some w => !w.waiting | none => false

/-- SURVEY_OP_DONE: the running operation ends. It waits while an owner request runs (R482). A pack that PLDM brings ends
at APPLY_COMPLETE (R522). -/
def State.surveyDone (s : State) (readOk sigOk flashOk : Bool) : State :=
  match s.survey with
  | none => s
  | some o =>
    if s.ownerRuns || o.pack.isSome then s
    else if o.op = 0 then
      match s.packRead o readOk with
      | none => s.surveyResult 1
      | some p => s.packStore p sigOk flashOk
    else if s.packAt o.slot = [] then s.surveyResult 7
    else if o.op = 1 then
      { s with flash := { s.flash with survey := tblErase s.flash.survey o.slot } }.surveyResult 0
    else (s.runNow (s.packAt o.slot)).surveyResult 0

/-! Tests (R458 to R460). -/

/-- TEST_DUE: the interval of a grid or core has passed since its last test; a wake event (R499). -/
def State.testDue (s : State) (kind : UnitKind) (u : Nat) : State :=
  let k := healthKey (kindNo kind) u
  match testBasin k with
  | none => s
  | some b =>
    let h := s.healthOf k
    let t := (s.tt.basin b).test
    let limit := match h.st with
      | .healthy => bits t 0 11 * 60000000000
      | _ => bits t 16 10 * 1000000000
    if unitOk (kindNo kind) u && decide (h.st ≠ .retired) && !h.due && decide (h.testedAt + limit ≤ s.aged) then
      (s.makeDue k).when (decide (s.leaderOf b < 8)) fun s => s.wakeExit (s.leaderOf b)
    else s

/-- The Line of basin `b` is in a state in which tests begin (R458). -/
def State.testState (s : State) (b : Nat) : Bool :=
  match s.lineStOf b with
  | .stopped | .starting | .running | .stopping => true
  | _ => false

/-- Notes that a test of a unit runs. -/
def State.startTest (s : State) (k : Nat) (t : RunningTest) : State :=
  { s.modHealth k fun h => { h with due := false } with tests := tblSet none s.tests k (some t) }

/-- A test of a grid begins: at rest, with the group's spare in its name, or taken out while its MMAs wait. A grid that is
busy is asked to its tile boundary first (R135), and one that a mismatch names waits for the spare's test (R462). -/
def State.beginGrid (s : State) (k b slot : Nat) : State :=
  let g := b * 34 + slot
  let x := s.grid g
  let due := (s.healthOf k).due || x.testReq || x.phase == .test
  let spare := s.groupSpare b (slotGroup slot)
  let eclass := match s.nameOf g with
    | some (u, _) => (s.pond u).mode != .idle && (s.pond u).cur.cls == 1 && spare.isNone
    | none => false
  let after := s.health.any fun e => e.2.due && e.2.blames == some g
  if !due || after || !s.testState b || (s.line (s.leaderOf b)).sleep != 0 || eclass then s
  else if !(x.phase == .idle || x.phase == .test) || s.gridBusy g then s.modGrid g fun x => { x with testReq := true }
  else
    let stand := if (s.nameOf g).isSome then spare else none
    let s := if stand.isSome then s.giveName g stand else s
    let s := (s.modGrid g fun x => { x with phase := .test, testReq := false, out := true, takeOut := false }).setFlag
      (grdKey g 0) 9 false
    s.startTest k { standIn := stand }

/-- A test of a core begins: of one that the siding core has relieved, of one that serves no number, or in a STOPPED
Line. -/
def State.beginCore (s : State) (k b j : Nat) : State :=
  let bound := (s.logicalOf b j).isSome
  if (s.healthOf k).due && s.testState b && (s.line (s.leaderOf b)).sleep != 3 && (!bound || s.lineStOf b == .stopped) then
    s.startTest k {}
  else s

/-- TEST_BEGIN: a due test begins once its conditions hold. Lanes are tested during a recalibration step, and a subarray
while the bank's spare can take its place (R459). -/
def State.testBegin (s : State) (kind : UnitKind) (u : Nat) : State :=
  let k := healthKey (kindNo kind) u
  if !unitOk (kindNo kind) u || s.retired k || s.groupTesting k then s
  else
    match kind with
    | .grid => s.beginGrid k (u % 8) (u / 8)
    | .core => s.beginCore k (unitCore u).1 (unitCore u).2
    | .subarray =>
      let m := s.bmem (u % 8)
      let bank := bits u 3 8
      if (s.healthOf k).due && tblGet 0 m.spares bank == 0 && !(m.copying.any fun e => e.1 == bank) then s.startTest k {} else s
    | .spurLane =>
      let p := u % 32
      let d := unitDir u
      let x := (s.spur p).side d
      let lane := u / 64
      if (s.healthOf k).due && decide ((s.spur p).st = .up ∧ (s.spur p).ver = 3) && x.calLane.isNone
          && (x.spare0.isSome || x.spare1.isSome) && some lane != x.spare0 && some lane != x.spare1 then
        (s.modSpurSide p d fun x => { x with calLane := some lane }).startTest k {}
      else s
    | .railLane =>
      let p := u % 32
      let d := unitDir u
      let x := (s.port p).side d
      let lane := u / 64
      if (s.healthOf k).due && decide ((s.port p).st = .up ∧ x.step = .none ∧ x.change = .none) && x.spare.isSome
          && some lane != x.spare then
        (s.modSide p d fun x => { x with step := .calibrating lane, spare := none }).startTest k {}
      else s
    | .memChan => s

/-- Logs the survey records that a test ran: pack slot and record index, and the unit (R467, R529). -/
def State.logSurvey (s : State) (kind u : Nat) (bad : Option Nat) : State :=
  let b := (testBasin (healthKey kind u)).getD 8
  ((s.recordsFor kind u).zipIdx).foldl (fun s e =>
    s.logEvent 0x0502 (unitDie kind u) (if b < 8 then lineBit (s.leaderOf b) else 0) (e.1.1 + e.1.2 * 2 ^ 8)
      (unitArg (healthKey kind u)) (ofBool (bad == some e.2))) s

/-- The health of a grid or core after a test (R457). A spare that fails takes its mismatch off the grid it named (R462). -/
def State.judge (s : State) (k : Nat) (pass reproduced : Bool) (cause : Nat) : State :=
  let h := s.healthOf k
  let s := if pass then s
    else match h.blames with
      | some g => s.modHealth (gridHealth (g / 34) (g % 34)) fun x => { x with mismatches := x.mismatches - 1 }
      | none => s
  let s := s.modHealth k fun x => { x with blames := none }
  match h.st, pass with
  | .healthy, true => s
  | .healthy, false => if reproduced then s.setRetired k cause else s.setSuspect k cause
  | .suspect, true =>
    if 72 ≤ h.passes + 1 then (s.modHealth k fun x => { x with st := .healthy, passes := 0 }).logHealth k
    else s.modHealth k fun x => { x with passes := x.passes + 1 }
  | .suspect, false => s.setRetired k cause
  | .retired, _ => s

/-- A tested grid after its test (R460, R468). -/
def State.endGrid (s : State) (k b slot : Nat) (t : RunningTest) (pass : Bool) : State :=
  let g := b * 34 + slot
  let s := s.modGrid g fun x => { x with phase := .idle, out := s.flag (grdKey g 0) 8 }
  match t.standIn with
  | none => if s.retired k then (s.unitLeaves k).2 else s
  | some i =>
    let standGone := s.retired (gridHealth b i)
    if s.retired k then s
    else if pass && !standGone then s
    else if standGone then
      match (List.range 32).find? fun n => tblGet 34 s.bindings (b * 64 + n) == 34 && bit (s.tt.basin b).grids (32 + n / 4) with
      | some n => if (s.nameOf g).isNone then { s with bindings := tblSet 34 s.bindings (b * 64 + n) slot } else s
      | none => s
    else
      match s.nameOf (b * 34 + i) with
      | some (u, q) => { s with bindings := tblSet 34 s.bindings (b * 64 + u % 8 * 4 + q) slot }
      | none => s

/-- A tested core after its test (R460): unless it is RETIRED it takes its number back from the siding core. -/
def State.endCore (s : State) (k b j : Nat) : State :=
  if s.retired k then (s.coreLeaves b j).2
  else if tblGet 0 s.sidings b = 1 + j then
    match s.logicalOf b 16 with
    | some i => { s.moveCore b i j with sidings := tblErase s.sidings b }
    | none => s
  else s

/-- TEST_COMPLETE: a running test ends, and the unit moves between health states. -/
def State.testComplete (s : State) (kind : UnitKind) (u : Nat) (r : TestResult) : State :=
  let n := kindNo kind
  let k := healthKey n u
  match tblGet none s.tests k with
  | none => s
  | some t =>
    let pass := r.rom && r.survey.isNone
    let cause := if r.rom then 3 else 1
    let s := { s with tests := tblErase s.tests k }
    let s := (s.modHealth k fun h => { h with tests := min 0xFFFF (h.tests + 1), testedAt := s.aged }).logSurvey n u r.survey
    match kind with
    | .grid => ((s.judge k pass r.reproduced cause).endGrid k (u % 8) (u / 8) t pass)
    | .core => ((s.judge k pass r.reproduced cause).endCore k (unitCore u).1 (unitCore u).2)
    | .subarray => if pass then s else s.takeSubarray (u % 8) (bits u 3 8) (u / 2 ^ 11)
    | .spurLane =>
      if pass then s.spurRecalDone (u % 32) (unitDir u)
      else
        let s := s.modSpurSide (u % 32) (unitDir u) fun x =>
          if x.spare0.isSome then { x with spare0 := none, calLane := none } else { x with spare1 := none, calLane := none }
        s.retireLane k (unitDie 3 u) (s.spurMask (u % 32)) cause
    | .railLane =>
      if pass then s.recalDone (u % 32) (unitDir u)
      else
        (s.modSide (u % 32) (unitDir u) fun x => { x with step := .none }).retireLane k (unitDie 4 u)
          (lineBit (s.leaderOf (u % 32 / 4))) cause
    | .memChan => s

/-! Unit commands (R470). -/

/-- Reports the result of a unit command. -/
def State.unitResult (s : State) (r : Nat) : State := s.setFld (hubKey 0x808) 4 4 r

/-- A unit is retired through PF0. Answers whether a spare was at hand. -/
def State.retireUnit (s : State) (kind u : Nat) : Bool × State :=
  let k := healthKey kind u
  if s.retired k then (true, s)
  else
    match kind with
    | 0 | 1 => (s.setRetired k 4).unitLeaves k
    | 2 =>
      let m := s.bmem (u % 8)
      let bank := bits u 3 8
      let free := tblGet 0 m.spares bank == 0 && !(m.copying.any fun e => e.1 == bank)
      let s := s.takeSubarray (u % 8) bank (u / 2 ^ 11)
      (free, if free then s else s.modHealth k fun h => { h with st := .retired, cause := 4 })
    | 3 =>
      let x := (s.spur (u % 32)).side (unitDir u)
      (x.spare0.isSome || x.spare1.isSome, s.spurLaneFail (u % 32) (unitDir u) (u / 64) 4)
    | 4 => (((s.port (u % 32)).side (unitDir u)).spare.isSome, s.railLaneFail (u % 32) (unitDir u) (u / 64) 4)
    | _ => (true, s.failChannel (u / 32) (u % 32))

/-- The action of a unit command on a unit that exists: its result. -/
def State.unitAct (s : State) (kind u action : Nat) : Nat × State :=
  let k := healthKey kind u
  let st := (s.healthOf k).st
  let gridOrCore := decide (kind < 2)
  let spare (r : Bool × State) : Nat × State := (if r.1 then 0 else 3, r.2)
  match action with
  | 0 => (0, s)
  | 1 => if kind < 5 then (0, s.makeDue k) else (2, s)
  | 2 =>
    if !gridOrCore then (2, s)
    else if st = .retired then (0, s)
    else
      let s := if st = .healthy then s.setSuspect k 4 else s
      spare ((s.makeDue k).unitLeaves k)
  | 3 => spare (s.retireUnit kind u)
  | 4 => if !gridOrCore then (2, s) else if st = .healthy then (0, s.setSuspect k 4) else (0, s)
  | 5 => if gridOrCore && st == .retired then (0, s.setSuspect k 4) else (2, s)
  | _ => (2, s)

/-- A write of HUB_UNIT_CMD: GO performs ACTION and loads the unit's record into HUB_UNIT_HEALTH. -/
def State.writeUnitCmd (s : State) (v : Word) : State :=
  let kind := v.field 0 4
  let action := v.field 4 4
  let s := s.undefIf (v.field 33 31 != 0) .reservedWrite
  let s := s.setReg (hubKey 0x800) (BitVec.ofNat 64 (v.field 0 32))
  let u := v.field 8 24
  if !v.flag 32 then s
  else if !unitOk kind u then s.unitResult 1
  else
    let (r, s) := s.unitAct kind u action
    (s.setReg (hubKey 0x810) (s.unitHealth (healthKey kind u))).unitResult r

/-! Shadow computation (R462). -/

/-- A shadow mismatch of slot `g`, found by slot `i` of its basin. -/
def State.shadowMismatch (s : State) (g i : Nat) : State :=
  let b := g / 34
  let k := gridHealth b (g % 34)
  let s := s.modHealth k fun h => { h with mismatches := min 255 (h.mismatches + 1), passes := 0 }
  let s := s.logEvent 0x0501 (1 + b) (lineBit (s.leaderOf b)) g (b * 34 + i)
  let s := s.modHealth (gridHealth b i) fun h => { h with blames := some g, due := true }
  if 2 ≤ (s.healthOf k).mismatches then ((s.setRetired k 2).unitLeaves k).2 else s.makeDue k

/-- The tile of a SUSPECT grid is shadowed when it is due and the group's spare is free. Answers whether the words
differ. -/
def State.shadow (s : State) (u q : Nat) (r : ShadowResult) : Bool × State :=
  match s.gridOf u q with
  | none => (false, s)
  | some g =>
    let b := g / 34
    let k := gridHealth b (g % 34)
    let h := s.healthOf k
    if h.st ≠ .suspect then (false, s)
    else
      let div := max 1 (bits (s.tt.basin b).test 32 8)
      let due := h.shadowOwed || h.mmas % div == 0
      let s := s.modHealth k fun x => { x with mmas := x.mmas + 1 }
      if !due then (false, s)
      else
        match s.shadowSpare b (g % 34) with
        | none => (false, s.modHealth k fun x => { x with shadowOwed := true })
        | some i =>
          let s := s.modHealth k fun x => { x with shadowOwed := false }
          if r = .differs then (true, s.shadowMismatch g i) else (false, s)

/-- SLOT_FULL: the last band of a tile is written, its comparison having ended (R119, R462). -/
def State.slotFull (s : State) (u q : Nat) (r : ShadowResult) : State :=
  if s.pondWorks u && ((s.pond u).filling q).isSome then
    let (bad, s) := s.shadow u q r
    match s.fillSlot u q bad with
    | (some m, s) => (s.opDone u m.report).pump u
    | (none, s) => s.pump u
  else s

/-! The commands. -/

/-- TT_APPLY_DONE (R76). -/
def execTtApplyDone : State → Out := run fun s => s.applyDone
/-- SLOT_CLAIM: the claims of one clock cycle (R120, R193). -/
def execSlotClaim (u : PondId) (grids : Fin 16) : State → Out := runU fun s => (s.slotClaim u grids).pump u
/-- SLOT_FULL (R119). -/
def execSlotFull (u : PondId) (g : Fin 4) (shadow : ShadowResult) : State → Out := runU fun s => s.slotFull u g shadow
/-- TERM (R455): a write of LN_JOB_CTL. -/
def execTerm (via : Via) (l : LineId) (v : Word) : State → Out := runU fun s => s.lnWrite via l (·.writeJobCtl l v)
/-- CLEAR (R455): a write of LN_JOB_CTL. -/
def execClear (via : Via) (l : LineId) (v : Word) : State → Out := runU fun s => s.lnWrite via l (·.writeJobCtl l v)
/-- TEST_DUE (R458). -/
def execTestDue (kind : UnitKind) (unit : Nat) : State → Out := run fun s => s.testDue kind unit
/-- TEST_BEGIN (R459). -/
def execTestBegin (kind : UnitKind) (unit : Nat) : State → Out := run fun s => s.testBegin kind unit
/-- TEST_COMPLETE (R457). -/
def execTestComplete (kind : UnitKind) (unit : Nat) (res : TestResult) : State → Out :=
  run fun s => s.testComplete kind unit res
/-- CORE_MIGRATION (R464). -/
def execCoreMigration (b : BasinId) (core : Fin 16) (res : MigrateResult) : State → Out :=
  run fun s => s.coreMigrate b core res
/-- UNIT_READ (R470): a write of HUB_UNIT_CMD. -/
def execUnitRead (v : Word) : State → Out := runU fun s => s.hubWrite (·.writeUnitCmd v)
/-- UNIT_TEST (R470): a write of HUB_UNIT_CMD. -/
def execUnitTest (v : Word) : State → Out := runU fun s => s.hubWrite (·.writeUnitCmd v)
/-- QUARANTINE (R470): a write of HUB_UNIT_CMD. -/
def execQuarantine (v : Word) : State → Out := runU fun s => s.hubWrite (·.writeUnitCmd v)
/-- RETIRE (R470): a write of HUB_UNIT_CMD. -/
def execRetire (v : Word) : State → Out := runU fun s => s.hubWrite (·.writeUnitCmd v)
/-- SUSPECT (R470): a write of HUB_UNIT_CMD. -/
def execSuspect (v : Word) : State → Out := runU fun s => s.hubWrite (·.writeUnitCmd v)
/-- REINSTATE (R470): a write of HUB_UNIT_CMD. -/
def execReinstate (v : Word) : State → Out := runU fun s => s.hubWrite (·.writeUnitCmd v)
/-- SURVEY_LOAD (R467): a write of HUB_SURVEY_CTL. -/
def execSurveyLoad (v : Word) : State → Out := runU fun s => s.hubWrite (·.writeSurveyCtl v)
/-- SURVEY_ERASE (R471): a write of HUB_SURVEY_CTL. -/
def execSurveyErase (v : Word) : State → Out := runU fun s => s.hubWrite (·.writeSurveyCtl v)
/-- RUN_NOW (R467): a write of HUB_SURVEY_CTL. -/
def execRunNow (v : Word) : State → Out := runU fun s => s.hubWrite (·.writeSurveyCtl v)
/-- SURVEY_OP_DONE (R471). -/
def execSurveyOpDone (readOk sigOk flashOk : Bool) : State → Out := run fun s => s.surveyDone readOk sigOk flashOk

end Sys2Proof.Machine
end

