-- ==== Sys2Proof/Machine/Security.lean ====
section
/-!
DEFINITION. Security (18_security.md): the version floor, the identity key's leaves, owner requests, the random source,
attestation over SPDM, and the coarsened readings of tenants. The layout of SPDM messages is that of DMTF DSP0274
(PRESUMED; notes/assumptions).
-/
namespace Sys2Proof.Machine

/-! The version floor and the identity key (R476, R480, R481). -/

/-- MIN_SVN after a commit of the running image's SVN: it is never lowered. -/
def Vault.commit (v : Vault) (svn : Nat) : Vault := if v.minSvn < svn then { v with minSvn := svn } else v

/-- Leaves of the identity key. -/
def leafBound : Nat := 0x100000

/-- The identity key can sign. -/
def Vault.canSign (v : Vault) : Bool := decide (v.nextLeaf < leafBound)

/-- One signature: a block of 16 leaves is reserved first where none is left, and NEXT rises by 1. -/
def Vault.sign (v : Vault) : Vault :=
  if v.nextLeaf < leafBound then
    { v with reserved := if v.nextLeaf = v.reserved then v.reserved + 16 else v.reserved, nextLeaf := v.nextLeaf + 1 }
  else v

/-- A boot, or a change of signal box: NEXT is set to RESERVED. -/
def Vault.restart (v : Vault) : Vault := { v with nextLeaf := v.reserved }

/-- A write of SEC_CTL. -/
def State.writeSecCtl (s : State) (v : Word) : State := s.undefIf (v.field 1 63 != 0) .reservedWrite

/-- The vault after a write of SEC_CTL. -/
def State.secCommit (s : State) (v : Word) : Vault :=
  if s.hubWrites && v.flag 0 then s.vault.commit s.sec.fwSvn else s.vault

/-! Owner requests (R482, R492). -/

/-- A Timetable or survey load is BUSY, other than one that waits for an owner request. -/
def State.loadsBusy (s : State) : Bool :=
  (match s.ttLoad with | some t => decide (t.stage ≠ .waiting) | none => false) || s.survey.isSome

/-- A write of SEC_OWNER_CTL. -/
def State.writeOwnerCtl (s : State) (v : Word) : State :=
  let s := s.undefIf (v.field 1 63 != 0) .reservedWrite
  if !v.flag 0 then s
  else if s.sec.ownerOp.isSome then s.setFlag (secKey 0x20) 1 true
  else
    let op : OwnerOp := { addr := (s.reg (secKey 0x10)).toNat, waiting := s.loadsBusy }
    { s with sec := { s.sec with ownerOp := some op } }

/-- The verdict on a request: RESULT of SEC_OWNER_STATUS. -/
def State.ownerVerdict (s : State) (r : List Byte) (sigOk : Bool) : Nat :=
  let op := fieldAt r 4 2
  let key := (r.drop 0x18).take 64
  let block := (r.drop 0x98).take 64
  let signer := if op = 0 then block == key else s.nvm.ownerHash == some (ownerKeyHash block)
  if fieldAt r 0 4 ≠ 0x524E574F ∨ 2 < op ∨ fieldAt r 6 2 ≠ 0 ∨ (op = 2 ∧ leNat key ≠ 0) then 2
  else if fieldAt r 8 8 ≠ hubId then 3
  else if fieldAt r 0x10 8 ≠ s.nvm.ownerCount + 1 then 4
  else if shake256 64 (r.take 0x58) ≠ (r.drop 0x58).take 64 then 5
  else if (op = 0) = s.nvm.ownerHash.isSome then 7
  else if !sigOk || !signer then 6
  else 0

/-- A request ends: RESULT is set, BUSY clears, and a Timetable load that has waited goes on. -/
def State.ownerEnd (s : State) (r : Nat) : State :=
  let s := { s with sec := { s.sec with ownerOp := none } }.setFld (secKey 0x20) 8 8 r
  match s.ttLoad with
  | some t => if t.stage = .waiting then { s with ttLoad := some { t with stage := .reading } } else s
  | none => s

/-- OWNER_REQUEST_DONE: the request has been read and verified. It waits for loads that were BUSY before it. -/
def State.ownerDone (s : State) (readOk sigOk : Bool) : State :=
  match s.sec.ownerOp with
  | none => s
  | some o =>
    if o.waiting && s.loadsBusy then s
    else
      let dirty := (pieces o.addr 3040).any fun p => tblGet false s.hostPoison (p.1 / 64)
      if !readOk || !s.host.attached || dirty || o.addr % 8 != 0 then s.ownerEnd 1
      else
        let r := memBytes s.hostMem o.addr 3040
        let c := s.ownerVerdict r sigOk
        if c ≠ 0 then s.ownerEnd c
        else
          let op := fieldAt r 4 2
          let n := fieldAt r 0x10 8
          let h := if op = 2 then none else some (ownerKeyHash ((r.drop 0x18).take 64))
          ({ s with nvm := { s.nvm with ownerHash := h, ownerCount := n } }.ownerEnd 0).logEvent 0x0801 0 0 op n

/-- SEC_OWNER_STATUS. -/
def State.ownerStatus (s : State) : Word :=
  ((s.reg (secKey 0x20)).withField 0 1 (ofBool s.sec.ownerOp.isSome)).withField 32 32 s.nvm.ownerCount

/-- SEC_STATUS, SEC_ID_STATUS and SEC_LINE of Line `n` (R492). -/
def State.secStatus (s : State) : Word :=
  BitVec.ofNat 64 (s.sec.fwSvn % 2 ^ 16 + s.vault.minSvn % 2 ^ 16 * 2 ^ 16 + ofBool s.sec.rngFail * 2 ^ 32)

def State.idStatus (s : State) : Word :=
  BitVec.ofNat 64 (s.vault.nextLeaf % 2 ^ 21 + s.vault.reserved % 2 ^ 21 * 2 ^ 21 + ofBool (!s.vault.canSign) * 2 ^ 42)

def State.secLine (s : State) (n : Nat) : Word :=
  let t : Nat := match s.tdisp n with | .unlocked => 0 | .locked => 1 | .run => 2 | .error => 3
  BitVec.ofNat 64 (t + ofBool (s.clearing n) * 4 + tblGet 0 s.host.clears n * 2 ^ 8)

/-! The random source (R483). -/

/-- DRBG_RESEED: every 24 h, or to clear a failure. -/
def State.reseed (s : State) : State :=
  if s.sec.rngFail || decide (s.sec.reseedAt + 86400000000000 ≤ s.time) then
    { s with sec := { s.sec with rngFail := false, reseeds := s.sec.reseeds + 1, reseedAt := s.time } }
  else s

/-- RNG_HEALTH_FAIL at run time. -/
def State.rngFails (s : State) : State := { s with sec := { s.sec with rngFail := true } }.logEvent 0x0800 0 0 0 0

/-! Measurements (R444, R485). -/

/-- HUB_DIE_INV of die `i`. -/
def State.dieInv (s : State) (i : Nat) : Word :=
  let d := s.die i
  let st : Nat := match d.st with | .ok => 0 | .absent => 1 | .failed => 2 | .excluded => 3
  BitVec.ofNat 64 (d.type + st * 2 ^ 4 + d.rev * 2 ^ 8 + d.spurMin * 2 ^ 16 + d.spurMax * 2 ^ 20 + d.coh * 2 ^ 24
    + d.rail * 2 ^ 28 + d.ucode * 2 ^ 32 + d.seat * 2 ^ 40 + d.hubMin * 2 ^ 48)

/-- The running firmware image. -/
def State.image (s : State) : List Byte :=
  match s.flash.fw with
  | .factory => Config.factoryImage
  | .programmed img => img
  | .broken => []

/-- The Line record of Line `n`. -/
def State.lineRecord (s : State) (n : Nat) : List Byte :=
  if !s.isLeader n then List.replicate 72 0
  else
    let ms := s.members n
    let ws := s.tt.windows.filter fun w => w.1.field 11 3 == n
    leBytes 8 (s.lnStatus n).toNat ++ leBytes 4 (bits (s.tt.basin n).lines 32 32) ++ leBytes 4 ((s.secLine n).field 0 2)
      ++ (List.range 8).map (fun i => BitVec.ofNat 8 (match ms[i]? with | some b => (s.bmem b).keyGen | none => 0))
      ++ Config.sha384 (ws.flatMap fun w => leBytes 8 w.1.toNat ++ leBytes 8 w.2.toNat)

/-- The value type, form (true for raw) and content of measurement block `i`. -/
def State.measure (s : State) (i : Nat) : Nat × Bool × List Byte :=
  let dig (b : List Byte) : List Byte := Config.sha384 b
  match i with
  | 1 => (0, false, dig Config.bootRom)
  | 2 => (1, false, dig (s.image.take (s.image.length - 2888)))
  | 3 => (6, true, leBytes 2 s.sec.fwSvn ++ leBytes 2 s.vault.minSvn)
  | 4 => (2, true, (List.range 27).flatMap fun j => leBytes 8 (s.dieInv j).toNat)
  | 5 => (1, false, dig ((List.range 8).flatMap fun b => Config.microcode (s.die (1 + b)).ucode))
  | 6 => (3, true, leBytes 8 s.tt.gen ++ (s.tt.digest ++ List.replicate 64 0).take 64)
  | 7 => (3, true, s.nvm.ownerHash.getD (List.replicate 64 0))
  | 8 => (3, false, dig ((List.range 8).flatMap fun j =>
      let p := s.packAt j
      if p = [] then List.replicate 64 0 else (p.drop (64 + packField p 0x10 4)).take 64))
  | _ => (3, true, s.lineRecord (i - 9))

/-- A measurement block as SPDM carries it. -/
def State.measureBlock (s : State) (i : Nat) : List Byte :=
  let (ty, raw, v) := s.measure i
  let ty := ty + if raw then 128 else 0
  leBytes 1 i ++ leBytes 1 1 ++ leBytes 2 (v.length + 3) ++ leBytes 1 ty ++ leBytes 2 v.length ++ v

/-! SPDM (R484). -/

/-- The number of a transport. -/
def transportNo : Transport → Nat
  | .bus => 0 | .vdm => 1 | .doe => 2

def State.spdmConn (s : State) (t : Nat) : SpdmConn := tblGet {} s.spdm t
def State.modSpdm (s : State) (t : Nat) (f : SpdmConn → SpdmConn) : State := { s with spdm := tblMod {} s.spdm t f }

/-- Requests are served: the firmware runs, and a transport of the host port needs the host attached (R519, R545). -/
def State.spdmServed (s : State) (t : Nat) : Bool :=
  s.boot.powered && !s.boot.stage.stopped && s.boot.stage != .alwaysOn && s.boot.stage != .image && (t == 0 || s.host.attached)

/-- A byte of a message. -/
def msgByte (m : List Byte) (i : Nat) : Nat := (m.getD i 0).toNat

/-- Hands a message to a transport; one on the management bus awaits collection (R517, R518). -/
def State.spdmOut (s : State) (t : Nat) (m : List Byte) : State :=
  let s := s.emit (.spdm t m)
  if t = 0 then s.attend else s

/-- Sends a response. One longer than the requester's DataTransferSize is kept for CHUNK_GET and announced by the ERROR
LargeResponse. -/
def State.spdmSend (s : State) (t code p1 p2 : Nat) (tail : List Byte) : State :=
  let c := s.spdmConn t
  let ver := if c.version = 0 then 0x10 else c.version
  let m := leBytes 1 ver ++ leBytes 1 code ++ leBytes 1 p1 ++ leBytes 1 p2 ++ tail
  if c.size ≠ 0 ∧ c.size < m.length then
    let h := (c.handle + 1) % 256
    (s.modSpdm t fun c => { c with large := m, largeSeq := 0, handle := h }).spdmOut t
      (leBytes 1 ver ++ leBytes 1 0x7F ++ leBytes 1 0x0F ++ leBytes 1 0 ++ leBytes 1 h)
  else s.spdmOut t m

/-- An ERROR response: 1 InvalidRequest, 4 UnexpectedRequest, 5 Unspecified, 6 DecryptError, 0x0A SessionLimitExceeded,
0x0B SessionRequired, 0x41 VersionMismatch. -/
def State.spdmError (s : State) (t code : Nat) : State := s.spdmSend t 0x7F code 0 []

/-- Runs a request that needs negotiation to have ended. -/
def State.spdmReady (s : State) (t : Nat) (m : List Byte) (f : State → State) : State :=
  let c := s.spdmConn t
  if !s.spdmServed t then s
  else if !c.algos then s.spdmError t 4
  else if msgByte m 0 ≠ c.version then s.spdmError t 0x41
  else f s

/-- A request is answered with a signature where the identity key has a leaf left: CHALLENGE, signed GET_MEASUREMENTS and
KEY_EXCHANGE on slot 0 (R479). -/
def State.spdmSigns (s : State) (t : Nat) (m : List Byte) : Bool :=
  let c := s.spdmConn t
  s.spdmServed t && c.algos && msgByte m 0 == c.version && s.vault.canSign &&
  (match msgByte m 1 with
   | 0x83 => msgByte m 2 == 0
   | 0xE0 => bit (msgByte m 2) 0 && (msgByte m 3 == 0 || msgByte m 3 == 255 || decide (msgByte m 3 ≤ 16))
   | 0xE4 => msgByte m 3 == 0 && decide (s.sessions.length < 4)
   | _ => false)

/-- GET_VERSION: the connection begins anew. -/
def State.spdmVersion (s : State) (t : Nat) : State :=
  if !s.spdmServed t then s
  else ({ s with spdm := tblErase s.spdm t }).spdmSend t 4 0 0 (leBytes 2 0x0200 ++ leBytes 2 0x1200 ++ leBytes 2 0x1300)

/-- GET_CAPABILITIES: the requester names version 1.2 or 1.3. -/
def State.spdmCaps (s : State) (t : Nat) (m : List Byte) : State :=
  let v := msgByte m 0
  if !s.spdmServed t then s
  else if v ≠ 0x12 ∧ v ≠ 0x13 then s.spdmError t 0x41
  else
    let s := s.modSpdm t fun c => { c with version := v, caps := true, algos := false, size := fieldAt m 12 4 }
    let (rest, s) := s.freeBytes 16
    s.spdmSend t 0x61 0 0 rest

/-- NEGOTIATE_ALGORITHMS: a requester that offers no extended asymmetric algorithm is refused. -/
def State.spdmAlgos (s : State) (t : Nat) (m : List Byte) : State :=
  let c := s.spdmConn t
  if !s.spdmServed t then s
  else if !c.caps then s.spdmError t 4
  else if msgByte m 0 ≠ c.version then s.spdmError t 0x41
  else if msgByte m 28 = 0 then s.spdmError t 1
  else
    let s := s.modSpdm t fun c => { c with algos := true }
    let (rest, s) := s.freeBytes 48
    s.spdmSend t 0x63 0 0 rest

/-- GET_DIGESTS: slot 0 alone is populated. -/
def State.spdmDigests (s : State) (t : Nat) (m : List Byte) : State :=
  s.spdmReady t m fun s => s.spdmSend t 1 1 1 (Config.sha384 Config.certChain)

/-- GET_CERTIFICATE: a portion of the chain of slot 0. -/
def State.spdmCert (s : State) (t : Nat) (m : List Byte) : State :=
  s.spdmReady t m fun s =>
    let off := fieldAt m 4 2
    if bits (msgByte m 2) 0 4 ≠ 0 ∨ Config.certChain.length ≤ off then s.spdmError t 1
    else
      let part := (Config.certChain.drop off).take (fieldAt m 6 2)
      s.spdmSend t 2 0 0 (leBytes 2 part.length ++ leBytes 2 (Config.certChain.length - off - part.length) ++ part)

/-- Sends a signed response: what the manual states, then a nonce and the signature, which are free bytes. -/
def State.spdmSigned (s : State) (t code p1 p2 : Nat) (head : List Byte) : State :=
  let (rest, s) := s.freeBytes (32 + 2820)
  s.spdmSend t code p1 p2 (head ++ rest)

/-- CHALLENGE: CHALLENGE_AUTH, signed. -/
def State.spdmChallenge (s : State) (t : Nat) (m : List Byte) : State :=
  s.spdmReady t m fun s =>
    if msgByte m 2 ≠ 0 then s.spdmError t 1
    else if !s.vault.canSign then s.spdmError t 5
    else s.spdmSigned t 3 0 1 (Config.sha384 Config.certChain)

/-- GET_MEASUREMENTS: the number of blocks, one block, or all of them, signed where the request asks for it. -/
def State.spdmMeasure (s : State) (t : Nat) (m : List Byte) : State :=
  s.spdmReady t m fun s =>
    let op := msgByte m 3
    let signed := bit (msgByte m 2) 0
    let blocks := if op = 0 then [] else if op = 255 then (List.range 16).map (· + 1) else [op]
    let body := blocks.flatMap s.measureBlock
    let head := leBytes 1 blocks.length ++ leBytes 3 body.length ++ body
    if 16 < op ∧ op ≠ 255 then s.spdmError t 1
    else if !signed then s.spdmSend t 0x60 (if op = 0 then 16 else 0) 0 head
    else if !s.vault.canSign then s.spdmError t 5
    else s.spdmSigned t 0x60 (if op = 0 then 16 else 0) 0 head

/-- KEY_EXCHANGE: a session begins; at most four are held over all transports. -/
def State.spdmKeyExchange (s : State) (t : Nat) (m : List Byte) : State :=
  s.spdmReady t m fun s =>
    if msgByte m 3 ≠ 0 then s.spdmError t 1
    else if 4 ≤ s.sessions.length then s.spdmError t 0x0A
    else if !s.vault.canSign then s.spdmError t 5
    else
      let rsp := s.free % 2 ^ 16
      let s := s.bump
      let e : SpdmSession := { id := fieldAt m 4 2 + rsp * 2 ^ 16, transport := t }
      let s := { s with sessions := s.sessions ++ [e] }
      s.spdmSigned t 0x64 0 0 (leBytes 2 rsp)

/-- A request inside a session: the message follows the 4-byte session ID of the record that carries it. -/
def State.spdmInSession (s : State) (t : Nat) (m : List Byte) (f : SpdmSession → List Byte → State → State) : State :=
  if !s.spdmServed t then s
  else
    match s.sessions.find? fun e => e.id == fieldAt m 0 4 && e.transport == t with
    | some e => f e (m.drop 4) s
    | none => s.spdmError t 0x0B

/-- Replaces a session. -/
def State.modSession (s : State) (id : Nat) (f : SpdmSession → SpdmSession) : State :=
  { s with sessions := s.sessions.map fun e => if e.id = id then f e else e }

/-- Ends a session. -/
def State.dropSession (s : State) (id : Nat) : State := { s with sessions := s.sessions.filter fun e => e.id != id }

/-- FINISH: the handshake of a session completes where its verify data holds. -/
def State.spdmFinish (s : State) (t : Nat) (m : List Byte) : State :=
  s.spdmInSession t m fun e m s =>
    if e.established then s.spdmError t 4
    else if Config.finishOk e.id m then (s.modSession e.id fun e => { e with established := true }).spdmSend t 0x65 0 0 []
    else (s.dropSession e.id).spdmError t 6

/-- HEARTBEAT. -/
def State.spdmHeartbeat (s : State) (t : Nat) (m : List Byte) : State :=
  s.spdmInSession t m fun e _ s => if e.established then s.spdmSend t 0x68 0 0 [] else s.spdmError t 4

/-- KEY_UPDATE: operations 1 and 2 replace keys, and 3 verifies the new one. -/
def State.spdmKeyUpdate (s : State) (t : Nat) (m : List Byte) : State :=
  s.spdmInSession t m fun e m s =>
    let op := msgByte m 2
    if !e.established then s.spdmError t 4
    else if op = 0 ∨ 3 < op then s.spdmError t 1
    else
      (s.modSession e.id fun e => if op = 3 then e else { e with keyUpdates := e.keyUpdates + 1 }).spdmSend t 0x69 op
        (msgByte m 3) []

/-- END_SESSION. -/
def State.spdmEnd (s : State) (t : Nat) (m : List Byte) : State :=
  s.spdmInSession t m fun e _ s => if e.established then (s.dropSession e.id).spdmSend t 0x6C 0 0 [] else s.spdmError t 4

/-- VENDOR_DEFINED_REQUEST, for IDE_KM and TDISP, inside a session. What the carried message does is its own command. -/
def State.spdmVendor (s : State) (t : Nat) (m : List Byte) : State :=
  s.spdmInSession t m fun e _ s => if e.established then s.spdmSend t 0x7E 0 0 [] else s.spdmError t 4

/-- A request that CHUNK_SEND has brought whole. -/
def State.spdmWhole (s : State) (t : Nat) (m : List Byte) : State :=
  match msgByte m 1 with
  | 0x81 => s.spdmDigests t m
  | 0x82 => s.spdmCert t m
  | 0x83 => s.spdmChallenge t m
  | 0xE0 => s.spdmMeasure t m
  | 0xE3 => s.spdmAlgos t m
  | 0xE4 => s.spdmKeyExchange t m
  | _ => s.spdmError t 4

/-- The request that a CHUNK_SEND completes: its chunk follows a header of 16 bytes in the first and 12 in a later one. -/
def State.chunkWhole (s : State) (t : Nat) (m : List Byte) : Option (List Byte) :=
  let c := s.spdmConn t
  let seq := fieldAt m 4 2
  if s.spdmServed t && c.algos && seq == c.chunkSeq && bit (msgByte m 2) 0 then
    some (c.chunk ++ (m.drop (if seq = 0 then 16 else 12)).take (fieldAt m 8 4))
  else none

/-- CHUNK_SEND. -/
def State.spdmChunkSend (s : State) (t : Nat) (m : List Byte) : State :=
  s.spdmReady t m fun s =>
    let c := s.spdmConn t
    let seq := fieldAt m 4 2
    if seq ≠ c.chunkSeq then (s.modSpdm t fun c => { c with chunk := [], chunkSeq := 0 }).spdmError t 1
    else
      match s.chunkWhole t m with
      | some w =>
        let s := (s.modSpdm t fun c => { c with chunk := [], chunkSeq := 0 }).spdmSend t 5 0 (msgByte m 3) (leBytes 2 seq)
        s.spdmWhole t w
      | none =>
        (s.modSpdm t fun c =>
          { c with chunk := c.chunk ++ (m.drop (if seq = 0 then 16 else 12)).take (fieldAt m 8 4), chunkSeq := seq + 1 }).spdmSend
          t 5 0 (msgByte m 3) (leBytes 2 seq)

/-- CHUNK_GET: the next part of the response that is kept. -/
def State.spdmChunkGet (s : State) (t : Nat) (m : List Byte) : State :=
  s.spdmReady t m fun s =>
    let c := s.spdmConn t
    if c.large = [] ∨ msgByte m 3 ≠ c.handle ∨ fieldAt m 4 2 ≠ c.largeSeq then s.spdmError t 1
    else
      let part := c.large.take (max 1 (c.size - 16))
      let rest := c.large.drop (max 1 (c.size - 16))
      let s := s.modSpdm t fun c => { c with large := rest, largeSeq := c.largeSeq + 1 }
      s.spdmOut t (leBytes 1 c.version ++ leBytes 1 6 ++ leBytes 1 (ofBool (rest = [])) ++ leBytes 1 c.handle
        ++ leBytes 2 c.largeSeq ++ leBytes 2 0 ++ leBytes 4 part.length
        ++ (if c.largeSeq = 0 then leBytes 4 c.large.length else []) ++ part)

/-- The vault after a request: one leaf is used where it is answered with a signature. -/
def State.spdmVault (s : State) (t : Nat) (m : List Byte) : Vault := if s.spdmSigns t m then s.vault.sign else s.vault

/-- The vault after a CHUNK_SEND. -/
def State.chunkVault (s : State) (t : Nat) (m : List Byte) : Vault :=
  match s.chunkWhole t m with
  | some w => if msgByte m 0 = (s.spdmConn t).version then s.spdmVault t w else s.vault
  | none => s.vault

/-! The commands. -/

/-- COMMIT_SVN (R476): a write of SEC_CTL. -/
def execCommitSvn (v : Word) : State → Out := runVaultU (fun s => s.secCommit v) fun s => s.hubWrite (·.writeSecCtl v)
/-- OWNER_REQUEST (R482): a write of SEC_OWNER_CTL. -/
def execOwnerRequest (v : Word) : State → Out := runU fun s => s.hubWrite (·.writeOwnerCtl v)
/-- OWNER_REQUEST_DONE (R482). -/
def execOwnerRequestDone (readOk sigOk : Bool) : State → Out := run fun s => s.ownerDone readOk sigOk
/-- GET_VERSION (R484). -/
def execGetVersion (t : Transport) (_ : List Byte) : State → Out := run fun s => s.spdmVersion (transportNo t)
/-- GET_CAPABILITIES (R484). -/
def execGetCapabilities (t : Transport) (body : List Byte) : State → Out := run fun s => s.spdmCaps (transportNo t) body
/-- NEGOTIATE_ALGORITHMS (R484). -/
def execNegotiateAlgorithms (t : Transport) (body : List Byte) : State → Out :=
  run fun s => s.spdmAlgos (transportNo t) body
/-- GET_DIGESTS (R484). -/
def execGetDigests (t : Transport) (body : List Byte) : State → Out := run fun s => s.spdmDigests (transportNo t) body
/-- GET_CERTIFICATE (R484). -/
def execGetCertificate (t : Transport) (body : List Byte) : State → Out := run fun s => s.spdmCert (transportNo t) body
/-- CHALLENGE (R484). -/
def execChallenge (t : Transport) (body : List Byte) : State → Out :=
  runVault (fun s => if msgByte body 1 = 0x83 then s.spdmVault (transportNo t) body else s.vault)
    fun s => s.spdmChallenge (transportNo t) body
/-- GET_MEASUREMENTS (R485). -/
def execGetMeasurements (t : Transport) (body : List Byte) : State → Out :=
  runVault (fun s => if msgByte body 1 = 0xE0 then s.spdmVault (transportNo t) body else s.vault)
    fun s => s.spdmMeasure (transportNo t) body
/-- KEY_EXCHANGE (R484). -/
def execKeyExchange (t : Transport) (body : List Byte) : State → Out :=
  runVault (fun s => if msgByte body 1 = 0xE4 then s.spdmVault (transportNo t) body else s.vault)
    fun s => s.spdmKeyExchange (transportNo t) body
/-- FINISH (R484). -/
def execFinish (t : Transport) (body : List Byte) : State → Out := run fun s => s.spdmFinish (transportNo t) body
/-- HEARTBEAT (R484). -/
def execHeartbeat (t : Transport) (body : List Byte) : State → Out := run fun s => s.spdmHeartbeat (transportNo t) body
/-- KEY_UPDATE (R484). -/
def execKeyUpdate (t : Transport) (body : List Byte) : State → Out := run fun s => s.spdmKeyUpdate (transportNo t) body
/-- END_SESSION (R484). -/
def execEndSession (t : Transport) (body : List Byte) : State → Out := run fun s => s.spdmEnd (transportNo t) body
/-- CHUNK_SEND (R484). -/
def execChunkSend (t : Transport) (body : List Byte) : State → Out :=
  runVault (fun s => s.chunkVault (transportNo t) body) fun s => s.spdmChunkSend (transportNo t) body
/-- CHUNK_GET (R484). -/
def execChunkGet (t : Transport) (body : List Byte) : State → Out := run fun s => s.spdmChunkGet (transportNo t) body
/-- VENDOR_DEFINED_REQUEST (R484). -/
def execVendorDefinedRequest (t : Transport) (body : List Byte) : State → Out :=
  run fun s => s.spdmVendor (transportNo t) body
/-- DRBG_RESEED (R483). -/
def execDrbgReseed : State → Out := run fun s => s.reseed
/-- RNG_HEALTH_FAIL (R483). -/
def execRngHealthFail : State → Out := run fun s => s.rngFails

end Sys2Proof.Machine
end

