-- ==== Sys2Proof/Machine/Mgmt.lean ====
section
/-!
DEFINITION. Management (20_management_and_logbook.md): the I3C and SMBus port, MCTP and PLDM, firmware and survey updates,
sensors, telemetry rings, and what is read from and noted in the Logbook. Message layouts that the manual leaves to its
standards are PRESUMED from them (notes/assumptions).
-/
namespace Sys2Proof.Machine

/-! The management bus (R516 to R518). -/

/-- The always-on domain has power: the port is served (R516, R576). -/
def State.busOn (s : State) : Bool := s.boot.powered || s.boot.tripped

/-- Changes the port's state, where it is powered. -/
def State.bus (s : State) (f : Mgmt → Mgmt) : State := if s.busOn then { s with mgmt := f s.mgmt } else s

/-- An I3C broadcast command code: the port is an I3C target from then on (R516). -/
def State.i3cBroadcast (s : State) (f : Mgmt → Mgmt) : State := s.bus fun m => f { m with i3c := true }

/-- An I3C command addressed to the module by its dynamic address. -/
def State.i3cDirect (s : State) (f : State → State) : State :=
  if s.busOn && s.mgmt.i3c && s.mgmt.dynAddr.isSome then f s else s

/-- Big-endian bytes, as I3C sends them. -/
def beBytes (k n : Nat) : List Byte := (leBytes k n).reverse

/-- The provisioned ID (R517). -/
def provisionedId : Nat := 0x1D3 * 2 ^ 33 + 2 ^ 32 + hubId % 2 ^ 32

/-- Answers an I3C read. -/
def State.i3cAnswer (s : State) (d : List Byte) : State := s.i3cDirect fun s => s.emit (.bus d)

/-- Answers an I3C read with bytes that the manual does not state. -/
def State.i3cAnswerFree (s : State) (k : Nat) : State :=
  s.i3cDirect fun s =>
    let (d, s) := s.freeBytes k
    s.emit (.bus d)

/-- The port after a bus-level I3C target reset (R516): an SMBus target again. -/
def Mgmt.targetReset (m : Mgmt) : Mgmt := { m with i3c := false, dynAddr := none, events := 1 }

/-- SMBus ARP (R518). The address is 0x52 until ARP assigns another. -/
def State.arp (s : State) (c : ArpCmd) : State :=
  if !s.busOn || s.mgmt.i3c then s
  else
    match c with
    | .prepare => { s with mgmt := { s.mgmt with arpDone := false } }
    | .reset => { s with mgmt := { s.mgmt with arpDone := false, smbusAddr := 0x52 } }
    | .getUdid =>
      if s.mgmt.arpDone then s
      else
        let (d, s) := s.freeBytes 12
        s.emit (.bus (d ++ beBytes 4 (hubId % 2 ^ 32) ++ leBytes 1 (s.mgmt.smbusAddr * 2)))
    | .assign a mine => if mine then { s with mgmt := { s.mgmt with arpDone := true, smbusAddr := a } } else s

/-! MCTP and PLDM (R519 to R522). -/

/-- MCTP control messages and LOG_READ are served on a binding: 0 the management bus, 1 PCIe VDM (R519, R545). -/
def State.mctpServed (s : State) (binding : Nat) : Bool :=
  if binding = 0 then s.busOn else s.host.attached && s.boot.powered && !s.boot.stage.stopped

/-- PLDM is served: the firmware runs. -/
def State.pldmServed (s : State) (binding : Nat) : Bool :=
  s.mctpServed binding && s.boot.powered && !s.boot.stage.stopped && s.boot.stage != .alwaysOn && s.boot.stage != .image

/-- A PLDM response: its completion code and what follows. -/
def State.pldmAnswer (s : State) (binding code : Nat) (tail : List Byte) : State :=
  s.mctpSend binding 1 (leBytes 1 code ++ tail)

/-- Set Endpoint ID: the EIDs 0 and 255 are refused. -/
def State.setEid (s : State) (binding eid : Nat) : State :=
  if !s.mctpServed binding then s
  else if eid = 0 ∨ eid = 255 then s.mctpSend binding 0 (leBytes 1 2)
  else
    ({ s with mgmt := { s.mgmt with eids := tblSet 0 s.mgmt.eids binding eid } }).mctpSend binding 0
      (leBytes 1 0 ++ leBytes 1 0 ++ leBytes 1 eid ++ leBytes 1 0)

/-- SetEventReceiver: byte 0 of the request enables events, or ends them with 0. -/
def State.setReceiver (s : State) (binding : Nat) (m : List Byte) : State :=
  let on := (m.getD 0 0).toNat
  if !s.pldmServed binding then s
  else if 3 < on then s.pldmAnswer binding 0x80 []
  else
    ({ s with pldm := { s.pldm with receiver := if on = 0 then none else some binding } }).pldmAnswer binding 0 []

/-- PollForPlatformEventMessage: the oldest queued event, or an event ID of 0. -/
def State.pollEvent (s : State) (binding : Nat) : State :=
  if !s.pldmServed binding then s
  else
    match s.pldm.events with
    | [] => s.pldmAnswer binding 0 (leBytes 1 0 ++ leBytes 2 0)
    | e :: r =>
      ({ s with pldm := { s.pldm with events := r, lost := 0 } }).pldmAnswer binding 0
        (leBytes 1 0 ++ leBytes 2 1 ++ leBytes 1 e.kind ++ leBytes 8 e.a ++ leBytes 8 e.b ++ leBytes 2 s.pldm.lost)

/-! Firmware images (R475, R537, R538). -/

/-- The component entries of an image, as two words each. -/
def fwEntries (img : List Byte) : List (Nat × Nat) :=
  (List.range (fieldAt img 0xC 2)).map fun i => (fieldAt img (64 + 16 * i) 8, fieldAt img (64 + 16 * i + 8) 8)

/-- A component entry keeps R538. -/
def fwEntryOk (body : Nat) (e : Nat × Nat) : Bool :=
  let kind := bits e.1 0 8
  let off := bits e.1 32 32
  let len := bits e.2 0 32
  decide (kind ≤ 4) && bits e.1 28 4 == 0 && bits e.2 32 32 == 0 && (kind == 2 || bits e.1 20 8 == 0)
    && decide (off + len ≤ body) && off % 8 == 0 && len % 8 == 0 && (kind != 4 || len == 0)

/-- An image keeps the format of R537 and R538. -/
def fwFormat (img : List Byte) : Bool :=
  let body := fieldAt img 8 4
  let n := fieldAt img 0xC 2
  let es := fwEntries img
  fieldAt img 0 4 == 0x574D465A && fieldAt img 4 2 == 1 && fieldAt img 0xE 2 == 0 && fieldAt img 0x18 40 == 0
    && decide (1 ≤ n ∧ n ≤ 256) && body % 8 == 0 && decide (img.length ≤ 2 ^ 26)
    && img.length == 64 + 16 * n + body + 64 + 2888
    && es.all (fwEntryOk body) && (es.filter fun e => bits e.1 0 8 == 0).length == 1
    && (es.filter fun e => bits e.1 0 8 == 1).length == 1

/-- The verdict on an image: 0, or 2 format, 3 digest, 4 signature, 5 SVN, as HUB_RECOVERY_STATUS.RESULT codes them
(R475, R548). -/
def fwVerdict (minSvn : Nat) (img : List Byte) (sigOk : Bool) : Nat :=
  let stop := 64 + 16 * fieldAt img 0xC 2 + fieldAt img 8 4
  if !fwFormat img then 2
  else if shake256 64 (img.take stop) ≠ (img.drop stop).take 64 then 3
  else if !sigOk then 4
  else if fieldAt img 6 2 < minSvn then 5
  else 0

/-- PLDM is served for a firmware component: in RECOVERY, on the management bus, for component 1 (R545). -/
def State.fwServed (s : State) (binding comp : Nat) : Bool :=
  s.pldmServed binding || (binding == 0 && s.busOn && s.boot.stage == .recovery && comp == 1)

/-- A component is received. A firmware image is verified before any flash write, and a failure is reported at
VerifyComplete; a survey pack occupies the survey block (R522). -/
def State.fwReceive (s : State) (binding comp : Nat) (img : List Byte) (sigOk : Bool) : State :=
  if !s.fwServed binding comp then s
  else if s.pldm.update.isSome ∨ (comp = 1 ∧ s.boot.recovery.isSome) ∨ (comp = 2 ∧ s.survey.isSome) then
    s.pldmAnswer binding 4 []
  else if comp = 1 then
    let c := fwVerdict s.vault.minSvn img sigOk
    let s := s.mctpSend binding 1 (leBytes 1 c)
    if c ≠ 0 then s
    else
      let busy := match s.ttLoad with | some t => decide (t.stage = .persisting) | none => false
      let u : FwUpdate := { comp := 1, image := img, sigOk := sigOk, binding := binding, waiting := busy }
      { s with pldm := { s.pldm with update := some u } }
  else if comp = 2 then
    let u : FwUpdate := { comp := 2, image := img, sigOk := sigOk, binding := binding }
    let o : SurveyOp := { op := 0, addr := 0, len := img.length, slot := 0, pack := some img }
    { s with pldm := { s.pldm with update := some u }, survey := some o }
  else s.pldmAnswer binding 2 []

/-- APPLY_COMPLETE: the flash write of a component ends. -/
def State.applyComplete (s : State) (ok : Bool) : State :=
  match s.pldm.update with
  | none => s
  | some u =>
    if u.waiting || (u.comp == 2 && s.ownerRuns) then s
    else
      let s := { s with pldm := { s.pldm with update := none, pending := s.pldm.pending || (u.comp == 1 && ok) } }
      if u.comp = 2 then
        let s := s.packStore u.image u.sigOk ok
        s.mctpSend u.binding 1 (leBytes 1 (s.fld (hubKey 0x830) 8 8))
      else
        let s := { s with flash := { s.flash with fw := if ok then .programmed u.image else .broken } }
        let s := s.mctpSend u.binding 1 (leBytes 1 (ofBool !ok))
        if ok then s.logEvent 0x0802 0 0 (fieldAt u.image 6 2) 1 else s

/-- ActivateFirmware: reports a pending activation (R522). -/
def State.activateFw (s : State) (binding : Nat) : State :=
  if s.fwServed binding 1 then s.pldmAnswer binding (if s.pldm.pending then 0 else 0x84) [] else s

/-! Sensors (R520, R574, R577). -/

/-- The state of a threshold sensor: 0 normal, 1 warning, 2 critical, 3 fatal; 4 and 5 are the lower warning and
critical thresholds. -/
def State.sensorState (s : State) (id : Nat) (v : Int) : Nat :=
  let up (w c f : Int) : Nat := if f ≤ v then 3 else if c ≤ v then 2 else if w ≤ v then 1 else 0
  if id = 1 then (if 3800 ≤ v then 2 else if (s.power.cap : Int) ≤ v then 1 else 0)
  else if id = 2 then
    (if v ≤ 47000 then 5 else if v ≤ 50000 then 4 else if 60000 ≤ v then 2 else if 58000 ≤ v then 1 else 0)
  else if 0x10 ≤ id ∧ id < 0x18 then up 95 100 110
  else if 0x18 ≤ id ∧ id < 0x1A then up 90 95 105
  else if 0x20 ≤ id ∧ id < 0x30 then up 70 75 85
  else if 0x40 ≤ id ∧ id < 0x60 then up 85 95 105
  else 0

/-- The readings that the module takes from its own state. -/
def State.ownReadings (s : State) : List (Nat × Int) :=
  [(1, (s.power.draw : Int))]
    ++ (List.range 8).map (fun n => (0x60 + n, ((if s.isLeader n then s.lineDraw n else 0 : Nat) : Int)))
    ++ (List.range 8).map (fun n => (0x80 + n, (((s.lnStatus n).field 0 4 : Nat) : Int)))
    ++ [(0x90, ((s.tt.gen % 2 ^ 32 : Nat) : Int)), (0x91, (((s.unitCounts.field 0 16 + s.unitCounts.field 16 16 : Nat)) : Int))]

/-- The die index of a temperature sensor; an LPDDR5X package counts as its basin (R577). -/
def sensorDie (id : Nat) : Nat :=
  if id < 0x18 then id - 0x10 + 1 else if id < 0x20 then id - 0x18 + 9 else if id < 0x40 then id - 0x20 + 11
  else (id - 0x40) / 4 + 1

/-- One reading: it is kept, and a crossing of its thresholds is a platform event (R521). -/
def State.reading (s : State) (e : Nat × Int) : State :=
  let st := s.sensorState e.1 e.2
  let old := tblGet 0 s.pldm.states e.1
  let s := { s with pldm := { s.pldm with
    readings := tblSet 0 s.pldm.readings e.1 e.2, states := tblSet 0 s.pldm.states e.1 st } }
  if st = old then s else s.platformEvent { kind := 0, a := e.1, b := st }

/-- A temperature: it reaches the power block, and for an LPDDR5X package its basin's memory (R238). -/
def State.temperature (s : State) (e : Nat × Int) : State :=
  if (criticalAt e.1).isNone then s
  else
    let s := { s with power := { s.power with temps := tblInsert s.power.temps e.1 e.2 } }
    if e.1 < 0x40 then s
    else
      let b := (e.1 - 0x40) / 4
      (s.modBmem b fun m => { m with temps := tblSet 25 m.temps (e.1 % 4) e.2 }).tempCheck b

/-- HUB_THERMAL.HOT_C and HOT_DIE from the kept temperatures, and THROTTLE (R575, R577). -/
def State.thermal (s : State) : State :=
  let excess := s.power.temps.filterMap fun e => (criticalAt e.1).map fun c => (e.2 - c, sensorDie e.1)
  let hot := excess.foldl (fun h x => if h.1 < x.1 then x else h) (excess.headD (0, 0))
  let th := if s.critical 0 then true else s.power.throttle && s.critical 2
  { s with power := { s.power with hotC := hot.1, hotDie := hot.2, throttle := th } }

/-- SENSOR_REFRESH. -/
def State.sensorRefresh (s : State) (rs : List (Nat × Int)) : State :=
  let s := (rs.foldl State.temperature s).thermal
  (rs ++ s.ownReadings).foldl State.reading s

/-- HUB_THERMAL (R577). -/
def State.hubThermal (s : State) : Word :=
  let p := s.power
  BitVec.ofNat 64 (wrapInt 8 p.hotC + p.hotDie * 2 ^ 8 + ofBool p.throttle * 2 ^ 13 + ofBool (s.flag (hubKey 0x68) 14) * 2 ^ 14
    + p.tripDie * 2 ^ 15)

/-! The Logbook as it is read (R528, R531). -/

/-- The 256 bytes of an entry. -/
def LogEntry.bytes (e : LogEntry) : List Byte :=
  let body := leBytes 8 e.seq ++ leBytes 8 e.time ++ leBytes 4 e.boot ++ leBytes 2 e.code ++ leBytes 1 e.sev
    ++ leBytes 1 e.source ++ leBytes 1 e.lines ++ leBytes 1 (ofBool e.mirrored) ++ leBytes 2 88 ++ leBytes 2 e.svn
    ++ leBytes 2 0 ++ leBytes 8 e.ttGen ++ leBytes 8 e.arg0 ++ leBytes 8 e.arg1 ++ leBytes 8 e.arg2
    ++ e.payload.flatMap (leBytes 8) ++ List.replicate 96 0
  body ++ leBytes 4 (crc32c body) ++ leBytes 4 0

/-- The entries that a LOG_READ request names: its first SEQ, its count of up to 16 and the mirror flag. -/
def State.logSelect (s : State) (first count : Nat) (mirror : Bool) : List LogEntry :=
  let es := (if mirror then s.log.mirror else s.log.entries).reverse.filter fun e => decide (first ≤ e.seq)
  es.take (min count 16)

/-- LOG_READ: the entries are answered in ascending order. -/
def State.logReadMsg (s : State) (binding : Nat) (m : List Byte) : State :=
  if s.mctpServed binding then
    let es := s.logSelect (fieldAt m 0 8) (fieldAt m 8 1) (fieldAt m 9 1 % 2 == 1)
    s.mctpSend binding 0x7F (leBytes 1 0 ++ leBytes 1 es.length ++ es.flatMap LogEntry.bytes)
  else s

/-- REPEAT_FLUSH: one REPEAT entry for every second that has ended (R530 step 3). -/
def State.repeatFlush (s : State) : State :=
  let (due, rest) := s.log.pendingRepeats.partition fun c => decide (c.since + 1000000000 ≤ s.time)
  due.foldl (fun s c => s.commitEntry (s.newEntry 0x0001 c.source 0 c.code c.count 0))
    { s with log := { s.log with pendingRepeats := rest } }

/-! The commands. -/

/-- ENTDAA (R517): the module takes part while it has no dynamic address. -/
def execEntdaa (addr : Fin 128) : State → Out :=
  run fun s => s.i3cBroadcast fun m => { m with dynAddr := m.dynAddr.or (some addr.val) }
/-- SETDASA (R517): from static address 0x52, while it has no dynamic address. -/
def execSetdasa (addr : Fin 128) : State → Out :=
  run fun s => s.i3cBroadcast fun m => { m with dynAddr := m.dynAddr.or (some addr.val) }
/-- RSTDAA (R517). -/
def execRstdaa : State → Out := run fun s => s.i3cBroadcast fun m => { m with dynAddr := none }
/-- SETNEWDA (R517). -/
def execSetnewda (addr : Fin 128) : State → Out :=
  run fun s => s.i3cDirect fun s => s.bus fun m => { m with dynAddr := some addr.val }
/-- ENEC (R517). -/
def execEnec (mask : Byte) : State → Out := run fun s => s.i3cBroadcast fun m => { m with events := m.events ||| mask.toNat }
/-- DISEC (R517). -/
def execDisec (mask : Byte) : State → Out :=
  run fun s => s.i3cBroadcast fun m => { m with events := m.events &&& (255 - mask.toNat) }
/-- GETPID (R517). -/
def execGetpid : State → Out := run fun s => s.i3cAnswer (beBytes 6 provisionedId)
/-- GETBCR (R517). -/
def execGetbcr : State → Out := run fun s => s.i3cAnswer (leBytes 1 0x26)
/-- GETDCR (R517). -/
def execGetdcr : State → Out := run fun s => s.i3cAnswer (leBytes 1 0)
/-- GETSTATUS (R517). -/
def execGetstatus : State → Out := run fun s => s.i3cAnswerFree 2
/-- GETMWL (R517). -/
def execGetmwl : State → Out := run fun s => s.i3cAnswer (beBytes 2 s.mgmt.mwl)
/-- GETMRL (R517). -/
def execGetmrl : State → Out := run fun s => s.i3cAnswer (beBytes 2 s.mgmt.mrl)
/-- SETMWL (R517). -/
def execSetmwl (len : Nat) : State → Out := run fun s => s.i3cBroadcast fun m => { m with mwl := len % 2 ^ 16 }
/-- SETMRL (R517). -/
def execSetmrl (len : Nat) : State → Out := run fun s => s.i3cBroadcast fun m => { m with mrl := len % 2 ^ 16 }
/-- GETCAPS (R517). -/
def execGetcaps : State → Out := run fun s => s.i3cAnswerFree 4
/-- SMBUS_ARP (R518). -/
def execSmbusArp (cmd : ArpCmd) : State → Out := run fun s => s.arp cmd
/-- SET_ENDPOINT_ID (R519). -/
def execSetEndpointId (binding : Fin 2) (eid : Byte) : State → Out := run fun s => s.setEid binding eid.toNat
/-- SET_EVENT_RECEIVER (R521). -/
def execSetEventReceiver (binding : Fin 2) (body : List Byte) : State → Out := run fun s => s.setReceiver binding body
/-- POLL_FOR_PLATFORM_EVENT_MESSAGE (R521). -/
def execPollForPlatformEventMessage (binding : Fin 2) (_body : List Byte) : State → Out := run fun s => s.pollEvent binding
/-- FIRMWARE_UPDATE_COMPONENT (R522). -/
def execFirmwareUpdateComponent (binding : Fin 2) (comp : Nat) (image : List Byte) (sigOk : Bool) : State → Out :=
  run fun s => s.fwReceive binding comp image sigOk
/-- ACTIVATE_FIRMWARE (R522). -/
def execActivateFirmware (binding : Fin 2) : State → Out := run fun s => s.activateFw binding
/-- APPLY_COMPLETE (R522). -/
def execApplyComplete (ok : Bool) : State → Out := run fun s => s.applyComplete ok
/-- LOG_READ (R531). -/
def execLogRead (binding : Fin 2) (body : List Byte) : State → Out := run fun s => s.logReadMsg binding body
/-- SENSOR_REFRESH (R520). -/
def execSensorRefresh (readings : List (Nat × Int)) : State → Out := run fun s => s.sensorRefresh readings
/-- REPEAT_FLUSH (R530). -/
def execRepeatFlush : State → Out := run State.repeatFlush
/-- LOG_NOTE (R531). -/
def execLogNote (v : Word) : State → Out := run fun s => s.hubWrite fun s => s.logEvent 0x0104 0x20 0 v.toNat 0
/-- LOG_WALL (R531). -/
def execLogWall (v : Word) : State → Out := run fun s => s.hubWrite fun s => s.logEvent 0x0103 0x20 0 v.toNat 0

end Sys2Proof.Machine
end

