-- ==== Sys2Proof/Machine/Boot.lean ====
section
/-!
DEFINITION. Reset and bring-up (21_bringup.md) and the module's edges (23_module.md): module resets, the boot order, halts
and recovery, power, the thermal trip, the clock of device time, the failover of signal boxes and the offline test (R461).
-/
namespace Sys2Proof.Machine

/-! Reset (R533 to R535). -/

/-- The registers that no module reset clears: those of the always-on domain, the security block's, and the record of
repairs and substitutions (R221, R234, R533, R577). -/
def keptReg (k : Nat) : Bool :=
  let off := k % 2 ^ 28
  if k / 2 ^ 28 = 0 then
    off == 0x68 || decide (0x02000000 ≤ off ∧ off < 0x02001000) || decide (0x03000000 ≤ off ∧ off < 0x03000040)
  else decide (16 ≤ k / 2 ^ 28) && off == 0xC00048

/-- What a basin's memory keeps: substitutions, pending repairs, and the temperatures, which are the devices'. -/
def BasinMem.kept (m : BasinMem) : BasinMem := { spares := m.spares, pprQueue := m.pprQueue, temps := m.temps }

/-- The flash after a reset or a loss of power: a firmware region that was being written is broken (R550), and the slot of
an image whose write is cut fails its digest (R78). -/
def State.flashCut (s : State) : Flash :=
  let f := if s.fwWriting || s.boot.recovery.isSome then { s.flash with fw := .broken } else s.flash
  match s.ttLoad with
  | some t =>
    if t.stage ≠ .persisting || s.fwWriting then f
    else if s.flag (ttKey 8) 5 then { f with slotA := breakImage t.image }
    else { f with slotB := breakImage t.image }
  | none => f

/-- Health records as a module reset leaves them: a fault that an apply has deferred is met by the next boot. -/
def State.healthCut (s : State) : Tbl Health :=
  (s.health.filter fun e => e.2.deferred).foldl (fun t e => tblSet {} t e.1 { e.2 with deferred := false }) s.health

/-- The registers of the always-on domain and the substitution flags of R221, as they stay. -/
def State.keptRegs (s : State) : Tbl Word :=
  let noSpare := (List.range 8).filter fun b => s.flag (rsvKey b 0) 10
  noSpare.foldl (fun t b => tblSet 0 t (rsvKey b 0) (BitVec.ofNat 64 (2 ^ 10))) (s.regs.filter fun e => keptReg e.1)

/-- The module domain is reset (R533, R535): memory contents, keys, queues, contexts and registers go; what R535 names, the
always-on domain, hub non-volatile memory, the Logbook and the flash stay. -/
def State.clearModule (s : State) : State :=
  { pending := s.pending, time := s.time, vault := s.vault, freeCtr := s.freeCtr, misuse := s.misuse
    regs := s.keptRegs, out := s.out, hostMem := s.hostMem, hostPoison := s.hostPoison
    basinMem := s.basinMem.map fun (e : Nat × BasinMem) => (e.1, e.2.kept)
    health := s.healthCut, flash := s.flashCut, nvm := s.nvm
    sec := { s.sec with ownerOp := none, railSigned := false, fwSvn := 0 }
    boot := { powered := s.boot.powered, tripped := s.boot.tripped, cause := s.boot.cause, startTime := s.time, stepAt := s.time }
    mgmt := s.mgmt
    pldm := { s.pldm with update := none, pending := false }
    log := s.log
    power := { temps := s.power.temps, hotC := s.power.hotC, hotDie := s.power.hotDie, tripDie := s.power.tripDie,
               throttle := s.power.throttle, rideThrough := s.power.rideThrough, rideFrom := s.power.rideFrom } }

/-- A module reset by an input of R534. A trip ends with it (R576). -/
def State.moduleReset (s : State) (cause : Nat) : State :=
  if !s.busOn then s
  else
    let s := s.when s.boot.tripped (·.emit (.pin "THERM_TRIP#" true))
    let s := s.clearModule
    { s with boot := { s.boot with powered := true, tripped := false, cause := cause } }

/-- Power is removed from every domain (R567). -/
def State.powerOff (s : State) : State :=
  let s := s.clearModule
  { s with boot := { s.boot with powered := false, tripped := false, cause := 0 }, power := { temps := s.power.temps } }

/-- The always-on domain after a power-on; the Logbook and hub non-volatile memory are in no domain. -/
def State.powerOn (s : State) : State :=
  let t := s.clearModule
  { t with
    time := 0, regs := t.regs.filter fun e => decide (16 ≤ e.1 / 2 ^ 28)
    nvm := { t.nvm with agedNs := t.nvm.agedNs + s.time }
    sec := {}, mgmt := {}, pldm := {}, power := { temps := s.power.temps }
    boot := { powered := true }
    log := { t.log with since := t.log.next, pendingRepeats := [] } }

/-! Boot (R536 to R544). -/

/-- Boot stops with a code (R544). -/
def State.halt (s : State) (code die : Nat) (stage : Stage) : State :=
  { s with boot := { s.boot with running := false, stage := stage, halt := code, die := die } }.logEvent 0x0102 die 0 code die

/-- The next step begins. -/
def State.nextStage (s : State) (st : Stage) : State := { s with boot := { s.boot with stage := st, stepAt := s.time } }

/-- Boot can begin: after a reset, with power. -/
def State.bootReady (s : State) : Bool := s.boot.powered && !s.boot.running && s.boot.stage == .alwaysOn

/-- BOOT: the boot number rises, a new block of SEQ values begins, and the BOOT entry is written (R530, R534). -/
def State.bootBegin (s : State) : State :=
  if s.bootReady then
    let s := { s with
      boot := { s.boot with running := true, startTime := s.time, stepAt := s.time }
      nvm := { s.nvm with bootCount := s.nvm.bootCount + 1 }
      log := { s.log with next := max s.log.next s.nvm.logReserved } }
    s.logEvent 0x0100 0 0 s.boot.cause 0
  else s

/-- Step 1 (R477, R483, R576): it does not end while a die lies at its critical threshold. The identity key signs the rail
key. -/
def State.stepAlwaysOn (s : State) (r : BootResult) : State :=
  if s.critical 0 then s
  else if !r.nvmOk then s.halt 0x12 0 .halted
  else if !r.rngOk then s.halt 0x10 0 .halted
  else if !r.idOk then s.halt 0x11 0 .halted
  else
    { s with sec := { s.sec with rngFail := false, reseedAt := s.time, railSigned := s.vault.canSign } }.nextStage .image

/-- The verdict on the firmware region and its SVN (R475, R544, R550). The image that the module is built with is accepted
and has SVN 0 (DESIGN CHOICE; notes/assumptions). -/
def State.fwCheck (s : State) (badFormat : Bool) : Nat × Nat :=
  match s.flash.fw with
  | .factory => (if 0 < s.vault.minSvn then 5 else 0, 0)
  | .programmed img => (fwVerdict s.vault.minSvn img true, fieldAt img 6 2)
  | .broken => (if badFormat then 2 else 3, 0)

/-- Step 2. -/
def State.stepImage (s : State) (r : BootResult) : State :=
  if !r.flashOk then s.halt 0x20 0 .halted
  else
    let (c, svn) := s.fwCheck r.badFormat
    if c ≠ 0 then s.halt (0x1F + c) 0 .recovery
    else { s with sec := { s.sec with fwSvn := svn } }.nextStage .inventory

/-- The image lists a die's type and revision as supported (R438, R538). -/
def State.fwSupports (s : State) (d : Die) : Bool :=
  match s.flash.fw with
  | .programmed img =>
    (fwEntries img).any fun e => bits e.1 0 8 == 4 && bits e.1 8 4 == d.type && bits e.1 12 8 == d.rev
  | _ => true

/-- The grid microcode that a basin runs: the higher of its ROM level and the image's level for its revision (R436). -/
def State.microLevel (s : State) (d : Die) : Nat :=
  match s.flash.fw with
  | .programmed img =>
    (fwEntries img).foldl (fun m e => if bits e.1 0 8 = 2 ∧ bits e.1 12 8 = d.rev then max m (bits e.1 20 8) else m) d.ucode
  | _ => d.ucode

/-- The inventory of a die (R436 steps 1 and 2). -/
def State.invDie (s : State) (i : Nat) : Option DieRom → Die
  | none => { st := .absent }
  | some r =>
    let d : Die := { type := r.type, rev := r.rev, spurMin := r.spurMin, spurMax := r.spurMax, coh := r.coh, rail := r.rail,
                     ucode := r.ucode, seat := r.seat, hubMin := r.hubMin }
    if 1 ≤ i ∧ i ≤ 8 then { d with ucode := s.microLevel d } else d

/-- A present die sits where its seat code does not place it (R434, R435, R438). -/
def State.seatWrong (s : State) (i : Nat) : Bool :=
  let d := s.die i
  d.st == .ok && ((decide (1 ≤ i ∧ i ≤ 8) && d.seat % 8 != i - 1) || (decide (9 ≤ i ∧ i ≤ 10) && d.seat % 2 != i - 9))

/-- The first halt check of R438 that fails, with its die. -/
def State.haltCheck (s : State) : Option (Nat × Nat) :=
  let dies := (List.range 27).filter fun i => (s.die i).st == .ok
  let find (code : Nat) (p : Nat → Bool) : Option (Nat × Nat) := (dies.find? p).map fun i => (code, i)
  (find 0x40 s.seatWrong).orElse fun _ =>
    (find 0x41 fun i => decide ((s.die 0).rev < (s.die i).hubMin)).orElse fun _ =>
      (find 0x42 fun i => !s.fwSupports (s.die i)).orElse fun _ =>
        find 0x43 fun i => decide (1 ≤ i ∧ i ≤ 10) && (s.spurVersion (i - 1)).isNone

/-- Step 3 (R436, R438). -/
def State.stepInventory (s : State) (r : BootResult) : State :=
  let ds := (List.range 27).map fun i => (i, s.invDie i ((r.roms[i]?).getD none))
  let s := { s with dies := ds.foldl (fun t (e : Nat × Die) => tblSet {} t e.1 e.2) [] }
  match s.haltCheck with
  | some (c, i) => s.halt c i .halted
  | none => s.nextStage .spurs

/-- Trains one spur at boot. A spur whose end is absent stays OFF. -/
def State.bootSpur (s : State) (failed : List Nat) (p : Nat) : State :=
  if (s.die (spurEnds p).1).st = .absent ∨ (s.die (spurEnds p).2).st = .absent then s
  else
    let s := (s.modSpur p fun _ =>
      { ver := (s.spurVersion p).getD 0, ab := s.spurLayout p .fwd, ba := s.spurLayout p .rev }).countFld (spurKey p 8) 32 32 1
    let st := s.spurTrained p
    let st := if st ≠ .refused ∧ failed.contains p then .failed else st
    let s := s.modSpur p fun q => { q with st := st }
    s.when (st == .failed) (·.logEvent 0x0601 (spurEnds p).1 0 p 4)

/-- The dies that faults of the inventory take out (R439). -/
def State.settleDies (s : State) : State :=
  let bad (p : Nat) : Bool := decide ((s.spur p).st = .failed ∨ (s.spur p).st = .refused)
  let s := s.each [0, 1] fun s d =>
    if (s.die (9 + d)).st = .ok ∧ bad (8 + d) then s.modDie (9 + d) fun x => { x with st := .failed } else s
  s.each (List.range 8) fun s b =>
    if (s.die (1 + b)).st ≠ .ok then s
    else if bad b then s.modDie (1 + b) fun x => { x with st := .failed }
    else if bad (18 + b) || (s.die (9 + b / 4)).st != .ok then s.modDie (1 + b) fun x => { x with st := .excluded }
    else s

/-- The ports of a basin (R434). -/
inductive BasinPort where
  | core | ringEast | hub | ringWest
deriving DecidableEq, Repr

/-- The logical port that physical port `k` of a basin serves, by its seat code: SEAT in bits [2:0], ROT in bit 3, MIRROR in
bit 4 (R433, R434). -/
def basinPort (code k : Nat) : BasinPort :=
  let turned := bit code 2 != bit code 3
  let east := bit code 4 == turned
  match k with
  | 0 => if turned then .hub else .core
  | 1 => if east then .ringEast else .ringWest
  | 2 => if turned then .core else .hub
  | _ => if east then .ringWest else .ringEast

/-- The basin port that physical port `k` of a core die serves (R435). -/
def corePort (code k : Nat) : Nat := if bit code 1 then 3 - k else k

/-- A wire joins other dies or other logical ports than R428 gives its spur. -/
def State.mispaired (s : State) (w : SpurWire) : Bool :=
  let at_ (b k : Nat) : BasinPort := basinPort (s.die (1 + b)).seat k
  let p := w.spur
  (w.dieA, w.dieB) != spurEnds p
  || (if p < 8 then at_ p w.portB != .hub
      else if p < 10 then false
      else if p < 18 then at_ (p - 10) w.portA != .ringEast || at_ ((p - 9) % 8) w.portB != .ringWest
      else at_ (p - 18) w.portA != .core || corePort (s.die (9 + (p - 18) / 4)).seat w.portB != (p - 18) % 4)

/-- Step 4 (R436 step 5, R439). -/
def State.stepSpurs (s : State) (r : BootResult) : State :=
  match r.wires.filter s.mispaired with
  | w :: _ => s.halt 0x40 w.dieB .halted
  | [] => ((s.each (List.range 26) fun s p => s.bootSpur r.spursFailed p).settleDies).nextStage .dies

/-- The basins that are present. -/
def State.present (s : State) : List Nat := (List.range 8).filter fun b => (s.die (1 + b)).st != .absent

/-- Step 5: PLLs run, and V-F records are made. The Reservoir is zero since the reset (R231, R507). -/
def State.stepDies (s : State) : State :=
  (s.each s.present fun s b =>
    ((s.modBpow b fun p => { p with pll := true }).bootRail b false).bootRail b true).nextStage .lpddr

/-- Repairs of a channel that were pending are applied or refused (R234, R540). -/
def State.bootRepairs (s : State) (b c : Nat) (refused : Bool) : State :=
  let rows := ((s.bmem b).pprQueue.filter fun e => e.1 == c).map (·.2)
  let s := s.modBmem b fun m => { m with pprQueue := m.pprQueue.filter fun e => e.1 != c }
  s.each rows fun s row =>
    (s.countFld (memKey b 0x48) (if refused then 32 else 16) 16 1).logEvent 0x0404 (1 + b) 0 (32 * b + c) row
      (if refused then 2 else 0)

/-- Trains one channel (R540). A retired channel is a failed one (R456). -/
def State.bootChannel (s : State) (r : BootResult) (b c : Nat) : State :=
  if s.retired (chanHealth b c) then s.setFlag (memKey b 8) (32 + c) true
  else
    let s := s.bootRepairs b c (r.repairsRefused.contains (32 * b + c))
    if r.chansFailed.contains (32 * b + c) then s.failChannel b c else (s.trial b c).makeRecord b c false

/-- Step 6. -/
def State.stepLpddr (s : State) (r : BootResult) : State :=
  (s.each s.present fun s b =>
    (s.each (List.range 32) fun s c => s.bootChannel r b c).modBmem b fun m => { m with selfRefresh := false }).nextStage
    .timetable

/-- Step 8 (R542): the Lines are enabled, their PLLs rest, and the ports in service are REFUSED until the module has a
fabric ID. -/
def State.stepDone (s : State) : State :=
  let us := (s.time - s.boot.startTime) / 1000
  let s := { s with boot := { s.boot with running := false, doneUs := min us 0xFFFFFFFF } }
  let s := s.each (List.range 8) fun s b =>
    (s.modBpow b fun p => { p with pll := false }).modBmem b fun m => { m with selfRefresh := true }
  let s := s.each (List.range 32) fun s p =>
    if s.portInService p then
      s.modPort p fun q => { q with st := .refused, trainResult := 3, tx := s.trainedSide p .fwd, rx := s.trainedSide p .rev }
    else s
  s.logEvent 0x0101 0 0 us 0

/-- BOOT_STEP_DONE: the running step ends (R536). -/
def State.bootStep (s : State) (r : BootResult) : State :=
  if !s.boot.running then s
  else
    match s.boot.stage with
    | .alwaysOn => s.stepAlwaysOn r
    | .image => s.stepImage r
    | .inventory => s.stepInventory r
    | .spurs => s.stepSpurs r
    | .dies => s.stepDies
    | .lpddr => s.stepLpddr r
    | .timetable => s.bootTimetable.nextStage .done
    | .done => s.stepDone
    | .halted | .recovery => s

/-- The vault at the start of boot: NEXT is set to RESERVED (R480). -/
def State.bootVault (s : State) : Vault := if s.bootReady then s.vault.restart else s.vault

/-- The vault after a boot step: the rail key takes one leaf at the end of step 1 (R479). -/
def State.stepVault (s : State) (r : BootResult) : Vault :=
  if s.boot.running && s.boot.stage == .alwaysOn && !s.critical 0 && r.nvmOk && r.rngOk && r.idOk then s.vault.sign
  else s.vault

/-- The limit of a boot step in ns (R536). -/
def stepLimit : Stage → Nat
  | .alwaysOn => 20000000 | .image => 200000000 | .inventory => 300000000 | .spurs => 6000000 | .dies => 20000000
  | .lpddr => 500000000 | .timetable => 1500000000 | .done => 1000000
  | .halted | .recovery => 0

/-- STEP_TIMEOUT: a step has overrun its limit. DIE names the die awaited, which is a free value, or the hottest die where
step 1 has waited for it (R536, R544, R576). -/
def State.stepTimeout (s : State) : State :=
  if s.boot.running && decide (s.boot.stepAt + stepLimit s.boot.stage < s.time) then
    if s.boot.stage = .alwaysOn ∧ s.critical 0 then s.halt 0x13 s.power.hotDie .halted
    else s.bump.halt 0x13 (s.free % 27) .halted
  else s

/-- HUB_BOOT_STATUS (R546). -/
def State.bootStatus (s : State) : Word :=
  let b := s.boot
  let st := match b.stage with
    | .alwaysOn => 0 | .image => 1 | .inventory => 2 | .spurs => 3 | .dies => 4 | .lpddr => 5 | .timetable => 6
    | .done => 7 | .halted => 8 | .recovery => 9
  BitVec.ofNat 64 (st + b.halt * 2 ^ 8 + b.die * 2 ^ 16 + b.cause * 2 ^ 21 + b.doneUs * 2 ^ 32)

/-! HUB_RESET and recovery (R547 to R549). -/

/-- A write of HUB_RESET, served in every stage. -/
def State.writeHubReset (s : State) (v : Word) : State :=
  if !(s.host.attached && s.boot.powered) then s
  else
    let s := s.undefIf (v.field 9 55 != 0) .reservedWrite
    if v.flag 8 && v.field 0 8 == 0xA5 then s.moduleReset 2 else s

/-- RESULT of HUB_RECOVERY_STATUS; the write ends. -/
def State.recoveryEnd (s : State) (r : Nat) : State :=
  { s with boot := { s.boot with recovery := none } }.setFld (hubKey 0x30) 8 8 r

/-- The recovery registers are served. -/
def State.recoveryServed (s : State) : Bool := s.host.attached && s.boot.powered && s.boot.stage == .recovery

/-- A write of HUB_RECOVERY_CTL. -/
def State.writeRecovery (s : State) (v : Word) : State :=
  if !s.recoveryServed then s
  else
    let s := (s.undefIf (v.field 28 36 != 0) .reservedWrite).setReg (hubKey 0x28) (BitVec.ofNat 64 (v.field 0 27))
    let addr := (s.reg (hubKey 0x20)).toNat
    let len := v.field 0 27
    if !v.flag 27 then s
    else if s.boot.recovery.isSome || s.pldm.update.isSome then s.setFlag (hubKey 0x30) 1 true
    else if addr % 8 ≠ 0 ∨ len < 8 ∨ 0x4000000 < len then s.recoveryEnd 1
    else { s with boot := { s.boot with recovery := some { addr := addr, len := len } } }

/-- RECOVERY_WRITE_DONE: the image is read and verified, programmed and read back (R549). -/
def State.recoveryDone (s : State) (readOk sigOk flashOk : Bool) : State :=
  match s.boot.recovery with
  | none => s
  | some o =>
    let dirty := (pieces o.addr o.len).any fun p => tblGet false s.hostPoison (p.1 / 64)
    if !readOk || !s.host.attached || dirty then s.recoveryEnd 1
    else
      let img := memBytes s.hostMem o.addr o.len
      let c := fwVerdict s.vault.minSvn img sigOk
      if c ≠ 0 then s.recoveryEnd c
      else
        let s := (s.recoveryEnd (if flashOk then 0 else 6)).setFld (hubKey 0x30) 16 32 (o.len / 1024)
        let s := { s with flash := { s.flash with fw := if flashOk then .programmed img else .broken } }
        if flashOk then (s.logEvent 0x0802 0 0 (fieldAt img 6 2) 1).moduleReset 6 else s

/-! The module's edges (R566 to R577). -/

/-- RIDE_THROUGH: the input enters the ride-through range (R568). -/
def State.rideBegin (s : State) : State :=
  if !s.busOn || s.power.rideThrough then s
  else { s with power := { s.power with rideThrough := true, rideFrom := s.time } }.when s.boot.powered (·.fastLimiter)

/-- RIDE_THROUGH_EXPIRY: more than 10 ms in the range (R567). -/
def State.rideExpiry (s : State) : State :=
  if s.power.rideThrough && decide (s.power.rideFrom + 10000000 < s.time) then s.powerOff else s

/-- RIDE_THROUGH_END: the input is above 50 V again. -/
def State.rideEnd (s : State) : State := { s with power := { s.power with rideThrough := false } }

/-- THERMAL_TRIP: power is removed from every domain but the always-on one (R576, R577). -/
def State.thermalTrip (s : State) (die : Nat) : State :=
  if !s.boot.powered || 27 ≤ die then s
  else
    let s := (s.detach 1).clearModule
    let s := { s with boot := { s.boot with powered := false, tripped := true }, power := { s.power with tripDie := die } }
    (s.setFlag (hubKey 0x68) 14 true).emit (.pin "THERM_TRIP#" false)

/-- SIGNAL_BOX_FAILOVER after DONE: signal box 1 serves, with a new block of SEQ values (R527, R532). -/
def State.canFailover (s : State) : Bool :=
  s.boot.powered && s.boot.stage == .done && !s.boot.running && s.log.writer == 0

def State.failover (s : State) : State :=
  if s.canFailover then { s with log := { s.log with writer := 1, next := max s.log.next s.nvm.logReserved } } else s

/-- The vault after a failover: NEXT is set to RESERVED (R480). -/
def State.failoverVault (s : State) : Vault := if s.canFailover then s.vault.restart else s.vault

/-- OFFLINE_TEST: a write of HUB_OFFLINE_TEST. The results that it logs are free values (R461). -/
def State.offlineTest (s : State) (v : Word) : State :=
  let s := s.undefIf (v.field 2 62 != 0) .reservedWrite
  let s := s.setReg (hubKey 0x838) (BitVec.ofNat 64 (ofBool (v.flag 1) * 2))
  let calm := (List.range 8).all fun l =>
    !s.isLeader l || decide ((s.line l).st = .off ∨ (s.line l).st = .stopped ∨ (s.line l).st = .failed)
  if !v.flag 0 || !calm then s
  else
    let s := s.detach 1
    let a := s.free % 2 ^ 64
    let s := s.bump
    let b := s.free % 2 ^ 64
    (s.bump.logEvent 0x0500 0 0 a b).moduleReset 5

/-- What a crystal edge shows each Line of its own idleness (R239, R497). -/
def State.crystalEdge (s : State) : State :=
  (({ s with time := s.time + 40 }).each (List.range 8) State.noteIdle).keeping s

/-! The commands. -/

/-- POWER_ON (R567): device time begins at 0. -/
def execPowerOn (s : State) : Out :=
  if s.busOn then .next s
  else .next { s.powerOn with pending := s.pending, vault := s.vault, misuse := s.misuse }
/-- MOD_RST (R534). -/
def execModRst : State → Out := run fun s => s.moduleReset 1
/-- HUB_RESET (R547). -/
def execHubReset (v : Word) : State → Out := runU fun s => s.writeHubReset v
/-- WATCHDOG (R551). -/
def execWatchdog : State → Out := run fun s => s.when s.boot.powered (·.moduleReset 4)
/-- RSTACT with the target reset pattern (R516, R534): action 1 resets the port, action 2 the whole target. -/
def execRstact (action : Byte) : State → Out :=
  run fun s =>
    let s := s.i3cBroadcast fun m => if action = 1 ∨ action = 2 then m.targetReset else m
    s.when (action == 2) (·.moduleReset 3)
/-- BOOT (R536). -/
def execBoot : State → Out := runVault State.bootVault State.bootBegin
/-- BOOT_STEP_DONE (R536). -/
def execBootStepDone (res : BootResult) : State → Out := runVault (fun s => s.stepVault res) fun s => s.bootStep res
/-- STEP_TIMEOUT (R536). -/
def execStepTimeout : State → Out := run State.stepTimeout
/-- RECOVERY_WRITE (R549): a write of HUB_RECOVERY_CTL. -/
def execRecoveryWrite (v : Word) : State → Out := runU fun s => s.writeRecovery v
/-- RECOVERY_WRITE_DONE (R549). -/
def execRecoveryWriteDone (readOk sigOk flashOk : Bool) : State → Out := run fun s => s.recoveryDone readOk sigOk flashOk
/-- POWER_LOSS (R567). -/
def execPowerLoss : State → Out := run fun s => s.when s.busOn State.powerOff
/-- RIDE_THROUGH (R568). -/
def execRideThrough : State → Out := run State.rideBegin
/-- RIDE_THROUGH_EXPIRY (R567). -/
def execRideThroughExpiry : State → Out := run State.rideExpiry
/-- RIDE_THROUGH_END (R568). -/
def execRideThroughEnd : State → Out := run State.rideEnd
/-- THERMAL_TRIP (R576). -/
def execThermalTrip (die : Nat) : State → Out := run fun s => s.thermalTrip die
/-- CRYSTAL_EDGE (R513): device time advances by 40 ns while the always-on domain has power. -/
def execCrystalEdge (s : State) : Out := .next (if s.busOn then { s.crystalEdge with time := s.time + 40 } else s)
/-- SIGNAL_BOX_FAILOVER (R527). -/
def execSignalBoxFailover : State → Out := runVault State.failoverVault State.failover
/-- OFFLINE_TEST (R461). -/
def execOfflineTest (v : Word) : State → Out := runU fun s => s.hubWrite (·.offlineTest v)

end Sys2Proof.Machine
end

