-- ==== Sys2Proof/Machine/CoreFloat.lean ====
section
/-!
DEFINITION. Floating-point results of cores (R85, R409): the operations of the RISC-V F and D extensions with their rounding
modes and exception flags, subnormals honoured, and the unordered vector sums in ascending element order (PRESUMED, the rules of
RISC-V that R409 names; notes/assumptions).
-/
namespace Sys2Proof.Machine

/-- Double precision. -/
def fp64 : FloatFmt := ⟨11, 52, 1023, true, true, 2 ^ 53 - 1, 971, 0x7FF8000000000000⟩

/-- Exception flags as fflags has them. -/
def fNX : Nat := 1
def fUF : Nat := 2
def fOF : Nat := 4
def fDZ : Nat := 8
def fNV : Nat := 16

/-- The code is a signalling NaN. -/
def signalling (f : FloatFmt) (code : Nat) : Bool :=
  bits code f.mbits f.ebits == 2 ^ f.ebits - 1 && bits code 0 f.mbits != 0 && !bit code (f.mbits - 1)

/-- Rounding up in magnitude of a value with remainder `r` of `2^sh` below the odd or even quotient `q`, by rounding mode: 0 to
nearest even, 1 to zero, 2 down, 3 up, 4 to nearest with ties away. -/
def roundsUp (rm : Nat) (neg : Bool) (q r sh : Nat) : Bool :=
  match rm with
  | 0 => decide (2 ^ sh < 2 * r) || (decide (2 * r = 2 ^ sh) && q % 2 == 1)
  | 2 => neg && r != 0
  | 3 => !neg && r != 0
  | 4 => decide (2 ^ sh ≤ 2 * r)
  | _ => false

/-- `m × 2^e` rounded to a multiple of `2^t`, in units of it, and whether it was inexact. -/
def roundUnit (rm : Nat) (neg : Bool) (m : Nat) (e t : Int) : Nat × Bool :=
  if t ≤ e then (m <<< (e - t).toNat, false)
  else
    let sh := (t - e).toNat
    let q := m >>> sh
    let r := m % 2 ^ sh
    (q + ofBool (roundsUp rm neg q r sh), r != 0)

/-- A result in a format: its code and the flags of its rounding. Tininess is judged after rounding. -/
def coreRound (f : FloatFmt) (rm : Nat) : Num → Nat × Nat
  | .nan => (f.nanCode, 0)
  | .inf neg => (encodeFloat f (.inf neg), 0)
  | .fin neg m e =>
    if m = 0 then (encodeFloat f (.fin neg 0 0), 0)
    else
      let t : Int := e + (m.log2 : Nat) - f.mbits
      let (q, inexact) := roundUnit rm neg m e (max t f.minExp)
      let (p, _) := roundUnit rm neg m e t
      let tiny := magGt 1 (1 - (f.bias : Int)) p t
      if magGt q (max t f.minExp) f.maxM f.maxE then
        let toMax := decide (rm = 1) || (decide (rm = 2) && !neg) || (decide (rm = 3) && neg)
        (encodeFloat f (if toMax then .fin neg f.maxM f.maxE else .inf neg), fOF + fNX)
      else (encodeFloat f (.fin neg q (max t f.minExp)), ofBool inexact * fNX + ofBool (inexact && tiny) * fUF)

/-- An exact zero sum of terms of unlike sign is +0, and -0 when rounding down. -/
def zeroSum (rm : Nat) (a b r : Num) : Num :=
  if r.isZero && a.isNeg != b.isNeg then .fin (rm == 2) 0 0 else r

/-- The exact result of an operation, its invalid and divide-by-zero flags. -/
def fpExact (op : FpOp) (rm : Nat) (a b c : Num) : Num × Nat :=
  let nans := a.isNan || b.isNan
  match op with
  | .add => (zeroSum rm a b (a.add b), ofBool (!nans && (a.add b).isNan) * fNV)
  | .sub => (zeroSum rm a b.neg (a.sub b), ofBool (!nans && (a.sub b).isNan) * fNV)
  | .mul => (a.mul b, ofBool (!nans && (a.mul b).isNan) * fNV)
  | .div =>
    let finite : Bool := match a with | .fin _ _ _ => !a.isZero | _ => false
    (a.div b, ofBool (!nans && (a.div b).isNan) * fNV + ofBool (finite && b.isZero) * fDZ)
  | .sqrt => (a.sqrt, ofBool (!a.isNan && a.sqrt.isNan) * fNV)
  | .fma =>
    let p := a.mul b
    let bad := (!nans && p.isNan) || (!nans && !c.isNan && (p.add c).isNan)
    (if c.isNan then .nan else zeroSum rm p c (p.add c), ofBool bad * fNV)

/-- An operation on codes: the result's code and the flags. -/
def fpResult (f : FloatFmt) (op : FpOp) (rm a b c : Nat) : Nat × Nat :=
  let used : List Nat := match op with
    | .sqrt => [a]
    | .fma => [a, b, c]
    | _ => [a, b]
  let (x, fl) := fpExact op rm (decodeFloat f a) (decodeFloat f b) (decodeFloat f c)
  let (r, rl) := coreRound f rm x
  (r, fl ||| rl ||| (ofBool (used.any (signalling f)) * fNV))

/-- The exact value of a code in a wider format. -/
def widenCode (narrow wide : FloatFmt) (a : Nat) : Nat × Nat :=
  ((coreRound wide 0 (decodeFloat narrow a)).1, ofBool (signalling narrow a) * fNV)

/-- The sum of vfredusum: the elements are added in ascending order, each sum rounded. -/
def sumAscending (f : FloatFmt) (rm : Nat) : (acc flags : Nat) → List Nat → Nat × Nat
  | acc, flags, [] => (acc, flags)
  | acc, flags, x :: xs =>
    let (r, fl) := fpResult f .add rm acc x 0
    sumAscending f rm r (flags ||| fl) xs

/-- The format of elements of `2^sew` bytes. -/
def sewFmt : (sew : Nat) → Option FloatFmt
  | 1 => some fp16
  | 2 => some fp32
  | 3 => some fp64
  | _ => none

end Sys2Proof.Machine
end

