-- ==== Sys2Proof/Machine/Cores.lean ====
section
/-!
DEFINITION. The memory accesses of server cores (R38, R296, R410, R413, R451).
-/
namespace Sys2Proof.Machine

/-! CSRs and exceptions (R451, R290). -/

/-- A CSR of a hart. -/
def Core.csr (c : Core) (n : Nat) : Word := tblGet 0 c.csrs n

def Core.setCsr (c : Core) (n : Nat) (v : Word) : Core := { c with csrs := tblSet 0 c.csrs n v }

/-- An exception is taken in S-mode: it comes from S or U and medeleg gives it away. -/
def Core.delegated (c : Core) (cause : Nat) : Bool := decide (c.priv < 3) && (c.csr 0x302).flag cause

/-- A core takes an exception with its cause and tval, as the RISC-V privileged architecture has it (PRESUMED;
notes/assumptions). -/
def State.coreTrap (s : State) (h cause tval : Nat) : State :=
  s.modHart h fun c =>
    let st := c.csr 0x300
    if c.delegated cause then
      let st' := ((st.withField 5 1 (ofBool (st.flag 1))).withField 1 1 0).withField 8 1 c.priv
      let d := (((c.setCsr 0x300 st').setCsr 0x141 (BitVec.ofNat 64 c.pc)).setCsr 0x142 (BitVec.ofNat 64 cause)).setCsr
        0x143 (BitVec.ofNat 64 tval)
      { d with priv := 1, pc := (c.csr 0x105).field 2 62 * 4 }
    else
      let st' := ((st.withField 7 1 (ofBool (st.flag 3))).withField 3 1 0).withField 11 2 c.priv
      let d := (((c.setCsr 0x300 st').setCsr 0x341 (BitVec.ofNat 64 c.pc)).setCsr 0x342 (BitVec.ofNat 64 cause)).setCsr
        0x343 (BitVec.ofNat 64 tval)
      { d with priv := 3, pc := (c.csr 0x305).field 2 62 * 4 }

/-- MRET: the return to the mode and program counter saved. -/
def Core.ret (c : Core) : Core :=
  let st := c.csr 0x300
  let mpp := st.field 11 2
  let st' := ((st.withField 3 1 (ofBool (st.flag 7))).withField 7 1 1).withField 11 2 0
  { c.setCsr 0x300 (if mpp = 3 then st' else st'.withField 17 1 0) with priv := mpp, pc := (c.csr 0x341).toNat }

/-- A write of a CSR. fflags and frm are parts of fcsr, and satp takes no mode but Bare, Sv39, Sv48 and Sv57 (R408). -/
def Core.writeCsr (c : Core) (n : Nat) (v : Word) : Core :=
  match n with
  | 1 => c.setCsr 3 ((c.csr 3).withField 0 5 (v.field 0 5))
  | 2 => c.setCsr 3 ((c.csr 3).withField 5 3 (v.field 0 3))
  | 3 => c.setCsr 3 (BitVec.ofNat 64 (v.field 0 8))
  | 0x180 => if [0, 8, 9, 10].contains (v.field 60 4) then c.setCsr 0x180 v else c
  | n => c.setCsr n v

/-- Exception flags accrue in fcsr. -/
def Core.accrue (c : Core) (flags : Nat) : Core :=
  c.setCsr 3 ((c.csr 3).withField 0 5 ((c.csr 3).field 0 5 ||| flags))

/-! Memory accesses of cores (R296, R410, R413, R451). -/

/-- What is open on a line at its home, and a write-back of core `a`, come to their end before the core's access (R297). -/
def State.settleOwn (s : State) (a g : Nat) : State :=
  let s := s.settleLine g
  match s.wbOf a g with
  | some w =>
    let s := match w.cross with
      | some k => (s.snoop a g k).respond a g
      | none => s
    s.wbAck a g
  | none => s

/-- The core obtains a readable copy of a line, with the snoops that R294 needs. -/
def State.obtainShared (s : State) (a g : Nat) : State :=
  let s := s.settleOwn a g
  if (s.copy a g).isSome then s
  else
    let (d, s) := s.readNow g
    let s := match (s.dirOf g).owner with
      | some o => match s.copy o g with
        | some c => s.setCopy o g (snoopCopy .shared c).2
        | none => s
      | none => s
    s.hold a g (if s.holders g = [] then .e else .s) d

/-- The core obtains the only copy of a line, in M. -/
def State.obtainUnique (s : State) (a g : Nat) : State :=
  let s := s.settleOwn a g
  let (d, s) : (List Byte × Bool) × State := match s.copy a g with
    | some c => ((c.data, c.poison), s)
    | none => s.readNow g
  let s := ((s.holders g).filter fun x => x != a).foldl (fun s x => s.dropCopy x g) s
  s.hold a g .m d

/-- Replaces bytes of a core's own copy of a line. -/
def State.pokeCopy (s : State) (a g off : Nat) (data : List Byte) : State :=
  match s.copy a g with
  | some c => s.setCopy a g (some { c with data := c.data.take off ++ data ++ c.data.drop (off + data.length) })
  | none => s

/-- The register that a core's access of `n` bytes at DPA `a` reaches: one of its own Line (`some`), or a hub register, with
its offset (R34, R38). -/
def State.coreReg (s : State) (l a : Nat) : Option (Option Nat × Nat) :=
  match s.target a with
  | .lnMmio k off => if s.leaderOf k = l then some (some k, off) else none
  | .hubMmio off => if (s.hubVisible (off / 8 * 8)).isSome then some (none, off) else none
  | _ => none

/-- The access of `n` bytes at offset `off` (R7). -/
def accessOf (off n : Nat) : Access :=
  if n = 8 ∧ off % 8 = 0 then .whole
  else if n = 4 ∧ off % 8 = 0 then .low
  else if n = 4 ∧ off % 8 = 4 then .high
  else .other

/-- A core's read of a register. -/
def State.coreRegRead (s : State) (k : Option Nat) (off n : Nat) : List Byte × State :=
  let v := match k with
    | some k => s.readLine true k (off / 8 * 8)
    | none => (s.hubVisible (off / 8 * 8)).getD 0
  (((leBytes 8 v.toNat).drop (off % 8)).take n, (s.bump).undefIf (accessOf off n == .other) .registerAccess)

/-- A core's write of a register. Hub registers discard writes (R490). -/
def State.coreRegWrite (s : State) (h : Nat) (k : Option Nat) (off : Nat) (data : List Byte) : State :=
  match k with
  | some k => s.mmioWrite (.core (Fin.ofNat 128 h)) k (off / 8 * 8) (accessOf off data.length) (BitVec.ofNat 64 (leNat data))
  | none => s

/-- A core's read of bytes within one line of its Line's memory, of host memory, or of anything else, which R37 answers
with poisoned data. Answers the data or the cause of an exception. -/
def State.corePeek (s : State) (l h a n : Nat) : Except Nat (List Byte) × State :=
  let cached := s.ownMem l a && (s.onFailed a).isNone
  if cached then
    let s := (s.touchMem a).obtainShared h (a / 64)
    let (d, p) := s.granule (a / 64)
    (if p then .error 19 else .ok ((d.drop (a % 64)).take n), s)
  else if isHostPa a && !s.host.attached then (.error 5, s)
  else
    match s.coreReg l a with
    | some (k, off) =>
      let (d, s) := s.coreRegRead k off n
      (.ok d, s)
    | none =>
      let (r, s) := s.loadPiece l a n
      (if r.poison then .error 19 else .ok r.data, s)

/-- A core's write of bytes within one line. Answers the cause of an exception. -/
def State.corePoke (s : State) (l h a : Nat) (data : List Byte) : Option Nat × State :=
  if s.ownMem l a && (s.onFailed a).isNone then
    (none, ((s.touchMem a).obtainUnique h (a / 64)).pokeCopy h (a / 64) (a % 64) data)
  else if isHostPa a && !s.host.attached then (some 7, s)
  else
    match s.coreReg l a with
    | some (k, off) => (none, s.coreRegWrite h k off data)
    | none => (none, (s.storePiece l a data false).2)

/-! Translation through satp (R41, R274, R408). -/

/-- The mode in which a hart's loads and stores are judged: MPP's where MPRV is set. -/
def Core.dataPriv (c : Core) : Nat :=
  if c.priv = 3 && (c.csr 0x300).flag 17 then (c.csr 0x300).field 11 2 else c.priv

/-- A leaf admits an access in a mode: U pages are U-mode's and, with SUM, S-mode's, and MXR lets loads read executable pages.
A and D are never set by hardware (Svade). -/
def Core.admits (c : Core) (p : Word) (wr : Bool) : Bool :=
  let st := c.csr 0x300
  (if c.dataPriv = 0 then p.flag 4 else !p.flag 4 || st.flag 18)
  && (if wr then p.flag 2 else p.flag 1 || (st.flag 19 && p.flag 3))
  && p.flag 6 && (!wr || p.flag 7)

/-- Walks `levels` levels of tables down from the one at `table`. Answers the physical address or the cause of the
exception; a word of a table that cannot be read is an access fault. -/
def State.coreWalk (s : State) (l h va : Nat) (wr : Bool) : (levels : Nat) → (table : Nat) → Except Nat Nat × State
  | 0, _ => (.error (if wr then 15 else 13), s)
  | k + 1, table =>
    match s.corePeek l h (table + va / 2 ^ (12 + 9 * k) % 512 * 8) 8 with
    | (.error c, s) => (.error (if c = 5 && wr then 7 else c), s)
    | (.ok bs, s) =>
      let p : Word := BitVec.ofNat 64 (leNat bs)
      if !pteValid k p then (.error (if wr then 15 else 13), s)
      else if pteLeaf p then
        (if (s.hart h).admits p wr then .ok (leafPa k p va) else .error (if wr then 15 else 13), s)
      else s.coreWalk l h va wr k (p.field 10 44 * 4096)

/-- The physical address of a core's access to `va`: under Sv39, Sv48 or Sv57 outside M-mode, from its own satp. -/
def State.coreVa (s : State) (l h va : Nat) (wr : Bool) : Except Nat Nat × State :=
  let c := s.hart h
  let satp := c.csr 0x180
  let mode := satp.field 60 4
  if c.dataPriv = 3 ∨ mode = 0 then (.ok va, s)
  else
    let width := 12 + 9 * (mode - 5)
    if wrapInt 64 (signed width va) ≠ va % 2 ^ 64 then (.error (if wr then 15 else 13), s)
    else s.coreWalk l h va wr (mode - 5) (satp.field 0 44 * 4096)

/-- A core's load of bytes within one line, at a virtual address. -/
def State.corePeekVa (s : State) (l h va n : Nat) : Except Nat (List Byte) × State :=
  match s.coreVa l h va false with
  | (.error c, s) => (.error c, s)
  | (.ok a, s) => s.corePeek l h a n

/-- A core's store of bytes within one line, at a virtual address. A sync counter takes none (R172). -/
def State.corePokeVa (s : State) (l h va : Nat) (data : List Byte) : Option Nat × State :=
  match s.coreVa l h va true with
  | (.error c, s) => (some c, s)
  | (.ok a, s) => (s.noteWrite a data.length).corePoke l h a data

/-- A core's load. -/
def State.coreLoad (s : State) (l h a n : Nat) : Except Nat (List Byte) × State :=
  (pieces a n).foldl (fun (r, s) p =>
    match r with
    | .error c => (.error c, s)
    | .ok bs =>
      match s.corePeekVa l h p.1 p.2 with
      | (.ok d, s) => (.ok (bs ++ d), s)
      | (.error c, s) => (.error c, s)) (.ok [], s)

/-- A core's store. -/
def State.coreStore (s : State) (l h a : Nat) (data : List Byte) : Option Nat × State :=
  (pieces a data.length).foldl (fun (r, s) p =>
    match r with
    | some c => (some c, s)
    | none => s.corePokeVa l h p.1 ((data.drop (p.1 - a)).take p.2)) (none, s)

/-- An AMO on a doubleword: the old value is returned, and a poisoned granule is left unwritten (R451). An AMO on a sync
counter makes a wait that it satisfies stay satisfied (R170, R172); one on what a confluence unit or a decode block alone
writes is undefined (R366, R423). -/
def State.coreAmo (s : State) (l h va : Nat) (f : Nat → Nat) : State :=
  if va % 8 ≠ 0 then s.coreTrap h 6 va
  else
    match s.coreVa l h va true with
    | (.error c, s) => s.coreTrap h c va
    | (.ok a, s) =>
      match s.corePeek l h a 8 with
      | (.error c, s) => s.coreTrap h (if c = 5 then 7 else c) va
      | (.ok old, s) =>
        let s := ((((s.noteEntry a 8).noteJob a 8).corePoke l h a (leBytes 8 (f (leNat old)))).2).emit (.coreData h old)
        match s.counterAt a with
        | some (k, i) => s.counterChanged k i
        | none => s

/-- A dirty copy of a line is written back and kept clean (CBO.CLEAN). -/
def State.cleanCopy (s : State) (g : Nat) : State :=
  let s := s.settleLine g
  match s.dirtyOwner g with
  | some (o, c) =>
    let s := if (s.onFailed (g * 64)).isSome then s else s.putGranule g c.data c.poison
    (s.setCopy o g (some { c with st := if c.st = .m then .e else .s })).redirect g
  | none => s

/-- Every copy of a line is invalidated. -/
def State.invalidateCopies (s : State) (g : Nat) : State :=
  ((s.holders g).foldl (fun s x => s.dropCopy x g) s).redirect g

/-- A cache-block operation on the line at a virtual address, which a store or a load of it would have to be let through. -/
def State.coreBlock (s : State) (l h va : Nat) (f : State → (line : Nat) → State) : State :=
  match s.coreVa l h va true with
  | (.error c, s) => s.coreTrap h c va
  | (.ok a, s) => f s (a / 64)

/-! Floating point (R409). -/

/-- The code of a single-precision operand: a register that holds no boxed one reads as the canonical NaN. -/
def unbox (v : Word) : Nat := if v.field 32 32 = 0xFFFFFFFF then v.field 0 32 else fp32.nanCode

/-- An operand of a floating-point operation. -/
def Core.fpIn (c : Core) (dbl : Bool) (r : Nat) : Nat :=
  if dbl then (tblGet 0 c.fregs r).toNat else unbox (tblGet 0 c.fregs r)

/-- Register `r` takes a code of either precision, a single one boxed. -/
def Core.setFp (c : Core) (dbl : Bool) (r code : Nat) : Core :=
  { c with fregs := tblSet 0 c.fregs r (BitVec.ofNat 64 (if dbl then code else code + 0xFFFFFFFF * 2 ^ 32)) }

/-- The rounding mode of an instruction: its own, or that of fcsr; none where it is reserved. -/
def Core.rounding (c : Core) (rm : Nat) : Option Nat :=
  let m := if rm = 7 then (c.csr 3).field 5 3 else rm
  if m ≤ 4 then some m else none

/-- A floating-point operation. A reserved rounding mode is an illegal instruction. -/
def State.coreFp (s : State) (h : Nat) (op : FpOp) (dbl : Bool) (rm rd a b c : Nat) : State :=
  let k := s.hart h
  match k.rounding rm with
  | none => s.coreTrap h 2 0
  | some m =>
    let (r, fl) := fpResult (if dbl then fp64 else fp32) op m (k.fpIn dbl a) (k.fpIn dbl b) (k.fpIn dbl c)
    s.modHart h fun x => (x.setFp dbl rd r).accrue fl

/-- The elements of `2^sew` bytes from vector register `r` on, `n` of them. -/
def Core.elems (c : Core) (r sew n : Nat) : List Nat :=
  let per := 32 / 2 ^ sew
  (List.range n).map fun i => bits (tblGet 0 c.vregs ((r + i / per) % 32)) (i % per * 8 * 2 ^ sew) (8 * 2 ^ sew)

/-- Bits `[lo, lo + len)` of a vector register are replaced. -/
def Core.setVreg (c : Core) (r lo len v : Nat) : Core :=
  let old := tblGet 0 c.vregs r
  { c with vregs := tblSet 0 c.vregs r (old - bits old lo len * 2 ^ lo + v % 2 ^ len * 2 ^ lo) }

/-- vfredusum, or vfwredusum with `widen`: element 0 of `vs1` and the active elements of `vs2`, added in ascending order into
element 0 of `vd`. A width that the extension does not have is an illegal instruction. -/
def State.coreRed (s : State) (h : Nat) (widen : Bool) (sew vl : Nat) (masked : Bool) (vd vs2 vs1 : Nat) : State :=
  let k := s.hart h
  match sewFmt sew, sewFmt (if widen then sew + 1 else sew), k.rounding 7 with
  | some f, some g, some m =>
    if vl = 0 then s
    else
      let mask := tblGet 0 k.vregs 0
      let xs := ((k.elems vs2 sew vl).zipIdx.filter fun e => !masked || bit mask e.2).map fun e =>
        if widen then widenCode f g e.1 else (e.1, 0)
      let w := if widen then sew + 1 else sew
      let (r, fl) := sumAscending g m ((k.elems vs1 w 1).headD 0) (xs.foldl (fun n e => n ||| e.2) 0) (xs.map (·.1))
      s.modHart h fun x => (x.setVreg vd 0 (8 * 2 ^ w) r).accrue fl
  | _, _, _ => s.coreTrap h 2 0

/-! What a running hart does. -/

/-- A load whose bytes `f` takes, or the exception it ends in. -/
def State.loadInto (s : State) (l h a n : Nat) (f : List Byte → State → State) : State :=
  match s.coreLoad l h a n with
  | (.ok d, s) => f d s
  | (.error c, s) => s.coreTrap h c a

/-- A store, or the exception it ends in. -/
def State.storeFrom (s : State) (l h a : Nat) (d : List Byte) : State :=
  match s.coreStore l h a d with
  | (none, s) => s
  | (some c, s) => s.coreTrap h c a

/-- What an access of running hart `h` of the Line led by `l` does. -/
def State.coreDo (s : State) (l h : Nat) (acc : CoreAccess) : State :=
  match acc with
  | .load a n => s.loadInto l h a n fun d s => s.emit (.coreData h d)
  | .store a d => s.storeFrom l h a d
  | .amoAdd a v => s.coreAmo l h a fun x => x + v.toNat
  | .amoSwap a v => s.coreAmo l h a fun _ => v.toNat
  | .lr a =>
    if a % 8 ≠ 0 then s.coreTrap h 4 a
    else
      match s.coreVa l h a false with
      | (.error c, s) => s.coreTrap h c a
      | (.ok pa, s) =>
        match s.corePeek l h pa 8 with
        | (.ok d, s) => (s.modHart h fun c => { c with reservation := some (pa / 64) }).emit (.coreData h d)
        | (.error c, s) => s.coreTrap h c a
  | .sc a v =>
    if a % 8 ≠ 0 then s.coreTrap h 6 a
    else
      match s.coreVa l h a true with
      | (.error c, s) => s.coreTrap h c a
      | (.ok pa, s) =>
        let held := (s.hart h).reservation = some (pa / 64)
        let s := s.modHart h fun c => { c with reservation := none }
        if held then
          match (s.noteWrite pa 8).corePoke l h pa (leBytes 8 v.toNat) with
          | (none, s) => s.emit (.coreData h (leBytes 8 0))
          | (some c, s) => s.coreTrap h c a
        else s.emit (.coreData h (leBytes 8 1))
  | .cboZero a => s.coreBlock l h a fun s g =>
    match (s.noteWrite (g * 64) 64).corePoke l h (g * 64) (List.replicate 64 0) with
    | (some c, s) => s.coreTrap h c a
    | (none, s) =>
      match s.copy h g with
      | some c => s.setCopy h g (some { c with poison := false })
      | none => s
  | .cboClean a => s.coreBlock l h a fun s g => s.cleanCopy g
  | .cboFlush a => s.coreBlock l h a fun s g => (s.cleanCopy g).invalidateCopies g
  | .cboInval a => s.coreBlock l h a fun s g => (s.settleLine g).invalidateCopies g
  | .fence => s
  | .wfi => if (s.hart h).imsic = [] then s.modHart h fun c => { c with mode := .wfi } else s
  | .fload dbl rd a => s.loadInto l h a (if dbl then 8 else 4) fun d s => s.modHart h fun c => c.setFp dbl rd (leNat d)
  | .fstore dbl rs a =>
    let v := (tblGet 0 (s.hart h).fregs rs).toNat
    s.storeFrom l h a (leBytes (if dbl then 8 else 4) v)
  | .fp op dbl rm rd a b c => s.coreFp h op dbl rm rd a b c
  | .vload vd a n => s.loadInto l h a (min n 32) fun d s => s.modHart h fun c => c.setVreg vd 0 (8 * min n 32) (leNat d)
  | .vstore vs a n => s.storeFrom l h a (leBytes (min n 32) (tblGet 0 (s.hart h).vregs vs))
  | .vfredusum widen sew vl masked vd vs2 vs1 => s.coreRed h widen sew vl masked vd vs2 vs1
  | .csrWrite n v => s.modHart h fun c => c.writeCsr n v
  | .mret => s.modHart h Core.ret

/-- CORE_MEMORY_ACCESS: an access of a core of a Line that works. A core in WFI has left it, which wakes the Line (R499). -/
def State.coreAccess (s : State) (h : Nat) (acc : CoreAccess) : State :=
  let l := s.leaderOf (h / 16)
  if decide (l < 8) && s.coreOn l h && (s.line l).st.works then
    let s := if (s.hart h).mode = .wfi then (s.wakeExit l).modHart h fun c => { c with mode := .run } else s
    s.coreDo l h acc
  else s

/-! The command. -/

/-- CORE_MEMORY_ACCESS (R296). -/
def execCoreMemoryAccess (h : HartId) (acc : CoreAccess) : State → Out := runU fun s => s.coreAccess h acc

end Sys2Proof.Machine
end

