-- ==== Sys2Proof/Machine/HubRegisters.lean ====
section
/-!
DEFINITION. The registers of PF0: where they lie, what they read as, and what a write of one does (R7 to R13, R545); and
REGISTER_WRITE.
-/
namespace Sys2Proof.Machine

/-! Where registers lie. -/

/-- The blocks of PF0 BAR0. -/
inductive HubBlk where
  | hub | die | msix | tt | sec | log | spur
deriving DecidableEq, Repr

/-- The registers of a block. -/
def HubBlk.regs : HubBlk → Tbl RegSpec
  | .hub => hubRegs | .die => dieRegs | .msix => [(0, { rw := 0xFFFFFFFFFFFFFFFF })] | .tt => ttRegs | .sec => secRegs
  | .log => logRegs | .spur => spurRegs

/-- The block, unit and offset in the block of an offset of PF0 BAR0. -/
def hubPlace (off : Nat) : Option (HubBlk × Nat × Nat) :=
  if 0x200 ≤ off ∧ off < 0x2D8 then some (.die, (off - 0x200) / 8, 0)
  else if off < 0x1000 then some (.hub, 0, off)
  else if 0x80000 ≤ off ∧ off < 0x80200 then some (.msix, 0, 0)
  else if 0x01000000 ≤ off ∧ off < 0x01001000 then some (.tt, 0, off - 0x01000000)
  else if 0x02000000 ≤ off ∧ off < 0x02001000 then some (.sec, 0, off - 0x02000000)
  else if 0x03000000 ≤ off ∧ off < 0x03001000 then some (.log, 0, off - 0x03000000)
  else if 0x04000000 ≤ off ∧ off < 0x04000680 then some (.spur, (off - 0x04000000) / 0x40, off % 0x40)
  else none

/-- The register at an offset of PF0 BAR0, with its fields; none where no register lies (R13). -/
def hubRegAt (off : Nat) : Option ((HubBlk × Nat × Nat) × RegSpec) :=
  (hubPlace off).bind fun r => (r.1.regs.lookup r.2.2).map fun sp => (r, sp)

/-! What registers read as. -/

/-- LOG_OLDEST (R531); LOG_NEXT where the Logbook holds no entry. -/
def State.logOldest (s : State) : Nat := (s.log.entries.getLast?.map fun (e : LogEntry) => e.seq).getD s.log.next

/-- The entry that a page of the window shows at entry `i` of it (R527, R531). -/
def State.logShown (s : State) (page i : Nat) : Option LogEntry :=
  if page < 64 then s.log.entries.find? fun e => e.seq % 262144 == page * 4096 + i
  else
    let k := (page - 64) * 4096 + i
    let back := (s.log.mirrorNext + 8191 - k) % 8192
    if back < s.log.mirrorNext then s.log.mirror[back]? else none

/-- A 64-bit read of the Logbook window (R531). -/
def State.logWindow (s : State) (off : Nat) : Word :=
  let page := s.fld (logKey 0x20) 0 7
  if 66 ≤ page then BitVec.ofNat 64 0xFFFFFFFFFFFFFFFF
  else match s.logShown page (off / 256) with
    | some e => BitVec.ofNat 64 (leNat ((e.bytes.drop (off % 256 / 8 * 8)).take 8))
    | none => 0

/-- A register of PF0 as it reads where it is served. -/
def State.readHubReg (s : State) (r : HubBlk × Nat × Nat) (key : Nat) : Word :=
  match r.1, r.2.2 with
  | .hub, 0x00 => BitVec.ofNat 64 hubId
  | .hub, 0x10 => s.bootStatus
  | .hub, 0x30 => (s.reg key).withField 0 1 (ofBool s.boot.recovery.isSome)
  | .hub, 0x40 => s.hubAttach
  | .hub, 0x50 => BitVec.ofNat 64 s.power.cap
  | .hub, 0x58 => s.hubPwrStatus
  | .hub, 0x60 => BitVec.ofNat 64 s.time
  | .hub, 0x68 => s.hubThermal
  | .hub, 0x818 => s.unitCounts
  | .hub, 0x830 => s.surveyStatus
  | .die, _ => s.dieInv r.2.1
  | .tt, 0x8 => s.ttStatus
  | .tt, 0x20 => BitVec.ofNat 64 s.tt.gen
  | .sec, 0x0 => s.secStatus
  | .sec, 0x20 => s.ownerStatus
  | .sec, 0x30 => s.idStatus
  | .sec, o =>
    if 0x40 ≤ o ∧ o < 0x80 then BitVec.ofNat 64 (leNat ((Config.identityKey.drop (o - 0x40)).take 8))
    else if 0x100 ≤ o ∧ o < 0x140 then s.secLine ((o - 0x100) / 8)
    else s.reg key
  | .log, 0x0 => BitVec.ofNat 64 s.log.next
  | .log, 0x8 => BitVec.ofNat 64 s.logOldest
  | .log, 0x10 => BitVec.ofNat 64 (s.log.mirrorNext % 8192 + ofBool (8192 < s.log.mirrorNext) * 2 ^ 13)
  | .log, 0x18 => BitVec.ofNat 64 (s.nvm.bootCount % 2 ^ 32 + s.log.writer * 2 ^ 32 + ofBool s.log.mramFail * 2 ^ 33)
  | .spur, 0x8 => s.spurStatus r.2.1
  | .spur, 0x10 => s.spurLanes r.2.1 .fwd
  | .spur, 0x18 => s.spurLanes r.2.1 .rev
  | _, _ => s.reg key

/-- The registers that are served in HALTED, and those served in RECOVERY as well (R545). -/
def hubServedStopped (recovery : Bool) (off : Nat) : Bool :=
  [0x00, 0x10, 0x18, 0x40, 0x60].contains off || (recovery && [0x20, 0x28, 0x30].contains off)

/-- A 64-bit read through PF0: a hub register, or a register of a Line (R38). -/
def State.readHub (s : State) (off : Nat) : Word :=
  if s.boot.stage.stopped && !hubServedStopped (s.boot.stage == .recovery) off then 0
  else if 0x03100000 ≤ off ∧ off < 0x03200000 then s.logWindow (off - 0x03100000)
  else match hubRegAt off with
    | some (r, _) => s.readHubReg r (hubKey off)
    | none => 0

/-! What a write does. -/

/-- The effect of writing `v` to a register, where it has a behaviour of its own. -/
def State.writeHubOwn (s : State) (r : HubBlk × Nat × Nat) (v : Word) : Option State :=
  match r.1, r.2.2 with
  | .hub, 0x18 => some (s.writeHubReset v)
  | .hub, 0x28 => some (s.writeRecovery v)
  | .hub, 0x48 => some (s.writeFabricId v)
  | .hub, 0x50 => some (s.writePwrCap v)
  | .hub, 0x70 => some (s.writeLineStop v)
  | .hub, 0x800 => some (s.writeUnitCmd v)
  | .hub, 0x828 => some (s.writeSurveyCtl v)
  | .hub, 0x838 => some (s.offlineTest v)
  | .tt, 0x0 => some (s.writeTtLoad v)
  | .sec, 0x8 => some (s.writeSecCtl v)
  | .sec, 0x18 => some (s.writeOwnerCtl v)
  | .log, 0x28 => some (s.logEvent 0x0104 0x20 0 v.toNat 0)
  | .log, 0x30 => some (s.logEvent 0x0103 0x20 0 v.toNat 0)
  | .spur, 0x0 => some (s.writeSpurCtl r.2.1 v)
  | _, _ => none

/-- A write to a register of PF0 that takes effect. -/
def State.writeHubReg (s : State) (r : HubBlk × Nat × Nat) (key : Nat) (sp : RegSpec) (a : Access) (v : Word) : State :=
  let x := sp.compose (s.readHubReg r key) a v
  let s := (s.undefIf (sp.badAccess a) .registerAccess).undefIf (accessPlace a v &&& sp.rsv != 0) .reservedWrite
  if sp.writable &&& accessMask a = 0 then s
  else (s.writeHubOwn r x).getD (s.setReg key (sp.apply false (s.reg key) a v))

/-- A write through PF0 to an offset is served (R545). -/
def State.hubServes (s : State) (off : Nat) : Bool :=
  s.host.attached && s.boot.powered
  && (!s.boot.stage.stopped || hubServedStopped (s.boot.stage == .recovery) off)

/-- A write to PF0 BAR0. Line agents' writes to Hub MMIO, and those of a Line function, are discarded (R38, R490). -/
def State.hubMmioWrite (s : State) (via : Via) (off : Nat) (a : Access) (v : Word) : State :=
  if via ≠ .pf0 || !s.hubServes (off / 8 * 8) then s
  else if off % 8 ≠ 0 ∨ a = .other then s.undef .registerAccess
  else match hubRegAt off with
    | some (r, sp) => s.writeHubReg r (hubKey off) sp a v
    | none => s

/-- A write to any register (R8). -/
def State.registerWrite (s : State) (via : Via) (fn : RegFn) (off : Nat) (a : Access) (v : Word) : State :=
  match fn with
  | .hub => (s.hubMmioWrite via off a v).noted via
  | .line n => (s.mmioWrite via n off a v).noted via

/-- The vault after a write to a register: SEC_CTL can raise MIN_SVN (R476). -/
def State.registerVault (s : State) (via : Via) (fn : RegFn) (off : Nat) (a : Access) (v : Word) : Vault :=
  if via = .pf0 ∧ fn = .hub ∧ off = 0x02000008 ∧ (a = .whole ∨ a = .low) then s.secCommit v else s.vault

/-! The command. -/

/-- REGISTER_WRITE (R8). -/
def execRegisterWrite (via : Via) (fn : RegFn) (off : Nat) (acc : Access) (v : Word) : State → Out :=
  runVaultU (fun s => s.registerVault via fn off acc v) fun s => s.registerWrite via fn off acc v

end Sys2Proof.Machine
end

