-- ==== Sys2Proof/Machine/Issue.lean ====
section
/-!
DEFINITION. What each tile-program instruction does at issue (R146 to R175), with the checks of R183.
-/
namespace Sys2Proof.Machine

/-! Fields. -/

/-- The fields of an instruction by opcode, each with its low bit and width (R148 to R175). -/
def usedFields (op : Nat) : List (Nat × Nat) :=
  if op = 0x00 then []
  else if op = 0x01 then [(0, 16)]
  else if op = 0x02 then [(52, 4), (42, 10), (0, 13)]
  else if op = 0x03 then [(50, 6), (16, 16), (0, 13)]
  else if op = 0x04 then [(0, 8)]
  else if op = 0x05 then [(0, 17)]
  else if op ≤ 0x18 then [(41, 15)]
  else if op = 0x19 ∨ op = 0x1B then [(46, 10), (0, 32)]
  else if op = 0x1A then [(51, 5), (0, 32)]
  else if op = 0x1C then [(41, 10), (0, 32)]
  else if op = 0x20 then [(52, 4), (46, 5), (0, 32)]
  else if op = 0x21 then [(52, 4), (41, 10)]
  else if op = 0x22 then [(43, 13)]
  else if op = 0x30 ∨ op = 0x31 then [(13, 43)]
  else if op = 0x38 then [(29, 27)]
  else if op = 0x39 then [(29, 21), (52, 4)]
  else if op = 0x40 then [(37, 19), (34, 3)]
  else if op = 0x41 then [(49, 7), (37, 10), (35, 1)]
  else if op = 0x42 then [(49, 7), (35, 12)]
  else if op = 0x43 then [(47, 5)]
  else if op = 0x50 then [(25, 31)]
  else if op = 0x51 then [(33, 23), (25, 6)]
  else if op = 0x60 then [(0, 56)]
  else if op = 0x61 then [(29, 27), (0, 28)]
  else if op = 0x70 then [(47, 9)]
  else [(46, 10)]

/-- A bit outside the instruction's fields is set (R146). -/
def reservedSet (w : Word) : Bool :=
  let m := (usedFields (w.field 56 8)).foldl (fun a f => a ||| (2 ^ f.2 - 1) <<< f.1) 0
  w.toNat % 2 ^ 56 &&& m != w.toNat % 2 ^ 56

/-- The immediate of ADDI, LD, SD and ALD, sign-extended. -/
def immOf (w : Word) : Word := BitVec.ofInt 64 (signed 32 (w.field 0 32))

/-! The issue of a queued instruction. -/

/-- The instruction waits for room in its engine's queue (R143). -/
def State.stall (s : State) (u : Nat) : State := s.modPond u fun p => { p with wait := .queueRoom }

/-- Ends the program at the instruction at the program counter. -/
def State.fail (s : State) (u status : Nat) (va : Nat := 0) : State := s.stopProgram u status (s.pond u).pc va

/-- A work item of the instruction at the program counter. -/
def Pond.item (p : Pond) (w : Word) : PondOp := { seq := p.seq, pc := p.pc, insn := w }

/-- Places an item in the vector engine's queue. -/
def State.toVec (s : State) (u : Nat) (o : PondOp) : State := (s.modPond u fun p => { p with vecQ := p.vecQ ++ [o] }).adv u

/-- Places an item in the store unit's queue. -/
def State.toStore (s : State) (u : Nat) (o : PondOp) : State :=
  (s.modPond u fun p => { p with storeQ := p.storeQ ++ [o] }).adv u

def Pond.vecFull (p : Pond) : Bool := decide (16 ≤ p.vecQ.length)
def Pond.storeFull (p : Pond) : Bool := decide (16 ≤ p.storeQ.length)

/-- A tile-buffer field that names no buffer. -/
def badTb (k : Nat) : Bool := decide (6 ≤ k)

/-! Control and scalar instructions. -/

def iNop (s : State) (u : Nat) (_w : Word) : State := s.adv u

/-- END stops issue; the rest of R180 follows when earlier work has finished. -/
def iEnd (s : State) (u : Nat) (w : Word) : State := s.stopProgram u 0 (s.pond u).pc 0 (w.field 0 16)

/-- The condition of a BR (R148); none for a code that is not listed. -/
def brTaken (cond : Nat) (a b : Word) : Option Bool :=
  match cond with
  | 0 => some true
  | 1 => some (a == b)
  | 2 => some (a != b)
  | 3 => some (decide (a.toInt < b.toInt))
  | 4 => some (decide (b.toInt ≤ a.toInt))
  | 5 => some (decide (a.toNat < b.toNat))
  | 6 => some (decide (b.toNat ≤ a.toNat))
  | _ => none

/-- The body of a running loop holds an index. -/
def LoopFrame.has (f : LoopFrame) (i : Nat) : Bool := decide (f.first ≤ i ∧ i ≤ f.last)

/-- The loops that a taken branch to `t` stays in: it leaves the outermost loop that does not hold `t`, and every loop
inside that one (R149). -/
def keepLoops (loops : List LoopFrame) (t : Nat) : List LoopFrame := (loops.reverse.takeWhile fun f => f.has t).reverse

/-- A branch from `pc` to `t` enters the body of a LOOP that is not running, from outside it (R149). -/
def Pond.entersLoop (p : Pond) (t : Nat) : Bool :=
  p.imem.any fun e =>
    let last := e.2.field 0 13
    e.2.field 56 8 == 3 && decide (e.1 < t ∧ t ≤ last) && !decide (e.1 < p.pc ∧ p.pc ≤ last)
    && !p.loops.any fun f => f.first == e.1 + 1 && f.last == last

def iBr (s : State) (u : Nat) (w : Word) : State :=
  let p := s.pond u
  match brTaken (w.field 52 4) (p.sreg (w.field 47 5)) (p.sreg (w.field 42 5)) with
  | none => s.fail u 0x10
  | some false => s.adv u
  | some true =>
    let t := w.field 0 13
    ((s.undefIf (p.entersLoop t) .branchIntoLoop).modPond u fun p =>
      { p with pc := t, loops := keepLoops p.loops t, wait := .none, seq := p.seq + 1 }).settle u

def iLoop (s : State) (u : Nat) (w : Word) : State :=
  let p := s.pond u
  let last := w.field 0 13
  let n := if w.flag 55 then (p.sreg (w.field 50 5)).field 0 32 else w.field 16 16
  if last ≤ p.pc then s.fail u 0x11
  else if 4 ≤ p.loops.length then s.fail u 0x12
  else if n = 0 then (s.modPond u fun p => { p with pc := last }).adv u
  else
    (s.modPond u fun p =>
      { p with pc := p.pc + 1, loops := { first := p.pc + 1, last := last, left := n - 1 } :: p.loops
               wait := .none, seq := p.seq + 1 }).settle u

/-- The classes of a WAIT have finished (R150). -/
def Pond.classesDone (p : Pond) (m : Nat) : Bool :=
  (List.range 4).all (fun q => !bit m q || (p.gridOps q).all fun x => x.gang && q != 0)
  && (!bit m 4 || p.vecQ.isEmpty)
  && (!bit m 5 || p.storeQ.all fun o => o.op == 0x43)
  && (!bit m 6 || (p.tbLoads.isEmpty && p.faulty.isEmpty))
  && (!bit m 7 || p.xsQ.isEmpty)

/-- Issue goes on after a WAIT: one on STORES makes every store visible to later loads (R145). -/
def State.waitOver (s : State) (u m : Nat) : State :=
  (s.modPond u fun p => { p with stale := if bit m 5 then [] else p.stale }).adv u

def iWait (s : State) (u : Nat) (w : Word) : State :=
  let m := w.field 0 8
  if (s.pond u).classesDone m then s.waitOver u m else s.modPond u fun p => { p with wait := .classes m }

/-- A release is posted: it takes effect in its turn (R171). -/
def State.post (s : State) (u : Nat) (o : PondOp) : State := (s.modPond u fun p => { p with posted := p.posted ++ [o] }).adv u

def iSignal (s : State) (u : Nat) (w : Word) : State := s.post u ((s.pond u).item w)

/-- The results of ADD to SRA (R148). -/
def aluOp (op : Nat) (a b : Word) : Word :=
  match op with
  | 0x10 => a + b
  | 0x11 => a - b
  | 0x12 => a * b
  | 0x13 => a &&& b
  | 0x14 => a ||| b
  | 0x15 => a ^^^ b
  | 0x16 => a <<< (b.toNat % 64)
  | 0x17 => a >>> (b.toNat % 64)
  | _ => a.sshiftRight (b.toNat % 64)

def iAlu (s : State) (u : Nat) (w : Word) : State :=
  (s.modPond u fun p =>
    p.setSreg (w.field 51 5) (aluOp (w.field 56 8) (p.sreg (w.field 46 5)) (p.sreg (w.field 41 5)))).adv u

def iAddi (s : State) (u : Nat) (w : Word) : State :=
  (s.modPond u fun p => p.setSreg (w.field 51 5) (p.sreg (w.field 46 5) + immOf w)).adv u

def iLih (s : State) (u : Nat) (w : Word) : State :=
  (s.modPond u fun p => p.setSreg (w.field 51 5) ((p.sreg (w.field 51 5)).withField 32 32 (w.field 0 32))).adv u

/-! Memory and descriptors. -/

/-- Writes an address descriptor. -/
def Pond.setDesc (p : Pond) (k : Nat) (d : Desc) : Pond := { p with descs := tblSet {} p.descs k d }

/-- A load of a register of the program's own Line, or of a hub register that its Line may read (R34, R38, R490). -/
def State.ldRegister (s : State) (u va : Nat) : Option (Word × State) :=
  match s.xlateFor (s.pondWho u (s.pond u).cur.asid) va true false with
  | (.ok pa, t) =>
    match s.target pa with
    | .lnMmio n off => if s.leaderOf n = s.pondLine u then some (t.readLine true n off, t.bump) else none
    | .hubMmio off => (s.hubVisible off).map fun v => (v, t)
    | _ => none
  | _ => none

def iLd (s : State) (u : Nat) (w : Word) : State :=
  let p := s.pond u
  let va := (p.sreg (w.field 46 5) + immOf w).toNat
  let s := s.undefIf (va % 8 != 0) .misalignedScalar
  match s.ldRegister u (va % 2 ^ 57) with
  | some (v, s) => (s.modPond u fun p => p.setSreg (w.field 51 5) v).adv u
  | none =>
    match s.pondRead u (va % 2 ^ 57) 8 with
    | (.bad st va, s) => s.fail u st va
    | (.ok bs, s) =>
      if anyPoison bs then s.fail u 0x30
      else (s.modPond u fun p => p.setSreg (w.field 51 5) (BitVec.ofNat 64 (bytesNat bs))).adv u

def iSd (s : State) (u : Nat) (w : Word) : State :=
  let p := s.pond u
  if p.storeFull then s.stall u
  else
    let va := p.sreg (w.field 46 5) + immOf w
    (s.undefIf (va.toNat % 8 != 0) .misalignedScalar).toStore u { p.item w with x := va, y := p.sreg (w.field 41 5) }

def iAld (s : State) (u : Nat) (w : Word) : State :=
  let va := ((s.pond u).sreg (w.field 46 5) + immOf w).toNat
  match (s.undefIf (va % 32 != 0) .misalignedScalar).pondRead u (va % 2 ^ 57) 32 with
  | (.bad st va, s) => s.fail u st va
  | (.ok bs, s) =>
    if anyPoison bs then s.fail u 0x30
    else
      let word (i : Nat) : Word := BitVec.ofNat 64 (bytesNat ((bs.drop (8 * i)).take 8))
      (s.modPond u fun p => p.setDesc (w.field 52 4) { w0 := word 0, w1 := word 1, w2 := word 2, w3 := word 3 }).adv u

def iAadd (s : State) (u : Nat) (w : Word) : State :=
  (s.modPond u fun p =>
    let d := p.desc (w.field 52 4)
    let a := (p.sreg (w.field 46 5)).toNat
    let b := (p.sreg (w.field 41 5)).toNat
    p.setDesc (w.field 52 4)
      { d with w0 := d.w0.withField 0 57 (d.base + a), w2 := d.w2.withField 0 57 (d.scaleBase + b) }).adv u

/-- A descriptor with one field set (R155). -/
def Desc.setField (d : Desc) (field v : Nat) : Desc :=
  match field with
  | 0 => { d with w0 := d.w0.withField 0 57 v }
  | 1 => { d with w0 := d.w0.withField 57 4 v }
  | 2 => { d with w0 := d.w0.withField 61 1 v }
  | 3 => { d with w1 := d.w1.withField 0 32 v }
  | 4 => { d with w1 := d.w1.withField 32 16 v }
  | 5 => { d with w1 := d.w1.withField 48 16 v }
  | 6 => { d with w2 := d.w2.withField 0 57 v }
  | _ => { d with w3 := d.w3.withField 0 32 v }

def iAset (s : State) (u : Nat) (w : Word) : State :=
  let f := w.field 48 4
  if 8 ≤ f then s.fail u 0x10
  else
    (s.modPond u fun p =>
      p.setDesc (w.field 52 4) ((p.desc (w.field 52 4)).setField f (p.sreg (w.field 43 5)).toNat)).adv u

/-- The undefined shapes and formats of a descriptor that a tile load or store uses (R151, R152, R557). -/
def State.descUndef (s : State) (d : Desc) : State :=
  let s := s.undefIf d.badShape .descriptorShape
  s.undefIf (fmtOfCode d.fmt).isNone .elementFormat

/-! Tile loads. -/

/-- Loads queued in a feeder. -/
def Pond.feeder (p : Pond) (isA : Bool) (q : Nat) : List Load := tblGet [] (if isA then p.feedA else p.feedB) q

/-- Queues a load in a feeder. -/
def Pond.feed (p : Pond) (isA : Bool) (q : Nat) (x : Load) : Pond :=
  if isA then { p with feedA := tblSet [] p.feedA q (p.feeder true q ++ [x]) }
  else { p with feedB := tblSet [] p.feedB q (p.feeder false q ++ [x]) }

/-- The elements of an operand read from memory, keyed for the MMA (R157), with its poison and flushes (R91, R129). -/
def memLoad (x : Load) (outerRow : Bool) (es : List Elem) : Load :=
  let key (e : Elem) : Nat :=
    if outerRow then (e.i - x.ri) * 65536 + (e.j - x.rj) else (e.j - x.rj) * 65536 + (e.i - x.ri)
  let sub (e : Elem) : Bool :=
    match x.fmt with
    | 0 => isSubnormal fp32 e.code
    | 1 => isSubnormal bf16 e.code
    | 2 => isSubnormal fp16 e.code
    | _ => false
  { x with
    ready := true
    elems := es.foldl (fun m e => tblInsert m (key e) { code := e.code, scale := e.scale }) []
    poison := es.any (·.poison)
    flush := (es.filter sub).length }

/-- LDA and LDB (R156 to R158). One that faults is fed with what it read before, the rest being padding, and poisons its
MMA's tile; the program ends once the fault is detected (R185). -/
def iTileLoad (isA : Bool) (s : State) (u : Nat) (w : Word) : State :=
  let p := s.pond u
  let q := w.field 50 2
  let trans := w.flag 49
  let outerRow := isA != trans
  let x : Load :=
    { seq := p.seq, pc := p.pc, ext := w.field 30 8, k := w.field 14 16, trans := trans, cvt := w.flag 13
      ri := (p.sreg (w.field 43 5)).toNat, rj := (p.sreg (w.field 38 5)).toNat }
  if 4 ≤ (p.feeder isA q).length then s.stall u
  else if w.flag 48 then
    if badTb (w.field 52 3) then s.fail u 0x10
    else (s.modPond u fun p => p.feed isA q { x with tb := some (w.field 52 3) }).adv u
  else
    let d := p.desc (w.field 52 4)
    let s := s.descUndef d
    match fmtOfCode d.fmt with
    | none => s
    | some f =>
      let s := s.undefIf (fmtIsMx f && d.mxdir == outerRow) .mxBlocks
      let x := { x with fmt := d.fmt }
      match s.readRegion u d f x.ri x.rj (if outerRow then x.ext else x.k) (if outerRow then x.k else x.ext) with
      | (.bad st va es, s) =>
        (s.modPond u fun p => p.feed isA q { memLoad x outerRow es with poison := true, fault := some (st, va) }).adv u
      | (.ok es, s) => (s.modPond u fun p => p.feed isA q (memLoad x outerRow es)).adv u

/-! MMA and MMAG. -/

/-- The checks of R160 and R161 on an MMA whose loads are `a` and `b`: the status that ends the program. -/
def mmaStatus (p : Pond) (gang : Bool) (w : Word) (a b : Load) : Option Nat :=
  let lim := if gang then 128 else 64
  let pre := w.field 48 2
  let tb (x : Load) : Bool := x.tb.isSome
  let ofmt := w.field 36 4
  let t := p.ticketOf ((p.sreg (w.field 40 5)).toNat % 65536)
  if a.k ≠ b.k then some 0x13
  else if a.ext = 0 ∨ b.ext = 0 ∨ a.k = 0 ∨ lim < a.ext ∨ lim < b.ext then some 0x16
  else if (tb a && (decide (64 < a.ext ∨ 64 < a.k))) || (tb b && (decide (64 < b.ext ∨ 64 < b.k))) then some 0x16
  else if gang && (tb a || tb b || pre == 1) then some 0x16
  else if pre = 2 ∧ t.isNone then some 0x15
  else if pre = 2 ∧ t.map (·.gang) ≠ some gang then some 0x16
  else if ofmt = 0xA ∨ ofmt = 0xB ∨ 0xD ≤ ofmt ∨ (ofmt = 0xC ∧ intMode (w.field 52 4) = false) then some 0x17
  else none

/-- The grid queues that an MMA enters. -/
def mmaQueues (gang : Bool) (w : Word) : List Nat := if gang then [0, 1, 2, 3] else [w.field 50 2]

/-- MMA and MMAG at issue (R160, R161). -/
def iMma (gang : Bool) (s : State) (u : Nat) (w : Word) : State :=
  let p := s.pond u
  let qs := mmaQueues gang w
  let q := qs.headD 0
  let pre := w.field 48 2
  if qs.any fun k => decide (4 ≤ ((p.gridOps k).filter fun m => !m.started).length) then s.stall u
  else if pre = 1 ∧ badTb (w.field 45 3) = true then s.fail u 0x10
  else
    let s := s.undefIf (pre == 3) .preThree
    match p.feeder true q, p.feeder false q with
    | a :: ra, b :: rb =>
      match mmaStatus p gang w a b with
      | some st => s.fail u st
      | none =>
        let s := s.undefIf (!modeAdmits (w.field 52 4) a.operandFmt b.operandFmt) .formatPair
        let t := p.nextTicket
        let pt := (p.sreg (w.field 40 5)).toNat % 65536
        let m : MmaOp :=
          { seq := p.seq, pc := p.pc, gang := gang, mode := w.field 52 4, pre := pre, ptb := w.field 45 3
            preTicket := pt, ofmt := w.field 36 4, omx := w.flag 35, record := w.flag 34, ticket := t, a := a, b := b }
        let put (p : Pond) (k : Nat) : Pond :=
          { p with gridQ := tblSet [] p.gridQ k (p.gridOps k ++ [if k = q then m else { m with a := {}, b := {} }]) }
        let info : TicketInfo := { ticket := t, gang := gang, ofmt := m.ofmt, omx := m.omx }
        let take (p : Pond) : Pond :=
          { p with feedA := tblSet [] p.feedA q ra, feedB := tblSet [] p.feedB q rb, nextTicket := (t + 1) % 65536 }
        let hold (p : Pond) : Pond := { p with held := p.held ++ [info] }
        (s.modPond u fun p =>
          (hold (qs.foldl put (take (if pre = 2 then p.unhold pt else p)))).setSreg (w.field 29 5)
            (BitVec.ofNat 64 t)).adv u
    | _, _ => s.fail u 0x14

/-! Stores and tile buffers. -/

/-- The ticket in a register, when the program holds it (R161). -/
def Pond.heldIn (p : Pond) (r : Nat) : Option TicketInfo := p.ticketOf ((p.sreg r).toNat % 65536)

/-- The undefined position of an MX store (R165). -/
def State.mxIndexUndef (s : State) (d : Desc) (i j : Nat) : State :=
  match fmtOfCode d.fmt with
  | some f => s.undefIf (fmtIsMx f && (if d.mxdir then i else j) % 32 != 0) .mxStoreIndex
  | none => s

def iSt (s : State) (u : Nat) (w : Word) : State :=
  let p := s.pond u
  if p.storeFull then s.stall u
  else
    match p.heldIn (w.field 47 5) with
    | none => s.fail u 0x15
    | some t =>
      let d := p.desc (w.field 52 4)
      let mx := match fmtOfCode d.fmt with | some f => fmtIsMx f | none => false
      if !w.flag 34 && (d.fmt != t.ofmt || (mx && d.mxdir != t.omx)) then s.fail u 0x17
      else
        let i := p.sreg (w.field 42 5)
        let j := p.sreg (w.field 37 5)
        let s := (s.descUndef d).mxIndexUndef d i.toNat j.toNat
        let s := s.when (w.flag 36) fun s => s.modPond u fun p => p.unhold t.ticket
        s.toStore u { p.item w with desc := d, ticket := some t.ticket, x := i, y := j }

def iStb (s : State) (u : Nat) (w : Word) : State :=
  let p := s.pond u
  if p.storeFull then s.stall u
  else if badTb (w.field 49 3) then s.fail u 0x10
  else
    let d := p.desc (w.field 52 4)
    let i := p.sreg (w.field 42 5)
    let j := p.sreg (w.field 37 5)
    ((s.descUndef d).mxIndexUndef d i.toNat j.toNat).toStore u { p.item w with desc := d, x := i, y := j }

def iLdt (s : State) (u : Nat) (w : Word) : State :=
  let p := s.pond u
  if p.vecFull then s.stall u
  else if badTb (w.field 49 3) then s.fail u 0x10
  else
    let d := p.desc (w.field 52 4)
    let i := (p.sreg (w.field 42 5)).toNat
    let j := (p.sreg (w.field 37 5)).toNat
    let s := s.descUndef d
    match fmtOfCode d.fmt with
    | none => s
    | some f =>
      match s.readRegion u d f i j 64 64 with
      | (.bad st va _, s) => s.fail u st va
      | (.ok es, s) =>
        let (t, sat, flush) := ldtTile f (w.flag 36) i j es
        s.toVec u { p.item w with tile := t, sat := sat, flush := flush }

def iRel (s : State) (u : Nat) (w : Word) : State :=
  let p := s.pond u
  if p.storeFull then s.stall u
  else
    match p.heldIn (w.field 47 5) with
    | none => s.fail u 0x15
    | some t => (s.modPond u fun p => p.unhold t.ticket).toStore u { p.item w with ticket := some t.ticket }

/-! Vector operations. -/

/-- An OFMT that VRED does not take (R209). -/
def badReduceFmt (code : Nat) : Bool :=
  match fmtOfCode code with
  | some f => fmtIsMx f || f == .int8 || f == .int4
  | none => true

/-- VOP and VRED at issue (R167, R195, R199 to R209). -/
def iVec (s : State) (u : Nat) (w : Word) : State :=
  let p := s.pond u
  let f := w.field 48 8
  let vop := w.field 56 8 == 0x50
  let slot := w.flag 44 && !(vop && readsNoA f)
  let td := w.field 45 3
  if p.vecFull then s.stall u
  else
    let s := s.undefIf (if vop then !vopListed f else !vredListed f || w.field 37 2 == 3) .vectorFunc
    let s := s.undefIf (vop && isCompare f && decide (4 ≤ td)) .compareTarget
    let s := s.undefIf (!vop && !isArg f && badReduceFmt (w.field 33 4)) .reduceFormat
    if (!(vop && isCompare f) && badTb td) || (!w.flag 44 && !(vop && readsNoA f) && badTb (w.field 39 3))
        || (vop && readsTbb f && badTb (w.field 36 3)) then s.fail u 0x10
    else
      let o := { p.item w with x := p.sreg (w.field 31 5) }
      if slot then
        match p.heldIn (w.field 39 5) with
        | none => s.fail u 0x15
        | some t =>
          let s := s.undefIf t.gang .slotSourceGanged
          let s := s.when (w.flag 25) fun s => s.modPond u fun p => p.unhold t.ticket
          s.toVec u { o with ticket := some t.ticket }
      else s.toVec u o

/-! Sync, transfers and phases. -/

/-- A counter index lies beyond the Line's counters (R168). -/
def State.counterOut (s : State) (u i : Nat) : Bool := decide (4096 * (s.members (s.pondLine u)).length ≤ i)

def iSadd (s : State) (u : Nat) (w : Word) : State :=
  let p := s.pond u
  let i := if w.flag 55 then (p.sreg (w.field 50 5)).toNat else w.field 35 15
  let v := if w.flag 34 then p.sreg (w.field 29 5) else BitVec.ofInt 64 (signed 28 (w.field 0 28))
  if s.counterOut u i then s.fail u 0x18
  else
    let o := { p.item w with x := BitVec.ofNat 64 i, y := v }
    if w.flag 28 then (s.releaseOp u o).adv u else s.post u o

def iSwait (s : State) (u : Nat) (w : Word) : State :=
  let p := s.pond u
  let i := if w.flag 55 then (p.sreg (w.field 50 5)).toNat else w.field 35 15
  let v := if w.flag 34 then (p.sreg (w.field 29 5)).toNat else w.field 0 28
  if s.counterOut u i then s.fail u 0x18
  else
    let s := s.counterTouch (s.pondLine u) i
    if s.counterReached (s.pondLine u) i v then (s.acquire u).adv u
    else s.modPond u fun p => { p with wait := .sync i v, waitFrom := s.time }

def iXstart (s : State) (u : Nat) (w : Word) : State :=
  let p := s.pond u
  if 4 ≤ p.xsQ.length || s.lineStOf (u / 8) == .stopping then s.stall u
  else (s.modPond u fun p => { p with xsQ := p.xsQ ++ [{ p.item w with x := p.sreg (w.field 47 5) }] }).adv u

def iPhase (s : State) (u : Nat) (w : Word) : State :=
  if w.flag 51 && !(s.pond u).drained then s.modPond u fun p => { p with wait := .drain }
  else (s.phaseMark u w).adv u

/-! Issue. -/

/-- The effect of any instruction at issue, by opcode (R147). -/
def issueAny (s : State) (u : Nat) (w : Word) : State :=
  let op := w.field 56 8
  if op = 0x00 then iNop s u w
  else if op = 0x01 then iEnd s u w
  else if op = 0x02 then iBr s u w
  else if op = 0x03 then iLoop s u w
  else if op = 0x04 then iWait s u w
  else if op = 0x05 then iSignal s u w
  else if 0x10 ≤ op ∧ op ≤ 0x18 then iAlu s u w
  else if op = 0x19 then iAddi s u w
  else if op = 0x1A then iLih s u w
  else if op = 0x1B then iLd s u w
  else if op = 0x1C then iSd s u w
  else if op = 0x20 then iAld s u w
  else if op = 0x21 then iAadd s u w
  else if op = 0x22 then iAset s u w
  else if op = 0x30 then iTileLoad true s u w
  else if op = 0x31 then iTileLoad false s u w
  else if op = 0x38 then iMma false s u w
  else if op = 0x39 then iMma true s u w
  else if op = 0x40 then iSt s u w
  else if op = 0x41 then iStb s u w
  else if op = 0x42 then iLdt s u w
  else if op = 0x43 then iRel s u w
  else if op = 0x50 ∨ op = 0x51 then iVec s u w
  else if op = 0x60 then iSadd s u w
  else if op = 0x61 then iSwait s u w
  else if op = 0x70 then iXstart s u w
  else iPhase s u w

/-- The sequencer of pond `u` may issue, with `wait` as the reason why it last did not. -/
def State.mayIssue (s : State) (u : Nat) (wait : PondWait) : Bool :=
  s.pondWorks u && (s.pond u).mode == .run && (s.pond u).wait == wait

/-- Issues the instruction at the program counter by `f`. A program whose job has ended stops instead (R454). -/
def State.issueWith (s : State) (u : Nat) (f : State → Nat → Word → State) : State :=
  let p := s.pond u
  let w := p.insnAt p.pc
  if s.jobEnded (s.pondLine u) p.cur.job then (s.fail u 0x30).pump u
  else (f (s.undefIf (reservedSet w) .reservedInsnField) u w).pump u

/-- The row of an instruction: it issues at pond `u` when the sequencer stands at one that `sel` accepts. -/
def State.issueRow (s : State) (u : Nat) (sel : Word → Bool) (f : State → Nat → Word → State) : State :=
  if s.mayIssue u .none && sel ((s.pond u).insnAt (s.pond u).pc) then s.issueWith u f else s

/-- Accepts an opcode. -/
def isOp (op : Nat) (w : Word) : Bool := w.field 56 8 == op

/-- Accepts a VOP or VRED with a FUNC. -/
def isVec (op func : Nat) (w : Word) : Bool := w.field 56 8 == op && w.field 48 8 == func

end Sys2Proof.Machine
end

