-- ==== Sys2Proof/Machine/Sequencer.lean ====
section
/-!
DEFINITION. The rows of tile programs: one for each instruction, by opcode and FUNC, and the events that let a waiting
sequencer go on or end its program.
-/
namespace Sys2Proof.Machine

/-- NOP (R147). -/
def execNop (u : PondId) : State → Out := runU fun s => s.issueRow u (isOp 0x00) iNop

/-- END (R180). -/
def execEndProgram (u : PondId) : State → Out := runU fun s => s.issueRow u (isOp 0x01) iEnd

/-- BR (R148). -/
def execBr (u : PondId) : State → Out := runU fun s => s.issueRow u (isOp 0x02) iBr

/-- LOOP (R149). -/
def execLoop (u : PondId) : State → Out := runU fun s => s.issueRow u (isOp 0x03) iLoop

/-- WAIT (R150). -/
def execWait (u : PondId) : State → Out := runU fun s => s.issueRow u (isOp 0x04) iWait

/-- SIGNAL (R148). -/
def execSignal (u : PondId) : State → Out := runU fun s => s.issueRow u (isOp 0x05) iSignal

/-- ADD (R148). -/
def execAdd (u : PondId) : State → Out := runU fun s => s.issueRow u (isOp 0x10) iAlu

/-- SUB (R148). -/
def execSub (u : PondId) : State → Out := runU fun s => s.issueRow u (isOp 0x11) iAlu

/-- MUL (R148). -/
def execMul (u : PondId) : State → Out := runU fun s => s.issueRow u (isOp 0x12) iAlu

/-- AND (R148). -/
def execAnd (u : PondId) : State → Out := runU fun s => s.issueRow u (isOp 0x13) iAlu

/-- OR (R148). -/
def execOr (u : PondId) : State → Out := runU fun s => s.issueRow u (isOp 0x14) iAlu

/-- XOR (R148). -/
def execXor (u : PondId) : State → Out := runU fun s => s.issueRow u (isOp 0x15) iAlu

/-- SHL (R148). -/
def execShl (u : PondId) : State → Out := runU fun s => s.issueRow u (isOp 0x16) iAlu

/-- SHR (R148). -/
def execShr (u : PondId) : State → Out := runU fun s => s.issueRow u (isOp 0x17) iAlu

/-- SRA (R148). -/
def execSra (u : PondId) : State → Out := runU fun s => s.issueRow u (isOp 0x18) iAlu

/-- ADDI (R148). -/
def execAddi (u : PondId) : State → Out := runU fun s => s.issueRow u (isOp 0x19) iAddi

/-- LIH (R148). -/
def execLih (u : PondId) : State → Out := runU fun s => s.issueRow u (isOp 0x1A) iLih

/-- LD (R148). -/
def execLd (u : PondId) : State → Out := runU fun s => s.issueRow u (isOp 0x1B) iLd

/-- SD (R148). -/
def execSd (u : PondId) : State → Out := runU fun s => s.issueRow u (isOp 0x1C) iSd

/-- ALD (R155). -/
def execAld (u : PondId) : State → Out := runU fun s => s.issueRow u (isOp 0x20) iAld

/-- AADD (R155). -/
def execAadd (u : PondId) : State → Out := runU fun s => s.issueRow u (isOp 0x21) iAadd

/-- ASET (R155). -/
def execAset (u : PondId) : State → Out := runU fun s => s.issueRow u (isOp 0x22) iAset

/-- LDA (R156). -/
def execLda (u : PondId) : State → Out := runU fun s => s.issueRow u (isOp 0x30) (iTileLoad true)

/-- LDB (R156). -/
def execLdb (u : PondId) : State → Out := runU fun s => s.issueRow u (isOp 0x31) (iTileLoad false)

/-- MMA (R160). -/
def execMma (u : PondId) : State → Out := runU fun s => s.issueRow u (isOp 0x38) (iMma false)

/-- MMAG (R160). -/
def execMmag (u : PondId) : State → Out := runU fun s => s.issueRow u (isOp 0x39) (iMma true)

/-- ST (R165). -/
def execSt (u : PondId) : State → Out := runU fun s => s.issueRow u (isOp 0x40) iSt

/-- STB (R166). -/
def execStb (u : PondId) : State → Out := runU fun s => s.issueRow u (isOp 0x41) iStb

/-- LDT (R166). -/
def execLdt (u : PondId) : State → Out := runU fun s => s.issueRow u (isOp 0x42) iLdt

/-- REL (R162). -/
def execRel (u : PondId) : State → Out := runU fun s => s.issueRow u (isOp 0x43) iRel

/-- SADD (R170). -/
def execSadd (u : PondId) : State → Out := runU fun s => s.issueRow u (isOp 0x60) iSadd

/-- SWAIT (R170). -/
def execSwait (u : PondId) : State → Out := runU fun s => s.issueRow u (isOp 0x61) iSwait

/-- XSTART (R174). -/
def execXstart (u : PondId) : State → Out := runU fun s => s.issueRow u (isOp 0x70) iXstart

/-- PHASE (R175). -/
def execPhase (u : PondId) : State → Out := runU fun s => s.issueRow u (isOp 0x78) iPhase

/-- VOP COPY (R200). -/
def execVopCopy (u : PondId) : State → Out := runU fun s => s.issueRow u (isVec 0x50 0x00) iVec

/-- VOP ADD (R200). -/
def execVopAdd (u : PondId) : State → Out := runU fun s => s.issueRow u (isVec 0x50 0x01) iVec

/-- VOP SUB (R200). -/
def execVopSub (u : PondId) : State → Out := runU fun s => s.issueRow u (isVec 0x50 0x02) iVec

/-- VOP MUL (R200). -/
def execVopMul (u : PondId) : State → Out := runU fun s => s.issueRow u (isVec 0x50 0x03) iVec

/-- VOP DIV (R200). -/
def execVopDiv (u : PondId) : State → Out := runU fun s => s.issueRow u (isVec 0x50 0x04) iVec

/-- VOP FMA (R200). -/
def execVopFma (u : PondId) : State → Out := runU fun s => s.issueRow u (isVec 0x50 0x05) iVec

/-- VOP FILL (R200). -/
def execVopFill (u : PondId) : State → Out := runU fun s => s.issueRow u (isVec 0x50 0x06) iVec

/-- VOP ADDS (R200). -/
def execVopAdds (u : PondId) : State → Out := runU fun s => s.issueRow u (isVec 0x50 0x07) iVec

/-- VOP MULS (R200). -/
def execVopMuls (u : PondId) : State → Out := runU fun s => s.issueRow u (isVec 0x50 0x08) iVec

/-- VOP FMAS (R200). -/
def execVopFmas (u : PondId) : State → Out := runU fun s => s.issueRow u (isVec 0x50 0x09) iVec

/-- VOP MAX (R200). -/
def execVopMax (u : PondId) : State → Out := runU fun s => s.issueRow u (isVec 0x50 0x0A) iVec

/-- VOP MIN (R200). -/
def execVopMin (u : PondId) : State → Out := runU fun s => s.issueRow u (isVec 0x50 0x0B) iVec

/-- VOP MAXS (R200). -/
def execVopMaxs (u : PondId) : State → Out := runU fun s => s.issueRow u (isVec 0x50 0x0C) iVec

/-- VOP ABS (R200). -/
def execVopAbs (u : PondId) : State → Out := runU fun s => s.issueRow u (isVec 0x50 0x0D) iVec

/-- VOP NEG (R200). -/
def execVopNeg (u : PondId) : State → Out := runU fun s => s.issueRow u (isVec 0x50 0x0E) iVec

/-- VOP ADDROW (R200). -/
def execVopAddrow (u : PondId) : State → Out := runU fun s => s.issueRow u (isVec 0x50 0x10) iVec

/-- VOP SUBROW (R200). -/
def execVopSubrow (u : PondId) : State → Out := runU fun s => s.issueRow u (isVec 0x50 0x11) iVec

/-- VOP MULROW (R200). -/
def execVopMulrow (u : PondId) : State → Out := runU fun s => s.issueRow u (isVec 0x50 0x12) iVec

/-- VOP DIVROW (R200). -/
def execVopDivrow (u : PondId) : State → Out := runU fun s => s.issueRow u (isVec 0x50 0x13) iVec

/-- VOP ADDCOL (R200). -/
def execVopAddcol (u : PondId) : State → Out := runU fun s => s.issueRow u (isVec 0x50 0x14) iVec

/-- VOP MULCOL (R200). -/
def execVopMulcol (u : PondId) : State → Out := runU fun s => s.issueRow u (isVec 0x50 0x15) iVec

/-- VOP RECIP (R200). -/
def execVopRecip (u : PondId) : State → Out := runU fun s => s.issueRow u (isVec 0x50 0x20) iVec

/-- VOP SQRT (R200). -/
def execVopSqrt (u : PondId) : State → Out := runU fun s => s.issueRow u (isVec 0x50 0x21) iVec

/-- VOP RSQRT (R200). -/
def execVopRsqrt (u : PondId) : State → Out := runU fun s => s.issueRow u (isVec 0x50 0x22) iVec

/-- VOP EXP (R200). -/
def execVopExp (u : PondId) : State → Out := runU fun s => s.issueRow u (isVec 0x50 0x23) iVec

/-- VOP EXP2 (R200). -/
def execVopExp2 (u : PondId) : State → Out := runU fun s => s.issueRow u (isVec 0x50 0x24) iVec

/-- VOP LOG (R200). -/
def execVopLog (u : PondId) : State → Out := runU fun s => s.issueRow u (isVec 0x50 0x25) iVec

/-- VOP TANH (R200). -/
def execVopTanh (u : PondId) : State → Out := runU fun s => s.issueRow u (isVec 0x50 0x26) iVec

/-- VOP SIGMOID (R200). -/
def execVopSigmoid (u : PondId) : State → Out := runU fun s => s.issueRow u (isVec 0x50 0x27) iVec

/-- VOP SILU (R200). -/
def execVopSilu (u : PondId) : State → Out := runU fun s => s.issueRow u (isVec 0x50 0x28) iVec

/-- VOP GELU (R200). -/
def execVopGelu (u : PondId) : State → Out := runU fun s => s.issueRow u (isVec 0x50 0x29) iVec

/-- VOP EXPSUBROW (R200). -/
def execVopExpsubrow (u : PondId) : State → Out := runU fun s => s.issueRow u (isVec 0x50 0x2A) iVec

/-- VOP CMPLT (R200). -/
def execVopCmplt (u : PondId) : State → Out := runU fun s => s.issueRow u (isVec 0x50 0x30) iVec

/-- VOP CMPLE (R200). -/
def execVopCmple (u : PondId) : State → Out := runU fun s => s.issueRow u (isVec 0x50 0x31) iVec

/-- VOP CMPEQ (R200). -/
def execVopCmpeq (u : PondId) : State → Out := runU fun s => s.issueRow u (isVec 0x50 0x32) iVec

/-- VOP CMPLTB (R200). -/
def execVopCmpltb (u : PondId) : State → Out := runU fun s => s.issueRow u (isVec 0x50 0x33) iVec

/-- VOP DIAG (R200). -/
def execVopDiag (u : PondId) : State → Out := runU fun s => s.issueRow u (isVec 0x50 0x38) iVec

/-- VOP CVTI (R200). -/
def execVopCvti (u : PondId) : State → Out := runU fun s => s.issueRow u (isVec 0x50 0x3C) iVec

/-- VRED SUM (R206). -/
def execVredSum (u : PondId) : State → Out := runU fun s => s.issueRow u (isVec 0x51 0x80) iVec

/-- VRED PROD (R206). -/
def execVredProd (u : PondId) : State → Out := runU fun s => s.issueRow u (isVec 0x51 0x81) iVec

/-- VRED MAX (R206). -/
def execVredMax (u : PondId) : State → Out := runU fun s => s.issueRow u (isVec 0x51 0x82) iVec

/-- VRED MIN (R206). -/
def execVredMin (u : PondId) : State → Out := runU fun s => s.issueRow u (isVec 0x51 0x83) iVec

/-- VRED ARGMAX (R206). -/
def execVredArgmax (u : PondId) : State → Out := runU fun s => s.issueRow u (isVec 0x51 0x84) iVec

/-- VRED ARGMIN (R206). -/
def execVredArgmin (u : PondId) : State → Out := runU fun s => s.issueRow u (isVec 0x51 0x85) iVec

/-- VRED SUMSQ (R206). -/
def execVredSumsq (u : PondId) : State → Out := runU fun s => s.issueRow u (isVec 0x51 0x86) iVec

/-- VRED ABSMAX (R206). -/
def execVredAbsmax (u : PondId) : State → Out := runU fun s => s.issueRow u (isVec 0x51 0x87) iVec

/-- PROGRAM_START: the next queued launch starts (R179). -/
def execProgramStart (u : PondId) : State → Out := runU fun s => ((s.startProgram u).settle u).pump u

/-- ENGINE_QUEUE_ROOM: an instruction that has stalled on a full queue issues, once the queue has room (R143). -/
def State.queueRoom (s : State) (u : Nat) : State :=
  let s := s.pump u
  if s.mayIssue u .queueRoom then (s.modPond u fun p => { p with wait := .none }).issueWith u issueAny else s

/-- ENGINE_QUEUE_ROOM (R143). -/
def execEngineQueueRoom (u : PondId) : State → Out := runU fun s => s.queueRoom u

/-- WAIT_DONE: the awaited classes have finished (R150). -/
def State.waitDone (s : State) (u : Nat) : State :=
  let s := s.pump u
  match (s.pond u).wait with
  | .classes m =>
    if s.pondWorks u && (s.pond u).mode == .run && (s.pond u).classesDone m then (s.waitOver u m).pump u else s
  | _ => s

/-- WAIT_DONE (R150). -/
def execWaitDone (u : PondId) : State → Out := runU fun s => s.waitDone u

/-- SWAIT_SATISFIED: the counter has reached the value, and issue goes on (R170). -/
def State.swaitOver (s : State) (u : Nat) : State :=
  match (s.pond u).wait with
  | .sync i v =>
    if s.pondWorks u && (s.pond u).mode == .run && s.counterReached (s.pondLine u) i v then
      ((s.acquire u).adv u).pump u
    else s
  | _ => s

/-- SWAIT_SATISFIED (R170). -/
def execSwaitSatisfied (u : PondId) : State → Out := runU fun s => s.swaitOver u

/-- WAIT_TIMEOUT: a SWAIT has been unsatisfied for PD_WAIT_LIMIT µs (R173). -/
def State.swaitTimeout (s : State) (u : Nat) : State :=
  let p := s.pond u
  let limit := s.fld (pdKey u 0x38) 0 32
  match p.wait with
  | .sync i v =>
    if s.pondWorks u && p.mode == .run && limit != 0 && decide (p.waitFrom + limit * 1000 ≤ s.time)
        && !s.counterReached (s.pondLine u) i v then (s.fail u 0x22).pump u
    else s
  | _ => s

/-- WAIT_TIMEOUT (R173). -/
def execWaitTimeout (u : PondId) : State → Out := runU fun s => s.swaitTimeout u

/-- RUN_LIMIT: the program has run for longer than PD_RUN_LIMIT ms (R184). -/
def State.runLimit (s : State) (u : Nat) : State :=
  let p := s.pond u
  let limit := s.fld (pdKey u 0x40) 0 32
  if s.pondWorks u && p.mode != .idle && limit != 0 && decide (p.startTime + limit * 1000000 < s.time) then
    (s.cutProgram u 0x23).pump u
  else s

/-- RUN_LIMIT (R184). -/
def execRunLimit (u : PondId) : State → Out := runU fun s => s.runLimit u

/-- RELEASE_END: releases whose earlier reads are over end, and their slots are FREE (R192). -/
def State.releaseEnd (s : State) (u : Nat) : State :=
  let s := s.pump u
  if s.pondWorks u then
    (s.modPond u fun p =>
      (List.range 8).foldl (fun p k =>
        let sl := p.slot k
        if sl.st = .releasing ∧ p.ticketReadPending sl.ticket sl.relSeq = false then p.modSlot k fun _ => {} else p) p).tryFinish u
  else s

/-- RELEASE_END (R192). -/
def execReleaseEnd (u : PondId) : State → Out := runU fun s => s.releaseEnd u

end Sys2Proof.Machine
end

