-- ==== Sys2Proof/Machine/Dispatch.lean ====
section
/-!
DEFINITION. Dispatch: one arm for each constructor of `Instr`.
-/
namespace Sys2Proof.Machine

/-- The effect of a command on everything but the queue. -/
def exec (i : Instr) (s : State) : Host.Outcome State Fault Refusal :=
  match i with
  | .registerWrite via fn off acc v => Sys2Proof.Machine.execRegisterWrite via fn off acc v s
  | .start via l v => Sys2Proof.Machine.execStart via l v s
  | .stop via l v => Sys2Proof.Machine.execStop via l v s
  | .reset via l v => Sys2Proof.Machine.execReset via l v s
  | .lock via l v => Sys2Proof.Machine.execLock via l v s
  | .hubLineStop v => Sys2Proof.Machine.execHubLineStop v s
  | .lineReady l => Sys2Proof.Machine.execLineReady l s
  | .lineDrained l => Sys2Proof.Machine.execLineDrained l s
  | .ttLoad v => Sys2Proof.Machine.execTtLoad v s
  | .ttDryRun v => Sys2Proof.Machine.execTtDryRun v s
  | .ttImageReadDone readOk sigOk => Sys2Proof.Machine.execTtImageReadDone readOk sigOk s
  | .ttApplyDone => Sys2Proof.Machine.execTtApplyDone s
  | .ttPersistDone ok => Sys2Proof.Machine.execTtPersistDone ok s
  | .slotClaim u grids => Sys2Proof.Machine.execSlotClaim u grids s
  | .slotFull u g shadow => Sys2Proof.Machine.execSlotFull u g shadow s
  | .startRamp g => Sys2Proof.Machine.execStartRamp g s
  | .stopRamp g => Sys2Proof.Machine.execStopRamp g s
  | .rampStageEnd g => Sys2Proof.Machine.execRampStageEnd g s
  | .gridIdle g => Sys2Proof.Machine.execGridIdle g s
  | .tileBoundaryTakeOut g => Sys2Proof.Machine.execTileBoundaryTakeOut g s
  | .holdNew via g v => Sys2Proof.Machine.execHoldNew via g v s
  | .testReq via g v => Sys2Proof.Machine.execTestReq via g v s
  | .engineQueueRoom u => Sys2Proof.Machine.execEngineQueueRoom u s
  | .nop u => Sys2Proof.Machine.execNop u s
  | .endProgram u => Sys2Proof.Machine.execEndProgram u s
  | .br u => Sys2Proof.Machine.execBr u s
  | .loop u => Sys2Proof.Machine.execLoop u s
  | .wait u => Sys2Proof.Machine.execWait u s
  | .waitDone u => Sys2Proof.Machine.execWaitDone u s
  | .signal u => Sys2Proof.Machine.execSignal u s
  | .add u => Sys2Proof.Machine.execAdd u s
  | .sub u => Sys2Proof.Machine.execSub u s
  | .mul u => Sys2Proof.Machine.execMul u s
  | .and u => Sys2Proof.Machine.execAnd u s
  | .or u => Sys2Proof.Machine.execOr u s
  | .xor u => Sys2Proof.Machine.execXor u s
  | .shl u => Sys2Proof.Machine.execShl u s
  | .shr u => Sys2Proof.Machine.execShr u s
  | .sra u => Sys2Proof.Machine.execSra u s
  | .addi u => Sys2Proof.Machine.execAddi u s
  | .lih u => Sys2Proof.Machine.execLih u s
  | .ld u => Sys2Proof.Machine.execLd u s
  | .sd u => Sys2Proof.Machine.execSd u s
  | .ald u => Sys2Proof.Machine.execAld u s
  | .aadd u => Sys2Proof.Machine.execAadd u s
  | .aset u => Sys2Proof.Machine.execAset u s
  | .lda u => Sys2Proof.Machine.execLda u s
  | .ldb u => Sys2Proof.Machine.execLdb u s
  | .mma u => Sys2Proof.Machine.execMma u s
  | .mmag u => Sys2Proof.Machine.execMmag u s
  | .st u => Sys2Proof.Machine.execSt u s
  | .stb u => Sys2Proof.Machine.execStb u s
  | .ldt u => Sys2Proof.Machine.execLdt u s
  | .rel u => Sys2Proof.Machine.execRel u s
  | .releaseEnd u => Sys2Proof.Machine.execReleaseEnd u s
  | .sadd u => Sys2Proof.Machine.execSadd u s
  | .swait u => Sys2Proof.Machine.execSwait u s
  | .swaitSatisfied u => Sys2Proof.Machine.execSwaitSatisfied u s
  | .waitTimeout u => Sys2Proof.Machine.execWaitTimeout u s
  | .runLimit u => Sys2Proof.Machine.execRunLimit u s
  | .xstart u => Sys2Proof.Machine.execXstart u s
  | .phase u => Sys2Proof.Machine.execPhase u s
  | .pdLaunch via u v => Sys2Proof.Machine.execPdLaunch via u v s
  | .programStart u => Sys2Proof.Machine.execProgramStart u s
  | .pdAbort via u v => Sys2Proof.Machine.execPdAbort via u v s
  | .holdLaunch via u v => Sys2Proof.Machine.execHoldLaunch via u v s
  | .flushQueue via u v => Sys2Proof.Machine.execFlushQueue via u v s
  | .imemLoad via u v => Sys2Proof.Machine.execImemLoad via u v s
  | .imemLoadDone u => Sys2Proof.Machine.execImemLoadDone u s
  | .vopCopy u => Sys2Proof.Machine.execVopCopy u s
  | .vopAdd u => Sys2Proof.Machine.execVopAdd u s
  | .vopSub u => Sys2Proof.Machine.execVopSub u s
  | .vopMul u => Sys2Proof.Machine.execVopMul u s
  | .vopDiv u => Sys2Proof.Machine.execVopDiv u s
  | .vopFma u => Sys2Proof.Machine.execVopFma u s
  | .vopFill u => Sys2Proof.Machine.execVopFill u s
  | .vopAdds u => Sys2Proof.Machine.execVopAdds u s
  | .vopMuls u => Sys2Proof.Machine.execVopMuls u s
  | .vopFmas u => Sys2Proof.Machine.execVopFmas u s
  | .vopMax u => Sys2Proof.Machine.execVopMax u s
  | .vopMin u => Sys2Proof.Machine.execVopMin u s
  | .vopMaxs u => Sys2Proof.Machine.execVopMaxs u s
  | .vopAbs u => Sys2Proof.Machine.execVopAbs u s
  | .vopNeg u => Sys2Proof.Machine.execVopNeg u s
  | .vopAddrow u => Sys2Proof.Machine.execVopAddrow u s
  | .vopSubrow u => Sys2Proof.Machine.execVopSubrow u s
  | .vopMulrow u => Sys2Proof.Machine.execVopMulrow u s
  | .vopDivrow u => Sys2Proof.Machine.execVopDivrow u s
  | .vopAddcol u => Sys2Proof.Machine.execVopAddcol u s
  | .vopMulcol u => Sys2Proof.Machine.execVopMulcol u s
  | .vopRecip u => Sys2Proof.Machine.execVopRecip u s
  | .vopSqrt u => Sys2Proof.Machine.execVopSqrt u s
  | .vopRsqrt u => Sys2Proof.Machine.execVopRsqrt u s
  | .vopExp u => Sys2Proof.Machine.execVopExp u s
  | .vopExp2 u => Sys2Proof.Machine.execVopExp2 u s
  | .vopLog u => Sys2Proof.Machine.execVopLog u s
  | .vopTanh u => Sys2Proof.Machine.execVopTanh u s
  | .vopSigmoid u => Sys2Proof.Machine.execVopSigmoid u s
  | .vopSilu u => Sys2Proof.Machine.execVopSilu u s
  | .vopGelu u => Sys2Proof.Machine.execVopGelu u s
  | .vopExpsubrow u => Sys2Proof.Machine.execVopExpsubrow u s
  | .vopCmplt u => Sys2Proof.Machine.execVopCmplt u s
  | .vopCmple u => Sys2Proof.Machine.execVopCmple u s
  | .vopCmpeq u => Sys2Proof.Machine.execVopCmpeq u s
  | .vopCmpltb u => Sys2Proof.Machine.execVopCmpltb u s
  | .vopDiag u => Sys2Proof.Machine.execVopDiag u s
  | .vopCvti u => Sys2Proof.Machine.execVopCvti u s
  | .vredSum u => Sys2Proof.Machine.execVredSum u s
  | .vredProd u => Sys2Proof.Machine.execVredProd u s
  | .vredMax u => Sys2Proof.Machine.execVredMax u s
  | .vredMin u => Sys2Proof.Machine.execVredMin u s
  | .vredArgmax u => Sys2Proof.Machine.execVredArgmax u s
  | .vredArgmin u => Sys2Proof.Machine.execVredArgmin u s
  | .vredSumsq u => Sys2Proof.Machine.execVredSumsq u s
  | .vredAbsmax u => Sys2Proof.Machine.execVredAbsmax u s
  | .spareCopyDone b bank => Sys2Proof.Machine.execSpareCopyDone b bank s
  | .channelLinkLoss mc => Sys2Proof.Machine.execChannelLinkLoss mc s
  | .channelRetrainDone mc ok => Sys2Proof.Machine.execChannelRetrainDone mc ok s
  | .scrubPass b rsv found => Sys2Proof.Machine.execScrubPass b rsv found s
  | .scrubPassEnd b rsv => Sys2Proof.Machine.execScrubPassEnd b rsv s
  | .hardRepair mc row ok => Sys2Proof.Machine.execHardRepair mc row ok s
  | .refresh b pkg rate => Sys2Proof.Machine.execRefresh b pkg rate s
  | .loadClassChange b full => Sys2Proof.Machine.execLoadClassChange b full s
  | .liveCheck mc => Sys2Proof.Machine.execLiveCheck mc s
  | .liveCheckDone mc pass => Sys2Proof.Machine.execLiveCheckDone mc pass s
  | .lineIdle l => Sys2Proof.Machine.execLineIdle l s
  | .quietRetrain mc => Sys2Proof.Machine.execQuietRetrain mc s
  | .calibrationAbandon mc => Sys2Proof.Machine.execCalibrationAbandon mc s
  | .grantMs via b v => Sys2Proof.Machine.execGrantMs via b v s
  | .maintWindowEnd b => Sys2Proof.Machine.execMaintWindowEnd b s
  | .xeChSubmit via c v => Sys2Proof.Machine.execXeChSubmit via c v s
  | .transferStart c => Sys2Proof.Machine.execTransferStart c s
  | .deliveryCommit c => Sys2Proof.Machine.execDeliveryCommit c s
  | .xeChAbort via c v => Sys2Proof.Machine.execXeChAbort via c v s
  | .xeChHold via c v => Sys2Proof.Machine.execXeChHold via c v s
  | .xlatFenceGo via l v => Sys2Proof.Machine.execXlatFenceGo via l v s
  | .fenceBegin l => Sys2Proof.Machine.execFenceBegin l s
  | .fenceComplete l => Sys2Proof.Machine.execFenceComplete l s
  | .hostEn via l v => Sys2Proof.Machine.execHostEn via l v s
  | .readShared agent line => Sys2Proof.Machine.execReadShared agent line s
  | .readUnique agent line => Sys2Proof.Machine.execReadUnique agent line s
  | .upgrade agent line => Sys2Proof.Machine.execUpgrade agent line s
  | .writeBack agent line => Sys2Proof.Machine.execWriteBack agent line s
  | .cleanEvict agent line => Sys2Proof.Machine.execCleanEvict agent line s
  | .snpShared agent line => Sys2Proof.Machine.execSnpShared agent line s
  | .snpInvalidate agent line => Sys2Proof.Machine.execSnpInvalidate agent line s
  | .snpReadNoAlloc agent line => Sys2Proof.Machine.execSnpReadNoAlloc agent line s
  | .snoopResponse agent line => Sys2Proof.Machine.execSnoopResponse agent line s
  | .wbAck agent line => Sys2Proof.Machine.execWbAck agent line s
  | .cachelessAccess l addr acc ecc => Sys2Proof.Machine.execCachelessAccess l addr acc ecc s
  | .agentTimeout l agent => Sys2Proof.Machine.execAgentTimeout l agent s
  | .protocolError l agent => Sys2Proof.Machine.execProtocolError l agent s
  | .linkUp speed width cxl big hdm => Sys2Proof.Machine.execLinkUp speed width cxl big hdm s
  | .linkDown => Sys2Proof.Machine.execLinkDown s
  | .hotReset => Sys2Proof.Machine.execHotReset s
  | .perst => Sys2Proof.Machine.execPerst s
  | .linkRetrain speed width => Sys2Proof.Machine.execLinkRetrain speed width s
  | .lineFlr l => Sys2Proof.Machine.execLineFlr l s
  | .pf0Flr => Sys2Proof.Machine.execPf0Flr s
  | .claim via l v => Sys2Proof.Machine.execClaim via l v s
  | .winBaseWrite via l v => Sys2Proof.Machine.execWinBaseWrite via l v s
  | .bar2Access fn off acc ecc => Sys2Proof.Machine.execBar2Access fn off acc ecc s
  | .cxlMemAccess addr op => Sys2Proof.Machine.execCxlMemAccess addr op s
  | .queueEnable via l v => Sys2Proof.Machine.execQueueEnable via l v s
  | .queueDisable via l v => Sys2Proof.Machine.execQueueDisable via l v s
  | .queueDisableDone l => Sys2Proof.Machine.execQueueDisableDone l s
  | .queueResume via l v => Sys2Proof.Machine.execQueueResume via l v s
  | .sqDoorbell via l q v => Sys2Proof.Machine.execSqDoorbell via l q v s
  | .cqHeadDoorbell via l q v => Sys2Proof.Machine.execCqHeadDoorbell via l q v s
  | .sqFetchReturn l q => Sys2Proof.Machine.execSqFetchReturn l q s
  | .refetch l q => Sys2Proof.Machine.execRefetch l q s
  | .aporiNop l q => Sys2Proof.Machine.execAporiNop l q s
  | .launch l q => Sys2Proof.Machine.execLaunch l q s
  | .xfer l q => Sys2Proof.Machine.execXfer l q s
  | .writeInline l q => Sys2Proof.Machine.execWriteInline l q s
  | .readInline l q => Sys2Proof.Machine.execReadInline l q s
  | .syncAdd l q => Sys2Proof.Machine.execSyncAdd l q s
  | .syncWait l q => Sys2Proof.Machine.execSyncWait l q s
  | .syncWaitSatisfied l q => Sys2Proof.Machine.execSyncWaitSatisfied l q s
  | .syncWaitTimeout l q => Sys2Proof.Machine.execSyncWaitTimeout l q s
  | .syncSet l q => Sys2Proof.Machine.execSyncSet l q s
  | .mirror l q => Sys2Proof.Machine.execMirror l q s
  | .xlatFence l q => Sys2Proof.Machine.execXlatFence l q s
  | .lockInterface l => Sys2Proof.Machine.execLockInterface l s
  | .startInterface l => Sys2Proof.Machine.execStartInterface l s
  | .stopInterface l => Sys2Proof.Machine.execStopInterface l s
  | .ideIntegrityFail l => Sys2Proof.Machine.execIdeIntegrityFail l s
  | .ideKm stream request => Sys2Proof.Machine.execIdeKm stream request s
  | .codewordReceive p cw => Sys2Proof.Machine.execCodewordReceive p cw s
  | .railNak p from_ => Sys2Proof.Machine.execRailNak p from_ s
  | .flitWrite p => Sys2Proof.Machine.execFlitWrite p s
  | .flitReduce p => Sys2Proof.Machine.execFlitReduce p s
  | .flitReadReq p => Sys2Proof.Machine.execFlitReadReq p s
  | .flitReadData p => Sys2Proof.Machine.execFlitReadData p s
  | .flitAck p => Sys2Proof.Machine.execFlitAck p s
  | .counterAdd p => Sys2Proof.Machine.execCounterAdd p s
  | .handshake p => Sys2Proof.Machine.execHandshake p s
  | .flitClose p => Sys2Proof.Machine.execFlitClose p s
  | .portTrain p => Sys2Proof.Machine.execPortTrain p s
  | .portTrainDone p res => Sys2Proof.Machine.execPortTrainDone p res s
  | .portDark p => Sys2Proof.Machine.execPortDark p s
  | .fabricIdWrite v => Sys2Proof.Machine.execFabricIdWrite v s
  | .ctxOpen via l v => Sys2Proof.Machine.execCtxOpen via l v s
  | .ctxClose via l v => Sys2Proof.Machine.execCtxClose via l v s
  | .ctxCloseDone l x => Sys2Proof.Machine.execCtxCloseDone l x s
  | .ctxRekey via l v => Sys2Proof.Machine.execCtxRekey via l v s
  | .rekeyDue l x => Sys2Proof.Machine.execRekeyDue l x s
  | .epochGraceEnd l x => Sys2Proof.Machine.execEpochGraceEnd l x s
  | .pathWaitExpiry l x => Sys2Proof.Machine.execPathWaitExpiry l x s
  | .ackTimeout l x => Sys2Proof.Machine.execAckTimeout l x s
  | .pathLost p => Sys2Proof.Machine.execPathLost p s
  | .recalStep p dir => Sys2Proof.Machine.execRecalStep p dir s
  | .calNow via p v => Sys2Proof.Machine.execCalNow via p v s
  | .laneMirror p dir lane => Sys2Proof.Machine.execLaneMirror p dir lane s
  | .mirrorCompareDone p dir => Sys2Proof.Machine.execMirrorCompareDone p dir s
  | .laneSwitch p dir lane at_ => Sys2Proof.Machine.execLaneSwitch p dir lane at_ s
  | .laneAtReached p dir => Sys2Proof.Machine.execLaneAtReached p dir s
  | .recalStepDone p dir => Sys2Proof.Machine.execRecalStepDone p dir s
  | .laneFail p dir lane => Sys2Proof.Machine.execLaneFail p dir lane s
  | .laneRetire p dir lane => Sys2Proof.Machine.execLaneRetire p dir lane s
  | .laneHalf p dir => Sys2Proof.Machine.execLaneHalf p dir s
  | .portRetrain via p v => Sys2Proof.Machine.execPortRetrain via p v s
  | .quiesce via p v => Sys2Proof.Machine.execQuiesce via p v s
  | .arm via b v => Sys2Proof.Machine.execArm via b v s
  | .zeroingDone b e => Sys2Proof.Machine.execZeroingDone b e s
  | .cflAbort via b v => Sys2Proof.Machine.execCflAbort via b v s
  | .seedRead b e => Sys2Proof.Machine.execSeedRead b e s
  | .finishing b e => Sys2Proof.Machine.execFinishing b e s
  | .updSubmit via b v => Sys2Proof.Machine.execUpdSubmit via b v s
  | .layerStart b => Sys2Proof.Machine.execLayerStart b s
  | .rowCommit b => Sys2Proof.Machine.execRowCommit b s
  | .layerComplete b => Sys2Proof.Machine.execLayerComplete b s
  | .fenceOpen via l v => Sys2Proof.Machine.execFenceOpen via l v s
  | .fenceClose via l v => Sys2Proof.Machine.execFenceClose via l v s
  | .fenceClosed l => Sys2Proof.Machine.execFenceClosed l s
  | .updAbort via b v => Sys2Proof.Machine.execUpdAbort via b v s
  | .updHold via b v => Sys2Proof.Machine.execUpdHold via b v s
  | .updFlush via b v => Sys2Proof.Machine.execUpdFlush via b v s
  | .coreMemoryAccess h acc => Sys2Proof.Machine.execCoreMemoryAccess h acc s
  | .irqRouteWrite via l src v => Sys2Proof.Machine.execIrqRouteWrite via l src v s
  | .decSubmit via l v => Sys2Proof.Machine.execDecSubmit via l v s
  | .decodeStart l unit => Sys2Proof.Machine.execDecodeStart l unit s
  | .decodeComplete l unit => Sys2Proof.Machine.execDecodeComplete l unit s
  | .spurFlitReceive sp dir flit => Sys2Proof.Machine.execSpurFlitReceive sp dir flit s
  | .spurNak sp dir from_ => Sys2Proof.Machine.execSpurNak sp dir from_ s
  | .spurLockLoss sp => Sys2Proof.Machine.execSpurLockLoss sp s
  | .spurRetrainDone sp ok lanes => Sys2Proof.Machine.execSpurRetrainDone sp ok lanes s
  | .spurLaneFail sp dir lane => Sys2Proof.Machine.execSpurLaneFail sp dir lane s
  | .spurRecalStep sp dir => Sys2Proof.Machine.execSpurRecalStep sp dir s
  | .spurRetrain sp v => Sys2Proof.Machine.execSpurRetrain sp v s
  | .spurCalNow sp v => Sys2Proof.Machine.execSpurCalNow sp v s
  | .term via l v => Sys2Proof.Machine.execTerm via l v s
  | .clear via l v => Sys2Proof.Machine.execClear via l v s
  | .testDue kind unit => Sys2Proof.Machine.execTestDue kind unit s
  | .testBegin kind unit => Sys2Proof.Machine.execTestBegin kind unit s
  | .testComplete kind unit res => Sys2Proof.Machine.execTestComplete kind unit res s
  | .coreMigration b core res => Sys2Proof.Machine.execCoreMigration b core res s
  | .unitRead v => Sys2Proof.Machine.execUnitRead v s
  | .unitTest v => Sys2Proof.Machine.execUnitTest v s
  | .quarantine v => Sys2Proof.Machine.execQuarantine v s
  | .retire v => Sys2Proof.Machine.execRetire v s
  | .suspect v => Sys2Proof.Machine.execSuspect v s
  | .reinstate v => Sys2Proof.Machine.execReinstate v s
  | .surveyLoad v => Sys2Proof.Machine.execSurveyLoad v s
  | .surveyErase v => Sys2Proof.Machine.execSurveyErase v s
  | .runNow v => Sys2Proof.Machine.execRunNow v s
  | .surveyOpDone readOk sigOk flashOk => Sys2Proof.Machine.execSurveyOpDone readOk sigOk flashOk s
  | .offlineTest v => Sys2Proof.Machine.execOfflineTest v s
  | .commitSvn v => Sys2Proof.Machine.execCommitSvn v s
  | .ownerRequest v => Sys2Proof.Machine.execOwnerRequest v s
  | .getVersion t body => Sys2Proof.Machine.execGetVersion t body s
  | .getCapabilities t body => Sys2Proof.Machine.execGetCapabilities t body s
  | .negotiateAlgorithms t body => Sys2Proof.Machine.execNegotiateAlgorithms t body s
  | .getDigests t body => Sys2Proof.Machine.execGetDigests t body s
  | .getCertificate t body => Sys2Proof.Machine.execGetCertificate t body s
  | .challenge t body => Sys2Proof.Machine.execChallenge t body s
  | .getMeasurements t body => Sys2Proof.Machine.execGetMeasurements t body s
  | .keyExchange t body => Sys2Proof.Machine.execKeyExchange t body s
  | .finish t body => Sys2Proof.Machine.execFinish t body s
  | .heartbeat t body => Sys2Proof.Machine.execHeartbeat t body s
  | .keyUpdate t body => Sys2Proof.Machine.execKeyUpdate t body s
  | .endSession t body => Sys2Proof.Machine.execEndSession t body s
  | .chunkSend t body => Sys2Proof.Machine.execChunkSend t body s
  | .chunkGet t body => Sys2Proof.Machine.execChunkGet t body s
  | .vendorDefinedRequest t body => Sys2Proof.Machine.execVendorDefinedRequest t body s
  | .lineClearDone l => Sys2Proof.Machine.execLineClearDone l s
  | .drbgReseed => Sys2Proof.Machine.execDrbgReseed s
  | .rngHealthFail => Sys2Proof.Machine.execRngHealthFail s
  | .tenantValueUpdate draws => Sys2Proof.Machine.execTenantValueUpdate draws s
  | .sleepEntry l => Sys2Proof.Machine.execSleepEntry l s
  | .wake l => Sys2Proof.Machine.execWake l s
  | .wakeTolWrite via l v => Sys2Proof.Machine.execWakeTolWrite via l v s
  | .sleepExitDone l => Sys2Proof.Machine.execSleepExitDone l s
  | .selfRefreshExit b => Sys2Proof.Machine.execSelfRefreshExit b s
  | .selfRefreshReentry b => Sys2Proof.Machine.execSelfRefreshReentry b s
  | .powerSample readings => Sys2Proof.Machine.execPowerSample readings s
  | .budgetLoop => Sys2Proof.Machine.execBudgetLoop s
  | .pwrCapWrite v => Sys2Proof.Machine.execPwrCapWrite v s
  | .vfRevalidate b core pass => Sys2Proof.Machine.execVfRevalidate b core pass s
  | .entdaa addr => Sys2Proof.Machine.execEntdaa addr s
  | .setdasa addr => Sys2Proof.Machine.execSetdasa addr s
  | .rstdaa => Sys2Proof.Machine.execRstdaa s
  | .setnewda addr => Sys2Proof.Machine.execSetnewda addr s
  | .enec mask => Sys2Proof.Machine.execEnec mask s
  | .disec mask => Sys2Proof.Machine.execDisec mask s
  | .getpid => Sys2Proof.Machine.execGetpid s
  | .getbcr => Sys2Proof.Machine.execGetbcr s
  | .getdcr => Sys2Proof.Machine.execGetdcr s
  | .getstatus => Sys2Proof.Machine.execGetstatus s
  | .getmwl => Sys2Proof.Machine.execGetmwl s
  | .getmrl => Sys2Proof.Machine.execGetmrl s
  | .setmwl len => Sys2Proof.Machine.execSetmwl len s
  | .setmrl len => Sys2Proof.Machine.execSetmrl len s
  | .getcaps => Sys2Proof.Machine.execGetcaps s
  | .rstact action => Sys2Proof.Machine.execRstact action s
  | .smbusArp cmd => Sys2Proof.Machine.execSmbusArp cmd s
  | .setEndpointId binding eid => Sys2Proof.Machine.execSetEndpointId binding eid s
  | .setEventReceiver binding body => Sys2Proof.Machine.execSetEventReceiver binding body s
  | .pollForPlatformEventMessage binding body => Sys2Proof.Machine.execPollForPlatformEventMessage binding body s
  | .firmwareUpdateComponent binding comp image sigOk => Sys2Proof.Machine.execFirmwareUpdateComponent binding comp image sigOk s
  | .activateFirmware binding => Sys2Proof.Machine.execActivateFirmware binding s
  | .logRead binding body => Sys2Proof.Machine.execLogRead binding body s
  | .sensorRefresh readings => Sys2Proof.Machine.execSensorRefresh readings s
  | .telemetrySample l => Sys2Proof.Machine.execTelemetrySample l s
  | .telCtlWrite via l v => Sys2Proof.Machine.execTelCtlWrite via l v s
  | .repeatFlush => Sys2Proof.Machine.execRepeatFlush s
  | .logNote v => Sys2Proof.Machine.execLogNote v s
  | .logWall v => Sys2Proof.Machine.execLogWall v s
  | .powerOn => Sys2Proof.Machine.execPowerOn s
  | .modRst => Sys2Proof.Machine.execModRst s
  | .hubReset v => Sys2Proof.Machine.execHubReset v s
  | .watchdog => Sys2Proof.Machine.execWatchdog s
  | .boot => Sys2Proof.Machine.execBoot s
  | .bootStepDone res => Sys2Proof.Machine.execBootStepDone res s
  | .stepTimeout => Sys2Proof.Machine.execStepTimeout s
  | .recoveryWrite v => Sys2Proof.Machine.execRecoveryWrite v s
  | .recoveryWriteDone readOk sigOk flashOk => Sys2Proof.Machine.execRecoveryWriteDone readOk sigOk flashOk s
  | .powerLoss => Sys2Proof.Machine.execPowerLoss s
  | .rideThrough => Sys2Proof.Machine.execRideThrough s
  | .rideThroughExpiry => Sys2Proof.Machine.execRideThroughExpiry s
  | .rideThroughEnd => Sys2Proof.Machine.execRideThroughEnd s
  | .thermalTrip die => Sys2Proof.Machine.execThermalTrip die s
  | .crystalEdge => Sys2Proof.Machine.execCrystalEdge s
  | .signalBoxFailover => Sys2Proof.Machine.execSignalBoxFailover s
  | .spurRecalStepDone sp dir => Sys2Proof.Machine.execSpurRecalStepDone sp dir s
  | .applyComplete ok => Sys2Proof.Machine.execApplyComplete ok s
  | .ownerRequestDone readOk sigOk => Sys2Proof.Machine.execOwnerRequestDone readOk sigOk s

end Sys2Proof.Machine
end

