-- ==== Sys2Proof/Safety.lean ====
section
/-!
DEFINITION. What a safe state is, and the invariant that statements name: device time on the crystal's edges, and the
security counters in order.
-/
namespace Sys2Proof.Safety

open Sys2Proof.Machine

/-- Device time moves in steps of 40 ns (R513). -/
def TimeOk (s : State) : Prop := s.time % 40 = 0

/-- The identity leaf counter is never ahead of its reservation, and the reservation ends with the key's leaves (R480,
R481). -/
def VaultOk (v : Vault) : Prop := v.nextLeaf ≤ v.reserved ∧ v.reserved ≤ 0x100000 ∧ v.reserved % 16 = 0

/-- No leaf is ever used again, and the version floor never falls (R476, R480). -/
def VaultGrows (v w : Vault) : Prop := v.minSvn ≤ w.minSvn ∧ v.nextLeaf ≤ w.nextLeaf ∧ v.reserved ≤ w.reserved

/-- The invariant that every step keeps: device time on a crystal edge, the security counters in order, and the model's
own note clear between commands. -/
structure Inv (s : State) : Prop where
  time : TimeOk s
  vault : VaultOk s.vault
  note : s.misuse = none

/-! What an undefined outcome cannot change (R554, R555). -/

/-- What no undefined outcome of Line `l` changes (R554): the other Lines' records, units, queues and contexts, and the hub
with its Timetable, security counters, health records, Logbook and non-volatile memory. -/
structure LineBound (l : Nat) (s t : State) : Prop where
  lines : ∀ k, k ≠ l → t.line k = s.line k
  ponds : ∀ u, s.leaderOf (u / 8) ≠ l → t.pond u = s.pond u
  grids : ∀ g, s.leaderOf (g / 34) ≠ l → t.grid g = s.grid g
  chans : ∀ c, s.leaderOf (c / 16) ≠ l → t.chan c = s.chan c
  layers : ∀ b, s.leaderOf b ≠ l → t.layerQ b = s.layerQ b
  queues : ∀ k q, k ≠ l → q < 4096 → t.queue (qKey k q) = s.queue (qKey k q)
  ctxs : ∀ k c, k ≠ l → c < 4096 → t.ctx (ctxKey k c) = s.ctx (ctxKey k c)
  keys : ∀ b, (t.bmem b).keyGen = (s.bmem b).keyGen
  hub : t.tt = s.tt ∧ t.vault = s.vault ∧ t.health = s.health ∧ t.log = s.log ∧ t.nvm = s.nvm ∧ t.flash = s.flash

/-- What no undefined outcome of the module changes (R555): the version floor and the spent leaves, the owner key, committed
Logbook entries, and the confidential Lines. -/
structure ModuleBound (s t : State) : Prop where
  vault : VaultGrows s.vault t.vault
  owner : t.nvm.ownerHash = s.nvm.ownerHash
  log : ∀ e ∈ s.log.entries, e ∈ t.log.entries
  lines : ∀ l, s.confidential l = true → t.confidential l = true ∧ t.line l = s.line l

/-- What an undefined case of a scope, met for the Line led by `l`, may leave behind. `step` answers the case's fault in
its place: this says how far the hardware may go. A case of System scope reaches other modules too, and in this one it is
bounded as one of Module scope. -/
def Bounded (scope : Scope) (l : Nat) (s t : State) : Prop :=
  match scope with
  | .line => LineBound l s t
  | .module | .system => ModuleBound s t

/-- A step goes on: it answers a next state. -/
def GoesOn (s : State) : Prop := ∃ t, step s = .next t

/-- A command answers a next state of which `P` holds. -/
def Gives (c : Instr) (s : State) (P : State → Prop) : Prop := ∃ t, exec c s = .next t ∧ P t

/-! What a statement about one unit leaves unchanged. -/

/-- Between `s` and `t` only pond `u` has changed, and it is now `q`. -/
def OnlyPond (s t : State) (u : Nat) (q : Pond) : Prop :=
  t.pond u = q ∧ (∀ v, v ≠ u → t.pond v = s.pond v) ∧ { t with ponds := s.ponds } = s

/-- Between `s` and `t` only grid slot `g` has changed, and it is now `q`. -/
def OnlyGrid (s t : State) (g : Nat) (q : GridSlot) : Prop :=
  t.grid g = q ∧ (∀ v, v ≠ g → t.grid v = s.grid v) ∧ { t with grids := s.grids } = s

/-- Between `s` and `t` only the stored register `k` has changed, and it now holds `v`. -/
def OnlyReg (s t : State) (k : Nat) (v : Word) : Prop :=
  t.reg k = v ∧ (∀ j, j ≠ k → t.reg j = s.reg j) ∧ { t with regs := s.regs } = s

/-- Between `s` and `t` only Line record `l` has changed, and it is now `q`. -/
def OnlyLine (s t : State) (l : Nat) (q : Line) : Prop :=
  t.line l = q ∧ (∀ v, v ≠ l → t.line v = s.line v) ∧ { t with lines := s.lines } = s

/-- Between `s` and `t` only the memory record of basin `b` has changed, and it is now `q`. -/
def OnlyBmem (s t : State) (b : Nat) (q : BasinMem) : Prop :=
  t.bmem b = q ∧ (∀ v, v ≠ b → t.bmem v = s.bmem v) ∧ { t with basinMem := s.basinMem } = s

/-- The Line led by `l` has nothing that waits to start or to complete: no queued launch or layer and no dispatched
command. -/
structure NothingQueued (s : State) (l : Nat) : Prop where
  launches : ∀ b ∈ s.members l, ∀ k < 8, (s.pond (b * 8 + k)).launches = []
  layers : ∀ b ∈ s.members l, s.layerQ b = []
  commands : ∀ q ∈ s.lineQueues l, (s.queue (qKey l q)).running = []

/-- Nothing is under way on granule `g`: no transaction is open on it at its home, no copy of it is on its way, no request
waits for it, and no bit error waits to be found in it (R219, R294). -/
structure Quiet (s : State) (g : Nat) : Prop where
  txn : s.txnOf g = none
  moving : s.movingData g = none
  waits : (s.coh.waits.any fun w => w.line == g) = false
  errs : tblGet 0 s.errs g = 0

/-- The cache of agent `a` and the directory of the home of line `g` have room for one more line, so that a grant of `g` to
`a` gives up no other (R4, R298). -/
structure CacheRoom (s : State) (a g : Nat) : Prop where
  cache : (s.coh.caches.filter fun e => e.1 / 2 ^ 46 == a).length < cacheLines a
  dir : (s.coh.dir.filter fun e => e.1 != g) = [] ∨ ∀ b, s.coh.dir.length < Config.dirEntries b

/-- Nothing is under way at any home, and no bit error waits to be found. -/
structure HomesIdle (s : State) : Prop where
  txns : s.coh.txns = []
  waits : s.coh.waits = []
  resps : s.coh.resps = []
  wbs : s.coh.wbs = []
  errs : s.errs = []

/-- The byte that an agent finds at a DPA of LPDDR5X or Reservoir: a dirty copy's or memory's (R294, R295). -/
def seen (s : State) (a : Nat) : Byte := (s.granule (a / 64)).1.getD (a % 64) 0

/-- A write of `n` bytes at `a`, within one granule, reaches memory of the Line led by `l`: its own memory, on a channel
that is not declared failed and away from what one unit alone may write, while the Line is not FAILED. -/
structure Writable (s : State) (l a n : Nat) : Prop where
  own : s.ownMem l a = true
  fits : 0 < n ∧ a % 64 + n ≤ 64
  good : s.onFailed a = none
  plain : s.meetsOwned a n = false
  alive : (s.line l).st ≠ .failed
  whole : (s.granule (a / 64)).1.length = 64
  quiet : Quiet s (a / 64)

/-- Agents of the Line led by `l` read the `n` bytes at `a` as they are: its own memory, on channels not declared failed,
with no poison. -/
def Readable (s : State) (l a n : Nat) : Prop :=
  ∀ i < n, s.ownMem l (a + i) = true ∧ s.onFailed (a + i) = none ∧ (s.granule ((a + i) / 64)).1.length = 64
    ∧ (s.granule ((a + i) / 64)).2 = false ∧ Quiet s ((a + i) / 64)

/-- The 64-bit word that an agent finds at a DPA. -/
def wordAt (s : State) (a : Nat) : Word := BitVec.ofNat 64 (leNat ((List.range 8).map fun i => seen s (a + i)))

/-- A delivery to block `blk` reaches memory of the Line led by `l`, away from what one unit alone may write. -/
def BlockWritable (s : State) (l blk : Nat) : Prop :=
  s.meetsOwned (blk * 4096) 4096 = false ∧ ∀ i < 64, s.ownMem l (blk * 4096 + i * 64) = true
    ∧ s.onFailed (blk * 4096 + i * 64) = none ∧ (s.granule (blk * 64 + i)).1.length = 64 ∧ Quiet s (blk * 64 + i)

/-- The bytes of memory outside the `n` bytes at `a` are what they were. -/
def SeenOutside (s t : State) (a n : Nat) : Prop := ∀ x < 2 ^ 52, x < a ∨ a + n ≤ x → seen t x = seen s x

/-- Between `s` and `t` only channel `c` has changed, and its queue is now `q`. -/
def OnlyChan (s t : State) (c : Nat) (q : List Xfer) : Prop :=
  (t.chan c).queue = q ∧ (∀ d, d ≠ c → t.chan d = s.chan d) ∧ { t with chans := s.chans } = s

/-- Between `s` and `t` only rail port `p` has changed, and it is now `q`. -/
def OnlyPort (s t : State) (p : Nat) (q : Port) : Prop :=
  t.port p = q ∧ (∀ r, r ≠ p → t.port r = s.port r) ∧ { t with ports := s.ports } = s

/-- Between `s` and `t` only the peer context keyed `k` has changed, and it is now `x`. -/
def OnlyCtx (s t : State) (k : Nat) (x : Ctx) : Prop :=
  t.ctx k = x ∧ (∀ j, j ≠ k → t.ctx j = s.ctx j) ∧ { t with ctxs := s.ctxs } = s

/-- No channel holds a transfer. -/
def NoTransfers (s : State) : Prop := ∀ k < 128, (s.chan k).queue = []

/-- The flit that port `p` serves next is `f`, the whole of its delivery: it comes, with a tag that holds, to an OPEN context
of a Line that takes flits, in the epoch of the context. -/
structure Arrives (s : State) (p : Nat) (f : Flit) : Prop where
  first : (s.nextFlit p).map (·.1) = some f
  live : s.railLive (s.leaderOf (p / 4)) = true
  dst : f.dstEp = s.endpoint (s.leaderOf (p / 4))
  open_ : (s.ctx (ctxKey (s.leaderOf (p / 4)) f.dstCtx)).st = .open_
  tag : f.tagOk = true
  epoch : f.epoch = (s.ctx (ctxKey (s.leaderOf (p / 4)) f.dstCtx)).epoch
  whole : f.last = true ∧ f.offset = 0
  new : ((s.ctx (ctxKey (s.leaderOf (p / 4)) f.dstCtx)).committed.find? fun e => e.1 == f.delivery) = none
  alone : ((s.ctx (ctxKey (s.leaderOf (p / 4)) f.dstCtx)).arriving.any fun a =>
    a.number == f.delivery && a.type == f.type) = false

/-! Apori commands. -/

/-- The slot that the next completion of queue `q` takes. -/
def cqSlot (s : State) (l q : Nat) : Nat :=
  let cq := s.queue (qKey l (s.queue (qKey l q)).cqid)
  cq.cqBase + cq.cqWritten % cq.cqSize * 32

/-- A completion of command `c` of queue `q` can be written at once: no other waits for a slot, its CQ is on, not full
and in memory of the Line. -/
structure Answerable (s : State) (l q : Nat) (c : ACmd) : Prop where
  asked : c.noCq = false
  fresh : c.done = false
  on : (s.queue (qKey l (s.queue (qKey l q)).cqid)).st ≠ .off
  room : s.cqFull l (s.queue (qKey l q)).cqid = false
  slot : Writable s l (cqSlot s l q) 32
  settled : ∀ p ∈ s.lineQueues l, ∀ d ∈ (s.queue (qKey l p)).running, d.done = false

/-- Queue `q` dispatches its last fetched command `c`, whose turn has come, so that the arbiter moves on to `r`; its job has
not ended, and it marks no phase in a ring. -/
structure Dispatches (s r : State) (l q : Nat) (c : ACmd) : Prop where
  next : s.nextCommand l q = some c
  turn : s.clean.turnOf (8 + l) l (s.clean.queueWaits l) q = some r
  last : (s.queue (qKey l q)).fetched = [c] ∧ (s.queue (qKey l q)).kept = []
  good : c.status = 0
  job : s.jobEnded l c.job = false
  mark : c.w0.flag 13 = true → s.flag (lnKey l 0x300) 63 = false
  alone : ∀ d ∈ (s.queue (qKey l q)).running, d.seq ≠ c.seq
  answer : Answerable s l q c

/-- The completion of command `c` stands in its slot (R322), with the queue's sequence as in `s0`. -/
def Answered (s s0 t : State) (l q : Nat) (c : ACmd) (status : Nat) (result : Word) (poison : Bool) : Prop :=
  (∀ i < 4, wordAt t (cqSlot s l q + 8 * i)
    = (s0.completionWords l q { c with doneAt := s.time, status := status, result := result, poison := poison }).getD i 0)
  ∧ (t.queue (qKey l (s.queue (qKey l q)).cqid)).cqWritten = (s.queue (qKey l (s.queue (qKey l q)).cqid)).cqWritten + 1
  ∧ (t.queue (qKey l q)).running = (s.queue (qKey l q)).running.filter (fun d => d.seq != c.seq)
  ∧ (t.queue (qKey l q)).h = (s0.queue (qKey l q)).h

/-- The interrupt source `src` of the Line led by `l` goes to no core (R418). -/
def RouteOff (s : State) (l src : Nat) : Prop := s.flag (routeKey l src) 31 = false

/-! A pond whose sequencer may issue. -/

/-- Nothing waits in the engines of a pond: its feeders, its grid, vector, store and transfer-start queues and its
posted releases are empty. -/
structure EnginesEmpty (p : Pond) : Prop where
  feedA : p.feedA = []
  feedB : p.feedB = []
  gridQ : p.gridQ = []
  vecQ : p.vecQ = []
  storeQ : p.storeQ = []
  xsQ : p.xsQ = []
  posted : p.posted = []

/-- The Line of pond `u` works, its sequencer stands at the instruction `w`, which sets no reserved bit, and the job of
its program has not ended. -/
structure AtInsn (s : State) (u : Nat) (w : Word) : Prop where
  works : s.pondWorks u = true
  mode : (s.pond u).mode = .run
  wait : (s.pond u).wait = .none
  insn : (s.pond u).insnAt (s.pond u).pc = w
  fields : reservedSet w = false
  job : s.jobEnded (s.pondLine u) (s.pond u).cur.job = false

/-- The index that follows in program order, with the loops that run on, holds an instruction of R147. -/
def Follows (p : Pond) : Prop :=
  (loopBack p.loops p.pc).1 < 8192 ∧ knownOpcode ((p.insnAt (loopBack p.loops p.pc).1).field 56 8) = true

/-- The pond at the next instruction in program order. -/
def onward (p : Pond) : Pond :=
  { p with
    pc := (loopBack p.loops p.pc).1, loops := (loopBack p.loops p.pc).2, wait := .none, seq := p.seq + 1 }

end Sys2Proof.Safety
end

