-- ==== Sys2Proof/Certificates/Slice0/Obligations.lean ====
section
/-!
DEFINITION. The statements about this model: what each command does, what it leaves unchanged, and what holds of every
step.
-/
open Sys2Proof Sys2Proof.Machine Sys2Proof.Safety

/-- A step runs the command at the front of the queue on the rest of the queue, and idles on an empty one
(00_scope.md). The queue and the idling are the model's own (log entry 1). -/
def Obligations.StepRunsFront : Prop :=
  ∀ s : State, (∀ (c : Instr) (rest : List Instr), s.pending = c :: rest → step s = exec c { s with pending := rest })
    ∧ (s.pending = [] → step s = .next s)

/-- The state right after reset has the invariant that every step keeps (R534, R480). -/
def Obligations.ResetHasInv : Prop :=
  Inv State.reset

/-- Every step keeps device time on the crystal's edges and the security counters in order (R513, R476, R480, R481).
-/
def Obligations.StepKeepsInv : Prop :=
  ∀ s t : State, Inv s → step s = .next t → Inv t

/-- No step lowers the version floor or uses an identity leaf again (R476, R480). -/
def Obligations.StepGrowsVault : Prop :=
  ∀ s t : State, Inv s → step s = .next t → VaultGrows s.vault t.vault

/-- No command changes the queue, and only a crystal edge and power-on change device time (R513). -/
def Obligations.CommandsKeepQueueAndTime : Prop :=
  ∀ (c : Instr) (s t : State), exec c s = .next t →
    t.pending = s.pending ∧ (c ≠ .crystalEdge → c ≠ .powerOn → t.time = s.time)

/-- Every command has its meaning: none is refused (00_scope.md). -/
def Obligations.NoCommandRefused : Prop :=
  ∀ (c : Instr) (s : State) (r : Refusal), exec c s ≠ .refused r

/-- NOP, the scalar arithmetic instructions, AADD and ASET complete with the results of R148 and R155 and change
nothing else (R142, R147, R148, R155, R576). -/
def Obligations.ScalarInstructions : Prop :=
  ∀ (s : State) (u : PondId) (w : Word), AtInsn s u w → EnginesEmpty (s.pond u) → Follows (s.pond u) →
    let p := s.pond u
    let op := w.field 56 8
    let a := p.sreg (w.field 46 5)
    let b := p.sreg (w.field 41 5)
    let sets (c : Instr) (v : Word) : Prop := Gives c s fun t => OnlyPond s t u (onward (p.setSreg (w.field 51 5) v))
    let descr (c : Instr) (f : Desc → Prop) : Prop :=
      Gives c s fun t => ∃ d, f d ∧ OnlyPond s t u (onward (p.setDesc (w.field 52 4) d))
    let d := p.desc (w.field 52 4)
    (op = 0x00 → Gives (.nop u) s fun t => OnlyPond s t u (onward p))
    ∧ (op = 0x10 → sets (.add u) (a + b)) ∧ (op = 0x11 → sets (.sub u) (a - b)) ∧ (op = 0x12 → sets (.mul u) (a * b))
    ∧ (op = 0x13 → sets (.and u) (a &&& b)) ∧ (op = 0x14 → sets (.or u) (a ||| b)) ∧ (op = 0x15 → sets (.xor u) (a ^^^ b))
    ∧ (op = 0x16 → sets (.shl u) (a <<< (b.toNat % 64))) ∧ (op = 0x17 → sets (.shr u) (a >>> (b.toNat % 64)))
    ∧ (op = 0x18 → sets (.sra u) (a.sshiftRight (b.toNat % 64)))
    ∧ (op = 0x19 → sets (.addi u) (a + BitVec.ofInt 64 (signed 32 (w.field 0 32))))
    ∧ (op = 0x1A → Gives (.lih u) s fun t => ∃ v, v.field 32 32 = w.field 0 32
        ∧ v.field 0 32 = (p.sreg (w.field 51 5)).field 0 32 ∧ OnlyPond s t u (onward (p.setSreg (w.field 51 5) v)))
    ∧ (op = 0x21 → descr (.aadd u) fun e => e.base = (d.base + a.toNat) % 2 ^ 57
        ∧ e.scaleBase = (d.scaleBase + b.toNat) % 2 ^ 57
        ∧ e.fmt = d.fmt ∧ e.mxdir = d.mxdir ∧ e.w1 = d.w1 ∧ e.w3 = d.w3)
    ∧ (op = 0x22 → w.field 48 4 < 8 → descr (.aset u) fun e =>
        let v := (p.sreg (w.field 43 5)).toNat
        let f := w.field 48 4
        e.base = (if f = 0 then v % 2 ^ 57 else d.base) ∧ e.fmt = (if f = 1 then v % 2 ^ 4 else d.fmt)
        ∧ e.mxdir = (if f = 2 then v.testBit 0 else d.mxdir) ∧ e.rowStride = (if f = 3 then v % 2 ^ 32 else d.rowStride)
        ∧ e.rows = (if f = 4 then v % 2 ^ 16 else d.rows) ∧ e.cols = (if f = 5 then v % 2 ^ 16 else d.cols)
        ∧ e.scaleBase = (if f = 6 then v % 2 ^ 57 else d.scaleBase)
        ∧ e.scaleStride = (if f = 7 then v % 2 ^ 32 else d.scaleStride))

/-- BR, LOOP, WAIT, SWAIT and END complete as R148 to R150, R170 and R180 say (R148, R149, R150, R170, R180). -/
def Obligations.ControlInstructions : Prop :=
  ∀ (s : State) (u : PondId) (w : Word), AtInsn s u w → EnginesEmpty (s.pond u) →
    let p := s.pond u
    let op := w.field 56 8
    let c := w.field 52 4
    let a := p.sreg (w.field 47 5)
    let b := p.sreg (w.field 42 5)
    let taken := c = 0 ∨ (c = 1 ∧ a = b) ∨ (c = 2 ∧ a ≠ b) ∨ (c = 3 ∧ a.toInt < b.toInt) ∨ (c = 4 ∧ b.toInt ≤ a.toInt)
      ∨ (c = 5 ∧ a.toNat < b.toNat) ∨ (c = 6 ∧ b.toNat ≤ a.toNat)
    let last := w.field 0 13
    let n := if w.flag 55 then (p.sreg (w.field 50 5)).field 0 32 else w.field 16 16
    let ctr := if w.flag 55 then (p.sreg (w.field 50 5)).toNat else w.field 35 15
    let val := if w.flag 34 then (p.sreg (w.field 29 5)).toNat else w.field 0 28
    let still := ∀ x, s.counterDpa (s.pondLine u) ctr = some x → Quiet s (x / 64)
    let fresh := p.stale.filter fun e => decide (s.granule e.1 = e.2.last)
    (op = 0x02 → taken → p.entersLoop last = false → knownOpcode ((p.insnAt last).field 56 8) = true →
        Gives (.br u) s fun t => OnlyPond s t u
          { p with pc := last, loops := keepLoops p.loops last, wait := .none, seq := p.seq + 1 })
    ∧ (op = 0x02 → c < 7 → ¬ taken → Follows p → Gives (.br u) s fun t => OnlyPond s t u (onward p))
    ∧ (op = 0x03 → p.pc < last → p.loops.length < 4 → 0 < n → knownOpcode ((p.insnAt (p.pc + 1)).field 56 8) = true →
        Gives (.loop u) s fun t => OnlyPond s t u
          { p with pc := p.pc + 1, loops := { first := p.pc + 1, last := last, left := n - 1 } :: p.loops
                   wait := .none, seq := p.seq + 1 })
    ∧ (op = 0x03 → p.pc < last → p.loops.length < 4 → n = 0 → Follows { p with pc := last } →
        Gives (.loop u) s fun t => OnlyPond s t u (onward { p with pc := last }))
    ∧ (op = 0x04 → Follows p →
        Gives (.wait u) s fun t => OnlyPond s t u (onward { p with stale := if w.flag 5 then [] else p.stale }))
    ∧ (op = 0x61 → ctr < 4096 * (s.members (s.pondLine u)).length → s.counterReached (s.pondLine u) ctr val = true →
        still → Follows p → Gives (.swait u) s fun t => OnlyPond s t u (onward { p with stale := fresh }))
    ∧ (op = 0x61 → ctr < 4096 * (s.members (s.pondLine u)).length → s.counterReached (s.pondLine u) ctr val = false → still →
        Gives (.swait u) s fun t => OnlyPond s t u { p with wait := .sync ctr val, waitFrom := s.time })
    ∧ (op = 0x01 → p.recDpa = none → p.cur.doneEn = false →
        Gives (.endProgram u) s fun t => t.pond u = p.afterProgram ∧ p.afterProgram.mode = .idle
          ∧ (∀ v, v ≠ u.val → t.pond v = s.pond v) ∧ { t with ponds := s.ponds, grids := s.grids } = s
          ∧ ∀ g, t.grid g = s.grid g ∨ t.grid g = { s.grid g with held := false })

/-- SIGNAL, SADD, REL and PHASE complete: the code, the counter, the slots and the phase mark are as R148, R162, R170
and R175 say (R144, R162, R169, R170, R171, R175, R176). -/
def Obligations.ReleaseInstructions : Prop :=
  ∀ (s : State) (u : PondId) (w : Word), AtInsn s u w → EnginesEmpty (s.pond u) → Follows (s.pond u) →
    let p := s.pond u
    let op := w.field 56 8
    let l := s.pondLine u
    let i := if w.flag 55 then (p.sreg (w.field 50 5)).toNat else w.field 35 15
    let v : Word := if w.flag 34 then p.sreg (w.field 29 5) else BitVec.ofInt 64 (signed 28 (w.field 0 28))
    let src := 8 * s.place (u / 8) + u % 8
    let head := s.reg (lnKey l 0x308)
    let size := 2 ^ (s.fld (lnKey l 0x300) 0 4 + 4)
    let at_ := head.field 0 20 % size
    let ring := s.fld (lnKey l 0x300) 4 48 * 16 + at_ * 16
    (op = 0x05 → w.flag 16 = false → Gives (.signal u) s fun t =>
        t.fld (pdKey u 0x58) 0 16 = w.field 0 16 ∧ t.flag (pdKey u 0x58) 16 = true
        ∧ (∀ k, k ≠ pdKey u 0x58 → t.reg k = s.reg k) ∧ OnlyPond s { t with regs := s.regs } u (onward p))
    ∧ (op = 0x05 → w.flag 16 = true → RouteOff s l src → (s.line l).sleep = 0 → Gives (.signal u) s fun t =>
        t.fld (pdKey u 0x58) 0 16 = w.field 0 16 ∧ t.flag (pdKey u 0x58) 16 = true
        ∧ t.flag (routeKey l src) 32 = true ∧ t.pond u = onward p)
    ∧ (op = 0x60 → ∀ a c, s.counterDpa l i = some a → (s.granule (a / 64)).1.length = 64 → Quiet s (a / 64) →
        s.counterVal l i = some c →
        i < 4096 * (s.members l).length → Gives (.sadd u) s fun t =>
          t.counterVal l i = some ((c + v.toNat) % 2 ^ 64) ∧ t.pond u = onward p)
    ∧ (op = 0x43 → ∀ k, p.heldIn (w.field 47 5) = some k → p.tileFull k.ticket = true →
        Gives (.rel u) s fun t => OnlyPond s t u ((onward (p.unhold k.ticket)).beginRelease k.ticket p.seq)
          ∧ (t.pond u).ticketOf k.ticket = none)
    ∧ (op = 0x78 → s.flag (lnKey l 0x300) 63 = false → Gives (.phase u) s fun t => OnlyPond s t u (onward p))
    ∧ (op = 0x78 → s.flag (lnKey l 0x300) 63 = true → isHostPa ring = false → Writable s l ring 16 →
        Gives (.phase u) s fun t => t.pond u = onward p ∧ (∀ k, k ≠ u.val → t.pond k = s.pond k)
          ∧ wordAt t ring = BitVec.ofNat 64 s.time
          ∧ wordAt t (ring + 8) = BitVec.ofNat 64 (w.field 52 4 + u / 8 * 2 ^ 5 + u % 8 * 2 ^ 8
              + ofBool (head.flag 20) * 2 ^ 11 + (p.sreg (w.field 46 5)).field 0 32 * 2 ^ 16 + p.cur.job % 2 ^ 16 * 2 ^ 48)
          ∧ SeenOutside s t ring 16 ∧ (∀ k, k ≠ lnKey l 0x308 → t.reg k = s.reg k)
          ∧ t.fld (lnKey l 0x308) 0 20 = (if at_ + 1 = size then 0 else at_ + 1)
          ∧ t.flag (lnKey l 0x308) 20 = (if at_ + 1 = size then !head.flag 20 else head.flag 20))

/-- LD, ALD, LDA, LDB, LDT, SD, ST, STB and XSTART complete with the data that their reads find and the bytes that
they store (R144, R148, R155, R156, R158, R165, R166, R174, R185). -/
def Obligations.MemoryInstructions : Prop :=
  ∀ (s r : State) (u : PondId) (w : Word), AtInsn s u w → EnginesEmpty (s.pond u) → Follows (s.pond u) → r.misuse = none →
    let p := s.pond u
    let op := w.field 56 8
    let a := p.sreg (w.field 46 5)
    let i := p.sreg (w.field 42 5)
    let j := p.sreg (w.field 37 5)
    let d := p.desc (w.field 52 4)
    let va := (a + BitVec.ofInt 64 (signed 32 (w.field 0 32))).toNat
    let load : Load := { seq := p.seq, pc := p.pc, ext := w.field 30 8, k := w.field 14 16, trans := w.flag 49, cvt := w.flag 13
                         ri := (p.sreg (w.field 43 5)).toNat, rj := (p.sreg (w.field 38 5)).toNat }
    (op = 0x1B → va % 8 = 0 → s.clean.ldRegister u (va % 2 ^ 57) = none → ∀ bs,
        s.clean.pondRead u (va % 2 ^ 57) 8 = (.ok bs, r) → anyPoison bs = false →
        Gives (.ld u) s fun t =>
          OnlyPond (r.keeping s) t u (onward (p.setSreg (w.field 51 5) (BitVec.ofNat 64 (bytesNat bs)))))
    ∧ (op = 0x20 → va % 32 = 0 → ∀ bs, s.clean.pondRead u (va % 2 ^ 57) 32 = (.ok bs, r) → anyPoison bs = false →
        Gives (.ald u) s fun t => ∀ n < 4,
          [((t.pond u).desc (w.field 52 4)).w0, ((t.pond u).desc (w.field 52 4)).w1,
           ((t.pond u).desc (w.field 52 4)).w2, ((t.pond u).desc (w.field 52 4)).w3].getD n 0
            = BitVec.ofNat 64 (bytesNat ((bs.drop (8 * n)).take 8)))
    ∧ (∀ isA : Bool, op = (if isA then 0x30 else 0x31) → w.flag 48 = true → w.field 52 3 < 6 →
        Gives (if isA then .lda u else .ldb u) s fun t =>
          (t.pond u).feeder isA (w.field 50 2)
            = [tbElems { load with tb := some (w.field 52 3) } (isA != w.flag 49) (p.tb (w.field 52 3))])
    ∧ (∀ isA : Bool, op = (if isA then 0x30 else 0x31) → w.flag 48 = false → d.badShape = false → ∀ f,
        fmtOfCode d.fmt = some f → (fmtIsMx f && d.mxdir == (isA != w.flag 49)) = false → ∀ es,
        s.clean.readRegion u d f load.ri load.rj (if isA != w.flag 49 then load.ext else load.k)
          (if isA != w.flag 49 then load.k else load.ext) = (.ok es, r) →
        Gives (if isA then .lda u else .ldb u) s fun t =>
          (t.pond u).feeder isA (w.field 50 2) = [memLoad { load with fmt := d.fmt } (isA != w.flag 49) es])
    ∧ (op = 0x42 → w.field 49 3 < 6 → d.badShape = false → ∀ f, fmtOfCode d.fmt = some f → w.flag 35 = false → ∀ es,
        s.clean.readRegion u d f i.toNat j.toNat 64 64 = (.ok es, r) →
        Gives (.ldt u) s fun t => (t.pond u).tb (w.field 49 3) = (ldtTile f (w.flag 36) i.toNat j.toNat es).1)
    ∧ (op = 0x1C → va % 8 = 0 →
        let o : PondOp := { p.item w with x := a + BitVec.ofInt 64 (signed 32 (w.field 0 32)), y := p.sreg (w.field 41 5) }
        let s1 := s.clean.toStore u o
        s1.sdRegister u o = none →
        s1.putRuns u [{ va := va % 2 ^ 57, bs := wholeBytes (leBytes 8 (p.sreg (w.field 41 5)).toNat) false }]
          = ({ res := .ok false }, r) → Gives (.sd u) s fun t => OnlyPond (r.keeping s) t u { r.pond u with storeQ := [] })
    ∧ (op = 0x41 → w.field 49 3 < 6 → d.badShape = false → w.flag 35 = false → ∀ f b, fmtOfCode d.fmt = some f →
        (fmtIsMx f && (if d.mxdir then i.toNat else j.toNat) % 32 != 0) = false →
        let s1 := s.clean.toStore u { p.item w with desc := d, x := i, y := j }
        s1.putRuns u (storeTile d f false (tileSource (p.tb (w.field 49 3))) i.toNat j.toNat) = (b, r) →
        (∃ q, b.res = .ok q) →
        Gives (.stb u) s fun t => { t with ponds := r.ponds, regs := r.regs } = r.keeping s ∧ (t.pond u).storeQ = [])
    ∧ (op = 0x40 → d.badShape = false → w.flag 35 = false → ∀ f k b, fmtOfCode d.fmt = some f →
        (fmtIsMx f && (if d.mxdir then i.toNat else j.toNat) % 32 != 0) = false → p.heldIn (w.field 47 5) = some k →
        (w.flag 34 = true ∨ (d.fmt = k.ofmt ∧ (fmtIsMx f = true → d.mxdir = k.omx))) → k.gang = false →
        (∀ n < 8, ((p.slot n).ticket = k.ticket ∧ (p.slot n).st ≠ .free) → (p.slot n).gang = false) →
        let o : PondOp := { p.item w with desc := d, ticket := some k.ticket, x := i, y := j }
        let s1 := (s.clean.when (w.flag 36) fun s => s.modPond u fun p => p.unhold k.ticket).toStore u o
        (p.tileFull k.ticket = true →
          s1.putRuns u (storeTile d f true (tileSource (p.tileOf k.ticket)) i.toNat j.toNat) = (b, r) →
          (∃ q, b.res = .ok q) →
          Gives (.st u) s fun t => { t with ponds := r.ponds, regs := r.regs } = r.keeping s ∧ (t.pond u).storeQ = [])
        ∧ (p.tileFull k.ticket = false → Gives (.st u) s fun t =>
            (t.pond u).storeQ = [o] ∧ { t with ponds := s.ponds } = s ∧ (∀ v, v ≠ u.val → t.pond v = s.pond v)))
    ∧ (op = 0x70 →
        let c := u / 8 * 16 + w.field 52 4
        let o : PondOp := { p.item w with x := p.sreg (w.field 47 5) }
        s.lineStOf (u / 8) ≠ .stopping →
        (s.chanRoom c = false → Gives (.xstart u) s fun t => OnlyPond s t u { onward p with xsQ := [o] })
        ∧ (s.chanRoom c = true → ∀ bs r', let s1 := (s.clean.modPond u fun q => { q with xsQ := [o] }).adv u
            (s1.modPond u fun q => { q with xsQ := [] }).pondRead u (o.x.toNat % 2 ^ 57) 136 = (.ok bs, r') →
            anyPoison bs = false →
            r'.acceptXfer c ((List.range 17).map fun n => BitVec.ofNat 64 (bytesNat ((bs.drop (8 * n)).take 8)))
              p.cur.asid p.cur.job p.cur.cls (.program (u % 8)) (r'.chanWho c p.cur.asid) = (none, r) →
            Gives (.xstart u) s fun t => t.chans = r.chans ∧ (t.pond u).xsQ = []))

/-- Every VOP and VRED completes: the tile buffers and mask planes are those of the operation, and memory is untouched
(R143, R144, R167, R198, R199, R200, R205, R206). -/
def Obligations.VectorInstructions : Prop :=
  ∀ (s : State) (u : PondId) (w : Word), AtInsn s u w → EnginesEmpty (s.pond u) → Follows (s.pond u) →
    let p := s.pond u
    let f := w.field 48 8
    let noA := w.field 56 8 = 0x50 ∧ readsNoA f = true
    w.flag 26 = false → ((w.field 56 8 = 0x50 ∧ isCompare f = true ∧ w.field 45 3 < 4) ∨ w.field 45 3 < 6) →
    (w.field 56 8 = 0x50 → isCompare f = true → w.field 45 3 < 4) →
    (w.field 56 8 = 0x50 → readsTbb f = true → w.field 36 3 < 6) → (noA ∨ w.flag 44 = true ∨ w.field 39 3 < 6) →
    (w.flag 44 = true → ¬ noA → ∃ k, p.heldIn (w.field 39 5) = some k ∧ k.gang = false ∧ p.tileFull k.ticket = true) →
    let tk := if w.flag 44 = true ∧ ¬ noA then (p.heldIn (w.field 39 5)).map (·.ticket) else none
    let o : PondOp := { p.item w with x := p.sreg (w.field 31 5), ticket := tk }
    let does (c : Instr) (q : Pond × OpDone) : Prop := Gives c s fun t =>
      (t.pond u).tbs = q.1.tbs ∧ (t.pond u).planes = q.1.planes ∧ (t.pond u).vecQ = [] ∧ (t.pond u).sregs = p.sregs
      ∧ (∀ v, v ≠ u.val → t.pond v = s.pond v)
      ∧ { t with ponds := s.ponds, regs := s.regs } = s
    (w.field 56 8 = 0x50 → ∀ e ∈ [
      (0x00, Instr.vopCopy u), (0x01, Instr.vopAdd u), (0x02, Instr.vopSub u), (0x03, Instr.vopMul u),
      (0x04, Instr.vopDiv u), (0x05, Instr.vopFma u), (0x06, Instr.vopFill u), (0x07, Instr.vopAdds u),
      (0x08, Instr.vopMuls u), (0x09, Instr.vopFmas u), (0x0A, Instr.vopMax u), (0x0B, Instr.vopMin u),
      (0x0C, Instr.vopMaxs u), (0x0D, Instr.vopAbs u), (0x0E, Instr.vopNeg u), (0x10, Instr.vopAddrow u),
      (0x11, Instr.vopSubrow u), (0x12, Instr.vopMulrow u), (0x13, Instr.vopDivrow u), (0x14, Instr.vopAddcol u),
      (0x15, Instr.vopMulcol u), (0x20, Instr.vopRecip u), (0x21, Instr.vopSqrt u), (0x22, Instr.vopRsqrt u),
      (0x23, Instr.vopExp u), (0x24, Instr.vopExp2 u), (0x25, Instr.vopLog u), (0x26, Instr.vopTanh u),
      (0x27, Instr.vopSigmoid u), (0x28, Instr.vopSilu u), (0x29, Instr.vopGelu u), (0x2A, Instr.vopExpsubrow u),
      (0x30, Instr.vopCmplt u), (0x31, Instr.vopCmple u), (0x32, Instr.vopCmpeq u), (0x33, Instr.vopCmpltb u),
      (0x38, Instr.vopDiag u), (0x3C, Instr.vopCvti u)
      ], f = e.1 → does e.2 (p.runVop o))
    ∧ (w.field 56 8 = 0x51 → w.field 37 2 ≠ 3 → badReduceFmt (w.field 33 4) = false → ∀ e ∈ [
      (0x80, Instr.vredSum u), (0x81, Instr.vredProd u), (0x82, Instr.vredMax u), (0x83, Instr.vredMin u),
      (0x84, Instr.vredArgmax u), (0x85, Instr.vredArgmin u), (0x86, Instr.vredSumsq u), (0x87, Instr.vredAbsmax u)
      ], f = e.1 → does e.2 (p.runVred o))

/-- A VOP writes each active position of its tile buffer with its function's value and valid bit, and leaves the
others (R198, R199, R200, R203, R204). -/
def Obligations.VectorPositions : Prop :=
  ∀ (p : Pond) (o : PondOp) (k : Nat), k < 4096 →
    let f := o.insn.field 48 8
    let td := o.insn.field 45 3
    let a := p.vecSource o
    let b := p.tb (o.insn.field 36 3)
    let x : VecArgs := { a := a.at k, b := b.at k, bRow := b.at (k / 64 * 64), bCol := b.at (k % 64), d := (p.tb td).at k
                         s := o.x.toNat % 2 ^ 32, i := k / 64, j := k % 64 }
    let on := maskActive (o.insn.field 27 4) (readsNoA f || (a.at k).valid) (fun m => p.plane m k) (k / 64) (k % 64)
    let q := (p.runVop o).1
    (isCompare f = false →
      ((q.tb td).at k = if on then { code := BitVec.ofNat 32 (vopValue f x).1.val, valid := vopValid f x, isInt := f == 0x3C }
                        else (p.tb td).at k)
      ∧ (∀ n, n ≠ td → q.tb n = p.tb n) ∧ q.planes = p.planes ∧ q.slots = p.slots)
    ∧ (isCompare f = true →
      q.plane (td % 4) k = (if on then vopCompare f x else p.plane (td % 4) k)
      ∧ (∀ m, m < 4 → m ≠ td % 4 → q.plane m k = p.plane m k) ∧ q.tbs = p.tbs ∧ q.slots = p.slots)

/-- The events of a waiting sequencer let it go on, start the next launch, free released slots, or end the program
(R143, R150, R170, R173, R179, R184, R192). -/
def Obligations.SequencerEvents : Prop :=
  ∀ (s : State) (u : PondId),
    let p := s.pond u
    let l := s.pondLine u
    let src := 0x40 + 8 * s.place (u / 8) + u % 8
    let cutBy (c : Instr) (status : Nat) : Prop := Gives c s fun t =>
      t.pond u = { p.afterProgram with limitHit := p.limitHit || status == 0x23 }
      ∧ (t.reg (pdKey u 0x60)).field 0 8 = status
      ∧ (t.reg (pdKey u 0x60)).field 8 13 = p.pc % 2 ^ 13 ∧ t.mem = s.mem
    (s.pondWorks u = true → p.mode = .run → EnginesEmpty p →
      (p.wait = .queueRoom → s.jobEnded l p.cur.job = false → (p.insnAt p.pc).field 56 8 = 0x70 →
          reservedSet (p.insnAt p.pc) = false → Follows p → s.lineStOf (u / 8) ≠ .stopping → s.chanRoom (u / 8 * 16 + (p.insnAt p.pc).field 52 4) = false →
          Gives (.engineQueueRoom u) s fun t => OnlyPond s t u
            { onward p with xsQ := [{ p.item (p.insnAt p.pc) with x := p.sreg ((p.insnAt p.pc).field 47 5) }] })
      ∧ (∀ m, p.wait = .classes m → Follows p → Gives (.waitDone u) s fun t =>
          OnlyPond s t u (onward { p with stale := if m.testBit 5 then [] else p.stale }))
      ∧ (∀ i v, p.wait = .sync i v → s.counterReached l i v = true → Follows p →
          Gives (.swaitSatisfied u) s fun t => OnlyPond s t u (onward { p with
            stale := p.stale.filter fun e => decide (s.granule e.1 = e.2.last) }))
      ∧ (p.wait ≠ .drain → Gives (.releaseEnd u) s fun t => { t with ponds := s.ponds } = s
          ∧ ∀ k < 8, (t.pond u).slot k = if (p.slot k).st = .releasing then {} else p.slot k)
      ∧ (p.recDpa = none → p.cur.doneEn = false → RouteOff s l src →
          (∀ i v, p.wait = .sync i v → s.counterReached l i v = false → s.fld (pdKey u 0x38) 0 32 ≠ 0 →
            p.waitFrom + s.fld (pdKey u 0x38) 0 32 * 1000 ≤ s.time → cutBy (.waitTimeout u) 0x22)
          ∧ (s.fld (pdKey u 0x40) 0 32 ≠ 0 → p.startTime + s.fld (pdKey u 0x40) 0 32 * 1000000 < s.time →
            cutBy (.runLimit u) 0x23)))
    ∧ (∀ la rest, p.launches = la :: rest → p.mode = .idle → s.lineStOf (u / 8) = .running → s.flag (pdKey u 0) 1 = false →
        s.imemBusy u = false → s.jobEnded l la.job = false → la.recVa = 0 → la.entry < 8192 →
        knownOpcode ((p.insnAt la.entry).field 56 8) = true →
        Gives (.programStart u) s fun t => OnlyPond s t u ({ p with launches := rest }.start la none s.time)
          ∧ (t.pond u).pc = la.entry ∧ (t.pond u).mode = .run ∧ (t.pond u).launches = rest
          ∧ ((t.pond u).sreg 1 = la.args.getD 0 0 ∨ la.args = []))

/-- Writes of PD_LAUNCH, PD_CTL and PD_IMEM_CTL queue a launch, abort, hold, flush and load, as R178, R188 and R190
say (R177, R178, R184, R188, R190, R581). -/
def Obligations.PondRegisters : Prop :=
  ∀ (s r : State) (via : Via) (u : PondId) (v : Word), s.bWrites via (u / 8) = true → (s.line (s.pondLine u)).sleep = 0 →
    r.misuse = none →
    let p := s.pond u
    let l := s.pondLine u
    (∀ ws rd, v.field 52 12 = 0 → (s.clean.wakeExit l).loadWords l (v.field 6 46 * 64) 8 = (ws, rd, r) →
        rd.noTarget = false → rd.poison = false → (ws.getD 0 0).field 48 2 ≠ 3 → s.lineStOf (u / 8) ≠ .stopping →
        p.launches.length < 8 → Gives (.pdLaunch via u v) s fun t =>
          (t.pond u).launches = p.launches ++ [{ launchOf ws with recVa := (r.lowBits (launchOf ws).recVa 32).1 }]
          ∧ t.mem = r.mem)
    ∧ (v = 1 → s.pondWorks u = true → p.mode = .run → EnginesEmpty p → p.recDpa = none → p.cur.doneEn = false →
        RouteOff s l (0x40 + 8 * s.place (u / 8) + u % 8) → Gives (.pdAbort via u v) s fun t =>
          (t.pond u).mode = .idle ∧ (t.reg (pdKey u 0x60)).field 0 8 = 0x31)
    ∧ (v.field 3 61 = 0 → v.flag 0 = false → v.flag 2 = false → Gives (.holdLaunch via u v) s fun t =>
        t.flag (pdKey u 0) 1 = v.flag 1 ∧ OnlyReg s t (pdKey u 0) (t.reg (pdKey u 0)))
    ∧ (v = 4 → (∀ la ∈ p.launches, la.recVa = 0 ∧ la.doneEn = false) →
        RouteOff s l (0x40 + 8 * s.place (u / 8) + u % 8) → Gives (.flushQueue via u v) s fun t =>
          t.pond u = { p with launches := [] } ∧ (p.launches ≠ [] → (t.reg (pdKey u 0x60)).field 0 8 = 0x32))
    ∧ (v.field 14 2 = 0 → v.field 29 3 = 0 → v.field 35 29 = 0 → v.flag 32 = true → v.flag 34 = false →
        s.imemBusy u = false → 0 < v.field 0 14 → v.field 16 13 + v.field 0 14 ≤ 8192 →
        Gives (.imemLoad via u v) s fun t => t.flag (pdKey u 0x20) 33 = true
          ∧ t.fld (pdKey u 0x20) 0 14 = v.field 0 14 ∧ t.fld (pdKey u 0x20) 16 13 = v.field 16 13
          ∧ (∀ k, k ≠ u.val → t.pond k = s.pond k) ∧ (∀ k, k ≠ pdKey u 0x20 → t.reg k = s.reg k)
          ∧ t.pond u = { p with imemLoad := some (s.fld (pdKey u 0x18) 3 49 * 8, v.field 16 13, v.field 0 14) })
    ∧ (∀ a i n, p.imemLoad = some (a, i, n) → s.imemBusy u = true → p.mode = .idle → s.lineStOf (u / 8) ≠ .failed →
        s.clean.loadImem u a i n = r → Gives (.imemLoadDone u) s fun t => t.flag (pdKey u 0x20) 33 = false
          ∧ t.pond u = { r.pond u with imemLoad := none } ∧ ∀ k, k ≠ u.val → t.pond k = s.pond k)

/-- MMA and MMAG give a ticket and enter their grids' queues; SLOT_CLAIM claims free slots or holds; SLOT_FULL fills
the slot (R119, R120, R160, R161, R163, R193). -/
def Obligations.MatrixInstructions : Prop :=
  ∀ (s : State) (u : PondId),
    let p := s.pond u
    (∀ (w : Word) (gang : Bool) (a b : Load),
      let qs := mmaQueues gang w
      let q := qs.headD 0
      let pre := w.field 48 2
      AtInsn s u w → Follows p → p.gridQ = [] → p.vecQ = [] → p.storeQ = [] → p.xsQ = [] → p.posted = [] →
      p.feedA = [(q, [a])] → p.feedB = [(q, [b])] → w.field 56 8 = (if gang then 0x39 else 0x38) → pre ≠ 3 →
      (pre = 1 → w.field 45 3 < 6) → modeAdmits (w.field 52 4) a.operandFmt b.operandFmt = true →
      mmaStatus p gang w a b = none → a.fault = none → b.fault = none → (∀ k ∈ qs, s.phaseOf u k = .idle) →
      Gives (if gang then .mmag u else .mma u) s fun t =>
        (t.pond u).sreg (w.field 29 5) = (if w.field 29 5 = 0 then 0 else BitVec.ofNat 64 p.nextTicket)
        ∧ (t.pond u).nextTicket = (p.nextTicket + 1) % 65536
        ∧ (t.pond u).held = (if pre = 2 then (p.unhold ((p.sreg (w.field 40 5)).toNat % 65536)).held else p.held)
            ++ [{ ticket := p.nextTicket, gang := gang, ofmt := w.field 36 4, omx := w.flag 35 }]
        ∧ (t.pond u).feeder true q = [] ∧ (t.pond u).feeder false q = []
        ∧ (∀ k ∈ qs, ((t.pond u).gridOps k).map (·.ticket) = [p.nextTicket]) ∧ t.mem = s.mem)
    ∧ (∀ (grids : Fin 16) (q : Nat) (m : MmaOp), (List.range 4).filter (bit grids) = [q] → s.pondWorks u = true →
        p.draining q = some m → (m.gang = true → q = 0) → p.mode = .run → p.wait ≠ .drain → p.faulty = [] →
        p.vecQ = [] → p.storeQ = [] → p.xsQ = [] → p.posted = [] → (p.mmas.all fun x => x.pre != 2 || x.preReady) = true →
        let qs := mmaGrids m q
        (qs.length ≤ p.freeSlots.length → Gives (.slotClaim u grids) s fun t =>
          (∀ c ∈ qs.zip p.freeSlots, (t.pond u).slot c.2
            = { st := .filling, ticket := m.ticket, ofmt := m.ofmt, omx := m.omx, gang := m.gang, quad := if m.gang then c.1 else 0 })
          ∧ ∀ k, k ∉ p.freeSlots.take qs.length → (t.pond u).slot k = p.slot k)
        ∧ (p.freeSlots.length < qs.length → Gives (.slotClaim u grids) s fun t =>
          (∀ k, (t.pond u).slot k = p.slot k) ∧ ∀ k ∈ qs, ∀ g, s.gridOf u k = some g → (t.grid g).held = true))
    ∧ (∀ (g : Fin 4) (shadow : ShadowResult) (m : MmaOp) (k : Nat), s.pondWorks u = true → p.mode = .run → p.wait ≠ .drain →
        p.feedA = [] → p.feedB = [] → p.vecQ = [] → p.storeQ = [] → p.xsQ = [] → p.posted = [] →
        p.gridQ = [(g.val, [m])] → m.gang = false → m.started = true → m.claimed = [g.val] → m.full = [] →
        m.record = false → p.slotFor m g = some k →
        (∀ x, s.gridOf u g = some x → (s.healthOf (gridHealth (x / 34) (x % 34))).st ≠ .suspect) →
        Gives (.slotFull u g shadow) s fun t => (t.pond u).gridQ = []
          ∧ (t.pond u).slot k = { p.slot k with st := .full, tile := (m.tile g).1 }
          ∧ ∀ j, j ≠ k → (t.pond u).slot j = p.slot j)

/-- Ramps start, pass their stages and end, and a grid leaves at its tile boundary, as R132 to R135 and R138 say
(R132, R133, R134, R135, R138). -/
def Obligations.GridEvents : Prop :=
  ∀ (s : State) (g : SlotId),
    let x := s.grid g
    let runs := s.lineStOf (g / 34) ≠ .failed
    let all := s.rampGroup g
    let become (t : State) (f : GridPhase → GridPhase) : Prop := { t with grids := s.grids } = s
      ∧ ∀ k, t.grid k = if k ∈ all then { s.grid k with phase := f (s.grid k).phase } else s.grid k
    (∀ u q m, s.nameOf g = some (u, q) → s.startable u q = some m → s.pondWorks u = true →
        (∀ k ∈ mmaGrids m q, s.phaseOf u k = .idle ∨ s.phaseOf u k = .active) → Gives (.startRamp g) s fun t =>
          (t.grid g).phase = .rampUp 0 ∧ { t with grids := s.grids, ponds := s.ponds } = s)
    ∧ (runs → (x.phase = .active ∨ ∃ st, x.phase = .rampUp st) →
        (∀ k ∈ all, ∀ u q, s.nameOf k = some (u, q) → (s.pond u).nextMma q = none ∨ s.gridTakes u q = false) →
        Gives (.stopRamp g) s fun t => become t fun _ => .rampDown 0)
    ∧ (runs → all.Nodup → Gives (.rampStageEnd g) s fun t => become t fun ph => match ph with
        | .rampUp 0 => .rampUp 1 | .rampUp 1 => .rampUp 2 | .rampUp 2 => .rampUp 3 | .rampUp _ => .active
        | .rampDown 0 => .rampDown 1 | .rampDown 1 => .rampDown 2 | .rampDown _ => .rampDown 3
        | other => other)
    ∧ (runs → x.phase = .rampDown 3 → s.gridBusy g = false → x.leave = false → ¬ (x.out = true ∧ x.testReq = true) →
        Gives (.gridIdle g) s fun t => OnlyGrid s t g { x with phase := .idle })
    ∧ (runs → x.phase = .rampDown 3 → s.gridBusy g = false → x.out = true → x.testReq = true →
        Gives (.gridIdle g) s fun t => OnlyGrid s t g { x with phase := .test })
    ∧ (runs → x.takeOut = true → x.testReq = false → x.leave = false → x.phase = .idle → Gives (.tileBoundaryTakeOut g) s fun t =>
        OnlyGrid s t g { x with out := true, takeOut := false })
    ∧ (runs → x.takeOut = true ∨ x.testReq = true → (x.phase = .active ∨ ∃ st, x.phase = .rampUp st) →
        Gives (.tileBoundaryTakeOut g) s fun t =>
          OnlyGrid s t g { x with out := true, takeOut := false, phase := .rampDown 0 })
    ∧ (∀ via v, s.bWrites via (g / 34) = true → v.field 3 5 = 0 → v.field 10 54 = 0 → v.field 0 3 ≠ 7 →
        let writes (t : State) : Prop := t.flag (grdKey g 0) 8 = v.flag 8
          ∧ t.fld (grdKey g 0) 0 3 = (if s.lockedAt (g / 34) then s.fld (grdKey g 0) 0 3 else v.field 0 3)
          ∧ t.flag (grdKey g 0) 9 = (v.flag 9 || s.flag (grdKey g 0) 9)
          ∧ (∀ k, k ≠ grdKey g 0 → t.reg k = s.reg k) ∧ { t with regs := s.regs, grids := s.grids } = s
        let held (t : State) : Prop := (v.flag 8 = true → x.out = false → (t.grid g).takeOut = true)
          ∧ (v.flag 8 = false → (t.grid g).takeOut = false) ∧ (t.grid g).testReq = (v.flag 9 || x.testReq)
        (x.phase ≠ .idle ∨ s.gridBusy g = true →
          Gives (.holdNew via g v) s (fun t => writes t ∧ held t) ∧ Gives (.testReq via g v) s (fun t => writes t ∧ held t))
        ∧ (runs → x.phase = .idle → s.gridBusy g = false → x.leave = false →
          (v.flag 8 = true → v.flag 9 = false → x.testReq = false →
            Gives (.holdNew via g v) s (fun t => writes t ∧ (t.grid g).out = true ∧ (t.grid g).phase = .idle))
          ∧ (v.flag 9 = true →
            Gives (.testReq via g v) s (fun t => writes t ∧ (t.grid g).out = true ∧ (t.grid g).phase = .test))))

/-- START, STOP, RESET and LOCK act on the Line as R24, R29, R32 and R9 say, and LINE_READY and LINE_DRAINED end
STARTING and STOPPING (R9, R24, R25, R28, R29, R31, R32, R413, R493). -/
def Obligations.LineControl : Prop :=
  ∀ (s : State) (via : Via) (l : LineId) (v : Word),
    let ln := s.line l
    let surv := if ln.locked then ln.survive else v.flag 4
    (s.lnWrites via l = true → v.field 5 59 = 0 →
      (v.flag 0 = true → v.flag 1 = false → v.flag 2 = false → ln.st = .stopped → s.clearing l = false → s.tdisp l ≠ .locked →
        Gives (.start via l v) s fun t => (t.line l).st = .starting ∧ (t.line l).survive = surv
          ∧ (t.line l).locked = (ln.locked || v.flag 3) ∧ t.mem = s.mem ∧ t.ponds = s.ponds ∧ t.regs = s.regs)
      ∧ (v.flag 1 = true → v.flag 2 = false → ln.st.isUp = true → NothingQueued s l →
        Gives (.stop via l v) s fun t => (t.line l).st = .stopping ∧ (t.line l).cause = 0x01
          ∧ (t.line l).locked = (ln.locked || v.flag 3) ∧ t.mem = s.mem)
      ∧ (v.flag 2 = true → ln.st ≠ .off → ln.st ≠ .applying → s.tdisp l = .unlocked →
        Gives (.reset via l v) s fun t => (t.line l).st = .stopped ∧ (t.line l).cause = 0x05
          ∧ (t.line l).locked = v.flag 3 ∧ (t.line l).survive = v.flag 4 ∧ (t.line l).ended = [] ∧ t.mem = s.mem
          ∧ t.poison = s.poison ∧ t.tt = s.tt)
      ∧ (v.flag 0 = false → v.flag 1 = false → v.flag 2 = false → Gives (.lock via l v) s fun t =>
          OnlyLine s t l { ln with survive := surv, locked := ln.locked || v.flag 3 }))
    ∧ (s.isLeader l = true → ln.st = .starting → Gives (.lineReady l) s fun t => (t.line l).st = .running
        ∧ (∀ b ∈ s.members l, (t.bpow b).pll = true ∧ (t.bmem b).selfRefresh = false) ∧ t.mem = s.mem)
    ∧ (s.isLeader l = true → ln.st = .stopping → s.drained l = true → Gives (.lineDrained l) s fun t =>
        (t.line l).st = .stopped ∧ (∀ b ∈ s.members l, (t.bpow b).pll = false ∧ (t.bmem b).selfRefresh = true)
        ∧ ∀ h < 128, s.leaderOf (h / 16) = l.val → (t.hart h).mode ≠ .run ∧ (t.hart h).mode ≠ .wfi)
    ∧ (s.hubWrites = true → v.field 8 56 = 0 → (∀ n < 8, v.flag n = true → s.isLeader n = true → NothingQueued s n) →
        Gives (.hubLineStop v) s fun t => ∀ n < 8,
          if v.flag n ∧ s.isLeader n ∧ (s.line n).st.isUp then (t.line n).st = .stopping ∧ (t.line n).cause = 0x06
          else t.line n = s.line n)

/-- TT_LOAD starts or refuses a load, and its ends report RESULT, as R69 to R72, R76 and R78 say (R69, R70, R71, R72,
R76, R78, R80). -/
def Obligations.TimetableCommands : Prop :=
  ∀ (s : State),
    let st := ttKey 8
    let early := s.boot.stage.early
    (∀ v : Word, s.hubWrites = true → v.field 5 59 = 0 → v.flag 4 = true → early = false →
      let src : TtSrc := match v.field 0 2 with | 1 => .slotA | 2 => .slotB | _ => .host
      let fine := v.field 0 2 ≠ 3 ∧ (v.field 0 2 = 0 → (s.reg (ttKey 0x10)).toNat % 8 = 0
        ∧ 8 ≤ s.fld (ttKey 0x18) 0 21 ∧ s.fld (ttKey 0x18) 0 21 ≤ 0x100000)
      let begins (t : State) : Prop :=
        (∃ x, t.ttLoad = some x ∧ x.src = src ∧ x.dryRun = v.flag 2 ∧ x.persist = v.flag 3
          ∧ (s.sec.ownerOp = none → x.stage = .reading)) ∧ t.tt = s.tt ∧ t.mem = s.mem
      (s.ttLoad = none → s.fwWriting = false → fine → v.flag 2 = false → Gives (.ttLoad v) s begins)
      ∧ (s.ttLoad = none → s.fwWriting = false → fine → v.flag 2 = true → Gives (.ttDryRun v) s begins)
      ∧ (∀ x, s.ttLoad = some x → Gives (.ttLoad v) s fun t => t.flag st 1 = true ∧ t.ttLoad = some x ∧ t.tt = s.tt))
    ∧ (∀ x sigOk, s.ttLoad = some x → x.stage = .reading →
        (Gives (.ttImageReadDone false sigOk) s fun t => t.ttLoad = none ∧ t.fld st 8 8 = 0x01 ∧ t.tt = s.tt)
        ∧ (∀ img a, s.ttImage x true = some img → s.ttCheck img false sigOk = .ok a →
            s.ttBusy (s.tt.touched a.next) = [] → x.dryRun = true →
            Gives (.ttImageReadDone true sigOk) s fun t => t.ttLoad = none ∧ t.fld st 8 8 = 0 ∧ t.tt = s.tt ∧ t.mem = s.mem))
    ∧ (∀ x, s.ttLoad = some x → x.stage = .applying → x.src = .host → x.persist = false →
        Gives .ttApplyDone s fun t => t.tt = x.next ∧ t.ttLoad = none ∧ t.fld st 8 8 = 0 ∧ t.flag st 2 = false)
    ∧ (∀ x, s.ttLoad = some x → x.stage = .persisting → s.fwWriting = false →
        (Gives (.ttPersistDone true) s fun t => t.ttLoad = none ∧ t.fld st 8 8 = 0 ∧ t.flag st 2 = true
          ∧ t.flag st 5 = !s.flag st 5 ∧ (if s.flag st 5 then t.flash.slotA = x.image else t.flash.slotB = x.image))
        ∧ (Gives (.ttPersistDone false) s fun t => t.ttLoad = none ∧ t.fld st 8 8 = 0x14 ∧ t.tt = s.tt))
    ∧ (∀ v : Word, s.hubWrites = true → v.field 5 59 = 0 → v.flag 4 = true → s.fwWriting = true →
        Gives (.ttLoad v) s fun t => t.flag st 1 = true ∧ t.ttLoad = s.ttLoad ∧ t.tt = s.tt)

/-- A write to a register without a behaviour of its own acts on each bit by its access code; what registers without
storage read as (R7, R8, R9, R13, R20, R26, R38, R545, R553). -/
def Obligations.Registers : Prop :=
  ∀ (s : State) (via : Via) (l : LineId) (off : Nat) (a : Access) (v : Word),
    let x := accessPlace a v
    let after (sp : RegSpec) (locked : Bool) (old new : Word) : Prop := ∀ i < 64, new.flag i =
      (((if (bit sp.rw i || (bit sp.rwl i && !locked)) && bit (accessMask a) i then bit x i else old.flag i)
        && !(bit x i && bit sp.w1c i)) || (bit x i && bit sp.w1s i))
    let sc : Scope := if via = .pf0 then .module else .line
    let own := [(LnBlk.lead, 0x410), (.lead, 0x708), (.cfl, 0x10), (.xlat, 0), (.cfl, 0)]
    (s.lnWrites via l = true → off % 8 = 0 → off ≠ 0x100 → off ≠ 0x118 → ∀ r sp, s.regAt l off = some (r, sp) →
      (a ≠ .other → sp.badAccess a = false → x &&& sp.rsv = 0 → (∀ w, s.clean.writeOwn l r w = none) → r.wakes = false →
        r.goBit = none → (r.blk, r.off) ∉ own → Gives (.registerWrite via (.line l) off a v) s fun t =>
          after sp (s.line l).locked (s.reg r.key) (t.reg r.key) ∧ OnlyReg s t r.key (t.reg r.key))
      ∧ (a ≠ .other → sp.badAccess a = false → x &&& sp.rsv ≠ 0 → r.wakes = false → r.goBit = none →
          (∀ w, (s.clean.undef .reservedWrite).writeOwn l r w = none) →
          exec (.registerWrite via (.line l) off a v) s = .fault (.undefinedCase .reservedWrite sc))
      ∧ (a = .other → exec (.registerWrite via (.line l) off a v) s = .fault (.undefinedCase .registerAccess sc)))
    ∧ (s.hubServes off = true → off % 8 = 0 → off < 2 ^ 28 → a ≠ .other → ∀ r sp, hubRegAt off = some (r, sp) →
        sp.badAccess a = false → x &&& sp.rsv = 0 → (∀ w, s.clean.writeHubOwn r w = none) →
        Gives (.registerWrite .pf0 .hub off a v) s fun t =>
          after sp false (s.reg (hubKey off)) (t.reg (hubKey off)) ∧ OnlyReg s t (hubKey off) (t.reg (hubKey off)))
    ∧ (s.lnWrites via l = false → off % 8 = 0 → off ≠ 0x100 → off ≠ 0x118 → a ≠ .other →
        Gives (.registerWrite via (.line l) off a v) s fun t => t = s)
    ∧ (via ≠ .pf0 → Gives (.registerWrite via .hub off a v) s fun t => t = s)
    ∧ (∀ tenant : Bool,
        (off ∉ [0x108, 0x118, 0x120, 0x130] → s.isLeader l = false ∨ s.regAt l off = none → s.readLine tenant l off = 0)
        ∧ s.readHub 0x60 = BitVec.ofNat 64 s.time ∧ s.readHub 0x10 = s.bootStatus
        ∧ (s.boot.stage = .halted → off ∉ [0x00, 0x10, 0x18, 0x40, 0x60] → s.readHub off = 0)
        ∧ (s.isLeader l = true → bit s.applyingMask l = false → (s.lnStatus l).field 0 3 = (s.line l).st.code))

/-- Spare copies, lost links, scrubbing, hard repairs and refresh rates act on the basin as R220, R226 and R232 to
R235 say (R220, R226, R232, R233, R234, R235, R449). -/
def Obligations.MemoryEvents : Prop :=
  ∀ (s : State) (b : BasinId) (mc : MemChanId),
    let m := s.bmem b
    let d := mc.val / 32
    let c := mc.val % 32
    let used := (s.chansOf d).contains c = true ∧ s.chanGood d c = true
    (∀ bank sub, m.copying.find? (fun e => e.1 == bank) = some (bank, sub) → Gives (.spareCopyDone b bank) s fun t =>
        tblGet 0 (t.bmem b).spares bank = 1 + sub ∧ (t.bmem b).copying = m.copying.filter (fun e => e.1 != bank)
        ∧ (t.healthOf (subarrayHealth b bank sub)).st = .retired ∧ t.mem = s.mem)
    ∧ (used → Gives (.channelLinkLoss mc) s fun t =>
        OnlyBmem s t d { s.bmem d with linkLost := tblSet false (s.bmem d).linkLost c true })
    ∧ (s.mayRetrain d c = true → tblGet false (s.bmem d).linkLost c = true →
        (Gives (.channelRetrainDone mc true) s fun t => tblGet false (t.bmem d).linkLost c = false
          ∧ (t.trainRec d c).full = false ∧ (t.trainRec d c).time = s.time ∧ t.flag (memKey d 0x10) (32 + c) = false)
        ∧ Gives (.channelRetrainDone mc false) s fun t => t.flag (memKey d 8) (32 + c) = true
          ∧ tblGet false (t.bmem d).linkLost c = false ∧ (t.healthOf (chanHealth d c)).st = .retired)
    ∧ (∀ rsv : Bool, s.scrubPaused b = false →
        let running (t : State) : Bool := if rsv then (t.bmem b).scrubRsv else (t.bmem b).scrubLpddr
        let ctl := if rsv then rsvKey b 0x20 else memKey b 0x30
        let passes (t : State) (n : Nat) : Prop :=
          let passed (g : Nat) : Prop := scrubBase b rsv + s.scrubAt b rsv ≤ g ∧ g < scrubBase b rsv + n
          (s.errs = [] → t.mem = s.mem)
          ∧ (∀ g, passed g → s.scrubs b rsv g = true → tblGet 0 t.errs g = 0)
          ∧ ∀ blk, passed (blk * 64 + 63) → (s.target (blk * 4096)).memBasin = some b → s.blockValid blk = false →
              s.errs = [] → s.blockPoisoned blk = false → ∀ i < 64, tblGet false t.poison (blk * 64 + i) = true
        (s.fld ctl 0 8 ≠ 0 ∨ running s = true → s.scrubAt b rsv ≤ s.scrubLen b rsv → Gives (.scrubPass b rsv []) s fun t =>
          running t = true ∧ s.scrubAt b rsv ≤ t.scrubAt b rsv ∧ t.scrubAt b rsv ≤ s.scrubLen b rsv
          ∧ passes t (t.scrubAt b rsv))
        ∧ (running s = true → Gives (.scrubPassEnd b rsv) s fun t => running t = false ∧ t.scrubAt b rsv = 0
          ∧ passes t (s.scrubLen b rsv) ∧ t.fld ctl 32 32 = min (s.fld ctl 32 32 + 1) (2 ^ 32 - 1)
          ∧ t.fld ctl 0 8 = s.fld ctl 0 8))
    ∧ (∀ row ok, s.quiet d = true → s.calAllowed d = true → (s.bmem d).pprQueue.contains (c, row) = true →
        Gives (.hardRepair mc row ok) s fun t => (t.bmem d).pprQueue.contains (c, row) = false
          ∧ t.fld (memKey d 0x48) (if ok then 16 else 32) 16 = min (s.fld (memKey d 0x48) (if ok then 16 else 32) 16 + 1) 0xFFFF)
    ∧ (∀ pkg rate, m.selfRefresh = false → Gives (.refresh b pkg rate) s fun t =>
        OnlyBmem s t b { m with refresh := tblSet 0 m.refresh pkg rate })

/-- Load classes, live checks, quiet retraining and maintenance windows act as R236 to R240 and R243 say (R236, R237,
R238, R239, R240, R243). -/
def Obligations.MemoryTraining : Prop :=
  ∀ (s : State) (b : BasinId) (mc : MemChanId),
    let d := mc.val / 32
    let c := mc.val % 32
    let used := (s.chansOf d).contains c = true ∧ s.chanGood d c = true
    let guarded (t : State) (k : Nat) : Bool := t.flag (memKey b 0x10) k
    (Gives (.loadClassChange b true) s fun t => (t.bmem b).loadFull = true ∧ t.mem = s.mem
      ∧ ∀ k ∈ s.chansOf b, (s.trainRec b k).full = false → guarded t k = true)
    ∧ (Gives (.loadClassChange b false) s fun t => (t.bmem b).loadFull = false ∧ t.mem = s.mem
      ∧ ∀ k < 32, guarded t k = (guarded s k && s.flag (memKey b 0x10) (32 + k)))
    ∧ (used → s.flag (memKey d 0x10) c = true → Gives (.liveCheck mc) s fun t =>
        OnlyBmem s t d { s.bmem d with liveCheck := tblSet false (s.bmem d).liveCheck c true })
    ∧ (tblGet false (s.bmem d).liveCheck c = true →
        (Gives (.liveCheckDone mc true) s fun t => tblGet false (t.bmem d).liveCheck c = false
          ∧ t.flag (memKey d 0x10) c = false ∧ (t.trainRec d c).full = (s.bmem d).loadFull ∧ (t.trainRec d c).time = s.time)
        ∧ (Gives (.liveCheckDone mc false) s fun t => tblGet false (t.bmem d).liveCheck c = false
          ∧ t.flag (memKey d 0x10) c = true ∧ t.flag (memKey d 0x10) (32 + c) = true))
    ∧ (∀ l : LineId, s.isLeader l = true → s.idleNow l = true →
        (s.line l).st = .stopped ∨ sinceMs (s.line l).idleFrom s.time = true → Gives (.lineIdle l) s fun t =>
        OnlyLine s t l { s.line l with idle := true })
    ∧ (used → s.quiet d = true → s.calAllowed d = true →
        ((s.bmem d).calibrating = none → Gives (.quietRetrain mc) s fun t => (∀ k, k ≠ d → t.bmem k = s.bmem k)
          ∧ (∃ v, t.bmem d = { s.bmem d with calibrating := some c, settings := tblSet 0 (s.bmem d).settings c v })
          ∧ { t with basinMem := s.basinMem, freeCtr := s.freeCtr } = s)
        ∧ ((s.bmem d).calibrating = some c → Gives (.quietRetrain mc) s fun t => (t.bmem d).calibrating = none
          ∧ (t.trainRec d c).full = false ∧ (t.trainRec d c).time = s.time))
    ∧ ((s.bmem d).calibrating = some c → s.quiet d = false → Gives (.calibrationAbandon mc) s fun t =>
        OnlyBmem s t d { s.bmem d with
          calibrating := none, settings := tblSet 0 (s.bmem d).settings c (s.trainRec d c).settings })
    ∧ (∀ via v, s.bWrites via b = true → v.field 17 15 = 0 → v.field 48 16 = 0 → Gives (.grantMs via b v) s fun t =>
        (t.bmem b).maintEnd = (if v.field 0 16 = 0 then none else some (s.time + v.field 0 16 * 1000000))
        ∧ { t with basinMem := s.basinMem } = s)
    ∧ (∀ e, (s.bmem b).maintEnd = some e → e ≤ s.time → Gives (.maintWindowEnd b) s fun t =>
        (t.bmem b).maintEnd = none ∧ { t with basinMem := s.basinMem } = s)

/-- XE_CH_SUBMIT queues the 17 words in memory, and drops them where the channel is full (R245, R246, R247, R271,
R580). -/
def Obligations.TransferSubmission : Prop :=
  ∀ (s : State) (via : Via) (c : ChanId) (v : Word),
    let b := c.val / 16
    let l := s.leaderOf b
    let a := v.field 3 49 * 8
    let w (i : Nat) : Word := wordAt s (a + 8 * i)
    let x0 : Xfer :=
      { words := (List.range 17).map w, asid := (w 16).field 32 16, job := (w 16).field 48 16, cls := (w 0).field 2 2
        src := .register }
    let src := 0x80 + 16 * s.place b + c.val % 16
    s.bWrites via b = true →
    (v.field 52 12 = 0 → (s.line l).st = .running →
      (s.chanRoom c = true → Readable s l a 136 → (w 14).field 0 57 = 0 → Gives (.xeChSubmit via c v) s fun t =>
        (t.chan c).queue = (s.chan c).queue ++ [x0]
        ∧ (∀ d, d ≠ c.val → t.chan d = s.chan d) ∧ t.mem = s.mem ∧ t.regs = s.regs)
      ∧ (s.chanRoom c = false → Gives (.xeChSubmit via c v) s fun t =>
          t.flag (chKey c 0x08) 8 = true ∧ t.chans = s.chans ∧ t.mem = s.mem))
    ∧ (v.field 2 62 = 0 →
      (v.flag 0 = false → Gives (.xeChHold via c v) s fun t =>
        OnlyReg s t (chKey c 0) ((s.reg (chKey c 0)).withField 1 1 (ofBool (v.flag 1))))
      ∧ (∀ x rest, v.flag 0 = true → (s.chan c).queue = x :: rest → x.running = true → x.rdone = false →
          x.sent = [] → x.recDpa = none → (s.lineStOf b).works = true → RouteOff s l src → Gives (.xeChAbort via c v) s fun t =>
            (t.chan c).queue = rest ∧ t.fld (chKey c 0x08) 16 8 = 0x31 ∧ t.flag (chKey c 0) 1 = v.flag 1
            ∧ t.reg (xeKey b 0x18) = BitVec.ofNat 64 (satAdd64 (s.reg (xeKey b 0x18)).toNat 1)
            ∧ t.flag (routeKey l src) 32 = true ∧ t.mem = s.mem))

/-- TRANSFER_START begins the head descriptor at START, or ends it where its job has ended or its peer is gone (R249,
R250, R251, R258, R454). -/
def Obligations.TransferStarts : Prop :=
  ∀ (s : State) (c : ChanId) (x : Xfer) (rest : List Xfer),
    let b := c.val / 16
    let l := s.leaderOf b
    (s.lineStOf b).works = true → (s.chan c).queue = x :: rest → x.running = false → s.flag (chKey c 0) 1 = false →
    x.op ≠ 3 → x.cls ≠ 3 → (x.op = 2 → x.dstRemote = true) → (x.srcRemote = true → x.dstRemote = false) →
    x.reserved = false → (x.empty = false → x.overlaps = false) →
    (s.jobEnded l x.job = false → x.empty = false → (x.remote = true → ∀ st, s.ctxGate l x.peer x.cls ≠ .gone st) →
      Gives (.transferStart c) s fun t =>
        OnlyChan s t c ({ x with running := true, pos := x.start, sentPos := x.start } :: rest))
    ∧ (s.jobEnded l x.job = true → x.recDpa = none → RouteOff s l (0x80 + 16 * s.place b + c.val % 16) →
        Gives (.transferStart c) s fun t => (t.chan c).queue = rest ∧ t.fld (chKey c 0x08) 16 8 = 0x30
          ∧ t.flag (routeKey l (0x80 + 16 * s.place b + c.val % 16)) 32 = true ∧ t.mem = s.mem)

/-- A delivery of a FILL or a COPY within the Line puts the right bytes at the destination and moves the cursor past
them (R43, R250, R252, R253, R254, R255, R259, R267). -/
def Obligations.TransferDelivery : Prop :=
  ∀ (s r s1 s2 : State) (c : ChanId) (x : Xfer) (rest : List Xfer) (g : Seg) (pa ps : Nat),
    let b := c.val / 16
    let l := s.leaderOf b
    let who := s.chanWho c x.asid
    let va := x.dstAt x.pos
    let moved (s3 t : State) : Prop :=
      SeenOutside s3 t pa g.len
      ∧ t.reg (chKey c 0x18) = BitVec.ofNat 64 (satAdd64 (s3.reg (chKey c 0x18)).toNat g.len)
      ∧ if x.total ≤ x.pos + g.len then (t.chan c).queue = rest ∧ t.fld (chKey c 0x08) 16 8 = 0
        else ∃ y, (t.chan c).queue = y :: rest ∧ y.pos = x.pos + g.len ∧ y.bytes = x.bytes + g.len ∧ y.words = x.words
          ∧ y.running = true
    (s.lineStOf b).works = true → (s.chan c).queue = x :: rest → x.running = true → x.remote = false → x.sent = [] →
    s.clean.turnOf b l (s.engineWaits b) (c.val % 16) = some r →
    s.jobEnded l x.job = false → x.recDpa = none → (x.w 12).flag 15 = false → (x.w 12).flag 47 = false →
    x.delivery x.pos = [g] →
    (x.op = 1 → r.xlateFor who va false true = (.ok pa, s1) → s1.misuse = none → BlockWritable s1 l (pa / 4096) →
      Gives (.deliveryCommit c) s fun t => moved s1 t
        ∧ ∀ i < g.len, seen t (pa + i) = (leBytes 8 (x.w 1).toNat).getD ((x.pos % x.len0 + i) % 8) 0)
    ∧ (x.op = 0 → g.src % 4096 + g.len ≤ 4096 → r.xlateFor who g.src true false = (.ok ps, s1) →
        s1.blockValid (ps / 4096) = true → Readable s1 l ps g.len →
        s1.xlateFor who va false true = (.ok pa, s2) → s2.misuse = none → BlockWritable s2 l (pa / 4096) →
        Gives (.deliveryCommit c) s fun t => moved s2 t
          ∧ ∀ i < g.len, seen t (pa + i) = seen s1 (ps + i))

/-- Fences queue in the Line, drop what they name from every member's unit, and complete in order; HOST_EN needs a
host (R282, R283, R290, R302). -/
def Obligations.TranslationFences : Prop :=
  ∀ (s : State) (via : Via) (l : LineId) (v : Word),
    let ln := s.line l
    let f0 : Fence :=
      { allAsid := v.flag 16, asid := v.field 0 16, allVa := v.flag 17, vpn := s.fld (xlKey l 0x18) 12 45
        pages := v.field 18 20 }
    (s.lnWrites via l = true → v.field 39 25 = 0 →
      (v.flag 38 = false → Gives (.xlatFenceGo via l v) s fun t =>
        OnlyReg s t (xlKey l 0x10) (BitVec.ofNat 64 (v.field 0 38)))
      ∧ (v.flag 38 = true → ln.fences.length < 4 → Gives (.xlatFenceGo via l v) s fun t =>
          (t.line l).fences = ln.fences ++ [f0]
          ∧ (t.line l).fencesIssued = (ln.fencesIssued + 1) % 65536 ∧ (t.line l).fencesDone = ln.fencesDone
          ∧ t.tlbs = s.tlbs ∧ t.mem = s.mem)
      ∧ (v.flag 38 = true → 4 ≤ ln.fences.length → Gives (.xlatFenceGo via l v) s fun t =>
          (t.line l).fences = ln.fences ∧ t.flag (xlKey l 0x20) 35 = true))
    ∧ (∀ f rest, ln.fences = f :: rest →
        (ln.fenceOn = false → Gives (.fenceBegin l) s fun t =>
          (∀ b, t.tlb b = if b ∈ s.members l then (s.tlb b).filter fun e => !f.hits e else s.tlb b)
          ∧ t.line l = { ln with fenceOn := true } ∧ (∀ k, k ≠ l.val → t.line k = s.line k)
          ∧ (∀ c < 128, (t.chan c).queue = if c / 16 ∈ s.members l then (s.chan c).queue.map fun x => { x with
              fenced := x.recDpa.isSome && s.fenceCovers f (c / 16) x.asid ((x.w 14).field 0 57) } else (s.chan c).queue)
          ∧ (∀ u < 64, t.pond u = if u / 8 ∈ s.members l then { s.pond u with
              fenced := (s.pond u).recDpa.isSome && s.fenceCovers f (u / 8) (s.pond u).cur.asid (s.pond u).cur.recVa }
              else s.pond u)
          ∧ { t with tlbs := s.tlbs, lines := s.lines, chans := s.chans, ponds := s.ponds, layers := s.layers } = s)
        ∧ (ln.fenceOn = true → s.fenceHeld l = true → Gives (.fenceComplete l) s fun t => t = s)
        ∧ (ln.fenceOn = true → s.fenceHeld l = false → f.src = .register → s.fenceWaiter l = none → Gives (.fenceComplete l) s fun t =>
            OnlyLine s t l { ln with fences := rest, fenceOn := false, fencesDone := (ln.fencesDone + 1) % 65536 }))
    ∧ (s.lnWrites via l = true → v.field 1 63 = 0 → Gives (.hostEn via l v) s fun t =>
        OnlyReg s t (xlKey l 8) ((s.reg (xlKey l 8)).withField 0 1
          (ofBool (v.flag 0 && (s.host.attached || s.flag (xlKey l 8) 0)))))

/-- LN_QCTL enables, disables and resumes queues, and QUEUE_DISABLE_DONE writes HEAD_SEQ and turns them OFF (R310,
R311, R315, R326, R327). -/
def Obligations.QueueControl : Prop :=
  ∀ (s : State) (via : Via) (l : LineId) (v : Word),
    let q := v.field 0 12
    let x := s.queue (qKey l q)
    let a := s.tableEntry l q
    let w (i : Nat) : Word := wordAt s (a + 8 * i)
    let on : AQueue :=
      { st := .active, sqBase := (w 0).field 0 52, sqSize := 2 ^ ((w 0).field 52 4 + 4), cls := (w 0).field 56 2
        cqBase := (w 1).field 0 52, cqSize := 2 ^ ((w 1).field 52 4 + 4), cqid := q, vector := (w 2).field 12 11
        irqEn := (w 2).flag 23, asid := (w 2).field 32 16, h := (w 3).field 0 16, t := (w 3).field 0 16
        reach := (w 3).field 0 16, headMark := x.headMark }
    let only (t : State) (y : AQueue) : Prop :=
      t.queue (qKey l q) = y ∧ (∀ k, k ≠ qKey l q → t.queue k = s.queue k) ∧ t.mem = s.mem
    (s.lnWrites via l = true → v.field 19 13 = 0 → v.flag 14 = true →
      (v.field 12 2 = 1 → q < s.queueCount l → x.st = .off → Readable s l a 64 → (w 0).field 52 4 ≤ 8 →
        (w 1).field 52 4 ≤ 12 → s.ringPlace l ((w 0).field 0 52) = true → s.ringPlace l ((w 1).field 0 52) = true →
        (w 2).field 0 12 = q → (w 0).field 56 2 ≠ 3 → Gives (.queueEnable via l v) s fun t => only t on)
      ∧ (v.field 12 2 = 2 → x.st = .active ∨ x.st = .parked →
          (∀ p ∈ s.lineQueues l, p ≠ q → (s.queue (qKey l p)).st ≠ .off → (s.queue (qKey l p)).cqid ≠ q) →
          Gives (.queueDisable via l v) s fun t => only t { x with
            st := .disabling, wasParked := x.st == .parked, reach := x.h, kept := [], fetched := [], waiting := none
            refetch := 0 })
      ∧ (v.field 12 2 = 3 → x.st = .parked → Gives (.queueResume via l v) s fun t => only t { x with
          st := .active, reach := x.h, kept := [], fetched := [], waiting := none, refetch := 0 }))
    ∧ (x.st = .disabling → x.running = [] → (∀ p ∈ s.lineQueues l, (s.queue (qKey l p)).st = .disabling → p = q) →
        Writable s l (a + 32) 8 → Gives (.queueDisableDone l) s fun t => (t.queue (qKey l q)).st = .off
          ∧ wordAt t (a + 32) = BitVec.ofNat 64 (x.h + ofBool x.wasParked * 65536) ∧ SeenOutside s t (a + 32) 8
          ∧ ∀ k, k ≠ qKey l q → t.queue k = s.queue k)

/-- An SQ doorbell moves T within the ring, a CQ head doorbell frees slots, and a wrong index is recorded (R314, R315,
R324, R327). -/
def Obligations.Doorbells : Prop :=
  ∀ (s : State) (via : Via) (l : LineId) (q : QueueId) (v : Word),
    let x := s.queue (qKey l q)
    let d := v.field 16 16
    let n := (v.field 0 16 + x.cqSize - x.cqHead % x.cqSize) % x.cqSize
    let only (t : State) (y : AQueue) : Prop :=
      t.queue (qKey l q) = y ∧ (∀ k, k ≠ qKey l q → t.queue k = s.queue k) ∧ t.mem = s.mem
    s.lnWrites via l = true → q.val < s.queueCount l → x.st ≠ .off →
    (v.field 32 32 = 0 →
      (v.field 0 16 = d % x.sqSize → ¬ (seqSub x.h d ≤ x.sqSize ∧ d ≠ x.h) → seqSub d x.h ≤ x.sqSize →
        Gives (.sqDoorbell via l q v) s fun t => only t { x with t := if seqSub d x.t < 32768 then d else x.t })
      ∧ (v.field 0 16 ≠ d % x.sqSize → s.flag (lnKey l 0x410) 36 = false → RouteOff s l 0x100 →
        Gives (.sqDoorbell via l q v) s fun t => only t x ∧ t.fld (lnKey l 0x410) 12 8 = 0x03
          ∧ t.fld (lnKey l 0x410) 0 12 = q ∧ t.fld (lnKey l 0x410) 20 16 = d ∧ t.flag (routeKey l 0x100) 32 = true))
    ∧ (v.field 16 48 = 0 → v.field 0 16 < x.cqSize → n ≤ x.cqWritten - x.cqHead → x.fetched = [] →
        (∀ p ∈ s.lineQueues l, ∀ c ∈ (s.queue (qKey l p)).running, c.done = false) →
        Gives (.cqHeadDoorbell via l q v) s fun t => only t { x with cqHead := x.cqHead + n, headMark := s.host.signals })

/-- A fetch takes a valid entry whole, and a re-fetch of one that is still not valid counts (R312, R313, R316, R317,
R319). -/
def Obligations.EntryFetch : Prop :=
  ∀ (s : State) (l : LineId) (q : QueueId),
    let x := s.queue (qKey l q)
    let a := x.sqBase + x.h % x.sqSize * 128
    let bs := (List.range 128).map fun i => seen s (a + i)
    let c : ACmd :=
      { seq := x.h, entries := 1, w0 := entryWord bs 0, w1 := entryWord bs 1, arg0 := entryWord bs 2
        arg1 := entryWord bs 3, payload := bs.drop 32 }
    let only (t : State) (y : AQueue) : Prop :=
      t.queue (qKey l q) = y ∧ (∀ k, k ≠ qKey l q → t.queue k = s.queue k) ∧ t.mem = s.mem
    s.fetches l q = true → x.fetched = [] → x.kept = [] → x.h < 65536 → (x.h + 1) % 65536 = x.t → 0 < x.sqSize →
    Readable s l a 128 →
    (entryValid bs x.h x.sqSize = true → (entryWord bs 0).field 9 3 = 0 → c.isBad = false →
      (x.reach = x.h → Gives (.sqFetchReturn l q) s fun t => only t { x with
        reach := x.t, fetched := [c], waiting := none, refetch := if x.waiting = none then x.refetch else 0 })
      ∧ (x.reach = x.t → x.waiting = some x.h → Gives (.refetch l q) s fun t =>
          only t { x with fetched := [c], waiting := none, refetch := 0 }))
    ∧ (entryValid bs x.h x.sqSize = false →
      (x.reach = x.h → x.waiting = none → Gives (.sqFetchReturn l q) s fun t =>
        only t { x with reach := x.t, waiting := some x.h, refetch := 0 })
      ∧ (x.waiting = some x.h → x.refetch < 7 → Gives (.refetch l q) s fun t =>
          only t { x with refetch := x.refetch + 1 }))

/-- NOP, LAUNCH, XFER, WRITE_INLINE and READ_INLINE do what R319 gives them and are completed; XLAT_FENCE queues its
fence (R178, R247, R275, R283, R312, R316, R319, R322). -/
def Obligations.AporiWork : Prop :=
  ∀ (s r s1 : State) (l : LineId) (q : QueueId) (c : ACmd) (b pa : Nat),
    let s0 := r.take l q c
    let slot := cqSlot s l q
    let va := c.arg0.field 0 57
    let u := b * 8 + c.arg0.field 3 3
    let ch := b * 16 + c.arg0.field 3 4
    let n := min (c.arg1.field 0 10) c.payload.length
    let la := launchOf (payloadWords c.payload 8)
    let x0 : Xfer :=
      { words := payloadWords c.payload 17, asid := s.cmdAsid l q c, job := c.job, cls := s.queueCls l q, src := .command }
    let low := s0.lowBitsOf x0.words [(14, 0, 57, 64)]
    let x1 : Xfer := { x0 with words := low.1 }
    let ok (t : State) (result : Word) : Prop := Answered s s0 t l q c 0 result false
    let xlates (s2 : State) (w : Who) (va : Nat) (rd wr : Bool) : Prop :=
      s2.xlateFor w va rd wr = (.ok pa, s1) ∧ s1.misuse = none ∧ Writable s1 l slot 32
    Dispatches s r l q c →
    (c.opcode = 0 → Gives (.aporiNop l q) s fun t => ok t 0 ∧ SeenOutside s t slot 32 ∧ t.ponds = s.ponds ∧ t.chans = s.chans)
    ∧ (c.opcode = 1 → s.atPlace l (c.arg0.field 0 3) = some b → (s.pond u).launches.length < 8 →
        (entryWord c.payload 0).field 48 2 ≠ 3 → Gives (.launch l q) s fun t => ok t 0 ∧ SeenOutside s t slot 32
          ∧ t.pond u = { s.pond u with launches := (s.pond u).launches ++ [{ la with recVa := (s0.lowBits la.recVa 32).1 }] }
          ∧ ∀ k, k ≠ u → t.pond k = s.pond k)
    ∧ (c.opcode = 2 → s.atPlace l (c.arg0.field 0 3) = some b → s.chanRoom ch = true →
        ((x0.w 14).field 0 57 = 0 → Gives (.xfer l q) s fun t => ok t 0 ∧ SeenOutside s t slot 32
          ∧ (t.chan ch).queue = (s.chan ch).queue ++ [x0] ∧ ∀ k, k ≠ ch → t.chan k = s.chan k)
        ∧ ((x1.w 14).field 0 57 ≠ 0 → xlates low.2 (s.chanWho ch x0.asid) ((x1.w 14).field 0 57) false true →
          Gives (.xfer l q) s fun t => ok t 0 ∧ SeenOutside s1 t slot 32
            ∧ (t.chan ch).queue = (s.chan ch).queue ++ [{ x1 with recDpa := some pa }]
            ∧ ∀ k, k ≠ ch → t.chan k = s.chan k))
    ∧ (c.opcode = 3 → 0 < n → va % 4096 + n ≤ 4096 → xlates s0 (s0.cmdWho l q c) va false true →
        BlockWritable s1 l (pa / 4096) → s1.blockValid (pa / 4096) = true →
        (∀ i < 64, (s1.granule (pa / 4096 * 64 + i)).2 = false) → Gives (.writeInline l q) s fun t => ok t 0
          ∧ (∀ i < n, pa + i < slot ∨ slot + 32 ≤ pa + i → seen t (pa + i) = c.payload.getD i 0)
          ∧ ∀ a < 2 ^ 52, (a < slot ∨ slot + 32 ≤ a) → (a < pa ∨ pa + n ≤ a) → seen t a = seen s1 a)
    ∧ (c.opcode = 4 → va % 4096 + 8 ≤ 4096 → xlates s0 (s0.cmdWho l q c) va true false → Readable s1 l pa 8 →
        Gives (.readInline l q) s fun t => ok t (wordAt s1 pa) ∧ SeenOutside s1 t slot 32)
    ∧ (c.opcode = 9 → (s.line l).fences.length < 4 → Gives (.xlatFence l q) s fun t =>
        (t.line l).fences = (s.line l).fences ++ [s.cmdFence l q c] ∧ t.mem = s.mem
        ∧ (t.queue (qKey l q)).running = (s.queue (qKey l q)).running ++ [{ c with since := s.time, fenced := true }])

/-- SYNC_ADD, SYNC_SET and the SYNC_WAITs act on the counter named; MIRROR answers the records applied (R168, R170,
R285, R287, R319, R320, R322). -/
def Obligations.AporiSync : Prop :=
  ∀ (s r s1 : State) (l : LineId) (q : QueueId) (c : ACmd) (m : Mirrored),
    let s0 := r.take l q c
    let slot := cqSlot s l q
    let i := c.arg0.field 0 15
    let n := c.arg0.field 16 16
    let calm := ∀ a, s.counterDpa l i = some a →
      (s.granule (a / 64)).1.length = 64 ∧ s.onFailed a = none ∧ Quiet s (a / 64)
    (∀ old, Dispatches s r l q c → s.counterVal l i = some old → calm →
      (c.opcode = 5 → Gives (.syncAdd l q) s fun t => Answered s s0 t l q c 0 0 false
        ∧ t.counterVal l i = some ((old + c.arg1.toNat) % 2 ^ 64))
      ∧ (c.opcode = 7 → Gives (.syncSet l q) s fun t => Answered s s0 t l q c 0 (BitVec.ofNat 64 old) false
        ∧ t.counterVal l i = some c.arg1.toNat)
      ∧ (c.opcode = 6 → c.arg1.toNat ≤ old → Gives (.syncWait l q) s fun t => Answered s s0 t l q c 0 0 false
        ∧ SeenOutside s t slot 32)
      ∧ (c.opcode = 6 → old < c.arg1.toNat → Gives (.syncWait l q) s fun t => t.mem = s.mem
        ∧ (t.queue (qKey l q)).running = (s.queue (qKey l q)).running ++ [{ c with since := s.time }]))
    ∧ (s.waiter l q = some c → (s.queue (qKey l q)).running.filter (fun d => d.seq == c.seq) = [c] → Answerable s l q c →
        (s.queue (qKey l q)).fetched = [] → (s.line l).st.works = true →
        (c.satisfied = true → Gives (.syncWaitSatisfied l q) s fun t => Answered s s t l q c 0 0 false
          ∧ SeenOutside s t slot 32)
        ∧ (c.satisfied = false → c.arg0.field 16 32 ≠ 0 →
            c.since + c.arg0.field 16 32 * 1000 ≤ s.time → Gives (.syncWaitTimeout l q) s fun t =>
              Answered s s t l q c 0x22 0 false ∧ SeenOutside s t slot 32))
    ∧ (Dispatches s r l q c → c.opcode = 8 → c.arg0.flag 0 = false → c.arg0.flag 1 = false →
        s0.mirrorApply l (s0.cmdAsid l q c) (wordPairs (payloadWords c.payload (2 * n)) n) = (m, s1) → s1.misuse = none →
        Writable s1 l slot 32 → Gives (.mirror l q) s fun t =>
          Answered s s0 t l q c m.code (BitVec.ofNat 64 m.applied) false ∧ SeenOutside s1 t slot 32)

/-- READ_SHARED, READ_UNIQUE and UPGRADE grant a line at once, or open a transaction that snoops the agents recorded
(R293, R294). -/
def Obligations.CoherenceRequests : Prop :=
  ∀ (s : State) (a : AgentId) (g : Nat),
    let d := s.dirOf g
    let data := s.granule g
    let got (t : State) (st : Moesi) (x : List Byte × Bool) : Prop :=
      t.copy a g = some { st := st, data := x.1, poison := x.2 } ∧ t.txnOf g = none ∧ t.mem = s.mem
    let asks (t : State) (req : CohReq) (kind : SnoopKind) (who : List Nat) : Prop :=
      t.txnOf g = some { line := g, requester := a, req := req, kind := kind, waiting := who, since := s.time }
      ∧ t.coh.caches = s.coh.caches ∧ t.coh.dir = s.coh.dir ∧ t.mem = s.mem
    s.cohLive a g = true → Quiet s g → s.wbOf a g = none → s.onFailed (g * 64) = none → CacheRoom s a g →
    (s.copy a g = none →
      (d = .inv → Gives (.readShared a g) s fun t => got t .e data ∧ (s.holders g = [] → t.dirOf g = .owned a))
      ∧ (∀ as, d = .shared as → Gives (.readShared a g) s fun t => got t .s data)
      ∧ (∀ o, d.owner = some o → Gives (.readShared a g) s fun t => asks t .readShared .shared [o])
      ∧ (d.agents = [] → Gives (.readUnique a g) s fun t => got t .m data)
      ∧ (d.agents ≠ [] → Gives (.readUnique a g) s fun t => asks t .readUnique .invalidate d.agents))
    ∧ (∀ c, s.copy a g = some c → c.st = .s ∨ c.st = .o →
      (d.agents.filter (fun x : Nat => x != a.val) = [] → Gives (.upgrade a g) s fun t => got t .m (c.data, c.poison))
      ∧ (d.agents.filter (fun x : Nat => x != a.val) ≠ [] → Gives (.upgrade a g) s fun t =>
          asks t .upgrade .invalidate (d.agents.filter (fun x : Nat => x != a.val))))

/-- Snoops change the copy and answer dirty data; the last answer completes the request (R294, R295, R297). -/
def Obligations.CoherenceSnoops : Prop :=
  ∀ (s : State) (a : AgentId) (g : Nat) (x : CohTxn),
    s.txnOf g = some x →
    (∀ c, x.waiting.contains a.val = true → s.copy a g = some c →
      (s.coh.resps.any fun r => r.agent == a.val && r.line == g) = false →
      let dirty := decide (c.st = .m ∨ c.st = .o)
      let answers (t : State) (y : Option CacheLine) : Prop :=
        t.copy a g = y ∧ t.mem = s.mem ∧ t.coh.dir = s.coh.dir
        ∧ t.coh.resps = s.coh.resps ++ [{ agent := a, line := g, data := if dirty then some (c.data, c.poison) else none }]
      (x.kind = .shared → Gives (.snpShared a g) s fun t => answers t (some { c with st := if dirty then .o else .s }))
      ∧ (x.kind = .invalidate → Gives (.snpInvalidate a g) s fun t => answers t none)
      ∧ (x.kind = .readNoAlloc → Gives (.snpReadNoAlloc a g) s fun t => answers t (some c)))
    ∧ (∀ r d, x.waiting = [a.val] → x.held = [] → x.req = .readShared → x.line = g → s.wbOf a g = none →
        (s.coh.waits.any fun w => w.line == g) = false → CacheRoom s x.requester g →
        (s.coh.resps.find? fun r => r.agent == a.val && r.line == g) = some r → r.data = some d →
        Gives (.snoopResponse a g) s fun t => t.txnOf g = none ∧ t.mem = s.mem
          ∧ t.copy x.requester g = some { st := .s, data := d.1, poison := d.2 })

/-- A write-back leaves the agent, reaches memory and is acknowledged; a clean copy is dropped; cacheless accesses
read and write (R294, R295, R297, R228). -/
def Obligations.CoherenceWriteBacks : Prop :=
  ∀ (s : State) (a : AgentId) (g : Nat),
    let still := (s.coh.waits.any fun w => w.line == g) = false
    (s.cohLive a g = true → still →
      (∀ c, s.wbOf a g = none → s.copy a g = some c → c.st = .m ∨ c.st = .o → Gives (.writeBack a g) s fun t =>
        t.copy a g = none ∧ t.mem = s.mem
        ∧ t.coh.wbs = s.coh.wbs ++ [{ agent := a, line := g, data := c.data, poison := c.poison }])
      ∧ (∀ w, s.wbOf a g = some w → w.arrived = false → s.txnOf g = none → s.onFailed (g * 64) = none →
          w.data.length = 64 → Gives (.writeBack a g) s fun t =>
            memBytes t.mem (g * 64) 64 = w.data ∧ tblGet false t.poison g = w.poison ∧ t.out = .wbAck a g :: s.out
            ∧ ∀ x, x < g * 64 ∨ g * 64 + 64 ≤ x → t.byteAt x = s.byteAt x)
      ∧ (∀ c, s.copy a g = some c → c.st = .e ∨ c.st = .s → s.txnOf g = none → Gives (.cleanEvict a g) s fun t =>
          t.copy a g = none ∧ t.mem = s.mem ∧ ∀ b h, h < 2 ^ 46 → (b, h) ≠ (a.val, g) → t.copy b h = s.copy b h))
    ∧ (∀ w, s.wbOf a g = some w → w.arrived = true → w.cross = none → still → Gives (.wbAck a g) s fun t =>
        t.wbOf a g = none ∧ t.coh.caches = s.coh.caches ∧ { t with coh := s.coh } = s)
    ∧ (∀ (l : LineId) (x : Nat), s.isLeader l = true → (s.line l).st ≠ .failed → s.ownMem l x = true →
        Quiet s (x / 64) → s.wbOf 255 (x / 64) = none → s.onFailed x = none →
        (∀ n, 0 < n → x % 64 + n ≤ 64 → (s.dirOf (x / 64)).owner = none → Gives (.cachelessAccess l x (.read n) []) s fun t =>
          t.out = .cacheless (x / 64) (((s.granule (x / 64)).1.drop (x % 64)).take n) (s.granule (x / 64)).2 :: s.out
          ∧ t.mem = s.mem)
        ∧ (∀ data poison, Writable s l x data.length → s.dirOf (x / 64) = .inv →
            Gives (.cachelessAccess l x (.write data poison) []) s fun t =>
              (∀ i < data.length, seen t (x + i) = data.getD i 0) ∧ SeenOutside s t x data.length))

/-- A missing answer or a protocol error takes the Line to FAILED with its cause and LN_COH_STATUS, and writes nothing
(R299, R300, R301, R302). -/
def Obligations.CoherenceFailStop : Prop :=
  ∀ (s : State) (l : LineId) (a : AgentId),
    let fails (t : State) (cause kind : Nat) : Prop :=
      (t.line l).st = .failed ∧ (t.line l).cause = cause ∧ t.fld (xlKey l 0x40) 0 8 = a ∧ t.fld (xlKey l 0x40) 8 4 = kind
      ∧ t.flag (xlKey l 0x40) 15 = true ∧ t.mem = s.mem
      ∧ ∀ h < 128, s.leaderOf (h / 16) = l.val → (t.hart h).mode ≠ .run ∧ (t.hart h).mode ≠ .wfi
    let names (t : State) (home line : Nat) : Prop := home < 8 → line < 2 ^ 46 →
      t.fld (xlKey l 0x40) 12 3 = home ∧ t.fld (xlKey l 0x40) 16 46 = line
    (s.line l).st = .starting ∨ (s.line l).st = .running ∨ (s.line l).st = .stopping →
    s.tdisp l = .unlocked → s.flag (xlKey l 0x40) 15 = false →
    (∀ x, a.val < 136 → s.overdue l a = some x → Gives (.agentTimeout l a) s fun t =>
      fails t 3 (if x.held.contains a.val then 3 else 1) ∧ names t (s.homeBasin x.line) x.line)
    ∧ (a.val < 136 → s.overdue l a = none → Gives (.agentTimeout l a) s fun t => t = s)
    ∧ (∀ h < 8, a.val = 136 + h → s.leaderOf h = l.val →
        (∀ g, s.unserved h = some g → Gives (.agentTimeout l a) s fun t => fails t 3 2 ∧ names t h g)
        ∧ (s.unserved h = none → Gives (.agentTimeout l a) s fun t => t = s)
        ∧ Gives (.protocolError l a) s fun t => fails t 4 5)
    ∧ (a.val < 136 → s.cachingAgent l a = true → Gives (.protocolError l a) s fun t => fails t 4 4)

/-- The link attaches with its rate, width and generation, and every kind of detach clears what the host held (R303,
R304, R328, R329, R331, R332). -/
def Obligations.LinkEvents : Prop :=
  ∀ (s : State),
    let h := s.host
    (∀ speed width cxl big hdm, h.attached = false → s.boot.powered = true → s.boot.stage ≠ .alwaysOn →
      s.boot.stage ≠ .image → 3 ≤ speed → speed ≤ 6 → linkWidth width = true →
      (∀ l < 8, s.isLeader l = true → RouteOff s l 0x106) → Gives (.linkUp speed width cxl big hdm) s fun t =>
        t.host.attached = true ∧ t.host.speed = speed ∧ t.host.width = width ∧ t.host.cxl = (cxl && decide (5 ≤ speed))
        ∧ t.host.gen = (if h.detachedOnce then (if h.gen = 0xFFFFFFFF then 1 else h.gen + 1) else h.gen)
        ∧ (∀ f, 1 ≤ f → f < 9 → tblGet false t.host.bigBar f = bit big f) ∧ t.host.pf0Bar = min 12 (big / 2 ^ 9 % 16)
        ∧ (∀ i, tblGet {} t.host.hdm i = match (hdm.take 8)[i]? with
            | some e => if (HdmDecoder.mk e.1 e.2.1 e.2.2).ok then HdmDecoder.mk e.1 e.2.1 e.2.2 else {}
            | none => {})
        ∧ t.mem = s.mem)
    ∧ (∀ speed width,
        let legal := (if h.cxl then 5 else 3) ≤ speed ∧ speed ≤ 6 ∧ linkWidth width = true
        (h.attached = true → legal → Gives (.linkRetrain speed width) s fun t =>
          t = { s with host := { h with speed := speed, width := width } })
        ∧ (¬ legal → Gives (.linkRetrain speed width) s fun t => t = s))
    ∧ (∀ c cause, (c, cause) ∈ [(Instr.linkDown, 1), (.hotReset, 2), (.perst, 3)] →
        (h.attached = false → Gives c s fun t => t = s)
        ∧ (h.attached = true → s.queues = [] → (∀ k < 128, (s.chan k).queue = []) →
            (∀ l < 8, s.isLeader l = true → s.tdisp l = .unlocked ∧ RouteOff s l 0x105 ∧ NothingQueued s l) →
            Gives c s fun t => t.host.attached = false ∧ t.host.cause = cause ∧ t.host.claimed = [] ∧ t.host.ideKeys = []
              ∧ t.host.hdm = [] ∧ t.host.bigBar = [] ∧ t.host.pf0Bar = 0 ∧ t.host.gen = h.gen ∧ t.mem = s.mem
              ∧ ∀ l < 8, s.isLeader l = true → t.flag (xlKey l 8) 0 = false ∧ t.flag (routeKey l 0x105) 32 = true
                ∧ if (s.line l).st.isUp ∧ (s.line l).survive = false then (t.line l).st = .stopping ∧ (t.line l).cause = 2
                  else (t.line l).st = (s.line l).st))

/-- Claims, function resets and the window base change what R308, R330 and R331 say and nothing else (R20, R308, R330,
R331). -/
def Obligations.FunctionEvents : Prop :=
  ∀ (s : State) (via : Via) (l : LineId) (v : Word),
    (v.field 33 31 = 0 →
      (s.host.attached = true → s.claimWrites via l = true → v.field 0 32 = s.host.gen → Gives (.claim via l v) s fun t =>
        t.claimed l = true ∧ (∀ k, k ≠ l.val → t.claimed k = s.claimed k) ∧ { t with host := s.host } = s)
      ∧ (v.field 0 32 ≠ s.host.gen ∨ s.claimWrites via l = false ∨ s.host.attached = false →
          Gives (.claim via l v) s fun t => t = s))
    ∧ (s.host.attached = true →
        (s.isLeader l = false → Gives (.lineFlr l) s fun t => t.claimed l = false
          ∧ (∀ k, k ≠ l.val → t.claimed k = s.claimed k) ∧ { t with host := s.host, regs := s.regs } = s)
        ∧ (s.isLeader l = true → s.queues = [] → (∀ k < 128, (s.chan k).queue = []) → NothingQueued s l →
            Gives (.lineFlr l) s fun t => t.claimed l = false ∧ t.flag (xlKey l 8) 0 = false ∧ t.mem = s.mem
              ∧ if (s.line l).st.isUp ∧ (s.line l).survive = false then (t.line l).st = .stopping
                else (t.line l).st = (s.line l).st)
        ∧ (Gives .pf0Flr s fun t => t.host.cause = 4 ∧ t.host.hdm = [] ∧ t.host.pf0Bar = 0 ∧ t.host.claimed = s.host.claimed
            ∧ t.host.gen = s.host.gen ∧ t.host.attached = true ∧ t.mem = s.mem ∧ t.lines = s.lines))
    ∧ (s.lnWrites via l = true → v.field 20 44 = 0 →
        ((s.line l).locked = false → s.meetsOwn l (v.field 0 20 * 2 ^ 32) (2 ^ 32) = true → Gives (.winBaseWrite via l v) s fun t =>
          OnlyReg s t (lnKey l 0x110) (BitVec.ofNat 64 (v.field 0 20)))
        ∧ ((s.line l).locked = true ∨ s.meetsOwn l (v.field 0 20 * 2 ^ 32) (2 ^ 32) = false →
          Gives (.winBaseWrite via l v) s fun t => t = s))

/-- Host reads and writes through BAR2 and CXL.mem reach the memory that the window or decoder maps, or read all ones
(R304, R306, R307, R309, R330, R332, R452). -/
def Obligations.HostMemoryAccess : Prop :=
  ∀ (s : State) (l : LineId) (fn : FnId) (bound : Bool) (off a n : Nat) (data : List Byte),
    let found := (((s.granule (a / 64)).1.drop (a % 64)).take n)
    let p := (s.granule (a / 64)).2
    let put (t : State) : Prop := (∀ i < data.length, seen t (a + i) = data.getD i 0) ∧ SeenOutside s t a data.length
    let fits (k : Nat) : Prop := 0 < k ∧ a % 64 + k ≤ 64
    let free := s.meetsOwned a data.length = false ∧ (s.granule (a / 64)).1.length = 64
    let serves (rd wr : Instr) : Prop :=
      (fits n → Gives rd s fun t => t.out = .hostData found p :: s.out ∧ t.mem = s.mem)
      ∧ (fits data.length → free → (wr = .bar2Access ⟨fn, bound⟩ off (.write data false) [] → fn ≠ 0 → s.claimed l = true) →
          Gives wr s put)
    let ones (t : State) : Prop := t.out = .hostData (List.replicate n 0xFF) false :: s.out ∧ { t with out := s.out } = s
    s.host.attached = true →
    (s.onFailed a = none → Quiet s (a / 64) →
      (fn.val = l.val + 1 → s.isLeader l = true → s.tdisp l ≠ .error → (s.confidential l = true → bound = true) →
        s.clearing l = false → (s.line l).st ≠ .failed → s.bar2Dpa l off = some a → s.hostReach l (s.bar2Whole l) a = true →
        serves (.bar2Access ⟨fn, bound⟩ off (.read n) []) (.bar2Access ⟨fn, bound⟩ off (.write data false) []))
      ∧ (fn = 0 → s.boot.running = false → s.boot.stage.stopped = false → off < 2 ^ (30 + s.host.pf0Bar) →
          barLayout off = some a → s.hostReach 8 true a = true →
          serves (.bar2Access ⟨fn, bound⟩ off (.read n) []) (.bar2Access ⟨fn, bound⟩ off (.write data false) []))
      ∧ (∀ d addr, s.host.cxl = true →
          ((s.host.hdm.map (·.2)).find? fun d => decide (d.host ≤ addr ∧ addr < d.host + d.size)) = some d →
          a = d.dpa + (addr - d.host) → s.hostReach 8 true a = true →
          serves (.cxlMemAccess addr (.mem (.read n))) (.cxlMemAccess addr (.mem (.write data false)))))
    ∧ (fn.val = l.val + 1 → s.isLeader l = false → Gives (.bar2Access ⟨fn, bound⟩ off (.read n) []) s ones)
    ∧ (fn = 0 → s.boot.running = false → s.boot.stage.stopped = false → 2 ^ (30 + s.host.pf0Bar) ≤ off →
        Gives (.bar2Access ⟨fn, bound⟩ off (.read n) []) s ones)
    ∧ (∀ p, fn.val = l.val + 1 → s.isLeader l = true → s.tdisp l ≠ .error → (s.confidential l = true → bound = true) →
        s.claimed l = false → Gives (.bar2Access ⟨fn, bound⟩ off (.write data p) []) s fun t => t = s)
    ∧ (∀ op, fn.val = l.val + 1 → s.isLeader l = true → s.confidential l = true → bound = false →
        Gives (.bar2Access ⟨fn, bound⟩ off op []) s fun t => t.out = .hostError :: s.out ∧ { t with out := s.out } = s)
    ∧ (∀ addr, s.host.cxl = true → Gives (.cxlMemAccess addr .snoop) s fun t =>
        t.out = .cxlMiss :: s.out ∧ { t with out := s.out } = s)

/-- Locking, starting, stopping and failing a confidential interface, with the clear of the Line's memory (R332, R486,
R488, R489). -/
def Obligations.ConfidentialInterfaces : Prop :=
  ∀ (s : State) (l : LineId),
    let inMem (b a : Nat) : Prop := lpddrBase b ≤ a ∧ a < lpddrBase (b + 1) ∨ rsvBase b ≤ a ∧ a < rsvBase (b + 1)
    let cleared (t : State) (code : Nat) : Prop :=
      (t.line l).st = .stopped ∧ (t.line l).cause = 5 ∧ tblGet 0 t.host.clearing l = code
      ∧ (∀ b ∈ s.members l, (t.bmem b).keyGen = ((s.bmem b).keyGen + 1) % 256 ∧ ∀ a, inMem b a → t.byteAt a = 0)
      ∧ ∀ a, (∀ b ∈ s.members l, ¬ inMem b a) → t.byteAt a = s.byteAt a
    (s.host.attached = true → s.isLeader l = true → s.clearing l = false →
      ((s.line l).st = .stopped → s.tdisp l = .unlocked → Gives (.lockInterface l) s fun t =>
        cleared t 1 ∧ t.tdisp l = .unlocked)
      ∧ (s.confidential l = true → (s.line l).st ≠ .off → (s.line l).st ≠ .applying → Gives (.stopInterface l) s fun t =>
          cleared t 2 ∧ t.tdisp l = s.tdisp l)
      ∧ (s.tdisp l = .locked → Gives (.startInterface l) s fun t => t.tdisp l = .run
          ∧ t.out = .tdisp (l + 1) 2 true :: s.out ∧ { t with host := s.host, out := s.out } = s)
      ∧ (s.tdisp l ≠ .locked → Gives (.startInterface l) s fun t => t.out = .tdisp (l + 1) 2 false :: s.out
          ∧ { t with out := s.out } = s))
    ∧ (Gives (.lineClearDone l) s fun t => t.clearing l = false ∧ t.mem = s.mem
        ∧ (tblGet 0 s.host.clearing l = 1 → t.tdisp l = .locked ∧ (t.line l).locked = true)
        ∧ (tblGet 0 s.host.clearing l = 2 → t.tdisp l = .unlocked)
        ∧ (tblGet 0 s.host.clearing l = 3 → t.tdisp l = .error))
    ∧ (s.isLeader l = true → s.tdisp l = .locked ∨ s.tdisp l = .run → s.queues = [] → (∀ k < 128, (s.chan k).queue = []) →
        NothingQueued s l → Gives (.ideIntegrityFail l) s fun t => t.tdisp l = .error ∧ t.mem = s.mem
          ∧ (t.line l).st = if (s.line l).st.isUp then .stopping else (s.line l).st)
    ∧ (∀ fn : Fin 10, s.host.attached = true →
        ((s.sessions.any fun e => e.transport == 2 && e.established) = true → Gives (.ideKm fn .keyProg) s fun t =>
          tblGet 0 t.host.ideKeys fn = tblGet 0 s.host.ideKeys fn + 1 ∧ t.out = .ideKm fn true :: s.out)
        ∧ ((s.sessions.any fun e => e.transport == 2 && e.established) = false → ∀ r, Gives (.ideKm fn r) s fun t =>
          t.out = .ideKm fn false :: s.out ∧ { t with out := s.out } = s))

/-- Rail ports train, come up, are refused, go dark, retrain and quiesce as R346, R361 and R364 say (R344, R345, R346,
R353, R359, R361, R364). -/
def Obligations.RailPorts : Prop :=
  ∀ (s : State) (via : Via) (p : PortId) (v : Word) (r : TrainResult),
    let q := s.port p
    let good (x : Dir) (bad : Nat) : Prop := ∀ i < 9, s.laneRetired p x i = false ∧ bit bad i = false
    let trains (t : State) : Prop :=
      (t.port p).st = .training ∧ t.fld (portKey p 0x08) 32 32 = min (s.fld (portKey p 0x08) 32 32 + 1) (2 ^ 32 - 1)
      ∧ .announce p (s.fabricId.field 0 14) (s.leaderOf (p.val / 4)) ∈ t.out
      ∧ t.mem = s.mem ∧ ∀ k, k ≠ p.val → (t.port k).st = (s.port k).st
    let l := s.leaderOf (p.val / 4)
    let twin := r.twin = true ∧ r.fid % 2 ^ 14 = s.fabricId.field 0 14
    (s.portInService p = true → s.lasersLit (p / 2) = true → q.st = .dark ∨ q.st = .refused → Gives (.portTrain p) s trains)
    ∧ (q.st = .training → twin → exec (.portTrainDone p r) s = .fault (.undefinedCase .fabricIdTwin .system))
    ∧ (q.st = .training → ¬ twin →
        (r.result.val = 1 → Gives (.portTrainDone p r) s fun t => (t.port p).st = .dark)
        ∧ (2 ≤ r.result.val → Gives (.portTrainDone p r) s fun t =>
            (t.port p).st = .refused ∧ (t.port p).trainResult = r.result)
        ∧ (r.result.val = 0 → (s.fabricId.flag 14 = false → Gives (.portTrainDone p r) s fun t =>
            (t.port p).st = .refused ∧ (t.port p).trainResult = 3)
          ∧ (s.fabricId.flag 14 = true → r.fid % 2 ^ 14 = s.fabricId.field 0 14 → Gives (.portTrainDone p r) s fun t =>
            (t.port p).st = .refused ∧ (t.port p).trainResult = 5)
          ∧ (s.fabricId.flag 14 = true → r.fid % 2 ^ 14 ≠ s.fabricId.field 0 14 → s.sec.railSigned = false →
            Gives (.portTrainDone p r) s fun t => (t.port p).st = .refused ∧ (t.port p).trainResult = 4)
          ∧ (s.fabricId.flag 14 = true → r.fid % 2 ^ 14 ≠ s.fabricId.field 0 14 → s.sec.railSigned = true →
            good .fwd r.badTx → good .rev r.badRx → Gives (.portTrainDone p r) s fun t =>
              (t.port p).st = .up ∧ (t.port p).trainResult = 0 ∧ (t.port p).farFid = r.fid % 2 ^ 14
              ∧ (t.port p).farPort = r.port ∧ (t.port p).farLine = r.line ∧ (t.port p).cwRx = 0
              ∧ (t.port p).tx = {} ∧ (t.port p).rx = {})))
    ∧ (q.st = .training ∨ q.isUp = true ∨ q.st = .refused → Gives (.portDark p) s fun t =>
        (t.port p).st = .dark ∧ ∀ k, k ≠ p.val → (t.port k).st = (s.port k).st)
    ∧ (s.bWrites via (p / 4) = true → v.field 3 61 = 0 → v.flag 1 = false →
        (v.flag 0 = true → q.st ≠ .off → Gives (.portRetrain via p v) s fun t => trains t ∧ (t.port p).quiesce = v.flag 2)
        ∧ (v.flag 0 = false → Gives (.quiesce via p v) s fun t =>
            (t.port p).quiesce = v.flag 2 ∧ (t.port p).st = q.st ∧ t.mem = s.mem))
    ∧ (s.hubWrites = true → v.field 15 49 = 0 →
        (v.field 0 15 = s.fabricId.field 0 15 → Gives (.fabricIdWrite v) s fun t => t = s)
        ∧ (v.field 0 15 ≠ s.fabricId.field 0 15 → s.ctxs = [] → Gives (.fabricIdWrite v) s fun t =>
            t.fabricId.field 0 15 = v.field 0 15
            ∧ ∀ k < 32, (t.port k).st = if (s.port k).st = .off then .off else .training))
    ∧ (s.railLive l = true → Gives (.pathLost p) s fun t => t.mem = s.mem ∧ ∀ c < 4096,
        (s.ctx (ctxKey l c)).st = .open_ → (t.ctx (ctxKey l c)).st = .open_ ∧ (t.ctx (ctxKey l c)).noPathFrom =
          if s.paths l (s.ctx (ctxKey l c)) = [] then some ((s.ctx (ctxKey l c)).noPathFrom.getD s.time) else none)

/-- Recalibration steps, lane failures and lane commands change the lanes of one direction as R358 and R359 say (R338,
R358, R359, R364). -/
def Obligations.RailLanes : Prop :=
  ∀ (s : State) (via : Via) (p : PortId) (d : Dir) (lane : Fin 9) (v : Word),
    let q := s.port p
    let x := q.side d
    let side (t : State) (y : LaneDir) : Prop := (t.port p).side d = y
    let idle := q.st = .up ∧ x.spare ≠ none ∧ x.step = .none ∧ x.change = .none
    let rec_ := railLane p d lane
    (∀ i, idle → s.nextLane p d = some i →
      (s.fld (portKey p 0x18) 0 8 ≠ 0 → Gives (.recalStep p d) s fun t => side t { x with step := .mirror i })
      ∧ (s.bWrites via (p / 4) = true → v.field 3 61 = 0 → v.flag 0 = false → v.flag 1 = true →
          Gives (.calNow via p v) s fun t => side t { x with step := .mirror i }))
    ∧ (s.fld (portKey p 0x18) 0 8 = 0 → Gives (.recalStep p d) s fun t => t = s)
    ∧ (idle → x.spare ≠ some lane.val → Gives (.laneMirror p d lane) s fun t =>
        side t { x with step := .mirror lane } ∧ { t with ports := s.ports } = s)
    ∧ (∀ i, (s.port p).rx.step = .mirror i → Gives (.mirrorCompareDone p .rev) s fun t => ∃ a < 4096,
        (t.port p).rx = { (s.port p).rx with step := .switching i a } ∧ t.out = .railCmd p 2 i a :: s.out)
    ∧ (∀ a, x.step = .mirror lane → Gives (.laneSwitch p d lane a) s fun t =>
        side t { x with step := .switching lane (a % 4096) } ∧ { t with ports := s.ports } = s)
    ∧ (∀ i a, (x.change = .none → x.step = .switching i a → Gives (.laneAtReached p d) s fun t =>
          side t { x with step := .calibrating i, spare := none })
        ∧ (x.change = .retire i a → Gives (.laneAtReached p d) s fun t => side t { x with change := .none, spare := none })
        ∧ (x.change = .half a → Gives (.laneAtReached p d) s fun t =>
            side t { x with change := .none, spare := none, halfRate := true } ∧ (t.port p).st = .half)
        ∧ (x.step = .calibrating i → Gives (.recalStepDone p d) s fun t =>
            side t { x with step := .none, spare := some i, lastFreed := i }
            ∧ t.fld (portKey p 0x18) 32 32 = min (s.fld (portKey p 0x18) 32 32 + 1) (2 ^ 32 - 1)))
    ∧ (s.laneRetired p d lane = false → Gives (.laneFail p d lane) s fun t => (t.healthOf rec_).st = .retired
        ∧ (q.isUp = true → 5 ≤ (s.goodLanes p d).length → x.halfRate = false → (t.port p).st = q.st
          ∧ (x.spare = some lane.val ∨ x.step = .calibrating lane → side t { x with spare := none, step := .none })
          ∧ (x.spare ≠ none → x.spare ≠ some lane.val → x.step = .none → x.change = .none →
              (d = .fwd → ∃ a < 4096, side t { x with change := .retire lane a }
                ∧ t.out.head? = some (.railCmd p 3 lane a))
              ∧ (d = .rev → side t x))
          ∧ (x.spare = none → x.step ≠ .calibrating lane → q.tx.halfRate = false → (∀ a, q.tx.change ≠ .half a) →
              ∃ a < 4096, (t.port p).tx = { q.tx with step := .none, change := .half a } ∧ (t.port p).rx = q.rx
                ∧ t.out.head? = some (.railCmd p 4 0 a)))
        ∧ (q.isUp = true → (s.goodLanes p d).length ≤ 4 → (t.port p).st = .failed))
    ∧ (Gives (.laneRetire p d lane) s fun t => (t.healthOf rec_).st = .retired
        ∧ (idle → x.spare ≠ some lane.val → ∃ a < 4096, side t { x with step := .none, change := .retire lane a }))
    ∧ (q.isUp = true → Gives (.laneHalf p d) s fun t => (t.port p).st = q.st
        ∧ (if x.halfRate then side t x else ∃ a < 4096, side t { x with step := .none, change := .half a })
        ∧ (d = .rev → q.tx.halfRate = false → (∀ a, q.tx.change ≠ .half a) →
            ∃ a < 4096, (t.port p).tx = { q.tx with step := .none, change := .half a }
              ∧ t.out = .railCmd p 4 0 a :: s.out))

/-- A codeword in order is taken with its flits, a lost one is answered by one NAK, and a NAK resends (R337, R338,
R339, R340, R342, R343). -/
def Obligations.RailCodewords : Prop :=
  ∀ (s : State) (p : PortId) (cw : Codeword) (c : TxCodeword) (n : Nat),
    let q := s.port p
    let known := cw.flits.filter fun f => flitTypes.contains f.type
    let counts (t : State) : Prop := (∀ k, k ≠ portKey p 0x20 → t.reg k = s.reg k) ∧ t.reg (portKey p 0x20)
      = if cw.errors ≤ 15 then BitVec.ofNat 64 (satAdd64 (s.reg (portKey p 0x20)).toNat cw.errors) else s.reg (portKey p 0x20)
    (cw.lost = true ↔ 15 < cw.errors ∨ bits cw.msg 59 32 ≠ cwCrc cw.msg)
    ∧ (q.isUp = false → (Gives (.codewordReceive p cw) s fun t => t = s) ∧ Gives (.railNak p n) s fun t => t = s)
    ∧ (q.isUp = true →
      (cw.lost = false → cw.seq = q.cwRx → cw.nak = false → cw.laneCmd = 0 → q.nakSent = false → q.txq = [] →
        Gives (.codewordReceive p cw) s fun t => (t.port p).cwRx = (q.cwRx + 1) % 4096 ∧ (t.port p).rxq = q.rxq ++ known
          ∧ (t.port p).cwAcked = cw.ackSeq.getD q.cwAcked
          ∧ tblGet 0 (t.port p).credits cw.creditCls = tblGet 0 q.credits cw.creditCls + cw.credits
          ∧ (∀ k, k ≠ cw.creditCls → tblGet 0 (t.port p).credits k = tblGet 0 q.credits k)
          ∧ t.reg (portKey p 0x20) = BitVec.ofNat 64 (satAdd64 (s.reg (portKey p 0x20)).toNat cw.errors)
          ∧ t.reg (portKey p 0x48)
            = BitVec.ofNat 64 (satAdd64 (s.reg (portKey p 0x48)).toNat (cw.flits.length - known.length))
          ∧ (∀ k, k ≠ p.val → t.port k = s.port k) ∧ { t with ports := s.ports, regs := s.regs } = s)
      ∧ (cw.lost = true ∨ cw.seq ≠ q.cwRx →
          (q.nakSent = true → Gives (.codewordReceive p cw) s fun t => counts t ∧ { t with regs := s.regs } = s)
          ∧ (q.nakSent = false → Gives (.codewordReceive p cw) s fun t => t.port p
                = { q with nakSent := true, stream := q.stream.ctl p q.ack 5 ((q.cwRx + 4095) % 4096) 0 }
              ∧ t.out = .railCmd p 5 ((q.cwRx + 4095) % 4096) 0 :: s.out
              ∧ counts t ∧ { t with regs := s.regs, ports := s.ports, out := s.out } = s))
      ∧ Gives (.railNak p n) s fun t => t.out = .railCmd p 6 ((n + 1) % 4096) 0 :: s.out
          ∧ t.port p = { q with stream := (q.stream.idle p).fresh } ∧ (q.stream.idle p).after n ≤ 2048
          ∧ t.reg (portKey p 0x28) = BitVec.ofNat 64 (satAdd64 (s.reg (portKey p 0x28)).toNat ((q.stream.idle p).after n)))
    ∧ (c.seq < 4096 → (∀ k, c.ack = some k → k < 4096) → c.laneCmd < 8 → c.lane < 16 → c.laneAt < 4096 → c.creditCls < 3 →
        c.credits < 1024 →
        let m : Codeword := { msg := c.message p }
        m.seq = c.seq ∧ m.ackSeq = c.ack ∧ m.nak = c.nak ∧ m.laneCmd = c.laneCmd ∧ m.lane = c.lane ∧ m.laneAt = c.laneAt
          ∧ m.creditCls = c.creditCls ∧ m.credits = c.credits ∧ bit m.msg 26 = c.slotA.isSome ∧ bit m.msg 27 = c.slotB.isSome)

/-- Peer contexts open, rekey, close and go DOWN as R348 to R351 say (R348, R349, R350, R351, R353, R363, R417). -/
def Obligations.PeerContexts : Prop :=
  ∀ (s : State) (via : Via) (l : LineId) (v : Word) (c : CtxId) (p : PortId) (f : Flit),
    let k := ctxKey l c
    let x := s.ctx k
    let a := s.fld (bKey l 0x800000) 6 46 * 64 + c.val * 32
    let w (i : Nat) : Word := wordAt s (a + 8 * i)
    let down (t : State) (cause : Nat) : Prop :=
      t.ctx k = x.shut .down cause ∧ t.flag (routeKey l 0x107) 32 = true ∧ t.mem = s.mem
        ∧ ∀ j, j ≠ k → t.ctx j = s.ctx j
    (s.lnWrites via l = true → v.flag 15 = false → v.field 24 8 = 0 → v.flag 14 = true → v.field 0 12 = c.val →
      (v.field 12 2 = 1 → s.ctxExists l c = true → s.railLive l = true → x.st = .off ∨ x.st = .down →
        Readable s l a 32 →
        Gives (.ctxOpen via l v) s fun t => (t.ctx k).st = .opening ∧ (t.ctx k).remoteEp = (w 0).field 0 17
          ∧ (t.ctx k).remoteCtx = (w 0).field 17 12 ∧ (t.ctx k).portMask = (w 1).field 0 32
          ∧ (t.ctx k).pathWait = (if (w 1).field 32 16 = 0 then 100 else (w 1).field 32 16)
          ∧ (t.ctx k).openedAt = s.time ∧ t.mem = s.mem)
      ∧ (v.field 12 2 = 2 → x.st = .open_ ∨ x.st = .opening → NoTransfers s → Gives (.ctxClose via l v) s fun t =>
          (t.ctx k).st = .closing ∧ (t.ctx k).cause = 1 ∧ (t.ctx k).openedAt = s.time ∧ t.mem = s.mem)
      ∧ (v.field 12 2 = 3 → x.st = .open_ → x.rekeying = false → Gives (.ctxRekey via l v) s fun t =>
          (t.ctx k).st = .open_ ∧ (t.ctx k).rekeying = true ∧ (t.ctx k).epoch = x.epoch ∧ t.mem = s.mem))
    ∧ (x.st = .open_ → x.rekeying = false → 2 ^ 36 ≤ x.txSeq ∨ 2 ^ 36 ≤ x.rxSeq ∨ x.keyTime + 86400000000000 ≤ s.time →
        Gives (.rekeyDue l c) s fun t => (t.ctx k).st = .open_ ∧ (t.ctx k).rekeying = true)
    ∧ (x.st = .closing → (x.keyed = true ∧ x.sent = []) ∨ x.openedAt + 20000000 ≤ s.time → Gives (.ctxCloseDone l c) s fun t =>
        OnlyCtx s t k { cause := x.cause, demoted := x.demoted })
    ∧ (∀ t0, x.newSeen = some t0 → t0 + 10000000 ≤ s.time → Gives (.epochGraceEnd l c) s fun t =>
        OnlyCtx s t k { x with oldEpoch := false, newSeen := none })
    ∧ (NoTransfers s → RouteOff s l 0x107 →
        (x.st = .opening → x.openedAt + x.pathWait * 1000000 ≤ s.time → Gives (.pathWaitExpiry l c) s fun t => down t 3)
        ∧ (∀ d ∈ x.sent, x.st = .open_ → d.at_ + 20000000 ≤ s.time → Gives (.ackTimeout l c) s fun t => down t 4))
    ∧ ((s.nextFlit p).map (·.1) = some f → f.type = 8 → s.leaderOf (p / 4) = l.val → s.railLive l = true →
        f.dstEp = s.endpoint l → s.ctxExists l c = true → f.dstCtx = c.val → f.last = true → bit f.info 1 = false →
        (x.st = .opening → f.srcEp = x.remoteEp → f.srcCtx = x.remoteCtx → bit f.info 0 = s.initiator l c →
          Gives (.handshake p) s fun t => (t.ctx k).st = .opening ∧ (t.ctx k).gotHandshake = true
            ∧ (t.port p).rxq = (s.port p).rxq.erase f)
        ∧ (x.st = .off → Gives (.handshake p) s fun t => t.ctx k = { x with hsFrom := some (f.srcEp, f.srcCtx) }
            ∧ (t.port p).rxq = (s.port p).rxq.erase f ∧ t.mem = s.mem))

/-- WRITE, READ_REQ, READ_DATA, ACK, COUNTER_ADD and CLOSE flits act on memory, transfers and contexts as R351 to R355
say (R291, R342, R343, R347, R351, R352, R353, R354, R355). -/
def Obligations.RailFlits : Prop :=
  ∀ (s : State) (p : PortId) (f : Flit),
    let l := s.leaderOf (p.val / 4)
    let k := ctxKey l f.dstCtx
    let popped (t : State) : Prop := (t.port p).rxq = (s.port p).rxq.erase f
      ∧ .railCmd p 7 (flitRank f) 1 ∈ t.out
    Arrives s p f →
    (f.type = 1 → s.cflWaits l f.dstCtx f.delivery = false →
      (∀ a, s.resolve l f.addr f.body.length true = some a → a % 4096 + f.body.length ≤ 4096 → BlockWritable s l (a / 4096) →
        crc32c f.body = f.info % 2 ^ 32 → Gives (.flitWrite p) s fun t => popped t
          ∧ (∀ i < f.body.length, seen t (a + i) = f.body.getD i 0) ∧ SeenOutside s t a f.body.length
          ∧ ∃ e ∈ (t.ctx k).committed, e.1 = f.delivery ∧ e.2 % 256 = 0)
      ∧ (s.resolve l f.addr f.body.length true = none → Gives (.flitWrite p) s fun t => popped t ∧ t.mem = s.mem
          ∧ (f.delivery, 0x24) ∈ (t.ctx k).committed))
    ∧ (∀ a, let n := bits f.info 0 13
        let k3 := (s.policed l f.dstCtx p (flitRank f) n).1
        f.type = 3 → s.resolve l f.addr n false = some a → 0 < n → n ≤ 256 → Readable s l a n → s.blockValid (a / 4096) = true →
        s.blockPoisoned (a / 4096) = false → s.isPath l p (s.ctx k) = true → (s.port p).txq = [] →
        tblGet 0 (s.port p).credits k3 ≠ 0 → (s.weights l).1 ≠ 0 → (s.weights l).2 ≠ 0 → Gives (.flitReadReq p) s fun t => popped t
          ∧ t.mem = s.mem ∧ ∃ g, t.out = .flit p g :: .railCmd p 7 (flitRank f) 1 :: s.out ∧ g.type = 4 ∧ g.cls = k3 ∧ g.last = true ∧ g.delivery = f.delivery
            ∧ (∃ c ∈ (t.port p).stream.replay, ∃ m, c.slotA = some (m, g) ∨ c.slotB = some (m, g))
            ∧ g.body = (List.range n).map (fun i => seen s (a + i)) ∧ g.info = crc32c g.body)
    ∧ (∀ d x rest h, (s.chan d.chan).queue = x :: rest → x.running = true → x.remote = true → x.peer = f.dstCtx →
        (s.lineStOf (d.chan / 16)).works = true →
        (f.type = 4 → ((s.ctx k).sent.find? fun e => e.number == f.delivery && e.isRead == true) = some d →
          (x.fetch.find? fun g => g.number == f.delivery) = some h → bits f.info 32 8 = 0 →
          crc32c f.body = f.info % 2 ^ 32 → f.body.length = h.len → Gives (.flitReadData p) s fun t => popped t ∧ t.mem = s.mem
            ∧ (t.chan d.chan).queue = { x with fetch := x.fetch.map fun e =>
                if e.number = h.number then { e with data := some (f.body, false) } else e } :: rest)
        ∧ (∀ q, f.type = 5 → ((s.ctx k).sent.find? fun e => e.number == f.delivery && e.isRead == false) = some d →
            d.isCounter = false → x.sent = [q] → x.ending = none → q.number = f.delivery → f.info % 2 ^ 8 = 0 → (x.w 12).flag 47 = false →
            x.pos + q.len < x.total → Gives (.flitAck p) s fun t => popped t ∧ t.mem = s.mem
              ∧ (∀ e ∈ (t.ctx k).sent, e.number = f.delivery → e.isRead = true)
              ∧ ∃ y, (t.chan d.chan).queue = y :: rest ∧ y.pos = x.pos + q.len ∧ y.bytes = x.bytes + q.len ∧ y.sent = []))
    ∧ (∀ old, f.type = 6 → (s.windowFor l (bits f.info 16 11) true).isSome = true →
        s.counterVal l (f.addr % 2 ^ 15) = some old →
        (∀ a, s.counterDpa l (f.addr % 2 ^ 15) = some a →
          (s.granule (a / 64)).1.length = 64 ∧ s.onFailed a = none ∧ Quiet s (a / 64)) → Gives (.counterAdd p) s fun t =>
          popped t ∧ t.counterVal l (f.addr % 2 ^ 15) = some ((old + bits f.info 0 16) % 2 ^ 64)
          ∧ (f.delivery, 0) ∈ (t.ctx k).committed)
    ∧ (f.type = 9 → NoTransfers s → RouteOff s l 0x107 → Gives (.flitClose p) s fun t => popped t
        ∧ (t.ctx k).st = .down ∧ (t.ctx k).cause = 2 ∧ t.flag (routeKey l 0x107) 32 = true ∧ t.mem = s.mem)

/-- ARM copies an entry or refuses it, ZEROING_DONE arms it, SEED_READ seeds it, and it ends in DONE or ABORTED (R365,
R366, R371, R372, R374, R379). -/
def Obligations.ReductionEntries : Prop :=
  ∀ (s : State) (via : Via) (b : BasinId) (v : Word) (n : EntryId),
    let l := s.leaderOf b
    let c := l * 256 + n.val
    let e := s.cfl c
    let t0 := s.reg (cflKey l 0)
    let a := t0.field 7 45 * 128 + n.val * 128
    let e0 : CflEntry := { st := .arming, words := (List.range 16).map fun i => wordAt s (a + 8 * i) }
    let result (t : State) : Nat := t.fld (cflKey l 8) 16 4
    (s.bWrites via b = true → l = b.val → v.flag 11 = false → v.flag 15 = false → v.field 20 12 = 0 → v.field 60 4 = 0 →
      v.flag 10 = true → v.field 0 8 = n.val →
      (v.field 8 2 = 1 → t0.field 0 4 < 5 →
        (2 ^ (t0.field 0 4 + 4) ≤ n.val → Gives (.arm via b v) s fun t => result t = 1 ∧ t.cfls = s.cfls ∧ t.mem = s.mem)
        ∧ (n.val < 2 ^ (t0.field 0 4 + 4) → Readable s l a 128 → e0.badField = false → s.cflRange l e0 = false →
          (e.st.active = true → Gives (.arm via b v) s fun t => result t = 3 ∧ t.cfls = s.cfls ∧ t.mem = s.mem)
          ∧ (e.st.active = false → s.cflOverlap l e0 = false → Gives (.arm via b v) s fun t =>
              result t = 0 ∧ t.cfl c = e0 ∧ (∀ k, k ≠ c → t.cfl k = s.cfl k) ∧ t.mem = s.mem)))
      ∧ (v.field 8 2 = 2 → e.st.active = true → e.waiting = [] → e.recBase = 0 → Gives (.cflAbort via b v) s fun t =>
          t.cfl c = { e with st := .aborted } ∧ (∀ k, k ≠ c → t.cfl k = s.cfl k) ∧ t.mem = s.mem))
    ∧ ((s.line l).st ≠ .failed →
      (e.st = .arming → e.waiting = [] → s.meetsCounter e.accBase e.accBytes = false → Gives (.zeroingDone b n) s fun t => t.cfl c = { e with st := .armed }
        ∧ (∀ x, t.byteAt x = if e.accBase ≤ x ∧ x < e.accBase + e.accBytes then 0 else s.byteAt x)
        ∧ ∀ k, k ≠ c → t.cfl k = s.cfl k)
      ∧ (e.st = .armed → e.seedEn = true → e.seeded = false →
          s.counterReached l ((e.w 6).field 32 15) (e.w 7).toNat = true → e.badField = false →
          Readable s l e.inBase (e.elems * e.wIn) → Readable s l e.scaleBase e.blockCount →
          (∀ k < e.blockCount, tblGet 0 e.count k + 1 ≠ e.contrib) → Gives (.seedRead b n) s fun t =>
            (t.cfl c).seeded = true ∧ t.mem = s.mem
            ∧ ∀ k < e.blockCount, tblGet 0 (t.cfl c).count k = tblGet 0 e.count k + 1)
      ∧ (e.st = .finishing → e.stats = false → (e.w 6).flag 15 = false → e.recBase ≠ 0 → Writable s l e.recBase 32 →
          Gives (.finishing b n) s fun t => t.cfl c = { e with st := .done }
            ∧ t.reg (lnKey l 0x200) = BitVec.ofNat 64 (satAdd64 (s.reg (lnKey l 0x200)).toNat e.sat)
            ∧ t.reg (lnKey l 0x208) = BitVec.ofNat 64 (satAdd64 (s.reg (lnKey l 0x208)).toNat e.flush)
            ∧ (∀ i < 4, wordAt t (e.recBase + 8 * i) = (s.cflRecord n e 0).getD i 0) ∧ SeenOutside s t e.recBase 32))

/-- A REDUCE delivery adds each element on its block's grid exactly once, or is refused whole (R342, R352, R367, R370,
R371, R379). -/
def Obligations.ReductionDeliveries : Prop :=
  ∀ (s : State) (p : PortId) (f : Flit) (a k : Nat),
    let l := s.leaderOf (p.val / 4)
    let n := bits f.info 32 8
    let c := l * 256 + n
    let e := s.cfl c
    let sc := (seen s (e.scaleBase + k)).toNat
    let x (j : Nat) : Machine.Num := decodeFloat (fmtFloat e.fmt) (leNat ((f.body.drop (j * e.wIn)).take e.wIn))
    Arrives s p f → f.type = 2 → s.cflWaits l f.dstCtx f.delivery = false →
    s.resolve l f.addr f.body.length true = some a → crc32c f.body = f.info % 2 ^ 32 → n < 2 ^ (s.fld (cflKey l 0) 0 4 + 4) →
    (e.st = .armed → e.badField = false → cflRefusal e (bits f.info 40 16) [(a, f.body)] = none →
      f.body.length = 32 * e.wIn → a = e.inBase + k * (32 * e.wIn) → tblGet 0 e.count k + 1 ≠ e.contrib →
      Readable s l (e.scaleBase + k) 1 → sc ≠ 0xFF → Gives (.flitReduce p) s fun t =>
        (∀ j < 32, tblGet 0 (t.cfl c).acc (32 * k + j) = tblGet 0 e.acc (32 * k + j) + (gridAddend (x j) sc).a)
        ∧ tblGet 0 (t.cfl c).count k = tblGet 0 e.count k + 1 ∧ (∀ i, i ≠ c → t.cfl i = s.cfl i) ∧ t.mem = s.mem
        ∧ (f.delivery, 0) ∈ (t.ctx (ctxKey l f.dstCtx)).committed)
    ∧ (e.st.active = false → RouteOff s l 0x102 → s.flag (cflKey l 0x10) 28 = false → Gives (.flitReduce p) s fun t =>
        t.cfls = s.cfls ∧ t.mem = s.mem ∧ (f.delivery, 0x24) ∈ (t.ctx (ctxKey l f.dstCtx)).committed
        ∧ t.reg (cflKey (p.val / 4) 0x20) = BitVec.ofNat 64 (satAdd64 (s.reg (cflKey (p.val / 4) 0x20)).toNat 1)
        ∧ t.fld (cflKey l 0x10) 8 3 = 1 ∧ t.flag (routeKey l 0x102) 32 = true)

/-- Layers are queued, flushed, aborted and held, and the step fence opens with its step size and closes (R386, R387,
R388, R400, R401, R393, R394). -/
def Obligations.UpdateQueue : Prop :=
  ∀ (s : State) (via : Via) (b : BasinId) (v : Word),
    let l := s.leaderOf b
    let q := s.layerQ b
    let a := v.field 3 49 * 8
    let ws := (List.range 19).map fun i => wordAt s (a + 8 * i)
    let y0 : Layer := { words := (s.lowBitsOf ws [(10, 0, 57, 8), (11, 0, 57, 2), (18, 0, 57, 32)]).1 }
    let k := updKey b 8
    let ln := s.line b
    (s.bWrites via b = true →
      (v.field 52 12 = 0 → (s.line l).st = .running →
        (16 ≤ q.length → Gives (.updSubmit via b v) s fun t => t.flag (updKey b 0x18) 7 = true ∧ t.layers = s.layers)
        ∧ (q.length < 16 → Readable s l a 152 → y0.reserved = false → (y0.w 0).field 32 2 ≠ 3 →
            (∀ c ∈ s.members l, ∀ z ∈ s.layerQ c, layersMeet y0 z = false) → Gives (.updSubmit via b v) s fun t =>
              t.layerQ b = q ++ [y0] ∧ (∀ c, c ≠ b.val → t.layerQ c = s.layerQ c) ∧ t.mem = s.mem))
      ∧ (v.field 3 61 = 0 →
        (v.flag 0 = false → v.flag 2 = false → Gives (.updHold via b v) s fun t =>
          OnlyReg s t (updKey b 0x20) ((s.reg (updKey b 0x20)).withField 1 1 (ofBool (v.flag 1))))
        ∧ (∀ y, v.flag 0 = true → v.flag 2 = false → s.runningLayer b = some y → (s.line l).st.works = true →
            y.recDpa = none → RouteOff s l 0x103 → Gives (.updAbort via b v) s fun t => t.runningLayer b = none
              ∧ t.layerQ b = q.filter (fun x => !x.running) ∧ t.fld (updKey b 0x18) 8 8 = 0x31
              ∧ t.flag (routeKey l 0x103) 32 = true ∧ t.mem = s.mem)
        ∧ (v.flag 0 = false → v.flag 2 = true → (∀ y ∈ q, y.va 18 = 0) → RouteOff s l 0x103 →
            Gives (.updFlush via b v) s fun t => t.layerQ b = q.filter (·.running) ∧ t.mem = s.mem
              ∧ (q.filter (fun y => !y.running) ≠ [] → t.fld (updKey b 0x18) 8 8 = 0x32))))
    ∧ (s.lnWrites via b = true → v.field 21 11 = 0 →
        (v.flag 0 = true → v.flag 1 = false →
          (ln.stepFence = .closed → Gives (.fenceOpen via b v) s fun t => (t.line b).stepFence = .open_
            ∧ t.fld (updKey b 0) 32 32 = s.fld (updKey b 0) 0 32 ∧ t.fld k 32 32 = (s.fld k 32 32 + 1) % 2 ^ 32
            ∧ t.mem = s.mem ∧ t.layers = s.layers)
          ∧ (ln.stepFence ≠ .closed → Gives (.fenceOpen via b v) s fun t => (t.line b).stepFence = ln.stepFence
            ∧ t.flag k 4 = true ∧ t.fld k 32 32 = s.fld k 32 32))
        ∧ (v.flag 1 = true → ln.stepFence = .open_ → Gives (.fenceClose via b v) s fun t =>
            (t.line b).stepFence = .closing ∧ t.fld k 32 32 = s.fld k 32 32 ∧ t.mem = s.mem ∧ t.layers = s.layers))
    ∧ (ln.stepFence = .closing → ln.st ≠ .failed → (∀ c ∈ s.members b, s.runningLayer c = none) → RouteOff s b 0x108 →
        (s.flag k 5 = false → Gives (.fenceClosed b) s fun t => (t.line b).stepFence = .closed
          ∧ t.flag (routeKey b 0x108) 32 = true ∧ t.mem = s.mem)
        ∧ (∀ old, s.flag k 5 = true → s.counterVal b (s.fld k 6 15) = some old →
            (∀ x, s.counterDpa b (s.fld k 6 15) = some x →
              (s.granule (x / 64)).1.length = 64 ∧ s.onFailed x = none ∧ Quiet s (x / 64)) → Gives (.fenceClosed b) s fun t =>
              (t.line b).stepFence = .closed ∧ t.counterVal b (s.fld k 6 15) = some ((old + 1) % 2 ^ 64)))

/-- Layers start, commit rows by the rule of R382 and complete, as R389 to R397 say (R382, R388, R389, R391, R396,
R397, R401). -/
def Obligations.UpdateLayers : Prop :=
  ∀ (s : State) (b : BasinId) (y : Layer),
    let l := s.leaderOf b
    let q := s.layerQ b
    let ended (t : State) (status : Nat) : Prop := t.runningLayer b = none ∧ t.fld (updKey b 0x18) 8 8 = status
    ((s.line l).st = .running → s.leaderOf b < 8 → (s.line l).stepFence = .open_ → s.runningLayer b = none →
      s.flag (updKey b 0x20) 1 = false → q.find? (s.layerReady l) = some y → y.va 18 = 0 →
      let i := q.findIdx (s.layerReady l)
      let y2 := { y with running := true, row := y.start, recDpa := none }
      let s1 := (s.clean.setLayerQ b (q.take i ++ y2 :: q.drop (i + 1))).setRunning b y2
      let eta := s.fld (updKey l 0) 32 32
      (s.jobEnded l y.job = true → RouteOff s l 0x103 → Gives (.layerStart b) s fun t => ended t 0x30 ∧ t.mem = s.mem)
      ∧ (s.jobEnded l y.job = false → y.badShape = true → RouteOff s l 0x103 → Gives (.layerStart b) s fun t =>
          ended t 0x16 ∧ t.mem = s.mem)
      ∧ (∀ h c w s2, s.jobEnded l y.job = false → y.badShape = false → y.badParam eta = false → y.misaligned = false →
          s1.updReads b y2 [(y.va 10, 8, false), (y.va 7, 4 * y.cols, false), (y.va 9, 4 * y.cols, false)]
            = (.ok [h, c, w], s2) → s2.misuse = none → h.2.1 = false → c.2.1 = false → w.2.1 = false →
          let t0 := leNat (h.1.take 4)
          let r := (layerStart y2 eta t0 (codes32 c.1) (codes32 w.1)).run (0, 0)
          Gives (.layerStart b) s fun t => t.mem = s2.mem ∧ t.poison = s2.poison ∧ t.runningLayer b = some { y2 with
            eta := eta, t := min (t0 + 1) 0xFFFFFFFF, cn := r.1.1, d := r.1.2.1, etaL := r.1.2.2.1, keep := r.1.2.2.2,
            sat := r.2.1, flush := r.2.2 }))
    ∧ (s.runningLayer b = some y → (s.lineStOf b).works = true →
      (∀ s0 s1 i n rs, y.row < y.count → s.jobEnded l y.job = false →
        (y.emb = false ∧ s0 = s.clean ∧ i = y.row ∧ n = 0 ∨ y.emb = true ∧ i < y.rows ∧ ∃ sa sp bs ls,
          s.clean.updRead b y (y.va 11 + 2 * y.row) 2 = (.ok bs false, sa) ∧ leNat bs = i
          ∧ (y.row = 0 ∧ sp = sa ∨ y.row ≠ 0 ∧ ∃ before bad,
              sa.updRead b y (y.va 11 + 2 * (y.row - 1)) 2 = (.ok before bad, sp) ∧ leNat before < i)
          ∧ sp.updRead b y (y.va 12 + 4 * i) 4 true = (.ok ls false, s0) ∧ leNat ls = n) →
        let at2 (w : Nat) : Nat := y.va w + 2 * i * y.cols
        s0.updReads b y ([(y.va 2 + y.gWidth * i * y.cols, y.gWidth * y.cols, false), (at2 3, 2 * y.cols, true),
            (at2 4, 2 * y.cols, true), (y.va 6 + 4 * i, 4, true), (y.va 8 + 4 * i, 4, false)]
          ++ (if y.momEn then [(at2 5, 2 * y.cols, true)] else []) ++ (if y.emb then [(y.va 12 + 4 * i, 4, true)] else []))
          = (.ok rs, s1) → rs.find? (·.2.1) = none →
        let part (j : Nat) : List Byte := (rs.getD j ([], false, 0)).1
        let x : RowIn :=
          { g := if y.gBf16 then (codes16 (part 0)).map (· * 65536) else codes32 (part 0), hi := codes16 (part 1)
            lo := codes16 (part 2), r := leNat (part 3), rowsq := leNat (part 4)
            mom := if y.momEn then codes16 (part 5) else [] }
        let o := (updateRow y (if y.emb then (if y.t ≤ n then 0 else y.t - n - 1) else 0) x).run (0, 0)
        let bytes (z : List Nat) : List Byte := z.flatMap fun v => leBytes 2 v
        ∀ s2, s1.updWrites b y ([(y.va 6 + 4 * i, leBytes 4 o.1.r), (at2 3, bytes o.1.hi), (at2 4, bytes o.1.lo)]
            ++ (if y.momEn then [(at2 5, bytes o.1.mom)] else [])
            ++ (if y.emb then [(y.va 12 + 4 * i, leBytes 4 y.t)] else [])) = (none, s2) → s2.misuse = none →
          Gives (.rowCommit b) s fun t => t.mem = s2.mem ∧ t.poison = s2.poison ∧ t.runningLayer b = some { y with
              row := y.row + 1, sat := y.sat + o.2.1, flush := y.flush + o.2.2, anyNan := y.anyNan || o.1.anyNan y.momEn }
            ∧ t.reg (updKey b 0x28) = BitVec.ofNat 64 (satAdd64 (s2.reg (updKey b 0x28)).toNat y.cols))
      ∧ (∀ s0 s1, y.count ≤ y.row → y.recDpa = none → (y.w 17).flag 15 = false →
          s.clean.updChecks b y [(y.va 7, 4 * y.cols), (y.va 10, 4)] = (none, s0) →
          s0.updWrites b y [(y.va 7, y.cn.flatMap fun v => leBytes 4 v), (y.va 10, leBytes 4 y.t)] = (none, s1) →
          s1.misuse = none → Gives (.layerComplete b) s fun t => ended t 0 ∧ t.mem = s1.mem ∧ t.poison = s1.poison
            ∧ t.layerQ b = (s1.layerQ b).filter fun x => !x.running))

/-- A core's loads, stores, AMOs, LR and SC, cache operations, fences and arithmetic act on memory and on its own
state (R41, R172, R274, R294, R296, R409, R410, R413, R451). -/
def Obligations.CoreAccesses : Prop :=
  ∀ (s : State) (h : HartId) (va a : Nat),
    let l := s.leaderOf (h.val / 16)
    let g := a / 64
    let x0 := s.hart h
    let bs (n : Nat) : List Byte := (List.range n).map fun i => seen s (a + i)
    let word : Nat := leNat (bs 8)
    let calm := l < 8 ∧ s.coreOn l h = true ∧ x0.mode = .run ∧ (s.line l).st.works = true
    let owns := ∃ c, s.holders g = [h.val] ∧ s.copy h g = some c ∧ c.st = .m ∧ s.dirOf g = .owned h.val
    let alone := s.ownMem l a = true ∧ s.onFailed a = none ∧ Quiet s g ∧ s.wbOf h g = none ∧ CacheRoom s h g
      ∧ (s.granule g).1.length = 64 ∧ ((s.holders g = [] ∧ s.dirOf g = .inv) ∨ owns)
    let finds (wr : Bool) : Prop := s.clean.coreVa l h va wr = (.ok a, s.clean)
    let fits (n : Nat) := 0 < n ∧ a % 64 + n ≤ 64
    let keeps (t : State) : Prop := t.mem = s.mem ∧ ∀ x < 2 ^ 52, seen t x = seen s x
    let wrote (t : State) (d : List Byte) : Prop :=
      (∀ i < d.length, seen t (a + i) = d.getD i 0) ∧ SeenOutside s t a d.length ∧ t.mem = s.mem
    let traps (t : State) (cause : Nat) : Prop := x0.delegated cause = false →
      (t.hart h).csr 0x342 = BitVec.ofNat 64 cause ∧ (t.hart h).csr 0x343 = BitVec.ofNat 64 va
      ∧ (t.hart h).csr 0x341 = BitVec.ofNat 64 x0.pc ∧ (t.hart h).pc = (x0.csr 0x305).field 2 62 * 4
      ∧ (t.hart h).priv = 3 ∧ t.mem = s.mem
    calm →
    (Gives (.coreMemoryAccess h .fence) s fun t => t = s)
    ∧ (x0.imsic = [] → Gives (.coreMemoryAccess h .wfi) s fun t => (t.hart h).mode = .wfi ∧ { t with harts := s.harts } = s)
    ∧ (va % 8 ≠ 0 → ∀ v, Gives (.coreMemoryAccess h (.amoAdd va v)) s fun t => traps t 6)
    ∧ (∀ sew vl (vd vs2 vs1 : Fin 32) f m, sewFmt sew = some f → x0.rounding 7 = some m → 0 < vl →
        let r := sumAscending f m ((x0.elems vs1 sew 1).headD 0) 0 (x0.elems vs2 sew vl)
        Gives (.coreMemoryAccess h (.vfredusum false sew vl false vd vs2 vs1)) s fun t =>
          t.hart h = (x0.setVreg vd 0 (8 * 2 ^ sew) r.1).accrue r.2 ∧ { t with harts := s.harts } = s)
    ∧ (alone →
      (∀ n, fits n → finds false → (s.granule g).2 = false → Gives (.coreMemoryAccess h (.load va n)) s fun t =>
        t.out = .coreData h (bs n) :: s.out ∧ keeps t)
      ∧ (∀ n, fits n → finds false → (s.granule g).2 = true → Gives (.coreMemoryAccess h (.load va n)) s fun t => traps t 19)
      ∧ (∀ d, fits d.length → finds true → s.meetsOwned a d.length = false → Gives (.coreMemoryAccess h (.store va d)) s
          fun t => wrote t d ∧ t.out = s.out)
      ∧ (va % 8 = 0 → (s.granule g).2 = false → finds true → s.meetsEntry a 8 = false → s.meetsJob a 8 = false → ∀ v : Word,
          (Gives (.coreMemoryAccess h (.amoAdd va v)) s fun t =>
            t.out = .coreData h (bs 8) :: s.out ∧ wrote t (leBytes 8 (word + v.toNat)))
          ∧ (Gives (.coreMemoryAccess h (.amoSwap va v)) s fun t =>
            t.out = .coreData h (bs 8) :: s.out ∧ wrote t (leBytes 8 v.toNat))
          ∧ (finds false → Gives (.coreMemoryAccess h (.lr va)) s fun t =>
            t.out = .coreData h (bs 8) :: s.out ∧ keeps t ∧ (t.hart h).reservation = some g)
          ∧ (s.meetsOwned a 8 = false →
            (x0.reservation = some g → Gives (.coreMemoryAccess h (.sc va v)) s fun t =>
              t.out = .coreData h (leBytes 8 0) :: s.out ∧ wrote t (leBytes 8 v.toNat) ∧ (t.hart h).reservation = none)
            ∧ (x0.reservation ≠ some g → Gives (.coreMemoryAccess h (.sc va v)) s fun t =>
              t.out = .coreData h (leBytes 8 1) :: s.out ∧ keeps t ∧ (t.hart h).reservation = none)))
      ∧ (finds true →
        (s.meetsOwned (g * 64) 64 = false → Gives (.coreMemoryAccess h (.cboZero va)) s fun t =>
          (∀ i < 64, seen t (g * 64 + i) = 0) ∧ (t.granule g).2 = false ∧ SeenOutside s t (g * 64) 64)
        ∧ (owns →
          (Gives (.coreMemoryAccess h (.cboClean va)) s fun t => memBytes t.mem (g * 64) 64 = (s.granule g).1
            ∧ (t.copy h g).isSome = true ∧ ∀ x < 2 ^ 52, seen t x = seen s x)
          ∧ (Gives (.coreMemoryAccess h (.cboFlush va)) s fun t => memBytes t.mem (g * 64) 64 = (s.granule g).1
            ∧ t.copy h g = none ∧ ∀ x < 2 ^ 52, seen t x = seen s x)
          ∧ (Gives (.coreMemoryAccess h (.cboInval va)) s fun t => t.mem = s.mem ∧ t.copy h g = none))))

/-- Interrupt routes send a pending MSI when enabled; decode jobs queue, run one at a time and end with their status
(R417, R418, R419, R421, R423, R424). -/
def Obligations.CoreServices : Prop :=
  ∀ (s r0 : State) (via : Via) (l : LineId) (v : Word),
    (∀ src : Fin 512, s.lnWrites via l = true → v.field 12 4 = 0 → v.field 27 4 = 0 → v.field 34 30 = 0 →
      let k := routeKey l src
      let pend := (s.reg k).flag 32
      let value (p e : Nat) : Word :=
        BitVec.ofNat 64 (v.field 0 12 + v.field 16 11 * 2 ^ 16 + v.field 31 1 * 2 ^ 31 + p * 2 ^ 32 + e * 2 ^ 33)
      let err : Nat := if (s.reg k).flag 33 ∧ v.flag 33 = false then 1 else 0
      (v.flag 31 = false ∨ pend = false → Gives (.irqRouteWrite via l src v) s fun t =>
        OnlyReg s t k (value ((s.reg k).field 32 1) err))
      ∧ (v.flag 31 = true → pend = true → v.field 16 11 ≠ 0 → v.field 8 4 < 8 → (v.flag 7 = true → v.field 8 4 = 0) →
          (s.hartActive l (v.field 0 7) = true → Gives (.irqRouteWrite via l src v) s fun t => t.reg k = value 0 err
            ∧ tblGet false (t.hart (v.field 0 7)).imsic
                ((if v.flag 7 then 0 else 1 + v.field 8 4) * 2048 + v.field 16 11) = true ∧ t.mem = s.mem)
          ∧ (s.hartActive l (v.field 0 7) = false → Gives (.irqRouteWrite via l src v) s fun t =>
            OnlyReg s t k (value 0 1))))
    ∧ (s.lnWrites via l = true → v.field 52 12 = 0 → (s.line l).sleep = 0 →
        let a := v.field 3 49 * 8
        let ws := (List.range 8).map fun i => wordAt s (a + 8 * i)
        let at_ := [(3, 0, 52, 64), (4, 0, 32, 64), (4, 32, 32, 4096), (5, 0, 52, 4096), (7, 0, 52, 32)]
        let j : DecodeJob := { words := (s.lowBitsOf ws at_).1 }
        Readable s l a 64 →
        let q (t : State) : List DecodeJob := tblGet [] (t.line l).decode j.unit
        ((s.line l).st ≠ .stopping → (q s).length < 8 → j.reserved = false → (j.w 0).flag 1 = false →
          (j.w 0).field 2 2 ≠ 3 → j.out ≠ 3 → Gives (.decSubmit via l v) s fun t => q t = q s ++ [j] ∧ t.regs = s.regs ∧ t.mem = s.mem)
        ∧ ((s.line l).st = .stopping ∨ 8 ≤ (q s).length → Gives (.decSubmit via l v) s fun t =>
          q t = q s ∧ t.flag (lnKey l 0x608) 8 = true ∧ t.mem = s.mem))
    ∧ (∀ (unit : Fin 2) (j : DecodeJob) (r : List DecodeJob), tblGet [] (s.line l).decode unit = j :: r →
        (s.line l).st.works = true →
        (j.running = false → Gives (.decodeStart l unit) s fun t =>
          OnlyLine s t l { s.line l with decode := tblSet [] (s.line l).decode unit ({ j with running := true } :: r) })
        ∧ (j.running = true → s.clean.turnOf (48 + unit) l (s.decodeWaits unit) l = some r0 →
            (∃ b ∈ s.members l, b / 4 = unit.val) → j.hevc = false → Readable s l j.src j.srcLen → HomesIdle s →
            j.src + j.srcLen ≤ j.dst → (∀ b < 8, s.syncBase b + 0x8000 ≤ j.dst) →
            (∀ e ∈ s.cfls, e.2.st.active = false) → j.recAt = 0 → (j.w 6).flag 47 = false →
            RouteOff s l 0x109 →
            let o := Config.decode 0 ((List.range j.srcLen).map fun i => seen s (j.src + i))
            let rows := (o.pics.take 1).flatMap fun p => j.rows o.height 0 (p.planes false j.out o).1
            let fits : Bool := rows.all fun e => s.ownSpan l e.1 e.2.length
            let status : Nat := if o.unsupported then 0x61 else if fits then (if o.error.isSome && o.pics.isEmpty then 0x60 else 0) else 0x21
            Gives (.decodeComplete l unit) s fun t => tblGet [] (t.line l).decode unit = r
              ∧ t.fld (lnKey l 0x608) 16 8 = status ∧ (status ≠ 0 → t.flag (routeKey l 0x109) 32 = true)
              ∧ ∀ x < 2 ^ 52, x < j.dst / 64 * 64 → seen t x = seen s x))

/-- Spur flits, retrains, lane failures and recalibration steps act as R431, R437 and R441 to R443 say (R428, R430,
R431, R432, R437, R441, R442, R443, R445). -/
def Obligations.SpurEvents : Prop :=
  ∀ (s : State) (p : SpurId) (d : Dir),
    let q := s.spur p
    let x := q.side d
    let k := dirNo d
    let next := tblGet 0 q.rxSeq k
    let trains (t : State) : Prop := t.fld (spurKey p 8) 32 32 = min (s.fld (spurKey p 8) 32 32 + 1) (2 ^ 32 - 1)
    let only (t : State) (y : Spur) : Prop := t.spur p = y ∧ (∀ j, j ≠ p.val → t.spur j = s.spur j) ∧ t.mem = s.mem
    let training (t : State) (retest : Bool) (n : Nat) : Prop := trains t ∧ only t { q with
      st := .training, retest := retest, attempts := n, ab := { q.ab with calLane := none }
      ba := { q.ba with calLane := none } }
    let stepped (t : State) (e : Dir) (y : SpurDir) : Prop := (t.spur p).side e = y ∧ t.mem = s.mem
    let has (y : SpurDir) := y.spare0.isSome = true ∨ y.spare1.isSome = true
    (q.works = true →
      (∀ f : SpurFlit, f.crcOk = false → Gives (.spurFlitReceive p d f) s fun t =>
        t.out = .spurCmd p (dirNo (otherDir d)) 5 ((next + 1023) % 1024) :: s.out
        ∧ t.reg (spurKey p 0x30) = BitVec.ofNat 64 (min ((s.reg (spurKey p 0x30)).toNat + 1) (2 ^ 64 - 1))
        ∧ only t { q with nak := tblSet false q.nak k true })
      ∧ (∀ f : SpurFlit, f.crcOk = true → f.seq = next → f.nak = false → ¬ (f.laneCmd = 3 ∧ f.lane < 34) →
          q.room k f.cls = true → Gives (.spurFlitReceive p d f) s fun t => tblGet 0 (t.spur p).rxSeq k = (next + 1) % 1024
            ∧ tblGet 0 (t.spur p).acked (dirNo (otherDir d)) = f.ack
            ∧ tblGet 0 (t.spur p).buffered (spurPool k f.cls) = tblGet 0 q.buffered (spurPool k f.cls) + 1
            ∧ (t.spur p).ab = q.ab ∧ (t.spur p).ba = q.ba ∧ { t with spurs := s.spurs } = s)
      ∧ (∀ f : SpurFlit, f.crcOk = true → f.seq ≠ next ∨ q.room k f.cls = false → Gives (.spurFlitReceive p d f) s fun t => t = s)
      ∧ (∀ from_ : Nat, Gives (.spurNak p d from_) s fun t => t.out = .spurCmd p k 6 (from_ % 1024) :: s.out
          ∧ t.spurs = s.spurs ∧ t.mem = s.mem ∧ ∃ n, 1 ≤ n ∧ n ≤ 1023 ∧ t.reg (spurKey p 0x28)
            = BitVec.ofNat 64 (min ((s.reg (spurKey p 0x28)).toNat + n) (2 ^ 64 - 1)))
      ∧ (Gives (.spurLockLoss p) s fun t => training t false q.attempts)
      ∧ (∀ v : Word, s.hubWrites = true → v.field 0 64 = 1 → Gives (.spurRetrain p v) s fun t => training t true q.attempts)
      ∧ (∀ lane : Fin 34, (s.healthOf (spurLane p d lane)).st ≠ .retired → 17 ≤ (s.spurGood p d).length → x.half = false →
          let cause := fun t : State => (t.healthOf (spurLane p d lane)).st = .retired
          (x.spare0 = some lane.val → Gives (.spurLaneFail p d lane) s fun t => cause t
            ∧ stepped t d { x with spare0 := none, calLane := none })
          ∧ (x.spare0 ≠ some lane.val → x.spare1 = some lane.val → Gives (.spurLaneFail p d lane) s fun t => cause t
            ∧ stepped t d { x with spare1 := none, calLane := none })
          ∧ (x.spare0 ≠ some lane.val → x.spare1 ≠ some lane.val →
            (has x → Gives (.spurLaneFail p d lane) s fun t => cause t
              ∧ stepped t d { x with
                  spare0 := none, spare1 := if x.spare0.isSome then x.spare1 else none, calLane := none }
              ∧ (3 ≤ q.ver → t.out.head? = some (.spurCmd p k 3 lane)) ∧ (q.ver < 3 → (t.spur p).st = .training))
            ∧ (¬ has x → Gives (.spurLaneFail p d lane) s fun t => cause t ∧ (t.spur p).st = .half
              ∧ stepped t d { x with half := true, calLane := none } ∧ t.out.head? = some (.spurCmd p k 4 lane)))))
    ∧ (q.st = .training → ∀ lanes : Nat × Nat,
      (q.attempts + 1 < 3 → Gives (.spurRetrainDone p false lanes) s fun t => training t q.retest (q.attempts + 1))
      ∧ (3 ≤ q.attempts + 1 → (∀ l ∈ s.spurLines p, s.cohFlying l = []) → Gives (.spurRetrainDone p false lanes) s fun t =>
          only t { q with st := .failed, attempts := 0, retest := false })
      ∧ (q.retest = false → 16 ≤ (s.spurGood p .fwd).length → 16 ≤ (s.spurGood p .rev).length →
          Gives (.spurRetrainDone p true (0, 0)) s fun t => only t { q with
            st := if (s.spurVersion p).isNone then .refused else if q.ab.half || q.ba.half then .half else .up
            attempts := 0, ver := (s.spurVersion p).getD 0 }))
    ∧ (q.st = .up → q.ver = 3 →
      (∀ i, x.calLane = none → has x → s.spurNextLane p d = some i → s.fld (spurKey p 0x20) 0 8 ≠ 0 →
        Gives (.spurRecalStep p d) s fun t => stepped t d { x with calLane := some i }
          ∧ t.out = .spurCmd p k 1 i :: s.out ∧ t.regs = s.regs)
      ∧ (∀ (v : Word) (i j : Nat), s.hubWrites = true → v.field 0 64 = 2 → q.ab.calLane = none → q.ba.calLane = none →
          has q.ab → has q.ba → s.spurNextLane p .fwd = some i → s.spurNextLane p .rev = some j →
          Gives (.spurCalNow p v) s fun t => only t { q with
            ab := { q.ab with calLane := some i }, ba := { q.ba with calLane := some j } }))
    ∧ (∀ i, x.calLane = some i → Gives (.spurRecalStepDone p d) s fun t =>
        stepped t d { x with
          spare0 := if x.spare0.isSome then some i else x.spare0, spare1 := if x.spare0.isSome then x.spare1 else some i
          lastFreed := i, calLane := none }
        ∧ t.fld (spurKey p 0x20) 32 32 = min (s.fld (spurKey p 0x20) 32 32 + 1) (2 ^ 32 - 1))

/-- TERM and CLEAR change the ended set; unit commands, due tests and core migrations change health as R457, R464 and
R470 say (R455, R456, R457, R458, R463, R464, R470). -/
def Obligations.JobsAndHealth : Prop :=
  ∀ (s : State) (via : Via) (l : LineId) (v : Word),
    (s.lnWrites via l = true → v.field 19 13 = 0 → v.field 49 15 = 0 →
      let tag := v.field 0 16
      (v.flag 16 = true → s.jobEnded l tag = false → (∀ q ∈ s.lineQueues l, (s.queue (qKey l q)).running = []) →
        Gives (.term via l v) s fun t => t.jobEnded l tag = true ∧ (∀ i, i ≠ tag → t.jobEnded l i = s.jobEnded l i)
          ∧ t.reg (lnKey l 0x718) = BitVec.ofNat 64 (min ((s.reg (lnKey l 0x718)).toNat + 1) (2 ^ 64 - 1))
          ∧ (s.flag (lnKey l 0x708) 27 = false →
              t.reg (lnKey l 0x708) = BitVec.ofNat 64 (tag + 3 * 2 ^ 16 + 2 ^ 27) ∧ t.reg (lnKey l 0x710) = 0)
          ∧ (s.flag (lnKey l 0x708) 27 = true → t.flag (lnKey l 0x708) 28 = true ∧ t.reg (lnKey l 0x710) = s.reg (lnKey l 0x710))
          ∧ t.mem = s.mem ∧ t.ponds = s.ponds ∧ t.chans = s.chans)
      ∧ (v.flag 16 = false → v.flag 17 = true → Gives (.clear via l v) s fun t => t.jobEnded l tag = false
          ∧ (∀ i, i ≠ tag → t.jobEnded l i = s.jobEnded l i) ∧ { t with lines := s.lines, regs := s.regs } = s))
    ∧ (s.hubWrites = true → v.field 33 31 = 0 → v.flag 32 = true →
      let kind := v.field 0 4
      let u := v.field 8 24
      let k := healthKey kind u
      let st := (s.healthOf k).st
      let g := u % 8 * 34 + u / 8
      let given : Nat := if (s.nameOf g).isNone ∨ (s.groupSpare (u % 8) (slotGroup (u / 8))).isSome then 0 else 3
      let result (t : State) (r : Nat) : Prop := t.fld (hubKey 0x808) 4 4 = r ∧ t.reg (hubKey 0x810) = t.unitHealth k
      let same (t : State) : Prop := { t with regs := s.regs } = s
      (v.field 4 4 = 0 → unitOk kind u = false → Gives (.unitRead v) s fun t =>
        t.fld (hubKey 0x808) 4 4 = 1 ∧ t.reg (hubKey 0x810) = s.reg (hubKey 0x810) ∧ same t)
      ∧ (unitOk kind u = true →
        (v.field 4 4 = 0 → Gives (.unitRead v) s fun t => result t 0 ∧ same t)
        ∧ (v.field 4 4 = 1 → kind < 5 → st ≠ .retired → Gives (.unitTest v) s fun t => result t 0
            ∧ t.healthOf k = { s.healthOf k with due := true } ∧ ∀ j, j ≠ k → t.healthOf j = s.healthOf j)
        ∧ (v.field 4 4 = 1 → kind = 5 → Gives (.unitTest v) s fun t => result t 2 ∧ same t)
        ∧ (v.field 4 4 = 4 → kind < 2 → st = .healthy → Gives (.suspect v) s fun t => result t 0
            ∧ (t.healthOf k).st = .suspect ∧ (t.healthOf k).cause = 4 ∧ (t.healthOf k).mismatches = 0
            ∧ t.bindings = s.bindings)
        ∧ (v.field 4 4 = 4 → 2 ≤ kind → Gives (.suspect v) s fun t => result t 2 ∧ same t)
        ∧ (v.field 4 4 = 5 → kind < 2 → st = .retired → Gives (.reinstate v) s fun t => result t 0
            ∧ (t.healthOf k).st = .suspect ∧ (t.healthOf k).cause = 4 ∧ t.bindings = s.bindings)
        ∧ (v.field 4 4 = 5 → st ≠ .retired → Gives (.reinstate v) s fun t => result t 2 ∧ same t)
        ∧ (v.field 4 4 = 2 → kind < 2 → st ≠ .retired → Gives (.quarantine v) s fun t =>
            (t.healthOf k).st = .suspect ∧ (t.healthOf k).due = true ∧ (st = .healthy → (t.healthOf k).cause = 4)
            ∧ (kind = 0 → result t given))
        ∧ (v.field 4 4 = 3 → kind < 2 → st ≠ .retired → Gives (.retire v) s fun t =>
            (t.healthOf k).st = .retired ∧ (t.healthOf k).cause = 4 ∧ (t.healthOf k).due = false
            ∧ (kind = 0 → result t given))
        ∧ (v.field 4 4 = 3 → kind = 5 → st ≠ .retired → s.flag (memKey (u / 32) 8) (32 + u % 32) = false →
            Gives (.retire v) s fun t => result t 0 ∧ t.flag (memKey (u / 32) 8) (32 + u % 32) = true
              ∧ (t.healthOf k).st = .retired)))
    ∧ (∀ (kind : UnitKind) (u b : Nat),
        let k := healthKey (kindNo kind) u
        let h := s.healthOf k
        let interval := if h.st = .healthy then bits (s.tt.basin b).test 0 11 * 60000000000
          else bits (s.tt.basin b).test 16 10 * 1000000000
        kind = .grid ∨ kind = .core → unitOk (kindNo kind) u = true → testBasin k = some b → h.st ≠ .retired → h.due = false →
        (h.testedAt + interval ≤ s.aged → Gives (.testDue kind u) s fun t => t.healthOf k = { h with due := true } ∧ t.mem = s.mem)
        ∧ (s.aged < h.testedAt + interval → Gives (.testDue kind u) s fun t => t = s))
    ∧ (∀ (b : BasinId) (i : Fin 16),
        let j := s.coreOf b i
        let h := 16 * b.val + i.val
        let k := coreHealth b j
        j < 16 → (s.healthOf k).leaving = true ∨ (s.healthOf k).due = true → s.sidingFree b = true → s.coresUp b = true →
        (Gives (.coreMigration b i { romPass := true, stateReadable := true }) s fun t => t.coreOf b i = 16
          ∧ tblGet 0 t.sidings b = 1 + j ∧ t.hart h = { s.hart h with reservation := none }
          ∧ (∀ x, x ≠ h → t.hart x = s.hart x) ∧ (∀ g < 2 ^ 46, t.copy h g = none) ∧ (t.healthOf k).leaving = false)
        ∧ (Gives (.coreMigration b i { romPass := true, stateReadable := false }) s fun t => t.coreOf b i = 16
          ∧ (t.hart h).mode = .halted ∧ (∀ x, x ≠ h → t.hart x = s.hart x) ∧ (∀ g < 2 ^ 46, t.copy h g = none))
        ∧ (Gives (.coreMigration b i { romPass := false }) s fun t => t = s))

/-- Tests of grids, subarrays and lanes begin and end as R457 to R460 say; survey packs load, erase and run as R465 to
R471 say (R135, R220, R457, R459, R460, R465, R467, R468, R471, R358, R437). -/
def Obligations.TestsAndSurveys : Prop :=
  ∀ (s : State) (kind : UnitKind) (u : Nat) (v : Word),
    let n := kindNo kind
    let k := healthKey n u
    let h := s.healthOf k
    let b := u % 8
    let g := b * 34 + u / 8
    let bank := bits u 3 8
    let m := s.bmem b
    let lane := u / 64
    let x := (s.spur (u % 32)).side (unitDir u)
    let y := (s.port (u % 32)).side (unitDir u)
    let running (t : State) (standIn : Option Nat) : Prop :=
      tblGet none t.tests k = some { standIn := standIn } ∧ t.healthOf k = { h with due := false } ∧ t.mem = s.mem
    (unitOk n u = true → h.st ≠ .retired → h.due = true → s.groupTesting k = false →
      (∀ w e i, kind = .grid → s.testState b = true → (s.line (s.leaderOf b)).sleep = 0 → (s.grid g).phase = .idle →
          s.gridBusy g = false → (∀ y ∈ s.health, y.2.due = true → y.2.blames ≠ some g) → s.nameOf g = some (w, e) → s.groupSpare b (slotGroup (u / 8)) = some i →
          Gives (.testBegin kind u) s fun t => running t (some i) ∧ t.gridOf w e = some (b * 34 + i)
            ∧ (t.grid g).phase = .test ∧ (t.grid g).out = true)
      ∧ (kind = .subarray → tblGet 0 m.spares bank = 0 → (∀ e ∈ m.copying, e.1 ≠ bank) →
          Gives (.testBegin kind u) s fun t => running t none)
      ∧ (kind = .spurLane → (s.spur (u % 32)).st = .up → (s.spur (u % 32)).ver = 3 → x.calLane = none →
          x.spare0.isSome = true ∨ x.spare1.isSome = true → x.spare0 ≠ some lane → x.spare1 ≠ some lane →
          Gives (.testBegin kind u) s fun t => running t none
            ∧ (t.spur (u % 32)).side (unitDir u) = { x with calLane := some lane })
      ∧ (kind = .railLane → (s.port (u % 32)).st = .up → y.step = .none → y.change = .none → y.spare.isSome = true →
          y.spare ≠ some lane → Gives (.testBegin kind u) s fun t => running t none
            ∧ (t.port (u % 32)).side (unitDir u) = { y with step := .calibrating lane, spare := none }))
    ∧ (∀ (r : TestResult) (e : RunningTest), unitOk n u = true → tblGet none s.tests k = some e →
        let pass := r.rom = true ∧ r.survey = none
        let cause : Nat := if r.rom then 3 else 1
        let ends (t : State) : Prop := tblGet none t.tests k = none ∧ (t.healthOf k).tests = min 0xFFFF (h.tests + 1)
          ∧ (t.healthOf k).testedAt = s.aged
        (kind = .grid ∨ kind = .core →
          (pass → h.st = .healthy → Gives (.testComplete kind u r) s fun t => ends t ∧ (t.healthOf k).st = .healthy)
          ∧ (pass → h.st = .suspect → h.passes + 1 < 72 → Gives (.testComplete kind u r) s fun t => ends t
              ∧ (t.healthOf k).st = .suspect ∧ (t.healthOf k).passes = h.passes + 1)
          ∧ (pass → h.st = .suspect → 72 ≤ h.passes + 1 → Gives (.testComplete kind u r) s fun t => ends t
              ∧ (t.healthOf k).st = .healthy ∧ (t.healthOf k).cause = h.cause)
          ∧ (¬ pass → h.st = .healthy → r.reproduced = false → Gives (.testComplete kind u r) s fun t => ends t
              ∧ (t.healthOf k).st = .suspect ∧ (t.healthOf k).cause = cause ∧ (t.healthOf k).mismatches = 0)
          ∧ (¬ pass → h.st = .suspect ∨ (h.st = .healthy ∧ r.reproduced = true) → Gives (.testComplete kind u r) s fun t => ends t
              ∧ (t.healthOf k).st = .retired ∧ (t.healthOf k).cause = cause))
        ∧ (kind = .subarray → pass → Gives (.testComplete kind u r) s fun t => ends t ∧ (t.healthOf k).st = h.st
            ∧ t.basinMem = s.basinMem))
    ∧ (s.hubWrites = true → v.field 29 35 = 0 → v.flag 28 = true → v.field 26 2 ≠ 3 →
        let addr := (s.reg (hubKey 0x820)).toNat
        let len := v.field 0 23
        let op : SurveyOp := { op := v.field 26 2, addr := addr, len := len, slot := v.field 23 3 }
        let starts (t : State) : Prop := t.survey = some op ∧ { t with survey := s.survey, regs := s.regs } = s
        (s.survey = none →
          (v.field 26 2 = 0 → 3016 ≤ len → len ≤ 0x400000 → addr % 8 = 0 → Gives (.surveyLoad v) s starts)
          ∧ (v.field 26 2 = 0 → len < 3016 ∨ 0x400000 < len → Gives (.surveyLoad v) s fun t =>
              t.survey = none ∧ t.fld (hubKey 0x830) 8 8 = 1 ∧ { t with regs := s.regs } = s)
          ∧ (v.field 26 2 = 1 → Gives (.surveyErase v) s starts)
          ∧ (v.field 26 2 = 2 → Gives (.runNow v) s starts))
        ∧ (s.survey ≠ none → v.field 26 2 = 0 → Gives (.surveyLoad v) s fun t =>
            t.flag (hubKey 0x830) 1 = true ∧ { t with regs := s.regs } = s))
    ∧ (∀ (o : SurveyOp) (readOk sigOk : Bool), s.survey = some o → s.ownerRuns = false → o.pack = none →
        let p := s.packAt o.slot
        let done (t : State) (result : Nat) : Prop := t.survey = none ∧ t.fld (hubKey 0x830) 8 8 = result ∧ t.mem = s.mem
        (o.op = 0 →
          (∀ d i, s.packRead o readOk = some d → s.packVerdict d sigOk = .ok i →
            Gives (.surveyOpDone readOk sigOk true) s fun t => done t 0 ∧ t.packAt i = d ∧ t.fld (hubKey 0x830) 24 3 = i
              ∧ ∀ j, j ≠ i → t.packAt j = s.packAt j)
          ∧ (∀ d c, s.packRead o readOk = some d → s.packVerdict d sigOk = .error c →
            Gives (.surveyOpDone readOk sigOk true) s fun t => done t c ∧ t.flash = s.flash)
          ∧ (s.packRead o readOk = none → Gives (.surveyOpDone readOk sigOk true) s fun t => done t 1 ∧ t.flash = s.flash))
        ∧ (o.op ≠ 0 → p = [] → Gives (.surveyOpDone readOk sigOk true) s fun t => done t 7 ∧ t.flash = s.flash)
        ∧ (o.op = 1 → p ≠ [] → Gives (.surveyOpDone readOk sigOk true) s fun t => done t 0 ∧ t.packAt o.slot = [])
        ∧ (o.op = 2 → p ≠ [] → Gives (.surveyOpDone readOk sigOk true) s fun t => done t 0 ∧ t.flash = s.flash
            ∧ ∀ slot < 272, (packKinds p).contains 0 = true → packFits p (s.die (1 + slot / 34)).rev = true →
              s.retired (gridHealth (slot / 34) (slot % 34)) = false →
              (t.healthOf (gridHealth (slot / 34) (slot % 34))).due = true))

/-- Owner requests, the random source and every SPDM request act as R482 to R485 say, each signature taking one leaf
(R476, R479, R480, R482, R483, R484, R485). Message layouts are the model's, from the standard (log entry 31). -/
def Obligations.Security : Prop :=
  ∀ (s : State) (tr : Transport) (body : List Byte) (v : Word),
    let n := transportNo tr
    let c := s.spdmConn n
    let ver : Nat := if c.version = 0 then 0x10 else c.version
    let sent (t : State) (m : List Byte) : Prop := ∃ r, t.out = r ++ .spdm n m :: s.out
    let answers (t : State) (code p1 p2 : Nat) (tail : List Byte) : Prop :=
      let m := leBytes 1 ver ++ leBytes 1 code ++ leBytes 1 p1 ++ leBytes 1 p2 ++ tail
      if c.size ≠ 0 ∧ c.size < m.length then
        (t.spdmConn n).large = m
        ∧ sent t (leBytes 1 ver ++ leBytes 1 0x7F ++ leBytes 1 0x0F ++ leBytes 1 0 ++ leBytes 1 ((c.handle + 1) % 256))
      else sent t m
    let keeps (t : State) : Prop := t.vault = s.vault ∧ t.mem = s.mem
    let refuses (t : State) (code : Nat) : Prop := answers t 0x7F code 0 [] ∧ t.sessions = s.sessions ∧ keeps t
    let signed (t : State) (code p1 p2 : Nat) (head : List Byte) : Prop :=
      (∃ rest, answers t code p1 p2 (head ++ rest)) ∧ t.vault = s.vault.sign
    (s.hubWrites = true → v.field 1 63 = 0 → v.flag 0 = true →
      (s.sec.ownerOp = none → Gives (.ownerRequest v) s fun t =>
        t.sec.ownerOp = some { addr := (s.reg (secKey 0x10)).toNat, waiting := s.loadsBusy } ∧ { t with sec := s.sec } = s)
      ∧ (s.sec.ownerOp ≠ none → Gives (.ownerRequest v) s fun t =>
          t.flag (secKey 0x20) 1 = true ∧ { t with regs := s.regs } = s))
    ∧ (∀ (o : OwnerOp) (readOk sigOk : Bool), s.sec.ownerOp = some o → o.waiting = false →
        let r := memBytes s.hostMem o.addr 3040
        let got := readOk = true ∧ s.host.attached = true ∧ o.addr % 8 = 0
          ∧ ∀ p ∈ pieces o.addr 3040, tblGet false s.hostPoison (p.1 / 64) = false
        let verdict := s.ownerVerdict r sigOk
        let ends (t : State) (result : Nat) : Prop := t.sec.ownerOp = none ∧ t.fld (secKey 0x20) 8 8 = result ∧ keeps t
          ∧ ∀ x, s.ttLoad = some x → x.stage = .waiting → t.ttLoad = some { x with stage := .reading }
        (got → Gives (.ownerRequestDone readOk sigOk) s fun t => ends t verdict ∧ (verdict ≠ 0 → t.nvm = s.nvm)
          ∧ (verdict = 0 → t.nvm.ownerCount = fieldAt r 0x10 8
              ∧ t.nvm.ownerHash = if fieldAt r 4 2 = 2 then none else some (ownerKeyHash ((r.drop 0x18).take 64))))
        ∧ (¬ got → Gives (.ownerRequestDone readOk sigOk) s fun t => ends t 1 ∧ t.nvm = s.nvm))
    ∧ (Gives .drbgReseed s fun t =>
        if s.sec.rngFail = true ∨ s.sec.reseedAt + 86400000000000 ≤ s.time then
          t.sec = { s.sec with rngFail := false, reseeds := s.sec.reseeds + 1, reseedAt := s.time } ∧ { t with sec := s.sec } = s
        else t = s)
    ∧ (s.log.mramFail = false → Gives .rngHealthFail s fun t => t.sec = { s.sec with rngFail := true }
        ∧ (t.log.entries.head?.map fun e => (e.code, e.seq)) = some (0x0800, s.log.next))
    ∧ (s.spdmServed n = true →
      (Gives (.getVersion tr body) s fun t => t.spdmConn n = {} ∧ keeps t
        ∧ sent t (leBytes 1 0x10 ++ leBytes 1 4 ++ leBytes 1 0 ++ leBytes 1 0 ++ leBytes 2 0x0200 ++ leBytes 2 0x1200
            ++ leBytes 2 0x1300))
      ∧ (msgByte body 0 = 0x12 ∨ msgByte body 0 = 0x13 → Gives (.getCapabilities tr body) s fun t =>
          (t.spdmConn n).version = msgByte body 0 ∧ (t.spdmConn n).caps = true ∧ (t.spdmConn n).algos = false
          ∧ (t.spdmConn n).size = fieldAt body 12 4 ∧ keeps t)
      ∧ (msgByte body 0 ≠ 0x12 → msgByte body 0 ≠ 0x13 → Gives (.getCapabilities tr body) s fun t => refuses t 0x41)
      ∧ (c.caps = true → msgByte body 0 = c.version →
          (msgByte body 28 = 0 → Gives (.negotiateAlgorithms tr body) s fun t => refuses t 1
            ∧ (t.spdmConn n).algos = c.algos)
          ∧ (msgByte body 28 ≠ 0 → Gives (.negotiateAlgorithms tr body) s fun t => (t.spdmConn n).algos = true ∧ keeps t))
      ∧ (c.algos = false → Gives (.getDigests tr body) s fun t => refuses t 4)
      ∧ (c.algos = true → msgByte body 0 = c.version →
        (Gives (.getDigests tr body) s fun t => answers t 1 1 1 (Config.sha384 Config.certChain) ∧ keeps t)
        ∧ (Gives (.getCertificate tr body) s fun t =>
            let off := fieldAt body 4 2
            let part := (Config.certChain.drop off).take (fieldAt body 6 2)
            if bits (msgByte body 2) 0 4 ≠ 0 ∨ Config.certChain.length ≤ off then refuses t 1
            else answers t 2 0 0 (leBytes 2 part.length ++ leBytes 2 (Config.certChain.length - off - part.length) ++ part)
              ∧ keeps t)
        ∧ (msgByte body 1 = 0x83 → msgByte body 2 = 0 →
            (s.vault.nextLeaf < leafBound → Gives (.challenge tr body) s fun t =>
              signed t 3 0 1 (Config.sha384 Config.certChain))
            ∧ (leafBound ≤ s.vault.nextLeaf → Gives (.challenge tr body) s fun t => refuses t 5))
        ∧ (msgByte body 1 = 0xE0 → msgByte body 3 ≤ 16 ∨ msgByte body 3 = 255 →
            let op := msgByte body 3
            let blocks := if op = 0 then [] else if op = 255 then (List.range 16).map (· + 1) else [op]
            let all := blocks.flatMap s.measureBlock
            let head := leBytes 1 blocks.length ++ leBytes 3 all.length ++ all
            let p1 : Nat := if op = 0 then 16 else 0
            (bit (msgByte body 2) 0 = false → Gives (.getMeasurements tr body) s fun t =>
              answers t 0x60 p1 0 head ∧ keeps t)
            ∧ (bit (msgByte body 2) 0 = true → s.vault.nextLeaf < leafBound → Gives (.getMeasurements tr body) s fun t =>
              signed t 0x60 p1 0 head))
        ∧ (msgByte body 1 = 0xE4 → msgByte body 3 = 0 →
            (s.sessions.length < 4 → s.vault.nextLeaf < leafBound → Gives (.keyExchange tr body) s fun t =>
              (∃ rsp < 2 ^ 16, t.sessions = s.sessions ++ [{ id := fieldAt body 4 2 + rsp * 2 ^ 16, transport := n }]
                ∧ ∃ rest, answers t 0x64 0 0 (leBytes 2 rsp ++ rest)) ∧ t.vault = s.vault.sign)
            ∧ (4 ≤ s.sessions.length → Gives (.keyExchange tr body) s fun t => refuses t 0x0A))
        ∧ (fieldAt body 4 2 = c.chunkSeq → bit (msgByte body 2) 0 = false → Gives (.chunkSend tr body) s fun t =>
            (t.spdmConn n).chunk
              = c.chunk ++ (body.drop (if c.chunkSeq = 0 then 16 else 12)).take (fieldAt body 8 4)
            ∧ (t.spdmConn n).chunkSeq = c.chunkSeq + 1 ∧ answers t 5 0 (msgByte body 3) (leBytes 2 c.chunkSeq) ∧ keeps t)
        ∧ (c.large ≠ [] → msgByte body 3 = c.handle → fieldAt body 4 2 = c.largeSeq → Gives (.chunkGet tr body) s fun t =>
            let part := c.large.take (max 1 (c.size - 16))
            let rest := c.large.drop (max 1 (c.size - 16))
            (t.spdmConn n).large = rest ∧ (t.spdmConn n).largeSeq = c.largeSeq + 1 ∧ keeps t
            ∧ sent t (leBytes 1 c.version ++ leBytes 1 6 ++ leBytes 1 (if rest = [] then 1 else 0) ++ leBytes 1 c.handle
                ++ leBytes 2 c.largeSeq ++ leBytes 2 0 ++ leBytes 4 part.length
                ++ (if c.largeSeq = 0 then leBytes 4 c.large.length else []) ++ part)))
      ∧ (∀ e, (s.sessions.find? fun x => x.id == fieldAt body 0 4 && x.transport == n) = some e →
          let m := body.drop 4
          (e.established = false → Gives (.finish tr body) s fun t => keeps t
            ∧ (Config.finishOk e.id m = true → answers t 0x65 0 0 []
                ∧ t.sessions = s.sessions.map fun x => if x.id = e.id then { x with established := true } else x)
            ∧ (Config.finishOk e.id m = false → answers t 0x7F 6 0 [] ∧ t.sessions = s.sessions.filter fun x => x.id != e.id))
          ∧ (e.established = true →
            (Gives (.heartbeat tr body) s fun t => answers t 0x68 0 0 [] ∧ t.sessions = s.sessions ∧ keeps t)
            ∧ (Gives (.vendorDefinedRequest tr body) s fun t => answers t 0x7E 0 0 [] ∧ t.sessions = s.sessions ∧ keeps t)
            ∧ (Gives (.endSession tr body) s fun t => answers t 0x6C 0 0 [] ∧ keeps t
                ∧ t.sessions = s.sessions.filter fun x => x.id != e.id)
            ∧ (1 ≤ msgByte m 2 → msgByte m 2 ≤ 3 → Gives (.keyUpdate tr body) s fun t =>
                answers t 0x69 (msgByte m 2) (msgByte m 3) [] ∧ keeps t
                ∧ t.sessions = s.sessions.map fun x =>
                    if x.id = e.id ∧ msgByte m 2 ≠ 3 then { x with keyUpdates := x.keyUpdates + 1 } else x)))
      ∧ ((s.sessions.find? fun x => x.id == fieldAt body 0 4 && x.transport == n) = none → Gives (.heartbeat tr body) s fun t =>
          refuses t 0x0B))

/-- Sleep states, self-refresh, power samples, the budget loop and V-F checks act as R496 to R508 say (R413, R495,
R496, R498, R499, R500, R501, R503, R504, R505, R506, R508). -/
def Obligations.PowerAndSleep : Prop :=
  ∀ (s : State) (l : LineId) (b : BasinId),
    let ln := s.line l
    let want := sleepDepth (s.fld (lnKey l 0x140) 0 16)
    let d := if want = 3 ∧ s.allWfi l = false then 2 else want
    (s.isLeader l = true → ln.st = .running → ln.sleep = 0 → d ≠ 0 → s.holdsGrant l = false → s.sleepIdle l = true →
      sinceMs ln.sleepFrom s.time = true → Gives (.sleepEntry l) s fun t => (t.line l).sleep = d ∧ (t.line l).waking = false
        ∧ (∀ m ∈ s.members l, ∀ k < 8, t.pond (m * 8 + k) = Pond.gate (decide (2 ≤ d)) (s.pond (m * 8 + k)))
        ∧ (d = 3 → ∀ m ∈ s.members l, (t.bmem m).selfRefresh = true ∧ (t.bpow m).pll = false)
        ∧ (d < 3 → t.mem = s.mem ∧ t.basinMem = s.basinMem ∧ t.basinPower = s.basinPower ∧ t.harts = s.harts))
    ∧ (want = 0 ∨ s.holdsGrant l = true ∨ s.sleepIdle l = false ∨ sinceMs ln.sleepFrom s.time = false → Gives (.sleepEntry l) s fun t => t = s)
    ∧ (ln.sleep ≠ 0 → Gives (.wake l) s fun t => OnlyLine s t l { ln with waking := true })
    ∧ (ln.waking = true → ln.st = .running → ln.sleep ≠ 0 → Gives (.sleepExitDone l) s fun t =>
        (t.line l).sleep = 0 ∧ (t.line l).waking = false ∧ t.mem = s.mem ∧ t.ponds = s.ponds
        ∧ (ln.sleep = 3 → ∀ m ∈ s.members l, (t.bmem m).selfRefresh = false ∧ (t.bpow m).pll = true))
    ∧ (∀ (via : Via) (v : Word), s.lnWrites via l = true → v.field 16 48 = 0 → Gives (.wakeTolWrite via l v) s fun t =>
        (ln.st = .running → (t.line l).sleep = 0) ∧ t.mem = s.mem
        ∧ t.reg (lnKey l 0x140) = if ln.locked then s.reg (lnKey l 0x140) else BitVec.ofNat 64 (v.field 0 16))
    ∧ (s.quietBasin b = true →
        (Gives (.selfRefreshExit b) s fun t => OnlyBmem s t b { s.bmem b with selfRefresh := false })
        ∧ (Gives (.selfRefreshReentry b) s fun t => OnlyBmem s t b { s.bmem b with selfRefresh := true }))
    ∧ (∀ rs : List (Nat × Nat × Nat), rs.length = 9 →
        let r (i : Nat) := rs.getD i (0, 0, 0)
        let excess := s.power.capNow * 11 < (r 8).1 * 10
        Gives (.powerSample rs) s fun t => t.power.draw = (r 8).1 ∧ t.mem = s.mem
          ∧ (∀ i < 8, (t.bpow i).computeDraw = (r i).1 ∧ (t.bpow i).otherDraw = (r i).2.1 ∧ (t.bpow i).coreDraw = (r i).2.2
              ∧ (t.bmem i).loadFull = decide (150 ≤ (r i).1))
          ∧ (excess → s.power.overCap = false → t.power.capGrid = min s.power.capGrid 32
              ∧ t.power.capCore = min s.power.capCore 68
              ∧ t.fld (hubKey 0x58) 32 32 = min (s.fld (hubKey 0x58) 32 32 + 1) (2 ^ 32 - 1))
          ∧ (¬ excess → t.power.capGrid = s.power.capGrid ∧ t.power.capCore = s.power.capCore))
    ∧ (let m := if s.power.throttle then (if s.critical 0 then Move.down else .hold)
        else if s.power.rideThrough then .down else moveOf s.power.draw s.power.cap
       Gives .budgetLoop s fun t => t.power.capNow = s.power.cap ∧ t.power.capGrid = m.app 64 s.power.capGrid
        ∧ t.power.capCore = m.app 136 s.power.capCore ∧ { t with power := s.power, basinPower := s.basinPower } = s
        ∧ ∀ k < 8, s.isLeader k = true → ∀ i ∈ s.members k,
            let w := s.lineBudget k
            let n := moveOf (s.lineDraw k) w
            (t.bpow i).budGrid = (if w = 0 then 64 else n.app 64 (s.bpow i).budGrid)
            ∧ (t.bpow i).budCore = (if w = 0 then 136 else n.app 136 (s.bpow i).budCore))
    ∧ (∀ v : Word, s.hubWrites = true → v.field 12 52 = 0 → Gives (.pwrCapWrite v) s fun t =>
        t.power = (if 1000 ≤ v.field 0 12 ∧ v.field 0 12 ≤ 3800 then { s.power with cap := v.field 0 12 } else s.power)
        ∧ { t with power := s.power } = s)
    ∧ (∀ core : Bool,
        let x := s.rail b core
        let fresh (a : List Nat) : VfRail := { anchors := a, temp := s.railTemp b core, full := true, time := s.time }
        (s.railDue b core = true →
          (Gives (.vfRevalidate b core true) s fun t => t.rail b core = fresh x.anchors ∧ t.rail b (!core) = s.rail b (!core)
            ∧ { t with basinPower := s.basinPower } = s)
          ∧ ((∀ a ∈ x.anchors, a + 10 ≤ railMax b core) → Gives (.vfRevalidate b core false) s fun t =>
              t.rail b core = fresh (x.anchors.map (· + 10)) ∧ t.mem = s.mem)
          ∧ ((∃ a ∈ x.anchors, railMax b core < a + 10) → Gives (.vfRevalidate b core false) s fun t =>
              t.rail b core = { x with guard := false, guardFreq := true, kept := true }))
        ∧ (s.railDue b core = false → Gives (.vfRevalidate b core true) s fun t => t = s))

/-- I3C, SMBus, MCTP and PLDM requests change the management port and firmware update as R516 to R522 say (R516, R517,
R518, R519, R521, R522, R534, R475). Layouts and codes from the standards are the model's (log entries 32 and 33). -/
def Obligations.ManagementBus : Prop :=
  ∀ (s : State) (addr : Fin 128) (mask : Byte) (len : Nat) (binding : Fin 2) (body : List Byte),
    let m := s.mgmt
    let onlyMgmt (t : State) (y : Mgmt) : Prop := t.mgmt = y ∧ { t with mgmt := s.mgmt } = s
    let answers (t : State) (d : List Byte) : Prop := t.out = .bus d :: s.out ∧ { t with out := s.out } = s
    let free (t : State) (k : Nat) : Prop := ∃ d, d.length = k ∧ t.out = .bus d :: s.out
      ∧ { t with out := s.out, freeCtr := s.freeCtr } = s
    let sent (t : State) (type : Nat) (d : List Byte) : Prop := ∃ r, t.out = r ++ .mctp binding type d :: s.out
    (s.busOn = true →
      let i3c : Mgmt := { m with i3c := true }
      (Gives (.entdaa addr) s fun t => onlyMgmt t { i3c with dynAddr := m.dynAddr.or (some addr.val) })
      ∧ (Gives (.setdasa addr) s fun t => onlyMgmt t { i3c with dynAddr := m.dynAddr.or (some addr.val) })
      ∧ (Gives .rstdaa s fun t => onlyMgmt t { i3c with dynAddr := none })
      ∧ (Gives (.enec mask) s fun t => onlyMgmt t { i3c with events := m.events ||| mask.toNat })
      ∧ (Gives (.disec mask) s fun t => onlyMgmt t { i3c with events := m.events &&& (255 - mask.toNat) })
      ∧ (Gives (.setmwl len) s fun t => onlyMgmt t { i3c with mwl := len % 2 ^ 16 })
      ∧ (Gives (.setmrl len) s fun t => onlyMgmt t { i3c with mrl := len % 2 ^ 16 })
      ∧ (Gives (.rstact 1) s fun t => onlyMgmt t { m with i3c := false, dynAddr := none, events := 1 })
      ∧ (Gives (.rstact 2) s fun t => t.mgmt = { m with i3c := false, dynAddr := none, events := 1 }
          ∧ t.boot.cause = 3 ∧ t.boot.stage = .alwaysOn ∧ t.log = s.log ∧ t.nvm = s.nvm ∧ ((∀ e ∈ s.health, e.2.deferred = false) → t.health = s.health))
      ∧ (m.i3c = true → m.dynAddr.isSome = true →
        (Gives (.setnewda addr) s fun t => onlyMgmt t { m with dynAddr := some addr.val })
        ∧ (Gives .getpid s fun t => answers t (beBytes 6 (0x1D3 * 2 ^ 33 + 2 ^ 32 + hubId % 2 ^ 32)))
        ∧ (Gives .getbcr s fun t => answers t [0x26])
        ∧ (Gives .getdcr s fun t => answers t [0x00])
        ∧ (Gives .getmwl s fun t => answers t (beBytes 2 m.mwl))
        ∧ (Gives .getmrl s fun t => answers t (beBytes 2 m.mrl))
        ∧ (Gives .getstatus s fun t => free t 2)
        ∧ (Gives .getcaps s fun t => free t 4))
      ∧ (m.i3c = false →
        (Gives (.smbusArp .prepare) s fun t => onlyMgmt t { m with arpDone := false })
        ∧ (Gives (.smbusArp .reset) s fun t => onlyMgmt t { m with arpDone := false, smbusAddr := 0x52 })
        ∧ (Gives (.smbusArp (.assign addr true)) s fun t => onlyMgmt t { m with arpDone := true, smbusAddr := addr.val })
        ∧ (Gives (.smbusArp (.assign addr false)) s fun t => t = s)
        ∧ (m.arpDone = false → Gives (.smbusArp .getUdid) s fun t => ∃ d, d.length = 12
            ∧ t.out = .bus (d ++ beBytes 4 (hubId % 2 ^ 32) ++ leBytes 1 (m.smbusAddr * 2)) :: s.out ∧ t.mgmt = m)))
    ∧ (m.dynAddr = none → Gives .getpid s fun t => t = s)
    ∧ (s.mctpServed binding = true → ∀ eid : Byte,
        (eid ≠ 0 → eid ≠ 255 → Gives (.setEndpointId binding eid) s fun t => t.mgmt.eids = tblSet 0 m.eids binding eid.toNat
          ∧ sent t 0 [0, 0, eid, 0])
        ∧ (eid = 0 ∨ eid = 255 → Gives (.setEndpointId binding eid) s fun t => t.mgmt = m ∧ sent t 0 [2]))
    ∧ (s.pldmServed binding = true →
        ((body.getD 0 0).toNat ≤ 3 → Gives (.setEventReceiver binding body) s fun t => sent t 1 [0]
          ∧ t.pldm.receiver = if (body.getD 0 0).toNat = 0 then none else some binding.val)
        ∧ (s.pldm.events = [] → Gives (.pollForPlatformEventMessage binding body) s fun t => sent t 1 [0, 0, 0, 0]
            ∧ t.pldm = s.pldm)
        ∧ (∀ e r, s.pldm.events = e :: r → Gives (.pollForPlatformEventMessage binding body) s fun t =>
            t.pldm = { s.pldm with events := r, lost := 0 }
            ∧ sent t 1 ([0, 0] ++ leBytes 2 1 ++ leBytes 1 e.kind ++ leBytes 8 e.a ++ leBytes 8 e.b ++ leBytes 2 s.pldm.lost)))
    ∧ (∀ (img : List Byte) (sigOk : Bool),
        (s.fwServed binding 1 = true → s.pldm.update = none → s.boot.recovery = none →
          let c := fwVerdict s.vault.minSvn img sigOk
          Gives (.firmwareUpdateComponent binding 1 img sigOk) s fun t => sent t 1 (leBytes 1 c) ∧ t.flash = s.flash
            ∧ (c ≠ 0 → t.pldm = s.pldm)
            ∧ (c = 0 → ∃ w, t.pldm = { s.pldm with
                update := some { comp := 1, image := img, sigOk := sigOk, binding := binding, waiting := w } }))
        ∧ (s.fwServed binding 2 = true → s.pldm.update = none → s.survey = none →
            Gives (.firmwareUpdateComponent binding 2 img sigOk) s fun t => t.flash = s.flash
              ∧ t.survey = some { op := 0, addr := 0, len := img.length, slot := 0, pack := some img }
              ∧ t.pldm = { s.pldm with
                  update := some { comp := 2, image := img, sigOk := sigOk, binding := binding } })
        ∧ (s.fwServed binding 1 = true → s.pldm.update ≠ none → Gives (.firmwareUpdateComponent binding 1 img sigOk) s fun t =>
            sent t 1 [4] ∧ t.pldm = s.pldm ∧ t.flash = s.flash))
    ∧ (∀ u, s.pldm.update = some u → u.comp = 1 → u.waiting = false →
        (Gives (.applyComplete true) s fun t => t.flash = { s.flash with fw := .programmed u.image }
          ∧ t.pldm.update = none ∧ t.pldm.pending = true)
        ∧ (Gives (.applyComplete false) s fun t => t.flash = { s.flash with fw := .broken } ∧ t.pldm.update = none
          ∧ t.pldm.pending = s.pldm.pending))
    ∧ (s.fwServed binding 1 = true → Gives (.activateFirmware binding) s fun t =>
        sent t 1 [if s.pldm.pending then 0 else 0x84] ∧ t.pldm = s.pldm)

/-- Tenant values, telemetry records, sensors and the Logbook act as R491, R520, R523 to R525 and R527 to R531 say
(R491, R520, R523, R525, R528, R529, R530, R531, R574, R575). -/
def Obligations.TelemetryAndLogbook : Prop :=
  ∀ (s : State) (via : Via) (l : LineId) (v : Word),
    let drawn := s.each (List.range 8) State.sampleBasin
    (∀ draws : List Nat, s.time % 1000000 = 0 → s.sec.tenantAt ≠ s.time → tblRising drawn.regs = true →
      Gives (.tenantValueUpdate draws) s fun t => t.regs = drawn.regs ∧ t.mem = s.mem
        ∧ (∀ k, (∀ g, k ≠ grdKey g 0x18) → t.reg k = s.reg k)
        ∧ (∀ e ∈ drawn.regs, s.quantum e.1 ≠ 0 → tblGet 0 t.tenantPrev e.1 = e.2.toNat
            ∧ tblGet 0 t.tenant e.1
              = atBoundary (tblGet 0 s.tenant e.1) e.2.toNat (tblGet 0 s.tenantPrev e.1) (s.quantum e.1))
        ∧ (s.time % 50000000 = 0 → ∀ i < 8, tblGet 0 t.power.lineDraws i = draws.getD i 0 / 10 * 10))
    ∧ (∀ draws : List Nat, s.time % 1000000 ≠ 0 → Gives (.tenantValueUpdate draws) s fun t => t = s)
    ∧ (let period := s.fld (telKey l 0x10) 0 10
       let n := 2 ^ (s.fld (telKey l 0) 0 4 + 4)
       let i := s.fld (telKey l 8) 0 20
       let wrap := s.flag (telKey l 8) 20
       let base := s.tenantStep.lowBits (s.fld (telKey l 0) 4 48 * 16) (n * 64)
       let a := base.1 + i * 64
       let record := s.tenantStep.telemetryRecord l wrap
       s.isLeader l = true → (s.line l).st ≠ .failed → period ≠ 0 → s.time % (period * 1000000) = 0 →
        (Writable s l a 64 → Gives (.telemetrySample l) s fun t => (∀ k < 64, seen t (a + k) = record.getD k 0)
          ∧ SeenOutside s t a 64 ∧ (t.line l).telSeq = ((s.line l).telSeq + 1) % 2 ^ 32
          ∧ t.fld (telKey l 8) 0 20 = (if i + 1 < n then i + 1 else 0)
          ∧ t.flag (telKey l 8) 20 = if i + 1 < n then wrap else !wrap)
        ∧ (s.ownMem l a = false → Gives (.telemetrySample l) s fun t => t.flag (telKey l 0x10) 10 = true
          ∧ t.fld (telKey l 0x10) 0 10 = 0 ∧ t.mem = s.mem ∧ t.lines = s.lines))
    ∧ (s.lnWrites via l = true → v.field 11 53 = 0 → Gives (.telCtlWrite via l v) s fun t =>
        t.fld (telKey l 0x10) 0 10 = v.field 0 10 ∧ t.reg (telKey l 8) = 0 ∧ (t.line l).telSeq = 0
        ∧ t.flag (telKey l 0x10) 10 = (s.flag (telKey l 0x10) 10 && !v.flag 10)
        ∧ { t with regs := s.regs, lines := s.lines } = s)
    ∧ (∀ rs : List (Nat × Int), (rs.map fun e => e.1).Nodup → Gives (.sensorRefresh rs) s fun t => t.mem = s.mem
        ∧ (∀ e ∈ rs, e.1 = 2 ∨ (criticalAt e.1).isSome = true → tblGet 0 t.pldm.readings e.1 = e.2
            ∧ tblGet 0 t.pldm.states e.1 = s.sensorState e.1 e.2)
        ∧ (∀ e ∈ rs, (criticalAt e.1).isSome = true → tblGet 25 t.power.temps e.1 = e.2)
        ∧ tblGet 0 t.pldm.readings 1 = (s.power.draw : Int)
        ∧ t.power.throttle = (t.critical 0 || (s.power.throttle && t.critical 2)))
    ∧ (s.hubWrites = true → s.log.mramFail = false →
        let writes (t : State) (code : Nat) : Prop := t.log.next = s.log.next + 1 ∧ t.mem = s.mem ∧ t.regs = s.regs
          ∧ (t.log.entries.head?.map fun e => (e.seq, e.code, e.time, e.arg0)) = some (s.log.next, code, s.time, v.toNat)
        (s.logRecent 0x0104 0x20 v.toNat = none → Gives (.logNote v) s fun t => writes t 0x0104)
        ∧ (s.logRecent 0x0103 0x20 v.toNat = none → Gives (.logWall v) s fun t => writes t 0x0103)
        ∧ (∀ e, s.logRecent 0x0104 0x20 v.toNat = some e → Gives (.logNote v) s fun t =>
            t.log.entries = s.log.entries ∧ t.log.next = s.log.next
            ∧ ∃ c ∈ t.log.pendingRepeats, c.code = 0x0104 ∧ c.source = 0x20 ∧ c.arg0 = v.toNat ∧ 1 ≤ c.count))
    ∧ (Gives .repeatFlush s fun t =>
        let due := s.log.pendingRepeats.filter fun c => decide (c.since + 1000000000 ≤ s.time)
        t.log.pendingRepeats = (s.log.pendingRepeats.filter fun c => !decide (c.since + 1000000000 ≤ s.time))
        ∧ t.log.next = s.log.next + due.length ∧ { t with log := s.log, nvm := s.nvm } = s)
    ∧ (∀ (binding : Fin 2) (body : List Byte), s.mctpServed binding = true → Gives (.logRead binding body) s fun t =>
        let es := s.logSelect (fieldAt body 0 8) (fieldAt body 8 1) (fieldAt body 9 1 % 2 == 1)
        es.length ≤ 16 ∧ t.log = s.log ∧ t.nvm = s.nvm
        ∧ ∃ r, t.out = r ++ .mctp binding 0x7F (leBytes 1 0 ++ leBytes 1 es.length ++ es.flatMap LogEntry.bytes) :: s.out)

/-- Module resets, boot steps, halts, recovery, power and the thermal trip act as R534 to R551 and R567 to R576 say
(R513, R527, R534, R535, R536, R544, R547, R549, R551, R567, R568, R576). -/
def Obligations.BootAndModule : Prop :=
  ∀ (s : State) (v : Word) (r : BootResult),
    let kept (t : State) : Prop := t.vault = s.vault ∧ t.nvm.ownerHash = s.nvm.ownerHash
      ∧ t.nvm.ownerCount = s.nvm.ownerCount ∧ t.nvm.bootCount = s.nvm.bootCount
    let stays (t : State) : Prop := (∀ e ∈ s.health, e.2.deferred = false) → t.health = s.health
    let gone (t : State) : Prop := t.mem = [] ∧ t.poison = [] ∧ t.lines = [] ∧ t.ponds = [] ∧ t.chans = [] ∧ t.queues = []
      ∧ t.ctxs = [] ∧ t.harts = []
    let resets (t : State) (cause : Nat) : Prop := kept t ∧ gone t ∧ stays t ∧ t.time = s.time
      ∧ t.boot.cause = cause ∧ t.boot.powered = true ∧ t.boot.tripped = false ∧ t.boot.stage = .alwaysOn ∧ t.boot.running = false
    let off (t : State) : Prop := kept t ∧ gone t ∧ stays t ∧ t.boot.powered = false ∧ t.boot.tripped = false
    let next (t : State) (stage : Stage) : Prop := t.boot.stage = stage ∧ t.boot.running = true ∧ t.boot.stepAt = s.time
    let halts (t : State) (code : Nat) (stage : Stage) : Prop :=
      t.boot.stage = stage ∧ t.boot.halt = code ∧ t.boot.running = false ∧ t.mem = s.mem ∧ t.lines = s.lines
    let calm := ∀ l < 8, s.isLeader l = true → (s.line l).st = .off ∨ (s.line l).st = .stopped ∨ (s.line l).st = .failed
    let riding (t : State) : Prop := t.power.rideThrough = true ∧ t.power.rideFrom = s.time
      ∧ t.power.capGrid = min s.power.capGrid 32 ∧ t.power.capCore = min s.power.capCore 68
      ∧ t.fld (hubKey 0x58) 32 32 = min (s.fld (hubKey 0x58) 32 32 + 1) (2 ^ 32 - 1) ∧ t.mem = s.mem ∧ t.lines = s.lines
    (s.busOn = true → (Gives .modRst s fun t => resets t 1 ∧ t.log = s.log) ∧ (Gives .powerLoss s off)
      ∧ (Gives .powerOn s fun t => t = s) ∧ Gives .crystalEdge s fun t => t.time = s.time + 40 ∧ { t with time := s.time, lines := s.lines } = s
        ∧ ∀ l < 8, let x := s.line l
            { t.line l with idle := x.idle, idleFrom := x.idleFrom, sleepFrom := x.sleepFrom } = x
            ∧ (s.isLeader l = true → x.st = .running → x.sleep = 0 →
                (t.line l).sleepFrom = if s.sleepIdle l then some (x.sleepFrom.getD t.time) else none))
    ∧ (s.busOn = false → (Gives .crystalEdge s fun t => t = s) ∧ Gives .powerOn s fun t => kept t ∧ gone t ∧ stays t ∧ t.time = 0
        ∧ t.boot.cause = 0 ∧ t.boot.powered = true ∧ t.boot.stage = .alwaysOn ∧ t.boot.running = false)
    ∧ (s.host.attached = true → s.boot.powered = true → v.field 9 55 = 0 → v.flag 8 = true →
        (v.field 0 8 = 0xA5 → Gives (.hubReset v) s fun t => resets t 2 ∧ t.log = s.log)
        ∧ (v.field 0 8 ≠ 0xA5 → Gives (.hubReset v) s fun t => t = s))
    ∧ (s.boot.powered = true → Gives .watchdog s fun t => resets t 4 ∧ t.log = s.log)
    ∧ (s.hubWrites = true → v.field 2 62 = 0 → v.flag 0 = true →
        (calm → s.queues = [] → (∀ l < 8, s.isLeader l = true → s.tdisp l = .unlocked ∧ RouteOff s l 0x105) →
          Gives (.offlineTest v) s fun t => resets t 5)
        ∧ (¬ calm → Gives (.offlineTest v) s fun t => { t with regs := s.regs } = s))
    ∧ (s.boot.powered = true → s.boot.running = false → s.boot.stage = .alwaysOn → Gives .boot s fun t =>
        t.boot.running = true ∧ t.boot.startTime = s.time ∧ t.nvm.bootCount = s.nvm.bootCount + 1
        ∧ t.vault = { s.vault with nextLeaf := s.vault.reserved } ∧ t.mem = s.mem)
    ∧ (s.boot.running = true →
        (s.boot.stage = .alwaysOn → s.critical 0 = false →
          (r.nvmOk = true → r.rngOk = true → r.idOk = true → Gives (.bootStepDone r) s fun t => next t .image ∧ t.vault = s.vault.sign)
          ∧ (r.nvmOk = false → Gives (.bootStepDone r) s fun t => halts t 0x12 .halted)
          ∧ (r.nvmOk = true → r.rngOk = false → Gives (.bootStepDone r) s fun t => halts t 0x10 .halted)
          ∧ (r.nvmOk = true → r.rngOk = true → r.idOk = false → Gives (.bootStepDone r) s fun t => halts t 0x11 .halted))
        ∧ (s.boot.stage = .image →
          (r.flashOk = false → Gives (.bootStepDone r) s fun t => halts t 0x20 .halted)
          ∧ (r.flashOk = true → (s.fwCheck r.badFormat).1 = 0 → Gives (.bootStepDone r) s fun t => next t .inventory
              ∧ t.sec.fwSvn = (s.fwCheck r.badFormat).2)
          ∧ (r.flashOk = true → (s.fwCheck r.badFormat).1 ≠ 0 → Gives (.bootStepDone r) s fun t =>
              halts t (0x1F + (s.fwCheck r.badFormat).1) .recovery))
        ∧ (s.boot.stage = .inventory → Gives (.bootStepDone r) s fun t => t.mem = s.mem ∧
            (next t .spurs ∨ (t.boot.stage = .halted ∧ 0x40 ≤ t.boot.halt ∧ t.boot.halt ≤ 0x43 ∧ t.boot.running = false)))
        ∧ (∀ w ws, s.boot.stage = .spurs → r.wires.filter s.mispaired = w :: ws → Gives (.bootStepDone r) s fun t => halts t 0x40 .halted)
        ∧ (s.boot.stage = .spurs → r.wires.filter s.mispaired = [] → Gives (.bootStepDone r) s fun t => next t .dies)
        ∧ (s.boot.stage = .dies → Gives (.bootStepDone r) s fun t => next t .lpddr
            ∧ ∀ b ∈ s.present, (t.bpow b).pll = true ∧ (t.bpow b).compute.time = s.time)
        ∧ (s.boot.stage = .lpddr → Gives (.bootStepDone r) s fun t => next t .timetable)
        ∧ (s.boot.stage = .timetable → Gives (.bootStepDone r) s fun t => next t .done)
        ∧ (s.boot.stage = .done → Gives (.bootStepDone r) s fun t => t.boot.running = false ∧ t.boot.stage = .done
            ∧ t.boot.doneUs = min ((s.time - s.boot.startTime) / 1000) 0xFFFFFFFF)
        ∧ (s.boot.stepAt + stepLimit s.boot.stage < s.time → Gives .stepTimeout s fun t => halts t 0x13 .halted)
        ∧ (s.time ≤ s.boot.stepAt + stepLimit s.boot.stage → Gives .stepTimeout s fun t => t = s))
    ∧ (s.recoveryServed = true → v.field 28 36 = 0 → v.flag 27 = true →
        let addr := (s.reg (hubKey 0x20)).toNat
        let len := v.field 0 27
        (s.boot.recovery = none → s.pldm.update = none →
          (addr % 8 = 0 → 8 ≤ len → len ≤ 0x4000000 → Gives (.recoveryWrite v) s fun t =>
            t.boot = { s.boot with recovery := some { addr := addr, len := len } } ∧ t.flash = s.flash)
          ∧ (addr % 8 ≠ 0 ∨ len < 8 ∨ 0x4000000 < len → Gives (.recoveryWrite v) s fun t => t.boot = s.boot
            ∧ t.fld (hubKey 0x30) 8 8 = 1 ∧ { t with regs := s.regs } = s))
        ∧ (s.boot.recovery ≠ none → Gives (.recoveryWrite v) s fun t => t.flag (hubKey 0x30) 1 = true ∧ { t with regs := s.regs } = s))
    ∧ (∀ (o : RecoveryOp) (readOk sigOk flashOk : Bool), s.boot.recovery = some o → s.busOn = true →
        let img := memBytes s.hostMem o.addr o.len
        let c := fwVerdict s.vault.minSvn img sigOk
        let got := readOk = true ∧ s.host.attached = true ∧ ∀ p ∈ pieces o.addr o.len, tblGet false s.hostPoison (p.1 / 64) = false
        let ends (t : State) (result : Nat) : Prop :=
          t.fld (hubKey 0x30) 8 8 = result ∧ t.boot = { s.boot with recovery := none }
        (¬ got → Gives (.recoveryWriteDone readOk sigOk flashOk) s fun t => ends t 1 ∧ t.flash = s.flash)
        ∧ (got → Gives (.recoveryWriteDone readOk sigOk flashOk) s fun t =>
            (c ≠ 0 → ends t c ∧ t.flash = s.flash)
            ∧ (c = 0 → flashOk = true → s.pldm.update = none → resets t 6 ∧ t.flash.fw = .programmed img)
            ∧ (c = 0 → flashOk = false → ends t 6 ∧ t.flash = { s.flash with fw := .broken })))
    ∧ (s.boot.powered = true → s.power.rideThrough = false → Gives .rideThrough s riding)
    ∧ (s.power.rideThrough = true →
        (s.power.rideFrom + 10000000 < s.time → Gives .rideThroughExpiry s off)
        ∧ (s.time ≤ s.power.rideFrom + 10000000 → Gives .rideThroughExpiry s fun t => t = s))
    ∧ (Gives .rideThroughEnd s fun t => t.power.rideThrough = false ∧ { t with power := s.power } = s)
    ∧ (∀ die < 27, s.boot.powered = true → Gives (.thermalTrip die) s fun t => kept t ∧ gone t ∧ t.boot.powered = false
        ∧ t.boot.tripped = true ∧ t.power.tripDie = die ∧ t.flag (hubKey 0x68) 14 = true
        ∧ t.out.head? = some (.pin "THERM_TRIP#" false))
    ∧ ((s.canFailover = true → Gives .signalBoxFailover s fun t => t.log.writer = 1
          ∧ t.log.next = max s.log.next s.nvm.logReserved ∧ t.vault = { s.vault with nextLeaf := s.vault.reserved }
          ∧ t.mem = s.mem ∧ t.regs = s.regs)
      ∧ (s.canFailover = false → Gives .signalBoxFailover s fun t => t = s))

/-- MIN_SVN is never lowered, and COMMIT_SVN raises it to the running image's SVN when that is greater (R476). -/
def Obligations.VersionFloor : Prop :=
  (∀ s t : State, step s = .next t → s.vault.minSvn ≤ t.vault.minSvn)
    ∧ ∀ (s : State) (v : Word), v.field 1 63 = 0 →
      (s.hubWrites = true → v.flag 0 = true → s.vault.minSvn < s.sec.fwSvn → Gives (.commitSvn v) s fun t =>
        t = { s with vault := { s.vault with minSvn := s.sec.fwSvn } })
      ∧ (s.hubWrites = false ∨ v.flag 0 = false ∨ s.sec.fwSvn ≤ s.vault.minSvn → Gives (.commitSvn v) s fun t => t = s)

/-- A write of part of a granule merges and keeps its poison; a whole-granule write replaces data and poison bit
(R228). -/
def Obligations.GranuleWrites : Prop :=
  ∀ (s : State) (l : LineId) (a : Nat) (data : List Byte) (poison : Bool), Writable s l a data.length →
    let t := (s.storePiece l a data poison).2
    (∀ i < data.length, seen t (a + i) = data.getD i 0) ∧ SeenOutside s t a data.length
    ∧ (data.length = 64 → (t.granule (a / 64)).2 = poison)
    ∧ (data.length ≠ 64 → (t.granule (a / 64)).2 = ((s.granule (a / 64)).2 || poison))

/-- An MX block with a NaN has scale 0xFF and zero elements; one of zeros has scale 0 and +0 elements; neither counts
anything (R94, R95). -/
def Obligations.MxBlocks : Prop :=
  ∀ (f : Fmt) (v : List Machine.Num), fmtIsMx f = true → v.length = 32 →
    let b := mxEncode f v
    ((∃ x ∈ v, x.isNan = true) → b.scale = 0xFF ∧ b.elems = List.replicate 32 0 ∧ b.sat = 0 ∧ b.flush = 0)
    ∧ ((∀ x ∈ v, x.isZero = true) → b.scale = 0x00 ∧ b.elems = List.replicate 32 0 ∧ b.sat = 0 ∧ b.flush = 0)
end

