-- ==== Sys2Proof/Laws/State.lean ====
section
/-!
SUPPORT. Each update of the state and each field: one lemma, true by definition.
-/
namespace Sys2Proof.Laws

open Sys2Proof.Machine

variable (s : State)

/-! What leaves `pending` alone. -/

@[simp] theorem setReg_pending (k : Nat) (v : Word) : (s.setReg k v).pending = s.pending := rfl
@[simp] theorem modLine_pending (k : Nat) (f : Line → Line) : (s.modLine k f).pending = s.pending := rfl
@[simp] theorem setFld_pending (k lo n v : Nat) : (s.setFld k lo n v).pending = s.pending := rfl
@[simp] theorem modPond_pending (k : Nat) (f : Pond → Pond) : (s.modPond k f).pending = s.pending := rfl
@[simp] theorem setFlag_pending (k i : Nat) (b : Bool) : (s.setFlag k i b).pending = s.pending := rfl
@[simp] theorem modGrid_pending (k : Nat) (f : GridSlot → GridSlot) : (s.modGrid k f).pending = s.pending := rfl
@[simp] theorem count_pending (k n : Nat) : (s.count k n).pending = s.pending := rfl
@[simp] theorem modBmem_pending (k : Nat) (f : BasinMem → BasinMem) : (s.modBmem k f).pending = s.pending := rfl
@[simp] theorem countFld_pending (k lo w n : Nat) : (s.countFld k lo w n).pending = s.pending := rfl
@[simp] theorem modBpow_pending (k : Nat) (f : BasinPower → BasinPower) : (s.modBpow k f).pending = s.pending := rfl
@[simp] theorem dropRegs_pending (p : Nat → Bool) : (s.dropRegs p).pending = s.pending := rfl
@[simp] theorem modChan_pending (k : Nat) (f : Channel → Channel) : (s.modChan k f).pending = s.pending := rfl
@[simp] theorem bump_pending : (s.bump).pending = s.pending := rfl
@[simp] theorem modQueue_pending (k : Nat) (f : AQueue → AQueue) : (s.modQueue k f).pending = s.pending := rfl
@[simp] theorem emit_pending (m : Msg) : (s.emit m).pending = s.pending := rfl
@[simp] theorem modPort_pending (k : Nat) (f : Port → Port) : (s.modPort k f).pending = s.pending := rfl
@[simp] theorem undefAt_pending (c : Undefined) (k : Scope) : (s.undefAt c k).pending = s.pending := rfl
@[simp] theorem modCtx_pending (k : Nat) (f : Ctx → Ctx) : (s.modCtx k f).pending = s.pending := rfl
@[simp] theorem undef_pending (c : Undefined) : (s.undef c).pending = s.pending := rfl
@[simp] theorem modCfl_pending (k : Nat) (f : CflEntry → CflEntry) : (s.modCfl k f).pending = s.pending := rfl
@[simp] theorem atPf0_pending : (s.atPf0).pending = s.pending := rfl
@[simp] theorem modHart_pending (k : Nat) (f : Core → Core) : (s.modHart k f).pending = s.pending := rfl
@[simp] theorem setLayerQ_pending (b : Nat) (q : List Layer) : (s.setLayerQ b q).pending = s.pending := rfl
@[simp] theorem modSpur_pending (k : Nat) (f : Spur → Spur) : (s.modSpur k f).pending = s.pending := rfl
@[simp] theorem setTlb_pending (b : Nat) (q : List TlbEntry) : (s.setTlb b q).pending = s.pending := rfl
@[simp] theorem modDie_pending (k : Nat) (f : Die → Die) : (s.modDie k f).pending = s.pending := rfl
@[simp] theorem modHealth_pending (k : Nat) (f : Health → Health) : (s.modHealth k f).pending = s.pending := rfl
@[simp] theorem undefIf_pending (b : Bool) (c : Undefined) : (s.undefIf b c).pending = s.pending := by cases b <;> rfl
@[simp] theorem noted_pending (v : Via) : (s.noted v).pending = s.pending := by unfold State.noted; split <;> rfl
@[simp] theorem lowBits_pending (a n : Nat) : (s.lowBits a n).2.pending = s.pending := by unfold State.lowBits; split <;> rfl

/-! What leaves `time` alone. -/

@[simp] theorem setReg_time (k : Nat) (v : Word) : (s.setReg k v).time = s.time := rfl
@[simp] theorem modLine_time (k : Nat) (f : Line → Line) : (s.modLine k f).time = s.time := rfl
@[simp] theorem setFld_time (k lo n v : Nat) : (s.setFld k lo n v).time = s.time := rfl
@[simp] theorem modPond_time (k : Nat) (f : Pond → Pond) : (s.modPond k f).time = s.time := rfl
@[simp] theorem setFlag_time (k i : Nat) (b : Bool) : (s.setFlag k i b).time = s.time := rfl
@[simp] theorem modGrid_time (k : Nat) (f : GridSlot → GridSlot) : (s.modGrid k f).time = s.time := rfl
@[simp] theorem count_time (k n : Nat) : (s.count k n).time = s.time := rfl
@[simp] theorem modBmem_time (k : Nat) (f : BasinMem → BasinMem) : (s.modBmem k f).time = s.time := rfl
@[simp] theorem countFld_time (k lo w n : Nat) : (s.countFld k lo w n).time = s.time := rfl
@[simp] theorem modBpow_time (k : Nat) (f : BasinPower → BasinPower) : (s.modBpow k f).time = s.time := rfl
@[simp] theorem dropRegs_time (p : Nat → Bool) : (s.dropRegs p).time = s.time := rfl
@[simp] theorem modChan_time (k : Nat) (f : Channel → Channel) : (s.modChan k f).time = s.time := rfl
@[simp] theorem bump_time : (s.bump).time = s.time := rfl
@[simp] theorem modQueue_time (k : Nat) (f : AQueue → AQueue) : (s.modQueue k f).time = s.time := rfl
@[simp] theorem emit_time (m : Msg) : (s.emit m).time = s.time := rfl
@[simp] theorem modPort_time (k : Nat) (f : Port → Port) : (s.modPort k f).time = s.time := rfl
@[simp] theorem undefAt_time (c : Undefined) (k : Scope) : (s.undefAt c k).time = s.time := rfl
@[simp] theorem modCtx_time (k : Nat) (f : Ctx → Ctx) : (s.modCtx k f).time = s.time := rfl
@[simp] theorem undef_time (c : Undefined) : (s.undef c).time = s.time := rfl
@[simp] theorem modCfl_time (k : Nat) (f : CflEntry → CflEntry) : (s.modCfl k f).time = s.time := rfl
@[simp] theorem atPf0_time : (s.atPf0).time = s.time := rfl
@[simp] theorem modHart_time (k : Nat) (f : Core → Core) : (s.modHart k f).time = s.time := rfl
@[simp] theorem setLayerQ_time (b : Nat) (q : List Layer) : (s.setLayerQ b q).time = s.time := rfl
@[simp] theorem modSpur_time (k : Nat) (f : Spur → Spur) : (s.modSpur k f).time = s.time := rfl
@[simp] theorem setTlb_time (b : Nat) (q : List TlbEntry) : (s.setTlb b q).time = s.time := rfl
@[simp] theorem modDie_time (k : Nat) (f : Die → Die) : (s.modDie k f).time = s.time := rfl
@[simp] theorem modHealth_time (k : Nat) (f : Health → Health) : (s.modHealth k f).time = s.time := rfl
@[simp] theorem undefIf_time (b : Bool) (c : Undefined) : (s.undefIf b c).time = s.time := by cases b <;> rfl
@[simp] theorem noted_time (v : Via) : (s.noted v).time = s.time := by unfold State.noted; split <;> rfl
@[simp] theorem lowBits_time (a n : Nat) : (s.lowBits a n).2.time = s.time := by unfold State.lowBits; split <;> rfl

/-! What leaves `vault` alone. -/

@[simp] theorem setReg_vault (k : Nat) (v : Word) : (s.setReg k v).vault = s.vault := rfl
@[simp] theorem modLine_vault (k : Nat) (f : Line → Line) : (s.modLine k f).vault = s.vault := rfl
@[simp] theorem setFld_vault (k lo n v : Nat) : (s.setFld k lo n v).vault = s.vault := rfl
@[simp] theorem modPond_vault (k : Nat) (f : Pond → Pond) : (s.modPond k f).vault = s.vault := rfl
@[simp] theorem setFlag_vault (k i : Nat) (b : Bool) : (s.setFlag k i b).vault = s.vault := rfl
@[simp] theorem modGrid_vault (k : Nat) (f : GridSlot → GridSlot) : (s.modGrid k f).vault = s.vault := rfl
@[simp] theorem count_vault (k n : Nat) : (s.count k n).vault = s.vault := rfl
@[simp] theorem modBmem_vault (k : Nat) (f : BasinMem → BasinMem) : (s.modBmem k f).vault = s.vault := rfl
@[simp] theorem countFld_vault (k lo w n : Nat) : (s.countFld k lo w n).vault = s.vault := rfl
@[simp] theorem modBpow_vault (k : Nat) (f : BasinPower → BasinPower) : (s.modBpow k f).vault = s.vault := rfl
@[simp] theorem dropRegs_vault (p : Nat → Bool) : (s.dropRegs p).vault = s.vault := rfl
@[simp] theorem modChan_vault (k : Nat) (f : Channel → Channel) : (s.modChan k f).vault = s.vault := rfl
@[simp] theorem bump_vault : (s.bump).vault = s.vault := rfl
@[simp] theorem modQueue_vault (k : Nat) (f : AQueue → AQueue) : (s.modQueue k f).vault = s.vault := rfl
@[simp] theorem emit_vault (m : Msg) : (s.emit m).vault = s.vault := rfl
@[simp] theorem modPort_vault (k : Nat) (f : Port → Port) : (s.modPort k f).vault = s.vault := rfl
@[simp] theorem undefAt_vault (c : Undefined) (k : Scope) : (s.undefAt c k).vault = s.vault := rfl
@[simp] theorem modCtx_vault (k : Nat) (f : Ctx → Ctx) : (s.modCtx k f).vault = s.vault := rfl
@[simp] theorem undef_vault (c : Undefined) : (s.undef c).vault = s.vault := rfl
@[simp] theorem modCfl_vault (k : Nat) (f : CflEntry → CflEntry) : (s.modCfl k f).vault = s.vault := rfl
@[simp] theorem atPf0_vault : (s.atPf0).vault = s.vault := rfl
@[simp] theorem modHart_vault (k : Nat) (f : Core → Core) : (s.modHart k f).vault = s.vault := rfl
@[simp] theorem setLayerQ_vault (b : Nat) (q : List Layer) : (s.setLayerQ b q).vault = s.vault := rfl
@[simp] theorem modSpur_vault (k : Nat) (f : Spur → Spur) : (s.modSpur k f).vault = s.vault := rfl
@[simp] theorem setTlb_vault (b : Nat) (q : List TlbEntry) : (s.setTlb b q).vault = s.vault := rfl
@[simp] theorem modDie_vault (k : Nat) (f : Die → Die) : (s.modDie k f).vault = s.vault := rfl
@[simp] theorem modHealth_vault (k : Nat) (f : Health → Health) : (s.modHealth k f).vault = s.vault := rfl
@[simp] theorem undefIf_vault (b : Bool) (c : Undefined) : (s.undefIf b c).vault = s.vault := by cases b <;> rfl
@[simp] theorem noted_vault (v : Via) : (s.noted v).vault = s.vault := by unfold State.noted; split <;> rfl
@[simp] theorem lowBits_vault (a n : Nat) : (s.lowBits a n).2.vault = s.vault := by unfold State.lowBits; split <;> rfl

/-! What leaves `freeCtr` alone. -/

@[simp] theorem setReg_freeCtr (k : Nat) (v : Word) : (s.setReg k v).freeCtr = s.freeCtr := rfl
@[simp] theorem modLine_freeCtr (k : Nat) (f : Line → Line) : (s.modLine k f).freeCtr = s.freeCtr := rfl
@[simp] theorem setFld_freeCtr (k lo n v : Nat) : (s.setFld k lo n v).freeCtr = s.freeCtr := rfl
@[simp] theorem modPond_freeCtr (k : Nat) (f : Pond → Pond) : (s.modPond k f).freeCtr = s.freeCtr := rfl
@[simp] theorem setFlag_freeCtr (k i : Nat) (b : Bool) : (s.setFlag k i b).freeCtr = s.freeCtr := rfl
@[simp] theorem modGrid_freeCtr (k : Nat) (f : GridSlot → GridSlot) : (s.modGrid k f).freeCtr = s.freeCtr := rfl
@[simp] theorem count_freeCtr (k n : Nat) : (s.count k n).freeCtr = s.freeCtr := rfl
@[simp] theorem modBmem_freeCtr (k : Nat) (f : BasinMem → BasinMem) : (s.modBmem k f).freeCtr = s.freeCtr := rfl
@[simp] theorem countFld_freeCtr (k lo w n : Nat) : (s.countFld k lo w n).freeCtr = s.freeCtr := rfl
@[simp] theorem modBpow_freeCtr (k : Nat) (f : BasinPower → BasinPower) : (s.modBpow k f).freeCtr = s.freeCtr := rfl
@[simp] theorem dropRegs_freeCtr (p : Nat → Bool) : (s.dropRegs p).freeCtr = s.freeCtr := rfl
@[simp] theorem modChan_freeCtr (k : Nat) (f : Channel → Channel) : (s.modChan k f).freeCtr = s.freeCtr := rfl
@[simp] theorem modQueue_freeCtr (k : Nat) (f : AQueue → AQueue) : (s.modQueue k f).freeCtr = s.freeCtr := rfl
@[simp] theorem emit_freeCtr (m : Msg) : (s.emit m).freeCtr = s.freeCtr := rfl
@[simp] theorem modPort_freeCtr (k : Nat) (f : Port → Port) : (s.modPort k f).freeCtr = s.freeCtr := rfl
@[simp] theorem undefAt_freeCtr (c : Undefined) (k : Scope) : (s.undefAt c k).freeCtr = s.freeCtr := rfl
@[simp] theorem modCtx_freeCtr (k : Nat) (f : Ctx → Ctx) : (s.modCtx k f).freeCtr = s.freeCtr := rfl
@[simp] theorem undef_freeCtr (c : Undefined) : (s.undef c).freeCtr = s.freeCtr := rfl
@[simp] theorem modCfl_freeCtr (k : Nat) (f : CflEntry → CflEntry) : (s.modCfl k f).freeCtr = s.freeCtr := rfl
@[simp] theorem atPf0_freeCtr : (s.atPf0).freeCtr = s.freeCtr := rfl
@[simp] theorem modHart_freeCtr (k : Nat) (f : Core → Core) : (s.modHart k f).freeCtr = s.freeCtr := rfl
@[simp] theorem setLayerQ_freeCtr (b : Nat) (q : List Layer) : (s.setLayerQ b q).freeCtr = s.freeCtr := rfl
@[simp] theorem modSpur_freeCtr (k : Nat) (f : Spur → Spur) : (s.modSpur k f).freeCtr = s.freeCtr := rfl
@[simp] theorem setTlb_freeCtr (b : Nat) (q : List TlbEntry) : (s.setTlb b q).freeCtr = s.freeCtr := rfl
@[simp] theorem modDie_freeCtr (k : Nat) (f : Die → Die) : (s.modDie k f).freeCtr = s.freeCtr := rfl
@[simp] theorem modHealth_freeCtr (k : Nat) (f : Health → Health) : (s.modHealth k f).freeCtr = s.freeCtr := rfl
@[simp] theorem undefIf_freeCtr (b : Bool) (c : Undefined) : (s.undefIf b c).freeCtr = s.freeCtr := by cases b <;> rfl
@[simp] theorem noted_freeCtr (v : Via) : (s.noted v).freeCtr = s.freeCtr := by unfold State.noted; split <;> rfl

/-! What leaves `misuse` alone. -/

@[simp] theorem setReg_misuse (k : Nat) (v : Word) : (s.setReg k v).misuse = s.misuse := rfl
@[simp] theorem modLine_misuse (k : Nat) (f : Line → Line) : (s.modLine k f).misuse = s.misuse := rfl
@[simp] theorem setFld_misuse (k lo n v : Nat) : (s.setFld k lo n v).misuse = s.misuse := rfl
@[simp] theorem modPond_misuse (k : Nat) (f : Pond → Pond) : (s.modPond k f).misuse = s.misuse := rfl
@[simp] theorem setFlag_misuse (k i : Nat) (b : Bool) : (s.setFlag k i b).misuse = s.misuse := rfl
@[simp] theorem modGrid_misuse (k : Nat) (f : GridSlot → GridSlot) : (s.modGrid k f).misuse = s.misuse := rfl
@[simp] theorem count_misuse (k n : Nat) : (s.count k n).misuse = s.misuse := rfl
@[simp] theorem modBmem_misuse (k : Nat) (f : BasinMem → BasinMem) : (s.modBmem k f).misuse = s.misuse := rfl
@[simp] theorem countFld_misuse (k lo w n : Nat) : (s.countFld k lo w n).misuse = s.misuse := rfl
@[simp] theorem modBpow_misuse (k : Nat) (f : BasinPower → BasinPower) : (s.modBpow k f).misuse = s.misuse := rfl
@[simp] theorem dropRegs_misuse (p : Nat → Bool) : (s.dropRegs p).misuse = s.misuse := rfl
@[simp] theorem modChan_misuse (k : Nat) (f : Channel → Channel) : (s.modChan k f).misuse = s.misuse := rfl
@[simp] theorem bump_misuse : (s.bump).misuse = s.misuse := rfl
@[simp] theorem modQueue_misuse (k : Nat) (f : AQueue → AQueue) : (s.modQueue k f).misuse = s.misuse := rfl
@[simp] theorem emit_misuse (m : Msg) : (s.emit m).misuse = s.misuse := rfl
@[simp] theorem modPort_misuse (k : Nat) (f : Port → Port) : (s.modPort k f).misuse = s.misuse := rfl
@[simp] theorem modCtx_misuse (k : Nat) (f : Ctx → Ctx) : (s.modCtx k f).misuse = s.misuse := rfl
@[simp] theorem modCfl_misuse (k : Nat) (f : CflEntry → CflEntry) : (s.modCfl k f).misuse = s.misuse := rfl
@[simp] theorem modHart_misuse (k : Nat) (f : Core → Core) : (s.modHart k f).misuse = s.misuse := rfl
@[simp] theorem setLayerQ_misuse (b : Nat) (q : List Layer) : (s.setLayerQ b q).misuse = s.misuse := rfl
@[simp] theorem modSpur_misuse (k : Nat) (f : Spur → Spur) : (s.modSpur k f).misuse = s.misuse := rfl
@[simp] theorem setTlb_misuse (b : Nat) (q : List TlbEntry) : (s.setTlb b q).misuse = s.misuse := rfl
@[simp] theorem modDie_misuse (k : Nat) (f : Die → Die) : (s.modDie k f).misuse = s.misuse := rfl
@[simp] theorem modHealth_misuse (k : Nat) (f : Health → Health) : (s.modHealth k f).misuse = s.misuse := rfl
@[simp] theorem lowBits_misuse (a n : Nat) : (s.lowBits a n).2.misuse = s.misuse := by unfold State.lowBits; split <;> rfl

/-! What leaves `regs` alone. -/

@[simp] theorem modLine_regs (k : Nat) (f : Line → Line) : (s.modLine k f).regs = s.regs := rfl
@[simp] theorem modPond_regs (k : Nat) (f : Pond → Pond) : (s.modPond k f).regs = s.regs := rfl
@[simp] theorem modGrid_regs (k : Nat) (f : GridSlot → GridSlot) : (s.modGrid k f).regs = s.regs := rfl
@[simp] theorem modBmem_regs (k : Nat) (f : BasinMem → BasinMem) : (s.modBmem k f).regs = s.regs := rfl
@[simp] theorem modBpow_regs (k : Nat) (f : BasinPower → BasinPower) : (s.modBpow k f).regs = s.regs := rfl
@[simp] theorem modChan_regs (k : Nat) (f : Channel → Channel) : (s.modChan k f).regs = s.regs := rfl
@[simp] theorem bump_regs : (s.bump).regs = s.regs := rfl
@[simp] theorem modQueue_regs (k : Nat) (f : AQueue → AQueue) : (s.modQueue k f).regs = s.regs := rfl
@[simp] theorem emit_regs (m : Msg) : (s.emit m).regs = s.regs := rfl
@[simp] theorem modPort_regs (k : Nat) (f : Port → Port) : (s.modPort k f).regs = s.regs := rfl
@[simp] theorem undefAt_regs (c : Undefined) (k : Scope) : (s.undefAt c k).regs = s.regs := rfl
@[simp] theorem modCtx_regs (k : Nat) (f : Ctx → Ctx) : (s.modCtx k f).regs = s.regs := rfl
@[simp] theorem undef_regs (c : Undefined) : (s.undef c).regs = s.regs := rfl
@[simp] theorem modCfl_regs (k : Nat) (f : CflEntry → CflEntry) : (s.modCfl k f).regs = s.regs := rfl
@[simp] theorem atPf0_regs : (s.atPf0).regs = s.regs := rfl
@[simp] theorem modHart_regs (k : Nat) (f : Core → Core) : (s.modHart k f).regs = s.regs := rfl
@[simp] theorem setLayerQ_regs (b : Nat) (q : List Layer) : (s.setLayerQ b q).regs = s.regs := rfl
@[simp] theorem modSpur_regs (k : Nat) (f : Spur → Spur) : (s.modSpur k f).regs = s.regs := rfl
@[simp] theorem setTlb_regs (b : Nat) (q : List TlbEntry) : (s.setTlb b q).regs = s.regs := rfl
@[simp] theorem modDie_regs (k : Nat) (f : Die → Die) : (s.modDie k f).regs = s.regs := rfl
@[simp] theorem modHealth_regs (k : Nat) (f : Health → Health) : (s.modHealth k f).regs = s.regs := rfl
@[simp] theorem undefIf_regs (b : Bool) (c : Undefined) : (s.undefIf b c).regs = s.regs := by cases b <;> rfl
@[simp] theorem noted_regs (v : Via) : (s.noted v).regs = s.regs := by unfold State.noted; split <;> rfl
@[simp] theorem lowBits_regs (a n : Nat) : (s.lowBits a n).2.regs = s.regs := by unfold State.lowBits; split <;> rfl

/-! What leaves `out` alone. -/

@[simp] theorem setReg_out (k : Nat) (v : Word) : (s.setReg k v).out = s.out := rfl
@[simp] theorem modLine_out (k : Nat) (f : Line → Line) : (s.modLine k f).out = s.out := rfl
@[simp] theorem setFld_out (k lo n v : Nat) : (s.setFld k lo n v).out = s.out := rfl
@[simp] theorem modPond_out (k : Nat) (f : Pond → Pond) : (s.modPond k f).out = s.out := rfl
@[simp] theorem setFlag_out (k i : Nat) (b : Bool) : (s.setFlag k i b).out = s.out := rfl
@[simp] theorem modGrid_out (k : Nat) (f : GridSlot → GridSlot) : (s.modGrid k f).out = s.out := rfl
@[simp] theorem count_out (k n : Nat) : (s.count k n).out = s.out := rfl
@[simp] theorem modBmem_out (k : Nat) (f : BasinMem → BasinMem) : (s.modBmem k f).out = s.out := rfl
@[simp] theorem countFld_out (k lo w n : Nat) : (s.countFld k lo w n).out = s.out := rfl
@[simp] theorem modBpow_out (k : Nat) (f : BasinPower → BasinPower) : (s.modBpow k f).out = s.out := rfl
@[simp] theorem dropRegs_out (p : Nat → Bool) : (s.dropRegs p).out = s.out := rfl
@[simp] theorem modChan_out (k : Nat) (f : Channel → Channel) : (s.modChan k f).out = s.out := rfl
@[simp] theorem bump_out : (s.bump).out = s.out := rfl
@[simp] theorem modQueue_out (k : Nat) (f : AQueue → AQueue) : (s.modQueue k f).out = s.out := rfl
@[simp] theorem modPort_out (k : Nat) (f : Port → Port) : (s.modPort k f).out = s.out := rfl
@[simp] theorem undefAt_out (c : Undefined) (k : Scope) : (s.undefAt c k).out = s.out := rfl
@[simp] theorem modCtx_out (k : Nat) (f : Ctx → Ctx) : (s.modCtx k f).out = s.out := rfl
@[simp] theorem undef_out (c : Undefined) : (s.undef c).out = s.out := rfl
@[simp] theorem modCfl_out (k : Nat) (f : CflEntry → CflEntry) : (s.modCfl k f).out = s.out := rfl
@[simp] theorem atPf0_out : (s.atPf0).out = s.out := rfl
@[simp] theorem modHart_out (k : Nat) (f : Core → Core) : (s.modHart k f).out = s.out := rfl
@[simp] theorem setLayerQ_out (b : Nat) (q : List Layer) : (s.setLayerQ b q).out = s.out := rfl
@[simp] theorem modSpur_out (k : Nat) (f : Spur → Spur) : (s.modSpur k f).out = s.out := rfl
@[simp] theorem setTlb_out (b : Nat) (q : List TlbEntry) : (s.setTlb b q).out = s.out := rfl
@[simp] theorem modDie_out (k : Nat) (f : Die → Die) : (s.modDie k f).out = s.out := rfl
@[simp] theorem modHealth_out (k : Nat) (f : Health → Health) : (s.modHealth k f).out = s.out := rfl
@[simp] theorem undefIf_out (b : Bool) (c : Undefined) : (s.undefIf b c).out = s.out := by cases b <;> rfl
@[simp] theorem noted_out (v : Via) : (s.noted v).out = s.out := by unfold State.noted; split <;> rfl
@[simp] theorem lowBits_out (a n : Nat) : (s.lowBits a n).2.out = s.out := by unfold State.lowBits; split <;> rfl

/-! What leaves `mem` alone. -/

@[simp] theorem setReg_mem (k : Nat) (v : Word) : (s.setReg k v).mem = s.mem := rfl
@[simp] theorem modLine_mem (k : Nat) (f : Line → Line) : (s.modLine k f).mem = s.mem := rfl
@[simp] theorem setFld_mem (k lo n v : Nat) : (s.setFld k lo n v).mem = s.mem := rfl
@[simp] theorem modPond_mem (k : Nat) (f : Pond → Pond) : (s.modPond k f).mem = s.mem := rfl
@[simp] theorem setFlag_mem (k i : Nat) (b : Bool) : (s.setFlag k i b).mem = s.mem := rfl
@[simp] theorem modGrid_mem (k : Nat) (f : GridSlot → GridSlot) : (s.modGrid k f).mem = s.mem := rfl
@[simp] theorem count_mem (k n : Nat) : (s.count k n).mem = s.mem := rfl
@[simp] theorem modBmem_mem (k : Nat) (f : BasinMem → BasinMem) : (s.modBmem k f).mem = s.mem := rfl
@[simp] theorem countFld_mem (k lo w n : Nat) : (s.countFld k lo w n).mem = s.mem := rfl
@[simp] theorem modBpow_mem (k : Nat) (f : BasinPower → BasinPower) : (s.modBpow k f).mem = s.mem := rfl
@[simp] theorem dropRegs_mem (p : Nat → Bool) : (s.dropRegs p).mem = s.mem := rfl
@[simp] theorem modChan_mem (k : Nat) (f : Channel → Channel) : (s.modChan k f).mem = s.mem := rfl
@[simp] theorem bump_mem : (s.bump).mem = s.mem := rfl
@[simp] theorem modQueue_mem (k : Nat) (f : AQueue → AQueue) : (s.modQueue k f).mem = s.mem := rfl
@[simp] theorem emit_mem (m : Msg) : (s.emit m).mem = s.mem := rfl
@[simp] theorem modPort_mem (k : Nat) (f : Port → Port) : (s.modPort k f).mem = s.mem := rfl
@[simp] theorem undefAt_mem (c : Undefined) (k : Scope) : (s.undefAt c k).mem = s.mem := rfl
@[simp] theorem modCtx_mem (k : Nat) (f : Ctx → Ctx) : (s.modCtx k f).mem = s.mem := rfl
@[simp] theorem undef_mem (c : Undefined) : (s.undef c).mem = s.mem := rfl
@[simp] theorem modCfl_mem (k : Nat) (f : CflEntry → CflEntry) : (s.modCfl k f).mem = s.mem := rfl
@[simp] theorem atPf0_mem : (s.atPf0).mem = s.mem := rfl
@[simp] theorem modHart_mem (k : Nat) (f : Core → Core) : (s.modHart k f).mem = s.mem := rfl
@[simp] theorem setLayerQ_mem (b : Nat) (q : List Layer) : (s.setLayerQ b q).mem = s.mem := rfl
@[simp] theorem modSpur_mem (k : Nat) (f : Spur → Spur) : (s.modSpur k f).mem = s.mem := rfl
@[simp] theorem setTlb_mem (b : Nat) (q : List TlbEntry) : (s.setTlb b q).mem = s.mem := rfl
@[simp] theorem modDie_mem (k : Nat) (f : Die → Die) : (s.modDie k f).mem = s.mem := rfl
@[simp] theorem modHealth_mem (k : Nat) (f : Health → Health) : (s.modHealth k f).mem = s.mem := rfl
@[simp] theorem undefIf_mem (b : Bool) (c : Undefined) : (s.undefIf b c).mem = s.mem := by cases b <;> rfl
@[simp] theorem noted_mem (v : Via) : (s.noted v).mem = s.mem := by unfold State.noted; split <;> rfl
@[simp] theorem lowBits_mem (a n : Nat) : (s.lowBits a n).2.mem = s.mem := by unfold State.lowBits; split <;> rfl

/-! What leaves `poison` alone. -/

@[simp] theorem setReg_poison (k : Nat) (v : Word) : (s.setReg k v).poison = s.poison := rfl
@[simp] theorem modLine_poison (k : Nat) (f : Line → Line) : (s.modLine k f).poison = s.poison := rfl
@[simp] theorem setFld_poison (k lo n v : Nat) : (s.setFld k lo n v).poison = s.poison := rfl
@[simp] theorem modPond_poison (k : Nat) (f : Pond → Pond) : (s.modPond k f).poison = s.poison := rfl
@[simp] theorem setFlag_poison (k i : Nat) (b : Bool) : (s.setFlag k i b).poison = s.poison := rfl
@[simp] theorem modGrid_poison (k : Nat) (f : GridSlot → GridSlot) : (s.modGrid k f).poison = s.poison := rfl
@[simp] theorem count_poison (k n : Nat) : (s.count k n).poison = s.poison := rfl
@[simp] theorem modBmem_poison (k : Nat) (f : BasinMem → BasinMem) : (s.modBmem k f).poison = s.poison := rfl
@[simp] theorem countFld_poison (k lo w n : Nat) : (s.countFld k lo w n).poison = s.poison := rfl
@[simp] theorem modBpow_poison (k : Nat) (f : BasinPower → BasinPower) : (s.modBpow k f).poison = s.poison := rfl
@[simp] theorem dropRegs_poison (p : Nat → Bool) : (s.dropRegs p).poison = s.poison := rfl
@[simp] theorem modChan_poison (k : Nat) (f : Channel → Channel) : (s.modChan k f).poison = s.poison := rfl
@[simp] theorem bump_poison : (s.bump).poison = s.poison := rfl
@[simp] theorem modQueue_poison (k : Nat) (f : AQueue → AQueue) : (s.modQueue k f).poison = s.poison := rfl
@[simp] theorem emit_poison (m : Msg) : (s.emit m).poison = s.poison := rfl
@[simp] theorem modPort_poison (k : Nat) (f : Port → Port) : (s.modPort k f).poison = s.poison := rfl
@[simp] theorem undefAt_poison (c : Undefined) (k : Scope) : (s.undefAt c k).poison = s.poison := rfl
@[simp] theorem modCtx_poison (k : Nat) (f : Ctx → Ctx) : (s.modCtx k f).poison = s.poison := rfl
@[simp] theorem undef_poison (c : Undefined) : (s.undef c).poison = s.poison := rfl
@[simp] theorem modCfl_poison (k : Nat) (f : CflEntry → CflEntry) : (s.modCfl k f).poison = s.poison := rfl
@[simp] theorem atPf0_poison : (s.atPf0).poison = s.poison := rfl
@[simp] theorem modHart_poison (k : Nat) (f : Core → Core) : (s.modHart k f).poison = s.poison := rfl
@[simp] theorem setLayerQ_poison (b : Nat) (q : List Layer) : (s.setLayerQ b q).poison = s.poison := rfl
@[simp] theorem modSpur_poison (k : Nat) (f : Spur → Spur) : (s.modSpur k f).poison = s.poison := rfl
@[simp] theorem setTlb_poison (b : Nat) (q : List TlbEntry) : (s.setTlb b q).poison = s.poison := rfl
@[simp] theorem modDie_poison (k : Nat) (f : Die → Die) : (s.modDie k f).poison = s.poison := rfl
@[simp] theorem modHealth_poison (k : Nat) (f : Health → Health) : (s.modHealth k f).poison = s.poison := rfl
@[simp] theorem undefIf_poison (b : Bool) (c : Undefined) : (s.undefIf b c).poison = s.poison := by cases b <;> rfl
@[simp] theorem noted_poison (v : Via) : (s.noted v).poison = s.poison := by unfold State.noted; split <;> rfl
@[simp] theorem lowBits_poison (a n : Nat) : (s.lowBits a n).2.poison = s.poison := by unfold State.lowBits; split <;> rfl

/-! What leaves `errs` alone. -/

@[simp] theorem setReg_errs (k : Nat) (v : Word) : (s.setReg k v).errs = s.errs := rfl
@[simp] theorem modLine_errs (k : Nat) (f : Line → Line) : (s.modLine k f).errs = s.errs := rfl
@[simp] theorem setFld_errs (k lo n v : Nat) : (s.setFld k lo n v).errs = s.errs := rfl
@[simp] theorem modPond_errs (k : Nat) (f : Pond → Pond) : (s.modPond k f).errs = s.errs := rfl
@[simp] theorem setFlag_errs (k i : Nat) (b : Bool) : (s.setFlag k i b).errs = s.errs := rfl
@[simp] theorem modGrid_errs (k : Nat) (f : GridSlot → GridSlot) : (s.modGrid k f).errs = s.errs := rfl
@[simp] theorem count_errs (k n : Nat) : (s.count k n).errs = s.errs := rfl
@[simp] theorem modBmem_errs (k : Nat) (f : BasinMem → BasinMem) : (s.modBmem k f).errs = s.errs := rfl
@[simp] theorem countFld_errs (k lo w n : Nat) : (s.countFld k lo w n).errs = s.errs := rfl
@[simp] theorem modBpow_errs (k : Nat) (f : BasinPower → BasinPower) : (s.modBpow k f).errs = s.errs := rfl
@[simp] theorem dropRegs_errs (p : Nat → Bool) : (s.dropRegs p).errs = s.errs := rfl
@[simp] theorem modChan_errs (k : Nat) (f : Channel → Channel) : (s.modChan k f).errs = s.errs := rfl
@[simp] theorem bump_errs : (s.bump).errs = s.errs := rfl
@[simp] theorem modQueue_errs (k : Nat) (f : AQueue → AQueue) : (s.modQueue k f).errs = s.errs := rfl
@[simp] theorem emit_errs (m : Msg) : (s.emit m).errs = s.errs := rfl
@[simp] theorem modPort_errs (k : Nat) (f : Port → Port) : (s.modPort k f).errs = s.errs := rfl
@[simp] theorem undefAt_errs (c : Undefined) (k : Scope) : (s.undefAt c k).errs = s.errs := rfl
@[simp] theorem modCtx_errs (k : Nat) (f : Ctx → Ctx) : (s.modCtx k f).errs = s.errs := rfl
@[simp] theorem undef_errs (c : Undefined) : (s.undef c).errs = s.errs := rfl
@[simp] theorem modCfl_errs (k : Nat) (f : CflEntry → CflEntry) : (s.modCfl k f).errs = s.errs := rfl
@[simp] theorem atPf0_errs : (s.atPf0).errs = s.errs := rfl
@[simp] theorem modHart_errs (k : Nat) (f : Core → Core) : (s.modHart k f).errs = s.errs := rfl
@[simp] theorem setLayerQ_errs (b : Nat) (q : List Layer) : (s.setLayerQ b q).errs = s.errs := rfl
@[simp] theorem modSpur_errs (k : Nat) (f : Spur → Spur) : (s.modSpur k f).errs = s.errs := rfl
@[simp] theorem setTlb_errs (b : Nat) (q : List TlbEntry) : (s.setTlb b q).errs = s.errs := rfl
@[simp] theorem modDie_errs (k : Nat) (f : Die → Die) : (s.modDie k f).errs = s.errs := rfl
@[simp] theorem modHealth_errs (k : Nat) (f : Health → Health) : (s.modHealth k f).errs = s.errs := rfl
@[simp] theorem undefIf_errs (b : Bool) (c : Undefined) : (s.undefIf b c).errs = s.errs := by cases b <;> rfl
@[simp] theorem noted_errs (v : Via) : (s.noted v).errs = s.errs := by unfold State.noted; split <;> rfl
@[simp] theorem lowBits_errs (a n : Nat) : (s.lowBits a n).2.errs = s.errs := by unfold State.lowBits; split <;> rfl

/-! What leaves `chkDiff` alone. -/

@[simp] theorem setReg_chkDiff (k : Nat) (v : Word) : (s.setReg k v).chkDiff = s.chkDiff := rfl
@[simp] theorem modLine_chkDiff (k : Nat) (f : Line → Line) : (s.modLine k f).chkDiff = s.chkDiff := rfl
@[simp] theorem setFld_chkDiff (k lo n v : Nat) : (s.setFld k lo n v).chkDiff = s.chkDiff := rfl
@[simp] theorem modPond_chkDiff (k : Nat) (f : Pond → Pond) : (s.modPond k f).chkDiff = s.chkDiff := rfl
@[simp] theorem setFlag_chkDiff (k i : Nat) (b : Bool) : (s.setFlag k i b).chkDiff = s.chkDiff := rfl
@[simp] theorem modGrid_chkDiff (k : Nat) (f : GridSlot → GridSlot) : (s.modGrid k f).chkDiff = s.chkDiff := rfl
@[simp] theorem count_chkDiff (k n : Nat) : (s.count k n).chkDiff = s.chkDiff := rfl
@[simp] theorem modBmem_chkDiff (k : Nat) (f : BasinMem → BasinMem) : (s.modBmem k f).chkDiff = s.chkDiff := rfl
@[simp] theorem countFld_chkDiff (k lo w n : Nat) : (s.countFld k lo w n).chkDiff = s.chkDiff := rfl
@[simp] theorem modBpow_chkDiff (k : Nat) (f : BasinPower → BasinPower) : (s.modBpow k f).chkDiff = s.chkDiff := rfl
@[simp] theorem dropRegs_chkDiff (p : Nat → Bool) : (s.dropRegs p).chkDiff = s.chkDiff := rfl
@[simp] theorem modChan_chkDiff (k : Nat) (f : Channel → Channel) : (s.modChan k f).chkDiff = s.chkDiff := rfl
@[simp] theorem bump_chkDiff : (s.bump).chkDiff = s.chkDiff := rfl
@[simp] theorem modQueue_chkDiff (k : Nat) (f : AQueue → AQueue) : (s.modQueue k f).chkDiff = s.chkDiff := rfl
@[simp] theorem emit_chkDiff (m : Msg) : (s.emit m).chkDiff = s.chkDiff := rfl
@[simp] theorem modPort_chkDiff (k : Nat) (f : Port → Port) : (s.modPort k f).chkDiff = s.chkDiff := rfl
@[simp] theorem undefAt_chkDiff (c : Undefined) (k : Scope) : (s.undefAt c k).chkDiff = s.chkDiff := rfl
@[simp] theorem modCtx_chkDiff (k : Nat) (f : Ctx → Ctx) : (s.modCtx k f).chkDiff = s.chkDiff := rfl
@[simp] theorem undef_chkDiff (c : Undefined) : (s.undef c).chkDiff = s.chkDiff := rfl
@[simp] theorem modCfl_chkDiff (k : Nat) (f : CflEntry → CflEntry) : (s.modCfl k f).chkDiff = s.chkDiff := rfl
@[simp] theorem atPf0_chkDiff : (s.atPf0).chkDiff = s.chkDiff := rfl
@[simp] theorem modHart_chkDiff (k : Nat) (f : Core → Core) : (s.modHart k f).chkDiff = s.chkDiff := rfl
@[simp] theorem setLayerQ_chkDiff (b : Nat) (q : List Layer) : (s.setLayerQ b q).chkDiff = s.chkDiff := rfl
@[simp] theorem modSpur_chkDiff (k : Nat) (f : Spur → Spur) : (s.modSpur k f).chkDiff = s.chkDiff := rfl
@[simp] theorem setTlb_chkDiff (b : Nat) (q : List TlbEntry) : (s.setTlb b q).chkDiff = s.chkDiff := rfl
@[simp] theorem modDie_chkDiff (k : Nat) (f : Die → Die) : (s.modDie k f).chkDiff = s.chkDiff := rfl
@[simp] theorem modHealth_chkDiff (k : Nat) (f : Health → Health) : (s.modHealth k f).chkDiff = s.chkDiff := rfl
@[simp] theorem undefIf_chkDiff (b : Bool) (c : Undefined) : (s.undefIf b c).chkDiff = s.chkDiff := by cases b <;> rfl
@[simp] theorem noted_chkDiff (v : Via) : (s.noted v).chkDiff = s.chkDiff := by unfold State.noted; split <;> rfl
@[simp] theorem lowBits_chkDiff (a n : Nat) : (s.lowBits a n).2.chkDiff = s.chkDiff := by unfold State.lowBits; split <;> rfl

/-! What leaves `hostMem` alone. -/

@[simp] theorem setReg_hostMem (k : Nat) (v : Word) : (s.setReg k v).hostMem = s.hostMem := rfl
@[simp] theorem modLine_hostMem (k : Nat) (f : Line → Line) : (s.modLine k f).hostMem = s.hostMem := rfl
@[simp] theorem setFld_hostMem (k lo n v : Nat) : (s.setFld k lo n v).hostMem = s.hostMem := rfl
@[simp] theorem modPond_hostMem (k : Nat) (f : Pond → Pond) : (s.modPond k f).hostMem = s.hostMem := rfl
@[simp] theorem setFlag_hostMem (k i : Nat) (b : Bool) : (s.setFlag k i b).hostMem = s.hostMem := rfl
@[simp] theorem modGrid_hostMem (k : Nat) (f : GridSlot → GridSlot) : (s.modGrid k f).hostMem = s.hostMem := rfl
@[simp] theorem count_hostMem (k n : Nat) : (s.count k n).hostMem = s.hostMem := rfl
@[simp] theorem modBmem_hostMem (k : Nat) (f : BasinMem → BasinMem) : (s.modBmem k f).hostMem = s.hostMem := rfl
@[simp] theorem countFld_hostMem (k lo w n : Nat) : (s.countFld k lo w n).hostMem = s.hostMem := rfl
@[simp] theorem modBpow_hostMem (k : Nat) (f : BasinPower → BasinPower) : (s.modBpow k f).hostMem = s.hostMem := rfl
@[simp] theorem dropRegs_hostMem (p : Nat → Bool) : (s.dropRegs p).hostMem = s.hostMem := rfl
@[simp] theorem modChan_hostMem (k : Nat) (f : Channel → Channel) : (s.modChan k f).hostMem = s.hostMem := rfl
@[simp] theorem bump_hostMem : (s.bump).hostMem = s.hostMem := rfl
@[simp] theorem modQueue_hostMem (k : Nat) (f : AQueue → AQueue) : (s.modQueue k f).hostMem = s.hostMem := rfl
@[simp] theorem emit_hostMem (m : Msg) : (s.emit m).hostMem = s.hostMem := rfl
@[simp] theorem modPort_hostMem (k : Nat) (f : Port → Port) : (s.modPort k f).hostMem = s.hostMem := rfl
@[simp] theorem undefAt_hostMem (c : Undefined) (k : Scope) : (s.undefAt c k).hostMem = s.hostMem := rfl
@[simp] theorem modCtx_hostMem (k : Nat) (f : Ctx → Ctx) : (s.modCtx k f).hostMem = s.hostMem := rfl
@[simp] theorem undef_hostMem (c : Undefined) : (s.undef c).hostMem = s.hostMem := rfl
@[simp] theorem modCfl_hostMem (k : Nat) (f : CflEntry → CflEntry) : (s.modCfl k f).hostMem = s.hostMem := rfl
@[simp] theorem atPf0_hostMem : (s.atPf0).hostMem = s.hostMem := rfl
@[simp] theorem modHart_hostMem (k : Nat) (f : Core → Core) : (s.modHart k f).hostMem = s.hostMem := rfl
@[simp] theorem setLayerQ_hostMem (b : Nat) (q : List Layer) : (s.setLayerQ b q).hostMem = s.hostMem := rfl
@[simp] theorem modSpur_hostMem (k : Nat) (f : Spur → Spur) : (s.modSpur k f).hostMem = s.hostMem := rfl
@[simp] theorem setTlb_hostMem (b : Nat) (q : List TlbEntry) : (s.setTlb b q).hostMem = s.hostMem := rfl
@[simp] theorem modDie_hostMem (k : Nat) (f : Die → Die) : (s.modDie k f).hostMem = s.hostMem := rfl
@[simp] theorem modHealth_hostMem (k : Nat) (f : Health → Health) : (s.modHealth k f).hostMem = s.hostMem := rfl
@[simp] theorem undefIf_hostMem (b : Bool) (c : Undefined) : (s.undefIf b c).hostMem = s.hostMem := by cases b <;> rfl
@[simp] theorem noted_hostMem (v : Via) : (s.noted v).hostMem = s.hostMem := by unfold State.noted; split <;> rfl
@[simp] theorem lowBits_hostMem (a n : Nat) : (s.lowBits a n).2.hostMem = s.hostMem := by unfold State.lowBits; split <;> rfl

/-! What leaves `hostPoison` alone. -/

@[simp] theorem setReg_hostPoison (k : Nat) (v : Word) : (s.setReg k v).hostPoison = s.hostPoison := rfl
@[simp] theorem modLine_hostPoison (k : Nat) (f : Line → Line) : (s.modLine k f).hostPoison = s.hostPoison := rfl
@[simp] theorem setFld_hostPoison (k lo n v : Nat) : (s.setFld k lo n v).hostPoison = s.hostPoison := rfl
@[simp] theorem modPond_hostPoison (k : Nat) (f : Pond → Pond) : (s.modPond k f).hostPoison = s.hostPoison := rfl
@[simp] theorem setFlag_hostPoison (k i : Nat) (b : Bool) : (s.setFlag k i b).hostPoison = s.hostPoison := rfl
@[simp] theorem modGrid_hostPoison (k : Nat) (f : GridSlot → GridSlot) : (s.modGrid k f).hostPoison = s.hostPoison := rfl
@[simp] theorem count_hostPoison (k n : Nat) : (s.count k n).hostPoison = s.hostPoison := rfl
@[simp] theorem modBmem_hostPoison (k : Nat) (f : BasinMem → BasinMem) : (s.modBmem k f).hostPoison = s.hostPoison := rfl
@[simp] theorem countFld_hostPoison (k lo w n : Nat) : (s.countFld k lo w n).hostPoison = s.hostPoison := rfl
@[simp] theorem modBpow_hostPoison (k : Nat) (f : BasinPower → BasinPower) : (s.modBpow k f).hostPoison = s.hostPoison := rfl
@[simp] theorem dropRegs_hostPoison (p : Nat → Bool) : (s.dropRegs p).hostPoison = s.hostPoison := rfl
@[simp] theorem modChan_hostPoison (k : Nat) (f : Channel → Channel) : (s.modChan k f).hostPoison = s.hostPoison := rfl
@[simp] theorem bump_hostPoison : (s.bump).hostPoison = s.hostPoison := rfl
@[simp] theorem modQueue_hostPoison (k : Nat) (f : AQueue → AQueue) : (s.modQueue k f).hostPoison = s.hostPoison := rfl
@[simp] theorem emit_hostPoison (m : Msg) : (s.emit m).hostPoison = s.hostPoison := rfl
@[simp] theorem modPort_hostPoison (k : Nat) (f : Port → Port) : (s.modPort k f).hostPoison = s.hostPoison := rfl
@[simp] theorem undefAt_hostPoison (c : Undefined) (k : Scope) : (s.undefAt c k).hostPoison = s.hostPoison := rfl
@[simp] theorem modCtx_hostPoison (k : Nat) (f : Ctx → Ctx) : (s.modCtx k f).hostPoison = s.hostPoison := rfl
@[simp] theorem undef_hostPoison (c : Undefined) : (s.undef c).hostPoison = s.hostPoison := rfl
@[simp] theorem modCfl_hostPoison (k : Nat) (f : CflEntry → CflEntry) : (s.modCfl k f).hostPoison = s.hostPoison := rfl
@[simp] theorem atPf0_hostPoison : (s.atPf0).hostPoison = s.hostPoison := rfl
@[simp] theorem modHart_hostPoison (k : Nat) (f : Core → Core) : (s.modHart k f).hostPoison = s.hostPoison := rfl
@[simp] theorem setLayerQ_hostPoison (b : Nat) (q : List Layer) : (s.setLayerQ b q).hostPoison = s.hostPoison := rfl
@[simp] theorem modSpur_hostPoison (k : Nat) (f : Spur → Spur) : (s.modSpur k f).hostPoison = s.hostPoison := rfl
@[simp] theorem setTlb_hostPoison (b : Nat) (q : List TlbEntry) : (s.setTlb b q).hostPoison = s.hostPoison := rfl
@[simp] theorem modDie_hostPoison (k : Nat) (f : Die → Die) : (s.modDie k f).hostPoison = s.hostPoison := rfl
@[simp] theorem modHealth_hostPoison (k : Nat) (f : Health → Health) : (s.modHealth k f).hostPoison = s.hostPoison := rfl
@[simp] theorem undefIf_hostPoison (b : Bool) (c : Undefined) : (s.undefIf b c).hostPoison = s.hostPoison := by cases b <;> rfl
@[simp] theorem noted_hostPoison (v : Via) : (s.noted v).hostPoison = s.hostPoison := by unfold State.noted; split <;> rfl
@[simp] theorem lowBits_hostPoison (a n : Nat) : (s.lowBits a n).2.hostPoison = s.hostPoison := by unfold State.lowBits; split <;> rfl

/-! What leaves `tt` alone. -/

@[simp] theorem setReg_tt (k : Nat) (v : Word) : (s.setReg k v).tt = s.tt := rfl
@[simp] theorem modLine_tt (k : Nat) (f : Line → Line) : (s.modLine k f).tt = s.tt := rfl
@[simp] theorem setFld_tt (k lo n v : Nat) : (s.setFld k lo n v).tt = s.tt := rfl
@[simp] theorem modPond_tt (k : Nat) (f : Pond → Pond) : (s.modPond k f).tt = s.tt := rfl
@[simp] theorem setFlag_tt (k i : Nat) (b : Bool) : (s.setFlag k i b).tt = s.tt := rfl
@[simp] theorem modGrid_tt (k : Nat) (f : GridSlot → GridSlot) : (s.modGrid k f).tt = s.tt := rfl
@[simp] theorem count_tt (k n : Nat) : (s.count k n).tt = s.tt := rfl
@[simp] theorem modBmem_tt (k : Nat) (f : BasinMem → BasinMem) : (s.modBmem k f).tt = s.tt := rfl
@[simp] theorem countFld_tt (k lo w n : Nat) : (s.countFld k lo w n).tt = s.tt := rfl
@[simp] theorem modBpow_tt (k : Nat) (f : BasinPower → BasinPower) : (s.modBpow k f).tt = s.tt := rfl
@[simp] theorem dropRegs_tt (p : Nat → Bool) : (s.dropRegs p).tt = s.tt := rfl
@[simp] theorem modChan_tt (k : Nat) (f : Channel → Channel) : (s.modChan k f).tt = s.tt := rfl
@[simp] theorem bump_tt : (s.bump).tt = s.tt := rfl
@[simp] theorem modQueue_tt (k : Nat) (f : AQueue → AQueue) : (s.modQueue k f).tt = s.tt := rfl
@[simp] theorem emit_tt (m : Msg) : (s.emit m).tt = s.tt := rfl
@[simp] theorem modPort_tt (k : Nat) (f : Port → Port) : (s.modPort k f).tt = s.tt := rfl
@[simp] theorem undefAt_tt (c : Undefined) (k : Scope) : (s.undefAt c k).tt = s.tt := rfl
@[simp] theorem modCtx_tt (k : Nat) (f : Ctx → Ctx) : (s.modCtx k f).tt = s.tt := rfl
@[simp] theorem undef_tt (c : Undefined) : (s.undef c).tt = s.tt := rfl
@[simp] theorem modCfl_tt (k : Nat) (f : CflEntry → CflEntry) : (s.modCfl k f).tt = s.tt := rfl
@[simp] theorem atPf0_tt : (s.atPf0).tt = s.tt := rfl
@[simp] theorem modHart_tt (k : Nat) (f : Core → Core) : (s.modHart k f).tt = s.tt := rfl
@[simp] theorem setLayerQ_tt (b : Nat) (q : List Layer) : (s.setLayerQ b q).tt = s.tt := rfl
@[simp] theorem modSpur_tt (k : Nat) (f : Spur → Spur) : (s.modSpur k f).tt = s.tt := rfl
@[simp] theorem setTlb_tt (b : Nat) (q : List TlbEntry) : (s.setTlb b q).tt = s.tt := rfl
@[simp] theorem modDie_tt (k : Nat) (f : Die → Die) : (s.modDie k f).tt = s.tt := rfl
@[simp] theorem modHealth_tt (k : Nat) (f : Health → Health) : (s.modHealth k f).tt = s.tt := rfl
@[simp] theorem undefIf_tt (b : Bool) (c : Undefined) : (s.undefIf b c).tt = s.tt := by cases b <;> rfl
@[simp] theorem noted_tt (v : Via) : (s.noted v).tt = s.tt := by unfold State.noted; split <;> rfl
@[simp] theorem lowBits_tt (a n : Nat) : (s.lowBits a n).2.tt = s.tt := by unfold State.lowBits; split <;> rfl

/-! What leaves `ttLoad` alone. -/

@[simp] theorem setReg_ttLoad (k : Nat) (v : Word) : (s.setReg k v).ttLoad = s.ttLoad := rfl
@[simp] theorem modLine_ttLoad (k : Nat) (f : Line → Line) : (s.modLine k f).ttLoad = s.ttLoad := rfl
@[simp] theorem setFld_ttLoad (k lo n v : Nat) : (s.setFld k lo n v).ttLoad = s.ttLoad := rfl
@[simp] theorem modPond_ttLoad (k : Nat) (f : Pond → Pond) : (s.modPond k f).ttLoad = s.ttLoad := rfl
@[simp] theorem setFlag_ttLoad (k i : Nat) (b : Bool) : (s.setFlag k i b).ttLoad = s.ttLoad := rfl
@[simp] theorem modGrid_ttLoad (k : Nat) (f : GridSlot → GridSlot) : (s.modGrid k f).ttLoad = s.ttLoad := rfl
@[simp] theorem count_ttLoad (k n : Nat) : (s.count k n).ttLoad = s.ttLoad := rfl
@[simp] theorem modBmem_ttLoad (k : Nat) (f : BasinMem → BasinMem) : (s.modBmem k f).ttLoad = s.ttLoad := rfl
@[simp] theorem countFld_ttLoad (k lo w n : Nat) : (s.countFld k lo w n).ttLoad = s.ttLoad := rfl
@[simp] theorem modBpow_ttLoad (k : Nat) (f : BasinPower → BasinPower) : (s.modBpow k f).ttLoad = s.ttLoad := rfl
@[simp] theorem dropRegs_ttLoad (p : Nat → Bool) : (s.dropRegs p).ttLoad = s.ttLoad := rfl
@[simp] theorem modChan_ttLoad (k : Nat) (f : Channel → Channel) : (s.modChan k f).ttLoad = s.ttLoad := rfl
@[simp] theorem bump_ttLoad : (s.bump).ttLoad = s.ttLoad := rfl
@[simp] theorem modQueue_ttLoad (k : Nat) (f : AQueue → AQueue) : (s.modQueue k f).ttLoad = s.ttLoad := rfl
@[simp] theorem emit_ttLoad (m : Msg) : (s.emit m).ttLoad = s.ttLoad := rfl
@[simp] theorem modPort_ttLoad (k : Nat) (f : Port → Port) : (s.modPort k f).ttLoad = s.ttLoad := rfl
@[simp] theorem undefAt_ttLoad (c : Undefined) (k : Scope) : (s.undefAt c k).ttLoad = s.ttLoad := rfl
@[simp] theorem modCtx_ttLoad (k : Nat) (f : Ctx → Ctx) : (s.modCtx k f).ttLoad = s.ttLoad := rfl
@[simp] theorem undef_ttLoad (c : Undefined) : (s.undef c).ttLoad = s.ttLoad := rfl
@[simp] theorem modCfl_ttLoad (k : Nat) (f : CflEntry → CflEntry) : (s.modCfl k f).ttLoad = s.ttLoad := rfl
@[simp] theorem atPf0_ttLoad : (s.atPf0).ttLoad = s.ttLoad := rfl
@[simp] theorem modHart_ttLoad (k : Nat) (f : Core → Core) : (s.modHart k f).ttLoad = s.ttLoad := rfl
@[simp] theorem setLayerQ_ttLoad (b : Nat) (q : List Layer) : (s.setLayerQ b q).ttLoad = s.ttLoad := rfl
@[simp] theorem modSpur_ttLoad (k : Nat) (f : Spur → Spur) : (s.modSpur k f).ttLoad = s.ttLoad := rfl
@[simp] theorem setTlb_ttLoad (b : Nat) (q : List TlbEntry) : (s.setTlb b q).ttLoad = s.ttLoad := rfl
@[simp] theorem modDie_ttLoad (k : Nat) (f : Die → Die) : (s.modDie k f).ttLoad = s.ttLoad := rfl
@[simp] theorem modHealth_ttLoad (k : Nat) (f : Health → Health) : (s.modHealth k f).ttLoad = s.ttLoad := rfl
@[simp] theorem undefIf_ttLoad (b : Bool) (c : Undefined) : (s.undefIf b c).ttLoad = s.ttLoad := by cases b <;> rfl
@[simp] theorem noted_ttLoad (v : Via) : (s.noted v).ttLoad = s.ttLoad := by unfold State.noted; split <;> rfl
@[simp] theorem lowBits_ttLoad (a n : Nat) : (s.lowBits a n).2.ttLoad = s.ttLoad := by unfold State.lowBits; split <;> rfl

/-! What leaves `leaders` alone. -/

@[simp] theorem setReg_leaders (k : Nat) (v : Word) : (s.setReg k v).leaders = s.leaders := rfl
@[simp] theorem modLine_leaders (k : Nat) (f : Line → Line) : (s.modLine k f).leaders = s.leaders := rfl
@[simp] theorem setFld_leaders (k lo n v : Nat) : (s.setFld k lo n v).leaders = s.leaders := rfl
@[simp] theorem modPond_leaders (k : Nat) (f : Pond → Pond) : (s.modPond k f).leaders = s.leaders := rfl
@[simp] theorem setFlag_leaders (k i : Nat) (b : Bool) : (s.setFlag k i b).leaders = s.leaders := rfl
@[simp] theorem modGrid_leaders (k : Nat) (f : GridSlot → GridSlot) : (s.modGrid k f).leaders = s.leaders := rfl
@[simp] theorem count_leaders (k n : Nat) : (s.count k n).leaders = s.leaders := rfl
@[simp] theorem modBmem_leaders (k : Nat) (f : BasinMem → BasinMem) : (s.modBmem k f).leaders = s.leaders := rfl
@[simp] theorem countFld_leaders (k lo w n : Nat) : (s.countFld k lo w n).leaders = s.leaders := rfl
@[simp] theorem modBpow_leaders (k : Nat) (f : BasinPower → BasinPower) : (s.modBpow k f).leaders = s.leaders := rfl
@[simp] theorem dropRegs_leaders (p : Nat → Bool) : (s.dropRegs p).leaders = s.leaders := rfl
@[simp] theorem modChan_leaders (k : Nat) (f : Channel → Channel) : (s.modChan k f).leaders = s.leaders := rfl
@[simp] theorem bump_leaders : (s.bump).leaders = s.leaders := rfl
@[simp] theorem modQueue_leaders (k : Nat) (f : AQueue → AQueue) : (s.modQueue k f).leaders = s.leaders := rfl
@[simp] theorem emit_leaders (m : Msg) : (s.emit m).leaders = s.leaders := rfl
@[simp] theorem modPort_leaders (k : Nat) (f : Port → Port) : (s.modPort k f).leaders = s.leaders := rfl
@[simp] theorem undefAt_leaders (c : Undefined) (k : Scope) : (s.undefAt c k).leaders = s.leaders := rfl
@[simp] theorem modCtx_leaders (k : Nat) (f : Ctx → Ctx) : (s.modCtx k f).leaders = s.leaders := rfl
@[simp] theorem undef_leaders (c : Undefined) : (s.undef c).leaders = s.leaders := rfl
@[simp] theorem modCfl_leaders (k : Nat) (f : CflEntry → CflEntry) : (s.modCfl k f).leaders = s.leaders := rfl
@[simp] theorem atPf0_leaders : (s.atPf0).leaders = s.leaders := rfl
@[simp] theorem modHart_leaders (k : Nat) (f : Core → Core) : (s.modHart k f).leaders = s.leaders := rfl
@[simp] theorem setLayerQ_leaders (b : Nat) (q : List Layer) : (s.setLayerQ b q).leaders = s.leaders := rfl
@[simp] theorem modSpur_leaders (k : Nat) (f : Spur → Spur) : (s.modSpur k f).leaders = s.leaders := rfl
@[simp] theorem setTlb_leaders (b : Nat) (q : List TlbEntry) : (s.setTlb b q).leaders = s.leaders := rfl
@[simp] theorem modDie_leaders (k : Nat) (f : Die → Die) : (s.modDie k f).leaders = s.leaders := rfl
@[simp] theorem modHealth_leaders (k : Nat) (f : Health → Health) : (s.modHealth k f).leaders = s.leaders := rfl
@[simp] theorem undefIf_leaders (b : Bool) (c : Undefined) : (s.undefIf b c).leaders = s.leaders := by cases b <;> rfl
@[simp] theorem noted_leaders (v : Via) : (s.noted v).leaders = s.leaders := by unfold State.noted; split <;> rfl
@[simp] theorem lowBits_leaders (a n : Nat) : (s.lowBits a n).2.leaders = s.leaders := by unfold State.lowBits; split <;> rfl

/-! What leaves `lines` alone. -/

@[simp] theorem setReg_lines (k : Nat) (v : Word) : (s.setReg k v).lines = s.lines := rfl
@[simp] theorem setFld_lines (k lo n v : Nat) : (s.setFld k lo n v).lines = s.lines := rfl
@[simp] theorem modPond_lines (k : Nat) (f : Pond → Pond) : (s.modPond k f).lines = s.lines := rfl
@[simp] theorem setFlag_lines (k i : Nat) (b : Bool) : (s.setFlag k i b).lines = s.lines := rfl
@[simp] theorem modGrid_lines (k : Nat) (f : GridSlot → GridSlot) : (s.modGrid k f).lines = s.lines := rfl
@[simp] theorem count_lines (k n : Nat) : (s.count k n).lines = s.lines := rfl
@[simp] theorem modBmem_lines (k : Nat) (f : BasinMem → BasinMem) : (s.modBmem k f).lines = s.lines := rfl
@[simp] theorem countFld_lines (k lo w n : Nat) : (s.countFld k lo w n).lines = s.lines := rfl
@[simp] theorem modBpow_lines (k : Nat) (f : BasinPower → BasinPower) : (s.modBpow k f).lines = s.lines := rfl
@[simp] theorem dropRegs_lines (p : Nat → Bool) : (s.dropRegs p).lines = s.lines := rfl
@[simp] theorem modChan_lines (k : Nat) (f : Channel → Channel) : (s.modChan k f).lines = s.lines := rfl
@[simp] theorem bump_lines : (s.bump).lines = s.lines := rfl
@[simp] theorem modQueue_lines (k : Nat) (f : AQueue → AQueue) : (s.modQueue k f).lines = s.lines := rfl
@[simp] theorem emit_lines (m : Msg) : (s.emit m).lines = s.lines := rfl
@[simp] theorem modPort_lines (k : Nat) (f : Port → Port) : (s.modPort k f).lines = s.lines := rfl
@[simp] theorem undefAt_lines (c : Undefined) (k : Scope) : (s.undefAt c k).lines = s.lines := rfl
@[simp] theorem modCtx_lines (k : Nat) (f : Ctx → Ctx) : (s.modCtx k f).lines = s.lines := rfl
@[simp] theorem undef_lines (c : Undefined) : (s.undef c).lines = s.lines := rfl
@[simp] theorem modCfl_lines (k : Nat) (f : CflEntry → CflEntry) : (s.modCfl k f).lines = s.lines := rfl
@[simp] theorem atPf0_lines : (s.atPf0).lines = s.lines := rfl
@[simp] theorem modHart_lines (k : Nat) (f : Core → Core) : (s.modHart k f).lines = s.lines := rfl
@[simp] theorem setLayerQ_lines (b : Nat) (q : List Layer) : (s.setLayerQ b q).lines = s.lines := rfl
@[simp] theorem modSpur_lines (k : Nat) (f : Spur → Spur) : (s.modSpur k f).lines = s.lines := rfl
@[simp] theorem setTlb_lines (b : Nat) (q : List TlbEntry) : (s.setTlb b q).lines = s.lines := rfl
@[simp] theorem modDie_lines (k : Nat) (f : Die → Die) : (s.modDie k f).lines = s.lines := rfl
@[simp] theorem modHealth_lines (k : Nat) (f : Health → Health) : (s.modHealth k f).lines = s.lines := rfl
@[simp] theorem undefIf_lines (b : Bool) (c : Undefined) : (s.undefIf b c).lines = s.lines := by cases b <;> rfl
@[simp] theorem noted_lines (v : Via) : (s.noted v).lines = s.lines := by unfold State.noted; split <;> rfl
@[simp] theorem lowBits_lines (a n : Nat) : (s.lowBits a n).2.lines = s.lines := by unfold State.lowBits; split <;> rfl

/-! What leaves `ponds` alone. -/

@[simp] theorem setReg_ponds (k : Nat) (v : Word) : (s.setReg k v).ponds = s.ponds := rfl
@[simp] theorem modLine_ponds (k : Nat) (f : Line → Line) : (s.modLine k f).ponds = s.ponds := rfl
@[simp] theorem setFld_ponds (k lo n v : Nat) : (s.setFld k lo n v).ponds = s.ponds := rfl
@[simp] theorem setFlag_ponds (k i : Nat) (b : Bool) : (s.setFlag k i b).ponds = s.ponds := rfl
@[simp] theorem modGrid_ponds (k : Nat) (f : GridSlot → GridSlot) : (s.modGrid k f).ponds = s.ponds := rfl
@[simp] theorem count_ponds (k n : Nat) : (s.count k n).ponds = s.ponds := rfl
@[simp] theorem modBmem_ponds (k : Nat) (f : BasinMem → BasinMem) : (s.modBmem k f).ponds = s.ponds := rfl
@[simp] theorem countFld_ponds (k lo w n : Nat) : (s.countFld k lo w n).ponds = s.ponds := rfl
@[simp] theorem modBpow_ponds (k : Nat) (f : BasinPower → BasinPower) : (s.modBpow k f).ponds = s.ponds := rfl
@[simp] theorem dropRegs_ponds (p : Nat → Bool) : (s.dropRegs p).ponds = s.ponds := rfl
@[simp] theorem modChan_ponds (k : Nat) (f : Channel → Channel) : (s.modChan k f).ponds = s.ponds := rfl
@[simp] theorem bump_ponds : (s.bump).ponds = s.ponds := rfl
@[simp] theorem modQueue_ponds (k : Nat) (f : AQueue → AQueue) : (s.modQueue k f).ponds = s.ponds := rfl
@[simp] theorem emit_ponds (m : Msg) : (s.emit m).ponds = s.ponds := rfl
@[simp] theorem modPort_ponds (k : Nat) (f : Port → Port) : (s.modPort k f).ponds = s.ponds := rfl
@[simp] theorem undefAt_ponds (c : Undefined) (k : Scope) : (s.undefAt c k).ponds = s.ponds := rfl
@[simp] theorem modCtx_ponds (k : Nat) (f : Ctx → Ctx) : (s.modCtx k f).ponds = s.ponds := rfl
@[simp] theorem undef_ponds (c : Undefined) : (s.undef c).ponds = s.ponds := rfl
@[simp] theorem modCfl_ponds (k : Nat) (f : CflEntry → CflEntry) : (s.modCfl k f).ponds = s.ponds := rfl
@[simp] theorem atPf0_ponds : (s.atPf0).ponds = s.ponds := rfl
@[simp] theorem modHart_ponds (k : Nat) (f : Core → Core) : (s.modHart k f).ponds = s.ponds := rfl
@[simp] theorem setLayerQ_ponds (b : Nat) (q : List Layer) : (s.setLayerQ b q).ponds = s.ponds := rfl
@[simp] theorem modSpur_ponds (k : Nat) (f : Spur → Spur) : (s.modSpur k f).ponds = s.ponds := rfl
@[simp] theorem setTlb_ponds (b : Nat) (q : List TlbEntry) : (s.setTlb b q).ponds = s.ponds := rfl
@[simp] theorem modDie_ponds (k : Nat) (f : Die → Die) : (s.modDie k f).ponds = s.ponds := rfl
@[simp] theorem modHealth_ponds (k : Nat) (f : Health → Health) : (s.modHealth k f).ponds = s.ponds := rfl
@[simp] theorem undefIf_ponds (b : Bool) (c : Undefined) : (s.undefIf b c).ponds = s.ponds := by cases b <;> rfl
@[simp] theorem noted_ponds (v : Via) : (s.noted v).ponds = s.ponds := by unfold State.noted; split <;> rfl
@[simp] theorem lowBits_ponds (a n : Nat) : (s.lowBits a n).2.ponds = s.ponds := by unfold State.lowBits; split <;> rfl

/-! What leaves `grids` alone. -/

@[simp] theorem setReg_grids (k : Nat) (v : Word) : (s.setReg k v).grids = s.grids := rfl
@[simp] theorem modLine_grids (k : Nat) (f : Line → Line) : (s.modLine k f).grids = s.grids := rfl
@[simp] theorem setFld_grids (k lo n v : Nat) : (s.setFld k lo n v).grids = s.grids := rfl
@[simp] theorem modPond_grids (k : Nat) (f : Pond → Pond) : (s.modPond k f).grids = s.grids := rfl
@[simp] theorem setFlag_grids (k i : Nat) (b : Bool) : (s.setFlag k i b).grids = s.grids := rfl
@[simp] theorem count_grids (k n : Nat) : (s.count k n).grids = s.grids := rfl
@[simp] theorem modBmem_grids (k : Nat) (f : BasinMem → BasinMem) : (s.modBmem k f).grids = s.grids := rfl
@[simp] theorem countFld_grids (k lo w n : Nat) : (s.countFld k lo w n).grids = s.grids := rfl
@[simp] theorem modBpow_grids (k : Nat) (f : BasinPower → BasinPower) : (s.modBpow k f).grids = s.grids := rfl
@[simp] theorem dropRegs_grids (p : Nat → Bool) : (s.dropRegs p).grids = s.grids := rfl
@[simp] theorem modChan_grids (k : Nat) (f : Channel → Channel) : (s.modChan k f).grids = s.grids := rfl
@[simp] theorem bump_grids : (s.bump).grids = s.grids := rfl
@[simp] theorem modQueue_grids (k : Nat) (f : AQueue → AQueue) : (s.modQueue k f).grids = s.grids := rfl
@[simp] theorem emit_grids (m : Msg) : (s.emit m).grids = s.grids := rfl
@[simp] theorem modPort_grids (k : Nat) (f : Port → Port) : (s.modPort k f).grids = s.grids := rfl
@[simp] theorem undefAt_grids (c : Undefined) (k : Scope) : (s.undefAt c k).grids = s.grids := rfl
@[simp] theorem modCtx_grids (k : Nat) (f : Ctx → Ctx) : (s.modCtx k f).grids = s.grids := rfl
@[simp] theorem undef_grids (c : Undefined) : (s.undef c).grids = s.grids := rfl
@[simp] theorem modCfl_grids (k : Nat) (f : CflEntry → CflEntry) : (s.modCfl k f).grids = s.grids := rfl
@[simp] theorem atPf0_grids : (s.atPf0).grids = s.grids := rfl
@[simp] theorem modHart_grids (k : Nat) (f : Core → Core) : (s.modHart k f).grids = s.grids := rfl
@[simp] theorem setLayerQ_grids (b : Nat) (q : List Layer) : (s.setLayerQ b q).grids = s.grids := rfl
@[simp] theorem modSpur_grids (k : Nat) (f : Spur → Spur) : (s.modSpur k f).grids = s.grids := rfl
@[simp] theorem setTlb_grids (b : Nat) (q : List TlbEntry) : (s.setTlb b q).grids = s.grids := rfl
@[simp] theorem modDie_grids (k : Nat) (f : Die → Die) : (s.modDie k f).grids = s.grids := rfl
@[simp] theorem modHealth_grids (k : Nat) (f : Health → Health) : (s.modHealth k f).grids = s.grids := rfl
@[simp] theorem undefIf_grids (b : Bool) (c : Undefined) : (s.undefIf b c).grids = s.grids := by cases b <;> rfl
@[simp] theorem noted_grids (v : Via) : (s.noted v).grids = s.grids := by unfold State.noted; split <;> rfl
@[simp] theorem lowBits_grids (a n : Nat) : (s.lowBits a n).2.grids = s.grids := by unfold State.lowBits; split <;> rfl

/-! What leaves `bindings` alone. -/

@[simp] theorem setReg_bindings (k : Nat) (v : Word) : (s.setReg k v).bindings = s.bindings := rfl
@[simp] theorem modLine_bindings (k : Nat) (f : Line → Line) : (s.modLine k f).bindings = s.bindings := rfl
@[simp] theorem setFld_bindings (k lo n v : Nat) : (s.setFld k lo n v).bindings = s.bindings := rfl
@[simp] theorem modPond_bindings (k : Nat) (f : Pond → Pond) : (s.modPond k f).bindings = s.bindings := rfl
@[simp] theorem setFlag_bindings (k i : Nat) (b : Bool) : (s.setFlag k i b).bindings = s.bindings := rfl
@[simp] theorem modGrid_bindings (k : Nat) (f : GridSlot → GridSlot) : (s.modGrid k f).bindings = s.bindings := rfl
@[simp] theorem count_bindings (k n : Nat) : (s.count k n).bindings = s.bindings := rfl
@[simp] theorem modBmem_bindings (k : Nat) (f : BasinMem → BasinMem) : (s.modBmem k f).bindings = s.bindings := rfl
@[simp] theorem countFld_bindings (k lo w n : Nat) : (s.countFld k lo w n).bindings = s.bindings := rfl
@[simp] theorem modBpow_bindings (k : Nat) (f : BasinPower → BasinPower) : (s.modBpow k f).bindings = s.bindings := rfl
@[simp] theorem dropRegs_bindings (p : Nat → Bool) : (s.dropRegs p).bindings = s.bindings := rfl
@[simp] theorem modChan_bindings (k : Nat) (f : Channel → Channel) : (s.modChan k f).bindings = s.bindings := rfl
@[simp] theorem bump_bindings : (s.bump).bindings = s.bindings := rfl
@[simp] theorem modQueue_bindings (k : Nat) (f : AQueue → AQueue) : (s.modQueue k f).bindings = s.bindings := rfl
@[simp] theorem emit_bindings (m : Msg) : (s.emit m).bindings = s.bindings := rfl
@[simp] theorem modPort_bindings (k : Nat) (f : Port → Port) : (s.modPort k f).bindings = s.bindings := rfl
@[simp] theorem undefAt_bindings (c : Undefined) (k : Scope) : (s.undefAt c k).bindings = s.bindings := rfl
@[simp] theorem modCtx_bindings (k : Nat) (f : Ctx → Ctx) : (s.modCtx k f).bindings = s.bindings := rfl
@[simp] theorem undef_bindings (c : Undefined) : (s.undef c).bindings = s.bindings := rfl
@[simp] theorem modCfl_bindings (k : Nat) (f : CflEntry → CflEntry) : (s.modCfl k f).bindings = s.bindings := rfl
@[simp] theorem atPf0_bindings : (s.atPf0).bindings = s.bindings := rfl
@[simp] theorem modHart_bindings (k : Nat) (f : Core → Core) : (s.modHart k f).bindings = s.bindings := rfl
@[simp] theorem setLayerQ_bindings (b : Nat) (q : List Layer) : (s.setLayerQ b q).bindings = s.bindings := rfl
@[simp] theorem modSpur_bindings (k : Nat) (f : Spur → Spur) : (s.modSpur k f).bindings = s.bindings := rfl
@[simp] theorem setTlb_bindings (b : Nat) (q : List TlbEntry) : (s.setTlb b q).bindings = s.bindings := rfl
@[simp] theorem modDie_bindings (k : Nat) (f : Die → Die) : (s.modDie k f).bindings = s.bindings := rfl
@[simp] theorem modHealth_bindings (k : Nat) (f : Health → Health) : (s.modHealth k f).bindings = s.bindings := rfl
@[simp] theorem undefIf_bindings (b : Bool) (c : Undefined) : (s.undefIf b c).bindings = s.bindings := by cases b <;> rfl
@[simp] theorem noted_bindings (v : Via) : (s.noted v).bindings = s.bindings := by unfold State.noted; split <;> rfl
@[simp] theorem lowBits_bindings (a n : Nat) : (s.lowBits a n).2.bindings = s.bindings := by unfold State.lowBits; split <;> rfl

/-! What leaves `basinMem` alone. -/

@[simp] theorem setReg_basinMem (k : Nat) (v : Word) : (s.setReg k v).basinMem = s.basinMem := rfl
@[simp] theorem modLine_basinMem (k : Nat) (f : Line → Line) : (s.modLine k f).basinMem = s.basinMem := rfl
@[simp] theorem setFld_basinMem (k lo n v : Nat) : (s.setFld k lo n v).basinMem = s.basinMem := rfl
@[simp] theorem modPond_basinMem (k : Nat) (f : Pond → Pond) : (s.modPond k f).basinMem = s.basinMem := rfl
@[simp] theorem setFlag_basinMem (k i : Nat) (b : Bool) : (s.setFlag k i b).basinMem = s.basinMem := rfl
@[simp] theorem modGrid_basinMem (k : Nat) (f : GridSlot → GridSlot) : (s.modGrid k f).basinMem = s.basinMem := rfl
@[simp] theorem count_basinMem (k n : Nat) : (s.count k n).basinMem = s.basinMem := rfl
@[simp] theorem countFld_basinMem (k lo w n : Nat) : (s.countFld k lo w n).basinMem = s.basinMem := rfl
@[simp] theorem modBpow_basinMem (k : Nat) (f : BasinPower → BasinPower) : (s.modBpow k f).basinMem = s.basinMem := rfl
@[simp] theorem dropRegs_basinMem (p : Nat → Bool) : (s.dropRegs p).basinMem = s.basinMem := rfl
@[simp] theorem modChan_basinMem (k : Nat) (f : Channel → Channel) : (s.modChan k f).basinMem = s.basinMem := rfl
@[simp] theorem bump_basinMem : (s.bump).basinMem = s.basinMem := rfl
@[simp] theorem modQueue_basinMem (k : Nat) (f : AQueue → AQueue) : (s.modQueue k f).basinMem = s.basinMem := rfl
@[simp] theorem emit_basinMem (m : Msg) : (s.emit m).basinMem = s.basinMem := rfl
@[simp] theorem modPort_basinMem (k : Nat) (f : Port → Port) : (s.modPort k f).basinMem = s.basinMem := rfl
@[simp] theorem undefAt_basinMem (c : Undefined) (k : Scope) : (s.undefAt c k).basinMem = s.basinMem := rfl
@[simp] theorem modCtx_basinMem (k : Nat) (f : Ctx → Ctx) : (s.modCtx k f).basinMem = s.basinMem := rfl
@[simp] theorem undef_basinMem (c : Undefined) : (s.undef c).basinMem = s.basinMem := rfl
@[simp] theorem modCfl_basinMem (k : Nat) (f : CflEntry → CflEntry) : (s.modCfl k f).basinMem = s.basinMem := rfl
@[simp] theorem atPf0_basinMem : (s.atPf0).basinMem = s.basinMem := rfl
@[simp] theorem modHart_basinMem (k : Nat) (f : Core → Core) : (s.modHart k f).basinMem = s.basinMem := rfl
@[simp] theorem setLayerQ_basinMem (b : Nat) (q : List Layer) : (s.setLayerQ b q).basinMem = s.basinMem := rfl
@[simp] theorem modSpur_basinMem (k : Nat) (f : Spur → Spur) : (s.modSpur k f).basinMem = s.basinMem := rfl
@[simp] theorem setTlb_basinMem (b : Nat) (q : List TlbEntry) : (s.setTlb b q).basinMem = s.basinMem := rfl
@[simp] theorem modDie_basinMem (k : Nat) (f : Die → Die) : (s.modDie k f).basinMem = s.basinMem := rfl
@[simp] theorem modHealth_basinMem (k : Nat) (f : Health → Health) : (s.modHealth k f).basinMem = s.basinMem := rfl
@[simp] theorem undefIf_basinMem (b : Bool) (c : Undefined) : (s.undefIf b c).basinMem = s.basinMem := by cases b <;> rfl
@[simp] theorem noted_basinMem (v : Via) : (s.noted v).basinMem = s.basinMem := by unfold State.noted; split <;> rfl
@[simp] theorem lowBits_basinMem (a n : Nat) : (s.lowBits a n).2.basinMem = s.basinMem := by unfold State.lowBits; split <;> rfl

/-! What leaves `basinPower` alone. -/

@[simp] theorem setReg_basinPower (k : Nat) (v : Word) : (s.setReg k v).basinPower = s.basinPower := rfl
@[simp] theorem modLine_basinPower (k : Nat) (f : Line → Line) : (s.modLine k f).basinPower = s.basinPower := rfl
@[simp] theorem setFld_basinPower (k lo n v : Nat) : (s.setFld k lo n v).basinPower = s.basinPower := rfl
@[simp] theorem modPond_basinPower (k : Nat) (f : Pond → Pond) : (s.modPond k f).basinPower = s.basinPower := rfl
@[simp] theorem setFlag_basinPower (k i : Nat) (b : Bool) : (s.setFlag k i b).basinPower = s.basinPower := rfl
@[simp] theorem modGrid_basinPower (k : Nat) (f : GridSlot → GridSlot) : (s.modGrid k f).basinPower = s.basinPower := rfl
@[simp] theorem count_basinPower (k n : Nat) : (s.count k n).basinPower = s.basinPower := rfl
@[simp] theorem modBmem_basinPower (k : Nat) (f : BasinMem → BasinMem) : (s.modBmem k f).basinPower = s.basinPower := rfl
@[simp] theorem countFld_basinPower (k lo w n : Nat) : (s.countFld k lo w n).basinPower = s.basinPower := rfl
@[simp] theorem dropRegs_basinPower (p : Nat → Bool) : (s.dropRegs p).basinPower = s.basinPower := rfl
@[simp] theorem modChan_basinPower (k : Nat) (f : Channel → Channel) : (s.modChan k f).basinPower = s.basinPower := rfl
@[simp] theorem bump_basinPower : (s.bump).basinPower = s.basinPower := rfl
@[simp] theorem modQueue_basinPower (k : Nat) (f : AQueue → AQueue) : (s.modQueue k f).basinPower = s.basinPower := rfl
@[simp] theorem emit_basinPower (m : Msg) : (s.emit m).basinPower = s.basinPower := rfl
@[simp] theorem modPort_basinPower (k : Nat) (f : Port → Port) : (s.modPort k f).basinPower = s.basinPower := rfl
@[simp] theorem undefAt_basinPower (c : Undefined) (k : Scope) : (s.undefAt c k).basinPower = s.basinPower := rfl
@[simp] theorem modCtx_basinPower (k : Nat) (f : Ctx → Ctx) : (s.modCtx k f).basinPower = s.basinPower := rfl
@[simp] theorem undef_basinPower (c : Undefined) : (s.undef c).basinPower = s.basinPower := rfl
@[simp] theorem modCfl_basinPower (k : Nat) (f : CflEntry → CflEntry) : (s.modCfl k f).basinPower = s.basinPower := rfl
@[simp] theorem atPf0_basinPower : (s.atPf0).basinPower = s.basinPower := rfl
@[simp] theorem modHart_basinPower (k : Nat) (f : Core → Core) : (s.modHart k f).basinPower = s.basinPower := rfl
@[simp] theorem setLayerQ_basinPower (b : Nat) (q : List Layer) : (s.setLayerQ b q).basinPower = s.basinPower := rfl
@[simp] theorem modSpur_basinPower (k : Nat) (f : Spur → Spur) : (s.modSpur k f).basinPower = s.basinPower := rfl
@[simp] theorem setTlb_basinPower (b : Nat) (q : List TlbEntry) : (s.setTlb b q).basinPower = s.basinPower := rfl
@[simp] theorem modDie_basinPower (k : Nat) (f : Die → Die) : (s.modDie k f).basinPower = s.basinPower := rfl
@[simp] theorem modHealth_basinPower (k : Nat) (f : Health → Health) : (s.modHealth k f).basinPower = s.basinPower := rfl
@[simp] theorem undefIf_basinPower (b : Bool) (c : Undefined) : (s.undefIf b c).basinPower = s.basinPower := by cases b <;> rfl
@[simp] theorem noted_basinPower (v : Via) : (s.noted v).basinPower = s.basinPower := by unfold State.noted; split <;> rfl
@[simp] theorem lowBits_basinPower (a n : Nat) : (s.lowBits a n).2.basinPower = s.basinPower := by unfold State.lowBits; split <;> rfl

/-! What leaves `tlbs` alone. -/

@[simp] theorem setReg_tlbs (k : Nat) (v : Word) : (s.setReg k v).tlbs = s.tlbs := rfl
@[simp] theorem modLine_tlbs (k : Nat) (f : Line → Line) : (s.modLine k f).tlbs = s.tlbs := rfl
@[simp] theorem setFld_tlbs (k lo n v : Nat) : (s.setFld k lo n v).tlbs = s.tlbs := rfl
@[simp] theorem modPond_tlbs (k : Nat) (f : Pond → Pond) : (s.modPond k f).tlbs = s.tlbs := rfl
@[simp] theorem setFlag_tlbs (k i : Nat) (b : Bool) : (s.setFlag k i b).tlbs = s.tlbs := rfl
@[simp] theorem modGrid_tlbs (k : Nat) (f : GridSlot → GridSlot) : (s.modGrid k f).tlbs = s.tlbs := rfl
@[simp] theorem count_tlbs (k n : Nat) : (s.count k n).tlbs = s.tlbs := rfl
@[simp] theorem modBmem_tlbs (k : Nat) (f : BasinMem → BasinMem) : (s.modBmem k f).tlbs = s.tlbs := rfl
@[simp] theorem countFld_tlbs (k lo w n : Nat) : (s.countFld k lo w n).tlbs = s.tlbs := rfl
@[simp] theorem modBpow_tlbs (k : Nat) (f : BasinPower → BasinPower) : (s.modBpow k f).tlbs = s.tlbs := rfl
@[simp] theorem dropRegs_tlbs (p : Nat → Bool) : (s.dropRegs p).tlbs = s.tlbs := rfl
@[simp] theorem modChan_tlbs (k : Nat) (f : Channel → Channel) : (s.modChan k f).tlbs = s.tlbs := rfl
@[simp] theorem bump_tlbs : (s.bump).tlbs = s.tlbs := rfl
@[simp] theorem modQueue_tlbs (k : Nat) (f : AQueue → AQueue) : (s.modQueue k f).tlbs = s.tlbs := rfl
@[simp] theorem emit_tlbs (m : Msg) : (s.emit m).tlbs = s.tlbs := rfl
@[simp] theorem modPort_tlbs (k : Nat) (f : Port → Port) : (s.modPort k f).tlbs = s.tlbs := rfl
@[simp] theorem undefAt_tlbs (c : Undefined) (k : Scope) : (s.undefAt c k).tlbs = s.tlbs := rfl
@[simp] theorem modCtx_tlbs (k : Nat) (f : Ctx → Ctx) : (s.modCtx k f).tlbs = s.tlbs := rfl
@[simp] theorem undef_tlbs (c : Undefined) : (s.undef c).tlbs = s.tlbs := rfl
@[simp] theorem modCfl_tlbs (k : Nat) (f : CflEntry → CflEntry) : (s.modCfl k f).tlbs = s.tlbs := rfl
@[simp] theorem atPf0_tlbs : (s.atPf0).tlbs = s.tlbs := rfl
@[simp] theorem modHart_tlbs (k : Nat) (f : Core → Core) : (s.modHart k f).tlbs = s.tlbs := rfl
@[simp] theorem setLayerQ_tlbs (b : Nat) (q : List Layer) : (s.setLayerQ b q).tlbs = s.tlbs := rfl
@[simp] theorem modSpur_tlbs (k : Nat) (f : Spur → Spur) : (s.modSpur k f).tlbs = s.tlbs := rfl
@[simp] theorem modDie_tlbs (k : Nat) (f : Die → Die) : (s.modDie k f).tlbs = s.tlbs := rfl
@[simp] theorem modHealth_tlbs (k : Nat) (f : Health → Health) : (s.modHealth k f).tlbs = s.tlbs := rfl
@[simp] theorem undefIf_tlbs (b : Bool) (c : Undefined) : (s.undefIf b c).tlbs = s.tlbs := by cases b <;> rfl
@[simp] theorem noted_tlbs (v : Via) : (s.noted v).tlbs = s.tlbs := by unfold State.noted; split <;> rfl
@[simp] theorem lowBits_tlbs (a n : Nat) : (s.lowBits a n).2.tlbs = s.tlbs := by unfold State.lowBits; split <;> rfl

/-! What leaves `coh` alone. -/

@[simp] theorem setReg_coh (k : Nat) (v : Word) : (s.setReg k v).coh = s.coh := rfl
@[simp] theorem modLine_coh (k : Nat) (f : Line → Line) : (s.modLine k f).coh = s.coh := rfl
@[simp] theorem setFld_coh (k lo n v : Nat) : (s.setFld k lo n v).coh = s.coh := rfl
@[simp] theorem modPond_coh (k : Nat) (f : Pond → Pond) : (s.modPond k f).coh = s.coh := rfl
@[simp] theorem setFlag_coh (k i : Nat) (b : Bool) : (s.setFlag k i b).coh = s.coh := rfl
@[simp] theorem modGrid_coh (k : Nat) (f : GridSlot → GridSlot) : (s.modGrid k f).coh = s.coh := rfl
@[simp] theorem count_coh (k n : Nat) : (s.count k n).coh = s.coh := rfl
@[simp] theorem modBmem_coh (k : Nat) (f : BasinMem → BasinMem) : (s.modBmem k f).coh = s.coh := rfl
@[simp] theorem countFld_coh (k lo w n : Nat) : (s.countFld k lo w n).coh = s.coh := rfl
@[simp] theorem modBpow_coh (k : Nat) (f : BasinPower → BasinPower) : (s.modBpow k f).coh = s.coh := rfl
@[simp] theorem dropRegs_coh (p : Nat → Bool) : (s.dropRegs p).coh = s.coh := rfl
@[simp] theorem modChan_coh (k : Nat) (f : Channel → Channel) : (s.modChan k f).coh = s.coh := rfl
@[simp] theorem bump_coh : (s.bump).coh = s.coh := rfl
@[simp] theorem modQueue_coh (k : Nat) (f : AQueue → AQueue) : (s.modQueue k f).coh = s.coh := rfl
@[simp] theorem emit_coh (m : Msg) : (s.emit m).coh = s.coh := rfl
@[simp] theorem modPort_coh (k : Nat) (f : Port → Port) : (s.modPort k f).coh = s.coh := rfl
@[simp] theorem undefAt_coh (c : Undefined) (k : Scope) : (s.undefAt c k).coh = s.coh := rfl
@[simp] theorem modCtx_coh (k : Nat) (f : Ctx → Ctx) : (s.modCtx k f).coh = s.coh := rfl
@[simp] theorem undef_coh (c : Undefined) : (s.undef c).coh = s.coh := rfl
@[simp] theorem modCfl_coh (k : Nat) (f : CflEntry → CflEntry) : (s.modCfl k f).coh = s.coh := rfl
@[simp] theorem atPf0_coh : (s.atPf0).coh = s.coh := rfl
@[simp] theorem modHart_coh (k : Nat) (f : Core → Core) : (s.modHart k f).coh = s.coh := rfl
@[simp] theorem setLayerQ_coh (b : Nat) (q : List Layer) : (s.setLayerQ b q).coh = s.coh := rfl
@[simp] theorem modSpur_coh (k : Nat) (f : Spur → Spur) : (s.modSpur k f).coh = s.coh := rfl
@[simp] theorem setTlb_coh (b : Nat) (q : List TlbEntry) : (s.setTlb b q).coh = s.coh := rfl
@[simp] theorem modDie_coh (k : Nat) (f : Die → Die) : (s.modDie k f).coh = s.coh := rfl
@[simp] theorem modHealth_coh (k : Nat) (f : Health → Health) : (s.modHealth k f).coh = s.coh := rfl
@[simp] theorem undefIf_coh (b : Bool) (c : Undefined) : (s.undefIf b c).coh = s.coh := by cases b <;> rfl
@[simp] theorem noted_coh (v : Via) : (s.noted v).coh = s.coh := by unfold State.noted; split <;> rfl
@[simp] theorem lowBits_coh (a n : Nat) : (s.lowBits a n).2.coh = s.coh := by unfold State.lowBits; split <;> rfl

/-! What leaves `chans` alone. -/

@[simp] theorem setReg_chans (k : Nat) (v : Word) : (s.setReg k v).chans = s.chans := rfl
@[simp] theorem modLine_chans (k : Nat) (f : Line → Line) : (s.modLine k f).chans = s.chans := rfl
@[simp] theorem setFld_chans (k lo n v : Nat) : (s.setFld k lo n v).chans = s.chans := rfl
@[simp] theorem modPond_chans (k : Nat) (f : Pond → Pond) : (s.modPond k f).chans = s.chans := rfl
@[simp] theorem setFlag_chans (k i : Nat) (b : Bool) : (s.setFlag k i b).chans = s.chans := rfl
@[simp] theorem modGrid_chans (k : Nat) (f : GridSlot → GridSlot) : (s.modGrid k f).chans = s.chans := rfl
@[simp] theorem count_chans (k n : Nat) : (s.count k n).chans = s.chans := rfl
@[simp] theorem modBmem_chans (k : Nat) (f : BasinMem → BasinMem) : (s.modBmem k f).chans = s.chans := rfl
@[simp] theorem countFld_chans (k lo w n : Nat) : (s.countFld k lo w n).chans = s.chans := rfl
@[simp] theorem modBpow_chans (k : Nat) (f : BasinPower → BasinPower) : (s.modBpow k f).chans = s.chans := rfl
@[simp] theorem dropRegs_chans (p : Nat → Bool) : (s.dropRegs p).chans = s.chans := rfl
@[simp] theorem bump_chans : (s.bump).chans = s.chans := rfl
@[simp] theorem modQueue_chans (k : Nat) (f : AQueue → AQueue) : (s.modQueue k f).chans = s.chans := rfl
@[simp] theorem emit_chans (m : Msg) : (s.emit m).chans = s.chans := rfl
@[simp] theorem modPort_chans (k : Nat) (f : Port → Port) : (s.modPort k f).chans = s.chans := rfl
@[simp] theorem undefAt_chans (c : Undefined) (k : Scope) : (s.undefAt c k).chans = s.chans := rfl
@[simp] theorem modCtx_chans (k : Nat) (f : Ctx → Ctx) : (s.modCtx k f).chans = s.chans := rfl
@[simp] theorem undef_chans (c : Undefined) : (s.undef c).chans = s.chans := rfl
@[simp] theorem modCfl_chans (k : Nat) (f : CflEntry → CflEntry) : (s.modCfl k f).chans = s.chans := rfl
@[simp] theorem atPf0_chans : (s.atPf0).chans = s.chans := rfl
@[simp] theorem modHart_chans (k : Nat) (f : Core → Core) : (s.modHart k f).chans = s.chans := rfl
@[simp] theorem setLayerQ_chans (b : Nat) (q : List Layer) : (s.setLayerQ b q).chans = s.chans := rfl
@[simp] theorem modSpur_chans (k : Nat) (f : Spur → Spur) : (s.modSpur k f).chans = s.chans := rfl
@[simp] theorem setTlb_chans (b : Nat) (q : List TlbEntry) : (s.setTlb b q).chans = s.chans := rfl
@[simp] theorem modDie_chans (k : Nat) (f : Die → Die) : (s.modDie k f).chans = s.chans := rfl
@[simp] theorem modHealth_chans (k : Nat) (f : Health → Health) : (s.modHealth k f).chans = s.chans := rfl
@[simp] theorem undefIf_chans (b : Bool) (c : Undefined) : (s.undefIf b c).chans = s.chans := by cases b <;> rfl
@[simp] theorem noted_chans (v : Via) : (s.noted v).chans = s.chans := by unfold State.noted; split <;> rfl
@[simp] theorem lowBits_chans (a n : Nat) : (s.lowBits a n).2.chans = s.chans := by unfold State.lowBits; split <;> rfl

/-! What leaves `arbs` alone. -/

@[simp] theorem setReg_arbs (k : Nat) (v : Word) : (s.setReg k v).arbs = s.arbs := rfl
@[simp] theorem modLine_arbs (k : Nat) (f : Line → Line) : (s.modLine k f).arbs = s.arbs := rfl
@[simp] theorem setFld_arbs (k lo n v : Nat) : (s.setFld k lo n v).arbs = s.arbs := rfl
@[simp] theorem modPond_arbs (k : Nat) (f : Pond → Pond) : (s.modPond k f).arbs = s.arbs := rfl
@[simp] theorem setFlag_arbs (k i : Nat) (b : Bool) : (s.setFlag k i b).arbs = s.arbs := rfl
@[simp] theorem modGrid_arbs (k : Nat) (f : GridSlot → GridSlot) : (s.modGrid k f).arbs = s.arbs := rfl
@[simp] theorem count_arbs (k n : Nat) : (s.count k n).arbs = s.arbs := rfl
@[simp] theorem modBmem_arbs (k : Nat) (f : BasinMem → BasinMem) : (s.modBmem k f).arbs = s.arbs := rfl
@[simp] theorem countFld_arbs (k lo w n : Nat) : (s.countFld k lo w n).arbs = s.arbs := rfl
@[simp] theorem modBpow_arbs (k : Nat) (f : BasinPower → BasinPower) : (s.modBpow k f).arbs = s.arbs := rfl
@[simp] theorem dropRegs_arbs (p : Nat → Bool) : (s.dropRegs p).arbs = s.arbs := rfl
@[simp] theorem modChan_arbs (k : Nat) (f : Channel → Channel) : (s.modChan k f).arbs = s.arbs := rfl
@[simp] theorem bump_arbs : (s.bump).arbs = s.arbs := rfl
@[simp] theorem modQueue_arbs (k : Nat) (f : AQueue → AQueue) : (s.modQueue k f).arbs = s.arbs := rfl
@[simp] theorem emit_arbs (m : Msg) : (s.emit m).arbs = s.arbs := rfl
@[simp] theorem modPort_arbs (k : Nat) (f : Port → Port) : (s.modPort k f).arbs = s.arbs := rfl
@[simp] theorem undefAt_arbs (c : Undefined) (k : Scope) : (s.undefAt c k).arbs = s.arbs := rfl
@[simp] theorem modCtx_arbs (k : Nat) (f : Ctx → Ctx) : (s.modCtx k f).arbs = s.arbs := rfl
@[simp] theorem undef_arbs (c : Undefined) : (s.undef c).arbs = s.arbs := rfl
@[simp] theorem modCfl_arbs (k : Nat) (f : CflEntry → CflEntry) : (s.modCfl k f).arbs = s.arbs := rfl
@[simp] theorem atPf0_arbs : (s.atPf0).arbs = s.arbs := rfl
@[simp] theorem modHart_arbs (k : Nat) (f : Core → Core) : (s.modHart k f).arbs = s.arbs := rfl
@[simp] theorem setLayerQ_arbs (b : Nat) (q : List Layer) : (s.setLayerQ b q).arbs = s.arbs := rfl
@[simp] theorem modSpur_arbs (k : Nat) (f : Spur → Spur) : (s.modSpur k f).arbs = s.arbs := rfl
@[simp] theorem setTlb_arbs (b : Nat) (q : List TlbEntry) : (s.setTlb b q).arbs = s.arbs := rfl
@[simp] theorem modDie_arbs (k : Nat) (f : Die → Die) : (s.modDie k f).arbs = s.arbs := rfl
@[simp] theorem modHealth_arbs (k : Nat) (f : Health → Health) : (s.modHealth k f).arbs = s.arbs := rfl
@[simp] theorem undefIf_arbs (b : Bool) (c : Undefined) : (s.undefIf b c).arbs = s.arbs := by cases b <;> rfl
@[simp] theorem noted_arbs (v : Via) : (s.noted v).arbs = s.arbs := by unfold State.noted; split <;> rfl
@[simp] theorem lowBits_arbs (a n : Nat) : (s.lowBits a n).2.arbs = s.arbs := by unfold State.lowBits; split <;> rfl

/-! What leaves `queues` alone. -/

@[simp] theorem setReg_queues (k : Nat) (v : Word) : (s.setReg k v).queues = s.queues := rfl
@[simp] theorem modLine_queues (k : Nat) (f : Line → Line) : (s.modLine k f).queues = s.queues := rfl
@[simp] theorem setFld_queues (k lo n v : Nat) : (s.setFld k lo n v).queues = s.queues := rfl
@[simp] theorem modPond_queues (k : Nat) (f : Pond → Pond) : (s.modPond k f).queues = s.queues := rfl
@[simp] theorem setFlag_queues (k i : Nat) (b : Bool) : (s.setFlag k i b).queues = s.queues := rfl
@[simp] theorem modGrid_queues (k : Nat) (f : GridSlot → GridSlot) : (s.modGrid k f).queues = s.queues := rfl
@[simp] theorem count_queues (k n : Nat) : (s.count k n).queues = s.queues := rfl
@[simp] theorem modBmem_queues (k : Nat) (f : BasinMem → BasinMem) : (s.modBmem k f).queues = s.queues := rfl
@[simp] theorem countFld_queues (k lo w n : Nat) : (s.countFld k lo w n).queues = s.queues := rfl
@[simp] theorem modBpow_queues (k : Nat) (f : BasinPower → BasinPower) : (s.modBpow k f).queues = s.queues := rfl
@[simp] theorem dropRegs_queues (p : Nat → Bool) : (s.dropRegs p).queues = s.queues := rfl
@[simp] theorem modChan_queues (k : Nat) (f : Channel → Channel) : (s.modChan k f).queues = s.queues := rfl
@[simp] theorem bump_queues : (s.bump).queues = s.queues := rfl
@[simp] theorem emit_queues (m : Msg) : (s.emit m).queues = s.queues := rfl
@[simp] theorem modPort_queues (k : Nat) (f : Port → Port) : (s.modPort k f).queues = s.queues := rfl
@[simp] theorem undefAt_queues (c : Undefined) (k : Scope) : (s.undefAt c k).queues = s.queues := rfl
@[simp] theorem modCtx_queues (k : Nat) (f : Ctx → Ctx) : (s.modCtx k f).queues = s.queues := rfl
@[simp] theorem undef_queues (c : Undefined) : (s.undef c).queues = s.queues := rfl
@[simp] theorem modCfl_queues (k : Nat) (f : CflEntry → CflEntry) : (s.modCfl k f).queues = s.queues := rfl
@[simp] theorem atPf0_queues : (s.atPf0).queues = s.queues := rfl
@[simp] theorem modHart_queues (k : Nat) (f : Core → Core) : (s.modHart k f).queues = s.queues := rfl
@[simp] theorem setLayerQ_queues (b : Nat) (q : List Layer) : (s.setLayerQ b q).queues = s.queues := rfl
@[simp] theorem modSpur_queues (k : Nat) (f : Spur → Spur) : (s.modSpur k f).queues = s.queues := rfl
@[simp] theorem setTlb_queues (b : Nat) (q : List TlbEntry) : (s.setTlb b q).queues = s.queues := rfl
@[simp] theorem modDie_queues (k : Nat) (f : Die → Die) : (s.modDie k f).queues = s.queues := rfl
@[simp] theorem modHealth_queues (k : Nat) (f : Health → Health) : (s.modHealth k f).queues = s.queues := rfl
@[simp] theorem undefIf_queues (b : Bool) (c : Undefined) : (s.undefIf b c).queues = s.queues := by cases b <;> rfl
@[simp] theorem noted_queues (v : Via) : (s.noted v).queues = s.queues := by unfold State.noted; split <;> rfl
@[simp] theorem lowBits_queues (a n : Nat) : (s.lowBits a n).2.queues = s.queues := by unfold State.lowBits; split <;> rfl

/-! What leaves `host` alone. -/

@[simp] theorem setReg_host (k : Nat) (v : Word) : (s.setReg k v).host = s.host := rfl
@[simp] theorem modLine_host (k : Nat) (f : Line → Line) : (s.modLine k f).host = s.host := rfl
@[simp] theorem setFld_host (k lo n v : Nat) : (s.setFld k lo n v).host = s.host := rfl
@[simp] theorem modPond_host (k : Nat) (f : Pond → Pond) : (s.modPond k f).host = s.host := rfl
@[simp] theorem setFlag_host (k i : Nat) (b : Bool) : (s.setFlag k i b).host = s.host := rfl
@[simp] theorem modGrid_host (k : Nat) (f : GridSlot → GridSlot) : (s.modGrid k f).host = s.host := rfl
@[simp] theorem count_host (k n : Nat) : (s.count k n).host = s.host := rfl
@[simp] theorem modBmem_host (k : Nat) (f : BasinMem → BasinMem) : (s.modBmem k f).host = s.host := rfl
@[simp] theorem countFld_host (k lo w n : Nat) : (s.countFld k lo w n).host = s.host := rfl
@[simp] theorem modBpow_host (k : Nat) (f : BasinPower → BasinPower) : (s.modBpow k f).host = s.host := rfl
@[simp] theorem dropRegs_host (p : Nat → Bool) : (s.dropRegs p).host = s.host := rfl
@[simp] theorem modChan_host (k : Nat) (f : Channel → Channel) : (s.modChan k f).host = s.host := rfl
@[simp] theorem bump_host : (s.bump).host = s.host := rfl
@[simp] theorem modQueue_host (k : Nat) (f : AQueue → AQueue) : (s.modQueue k f).host = s.host := rfl
@[simp] theorem emit_host (m : Msg) : (s.emit m).host = s.host := rfl
@[simp] theorem modPort_host (k : Nat) (f : Port → Port) : (s.modPort k f).host = s.host := rfl
@[simp] theorem undefAt_host (c : Undefined) (k : Scope) : (s.undefAt c k).host = s.host := rfl
@[simp] theorem modCtx_host (k : Nat) (f : Ctx → Ctx) : (s.modCtx k f).host = s.host := rfl
@[simp] theorem undef_host (c : Undefined) : (s.undef c).host = s.host := rfl
@[simp] theorem modCfl_host (k : Nat) (f : CflEntry → CflEntry) : (s.modCfl k f).host = s.host := rfl
@[simp] theorem atPf0_host : (s.atPf0).host = s.host := rfl
@[simp] theorem modHart_host (k : Nat) (f : Core → Core) : (s.modHart k f).host = s.host := rfl
@[simp] theorem setLayerQ_host (b : Nat) (q : List Layer) : (s.setLayerQ b q).host = s.host := rfl
@[simp] theorem modSpur_host (k : Nat) (f : Spur → Spur) : (s.modSpur k f).host = s.host := rfl
@[simp] theorem setTlb_host (b : Nat) (q : List TlbEntry) : (s.setTlb b q).host = s.host := rfl
@[simp] theorem modDie_host (k : Nat) (f : Die → Die) : (s.modDie k f).host = s.host := rfl
@[simp] theorem modHealth_host (k : Nat) (f : Health → Health) : (s.modHealth k f).host = s.host := rfl
@[simp] theorem undefIf_host (b : Bool) (c : Undefined) : (s.undefIf b c).host = s.host := by cases b <;> rfl
@[simp] theorem noted_host (v : Via) : (s.noted v).host = s.host := by unfold State.noted; split <;> rfl
@[simp] theorem lowBits_host (a n : Nat) : (s.lowBits a n).2.host = s.host := by unfold State.lowBits; split <;> rfl

/-! What leaves `ports` alone. -/

@[simp] theorem setReg_ports (k : Nat) (v : Word) : (s.setReg k v).ports = s.ports := rfl
@[simp] theorem modLine_ports (k : Nat) (f : Line → Line) : (s.modLine k f).ports = s.ports := rfl
@[simp] theorem setFld_ports (k lo n v : Nat) : (s.setFld k lo n v).ports = s.ports := rfl
@[simp] theorem modPond_ports (k : Nat) (f : Pond → Pond) : (s.modPond k f).ports = s.ports := rfl
@[simp] theorem setFlag_ports (k i : Nat) (b : Bool) : (s.setFlag k i b).ports = s.ports := rfl
@[simp] theorem modGrid_ports (k : Nat) (f : GridSlot → GridSlot) : (s.modGrid k f).ports = s.ports := rfl
@[simp] theorem count_ports (k n : Nat) : (s.count k n).ports = s.ports := rfl
@[simp] theorem modBmem_ports (k : Nat) (f : BasinMem → BasinMem) : (s.modBmem k f).ports = s.ports := rfl
@[simp] theorem countFld_ports (k lo w n : Nat) : (s.countFld k lo w n).ports = s.ports := rfl
@[simp] theorem modBpow_ports (k : Nat) (f : BasinPower → BasinPower) : (s.modBpow k f).ports = s.ports := rfl
@[simp] theorem dropRegs_ports (p : Nat → Bool) : (s.dropRegs p).ports = s.ports := rfl
@[simp] theorem modChan_ports (k : Nat) (f : Channel → Channel) : (s.modChan k f).ports = s.ports := rfl
@[simp] theorem bump_ports : (s.bump).ports = s.ports := rfl
@[simp] theorem modQueue_ports (k : Nat) (f : AQueue → AQueue) : (s.modQueue k f).ports = s.ports := rfl
@[simp] theorem emit_ports (m : Msg) : (s.emit m).ports = s.ports := rfl
@[simp] theorem undefAt_ports (c : Undefined) (k : Scope) : (s.undefAt c k).ports = s.ports := rfl
@[simp] theorem modCtx_ports (k : Nat) (f : Ctx → Ctx) : (s.modCtx k f).ports = s.ports := rfl
@[simp] theorem undef_ports (c : Undefined) : (s.undef c).ports = s.ports := rfl
@[simp] theorem modCfl_ports (k : Nat) (f : CflEntry → CflEntry) : (s.modCfl k f).ports = s.ports := rfl
@[simp] theorem atPf0_ports : (s.atPf0).ports = s.ports := rfl
@[simp] theorem modHart_ports (k : Nat) (f : Core → Core) : (s.modHart k f).ports = s.ports := rfl
@[simp] theorem setLayerQ_ports (b : Nat) (q : List Layer) : (s.setLayerQ b q).ports = s.ports := rfl
@[simp] theorem modSpur_ports (k : Nat) (f : Spur → Spur) : (s.modSpur k f).ports = s.ports := rfl
@[simp] theorem setTlb_ports (b : Nat) (q : List TlbEntry) : (s.setTlb b q).ports = s.ports := rfl
@[simp] theorem modDie_ports (k : Nat) (f : Die → Die) : (s.modDie k f).ports = s.ports := rfl
@[simp] theorem modHealth_ports (k : Nat) (f : Health → Health) : (s.modHealth k f).ports = s.ports := rfl
@[simp] theorem undefIf_ports (b : Bool) (c : Undefined) : (s.undefIf b c).ports = s.ports := by cases b <;> rfl
@[simp] theorem noted_ports (v : Via) : (s.noted v).ports = s.ports := by unfold State.noted; split <;> rfl
@[simp] theorem lowBits_ports (a n : Nat) : (s.lowBits a n).2.ports = s.ports := by unfold State.lowBits; split <;> rfl

/-! What leaves `ctxs` alone. -/

@[simp] theorem setReg_ctxs (k : Nat) (v : Word) : (s.setReg k v).ctxs = s.ctxs := rfl
@[simp] theorem modLine_ctxs (k : Nat) (f : Line → Line) : (s.modLine k f).ctxs = s.ctxs := rfl
@[simp] theorem setFld_ctxs (k lo n v : Nat) : (s.setFld k lo n v).ctxs = s.ctxs := rfl
@[simp] theorem modPond_ctxs (k : Nat) (f : Pond → Pond) : (s.modPond k f).ctxs = s.ctxs := rfl
@[simp] theorem setFlag_ctxs (k i : Nat) (b : Bool) : (s.setFlag k i b).ctxs = s.ctxs := rfl
@[simp] theorem modGrid_ctxs (k : Nat) (f : GridSlot → GridSlot) : (s.modGrid k f).ctxs = s.ctxs := rfl
@[simp] theorem count_ctxs (k n : Nat) : (s.count k n).ctxs = s.ctxs := rfl
@[simp] theorem modBmem_ctxs (k : Nat) (f : BasinMem → BasinMem) : (s.modBmem k f).ctxs = s.ctxs := rfl
@[simp] theorem countFld_ctxs (k lo w n : Nat) : (s.countFld k lo w n).ctxs = s.ctxs := rfl
@[simp] theorem modBpow_ctxs (k : Nat) (f : BasinPower → BasinPower) : (s.modBpow k f).ctxs = s.ctxs := rfl
@[simp] theorem dropRegs_ctxs (p : Nat → Bool) : (s.dropRegs p).ctxs = s.ctxs := rfl
@[simp] theorem modChan_ctxs (k : Nat) (f : Channel → Channel) : (s.modChan k f).ctxs = s.ctxs := rfl
@[simp] theorem bump_ctxs : (s.bump).ctxs = s.ctxs := rfl
@[simp] theorem modQueue_ctxs (k : Nat) (f : AQueue → AQueue) : (s.modQueue k f).ctxs = s.ctxs := rfl
@[simp] theorem emit_ctxs (m : Msg) : (s.emit m).ctxs = s.ctxs := rfl
@[simp] theorem modPort_ctxs (k : Nat) (f : Port → Port) : (s.modPort k f).ctxs = s.ctxs := rfl
@[simp] theorem undefAt_ctxs (c : Undefined) (k : Scope) : (s.undefAt c k).ctxs = s.ctxs := rfl
@[simp] theorem undef_ctxs (c : Undefined) : (s.undef c).ctxs = s.ctxs := rfl
@[simp] theorem modCfl_ctxs (k : Nat) (f : CflEntry → CflEntry) : (s.modCfl k f).ctxs = s.ctxs := rfl
@[simp] theorem atPf0_ctxs : (s.atPf0).ctxs = s.ctxs := rfl
@[simp] theorem modHart_ctxs (k : Nat) (f : Core → Core) : (s.modHart k f).ctxs = s.ctxs := rfl
@[simp] theorem setLayerQ_ctxs (b : Nat) (q : List Layer) : (s.setLayerQ b q).ctxs = s.ctxs := rfl
@[simp] theorem modSpur_ctxs (k : Nat) (f : Spur → Spur) : (s.modSpur k f).ctxs = s.ctxs := rfl
@[simp] theorem setTlb_ctxs (b : Nat) (q : List TlbEntry) : (s.setTlb b q).ctxs = s.ctxs := rfl
@[simp] theorem modDie_ctxs (k : Nat) (f : Die → Die) : (s.modDie k f).ctxs = s.ctxs := rfl
@[simp] theorem modHealth_ctxs (k : Nat) (f : Health → Health) : (s.modHealth k f).ctxs = s.ctxs := rfl
@[simp] theorem undefIf_ctxs (b : Bool) (c : Undefined) : (s.undefIf b c).ctxs = s.ctxs := by cases b <;> rfl
@[simp] theorem noted_ctxs (v : Via) : (s.noted v).ctxs = s.ctxs := by unfold State.noted; split <;> rfl
@[simp] theorem lowBits_ctxs (a n : Nat) : (s.lowBits a n).2.ctxs = s.ctxs := by unfold State.lowBits; split <;> rfl

/-! What leaves `cfls` alone. -/

@[simp] theorem setReg_cfls (k : Nat) (v : Word) : (s.setReg k v).cfls = s.cfls := rfl
@[simp] theorem modLine_cfls (k : Nat) (f : Line → Line) : (s.modLine k f).cfls = s.cfls := rfl
@[simp] theorem setFld_cfls (k lo n v : Nat) : (s.setFld k lo n v).cfls = s.cfls := rfl
@[simp] theorem modPond_cfls (k : Nat) (f : Pond → Pond) : (s.modPond k f).cfls = s.cfls := rfl
@[simp] theorem setFlag_cfls (k i : Nat) (b : Bool) : (s.setFlag k i b).cfls = s.cfls := rfl
@[simp] theorem modGrid_cfls (k : Nat) (f : GridSlot → GridSlot) : (s.modGrid k f).cfls = s.cfls := rfl
@[simp] theorem count_cfls (k n : Nat) : (s.count k n).cfls = s.cfls := rfl
@[simp] theorem modBmem_cfls (k : Nat) (f : BasinMem → BasinMem) : (s.modBmem k f).cfls = s.cfls := rfl
@[simp] theorem countFld_cfls (k lo w n : Nat) : (s.countFld k lo w n).cfls = s.cfls := rfl
@[simp] theorem modBpow_cfls (k : Nat) (f : BasinPower → BasinPower) : (s.modBpow k f).cfls = s.cfls := rfl
@[simp] theorem dropRegs_cfls (p : Nat → Bool) : (s.dropRegs p).cfls = s.cfls := rfl
@[simp] theorem modChan_cfls (k : Nat) (f : Channel → Channel) : (s.modChan k f).cfls = s.cfls := rfl
@[simp] theorem bump_cfls : (s.bump).cfls = s.cfls := rfl
@[simp] theorem modQueue_cfls (k : Nat) (f : AQueue → AQueue) : (s.modQueue k f).cfls = s.cfls := rfl
@[simp] theorem emit_cfls (m : Msg) : (s.emit m).cfls = s.cfls := rfl
@[simp] theorem modPort_cfls (k : Nat) (f : Port → Port) : (s.modPort k f).cfls = s.cfls := rfl
@[simp] theorem undefAt_cfls (c : Undefined) (k : Scope) : (s.undefAt c k).cfls = s.cfls := rfl
@[simp] theorem modCtx_cfls (k : Nat) (f : Ctx → Ctx) : (s.modCtx k f).cfls = s.cfls := rfl
@[simp] theorem undef_cfls (c : Undefined) : (s.undef c).cfls = s.cfls := rfl
@[simp] theorem atPf0_cfls : (s.atPf0).cfls = s.cfls := rfl
@[simp] theorem modHart_cfls (k : Nat) (f : Core → Core) : (s.modHart k f).cfls = s.cfls := rfl
@[simp] theorem setLayerQ_cfls (b : Nat) (q : List Layer) : (s.setLayerQ b q).cfls = s.cfls := rfl
@[simp] theorem modSpur_cfls (k : Nat) (f : Spur → Spur) : (s.modSpur k f).cfls = s.cfls := rfl
@[simp] theorem setTlb_cfls (b : Nat) (q : List TlbEntry) : (s.setTlb b q).cfls = s.cfls := rfl
@[simp] theorem modDie_cfls (k : Nat) (f : Die → Die) : (s.modDie k f).cfls = s.cfls := rfl
@[simp] theorem modHealth_cfls (k : Nat) (f : Health → Health) : (s.modHealth k f).cfls = s.cfls := rfl
@[simp] theorem undefIf_cfls (b : Bool) (c : Undefined) : (s.undefIf b c).cfls = s.cfls := by cases b <;> rfl
@[simp] theorem noted_cfls (v : Via) : (s.noted v).cfls = s.cfls := by unfold State.noted; split <;> rfl
@[simp] theorem lowBits_cfls (a n : Nat) : (s.lowBits a n).2.cfls = s.cfls := by unfold State.lowBits; split <;> rfl

/-! What leaves `layers` alone. -/

@[simp] theorem setReg_layers (k : Nat) (v : Word) : (s.setReg k v).layers = s.layers := rfl
@[simp] theorem modLine_layers (k : Nat) (f : Line → Line) : (s.modLine k f).layers = s.layers := rfl
@[simp] theorem setFld_layers (k lo n v : Nat) : (s.setFld k lo n v).layers = s.layers := rfl
@[simp] theorem modPond_layers (k : Nat) (f : Pond → Pond) : (s.modPond k f).layers = s.layers := rfl
@[simp] theorem setFlag_layers (k i : Nat) (b : Bool) : (s.setFlag k i b).layers = s.layers := rfl
@[simp] theorem modGrid_layers (k : Nat) (f : GridSlot → GridSlot) : (s.modGrid k f).layers = s.layers := rfl
@[simp] theorem count_layers (k n : Nat) : (s.count k n).layers = s.layers := rfl
@[simp] theorem modBmem_layers (k : Nat) (f : BasinMem → BasinMem) : (s.modBmem k f).layers = s.layers := rfl
@[simp] theorem countFld_layers (k lo w n : Nat) : (s.countFld k lo w n).layers = s.layers := rfl
@[simp] theorem modBpow_layers (k : Nat) (f : BasinPower → BasinPower) : (s.modBpow k f).layers = s.layers := rfl
@[simp] theorem dropRegs_layers (p : Nat → Bool) : (s.dropRegs p).layers = s.layers := rfl
@[simp] theorem modChan_layers (k : Nat) (f : Channel → Channel) : (s.modChan k f).layers = s.layers := rfl
@[simp] theorem bump_layers : (s.bump).layers = s.layers := rfl
@[simp] theorem modQueue_layers (k : Nat) (f : AQueue → AQueue) : (s.modQueue k f).layers = s.layers := rfl
@[simp] theorem emit_layers (m : Msg) : (s.emit m).layers = s.layers := rfl
@[simp] theorem modPort_layers (k : Nat) (f : Port → Port) : (s.modPort k f).layers = s.layers := rfl
@[simp] theorem undefAt_layers (c : Undefined) (k : Scope) : (s.undefAt c k).layers = s.layers := rfl
@[simp] theorem modCtx_layers (k : Nat) (f : Ctx → Ctx) : (s.modCtx k f).layers = s.layers := rfl
@[simp] theorem undef_layers (c : Undefined) : (s.undef c).layers = s.layers := rfl
@[simp] theorem modCfl_layers (k : Nat) (f : CflEntry → CflEntry) : (s.modCfl k f).layers = s.layers := rfl
@[simp] theorem atPf0_layers : (s.atPf0).layers = s.layers := rfl
@[simp] theorem modHart_layers (k : Nat) (f : Core → Core) : (s.modHart k f).layers = s.layers := rfl
@[simp] theorem modSpur_layers (k : Nat) (f : Spur → Spur) : (s.modSpur k f).layers = s.layers := rfl
@[simp] theorem setTlb_layers (b : Nat) (q : List TlbEntry) : (s.setTlb b q).layers = s.layers := rfl
@[simp] theorem modDie_layers (k : Nat) (f : Die → Die) : (s.modDie k f).layers = s.layers := rfl
@[simp] theorem modHealth_layers (k : Nat) (f : Health → Health) : (s.modHealth k f).layers = s.layers := rfl
@[simp] theorem undefIf_layers (b : Bool) (c : Undefined) : (s.undefIf b c).layers = s.layers := by cases b <;> rfl
@[simp] theorem noted_layers (v : Via) : (s.noted v).layers = s.layers := by unfold State.noted; split <;> rfl
@[simp] theorem lowBits_layers (a n : Nat) : (s.lowBits a n).2.layers = s.layers := by unfold State.lowBits; split <;> rfl

/-! What leaves `harts` alone. -/

@[simp] theorem setReg_harts (k : Nat) (v : Word) : (s.setReg k v).harts = s.harts := rfl
@[simp] theorem modLine_harts (k : Nat) (f : Line → Line) : (s.modLine k f).harts = s.harts := rfl
@[simp] theorem setFld_harts (k lo n v : Nat) : (s.setFld k lo n v).harts = s.harts := rfl
@[simp] theorem modPond_harts (k : Nat) (f : Pond → Pond) : (s.modPond k f).harts = s.harts := rfl
@[simp] theorem setFlag_harts (k i : Nat) (b : Bool) : (s.setFlag k i b).harts = s.harts := rfl
@[simp] theorem modGrid_harts (k : Nat) (f : GridSlot → GridSlot) : (s.modGrid k f).harts = s.harts := rfl
@[simp] theorem count_harts (k n : Nat) : (s.count k n).harts = s.harts := rfl
@[simp] theorem modBmem_harts (k : Nat) (f : BasinMem → BasinMem) : (s.modBmem k f).harts = s.harts := rfl
@[simp] theorem countFld_harts (k lo w n : Nat) : (s.countFld k lo w n).harts = s.harts := rfl
@[simp] theorem modBpow_harts (k : Nat) (f : BasinPower → BasinPower) : (s.modBpow k f).harts = s.harts := rfl
@[simp] theorem dropRegs_harts (p : Nat → Bool) : (s.dropRegs p).harts = s.harts := rfl
@[simp] theorem modChan_harts (k : Nat) (f : Channel → Channel) : (s.modChan k f).harts = s.harts := rfl
@[simp] theorem bump_harts : (s.bump).harts = s.harts := rfl
@[simp] theorem modQueue_harts (k : Nat) (f : AQueue → AQueue) : (s.modQueue k f).harts = s.harts := rfl
@[simp] theorem emit_harts (m : Msg) : (s.emit m).harts = s.harts := rfl
@[simp] theorem modPort_harts (k : Nat) (f : Port → Port) : (s.modPort k f).harts = s.harts := rfl
@[simp] theorem undefAt_harts (c : Undefined) (k : Scope) : (s.undefAt c k).harts = s.harts := rfl
@[simp] theorem modCtx_harts (k : Nat) (f : Ctx → Ctx) : (s.modCtx k f).harts = s.harts := rfl
@[simp] theorem undef_harts (c : Undefined) : (s.undef c).harts = s.harts := rfl
@[simp] theorem modCfl_harts (k : Nat) (f : CflEntry → CflEntry) : (s.modCfl k f).harts = s.harts := rfl
@[simp] theorem atPf0_harts : (s.atPf0).harts = s.harts := rfl
@[simp] theorem setLayerQ_harts (b : Nat) (q : List Layer) : (s.setLayerQ b q).harts = s.harts := rfl
@[simp] theorem modSpur_harts (k : Nat) (f : Spur → Spur) : (s.modSpur k f).harts = s.harts := rfl
@[simp] theorem setTlb_harts (b : Nat) (q : List TlbEntry) : (s.setTlb b q).harts = s.harts := rfl
@[simp] theorem modDie_harts (k : Nat) (f : Die → Die) : (s.modDie k f).harts = s.harts := rfl
@[simp] theorem modHealth_harts (k : Nat) (f : Health → Health) : (s.modHealth k f).harts = s.harts := rfl
@[simp] theorem undefIf_harts (b : Bool) (c : Undefined) : (s.undefIf b c).harts = s.harts := by cases b <;> rfl
@[simp] theorem noted_harts (v : Via) : (s.noted v).harts = s.harts := by unfold State.noted; split <;> rfl
@[simp] theorem lowBits_harts (a n : Nat) : (s.lowBits a n).2.harts = s.harts := by unfold State.lowBits; split <;> rfl

/-! What leaves `spurs` alone. -/

@[simp] theorem setReg_spurs (k : Nat) (v : Word) : (s.setReg k v).spurs = s.spurs := rfl
@[simp] theorem modLine_spurs (k : Nat) (f : Line → Line) : (s.modLine k f).spurs = s.spurs := rfl
@[simp] theorem setFld_spurs (k lo n v : Nat) : (s.setFld k lo n v).spurs = s.spurs := rfl
@[simp] theorem modPond_spurs (k : Nat) (f : Pond → Pond) : (s.modPond k f).spurs = s.spurs := rfl
@[simp] theorem setFlag_spurs (k i : Nat) (b : Bool) : (s.setFlag k i b).spurs = s.spurs := rfl
@[simp] theorem modGrid_spurs (k : Nat) (f : GridSlot → GridSlot) : (s.modGrid k f).spurs = s.spurs := rfl
@[simp] theorem count_spurs (k n : Nat) : (s.count k n).spurs = s.spurs := rfl
@[simp] theorem modBmem_spurs (k : Nat) (f : BasinMem → BasinMem) : (s.modBmem k f).spurs = s.spurs := rfl
@[simp] theorem countFld_spurs (k lo w n : Nat) : (s.countFld k lo w n).spurs = s.spurs := rfl
@[simp] theorem modBpow_spurs (k : Nat) (f : BasinPower → BasinPower) : (s.modBpow k f).spurs = s.spurs := rfl
@[simp] theorem dropRegs_spurs (p : Nat → Bool) : (s.dropRegs p).spurs = s.spurs := rfl
@[simp] theorem modChan_spurs (k : Nat) (f : Channel → Channel) : (s.modChan k f).spurs = s.spurs := rfl
@[simp] theorem bump_spurs : (s.bump).spurs = s.spurs := rfl
@[simp] theorem modQueue_spurs (k : Nat) (f : AQueue → AQueue) : (s.modQueue k f).spurs = s.spurs := rfl
@[simp] theorem emit_spurs (m : Msg) : (s.emit m).spurs = s.spurs := rfl
@[simp] theorem modPort_spurs (k : Nat) (f : Port → Port) : (s.modPort k f).spurs = s.spurs := rfl
@[simp] theorem undefAt_spurs (c : Undefined) (k : Scope) : (s.undefAt c k).spurs = s.spurs := rfl
@[simp] theorem modCtx_spurs (k : Nat) (f : Ctx → Ctx) : (s.modCtx k f).spurs = s.spurs := rfl
@[simp] theorem undef_spurs (c : Undefined) : (s.undef c).spurs = s.spurs := rfl
@[simp] theorem modCfl_spurs (k : Nat) (f : CflEntry → CflEntry) : (s.modCfl k f).spurs = s.spurs := rfl
@[simp] theorem atPf0_spurs : (s.atPf0).spurs = s.spurs := rfl
@[simp] theorem modHart_spurs (k : Nat) (f : Core → Core) : (s.modHart k f).spurs = s.spurs := rfl
@[simp] theorem setLayerQ_spurs (b : Nat) (q : List Layer) : (s.setLayerQ b q).spurs = s.spurs := rfl
@[simp] theorem setTlb_spurs (b : Nat) (q : List TlbEntry) : (s.setTlb b q).spurs = s.spurs := rfl
@[simp] theorem modDie_spurs (k : Nat) (f : Die → Die) : (s.modDie k f).spurs = s.spurs := rfl
@[simp] theorem modHealth_spurs (k : Nat) (f : Health → Health) : (s.modHealth k f).spurs = s.spurs := rfl
@[simp] theorem undefIf_spurs (b : Bool) (c : Undefined) : (s.undefIf b c).spurs = s.spurs := by cases b <;> rfl
@[simp] theorem noted_spurs (v : Via) : (s.noted v).spurs = s.spurs := by unfold State.noted; split <;> rfl
@[simp] theorem lowBits_spurs (a n : Nat) : (s.lowBits a n).2.spurs = s.spurs := by unfold State.lowBits; split <;> rfl

/-! What leaves `dies` alone. -/

@[simp] theorem setReg_dies (k : Nat) (v : Word) : (s.setReg k v).dies = s.dies := rfl
@[simp] theorem modLine_dies (k : Nat) (f : Line → Line) : (s.modLine k f).dies = s.dies := rfl
@[simp] theorem setFld_dies (k lo n v : Nat) : (s.setFld k lo n v).dies = s.dies := rfl
@[simp] theorem modPond_dies (k : Nat) (f : Pond → Pond) : (s.modPond k f).dies = s.dies := rfl
@[simp] theorem setFlag_dies (k i : Nat) (b : Bool) : (s.setFlag k i b).dies = s.dies := rfl
@[simp] theorem modGrid_dies (k : Nat) (f : GridSlot → GridSlot) : (s.modGrid k f).dies = s.dies := rfl
@[simp] theorem count_dies (k n : Nat) : (s.count k n).dies = s.dies := rfl
@[simp] theorem modBmem_dies (k : Nat) (f : BasinMem → BasinMem) : (s.modBmem k f).dies = s.dies := rfl
@[simp] theorem countFld_dies (k lo w n : Nat) : (s.countFld k lo w n).dies = s.dies := rfl
@[simp] theorem modBpow_dies (k : Nat) (f : BasinPower → BasinPower) : (s.modBpow k f).dies = s.dies := rfl
@[simp] theorem dropRegs_dies (p : Nat → Bool) : (s.dropRegs p).dies = s.dies := rfl
@[simp] theorem modChan_dies (k : Nat) (f : Channel → Channel) : (s.modChan k f).dies = s.dies := rfl
@[simp] theorem bump_dies : (s.bump).dies = s.dies := rfl
@[simp] theorem modQueue_dies (k : Nat) (f : AQueue → AQueue) : (s.modQueue k f).dies = s.dies := rfl
@[simp] theorem emit_dies (m : Msg) : (s.emit m).dies = s.dies := rfl
@[simp] theorem modPort_dies (k : Nat) (f : Port → Port) : (s.modPort k f).dies = s.dies := rfl
@[simp] theorem undefAt_dies (c : Undefined) (k : Scope) : (s.undefAt c k).dies = s.dies := rfl
@[simp] theorem modCtx_dies (k : Nat) (f : Ctx → Ctx) : (s.modCtx k f).dies = s.dies := rfl
@[simp] theorem undef_dies (c : Undefined) : (s.undef c).dies = s.dies := rfl
@[simp] theorem modCfl_dies (k : Nat) (f : CflEntry → CflEntry) : (s.modCfl k f).dies = s.dies := rfl
@[simp] theorem atPf0_dies : (s.atPf0).dies = s.dies := rfl
@[simp] theorem modHart_dies (k : Nat) (f : Core → Core) : (s.modHart k f).dies = s.dies := rfl
@[simp] theorem setLayerQ_dies (b : Nat) (q : List Layer) : (s.setLayerQ b q).dies = s.dies := rfl
@[simp] theorem modSpur_dies (k : Nat) (f : Spur → Spur) : (s.modSpur k f).dies = s.dies := rfl
@[simp] theorem setTlb_dies (b : Nat) (q : List TlbEntry) : (s.setTlb b q).dies = s.dies := rfl
@[simp] theorem modHealth_dies (k : Nat) (f : Health → Health) : (s.modHealth k f).dies = s.dies := rfl
@[simp] theorem undefIf_dies (b : Bool) (c : Undefined) : (s.undefIf b c).dies = s.dies := by cases b <;> rfl
@[simp] theorem noted_dies (v : Via) : (s.noted v).dies = s.dies := by unfold State.noted; split <;> rfl
@[simp] theorem lowBits_dies (a n : Nat) : (s.lowBits a n).2.dies = s.dies := by unfold State.lowBits; split <;> rfl

/-! What leaves `health` alone. -/

@[simp] theorem setReg_health (k : Nat) (v : Word) : (s.setReg k v).health = s.health := rfl
@[simp] theorem modLine_health (k : Nat) (f : Line → Line) : (s.modLine k f).health = s.health := rfl
@[simp] theorem setFld_health (k lo n v : Nat) : (s.setFld k lo n v).health = s.health := rfl
@[simp] theorem modPond_health (k : Nat) (f : Pond → Pond) : (s.modPond k f).health = s.health := rfl
@[simp] theorem setFlag_health (k i : Nat) (b : Bool) : (s.setFlag k i b).health = s.health := rfl
@[simp] theorem modGrid_health (k : Nat) (f : GridSlot → GridSlot) : (s.modGrid k f).health = s.health := rfl
@[simp] theorem count_health (k n : Nat) : (s.count k n).health = s.health := rfl
@[simp] theorem modBmem_health (k : Nat) (f : BasinMem → BasinMem) : (s.modBmem k f).health = s.health := rfl
@[simp] theorem countFld_health (k lo w n : Nat) : (s.countFld k lo w n).health = s.health := rfl
@[simp] theorem modBpow_health (k : Nat) (f : BasinPower → BasinPower) : (s.modBpow k f).health = s.health := rfl
@[simp] theorem dropRegs_health (p : Nat → Bool) : (s.dropRegs p).health = s.health := rfl
@[simp] theorem modChan_health (k : Nat) (f : Channel → Channel) : (s.modChan k f).health = s.health := rfl
@[simp] theorem bump_health : (s.bump).health = s.health := rfl
@[simp] theorem modQueue_health (k : Nat) (f : AQueue → AQueue) : (s.modQueue k f).health = s.health := rfl
@[simp] theorem emit_health (m : Msg) : (s.emit m).health = s.health := rfl
@[simp] theorem modPort_health (k : Nat) (f : Port → Port) : (s.modPort k f).health = s.health := rfl
@[simp] theorem undefAt_health (c : Undefined) (k : Scope) : (s.undefAt c k).health = s.health := rfl
@[simp] theorem modCtx_health (k : Nat) (f : Ctx → Ctx) : (s.modCtx k f).health = s.health := rfl
@[simp] theorem undef_health (c : Undefined) : (s.undef c).health = s.health := rfl
@[simp] theorem modCfl_health (k : Nat) (f : CflEntry → CflEntry) : (s.modCfl k f).health = s.health := rfl
@[simp] theorem atPf0_health : (s.atPf0).health = s.health := rfl
@[simp] theorem modHart_health (k : Nat) (f : Core → Core) : (s.modHart k f).health = s.health := rfl
@[simp] theorem setLayerQ_health (b : Nat) (q : List Layer) : (s.setLayerQ b q).health = s.health := rfl
@[simp] theorem modSpur_health (k : Nat) (f : Spur → Spur) : (s.modSpur k f).health = s.health := rfl
@[simp] theorem setTlb_health (b : Nat) (q : List TlbEntry) : (s.setTlb b q).health = s.health := rfl
@[simp] theorem modDie_health (k : Nat) (f : Die → Die) : (s.modDie k f).health = s.health := rfl
@[simp] theorem undefIf_health (b : Bool) (c : Undefined) : (s.undefIf b c).health = s.health := by cases b <;> rfl
@[simp] theorem noted_health (v : Via) : (s.noted v).health = s.health := by unfold State.noted; split <;> rfl
@[simp] theorem lowBits_health (a n : Nat) : (s.lowBits a n).2.health = s.health := by unfold State.lowBits; split <;> rfl

/-! What leaves `tests` alone. -/

@[simp] theorem setReg_tests (k : Nat) (v : Word) : (s.setReg k v).tests = s.tests := rfl
@[simp] theorem modLine_tests (k : Nat) (f : Line → Line) : (s.modLine k f).tests = s.tests := rfl
@[simp] theorem setFld_tests (k lo n v : Nat) : (s.setFld k lo n v).tests = s.tests := rfl
@[simp] theorem modPond_tests (k : Nat) (f : Pond → Pond) : (s.modPond k f).tests = s.tests := rfl
@[simp] theorem setFlag_tests (k i : Nat) (b : Bool) : (s.setFlag k i b).tests = s.tests := rfl
@[simp] theorem modGrid_tests (k : Nat) (f : GridSlot → GridSlot) : (s.modGrid k f).tests = s.tests := rfl
@[simp] theorem count_tests (k n : Nat) : (s.count k n).tests = s.tests := rfl
@[simp] theorem modBmem_tests (k : Nat) (f : BasinMem → BasinMem) : (s.modBmem k f).tests = s.tests := rfl
@[simp] theorem countFld_tests (k lo w n : Nat) : (s.countFld k lo w n).tests = s.tests := rfl
@[simp] theorem modBpow_tests (k : Nat) (f : BasinPower → BasinPower) : (s.modBpow k f).tests = s.tests := rfl
@[simp] theorem dropRegs_tests (p : Nat → Bool) : (s.dropRegs p).tests = s.tests := rfl
@[simp] theorem modChan_tests (k : Nat) (f : Channel → Channel) : (s.modChan k f).tests = s.tests := rfl
@[simp] theorem bump_tests : (s.bump).tests = s.tests := rfl
@[simp] theorem modQueue_tests (k : Nat) (f : AQueue → AQueue) : (s.modQueue k f).tests = s.tests := rfl
@[simp] theorem emit_tests (m : Msg) : (s.emit m).tests = s.tests := rfl
@[simp] theorem modPort_tests (k : Nat) (f : Port → Port) : (s.modPort k f).tests = s.tests := rfl
@[simp] theorem undefAt_tests (c : Undefined) (k : Scope) : (s.undefAt c k).tests = s.tests := rfl
@[simp] theorem modCtx_tests (k : Nat) (f : Ctx → Ctx) : (s.modCtx k f).tests = s.tests := rfl
@[simp] theorem undef_tests (c : Undefined) : (s.undef c).tests = s.tests := rfl
@[simp] theorem modCfl_tests (k : Nat) (f : CflEntry → CflEntry) : (s.modCfl k f).tests = s.tests := rfl
@[simp] theorem atPf0_tests : (s.atPf0).tests = s.tests := rfl
@[simp] theorem modHart_tests (k : Nat) (f : Core → Core) : (s.modHart k f).tests = s.tests := rfl
@[simp] theorem setLayerQ_tests (b : Nat) (q : List Layer) : (s.setLayerQ b q).tests = s.tests := rfl
@[simp] theorem modSpur_tests (k : Nat) (f : Spur → Spur) : (s.modSpur k f).tests = s.tests := rfl
@[simp] theorem setTlb_tests (b : Nat) (q : List TlbEntry) : (s.setTlb b q).tests = s.tests := rfl
@[simp] theorem modDie_tests (k : Nat) (f : Die → Die) : (s.modDie k f).tests = s.tests := rfl
@[simp] theorem modHealth_tests (k : Nat) (f : Health → Health) : (s.modHealth k f).tests = s.tests := rfl
@[simp] theorem undefIf_tests (b : Bool) (c : Undefined) : (s.undefIf b c).tests = s.tests := by cases b <;> rfl
@[simp] theorem noted_tests (v : Via) : (s.noted v).tests = s.tests := by unfold State.noted; split <;> rfl
@[simp] theorem lowBits_tests (a n : Nat) : (s.lowBits a n).2.tests = s.tests := by unfold State.lowBits; split <;> rfl

/-! What leaves `sidings` alone. -/

@[simp] theorem setReg_sidings (k : Nat) (v : Word) : (s.setReg k v).sidings = s.sidings := rfl
@[simp] theorem modLine_sidings (k : Nat) (f : Line → Line) : (s.modLine k f).sidings = s.sidings := rfl
@[simp] theorem setFld_sidings (k lo n v : Nat) : (s.setFld k lo n v).sidings = s.sidings := rfl
@[simp] theorem modPond_sidings (k : Nat) (f : Pond → Pond) : (s.modPond k f).sidings = s.sidings := rfl
@[simp] theorem setFlag_sidings (k i : Nat) (b : Bool) : (s.setFlag k i b).sidings = s.sidings := rfl
@[simp] theorem modGrid_sidings (k : Nat) (f : GridSlot → GridSlot) : (s.modGrid k f).sidings = s.sidings := rfl
@[simp] theorem count_sidings (k n : Nat) : (s.count k n).sidings = s.sidings := rfl
@[simp] theorem modBmem_sidings (k : Nat) (f : BasinMem → BasinMem) : (s.modBmem k f).sidings = s.sidings := rfl
@[simp] theorem countFld_sidings (k lo w n : Nat) : (s.countFld k lo w n).sidings = s.sidings := rfl
@[simp] theorem modBpow_sidings (k : Nat) (f : BasinPower → BasinPower) : (s.modBpow k f).sidings = s.sidings := rfl
@[simp] theorem dropRegs_sidings (p : Nat → Bool) : (s.dropRegs p).sidings = s.sidings := rfl
@[simp] theorem modChan_sidings (k : Nat) (f : Channel → Channel) : (s.modChan k f).sidings = s.sidings := rfl
@[simp] theorem bump_sidings : (s.bump).sidings = s.sidings := rfl
@[simp] theorem modQueue_sidings (k : Nat) (f : AQueue → AQueue) : (s.modQueue k f).sidings = s.sidings := rfl
@[simp] theorem emit_sidings (m : Msg) : (s.emit m).sidings = s.sidings := rfl
@[simp] theorem modPort_sidings (k : Nat) (f : Port → Port) : (s.modPort k f).sidings = s.sidings := rfl
@[simp] theorem undefAt_sidings (c : Undefined) (k : Scope) : (s.undefAt c k).sidings = s.sidings := rfl
@[simp] theorem modCtx_sidings (k : Nat) (f : Ctx → Ctx) : (s.modCtx k f).sidings = s.sidings := rfl
@[simp] theorem undef_sidings (c : Undefined) : (s.undef c).sidings = s.sidings := rfl
@[simp] theorem modCfl_sidings (k : Nat) (f : CflEntry → CflEntry) : (s.modCfl k f).sidings = s.sidings := rfl
@[simp] theorem atPf0_sidings : (s.atPf0).sidings = s.sidings := rfl
@[simp] theorem modHart_sidings (k : Nat) (f : Core → Core) : (s.modHart k f).sidings = s.sidings := rfl
@[simp] theorem setLayerQ_sidings (b : Nat) (q : List Layer) : (s.setLayerQ b q).sidings = s.sidings := rfl
@[simp] theorem modSpur_sidings (k : Nat) (f : Spur → Spur) : (s.modSpur k f).sidings = s.sidings := rfl
@[simp] theorem setTlb_sidings (b : Nat) (q : List TlbEntry) : (s.setTlb b q).sidings = s.sidings := rfl
@[simp] theorem modDie_sidings (k : Nat) (f : Die → Die) : (s.modDie k f).sidings = s.sidings := rfl
@[simp] theorem modHealth_sidings (k : Nat) (f : Health → Health) : (s.modHealth k f).sidings = s.sidings := rfl
@[simp] theorem undefIf_sidings (b : Bool) (c : Undefined) : (s.undefIf b c).sidings = s.sidings := by cases b <;> rfl
@[simp] theorem noted_sidings (v : Via) : (s.noted v).sidings = s.sidings := by unfold State.noted; split <;> rfl
@[simp] theorem lowBits_sidings (a n : Nat) : (s.lowBits a n).2.sidings = s.sidings := by unfold State.lowBits; split <;> rfl

/-! What leaves `survey` alone. -/

@[simp] theorem setReg_survey (k : Nat) (v : Word) : (s.setReg k v).survey = s.survey := rfl
@[simp] theorem modLine_survey (k : Nat) (f : Line → Line) : (s.modLine k f).survey = s.survey := rfl
@[simp] theorem setFld_survey (k lo n v : Nat) : (s.setFld k lo n v).survey = s.survey := rfl
@[simp] theorem modPond_survey (k : Nat) (f : Pond → Pond) : (s.modPond k f).survey = s.survey := rfl
@[simp] theorem setFlag_survey (k i : Nat) (b : Bool) : (s.setFlag k i b).survey = s.survey := rfl
@[simp] theorem modGrid_survey (k : Nat) (f : GridSlot → GridSlot) : (s.modGrid k f).survey = s.survey := rfl
@[simp] theorem count_survey (k n : Nat) : (s.count k n).survey = s.survey := rfl
@[simp] theorem modBmem_survey (k : Nat) (f : BasinMem → BasinMem) : (s.modBmem k f).survey = s.survey := rfl
@[simp] theorem countFld_survey (k lo w n : Nat) : (s.countFld k lo w n).survey = s.survey := rfl
@[simp] theorem modBpow_survey (k : Nat) (f : BasinPower → BasinPower) : (s.modBpow k f).survey = s.survey := rfl
@[simp] theorem dropRegs_survey (p : Nat → Bool) : (s.dropRegs p).survey = s.survey := rfl
@[simp] theorem modChan_survey (k : Nat) (f : Channel → Channel) : (s.modChan k f).survey = s.survey := rfl
@[simp] theorem bump_survey : (s.bump).survey = s.survey := rfl
@[simp] theorem modQueue_survey (k : Nat) (f : AQueue → AQueue) : (s.modQueue k f).survey = s.survey := rfl
@[simp] theorem emit_survey (m : Msg) : (s.emit m).survey = s.survey := rfl
@[simp] theorem modPort_survey (k : Nat) (f : Port → Port) : (s.modPort k f).survey = s.survey := rfl
@[simp] theorem undefAt_survey (c : Undefined) (k : Scope) : (s.undefAt c k).survey = s.survey := rfl
@[simp] theorem modCtx_survey (k : Nat) (f : Ctx → Ctx) : (s.modCtx k f).survey = s.survey := rfl
@[simp] theorem undef_survey (c : Undefined) : (s.undef c).survey = s.survey := rfl
@[simp] theorem modCfl_survey (k : Nat) (f : CflEntry → CflEntry) : (s.modCfl k f).survey = s.survey := rfl
@[simp] theorem atPf0_survey : (s.atPf0).survey = s.survey := rfl
@[simp] theorem modHart_survey (k : Nat) (f : Core → Core) : (s.modHart k f).survey = s.survey := rfl
@[simp] theorem setLayerQ_survey (b : Nat) (q : List Layer) : (s.setLayerQ b q).survey = s.survey := rfl
@[simp] theorem modSpur_survey (k : Nat) (f : Spur → Spur) : (s.modSpur k f).survey = s.survey := rfl
@[simp] theorem setTlb_survey (b : Nat) (q : List TlbEntry) : (s.setTlb b q).survey = s.survey := rfl
@[simp] theorem modDie_survey (k : Nat) (f : Die → Die) : (s.modDie k f).survey = s.survey := rfl
@[simp] theorem modHealth_survey (k : Nat) (f : Health → Health) : (s.modHealth k f).survey = s.survey := rfl
@[simp] theorem undefIf_survey (b : Bool) (c : Undefined) : (s.undefIf b c).survey = s.survey := by cases b <;> rfl
@[simp] theorem noted_survey (v : Via) : (s.noted v).survey = s.survey := by unfold State.noted; split <;> rfl
@[simp] theorem lowBits_survey (a n : Nat) : (s.lowBits a n).2.survey = s.survey := by unfold State.lowBits; split <;> rfl

/-! What leaves `flash` alone. -/

@[simp] theorem setReg_flash (k : Nat) (v : Word) : (s.setReg k v).flash = s.flash := rfl
@[simp] theorem modLine_flash (k : Nat) (f : Line → Line) : (s.modLine k f).flash = s.flash := rfl
@[simp] theorem setFld_flash (k lo n v : Nat) : (s.setFld k lo n v).flash = s.flash := rfl
@[simp] theorem modPond_flash (k : Nat) (f : Pond → Pond) : (s.modPond k f).flash = s.flash := rfl
@[simp] theorem setFlag_flash (k i : Nat) (b : Bool) : (s.setFlag k i b).flash = s.flash := rfl
@[simp] theorem modGrid_flash (k : Nat) (f : GridSlot → GridSlot) : (s.modGrid k f).flash = s.flash := rfl
@[simp] theorem count_flash (k n : Nat) : (s.count k n).flash = s.flash := rfl
@[simp] theorem modBmem_flash (k : Nat) (f : BasinMem → BasinMem) : (s.modBmem k f).flash = s.flash := rfl
@[simp] theorem countFld_flash (k lo w n : Nat) : (s.countFld k lo w n).flash = s.flash := rfl
@[simp] theorem modBpow_flash (k : Nat) (f : BasinPower → BasinPower) : (s.modBpow k f).flash = s.flash := rfl
@[simp] theorem dropRegs_flash (p : Nat → Bool) : (s.dropRegs p).flash = s.flash := rfl
@[simp] theorem modChan_flash (k : Nat) (f : Channel → Channel) : (s.modChan k f).flash = s.flash := rfl
@[simp] theorem bump_flash : (s.bump).flash = s.flash := rfl
@[simp] theorem modQueue_flash (k : Nat) (f : AQueue → AQueue) : (s.modQueue k f).flash = s.flash := rfl
@[simp] theorem emit_flash (m : Msg) : (s.emit m).flash = s.flash := rfl
@[simp] theorem modPort_flash (k : Nat) (f : Port → Port) : (s.modPort k f).flash = s.flash := rfl
@[simp] theorem undefAt_flash (c : Undefined) (k : Scope) : (s.undefAt c k).flash = s.flash := rfl
@[simp] theorem modCtx_flash (k : Nat) (f : Ctx → Ctx) : (s.modCtx k f).flash = s.flash := rfl
@[simp] theorem undef_flash (c : Undefined) : (s.undef c).flash = s.flash := rfl
@[simp] theorem modCfl_flash (k : Nat) (f : CflEntry → CflEntry) : (s.modCfl k f).flash = s.flash := rfl
@[simp] theorem atPf0_flash : (s.atPf0).flash = s.flash := rfl
@[simp] theorem modHart_flash (k : Nat) (f : Core → Core) : (s.modHart k f).flash = s.flash := rfl
@[simp] theorem setLayerQ_flash (b : Nat) (q : List Layer) : (s.setLayerQ b q).flash = s.flash := rfl
@[simp] theorem modSpur_flash (k : Nat) (f : Spur → Spur) : (s.modSpur k f).flash = s.flash := rfl
@[simp] theorem setTlb_flash (b : Nat) (q : List TlbEntry) : (s.setTlb b q).flash = s.flash := rfl
@[simp] theorem modDie_flash (k : Nat) (f : Die → Die) : (s.modDie k f).flash = s.flash := rfl
@[simp] theorem modHealth_flash (k : Nat) (f : Health → Health) : (s.modHealth k f).flash = s.flash := rfl
@[simp] theorem undefIf_flash (b : Bool) (c : Undefined) : (s.undefIf b c).flash = s.flash := by cases b <;> rfl
@[simp] theorem noted_flash (v : Via) : (s.noted v).flash = s.flash := by unfold State.noted; split <;> rfl
@[simp] theorem lowBits_flash (a n : Nat) : (s.lowBits a n).2.flash = s.flash := by unfold State.lowBits; split <;> rfl

/-! What leaves `nvm` alone. -/

@[simp] theorem setReg_nvm (k : Nat) (v : Word) : (s.setReg k v).nvm = s.nvm := rfl
@[simp] theorem modLine_nvm (k : Nat) (f : Line → Line) : (s.modLine k f).nvm = s.nvm := rfl
@[simp] theorem setFld_nvm (k lo n v : Nat) : (s.setFld k lo n v).nvm = s.nvm := rfl
@[simp] theorem modPond_nvm (k : Nat) (f : Pond → Pond) : (s.modPond k f).nvm = s.nvm := rfl
@[simp] theorem setFlag_nvm (k i : Nat) (b : Bool) : (s.setFlag k i b).nvm = s.nvm := rfl
@[simp] theorem modGrid_nvm (k : Nat) (f : GridSlot → GridSlot) : (s.modGrid k f).nvm = s.nvm := rfl
@[simp] theorem count_nvm (k n : Nat) : (s.count k n).nvm = s.nvm := rfl
@[simp] theorem modBmem_nvm (k : Nat) (f : BasinMem → BasinMem) : (s.modBmem k f).nvm = s.nvm := rfl
@[simp] theorem countFld_nvm (k lo w n : Nat) : (s.countFld k lo w n).nvm = s.nvm := rfl
@[simp] theorem modBpow_nvm (k : Nat) (f : BasinPower → BasinPower) : (s.modBpow k f).nvm = s.nvm := rfl
@[simp] theorem dropRegs_nvm (p : Nat → Bool) : (s.dropRegs p).nvm = s.nvm := rfl
@[simp] theorem modChan_nvm (k : Nat) (f : Channel → Channel) : (s.modChan k f).nvm = s.nvm := rfl
@[simp] theorem bump_nvm : (s.bump).nvm = s.nvm := rfl
@[simp] theorem modQueue_nvm (k : Nat) (f : AQueue → AQueue) : (s.modQueue k f).nvm = s.nvm := rfl
@[simp] theorem emit_nvm (m : Msg) : (s.emit m).nvm = s.nvm := rfl
@[simp] theorem modPort_nvm (k : Nat) (f : Port → Port) : (s.modPort k f).nvm = s.nvm := rfl
@[simp] theorem undefAt_nvm (c : Undefined) (k : Scope) : (s.undefAt c k).nvm = s.nvm := rfl
@[simp] theorem modCtx_nvm (k : Nat) (f : Ctx → Ctx) : (s.modCtx k f).nvm = s.nvm := rfl
@[simp] theorem undef_nvm (c : Undefined) : (s.undef c).nvm = s.nvm := rfl
@[simp] theorem modCfl_nvm (k : Nat) (f : CflEntry → CflEntry) : (s.modCfl k f).nvm = s.nvm := rfl
@[simp] theorem atPf0_nvm : (s.atPf0).nvm = s.nvm := rfl
@[simp] theorem modHart_nvm (k : Nat) (f : Core → Core) : (s.modHart k f).nvm = s.nvm := rfl
@[simp] theorem setLayerQ_nvm (b : Nat) (q : List Layer) : (s.setLayerQ b q).nvm = s.nvm := rfl
@[simp] theorem modSpur_nvm (k : Nat) (f : Spur → Spur) : (s.modSpur k f).nvm = s.nvm := rfl
@[simp] theorem setTlb_nvm (b : Nat) (q : List TlbEntry) : (s.setTlb b q).nvm = s.nvm := rfl
@[simp] theorem modDie_nvm (k : Nat) (f : Die → Die) : (s.modDie k f).nvm = s.nvm := rfl
@[simp] theorem modHealth_nvm (k : Nat) (f : Health → Health) : (s.modHealth k f).nvm = s.nvm := rfl
@[simp] theorem undefIf_nvm (b : Bool) (c : Undefined) : (s.undefIf b c).nvm = s.nvm := by cases b <;> rfl
@[simp] theorem noted_nvm (v : Via) : (s.noted v).nvm = s.nvm := by unfold State.noted; split <;> rfl
@[simp] theorem lowBits_nvm (a n : Nat) : (s.lowBits a n).2.nvm = s.nvm := by unfold State.lowBits; split <;> rfl

/-! What leaves `sec` alone. -/

@[simp] theorem setReg_sec (k : Nat) (v : Word) : (s.setReg k v).sec = s.sec := rfl
@[simp] theorem modLine_sec (k : Nat) (f : Line → Line) : (s.modLine k f).sec = s.sec := rfl
@[simp] theorem setFld_sec (k lo n v : Nat) : (s.setFld k lo n v).sec = s.sec := rfl
@[simp] theorem modPond_sec (k : Nat) (f : Pond → Pond) : (s.modPond k f).sec = s.sec := rfl
@[simp] theorem setFlag_sec (k i : Nat) (b : Bool) : (s.setFlag k i b).sec = s.sec := rfl
@[simp] theorem modGrid_sec (k : Nat) (f : GridSlot → GridSlot) : (s.modGrid k f).sec = s.sec := rfl
@[simp] theorem count_sec (k n : Nat) : (s.count k n).sec = s.sec := rfl
@[simp] theorem modBmem_sec (k : Nat) (f : BasinMem → BasinMem) : (s.modBmem k f).sec = s.sec := rfl
@[simp] theorem countFld_sec (k lo w n : Nat) : (s.countFld k lo w n).sec = s.sec := rfl
@[simp] theorem modBpow_sec (k : Nat) (f : BasinPower → BasinPower) : (s.modBpow k f).sec = s.sec := rfl
@[simp] theorem dropRegs_sec (p : Nat → Bool) : (s.dropRegs p).sec = s.sec := rfl
@[simp] theorem modChan_sec (k : Nat) (f : Channel → Channel) : (s.modChan k f).sec = s.sec := rfl
@[simp] theorem bump_sec : (s.bump).sec = s.sec := rfl
@[simp] theorem modQueue_sec (k : Nat) (f : AQueue → AQueue) : (s.modQueue k f).sec = s.sec := rfl
@[simp] theorem emit_sec (m : Msg) : (s.emit m).sec = s.sec := rfl
@[simp] theorem modPort_sec (k : Nat) (f : Port → Port) : (s.modPort k f).sec = s.sec := rfl
@[simp] theorem undefAt_sec (c : Undefined) (k : Scope) : (s.undefAt c k).sec = s.sec := rfl
@[simp] theorem modCtx_sec (k : Nat) (f : Ctx → Ctx) : (s.modCtx k f).sec = s.sec := rfl
@[simp] theorem undef_sec (c : Undefined) : (s.undef c).sec = s.sec := rfl
@[simp] theorem modCfl_sec (k : Nat) (f : CflEntry → CflEntry) : (s.modCfl k f).sec = s.sec := rfl
@[simp] theorem atPf0_sec : (s.atPf0).sec = s.sec := rfl
@[simp] theorem modHart_sec (k : Nat) (f : Core → Core) : (s.modHart k f).sec = s.sec := rfl
@[simp] theorem setLayerQ_sec (b : Nat) (q : List Layer) : (s.setLayerQ b q).sec = s.sec := rfl
@[simp] theorem modSpur_sec (k : Nat) (f : Spur → Spur) : (s.modSpur k f).sec = s.sec := rfl
@[simp] theorem setTlb_sec (b : Nat) (q : List TlbEntry) : (s.setTlb b q).sec = s.sec := rfl
@[simp] theorem modDie_sec (k : Nat) (f : Die → Die) : (s.modDie k f).sec = s.sec := rfl
@[simp] theorem modHealth_sec (k : Nat) (f : Health → Health) : (s.modHealth k f).sec = s.sec := rfl
@[simp] theorem undefIf_sec (b : Bool) (c : Undefined) : (s.undefIf b c).sec = s.sec := by cases b <;> rfl
@[simp] theorem noted_sec (v : Via) : (s.noted v).sec = s.sec := by unfold State.noted; split <;> rfl
@[simp] theorem lowBits_sec (a n : Nat) : (s.lowBits a n).2.sec = s.sec := by unfold State.lowBits; split <;> rfl

/-! What leaves `spdm` alone. -/

@[simp] theorem setReg_spdm (k : Nat) (v : Word) : (s.setReg k v).spdm = s.spdm := rfl
@[simp] theorem modLine_spdm (k : Nat) (f : Line → Line) : (s.modLine k f).spdm = s.spdm := rfl
@[simp] theorem setFld_spdm (k lo n v : Nat) : (s.setFld k lo n v).spdm = s.spdm := rfl
@[simp] theorem modPond_spdm (k : Nat) (f : Pond → Pond) : (s.modPond k f).spdm = s.spdm := rfl
@[simp] theorem setFlag_spdm (k i : Nat) (b : Bool) : (s.setFlag k i b).spdm = s.spdm := rfl
@[simp] theorem modGrid_spdm (k : Nat) (f : GridSlot → GridSlot) : (s.modGrid k f).spdm = s.spdm := rfl
@[simp] theorem count_spdm (k n : Nat) : (s.count k n).spdm = s.spdm := rfl
@[simp] theorem modBmem_spdm (k : Nat) (f : BasinMem → BasinMem) : (s.modBmem k f).spdm = s.spdm := rfl
@[simp] theorem countFld_spdm (k lo w n : Nat) : (s.countFld k lo w n).spdm = s.spdm := rfl
@[simp] theorem modBpow_spdm (k : Nat) (f : BasinPower → BasinPower) : (s.modBpow k f).spdm = s.spdm := rfl
@[simp] theorem dropRegs_spdm (p : Nat → Bool) : (s.dropRegs p).spdm = s.spdm := rfl
@[simp] theorem modChan_spdm (k : Nat) (f : Channel → Channel) : (s.modChan k f).spdm = s.spdm := rfl
@[simp] theorem bump_spdm : (s.bump).spdm = s.spdm := rfl
@[simp] theorem modQueue_spdm (k : Nat) (f : AQueue → AQueue) : (s.modQueue k f).spdm = s.spdm := rfl
@[simp] theorem emit_spdm (m : Msg) : (s.emit m).spdm = s.spdm := rfl
@[simp] theorem modPort_spdm (k : Nat) (f : Port → Port) : (s.modPort k f).spdm = s.spdm := rfl
@[simp] theorem undefAt_spdm (c : Undefined) (k : Scope) : (s.undefAt c k).spdm = s.spdm := rfl
@[simp] theorem modCtx_spdm (k : Nat) (f : Ctx → Ctx) : (s.modCtx k f).spdm = s.spdm := rfl
@[simp] theorem undef_spdm (c : Undefined) : (s.undef c).spdm = s.spdm := rfl
@[simp] theorem modCfl_spdm (k : Nat) (f : CflEntry → CflEntry) : (s.modCfl k f).spdm = s.spdm := rfl
@[simp] theorem atPf0_spdm : (s.atPf0).spdm = s.spdm := rfl
@[simp] theorem modHart_spdm (k : Nat) (f : Core → Core) : (s.modHart k f).spdm = s.spdm := rfl
@[simp] theorem setLayerQ_spdm (b : Nat) (q : List Layer) : (s.setLayerQ b q).spdm = s.spdm := rfl
@[simp] theorem modSpur_spdm (k : Nat) (f : Spur → Spur) : (s.modSpur k f).spdm = s.spdm := rfl
@[simp] theorem setTlb_spdm (b : Nat) (q : List TlbEntry) : (s.setTlb b q).spdm = s.spdm := rfl
@[simp] theorem modDie_spdm (k : Nat) (f : Die → Die) : (s.modDie k f).spdm = s.spdm := rfl
@[simp] theorem modHealth_spdm (k : Nat) (f : Health → Health) : (s.modHealth k f).spdm = s.spdm := rfl
@[simp] theorem undefIf_spdm (b : Bool) (c : Undefined) : (s.undefIf b c).spdm = s.spdm := by cases b <;> rfl
@[simp] theorem noted_spdm (v : Via) : (s.noted v).spdm = s.spdm := by unfold State.noted; split <;> rfl
@[simp] theorem lowBits_spdm (a n : Nat) : (s.lowBits a n).2.spdm = s.spdm := by unfold State.lowBits; split <;> rfl

/-! What leaves `sessions` alone. -/

@[simp] theorem setReg_sessions (k : Nat) (v : Word) : (s.setReg k v).sessions = s.sessions := rfl
@[simp] theorem modLine_sessions (k : Nat) (f : Line → Line) : (s.modLine k f).sessions = s.sessions := rfl
@[simp] theorem setFld_sessions (k lo n v : Nat) : (s.setFld k lo n v).sessions = s.sessions := rfl
@[simp] theorem modPond_sessions (k : Nat) (f : Pond → Pond) : (s.modPond k f).sessions = s.sessions := rfl
@[simp] theorem setFlag_sessions (k i : Nat) (b : Bool) : (s.setFlag k i b).sessions = s.sessions := rfl
@[simp] theorem modGrid_sessions (k : Nat) (f : GridSlot → GridSlot) : (s.modGrid k f).sessions = s.sessions := rfl
@[simp] theorem count_sessions (k n : Nat) : (s.count k n).sessions = s.sessions := rfl
@[simp] theorem modBmem_sessions (k : Nat) (f : BasinMem → BasinMem) : (s.modBmem k f).sessions = s.sessions := rfl
@[simp] theorem countFld_sessions (k lo w n : Nat) : (s.countFld k lo w n).sessions = s.sessions := rfl
@[simp] theorem modBpow_sessions (k : Nat) (f : BasinPower → BasinPower) : (s.modBpow k f).sessions = s.sessions := rfl
@[simp] theorem dropRegs_sessions (p : Nat → Bool) : (s.dropRegs p).sessions = s.sessions := rfl
@[simp] theorem modChan_sessions (k : Nat) (f : Channel → Channel) : (s.modChan k f).sessions = s.sessions := rfl
@[simp] theorem bump_sessions : (s.bump).sessions = s.sessions := rfl
@[simp] theorem modQueue_sessions (k : Nat) (f : AQueue → AQueue) : (s.modQueue k f).sessions = s.sessions := rfl
@[simp] theorem emit_sessions (m : Msg) : (s.emit m).sessions = s.sessions := rfl
@[simp] theorem modPort_sessions (k : Nat) (f : Port → Port) : (s.modPort k f).sessions = s.sessions := rfl
@[simp] theorem undefAt_sessions (c : Undefined) (k : Scope) : (s.undefAt c k).sessions = s.sessions := rfl
@[simp] theorem modCtx_sessions (k : Nat) (f : Ctx → Ctx) : (s.modCtx k f).sessions = s.sessions := rfl
@[simp] theorem undef_sessions (c : Undefined) : (s.undef c).sessions = s.sessions := rfl
@[simp] theorem modCfl_sessions (k : Nat) (f : CflEntry → CflEntry) : (s.modCfl k f).sessions = s.sessions := rfl
@[simp] theorem atPf0_sessions : (s.atPf0).sessions = s.sessions := rfl
@[simp] theorem modHart_sessions (k : Nat) (f : Core → Core) : (s.modHart k f).sessions = s.sessions := rfl
@[simp] theorem setLayerQ_sessions (b : Nat) (q : List Layer) : (s.setLayerQ b q).sessions = s.sessions := rfl
@[simp] theorem modSpur_sessions (k : Nat) (f : Spur → Spur) : (s.modSpur k f).sessions = s.sessions := rfl
@[simp] theorem setTlb_sessions (b : Nat) (q : List TlbEntry) : (s.setTlb b q).sessions = s.sessions := rfl
@[simp] theorem modDie_sessions (k : Nat) (f : Die → Die) : (s.modDie k f).sessions = s.sessions := rfl
@[simp] theorem modHealth_sessions (k : Nat) (f : Health → Health) : (s.modHealth k f).sessions = s.sessions := rfl
@[simp] theorem undefIf_sessions (b : Bool) (c : Undefined) : (s.undefIf b c).sessions = s.sessions := by cases b <;> rfl
@[simp] theorem noted_sessions (v : Via) : (s.noted v).sessions = s.sessions := by unfold State.noted; split <;> rfl
@[simp] theorem lowBits_sessions (a n : Nat) : (s.lowBits a n).2.sessions = s.sessions := by unfold State.lowBits; split <;> rfl

/-! What leaves `boot` alone. -/

@[simp] theorem setReg_boot (k : Nat) (v : Word) : (s.setReg k v).boot = s.boot := rfl
@[simp] theorem modLine_boot (k : Nat) (f : Line → Line) : (s.modLine k f).boot = s.boot := rfl
@[simp] theorem setFld_boot (k lo n v : Nat) : (s.setFld k lo n v).boot = s.boot := rfl
@[simp] theorem modPond_boot (k : Nat) (f : Pond → Pond) : (s.modPond k f).boot = s.boot := rfl
@[simp] theorem setFlag_boot (k i : Nat) (b : Bool) : (s.setFlag k i b).boot = s.boot := rfl
@[simp] theorem modGrid_boot (k : Nat) (f : GridSlot → GridSlot) : (s.modGrid k f).boot = s.boot := rfl
@[simp] theorem count_boot (k n : Nat) : (s.count k n).boot = s.boot := rfl
@[simp] theorem modBmem_boot (k : Nat) (f : BasinMem → BasinMem) : (s.modBmem k f).boot = s.boot := rfl
@[simp] theorem countFld_boot (k lo w n : Nat) : (s.countFld k lo w n).boot = s.boot := rfl
@[simp] theorem modBpow_boot (k : Nat) (f : BasinPower → BasinPower) : (s.modBpow k f).boot = s.boot := rfl
@[simp] theorem dropRegs_boot (p : Nat → Bool) : (s.dropRegs p).boot = s.boot := rfl
@[simp] theorem modChan_boot (k : Nat) (f : Channel → Channel) : (s.modChan k f).boot = s.boot := rfl
@[simp] theorem bump_boot : (s.bump).boot = s.boot := rfl
@[simp] theorem modQueue_boot (k : Nat) (f : AQueue → AQueue) : (s.modQueue k f).boot = s.boot := rfl
@[simp] theorem emit_boot (m : Msg) : (s.emit m).boot = s.boot := rfl
@[simp] theorem modPort_boot (k : Nat) (f : Port → Port) : (s.modPort k f).boot = s.boot := rfl
@[simp] theorem undefAt_boot (c : Undefined) (k : Scope) : (s.undefAt c k).boot = s.boot := rfl
@[simp] theorem modCtx_boot (k : Nat) (f : Ctx → Ctx) : (s.modCtx k f).boot = s.boot := rfl
@[simp] theorem undef_boot (c : Undefined) : (s.undef c).boot = s.boot := rfl
@[simp] theorem modCfl_boot (k : Nat) (f : CflEntry → CflEntry) : (s.modCfl k f).boot = s.boot := rfl
@[simp] theorem atPf0_boot : (s.atPf0).boot = s.boot := rfl
@[simp] theorem modHart_boot (k : Nat) (f : Core → Core) : (s.modHart k f).boot = s.boot := rfl
@[simp] theorem setLayerQ_boot (b : Nat) (q : List Layer) : (s.setLayerQ b q).boot = s.boot := rfl
@[simp] theorem modSpur_boot (k : Nat) (f : Spur → Spur) : (s.modSpur k f).boot = s.boot := rfl
@[simp] theorem setTlb_boot (b : Nat) (q : List TlbEntry) : (s.setTlb b q).boot = s.boot := rfl
@[simp] theorem modDie_boot (k : Nat) (f : Die → Die) : (s.modDie k f).boot = s.boot := rfl
@[simp] theorem modHealth_boot (k : Nat) (f : Health → Health) : (s.modHealth k f).boot = s.boot := rfl
@[simp] theorem undefIf_boot (b : Bool) (c : Undefined) : (s.undefIf b c).boot = s.boot := by cases b <;> rfl
@[simp] theorem noted_boot (v : Via) : (s.noted v).boot = s.boot := by unfold State.noted; split <;> rfl
@[simp] theorem lowBits_boot (a n : Nat) : (s.lowBits a n).2.boot = s.boot := by unfold State.lowBits; split <;> rfl

/-! What leaves `mgmt` alone. -/

@[simp] theorem setReg_mgmt (k : Nat) (v : Word) : (s.setReg k v).mgmt = s.mgmt := rfl
@[simp] theorem modLine_mgmt (k : Nat) (f : Line → Line) : (s.modLine k f).mgmt = s.mgmt := rfl
@[simp] theorem setFld_mgmt (k lo n v : Nat) : (s.setFld k lo n v).mgmt = s.mgmt := rfl
@[simp] theorem modPond_mgmt (k : Nat) (f : Pond → Pond) : (s.modPond k f).mgmt = s.mgmt := rfl
@[simp] theorem setFlag_mgmt (k i : Nat) (b : Bool) : (s.setFlag k i b).mgmt = s.mgmt := rfl
@[simp] theorem modGrid_mgmt (k : Nat) (f : GridSlot → GridSlot) : (s.modGrid k f).mgmt = s.mgmt := rfl
@[simp] theorem count_mgmt (k n : Nat) : (s.count k n).mgmt = s.mgmt := rfl
@[simp] theorem modBmem_mgmt (k : Nat) (f : BasinMem → BasinMem) : (s.modBmem k f).mgmt = s.mgmt := rfl
@[simp] theorem countFld_mgmt (k lo w n : Nat) : (s.countFld k lo w n).mgmt = s.mgmt := rfl
@[simp] theorem modBpow_mgmt (k : Nat) (f : BasinPower → BasinPower) : (s.modBpow k f).mgmt = s.mgmt := rfl
@[simp] theorem dropRegs_mgmt (p : Nat → Bool) : (s.dropRegs p).mgmt = s.mgmt := rfl
@[simp] theorem modChan_mgmt (k : Nat) (f : Channel → Channel) : (s.modChan k f).mgmt = s.mgmt := rfl
@[simp] theorem bump_mgmt : (s.bump).mgmt = s.mgmt := rfl
@[simp] theorem modQueue_mgmt (k : Nat) (f : AQueue → AQueue) : (s.modQueue k f).mgmt = s.mgmt := rfl
@[simp] theorem emit_mgmt (m : Msg) : (s.emit m).mgmt = s.mgmt := rfl
@[simp] theorem modPort_mgmt (k : Nat) (f : Port → Port) : (s.modPort k f).mgmt = s.mgmt := rfl
@[simp] theorem undefAt_mgmt (c : Undefined) (k : Scope) : (s.undefAt c k).mgmt = s.mgmt := rfl
@[simp] theorem modCtx_mgmt (k : Nat) (f : Ctx → Ctx) : (s.modCtx k f).mgmt = s.mgmt := rfl
@[simp] theorem undef_mgmt (c : Undefined) : (s.undef c).mgmt = s.mgmt := rfl
@[simp] theorem modCfl_mgmt (k : Nat) (f : CflEntry → CflEntry) : (s.modCfl k f).mgmt = s.mgmt := rfl
@[simp] theorem atPf0_mgmt : (s.atPf0).mgmt = s.mgmt := rfl
@[simp] theorem modHart_mgmt (k : Nat) (f : Core → Core) : (s.modHart k f).mgmt = s.mgmt := rfl
@[simp] theorem setLayerQ_mgmt (b : Nat) (q : List Layer) : (s.setLayerQ b q).mgmt = s.mgmt := rfl
@[simp] theorem modSpur_mgmt (k : Nat) (f : Spur → Spur) : (s.modSpur k f).mgmt = s.mgmt := rfl
@[simp] theorem setTlb_mgmt (b : Nat) (q : List TlbEntry) : (s.setTlb b q).mgmt = s.mgmt := rfl
@[simp] theorem modDie_mgmt (k : Nat) (f : Die → Die) : (s.modDie k f).mgmt = s.mgmt := rfl
@[simp] theorem modHealth_mgmt (k : Nat) (f : Health → Health) : (s.modHealth k f).mgmt = s.mgmt := rfl
@[simp] theorem undefIf_mgmt (b : Bool) (c : Undefined) : (s.undefIf b c).mgmt = s.mgmt := by cases b <;> rfl
@[simp] theorem noted_mgmt (v : Via) : (s.noted v).mgmt = s.mgmt := by unfold State.noted; split <;> rfl
@[simp] theorem lowBits_mgmt (a n : Nat) : (s.lowBits a n).2.mgmt = s.mgmt := by unfold State.lowBits; split <;> rfl

/-! What leaves `pldm` alone. -/

@[simp] theorem setReg_pldm (k : Nat) (v : Word) : (s.setReg k v).pldm = s.pldm := rfl
@[simp] theorem modLine_pldm (k : Nat) (f : Line → Line) : (s.modLine k f).pldm = s.pldm := rfl
@[simp] theorem setFld_pldm (k lo n v : Nat) : (s.setFld k lo n v).pldm = s.pldm := rfl
@[simp] theorem modPond_pldm (k : Nat) (f : Pond → Pond) : (s.modPond k f).pldm = s.pldm := rfl
@[simp] theorem setFlag_pldm (k i : Nat) (b : Bool) : (s.setFlag k i b).pldm = s.pldm := rfl
@[simp] theorem modGrid_pldm (k : Nat) (f : GridSlot → GridSlot) : (s.modGrid k f).pldm = s.pldm := rfl
@[simp] theorem count_pldm (k n : Nat) : (s.count k n).pldm = s.pldm := rfl
@[simp] theorem modBmem_pldm (k : Nat) (f : BasinMem → BasinMem) : (s.modBmem k f).pldm = s.pldm := rfl
@[simp] theorem countFld_pldm (k lo w n : Nat) : (s.countFld k lo w n).pldm = s.pldm := rfl
@[simp] theorem modBpow_pldm (k : Nat) (f : BasinPower → BasinPower) : (s.modBpow k f).pldm = s.pldm := rfl
@[simp] theorem dropRegs_pldm (p : Nat → Bool) : (s.dropRegs p).pldm = s.pldm := rfl
@[simp] theorem modChan_pldm (k : Nat) (f : Channel → Channel) : (s.modChan k f).pldm = s.pldm := rfl
@[simp] theorem bump_pldm : (s.bump).pldm = s.pldm := rfl
@[simp] theorem modQueue_pldm (k : Nat) (f : AQueue → AQueue) : (s.modQueue k f).pldm = s.pldm := rfl
@[simp] theorem emit_pldm (m : Msg) : (s.emit m).pldm = s.pldm := rfl
@[simp] theorem modPort_pldm (k : Nat) (f : Port → Port) : (s.modPort k f).pldm = s.pldm := rfl
@[simp] theorem undefAt_pldm (c : Undefined) (k : Scope) : (s.undefAt c k).pldm = s.pldm := rfl
@[simp] theorem modCtx_pldm (k : Nat) (f : Ctx → Ctx) : (s.modCtx k f).pldm = s.pldm := rfl
@[simp] theorem undef_pldm (c : Undefined) : (s.undef c).pldm = s.pldm := rfl
@[simp] theorem modCfl_pldm (k : Nat) (f : CflEntry → CflEntry) : (s.modCfl k f).pldm = s.pldm := rfl
@[simp] theorem atPf0_pldm : (s.atPf0).pldm = s.pldm := rfl
@[simp] theorem modHart_pldm (k : Nat) (f : Core → Core) : (s.modHart k f).pldm = s.pldm := rfl
@[simp] theorem setLayerQ_pldm (b : Nat) (q : List Layer) : (s.setLayerQ b q).pldm = s.pldm := rfl
@[simp] theorem modSpur_pldm (k : Nat) (f : Spur → Spur) : (s.modSpur k f).pldm = s.pldm := rfl
@[simp] theorem setTlb_pldm (b : Nat) (q : List TlbEntry) : (s.setTlb b q).pldm = s.pldm := rfl
@[simp] theorem modDie_pldm (k : Nat) (f : Die → Die) : (s.modDie k f).pldm = s.pldm := rfl
@[simp] theorem modHealth_pldm (k : Nat) (f : Health → Health) : (s.modHealth k f).pldm = s.pldm := rfl
@[simp] theorem undefIf_pldm (b : Bool) (c : Undefined) : (s.undefIf b c).pldm = s.pldm := by cases b <;> rfl
@[simp] theorem noted_pldm (v : Via) : (s.noted v).pldm = s.pldm := by unfold State.noted; split <;> rfl
@[simp] theorem lowBits_pldm (a n : Nat) : (s.lowBits a n).2.pldm = s.pldm := by unfold State.lowBits; split <;> rfl

/-! What leaves `log` alone. -/

@[simp] theorem setReg_log (k : Nat) (v : Word) : (s.setReg k v).log = s.log := rfl
@[simp] theorem modLine_log (k : Nat) (f : Line → Line) : (s.modLine k f).log = s.log := rfl
@[simp] theorem setFld_log (k lo n v : Nat) : (s.setFld k lo n v).log = s.log := rfl
@[simp] theorem modPond_log (k : Nat) (f : Pond → Pond) : (s.modPond k f).log = s.log := rfl
@[simp] theorem setFlag_log (k i : Nat) (b : Bool) : (s.setFlag k i b).log = s.log := rfl
@[simp] theorem modGrid_log (k : Nat) (f : GridSlot → GridSlot) : (s.modGrid k f).log = s.log := rfl
@[simp] theorem count_log (k n : Nat) : (s.count k n).log = s.log := rfl
@[simp] theorem modBmem_log (k : Nat) (f : BasinMem → BasinMem) : (s.modBmem k f).log = s.log := rfl
@[simp] theorem countFld_log (k lo w n : Nat) : (s.countFld k lo w n).log = s.log := rfl
@[simp] theorem modBpow_log (k : Nat) (f : BasinPower → BasinPower) : (s.modBpow k f).log = s.log := rfl
@[simp] theorem dropRegs_log (p : Nat → Bool) : (s.dropRegs p).log = s.log := rfl
@[simp] theorem modChan_log (k : Nat) (f : Channel → Channel) : (s.modChan k f).log = s.log := rfl
@[simp] theorem bump_log : (s.bump).log = s.log := rfl
@[simp] theorem modQueue_log (k : Nat) (f : AQueue → AQueue) : (s.modQueue k f).log = s.log := rfl
@[simp] theorem emit_log (m : Msg) : (s.emit m).log = s.log := rfl
@[simp] theorem modPort_log (k : Nat) (f : Port → Port) : (s.modPort k f).log = s.log := rfl
@[simp] theorem undefAt_log (c : Undefined) (k : Scope) : (s.undefAt c k).log = s.log := rfl
@[simp] theorem modCtx_log (k : Nat) (f : Ctx → Ctx) : (s.modCtx k f).log = s.log := rfl
@[simp] theorem undef_log (c : Undefined) : (s.undef c).log = s.log := rfl
@[simp] theorem modCfl_log (k : Nat) (f : CflEntry → CflEntry) : (s.modCfl k f).log = s.log := rfl
@[simp] theorem atPf0_log : (s.atPf0).log = s.log := rfl
@[simp] theorem modHart_log (k : Nat) (f : Core → Core) : (s.modHart k f).log = s.log := rfl
@[simp] theorem setLayerQ_log (b : Nat) (q : List Layer) : (s.setLayerQ b q).log = s.log := rfl
@[simp] theorem modSpur_log (k : Nat) (f : Spur → Spur) : (s.modSpur k f).log = s.log := rfl
@[simp] theorem setTlb_log (b : Nat) (q : List TlbEntry) : (s.setTlb b q).log = s.log := rfl
@[simp] theorem modDie_log (k : Nat) (f : Die → Die) : (s.modDie k f).log = s.log := rfl
@[simp] theorem modHealth_log (k : Nat) (f : Health → Health) : (s.modHealth k f).log = s.log := rfl
@[simp] theorem undefIf_log (b : Bool) (c : Undefined) : (s.undefIf b c).log = s.log := by cases b <;> rfl
@[simp] theorem noted_log (v : Via) : (s.noted v).log = s.log := by unfold State.noted; split <;> rfl
@[simp] theorem lowBits_log (a n : Nat) : (s.lowBits a n).2.log = s.log := by unfold State.lowBits; split <;> rfl

/-! What leaves `power` alone. -/

@[simp] theorem setReg_power (k : Nat) (v : Word) : (s.setReg k v).power = s.power := rfl
@[simp] theorem modLine_power (k : Nat) (f : Line → Line) : (s.modLine k f).power = s.power := rfl
@[simp] theorem setFld_power (k lo n v : Nat) : (s.setFld k lo n v).power = s.power := rfl
@[simp] theorem modPond_power (k : Nat) (f : Pond → Pond) : (s.modPond k f).power = s.power := rfl
@[simp] theorem setFlag_power (k i : Nat) (b : Bool) : (s.setFlag k i b).power = s.power := rfl
@[simp] theorem modGrid_power (k : Nat) (f : GridSlot → GridSlot) : (s.modGrid k f).power = s.power := rfl
@[simp] theorem count_power (k n : Nat) : (s.count k n).power = s.power := rfl
@[simp] theorem modBmem_power (k : Nat) (f : BasinMem → BasinMem) : (s.modBmem k f).power = s.power := rfl
@[simp] theorem countFld_power (k lo w n : Nat) : (s.countFld k lo w n).power = s.power := rfl
@[simp] theorem modBpow_power (k : Nat) (f : BasinPower → BasinPower) : (s.modBpow k f).power = s.power := rfl
@[simp] theorem dropRegs_power (p : Nat → Bool) : (s.dropRegs p).power = s.power := rfl
@[simp] theorem modChan_power (k : Nat) (f : Channel → Channel) : (s.modChan k f).power = s.power := rfl
@[simp] theorem bump_power : (s.bump).power = s.power := rfl
@[simp] theorem modQueue_power (k : Nat) (f : AQueue → AQueue) : (s.modQueue k f).power = s.power := rfl
@[simp] theorem emit_power (m : Msg) : (s.emit m).power = s.power := rfl
@[simp] theorem modPort_power (k : Nat) (f : Port → Port) : (s.modPort k f).power = s.power := rfl
@[simp] theorem undefAt_power (c : Undefined) (k : Scope) : (s.undefAt c k).power = s.power := rfl
@[simp] theorem modCtx_power (k : Nat) (f : Ctx → Ctx) : (s.modCtx k f).power = s.power := rfl
@[simp] theorem undef_power (c : Undefined) : (s.undef c).power = s.power := rfl
@[simp] theorem modCfl_power (k : Nat) (f : CflEntry → CflEntry) : (s.modCfl k f).power = s.power := rfl
@[simp] theorem atPf0_power : (s.atPf0).power = s.power := rfl
@[simp] theorem modHart_power (k : Nat) (f : Core → Core) : (s.modHart k f).power = s.power := rfl
@[simp] theorem setLayerQ_power (b : Nat) (q : List Layer) : (s.setLayerQ b q).power = s.power := rfl
@[simp] theorem modSpur_power (k : Nat) (f : Spur → Spur) : (s.modSpur k f).power = s.power := rfl
@[simp] theorem setTlb_power (b : Nat) (q : List TlbEntry) : (s.setTlb b q).power = s.power := rfl
@[simp] theorem modDie_power (k : Nat) (f : Die → Die) : (s.modDie k f).power = s.power := rfl
@[simp] theorem modHealth_power (k : Nat) (f : Health → Health) : (s.modHealth k f).power = s.power := rfl
@[simp] theorem undefIf_power (b : Bool) (c : Undefined) : (s.undefIf b c).power = s.power := by cases b <;> rfl
@[simp] theorem noted_power (v : Via) : (s.noted v).power = s.power := by unfold State.noted; split <;> rfl
@[simp] theorem lowBits_power (a n : Nat) : (s.lowBits a n).2.power = s.power := by unfold State.lowBits; split <;> rfl

/-! What leaves `tenant` alone. -/

@[simp] theorem setReg_tenant (k : Nat) (v : Word) : (s.setReg k v).tenant = s.tenant := rfl
@[simp] theorem modLine_tenant (k : Nat) (f : Line → Line) : (s.modLine k f).tenant = s.tenant := rfl
@[simp] theorem setFld_tenant (k lo n v : Nat) : (s.setFld k lo n v).tenant = s.tenant := rfl
@[simp] theorem modPond_tenant (k : Nat) (f : Pond → Pond) : (s.modPond k f).tenant = s.tenant := rfl
@[simp] theorem setFlag_tenant (k i : Nat) (b : Bool) : (s.setFlag k i b).tenant = s.tenant := rfl
@[simp] theorem modGrid_tenant (k : Nat) (f : GridSlot → GridSlot) : (s.modGrid k f).tenant = s.tenant := rfl
@[simp] theorem count_tenant (k n : Nat) : (s.count k n).tenant = s.tenant := rfl
@[simp] theorem modBmem_tenant (k : Nat) (f : BasinMem → BasinMem) : (s.modBmem k f).tenant = s.tenant := rfl
@[simp] theorem countFld_tenant (k lo w n : Nat) : (s.countFld k lo w n).tenant = s.tenant := rfl
@[simp] theorem modBpow_tenant (k : Nat) (f : BasinPower → BasinPower) : (s.modBpow k f).tenant = s.tenant := rfl
@[simp] theorem dropRegs_tenant (p : Nat → Bool) : (s.dropRegs p).tenant = s.tenant := rfl
@[simp] theorem modChan_tenant (k : Nat) (f : Channel → Channel) : (s.modChan k f).tenant = s.tenant := rfl
@[simp] theorem bump_tenant : (s.bump).tenant = s.tenant := rfl
@[simp] theorem modQueue_tenant (k : Nat) (f : AQueue → AQueue) : (s.modQueue k f).tenant = s.tenant := rfl
@[simp] theorem emit_tenant (m : Msg) : (s.emit m).tenant = s.tenant := rfl
@[simp] theorem modPort_tenant (k : Nat) (f : Port → Port) : (s.modPort k f).tenant = s.tenant := rfl
@[simp] theorem undefAt_tenant (c : Undefined) (k : Scope) : (s.undefAt c k).tenant = s.tenant := rfl
@[simp] theorem modCtx_tenant (k : Nat) (f : Ctx → Ctx) : (s.modCtx k f).tenant = s.tenant := rfl
@[simp] theorem undef_tenant (c : Undefined) : (s.undef c).tenant = s.tenant := rfl
@[simp] theorem modCfl_tenant (k : Nat) (f : CflEntry → CflEntry) : (s.modCfl k f).tenant = s.tenant := rfl
@[simp] theorem atPf0_tenant : (s.atPf0).tenant = s.tenant := rfl
@[simp] theorem modHart_tenant (k : Nat) (f : Core → Core) : (s.modHart k f).tenant = s.tenant := rfl
@[simp] theorem setLayerQ_tenant (b : Nat) (q : List Layer) : (s.setLayerQ b q).tenant = s.tenant := rfl
@[simp] theorem modSpur_tenant (k : Nat) (f : Spur → Spur) : (s.modSpur k f).tenant = s.tenant := rfl
@[simp] theorem setTlb_tenant (b : Nat) (q : List TlbEntry) : (s.setTlb b q).tenant = s.tenant := rfl
@[simp] theorem modDie_tenant (k : Nat) (f : Die → Die) : (s.modDie k f).tenant = s.tenant := rfl
@[simp] theorem modHealth_tenant (k : Nat) (f : Health → Health) : (s.modHealth k f).tenant = s.tenant := rfl
@[simp] theorem undefIf_tenant (b : Bool) (c : Undefined) : (s.undefIf b c).tenant = s.tenant := by cases b <;> rfl
@[simp] theorem noted_tenant (v : Via) : (s.noted v).tenant = s.tenant := by unfold State.noted; split <;> rfl
@[simp] theorem lowBits_tenant (a n : Nat) : (s.lowBits a n).2.tenant = s.tenant := by unfold State.lowBits; split <;> rfl

/-! What leaves `tenantPrev` alone. -/

@[simp] theorem setReg_tenantPrev (k : Nat) (v : Word) : (s.setReg k v).tenantPrev = s.tenantPrev := rfl
@[simp] theorem modLine_tenantPrev (k : Nat) (f : Line → Line) : (s.modLine k f).tenantPrev = s.tenantPrev := rfl
@[simp] theorem setFld_tenantPrev (k lo n v : Nat) : (s.setFld k lo n v).tenantPrev = s.tenantPrev := rfl
@[simp] theorem modPond_tenantPrev (k : Nat) (f : Pond → Pond) : (s.modPond k f).tenantPrev = s.tenantPrev := rfl
@[simp] theorem setFlag_tenantPrev (k i : Nat) (b : Bool) : (s.setFlag k i b).tenantPrev = s.tenantPrev := rfl
@[simp] theorem modGrid_tenantPrev (k : Nat) (f : GridSlot → GridSlot) : (s.modGrid k f).tenantPrev = s.tenantPrev := rfl
@[simp] theorem count_tenantPrev (k n : Nat) : (s.count k n).tenantPrev = s.tenantPrev := rfl
@[simp] theorem modBmem_tenantPrev (k : Nat) (f : BasinMem → BasinMem) : (s.modBmem k f).tenantPrev = s.tenantPrev := rfl
@[simp] theorem countFld_tenantPrev (k lo w n : Nat) : (s.countFld k lo w n).tenantPrev = s.tenantPrev := rfl
@[simp] theorem modBpow_tenantPrev (k : Nat) (f : BasinPower → BasinPower) : (s.modBpow k f).tenantPrev = s.tenantPrev := rfl
@[simp] theorem dropRegs_tenantPrev (p : Nat → Bool) : (s.dropRegs p).tenantPrev = s.tenantPrev := rfl
@[simp] theorem modChan_tenantPrev (k : Nat) (f : Channel → Channel) : (s.modChan k f).tenantPrev = s.tenantPrev := rfl
@[simp] theorem bump_tenantPrev : (s.bump).tenantPrev = s.tenantPrev := rfl
@[simp] theorem modQueue_tenantPrev (k : Nat) (f : AQueue → AQueue) : (s.modQueue k f).tenantPrev = s.tenantPrev := rfl
@[simp] theorem emit_tenantPrev (m : Msg) : (s.emit m).tenantPrev = s.tenantPrev := rfl
@[simp] theorem modPort_tenantPrev (k : Nat) (f : Port → Port) : (s.modPort k f).tenantPrev = s.tenantPrev := rfl
@[simp] theorem undefAt_tenantPrev (c : Undefined) (k : Scope) : (s.undefAt c k).tenantPrev = s.tenantPrev := rfl
@[simp] theorem modCtx_tenantPrev (k : Nat) (f : Ctx → Ctx) : (s.modCtx k f).tenantPrev = s.tenantPrev := rfl
@[simp] theorem undef_tenantPrev (c : Undefined) : (s.undef c).tenantPrev = s.tenantPrev := rfl
@[simp] theorem modCfl_tenantPrev (k : Nat) (f : CflEntry → CflEntry) : (s.modCfl k f).tenantPrev = s.tenantPrev := rfl
@[simp] theorem atPf0_tenantPrev : (s.atPf0).tenantPrev = s.tenantPrev := rfl
@[simp] theorem modHart_tenantPrev (k : Nat) (f : Core → Core) : (s.modHart k f).tenantPrev = s.tenantPrev := rfl
@[simp] theorem setLayerQ_tenantPrev (b : Nat) (q : List Layer) : (s.setLayerQ b q).tenantPrev = s.tenantPrev := rfl
@[simp] theorem modSpur_tenantPrev (k : Nat) (f : Spur → Spur) : (s.modSpur k f).tenantPrev = s.tenantPrev := rfl
@[simp] theorem setTlb_tenantPrev (b : Nat) (q : List TlbEntry) : (s.setTlb b q).tenantPrev = s.tenantPrev := rfl
@[simp] theorem modDie_tenantPrev (k : Nat) (f : Die → Die) : (s.modDie k f).tenantPrev = s.tenantPrev := rfl
@[simp] theorem modHealth_tenantPrev (k : Nat) (f : Health → Health) : (s.modHealth k f).tenantPrev = s.tenantPrev := rfl
@[simp] theorem undefIf_tenantPrev (b : Bool) (c : Undefined) : (s.undefIf b c).tenantPrev = s.tenantPrev := by cases b <;> rfl
@[simp] theorem noted_tenantPrev (v : Via) : (s.noted v).tenantPrev = s.tenantPrev := by unfold State.noted; split <;> rfl
@[simp] theorem lowBits_tenantPrev (a n : Nat) : (s.lowBits a n).2.tenantPrev = s.tenantPrev := by unfold State.lowBits; split <;> rfl


/-! What a command puts back. -/

@[simp] theorem keeping_pending (t : State) : (t.keeping s).pending = s.pending := rfl
@[simp] theorem clean_pending : s.clean.pending = s.pending := rfl
@[simp] theorem setVault_pending (v : Vault) : (s.setVault v).pending = s.pending := rfl
@[simp] theorem keeping_time (t : State) : (t.keeping s).time = s.time := rfl
@[simp] theorem clean_time : s.clean.time = s.time := rfl
@[simp] theorem setVault_time (v : Vault) : (s.setVault v).time = s.time := rfl
@[simp] theorem keeping_vault (t : State) : (t.keeping s).vault = s.vault := rfl
@[simp] theorem clean_vault : s.clean.vault = s.vault := rfl
@[simp] theorem keeping_freeCtr (t : State) : (t.keeping s).freeCtr = t.freeCtr := rfl
@[simp] theorem clean_freeCtr : s.clean.freeCtr = s.freeCtr := rfl
@[simp] theorem setVault_freeCtr (v : Vault) : (s.setVault v).freeCtr = s.freeCtr := rfl
@[simp] theorem keeping_misuse (t : State) : (t.keeping s).misuse = s.misuse := rfl
@[simp] theorem setVault_misuse (v : Vault) : (s.setVault v).misuse = s.misuse := rfl
@[simp] theorem keeping_regs (t : State) : (t.keeping s).regs = t.regs := rfl
@[simp] theorem clean_regs : s.clean.regs = s.regs := rfl
@[simp] theorem setVault_regs (v : Vault) : (s.setVault v).regs = s.regs := rfl
@[simp] theorem keeping_out (t : State) : (t.keeping s).out = t.out := rfl
@[simp] theorem clean_out : s.clean.out = s.out := rfl
@[simp] theorem setVault_out (v : Vault) : (s.setVault v).out = s.out := rfl
@[simp] theorem keeping_mem (t : State) : (t.keeping s).mem = t.mem := rfl
@[simp] theorem clean_mem : s.clean.mem = s.mem := rfl
@[simp] theorem setVault_mem (v : Vault) : (s.setVault v).mem = s.mem := rfl
@[simp] theorem keeping_poison (t : State) : (t.keeping s).poison = t.poison := rfl
@[simp] theorem clean_poison : s.clean.poison = s.poison := rfl
@[simp] theorem setVault_poison (v : Vault) : (s.setVault v).poison = s.poison := rfl
@[simp] theorem keeping_errs (t : State) : (t.keeping s).errs = t.errs := rfl
@[simp] theorem clean_errs : s.clean.errs = s.errs := rfl
@[simp] theorem setVault_errs (v : Vault) : (s.setVault v).errs = s.errs := rfl
@[simp] theorem keeping_chkDiff (t : State) : (t.keeping s).chkDiff = t.chkDiff := rfl
@[simp] theorem clean_chkDiff : s.clean.chkDiff = s.chkDiff := rfl
@[simp] theorem setVault_chkDiff (v : Vault) : (s.setVault v).chkDiff = s.chkDiff := rfl
@[simp] theorem keeping_hostMem (t : State) : (t.keeping s).hostMem = t.hostMem := rfl
@[simp] theorem clean_hostMem : s.clean.hostMem = s.hostMem := rfl
@[simp] theorem setVault_hostMem (v : Vault) : (s.setVault v).hostMem = s.hostMem := rfl
@[simp] theorem keeping_hostPoison (t : State) : (t.keeping s).hostPoison = t.hostPoison := rfl
@[simp] theorem clean_hostPoison : s.clean.hostPoison = s.hostPoison := rfl
@[simp] theorem setVault_hostPoison (v : Vault) : (s.setVault v).hostPoison = s.hostPoison := rfl
@[simp] theorem keeping_tt (t : State) : (t.keeping s).tt = t.tt := rfl
@[simp] theorem clean_tt : s.clean.tt = s.tt := rfl
@[simp] theorem setVault_tt (v : Vault) : (s.setVault v).tt = s.tt := rfl
@[simp] theorem keeping_ttLoad (t : State) : (t.keeping s).ttLoad = t.ttLoad := rfl
@[simp] theorem clean_ttLoad : s.clean.ttLoad = s.ttLoad := rfl
@[simp] theorem setVault_ttLoad (v : Vault) : (s.setVault v).ttLoad = s.ttLoad := rfl
@[simp] theorem keeping_leaders (t : State) : (t.keeping s).leaders = t.leaders := rfl
@[simp] theorem clean_leaders : s.clean.leaders = s.leaders := rfl
@[simp] theorem setVault_leaders (v : Vault) : (s.setVault v).leaders = s.leaders := rfl
@[simp] theorem keeping_lines (t : State) : (t.keeping s).lines = t.lines := rfl
@[simp] theorem clean_lines : s.clean.lines = s.lines := rfl
@[simp] theorem setVault_lines (v : Vault) : (s.setVault v).lines = s.lines := rfl
@[simp] theorem keeping_ponds (t : State) : (t.keeping s).ponds = t.ponds := rfl
@[simp] theorem clean_ponds : s.clean.ponds = s.ponds := rfl
@[simp] theorem setVault_ponds (v : Vault) : (s.setVault v).ponds = s.ponds := rfl
@[simp] theorem keeping_grids (t : State) : (t.keeping s).grids = t.grids := rfl
@[simp] theorem clean_grids : s.clean.grids = s.grids := rfl
@[simp] theorem setVault_grids (v : Vault) : (s.setVault v).grids = s.grids := rfl
@[simp] theorem keeping_bindings (t : State) : (t.keeping s).bindings = t.bindings := rfl
@[simp] theorem clean_bindings : s.clean.bindings = s.bindings := rfl
@[simp] theorem setVault_bindings (v : Vault) : (s.setVault v).bindings = s.bindings := rfl
@[simp] theorem keeping_basinMem (t : State) : (t.keeping s).basinMem = t.basinMem := rfl
@[simp] theorem clean_basinMem : s.clean.basinMem = s.basinMem := rfl
@[simp] theorem setVault_basinMem (v : Vault) : (s.setVault v).basinMem = s.basinMem := rfl
@[simp] theorem keeping_basinPower (t : State) : (t.keeping s).basinPower = t.basinPower := rfl
@[simp] theorem clean_basinPower : s.clean.basinPower = s.basinPower := rfl
@[simp] theorem setVault_basinPower (v : Vault) : (s.setVault v).basinPower = s.basinPower := rfl
@[simp] theorem keeping_tlbs (t : State) : (t.keeping s).tlbs = t.tlbs := rfl
@[simp] theorem clean_tlbs : s.clean.tlbs = s.tlbs := rfl
@[simp] theorem setVault_tlbs (v : Vault) : (s.setVault v).tlbs = s.tlbs := rfl
@[simp] theorem keeping_coh (t : State) : (t.keeping s).coh = t.coh := rfl
@[simp] theorem clean_coh : s.clean.coh = s.coh := rfl
@[simp] theorem setVault_coh (v : Vault) : (s.setVault v).coh = s.coh := rfl
@[simp] theorem keeping_chans (t : State) : (t.keeping s).chans = t.chans := rfl
@[simp] theorem clean_chans : s.clean.chans = s.chans := rfl
@[simp] theorem setVault_chans (v : Vault) : (s.setVault v).chans = s.chans := rfl
@[simp] theorem keeping_arbs (t : State) : (t.keeping s).arbs = t.arbs := rfl
@[simp] theorem clean_arbs : s.clean.arbs = s.arbs := rfl
@[simp] theorem setVault_arbs (v : Vault) : (s.setVault v).arbs = s.arbs := rfl
@[simp] theorem keeping_queues (t : State) : (t.keeping s).queues = t.queues := rfl
@[simp] theorem clean_queues : s.clean.queues = s.queues := rfl
@[simp] theorem setVault_queues (v : Vault) : (s.setVault v).queues = s.queues := rfl
@[simp] theorem keeping_host (t : State) : (t.keeping s).host = t.host := rfl
@[simp] theorem clean_host : s.clean.host = s.host := rfl
@[simp] theorem setVault_host (v : Vault) : (s.setVault v).host = s.host := rfl
@[simp] theorem keeping_ports (t : State) : (t.keeping s).ports = t.ports := rfl
@[simp] theorem clean_ports : s.clean.ports = s.ports := rfl
@[simp] theorem setVault_ports (v : Vault) : (s.setVault v).ports = s.ports := rfl
@[simp] theorem keeping_ctxs (t : State) : (t.keeping s).ctxs = t.ctxs := rfl
@[simp] theorem clean_ctxs : s.clean.ctxs = s.ctxs := rfl
@[simp] theorem setVault_ctxs (v : Vault) : (s.setVault v).ctxs = s.ctxs := rfl
@[simp] theorem keeping_cfls (t : State) : (t.keeping s).cfls = t.cfls := rfl
@[simp] theorem clean_cfls : s.clean.cfls = s.cfls := rfl
@[simp] theorem setVault_cfls (v : Vault) : (s.setVault v).cfls = s.cfls := rfl
@[simp] theorem keeping_layers (t : State) : (t.keeping s).layers = t.layers := rfl
@[simp] theorem clean_layers : s.clean.layers = s.layers := rfl
@[simp] theorem setVault_layers (v : Vault) : (s.setVault v).layers = s.layers := rfl
@[simp] theorem keeping_harts (t : State) : (t.keeping s).harts = t.harts := rfl
@[simp] theorem clean_harts : s.clean.harts = s.harts := rfl
@[simp] theorem setVault_harts (v : Vault) : (s.setVault v).harts = s.harts := rfl
@[simp] theorem keeping_spurs (t : State) : (t.keeping s).spurs = t.spurs := rfl
@[simp] theorem clean_spurs : s.clean.spurs = s.spurs := rfl
@[simp] theorem setVault_spurs (v : Vault) : (s.setVault v).spurs = s.spurs := rfl
@[simp] theorem keeping_dies (t : State) : (t.keeping s).dies = t.dies := rfl
@[simp] theorem clean_dies : s.clean.dies = s.dies := rfl
@[simp] theorem setVault_dies (v : Vault) : (s.setVault v).dies = s.dies := rfl
@[simp] theorem keeping_health (t : State) : (t.keeping s).health = t.health := rfl
@[simp] theorem clean_health : s.clean.health = s.health := rfl
@[simp] theorem setVault_health (v : Vault) : (s.setVault v).health = s.health := rfl
@[simp] theorem keeping_tests (t : State) : (t.keeping s).tests = t.tests := rfl
@[simp] theorem clean_tests : s.clean.tests = s.tests := rfl
@[simp] theorem setVault_tests (v : Vault) : (s.setVault v).tests = s.tests := rfl
@[simp] theorem keeping_sidings (t : State) : (t.keeping s).sidings = t.sidings := rfl
@[simp] theorem clean_sidings : s.clean.sidings = s.sidings := rfl
@[simp] theorem setVault_sidings (v : Vault) : (s.setVault v).sidings = s.sidings := rfl
@[simp] theorem keeping_survey (t : State) : (t.keeping s).survey = t.survey := rfl
@[simp] theorem clean_survey : s.clean.survey = s.survey := rfl
@[simp] theorem setVault_survey (v : Vault) : (s.setVault v).survey = s.survey := rfl
@[simp] theorem keeping_flash (t : State) : (t.keeping s).flash = t.flash := rfl
@[simp] theorem clean_flash : s.clean.flash = s.flash := rfl
@[simp] theorem setVault_flash (v : Vault) : (s.setVault v).flash = s.flash := rfl
@[simp] theorem keeping_nvm (t : State) : (t.keeping s).nvm = t.nvm := rfl
@[simp] theorem clean_nvm : s.clean.nvm = s.nvm := rfl
@[simp] theorem setVault_nvm (v : Vault) : (s.setVault v).nvm = s.nvm := rfl
@[simp] theorem keeping_sec (t : State) : (t.keeping s).sec = t.sec := rfl
@[simp] theorem clean_sec : s.clean.sec = s.sec := rfl
@[simp] theorem setVault_sec (v : Vault) : (s.setVault v).sec = s.sec := rfl
@[simp] theorem keeping_spdm (t : State) : (t.keeping s).spdm = t.spdm := rfl
@[simp] theorem clean_spdm : s.clean.spdm = s.spdm := rfl
@[simp] theorem setVault_spdm (v : Vault) : (s.setVault v).spdm = s.spdm := rfl
@[simp] theorem keeping_sessions (t : State) : (t.keeping s).sessions = t.sessions := rfl
@[simp] theorem clean_sessions : s.clean.sessions = s.sessions := rfl
@[simp] theorem setVault_sessions (v : Vault) : (s.setVault v).sessions = s.sessions := rfl
@[simp] theorem keeping_boot (t : State) : (t.keeping s).boot = t.boot := rfl
@[simp] theorem clean_boot : s.clean.boot = s.boot := rfl
@[simp] theorem setVault_boot (v : Vault) : (s.setVault v).boot = s.boot := rfl
@[simp] theorem keeping_mgmt (t : State) : (t.keeping s).mgmt = t.mgmt := rfl
@[simp] theorem clean_mgmt : s.clean.mgmt = s.mgmt := rfl
@[simp] theorem setVault_mgmt (v : Vault) : (s.setVault v).mgmt = s.mgmt := rfl
@[simp] theorem keeping_pldm (t : State) : (t.keeping s).pldm = t.pldm := rfl
@[simp] theorem clean_pldm : s.clean.pldm = s.pldm := rfl
@[simp] theorem setVault_pldm (v : Vault) : (s.setVault v).pldm = s.pldm := rfl
@[simp] theorem keeping_log (t : State) : (t.keeping s).log = t.log := rfl
@[simp] theorem clean_log : s.clean.log = s.log := rfl
@[simp] theorem setVault_log (v : Vault) : (s.setVault v).log = s.log := rfl
@[simp] theorem keeping_power (t : State) : (t.keeping s).power = t.power := rfl
@[simp] theorem clean_power : s.clean.power = s.power := rfl
@[simp] theorem setVault_power (v : Vault) : (s.setVault v).power = s.power := rfl
@[simp] theorem keeping_tenant (t : State) : (t.keeping s).tenant = t.tenant := rfl
@[simp] theorem clean_tenant : s.clean.tenant = s.tenant := rfl
@[simp] theorem setVault_tenant (v : Vault) : (s.setVault v).tenant = s.tenant := rfl
@[simp] theorem keeping_tenantPrev (t : State) : (t.keeping s).tenantPrev = t.tenantPrev := rfl
@[simp] theorem clean_tenantPrev : s.clean.tenantPrev = s.tenantPrev := rfl
@[simp] theorem setVault_tenantPrev (v : Vault) : (s.setVault v).tenantPrev = s.tenantPrev := rfl
@[simp] theorem clean_misuse : s.clean.misuse = none := rfl
@[simp] theorem setVault_vault (v : Vault) : (s.setVault v).vault = v := rfl

end Sys2Proof.Laws
end

