-- ==== Sys2Proof/Laws/Table.lean ====
section
/-!
SUPPORT. What reading and writing a sparse table does, and that every operation keeps its canonical form.
-/
namespace Sys2Proof.Laws

open Sys2Proof.Machine

variable {α : Type}

@[simp] theorem tblGet_nil (d : α) (k : Nat) : tblGet d [] k = d := rfl

theorem tblGet_erase_self (d : α) (t : Tbl α) (k : Nat) : tblGet d (tblErase t k) k = d := by
  induction t with
  | nil => rfl
  | cons e r ih =>
    rcases e with ⟨j, v⟩
    by_cases h : j = k
    · simpa [tblErase, h] using ih
    · simpa [tblErase, h, tblGet] using ih

theorem tblGet_erase_ne (d : α) (t : Tbl α) {k i : Nat} (h : i ≠ k) : tblGet d (tblErase t k) i = tblGet d t i := by
  induction t with
  | nil => rfl
  | cons e r ih =>
    rcases e with ⟨j, v⟩
    by_cases hj : j = k
    · have : j ≠ i := fun hi => h (hi ▸ hj)
      simpa [tblErase, hj, tblGet, this, Ne.symm h] using ih
    · by_cases hi : j = i
      · simp [tblErase, tblGet, hi, h]
      · simpa [tblErase, hj, tblGet, hi] using ih

theorem tblGet_insert_self (d : α) (t : Tbl α) (k : Nat) (v : α) : tblGet d (tblInsert t k v) k = v := by
  induction t with
  | nil => simp [tblInsert, tblGet]
  | cons e r ih =>
    rcases e with ⟨j, w⟩
    unfold tblInsert
    split_ifs with h1 h2
    · simp [tblGet]
    · simp [tblGet]
    · simpa [tblGet, Ne.symm h2] using ih

theorem tblGet_insert_ne (d : α) (t : Tbl α) {k i : Nat} (v : α) (h : i ≠ k) :
    tblGet d (tblInsert t k v) i = tblGet d t i := by
  induction t with
  | nil => simp [tblInsert, tblGet, Ne.symm h]
  | cons e r ih =>
    rcases e with ⟨j, w⟩
    unfold tblInsert
    split_ifs with h1 h2
    · simp [tblGet, Ne.symm h]
    · subst h2; simp [tblGet, Ne.symm h]
    · by_cases hi : j = i
      · simp [tblGet, hi]
      · simpa [tblGet, hi] using ih

variable [DecidableEq α]

/-- A read after a write to the same key gives what was written. -/
@[simp] theorem tblGet_set_self (d : α) (t : Tbl α) (k : Nat) (v : α) : tblGet d (tblSet d t k v) k = v := by
  unfold tblSet
  split_ifs with h
  · rw [tblGet_erase_self, h]
  · exact tblGet_insert_self d t k v

/-- A write leaves every other key alone. -/
@[simp] theorem tblGet_set_ne (d : α) (t : Tbl α) {k i : Nat} (v : α) (h : i ≠ k) :
    tblGet d (tblSet d t k v) i = tblGet d t i := by
  unfold tblSet
  split_ifs
  · exact tblGet_erase_ne d t h
  · exact tblGet_insert_ne d t v h

theorem tblGet_set (d : α) (t : Tbl α) (k i : Nat) (v : α) :
    tblGet d (tblSet d t k v) i = if i = k then v else tblGet d t i := by
  split_ifs with h
  · subst h; simp
  · simp [h]

/-! Canonical form. -/

omit [DecidableEq α] in
theorem tblAbove_mono {k m : Nat} {t : Tbl α} (h : k ≤ m) (ht : tblAbove m t = true) : tblAbove k t = true := by
  cases t with
  | nil => rfl
  | cons e r =>
    rcases e with ⟨j, v⟩
    simp only [tblAbove, Bool.and_eq_true, decide_eq_true_eq] at ht ⊢
    exact ⟨by omega, ht.2⟩

omit [DecidableEq α] in
theorem tblRising_of_above {k : Nat} {t : Tbl α} (h : tblAbove k t = true) : tblRising t = true := by
  cases t with
  | nil => rfl
  | cons e r =>
    rcases e with ⟨j, v⟩
    simp only [tblAbove, Bool.and_eq_true] at h
    exact h.2

omit [DecidableEq α] in
theorem tblAbove_filter (p : Nat × α → Bool) (k : Nat) (t : Tbl α) (h : tblAbove k t = true) :
    tblAbove k (t.filter p) = true := by
  induction t generalizing k with
  | nil => rfl
  | cons e r ih =>
    rcases e with ⟨j, v⟩
    simp only [tblAbove, Bool.and_eq_true, decide_eq_true_eq] at h
    rw [List.filter_cons]
    split_ifs
    · simp only [tblAbove, Bool.and_eq_true, decide_eq_true_eq]
      exact ⟨h.1, ih j h.2⟩
    · exact ih k (tblAbove_mono (by omega) h.2)

omit [DecidableEq α] in
theorem tblRising_filter (p : Nat × α → Bool) (t : Tbl α) (h : tblRising t = true) : tblRising (t.filter p) = true := by
  cases t with
  | nil => rfl
  | cons e r =>
    rcases e with ⟨j, v⟩
    rw [List.filter_cons]
    split_ifs
    · exact tblAbove_filter p j r h
    · exact tblRising_of_above (tblAbove_filter p j r h)

omit [DecidableEq α] in
theorem tblAbove_insert {m k : Nat} (v : α) (t : Tbl α) (hm : m < k) (h : tblAbove m t = true) :
    tblAbove m (tblInsert t k v) = true := by
  induction t generalizing m with
  | nil => simp [tblInsert, tblAbove, hm]
  | cons e r ih =>
    rcases e with ⟨j, w⟩
    simp only [tblAbove, Bool.and_eq_true, decide_eq_true_eq] at h
    unfold tblInsert
    split_ifs with h1 h2
    · simp [tblAbove, hm, h1, h.2]
    · subst h2; simp [tblAbove, hm, h.2]
    · simp only [tblAbove, Bool.and_eq_true, decide_eq_true_eq]
      exact ⟨h.1, ih (by omega) h.2⟩

omit [DecidableEq α] in
theorem tblRising_insert (t : Tbl α) (k : Nat) (v : α) (h : tblRising t = true) : tblRising (tblInsert t k v) = true := by
  cases t with
  | nil => simp [tblInsert, tblRising, tblAbove]
  | cons e r =>
    rcases e with ⟨j, w⟩
    unfold tblInsert
    split_ifs with h1 h2
    · simpa [tblRising, tblAbove, h1] using h
    · subst h2; exact h
    · exact tblAbove_insert v r (by omega) h

omit [DecidableEq α] in
theorem mem_tblInsert {t : Tbl α} {k : Nat} {v : α} {e : Nat × α} (h : e ∈ tblInsert t k v) : e = (k, v) ∨ e ∈ t := by
  induction t with
  | nil => simpa [tblInsert] using h
  | cons x r ih =>
    rcases x with ⟨j, w⟩
    unfold tblInsert at h
    split_ifs at h with h1 h2
    · simpa using h
    · subst h2
      rcases List.mem_cons.1 h with h | h
      · exact .inl h
      · exact .inr (List.mem_cons_of_mem _ h)
    · rcases List.mem_cons.1 h with h | h
      · exact .inr (h ▸ List.mem_cons_self ..)
      · rcases ih h with h | h
        · exact .inl h
        · exact .inr (List.mem_cons_of_mem _ h)

/-- A write keeps the canonical form. -/
theorem tblWf_set (d : α) (t : Tbl α) (k : Nat) (v : α) (h : tblWf d t = true) : tblWf d (tblSet d t k v) = true := by
  simp only [tblWf, Bool.and_eq_true, List.all_eq_true, decide_eq_true_eq] at h ⊢
  unfold tblSet
  split_ifs with hv
  · exact ⟨tblRising_filter _ t h.1, fun e he => h.2 e (List.mem_of_mem_filter he)⟩
  · refine ⟨tblRising_insert t k v h.1, fun e he => ?_⟩
    rcases mem_tblInsert he with rfl | he
    · exact hv
    · exact h.2 e he

/-- Taking entries out keeps the canonical form. -/
theorem tblWf_filter (d : α) (p : Nat × α → Bool) (t : Tbl α) (h : tblWf d t = true) : tblWf d (t.filter p) = true := by
  simp only [tblWf, Bool.and_eq_true, List.all_eq_true, decide_eq_true_eq] at h ⊢
  exact ⟨tblRising_filter p t h.1, fun e he => h.2 e (List.mem_of_mem_filter he)⟩

end Sys2Proof.Laws
end

