-- ==== Sys2Proof/Laws/Memory.lean ====
section
/-!
SUPPORT. Memory: every operation that writes memory keeps its canonical form, a read after a write gives what was written,
and bytes outside a write are what they were.
-/
namespace Sys2Proof.Laws

open Sys2Proof.Machine

/-! Lists of cells. -/

theorem wf_memPut (bs : List Byte) : ∀ (m : List Host.Cell) (a : Nat), Memory.wf m = true → Memory.wf (memPut m a bs) = true := by
  induction bs with
  | nil => exact fun _ _ h => h
  | cons b r ih => exact fun m a h => ih _ _ (tblWf_set 0 m a b h)

theorem wf_memClear (m : List Host.Cell) (lo hi : Nat) (h : Memory.wf m = true) : Memory.wf (memClear m lo hi) = true :=
  tblWf_filter 0 _ m h

theorem memPut_before (bs : List Byte) : ∀ (m : List Host.Cell) (a x : Nat), x < a →
    tblGet 0 (memPut m a bs) x = tblGet 0 m x := by
  induction bs with
  | nil => exact fun _ _ _ _ => rfl
  | cons b r ih =>
    intro m a x hx
    rw [memPut, ih _ _ _ (by omega), tblGet_set, if_neg (by omega)]

/-- A read of a byte after a write: the byte written, or what was there. -/
theorem memPut_get (bs : List Byte) : ∀ (m : List Host.Cell) (a x : Nat),
    tblGet 0 (memPut m a bs) x = if a ≤ x ∧ x < a + bs.length then bs.getD (x - a) 0 else tblGet 0 m x := by
  induction bs with
  | nil => intro m a x; rw [memPut, if_neg (by simp only [List.length_nil]; omega)]
  | cons b r ih =>
    intro m a x
    rw [memPut]
    rcases Nat.lt_trichotomy x a with h | rfl | h
    · rw [memPut_before r _ _ _ (by omega), tblGet_set, if_neg (by omega), if_neg (by omega)]
    · rw [memPut_before r _ _ _ (by omega), tblGet_set, if_pos rfl, if_pos (by simp only [List.length_cons]; omega)]
      simp
    · rw [ih, tblGet_set]
      obtain ⟨k, rfl⟩ : ∃ k, x = a + 1 + k := ⟨x - (a + 1), by omega⟩
      have e1 : a + 1 + k - (a + 1) = k := by omega
      have e2 : a + 1 + k - a = k + 1 := by omega
      rw [e1, e2, List.getD_cons_succ]
      by_cases hk : k < r.length
      · rw [if_pos (by omega), if_pos (by simp only [List.length_cons]; omega)]
      · rw [if_neg (by omega), if_neg (by omega), if_neg (by simp only [List.length_cons]; omega)]

theorem memBytes_length (m : List Host.Cell) (a n : Nat) : (memBytes m a n).length = n := by simp [memBytes]

theorem memBytes_getD (m : List Host.Cell) {a n i : Nat} (h : i < n) : (memBytes m a n).getD i 0 = tblGet 0 m (a + i) := by
  simp [memBytes, List.getD_eq_getElem?_getD, List.getElem?_map, List.getElem?_range h]

theorem memBytes_memPut_self (m : List Host.Cell) (a : Nat) (bs : List Byte) :
    memBytes (memPut m a bs) a bs.length = bs := by
  refine List.ext_getElem (memBytes_length ..) fun i h1 h2 => ?_
  have := memBytes_getD (memPut m a bs) (a := a) h2
  rw [memPut_get, if_pos ⟨by omega, by omega⟩, Nat.add_sub_cancel_left] at this
  rw [← List.getD_eq_getElem _ 0 h1, this, List.getD_eq_getElem _ 0 h2]

theorem memClear_get (m : List Host.Cell) (lo hi x : Nat) :
    tblGet 0 (memClear m lo hi) x = if lo ≤ x ∧ x < hi then 0 else tblGet 0 m x := by
  induction m with
  | nil => simp [memClear, tblGet]
  | cons e r ih =>
    rcases e with ⟨j, v⟩
    by_cases hj : j < lo ∨ hi ≤ j
    · have : memClear ((j, v) :: r) lo hi = (j, v) :: memClear r lo hi := by simp [memClear, hj]
      rw [this, tblGet, tblGet, ih]
      split_ifs <;> first | rfl | omega
    · have : memClear ((j, v) :: r) lo hi = memClear r lo hi := by simp [memClear, hj]
      rw [this, ih, tblGet]
      split_ifs <;> first | rfl | omega

/-! What leaves the memories alone. -/

/-- The two memories. -/
def mems (s : State) : List Host.Cell × List Host.Cell := (s.mem, s.hostMem)

variable (s : State)

theorem mems_setReg (k : Nat) (v : Word) : mems (s.setReg k v) = mems s := rfl
theorem mems_setFlag (k i : Nat) (b : Bool) : mems (s.setFlag k i b) = mems s := rfl
theorem mems_count (k n : Nat) : mems (s.count k n) = mems s := rfl
theorem mems_modHart (k : Nat) (f : Core → Core) : mems (s.modHart k f) = mems s := rfl
theorem mems_modBmem (k : Nat) (f : BasinMem → BasinMem) : mems (s.modBmem k f) = mems s := rfl
theorem mems_memErrLog (b x : Nat) (ue scrub : Bool) : mems (s.memErrLog b x ue scrub) = mems s := mems_setReg ..
theorem mems_rsvErrLog (b x : Nat) (ue scrub : Bool) : mems (s.rsvErrLog b x ue scrub) = mems s := mems_setReg ..
theorem mems_noteCorrected (b k : Nat) : mems (s.noteCorrected b k).2 = mems s := rfl

theorem mems_undefIf (b : Bool) (c : Undefined) : mems (s.undefIf b c) = mems s := by cases b <;> rfl

/-- A write that nothing owns is noted by nothing. -/
theorem noteWrite_of_free {a n : Nat} (h : s.meetsOwned a n = false) : s.noteWrite a n = s := by
  simp only [State.meetsOwned, Bool.or_eq_false_iff] at h
  obtain ⟨⟨h1, h2⟩, h3⟩ := h
  rw [State.noteWrite, State.noteCounter, h1]
  show (s.noteEntry a n).noteJob a n = s
  rw [State.noteEntry, h2]
  show s.noteJob a n = s
  rw [State.noteJob, h3]
  rfl

theorem mems_noteWrite (a n : Nat) : mems (s.noteWrite a n) = mems s := by
  simp only [State.noteWrite, State.noteCounter, State.noteEntry, State.noteJob, mems_undefIf]

theorem mems_each {f : State → Nat → State} (hf : ∀ t x, mems (f t x) = mems t) (l : List Nat) : mems (s.each l f) = mems s := by
  induction l generalizing s with
  | nil => rfl
  | cons x r ih => exact (ih (f s x)).trans (hf s x)

theorem mems_when {f : State → State} (hf : ∀ t, mems (f t) = mems t) (b : Bool) : mems (s.when b f) = mems s := by
  cases b
  · rfl
  · exact hf s

theorem mems_attend : mems s.attend = mems s := by
  unfold State.attend
  split <;> rfl

theorem mems_mctpSend (binding type : Nat) (body : List Byte) : mems (s.mctpSend binding type body) = mems s := by
  unfold State.mctpSend
  extract_lets t
  split
  · exact mems_attend t
  · rfl

theorem mems_sendEvent (binding : Nat) (e : PldmEvent) : mems (s.sendEvent binding e) = mems s :=
  mems_mctpSend { s with pldm := { s.pldm with lost := 0 } } _ _ _

theorem mems_sendEvents (binding : Nat) (es : List PldmEvent) : mems (es.foldl (fun s e => s.sendEvent binding e) s) = mems s := by
  induction es generalizing s with
  | nil => rfl
  | cons e r ih => exact (ih (s.sendEvent binding e)).trans (mems_sendEvent s binding e)

theorem mems_platformEvent (e : PldmEvent) : mems (s.platformEvent e) = mems s := by
  unfold State.platformEvent
  split
  · rfl
  · split
    · exact mems_attend _
    · split
      · exact mems_sendEvents { s with pldm := { s.pldm with events := [] } } _ _
      · rfl

theorem mems_logEvent (code src lines a0 a1 a2 : Nat) : mems (s.logEvent code src lines a0 a1 a2) = mems s := by
  unfold State.logEvent
  split
  · rfl
  · extract_lets e t
    split
    · exact mems_platformEvent t _
    · rfl

theorem mems_startLiveCheck (b c : Nat) : mems (s.startLiveCheck b c) = mems s := by
  unfold State.startLiveCheck
  split <;> rfl

theorem mems_tempCheck (b : Nat) : mems (s.tempCheck b) = mems s := by
  refine mems_each _ (fun t k => ?_) _
  extract_lets chans temp far
  split
  · exact mems_each _ (fun u c => mems_startLiveCheck u b c) _
  · rfl

theorem mems_wakeExit (l : Nat) : mems (s.wakeExit l) = mems s := by
  unfold State.wakeExit
  extract_lets ln t
  split
  · split
    · refine (mems_each t (fun u b => ?_) (t.members l)).trans rfl
      exact mems_tempCheck _ b
    · rfl
  · rfl

theorem mems_sendMsi (l src : Nat) : mems (s.sendMsi l src) = mems s := by
  unfold State.sendMsi
  extract_lets r x guest eiid
  have h : mems (if guest ≤ 7 then (guest, s) else (s.free % 9, s.bump)).2 = mems s := by split <;> rfl
  generalize (if guest ≤ 7 then (guest, s) else (s.free % 9, s.bump)) = o at h ⊢
  obtain ⟨n, t⟩ := o
  split
  · rfl
  · split
    · rfl
    · split
      · dsimp only at h ⊢
        generalize (if r.flag 7 then 0 else 1 + n) = file
        split
        · exact h
        · exact (mems_modHart ..).trans h
      · exact mems_setFlag ..

theorem mems_route (l src : Nat) : mems (s.route l src) = mems s := by
  unfold State.route
  split
  · exact mems_sendMsi s l src
  · exact mems_setFlag ..

theorem mems_raise (l src : Nat) : mems (s.raise l src) = mems s := (mems_route _ l src).trans (mems_wakeExit s l)

theorem mems_queueRow (b c row : Nat) : mems (s.queueRow b c row) = mems s := by
  unfold State.queueRow
  split <;> rfl

theorem mems_takeSubarray (b bank sub : Nat) : mems (s.takeSubarray b bank sub) = mems s := by
  unfold State.takeSubarray
  extract_lets m running
  split
  · rfl
  · split
    · exact mems_setFlag ..
    · rfl

theorem mems_reportUe (b : Nat) (w : Word) (k : Nat) : mems (s.reportUe b w k) = mems s :=
  (mems_when _ (fun t => mems_raise t _ _) _).trans (mems_logEvent s _ _ _ _ _ _)

theorem mems_eccFixed (scrub : Bool) (g : Nat) : mems (s.eccFixed scrub g) = mems s := by
  have key (t : State) (b k : Nat) (f : State → State) (hf : ∀ u, mems (f u) = mems u) (m : Nat) (ht : mems t = mems s) :
      mems (match t.noteCorrected b k with | (n, u) => if m < n then f u else u) = mems s := by
    have hn := (mems_noteCorrected t b k).trans ht
    generalize t.noteCorrected b k = o at hn ⊢
    obtain ⟨n, u⟩ := o
    dsimp only at hn ⊢
    split
    · exact (hf u).trans hn
    · exact hn
  unfold State.eccFixed
  split
  · exact key _ _ _ (fun u => u.queueRow _ _ _) (fun u => mems_queueRow u _ _ _) 4
      ((mems_memErrLog ..).trans (mems_count ..))
  · exact key _ _ _ (fun u => u.takeSubarray _ _ _) (fun u => mems_takeSubarray u _ _ _) 16
      ((mems_rsvErrLog ..).trans (mems_count ..))
  · rfl

/-! The state's memories. -/

/-- The memories of the state right after reset list nothing. -/
theorem reset_wf : Memory.wf State.reset.mem = true ∧ Memory.wf State.reset.hostMem = true := ⟨rfl, rfl⟩

/-- Both memories are in canonical form. -/
def MemWf (s : State) : Prop := Memory.wf s.mem = true ∧ Memory.wf s.hostMem = true

variable {s}

theorem MemWf.of_mems {t : State} (h : MemWf s) (e : mems t = mems s) : MemWf t := by
  have e1 : t.mem = s.mem := congrArg Prod.fst e
  have e2 : t.hostMem = s.hostMem := congrArg Prod.snd e
  unfold MemWf
  rw [e1, e2]
  exact h

/-- A fold of operations that keep the form keeps it. -/
theorem MemWf.fold {α : Type} {f : State → α → State} (hf : ∀ t x, MemWf t → MemWf (f t x)) (l : List α) :
    ∀ {t : State}, MemWf t → MemWf (l.foldl f t) := by
  induction l with
  | nil => exact fun h => h
  | cons x r ih => exact fun h => ih (hf _ x h)

/-- The same, for folds that answer something beside the state. -/
theorem MemWf.fold_snd {α β : Type} {f : β × State → α → β × State} (hf : ∀ t x, MemWf t.2 → MemWf (f t x).2)
    (l : List α) : ∀ {t : β × State}, MemWf t.2 → MemWf (l.foldl f t).2 := by
  induction l with
  | nil => exact fun h => h
  | cons x r ih => exact fun h => ih (hf _ x h)

theorem MemWf.putGranule (h : MemWf s) (g : Nat) (d : List Byte) (p : Bool) : MemWf (s.putGranule g d p) :=
  ⟨wf_memPut _ _ _ h.1, h.2⟩

theorem MemWf.corruptGranule (h : MemWf s) (g : Nat) (d : List Byte) : MemWf (s.corruptGranule g d) :=
  ⟨wf_memPut _ _ _ h.1, h.2⟩

theorem MemWf.loseGranule (h : MemWf s) (g : Nat) : MemWf (s.loseGranule g) := ⟨wf_memPut _ _ _ h.1, h.2⟩

theorem MemWf.zeroRange (h : MemWf s) (lo hi : Nat) : MemWf (s.zeroRange lo hi) := ⟨wf_memClear _ _ _ h.1, h.2⟩

theorem MemWf.clearBasin (h : MemWf s) (b : Nat) : MemWf (s.clearBasin b) := ⟨wf_memClear _ _ _ (wf_memClear _ _ _ h.1), h.2⟩

theorem MemWf.eccLost (h : MemWf s) (scrub : Bool) (g : Nat) : MemWf (s.eccLost scrub g) := by
  have hl := h.loseGranule g
  unfold State.eccLost
  generalize s.loseGranule g = x at hl ⊢
  split
  · exact hl.of_mems ((mems_queueRow ..).trans ((mems_logEvent ..).trans ((mems_reportUe ..).trans
      ((mems_memErrLog ..).trans (mems_count ..)))))
  · exact hl.of_mems ((mems_takeSubarray ..).trans ((mems_reportUe ..).trans ((mems_rsvErrLog ..).trans (mems_count ..))))
  · exact h

/-- What ECC finds when a granule is read keeps the form, be it lost. -/
theorem MemWf.eccRead (h : MemWf s) (scrub : Bool) (g : Nat) : MemWf (s.eccRead scrub g) := by
  unfold State.eccRead
  split
  · exact h
  · exact h.of_mems (mems_eccFixed (s.clearErr g) _ _)
  · exact MemWf.eccLost (s := s.clearErr g) ⟨h.1, h.2⟩ _ _

theorem MemWf.freeBytes (h : MemWf s) (n : Nat) : MemWf (s.freeBytes n).2 := h

theorem MemWf.readNow (h : MemWf s) (g : Nat) : MemWf (s.readNow g).2 := by
  unfold State.readNow
  split
  · exact MemWf.freeBytes (h.of_mems (mems_count ..)) 64
  · have hr : MemWf (if (s.dirtyOwner g).isSome then s else s.eccRead false g) := by
      split
      · exact h
      · exact h.eccRead _ _
    exact hr

theorem MemWf.dropCopies (h : MemWf s) (g : Nat) : MemWf (s.dropCopies g) := ⟨h.1, h.2⟩

theorem MemWf.writeNow (h : MemWf s) (a : Nat) (d : List Byte) (p : Bool) : MemWf (s.writeNow a d p) := by
  unfold State.writeNow
  extract_lets g t
  have hr : MemWf t := by
    dsimp only [t]
    split
    · exact h
    · exact h.eccRead _ _
  clear_value t
  split
  · exact h.dropCopies g
  · split
    · exact (h.dropCopies g).putGranule g d p
    · exact (hr.dropCopies g).putGranule g _ _

theorem MemWf.setCopy (h : MemWf s) (a g : Nat) (c : Option CacheLine) : MemWf (s.setCopy a g c) := ⟨h.1, h.2⟩
theorem MemWf.redirect (h : MemWf s) (g : Nat) : MemWf (s.redirect g) := ⟨h.1, h.2⟩
theorem MemWf.dropCopy (h : MemWf s) (a g : Nat) : MemWf (s.dropCopy a g) := ⟨h.1, h.2⟩
theorem MemWf.setTxn (h : MemWf s) (g : Nat) (t : Option CohTxn) : MemWf (s.setTxn g t) := ⟨h.1, h.2⟩
theorem MemWf.setCoh (h : MemWf s) (c : Coherence) : MemWf { s with coh := c } := ⟨h.1, h.2⟩
theorem MemWf.emit (h : MemWf s) (m : Msg) : MemWf (s.emit m) := ⟨h.1, h.2⟩
theorem MemWf.bump (h : MemWf s) : MemWf s.bump := ⟨h.1, h.2⟩

theorem MemWf.evictFor (h : MemWf s) (a g : Nat) : MemWf (s.evictFor a g) := by
  unfold State.evictFor
  extract_lets mine free t
  have ht : MemWf t := h.bump
  clear_value t
  split
  · exact h
  · split
    · rename_i x _
      extract_lets u
      have hu : MemWf u := by
        dsimp only [u]
        split
        · split
          · exact ht.putGranule _ _ _
          · exact ht
        · exact ht
      exact (hu.dropCopy a x).redirect x
    · exact h

theorem MemWf.makeRoom (h : MemWf s) (g : Nat) : MemWf (s.makeRoom g) := by
  unfold State.makeRoom
  split
  · exact h
  · extract_lets used x t u
    have ht : MemWf t := h.bump
    have hu : MemWf u := by
      dsimp only [u]
      split
      · split
        · exact ht.putGranule _ _ _
        · exact ht
      · exact ht
    clear_value t u
    split
    · exact h
    · exact (hu.dropCopies x).of_mems (mems_count ..)

theorem MemWf.grant (h : MemWf s) (a g : Nat) (st : Moesi) (d : List Byte × Bool) : MemWf (s.grant a g st d) :=
  ((((h.evictFor a g).setCopy a g _).redirect g).makeRoom g).emit _

theorem MemWf.homeData (h : MemWf s) (g : Nat) (o : Option (List Byte × Bool)) : MemWf (s.homeData g o).2 := by
  cases o
  · exact h.readNow g
  · exact h

/-- The end of a home transaction. -/
theorem MemWf.finishTxn (h : MemWf s) (t : CohTxn) : MemWf (s.finishTxn t) := by
  unfold State.finishTxn
  extract_lets u own v
  have hu : MemWf u := h.setTxn _ _
  split
  · exact (hu.homeData _ _).grant _ _ _ _
  · exact (hu.homeData _ _).grant _ _ _ _
  · exact (hu.homeData _ _).grant _ _ _ _
  · exact (hu.homeData _ _).emit _
  · exact hu.writeNow _ _ _
  · have hv : MemWf v := by
      dsimp only [v]
      split
      · exact hu.putGranule _ _ _
      · exact hu
    exact hv.writeNow _ _ _

theorem MemWf.homeSettle (h : MemWf s) (g : Nat) : MemWf (s.homeSettle g) := by
  unfold State.homeSettle
  split
  · split
    · exact h.finishTxn _
    · exact h
  · exact h

theorem MemWf.openTxn (h : MemWf s) (a g : Nat) (req : CohReq) (kind : SnoopKind) (who : List Nat) (since : Nat) :
    MemWf (s.openTxn a g req kind who since) :=
  MemWf.homeSettle (MemWf.setTxn (MemWf.fold (fun _ _ ht => ht.emit _) who h) g _) g

theorem MemWf.startReq (h : MemWf s) (a g : Nat) (req : CohReq) (since : Nat) : MemWf (s.startReq a g req since) := by
  unfold State.startReq
  split
  · split
    · exact h
    · split
      · exact (h.readNow g).grant _ _ _ _
      · exact h.openTxn _ _ _ _ _ _
  · split
    · exact h
    · exact h.openTxn _ _ _ _ _ _
  · split
    · split
      · exact h.openTxn _ _ _ _ _ _
      · exact h
    · exact h
  · split
    · exact h.openTxn _ _ _ _ _ _
    · exact (h.readNow g).emit _
  · exact h.openTxn _ _ _ _ _ _
  · exact h.openTxn _ _ _ _ _ _

/-- Serving the requests that wait on a line. -/
theorem MemWf.serveLine (h : MemWf s) (g : Nat) : MemWf (s.serveLine g) := by
  refine MemWf.fold (fun t w ht => ?_) _ h
  split
  · exact ht
  · exact (ht.setCoh _).startReq _ _ _ _

theorem MemWf.snoop (h : MemWf s) (a g : Nat) (kind : SnoopKind) : MemWf (s.snoop a g kind) := by
  unfold State.snoop
  extract_lets awaited answered
  split
  · have key (o : Option (List Byte × Bool) × Option CacheLine) : MemWf (match o with
        | (_, next) => match next with | some c => s.setCopy a g (some c) | none => s.dropCopy a g) := by
      obtain ⟨x, y⟩ := o
      cases y
      · exact h.dropCopy a g
      · exact h.setCopy a g _
    exact ⟨(key _).1, (key _).2⟩
  · exact h

theorem MemWf.ackWb (h : MemWf s) (a g : Nat) : MemWf (s.ackWb a g) := ⟨h.1, h.2⟩
theorem MemWf.takeResp (h : MemWf s) (r : SnoopResp) : MemWf (s.takeResp r) := ⟨h.1, h.2⟩

theorem MemWf.respond (h : MemWf s) (a g : Nat) : MemWf (s.respond a g) := by
  unfold State.respond
  split
  · exact h
  · extract_lets t wb late
    have ht : MemWf t := h.takeResp _
    clear_value t
    split
    · exact ht.ackWb a g
    · split
      · exact ht
      · split
        · exact ht.setTxn g _
        · exact MemWf.homeSettle (MemWf.setTxn (MemWf.setCoh ht _) g _) g

theorem MemWf.wbArrive (h : MemWf s) (w : WriteBackMsg) : MemWf (s.wbArrive w) := by
  unfold State.wbArrive
  extract_lets g a t mark
  have ht : MemWf t := by
    dsimp only [t]
    split
    · exact h
    · exact h.putGranule _ _ _
  clear_value t
  have hm (c : Option SnoopKind) : MemWf (mark c t) := ⟨ht.1, ht.2⟩
  split
  · split
    · extract_lets x u
      have hu : MemWf u := by
        dsimp only [u]
        split
        · exact (hm none).emit _
        · exact hm _
      clear_value u
      exact ((hu.redirect g).setTxn g _).homeSettle g
    · exact ((hm none).redirect g).emit _
  · exact ((hm none).redirect g).emit _

/-- An open transaction carried to its end. -/
theorem MemWf.settleLine (h : MemWf s) (g : Nat) : MemWf (s.settleLine g) := by
  unfold State.settleLine
  extract_lets t
  have ht : MemWf t := by
    dsimp only [t]
    split
    · exact h.wbArrive _
    · exact h
  clear_value t
  split
  · exact MemWf.fold (fun _ _ hu => (hu.snoop _ _ _).respond _ _) _ ht
  · exact ht

theorem MemWf.readHome (h : MemWf s) (g : Nat) : MemWf (s.readHome g).2 := (h.settleLine g).readNow g

/-- A write at the home. -/
theorem MemWf.storeHome (h : MemWf s) (a : Nat) (d : List Byte) (p : Bool) : MemWf (s.storeHome a d p) :=
  ((h.settleLine _).writeNow _ _ _).serveLine _

theorem MemWf.hostPut (h : MemWf s) (a : Nat) (d : List Byte) (p : Bool) : MemWf (s.hostPut a d p) :=
  ⟨h.1, wf_memPut _ _ _ h.2⟩

/-- Posted writes that are lost (R264). -/
theorem MemWf.losePosted (h : MemWf s) (n : Nat) : MemWf (s.losePosted n) :=
  MemWf.fold (f := fun (s : State) (w : Nat × List Byte × Bool) =>
    { s with hostMem := memPut s.hostMem w.1 w.2.1, hostPoison := tblSet false s.hostPoison (w.1 / 64) w.2.2 })
    (fun _ _ ht => ⟨ht.1, wf_memPut _ _ _ ht.2⟩) _ h

theorem MemWf.undef (h : MemWf s) (c : Undefined) : MemWf (s.undef c) := ⟨h.1, h.2⟩

theorem MemWf.storePiece (h : MemWf s) (l a : Nat) (d : List Byte) (p : Bool) : MemWf (s.storePiece l a d p).2 := by
  have own : MemWf (if s.ownMem l a then
      if (s.line l).st = .failed then (false, s)
      else (false, (s.storeHome a d p).noteWrite a d.length)
    else (true, s)).2 := by
    split
    · split
      · exact h
      · exact (h.storeHome _ _ _).of_mems (mems_noteWrite ..)
    · exact h
  unfold State.storePiece
  split
  · exact own
  · exact own
  · split
    · exact h.undef _
    · exact h
  · split
    · exact h.undef _
    · exact h
  · split
    · exact h
    · split
      · exact h.hostPut _ _ _
      · exact h
  · exact h

/-- A write of any length keeps the canonical form. -/
theorem MemWf.store (h : MemWf s) (l a : Nat) (d : List Byte) (p : Bool) : MemWf (s.store l a d p).2 :=
  MemWf.fold_snd (t := (false, s)) (f := fun (nt, s) (q : Nat × Nat) =>
      let (r, s) := s.storePiece l q.1 ((d.drop (q.1 - a)).take q.2) p
      (nt || r, s))
    (fun _ _ ht => ht.storePiece _ _ _ _) _ h

theorem MemWf.loadPiece (h : MemWf s) (l a n : Nat) : MemWf (s.loadPiece l a n).2 := by
  have none_ : MemWf (s.noTargetRead n).2 := h.freeBytes n
  have own : MemWf (if s.ownMem l a then
      match s.onFailed a with
      | some b =>
        let (d, s) := (s.count (memKey b 0x20) 1).freeBytes n
        (({ data := d, poison := true } : Rd), s)
      | none =>
        let ((d, p), s) := s.readHome (a / 64)
        ({ data := (d.drop (a % 64)).take n, poison := p }, s.serveLine (a / 64))
    else s.noTargetRead n).2 := by
    split
    · split
      · exact MemWf.freeBytes (h.of_mems (mems_count ..)) n
      · exact (h.readHome _).serveLine _
    · exact none_
  have u (c : Undefined) : MemWf ((s.noTargetRead n).map id fun t : State => t.undef c).2 := MemWf.undef none_ c
  unfold State.loadPiece
  split
  · exact own
  · exact own
  · split
    · exact u _
    · exact none_
  · split
    · exact u _
    · exact none_
  · split
    · exact h
    · exact none_
  · exact none_

/-- A read of any length keeps it: what ECC loses, and what a snoop returns, is written. -/
theorem MemWf.load (h : MemWf s) (l a n : Nat) : MemWf (s.load l a n).2 :=
  MemWf.fold_snd (β := Rd) (t := ({}, s)) (f := fun (r, s) (p : Nat × Nat) =>
      let (q, s) := s.loadPiece l p.1 p.2
      ({ data := r.data ++ q.data, poison := r.poison || q.poison, noTarget := r.noTarget || q.noTarget }, s))
    (fun _ _ ht => ht.loadPiece _ _ _) _ h

theorem MemWf.mergeBase (h : MemWf s) (g : Nat) (whole : Bool) : MemWf (s.mergeBase g whole) := by
  have hs := h.settleLine g
  unfold State.mergeBase
  extract_lets t
  split
  · exact hs
  · exact MemWf.eccRead hs _ _

/-- A write of one granule by the transfer engine. -/
theorem MemWf.storeGranule (h : MemWf s) (g : Nat) (new : List (Option (Byte × Bool))) : MemWf (s.storeGranule g new).2 := by
  unfold State.storeGranule
  split
  · exact h
  · split
    · exact h.dropCopies g
    · exact (((h.mergeBase g _).dropCopies g).putGranule g _ _).serveLine g

/-- Host writes of deliveries (R255). -/
theorem MemWf.writeHost (h : MemWf s) (ps : List Piece) : MemWf (s.writeHost ps) :=
  MemWf.fold (fun _ _ ht => MemWf.fold (fun _ _ hu => hu.hostPut _ _ _) _ ht) _ h

end Sys2Proof.Laws
end

