-- ==== Sys2Proof/Laws/Readers.lean ====
section
/-!
SUPPORT. Each update of the state and each reader of a table: one lemma, true by definition.
-/
namespace Sys2Proof.Laws

open Sys2Proof.Machine

variable (s : State)

/-! What leaves `line` alone. -/

@[simp] theorem setReg_line (k : Nat) (v : Word) (j : Nat) : (s.setReg k v).line j = s.line j := rfl
@[simp] theorem setFld_line (k lo n v : Nat) (j : Nat) : (s.setFld k lo n v).line j = s.line j := rfl
@[simp] theorem modPond_line (k : Nat) (f : Pond → Pond) (j : Nat) : (s.modPond k f).line j = s.line j := rfl
@[simp] theorem setFlag_line (k i : Nat) (b : Bool) (j : Nat) : (s.setFlag k i b).line j = s.line j := rfl
@[simp] theorem modGrid_line (k : Nat) (f : GridSlot → GridSlot) (j : Nat) : (s.modGrid k f).line j = s.line j := rfl
@[simp] theorem count_line (k n : Nat) (j : Nat) : (s.count k n).line j = s.line j := rfl
@[simp] theorem modBmem_line (k : Nat) (f : BasinMem → BasinMem) (j : Nat) : (s.modBmem k f).line j = s.line j := rfl
@[simp] theorem countFld_line (k lo w n : Nat) (j : Nat) : (s.countFld k lo w n).line j = s.line j := rfl
@[simp] theorem modBpow_line (k : Nat) (f : BasinPower → BasinPower) (j : Nat) : (s.modBpow k f).line j = s.line j := rfl
@[simp] theorem dropRegs_line (p : Nat → Bool) (j : Nat) : (s.dropRegs p).line j = s.line j := rfl
@[simp] theorem modChan_line (k : Nat) (f : Channel → Channel) (j : Nat) : (s.modChan k f).line j = s.line j := rfl
@[simp] theorem bump_line (j : Nat) : (s.bump).line j = s.line j := rfl
@[simp] theorem modQueue_line (k : Nat) (f : AQueue → AQueue) (j : Nat) : (s.modQueue k f).line j = s.line j := rfl
@[simp] theorem emit_line (m : Msg) (j : Nat) : (s.emit m).line j = s.line j := rfl
@[simp] theorem modPort_line (k : Nat) (f : Port → Port) (j : Nat) : (s.modPort k f).line j = s.line j := rfl
@[simp] theorem undefAt_line (c : Undefined) (k : Scope) (j : Nat) : (s.undefAt c k).line j = s.line j := rfl
@[simp] theorem modCtx_line (k : Nat) (f : Ctx → Ctx) (j : Nat) : (s.modCtx k f).line j = s.line j := rfl
@[simp] theorem undef_line (c : Undefined) (j : Nat) : (s.undef c).line j = s.line j := rfl
@[simp] theorem modCfl_line (k : Nat) (f : CflEntry → CflEntry) (j : Nat) : (s.modCfl k f).line j = s.line j := rfl
@[simp] theorem atPf0_line (j : Nat) : (s.atPf0).line j = s.line j := rfl
@[simp] theorem modHart_line (k : Nat) (f : Core → Core) (j : Nat) : (s.modHart k f).line j = s.line j := rfl
@[simp] theorem setLayerQ_line (b : Nat) (q : List Layer) (j : Nat) : (s.setLayerQ b q).line j = s.line j := rfl
@[simp] theorem modSpur_line (k : Nat) (f : Spur → Spur) (j : Nat) : (s.modSpur k f).line j = s.line j := rfl
@[simp] theorem setTlb_line (b : Nat) (q : List TlbEntry) (j : Nat) : (s.setTlb b q).line j = s.line j := rfl
@[simp] theorem modDie_line (k : Nat) (f : Die → Die) (j : Nat) : (s.modDie k f).line j = s.line j := rfl
@[simp] theorem modHealth_line (k : Nat) (f : Health → Health) (j : Nat) : (s.modHealth k f).line j = s.line j := rfl
@[simp] theorem keeping_line (t : State) (j : Nat) : (t.keeping s).line j = t.line j := rfl
@[simp] theorem clean_line (j : Nat) : s.clean.line j = s.line j := rfl

/-! What leaves `pond` alone. -/

@[simp] theorem setReg_pond (k : Nat) (v : Word) (j : Nat) : (s.setReg k v).pond j = s.pond j := rfl
@[simp] theorem modLine_pond (k : Nat) (f : Line → Line) (j : Nat) : (s.modLine k f).pond j = s.pond j := rfl
@[simp] theorem setFld_pond (k lo n v : Nat) (j : Nat) : (s.setFld k lo n v).pond j = s.pond j := rfl
@[simp] theorem setFlag_pond (k i : Nat) (b : Bool) (j : Nat) : (s.setFlag k i b).pond j = s.pond j := rfl
@[simp] theorem modGrid_pond (k : Nat) (f : GridSlot → GridSlot) (j : Nat) : (s.modGrid k f).pond j = s.pond j := rfl
@[simp] theorem count_pond (k n : Nat) (j : Nat) : (s.count k n).pond j = s.pond j := rfl
@[simp] theorem modBmem_pond (k : Nat) (f : BasinMem → BasinMem) (j : Nat) : (s.modBmem k f).pond j = s.pond j := rfl
@[simp] theorem countFld_pond (k lo w n : Nat) (j : Nat) : (s.countFld k lo w n).pond j = s.pond j := rfl
@[simp] theorem modBpow_pond (k : Nat) (f : BasinPower → BasinPower) (j : Nat) : (s.modBpow k f).pond j = s.pond j := rfl
@[simp] theorem dropRegs_pond (p : Nat → Bool) (j : Nat) : (s.dropRegs p).pond j = s.pond j := rfl
@[simp] theorem modChan_pond (k : Nat) (f : Channel → Channel) (j : Nat) : (s.modChan k f).pond j = s.pond j := rfl
@[simp] theorem bump_pond (j : Nat) : (s.bump).pond j = s.pond j := rfl
@[simp] theorem modQueue_pond (k : Nat) (f : AQueue → AQueue) (j : Nat) : (s.modQueue k f).pond j = s.pond j := rfl
@[simp] theorem emit_pond (m : Msg) (j : Nat) : (s.emit m).pond j = s.pond j := rfl
@[simp] theorem modPort_pond (k : Nat) (f : Port → Port) (j : Nat) : (s.modPort k f).pond j = s.pond j := rfl
@[simp] theorem undefAt_pond (c : Undefined) (k : Scope) (j : Nat) : (s.undefAt c k).pond j = s.pond j := rfl
@[simp] theorem modCtx_pond (k : Nat) (f : Ctx → Ctx) (j : Nat) : (s.modCtx k f).pond j = s.pond j := rfl
@[simp] theorem undef_pond (c : Undefined) (j : Nat) : (s.undef c).pond j = s.pond j := rfl
@[simp] theorem modCfl_pond (k : Nat) (f : CflEntry → CflEntry) (j : Nat) : (s.modCfl k f).pond j = s.pond j := rfl
@[simp] theorem atPf0_pond (j : Nat) : (s.atPf0).pond j = s.pond j := rfl
@[simp] theorem modHart_pond (k : Nat) (f : Core → Core) (j : Nat) : (s.modHart k f).pond j = s.pond j := rfl
@[simp] theorem setLayerQ_pond (b : Nat) (q : List Layer) (j : Nat) : (s.setLayerQ b q).pond j = s.pond j := rfl
@[simp] theorem modSpur_pond (k : Nat) (f : Spur → Spur) (j : Nat) : (s.modSpur k f).pond j = s.pond j := rfl
@[simp] theorem setTlb_pond (b : Nat) (q : List TlbEntry) (j : Nat) : (s.setTlb b q).pond j = s.pond j := rfl
@[simp] theorem modDie_pond (k : Nat) (f : Die → Die) (j : Nat) : (s.modDie k f).pond j = s.pond j := rfl
@[simp] theorem modHealth_pond (k : Nat) (f : Health → Health) (j : Nat) : (s.modHealth k f).pond j = s.pond j := rfl
@[simp] theorem keeping_pond (t : State) (j : Nat) : (t.keeping s).pond j = t.pond j := rfl
@[simp] theorem clean_pond (j : Nat) : s.clean.pond j = s.pond j := rfl

/-! What leaves `grid` alone. -/

@[simp] theorem setReg_grid (k : Nat) (v : Word) (j : Nat) : (s.setReg k v).grid j = s.grid j := rfl
@[simp] theorem modLine_grid (k : Nat) (f : Line → Line) (j : Nat) : (s.modLine k f).grid j = s.grid j := rfl
@[simp] theorem setFld_grid (k lo n v : Nat) (j : Nat) : (s.setFld k lo n v).grid j = s.grid j := rfl
@[simp] theorem modPond_grid (k : Nat) (f : Pond → Pond) (j : Nat) : (s.modPond k f).grid j = s.grid j := rfl
@[simp] theorem setFlag_grid (k i : Nat) (b : Bool) (j : Nat) : (s.setFlag k i b).grid j = s.grid j := rfl
@[simp] theorem count_grid (k n : Nat) (j : Nat) : (s.count k n).grid j = s.grid j := rfl
@[simp] theorem modBmem_grid (k : Nat) (f : BasinMem → BasinMem) (j : Nat) : (s.modBmem k f).grid j = s.grid j := rfl
@[simp] theorem countFld_grid (k lo w n : Nat) (j : Nat) : (s.countFld k lo w n).grid j = s.grid j := rfl
@[simp] theorem modBpow_grid (k : Nat) (f : BasinPower → BasinPower) (j : Nat) : (s.modBpow k f).grid j = s.grid j := rfl
@[simp] theorem dropRegs_grid (p : Nat → Bool) (j : Nat) : (s.dropRegs p).grid j = s.grid j := rfl
@[simp] theorem modChan_grid (k : Nat) (f : Channel → Channel) (j : Nat) : (s.modChan k f).grid j = s.grid j := rfl
@[simp] theorem bump_grid (j : Nat) : (s.bump).grid j = s.grid j := rfl
@[simp] theorem modQueue_grid (k : Nat) (f : AQueue → AQueue) (j : Nat) : (s.modQueue k f).grid j = s.grid j := rfl
@[simp] theorem emit_grid (m : Msg) (j : Nat) : (s.emit m).grid j = s.grid j := rfl
@[simp] theorem modPort_grid (k : Nat) (f : Port → Port) (j : Nat) : (s.modPort k f).grid j = s.grid j := rfl
@[simp] theorem undefAt_grid (c : Undefined) (k : Scope) (j : Nat) : (s.undefAt c k).grid j = s.grid j := rfl
@[simp] theorem modCtx_grid (k : Nat) (f : Ctx → Ctx) (j : Nat) : (s.modCtx k f).grid j = s.grid j := rfl
@[simp] theorem undef_grid (c : Undefined) (j : Nat) : (s.undef c).grid j = s.grid j := rfl
@[simp] theorem modCfl_grid (k : Nat) (f : CflEntry → CflEntry) (j : Nat) : (s.modCfl k f).grid j = s.grid j := rfl
@[simp] theorem atPf0_grid (j : Nat) : (s.atPf0).grid j = s.grid j := rfl
@[simp] theorem modHart_grid (k : Nat) (f : Core → Core) (j : Nat) : (s.modHart k f).grid j = s.grid j := rfl
@[simp] theorem setLayerQ_grid (b : Nat) (q : List Layer) (j : Nat) : (s.setLayerQ b q).grid j = s.grid j := rfl
@[simp] theorem modSpur_grid (k : Nat) (f : Spur → Spur) (j : Nat) : (s.modSpur k f).grid j = s.grid j := rfl
@[simp] theorem setTlb_grid (b : Nat) (q : List TlbEntry) (j : Nat) : (s.setTlb b q).grid j = s.grid j := rfl
@[simp] theorem modDie_grid (k : Nat) (f : Die → Die) (j : Nat) : (s.modDie k f).grid j = s.grid j := rfl
@[simp] theorem modHealth_grid (k : Nat) (f : Health → Health) (j : Nat) : (s.modHealth k f).grid j = s.grid j := rfl
@[simp] theorem keeping_grid (t : State) (j : Nat) : (t.keeping s).grid j = t.grid j := rfl
@[simp] theorem clean_grid (j : Nat) : s.clean.grid j = s.grid j := rfl

/-! What leaves `bmem` alone. -/

@[simp] theorem setReg_bmem (k : Nat) (v : Word) (j : Nat) : (s.setReg k v).bmem j = s.bmem j := rfl
@[simp] theorem modLine_bmem (k : Nat) (f : Line → Line) (j : Nat) : (s.modLine k f).bmem j = s.bmem j := rfl
@[simp] theorem setFld_bmem (k lo n v : Nat) (j : Nat) : (s.setFld k lo n v).bmem j = s.bmem j := rfl
@[simp] theorem modPond_bmem (k : Nat) (f : Pond → Pond) (j : Nat) : (s.modPond k f).bmem j = s.bmem j := rfl
@[simp] theorem setFlag_bmem (k i : Nat) (b : Bool) (j : Nat) : (s.setFlag k i b).bmem j = s.bmem j := rfl
@[simp] theorem modGrid_bmem (k : Nat) (f : GridSlot → GridSlot) (j : Nat) : (s.modGrid k f).bmem j = s.bmem j := rfl
@[simp] theorem count_bmem (k n : Nat) (j : Nat) : (s.count k n).bmem j = s.bmem j := rfl
@[simp] theorem countFld_bmem (k lo w n : Nat) (j : Nat) : (s.countFld k lo w n).bmem j = s.bmem j := rfl
@[simp] theorem modBpow_bmem (k : Nat) (f : BasinPower → BasinPower) (j : Nat) : (s.modBpow k f).bmem j = s.bmem j := rfl
@[simp] theorem dropRegs_bmem (p : Nat → Bool) (j : Nat) : (s.dropRegs p).bmem j = s.bmem j := rfl
@[simp] theorem modChan_bmem (k : Nat) (f : Channel → Channel) (j : Nat) : (s.modChan k f).bmem j = s.bmem j := rfl
@[simp] theorem bump_bmem (j : Nat) : (s.bump).bmem j = s.bmem j := rfl
@[simp] theorem modQueue_bmem (k : Nat) (f : AQueue → AQueue) (j : Nat) : (s.modQueue k f).bmem j = s.bmem j := rfl
@[simp] theorem emit_bmem (m : Msg) (j : Nat) : (s.emit m).bmem j = s.bmem j := rfl
@[simp] theorem modPort_bmem (k : Nat) (f : Port → Port) (j : Nat) : (s.modPort k f).bmem j = s.bmem j := rfl
@[simp] theorem undefAt_bmem (c : Undefined) (k : Scope) (j : Nat) : (s.undefAt c k).bmem j = s.bmem j := rfl
@[simp] theorem modCtx_bmem (k : Nat) (f : Ctx → Ctx) (j : Nat) : (s.modCtx k f).bmem j = s.bmem j := rfl
@[simp] theorem undef_bmem (c : Undefined) (j : Nat) : (s.undef c).bmem j = s.bmem j := rfl
@[simp] theorem modCfl_bmem (k : Nat) (f : CflEntry → CflEntry) (j : Nat) : (s.modCfl k f).bmem j = s.bmem j := rfl
@[simp] theorem atPf0_bmem (j : Nat) : (s.atPf0).bmem j = s.bmem j := rfl
@[simp] theorem modHart_bmem (k : Nat) (f : Core → Core) (j : Nat) : (s.modHart k f).bmem j = s.bmem j := rfl
@[simp] theorem setLayerQ_bmem (b : Nat) (q : List Layer) (j : Nat) : (s.setLayerQ b q).bmem j = s.bmem j := rfl
@[simp] theorem modSpur_bmem (k : Nat) (f : Spur → Spur) (j : Nat) : (s.modSpur k f).bmem j = s.bmem j := rfl
@[simp] theorem setTlb_bmem (b : Nat) (q : List TlbEntry) (j : Nat) : (s.setTlb b q).bmem j = s.bmem j := rfl
@[simp] theorem modDie_bmem (k : Nat) (f : Die → Die) (j : Nat) : (s.modDie k f).bmem j = s.bmem j := rfl
@[simp] theorem modHealth_bmem (k : Nat) (f : Health → Health) (j : Nat) : (s.modHealth k f).bmem j = s.bmem j := rfl
@[simp] theorem keeping_bmem (t : State) (j : Nat) : (t.keeping s).bmem j = t.bmem j := rfl
@[simp] theorem clean_bmem (j : Nat) : s.clean.bmem j = s.bmem j := rfl

/-! What leaves `bpow` alone. -/

@[simp] theorem setReg_bpow (k : Nat) (v : Word) (j : Nat) : (s.setReg k v).bpow j = s.bpow j := rfl
@[simp] theorem modLine_bpow (k : Nat) (f : Line → Line) (j : Nat) : (s.modLine k f).bpow j = s.bpow j := rfl
@[simp] theorem setFld_bpow (k lo n v : Nat) (j : Nat) : (s.setFld k lo n v).bpow j = s.bpow j := rfl
@[simp] theorem modPond_bpow (k : Nat) (f : Pond → Pond) (j : Nat) : (s.modPond k f).bpow j = s.bpow j := rfl
@[simp] theorem setFlag_bpow (k i : Nat) (b : Bool) (j : Nat) : (s.setFlag k i b).bpow j = s.bpow j := rfl
@[simp] theorem modGrid_bpow (k : Nat) (f : GridSlot → GridSlot) (j : Nat) : (s.modGrid k f).bpow j = s.bpow j := rfl
@[simp] theorem count_bpow (k n : Nat) (j : Nat) : (s.count k n).bpow j = s.bpow j := rfl
@[simp] theorem modBmem_bpow (k : Nat) (f : BasinMem → BasinMem) (j : Nat) : (s.modBmem k f).bpow j = s.bpow j := rfl
@[simp] theorem countFld_bpow (k lo w n : Nat) (j : Nat) : (s.countFld k lo w n).bpow j = s.bpow j := rfl
@[simp] theorem dropRegs_bpow (p : Nat → Bool) (j : Nat) : (s.dropRegs p).bpow j = s.bpow j := rfl
@[simp] theorem modChan_bpow (k : Nat) (f : Channel → Channel) (j : Nat) : (s.modChan k f).bpow j = s.bpow j := rfl
@[simp] theorem bump_bpow (j : Nat) : (s.bump).bpow j = s.bpow j := rfl
@[simp] theorem modQueue_bpow (k : Nat) (f : AQueue → AQueue) (j : Nat) : (s.modQueue k f).bpow j = s.bpow j := rfl
@[simp] theorem emit_bpow (m : Msg) (j : Nat) : (s.emit m).bpow j = s.bpow j := rfl
@[simp] theorem modPort_bpow (k : Nat) (f : Port → Port) (j : Nat) : (s.modPort k f).bpow j = s.bpow j := rfl
@[simp] theorem undefAt_bpow (c : Undefined) (k : Scope) (j : Nat) : (s.undefAt c k).bpow j = s.bpow j := rfl
@[simp] theorem modCtx_bpow (k : Nat) (f : Ctx → Ctx) (j : Nat) : (s.modCtx k f).bpow j = s.bpow j := rfl
@[simp] theorem undef_bpow (c : Undefined) (j : Nat) : (s.undef c).bpow j = s.bpow j := rfl
@[simp] theorem modCfl_bpow (k : Nat) (f : CflEntry → CflEntry) (j : Nat) : (s.modCfl k f).bpow j = s.bpow j := rfl
@[simp] theorem atPf0_bpow (j : Nat) : (s.atPf0).bpow j = s.bpow j := rfl
@[simp] theorem modHart_bpow (k : Nat) (f : Core → Core) (j : Nat) : (s.modHart k f).bpow j = s.bpow j := rfl
@[simp] theorem setLayerQ_bpow (b : Nat) (q : List Layer) (j : Nat) : (s.setLayerQ b q).bpow j = s.bpow j := rfl
@[simp] theorem modSpur_bpow (k : Nat) (f : Spur → Spur) (j : Nat) : (s.modSpur k f).bpow j = s.bpow j := rfl
@[simp] theorem setTlb_bpow (b : Nat) (q : List TlbEntry) (j : Nat) : (s.setTlb b q).bpow j = s.bpow j := rfl
@[simp] theorem modDie_bpow (k : Nat) (f : Die → Die) (j : Nat) : (s.modDie k f).bpow j = s.bpow j := rfl
@[simp] theorem modHealth_bpow (k : Nat) (f : Health → Health) (j : Nat) : (s.modHealth k f).bpow j = s.bpow j := rfl
@[simp] theorem keeping_bpow (t : State) (j : Nat) : (t.keeping s).bpow j = t.bpow j := rfl
@[simp] theorem clean_bpow (j : Nat) : s.clean.bpow j = s.bpow j := rfl

/-! What leaves `chan` alone. -/

@[simp] theorem setReg_chan (k : Nat) (v : Word) (j : Nat) : (s.setReg k v).chan j = s.chan j := rfl
@[simp] theorem modLine_chan (k : Nat) (f : Line → Line) (j : Nat) : (s.modLine k f).chan j = s.chan j := rfl
@[simp] theorem setFld_chan (k lo n v : Nat) (j : Nat) : (s.setFld k lo n v).chan j = s.chan j := rfl
@[simp] theorem modPond_chan (k : Nat) (f : Pond → Pond) (j : Nat) : (s.modPond k f).chan j = s.chan j := rfl
@[simp] theorem setFlag_chan (k i : Nat) (b : Bool) (j : Nat) : (s.setFlag k i b).chan j = s.chan j := rfl
@[simp] theorem modGrid_chan (k : Nat) (f : GridSlot → GridSlot) (j : Nat) : (s.modGrid k f).chan j = s.chan j := rfl
@[simp] theorem count_chan (k n : Nat) (j : Nat) : (s.count k n).chan j = s.chan j := rfl
@[simp] theorem modBmem_chan (k : Nat) (f : BasinMem → BasinMem) (j : Nat) : (s.modBmem k f).chan j = s.chan j := rfl
@[simp] theorem countFld_chan (k lo w n : Nat) (j : Nat) : (s.countFld k lo w n).chan j = s.chan j := rfl
@[simp] theorem modBpow_chan (k : Nat) (f : BasinPower → BasinPower) (j : Nat) : (s.modBpow k f).chan j = s.chan j := rfl
@[simp] theorem dropRegs_chan (p : Nat → Bool) (j : Nat) : (s.dropRegs p).chan j = s.chan j := rfl
@[simp] theorem bump_chan (j : Nat) : (s.bump).chan j = s.chan j := rfl
@[simp] theorem modQueue_chan (k : Nat) (f : AQueue → AQueue) (j : Nat) : (s.modQueue k f).chan j = s.chan j := rfl
@[simp] theorem emit_chan (m : Msg) (j : Nat) : (s.emit m).chan j = s.chan j := rfl
@[simp] theorem modPort_chan (k : Nat) (f : Port → Port) (j : Nat) : (s.modPort k f).chan j = s.chan j := rfl
@[simp] theorem undefAt_chan (c : Undefined) (k : Scope) (j : Nat) : (s.undefAt c k).chan j = s.chan j := rfl
@[simp] theorem modCtx_chan (k : Nat) (f : Ctx → Ctx) (j : Nat) : (s.modCtx k f).chan j = s.chan j := rfl
@[simp] theorem undef_chan (c : Undefined) (j : Nat) : (s.undef c).chan j = s.chan j := rfl
@[simp] theorem modCfl_chan (k : Nat) (f : CflEntry → CflEntry) (j : Nat) : (s.modCfl k f).chan j = s.chan j := rfl
@[simp] theorem atPf0_chan (j : Nat) : (s.atPf0).chan j = s.chan j := rfl
@[simp] theorem modHart_chan (k : Nat) (f : Core → Core) (j : Nat) : (s.modHart k f).chan j = s.chan j := rfl
@[simp] theorem setLayerQ_chan (b : Nat) (q : List Layer) (j : Nat) : (s.setLayerQ b q).chan j = s.chan j := rfl
@[simp] theorem modSpur_chan (k : Nat) (f : Spur → Spur) (j : Nat) : (s.modSpur k f).chan j = s.chan j := rfl
@[simp] theorem setTlb_chan (b : Nat) (q : List TlbEntry) (j : Nat) : (s.setTlb b q).chan j = s.chan j := rfl
@[simp] theorem modDie_chan (k : Nat) (f : Die → Die) (j : Nat) : (s.modDie k f).chan j = s.chan j := rfl
@[simp] theorem modHealth_chan (k : Nat) (f : Health → Health) (j : Nat) : (s.modHealth k f).chan j = s.chan j := rfl
@[simp] theorem keeping_chan (t : State) (j : Nat) : (t.keeping s).chan j = t.chan j := rfl
@[simp] theorem clean_chan (j : Nat) : s.clean.chan j = s.chan j := rfl

/-! What leaves `queue` alone. -/

@[simp] theorem setReg_queue (k : Nat) (v : Word) (j : Nat) : (s.setReg k v).queue j = s.queue j := rfl
@[simp] theorem modLine_queue (k : Nat) (f : Line → Line) (j : Nat) : (s.modLine k f).queue j = s.queue j := rfl
@[simp] theorem setFld_queue (k lo n v : Nat) (j : Nat) : (s.setFld k lo n v).queue j = s.queue j := rfl
@[simp] theorem modPond_queue (k : Nat) (f : Pond → Pond) (j : Nat) : (s.modPond k f).queue j = s.queue j := rfl
@[simp] theorem setFlag_queue (k i : Nat) (b : Bool) (j : Nat) : (s.setFlag k i b).queue j = s.queue j := rfl
@[simp] theorem modGrid_queue (k : Nat) (f : GridSlot → GridSlot) (j : Nat) : (s.modGrid k f).queue j = s.queue j := rfl
@[simp] theorem count_queue (k n : Nat) (j : Nat) : (s.count k n).queue j = s.queue j := rfl
@[simp] theorem modBmem_queue (k : Nat) (f : BasinMem → BasinMem) (j : Nat) : (s.modBmem k f).queue j = s.queue j := rfl
@[simp] theorem countFld_queue (k lo w n : Nat) (j : Nat) : (s.countFld k lo w n).queue j = s.queue j := rfl
@[simp] theorem modBpow_queue (k : Nat) (f : BasinPower → BasinPower) (j : Nat) : (s.modBpow k f).queue j = s.queue j := rfl
@[simp] theorem dropRegs_queue (p : Nat → Bool) (j : Nat) : (s.dropRegs p).queue j = s.queue j := rfl
@[simp] theorem modChan_queue (k : Nat) (f : Channel → Channel) (j : Nat) : (s.modChan k f).queue j = s.queue j := rfl
@[simp] theorem bump_queue (j : Nat) : (s.bump).queue j = s.queue j := rfl
@[simp] theorem emit_queue (m : Msg) (j : Nat) : (s.emit m).queue j = s.queue j := rfl
@[simp] theorem modPort_queue (k : Nat) (f : Port → Port) (j : Nat) : (s.modPort k f).queue j = s.queue j := rfl
@[simp] theorem undefAt_queue (c : Undefined) (k : Scope) (j : Nat) : (s.undefAt c k).queue j = s.queue j := rfl
@[simp] theorem modCtx_queue (k : Nat) (f : Ctx → Ctx) (j : Nat) : (s.modCtx k f).queue j = s.queue j := rfl
@[simp] theorem undef_queue (c : Undefined) (j : Nat) : (s.undef c).queue j = s.queue j := rfl
@[simp] theorem modCfl_queue (k : Nat) (f : CflEntry → CflEntry) (j : Nat) : (s.modCfl k f).queue j = s.queue j := rfl
@[simp] theorem atPf0_queue (j : Nat) : (s.atPf0).queue j = s.queue j := rfl
@[simp] theorem modHart_queue (k : Nat) (f : Core → Core) (j : Nat) : (s.modHart k f).queue j = s.queue j := rfl
@[simp] theorem setLayerQ_queue (b : Nat) (q : List Layer) (j : Nat) : (s.setLayerQ b q).queue j = s.queue j := rfl
@[simp] theorem modSpur_queue (k : Nat) (f : Spur → Spur) (j : Nat) : (s.modSpur k f).queue j = s.queue j := rfl
@[simp] theorem setTlb_queue (b : Nat) (q : List TlbEntry) (j : Nat) : (s.setTlb b q).queue j = s.queue j := rfl
@[simp] theorem modDie_queue (k : Nat) (f : Die → Die) (j : Nat) : (s.modDie k f).queue j = s.queue j := rfl
@[simp] theorem modHealth_queue (k : Nat) (f : Health → Health) (j : Nat) : (s.modHealth k f).queue j = s.queue j := rfl
@[simp] theorem keeping_queue (t : State) (j : Nat) : (t.keeping s).queue j = t.queue j := rfl
@[simp] theorem clean_queue (j : Nat) : s.clean.queue j = s.queue j := rfl

/-! What leaves `port` alone. -/

@[simp] theorem setReg_port (k : Nat) (v : Word) (j : Nat) : (s.setReg k v).port j = s.port j := rfl
@[simp] theorem modLine_port (k : Nat) (f : Line → Line) (j : Nat) : (s.modLine k f).port j = s.port j := rfl
@[simp] theorem setFld_port (k lo n v : Nat) (j : Nat) : (s.setFld k lo n v).port j = s.port j := rfl
@[simp] theorem modPond_port (k : Nat) (f : Pond → Pond) (j : Nat) : (s.modPond k f).port j = s.port j := rfl
@[simp] theorem setFlag_port (k i : Nat) (b : Bool) (j : Nat) : (s.setFlag k i b).port j = s.port j := rfl
@[simp] theorem modGrid_port (k : Nat) (f : GridSlot → GridSlot) (j : Nat) : (s.modGrid k f).port j = s.port j := rfl
@[simp] theorem count_port (k n : Nat) (j : Nat) : (s.count k n).port j = s.port j := rfl
@[simp] theorem modBmem_port (k : Nat) (f : BasinMem → BasinMem) (j : Nat) : (s.modBmem k f).port j = s.port j := rfl
@[simp] theorem countFld_port (k lo w n : Nat) (j : Nat) : (s.countFld k lo w n).port j = s.port j := rfl
@[simp] theorem modBpow_port (k : Nat) (f : BasinPower → BasinPower) (j : Nat) : (s.modBpow k f).port j = s.port j := rfl
@[simp] theorem dropRegs_port (p : Nat → Bool) (j : Nat) : (s.dropRegs p).port j = s.port j := rfl
@[simp] theorem modChan_port (k : Nat) (f : Channel → Channel) (j : Nat) : (s.modChan k f).port j = s.port j := rfl
@[simp] theorem bump_port (j : Nat) : (s.bump).port j = s.port j := rfl
@[simp] theorem modQueue_port (k : Nat) (f : AQueue → AQueue) (j : Nat) : (s.modQueue k f).port j = s.port j := rfl
@[simp] theorem emit_port (m : Msg) (j : Nat) : (s.emit m).port j = s.port j := rfl
@[simp] theorem undefAt_port (c : Undefined) (k : Scope) (j : Nat) : (s.undefAt c k).port j = s.port j := rfl
@[simp] theorem modCtx_port (k : Nat) (f : Ctx → Ctx) (j : Nat) : (s.modCtx k f).port j = s.port j := rfl
@[simp] theorem undef_port (c : Undefined) (j : Nat) : (s.undef c).port j = s.port j := rfl
@[simp] theorem modCfl_port (k : Nat) (f : CflEntry → CflEntry) (j : Nat) : (s.modCfl k f).port j = s.port j := rfl
@[simp] theorem atPf0_port (j : Nat) : (s.atPf0).port j = s.port j := rfl
@[simp] theorem modHart_port (k : Nat) (f : Core → Core) (j : Nat) : (s.modHart k f).port j = s.port j := rfl
@[simp] theorem setLayerQ_port (b : Nat) (q : List Layer) (j : Nat) : (s.setLayerQ b q).port j = s.port j := rfl
@[simp] theorem modSpur_port (k : Nat) (f : Spur → Spur) (j : Nat) : (s.modSpur k f).port j = s.port j := rfl
@[simp] theorem setTlb_port (b : Nat) (q : List TlbEntry) (j : Nat) : (s.setTlb b q).port j = s.port j := rfl
@[simp] theorem modDie_port (k : Nat) (f : Die → Die) (j : Nat) : (s.modDie k f).port j = s.port j := rfl
@[simp] theorem modHealth_port (k : Nat) (f : Health → Health) (j : Nat) : (s.modHealth k f).port j = s.port j := rfl
@[simp] theorem keeping_port (t : State) (j : Nat) : (t.keeping s).port j = t.port j := rfl
@[simp] theorem clean_port (j : Nat) : s.clean.port j = s.port j := rfl

/-! What leaves `ctx` alone. -/

@[simp] theorem setReg_ctx (k : Nat) (v : Word) (j : Nat) : (s.setReg k v).ctx j = s.ctx j := rfl
@[simp] theorem modLine_ctx (k : Nat) (f : Line → Line) (j : Nat) : (s.modLine k f).ctx j = s.ctx j := rfl
@[simp] theorem setFld_ctx (k lo n v : Nat) (j : Nat) : (s.setFld k lo n v).ctx j = s.ctx j := rfl
@[simp] theorem modPond_ctx (k : Nat) (f : Pond → Pond) (j : Nat) : (s.modPond k f).ctx j = s.ctx j := rfl
@[simp] theorem setFlag_ctx (k i : Nat) (b : Bool) (j : Nat) : (s.setFlag k i b).ctx j = s.ctx j := rfl
@[simp] theorem modGrid_ctx (k : Nat) (f : GridSlot → GridSlot) (j : Nat) : (s.modGrid k f).ctx j = s.ctx j := rfl
@[simp] theorem count_ctx (k n : Nat) (j : Nat) : (s.count k n).ctx j = s.ctx j := rfl
@[simp] theorem modBmem_ctx (k : Nat) (f : BasinMem → BasinMem) (j : Nat) : (s.modBmem k f).ctx j = s.ctx j := rfl
@[simp] theorem countFld_ctx (k lo w n : Nat) (j : Nat) : (s.countFld k lo w n).ctx j = s.ctx j := rfl
@[simp] theorem modBpow_ctx (k : Nat) (f : BasinPower → BasinPower) (j : Nat) : (s.modBpow k f).ctx j = s.ctx j := rfl
@[simp] theorem dropRegs_ctx (p : Nat → Bool) (j : Nat) : (s.dropRegs p).ctx j = s.ctx j := rfl
@[simp] theorem modChan_ctx (k : Nat) (f : Channel → Channel) (j : Nat) : (s.modChan k f).ctx j = s.ctx j := rfl
@[simp] theorem bump_ctx (j : Nat) : (s.bump).ctx j = s.ctx j := rfl
@[simp] theorem modQueue_ctx (k : Nat) (f : AQueue → AQueue) (j : Nat) : (s.modQueue k f).ctx j = s.ctx j := rfl
@[simp] theorem emit_ctx (m : Msg) (j : Nat) : (s.emit m).ctx j = s.ctx j := rfl
@[simp] theorem modPort_ctx (k : Nat) (f : Port → Port) (j : Nat) : (s.modPort k f).ctx j = s.ctx j := rfl
@[simp] theorem undefAt_ctx (c : Undefined) (k : Scope) (j : Nat) : (s.undefAt c k).ctx j = s.ctx j := rfl
@[simp] theorem undef_ctx (c : Undefined) (j : Nat) : (s.undef c).ctx j = s.ctx j := rfl
@[simp] theorem modCfl_ctx (k : Nat) (f : CflEntry → CflEntry) (j : Nat) : (s.modCfl k f).ctx j = s.ctx j := rfl
@[simp] theorem atPf0_ctx (j : Nat) : (s.atPf0).ctx j = s.ctx j := rfl
@[simp] theorem modHart_ctx (k : Nat) (f : Core → Core) (j : Nat) : (s.modHart k f).ctx j = s.ctx j := rfl
@[simp] theorem setLayerQ_ctx (b : Nat) (q : List Layer) (j : Nat) : (s.setLayerQ b q).ctx j = s.ctx j := rfl
@[simp] theorem modSpur_ctx (k : Nat) (f : Spur → Spur) (j : Nat) : (s.modSpur k f).ctx j = s.ctx j := rfl
@[simp] theorem setTlb_ctx (b : Nat) (q : List TlbEntry) (j : Nat) : (s.setTlb b q).ctx j = s.ctx j := rfl
@[simp] theorem modDie_ctx (k : Nat) (f : Die → Die) (j : Nat) : (s.modDie k f).ctx j = s.ctx j := rfl
@[simp] theorem modHealth_ctx (k : Nat) (f : Health → Health) (j : Nat) : (s.modHealth k f).ctx j = s.ctx j := rfl
@[simp] theorem keeping_ctx (t : State) (j : Nat) : (t.keeping s).ctx j = t.ctx j := rfl
@[simp] theorem clean_ctx (j : Nat) : s.clean.ctx j = s.ctx j := rfl

/-! What leaves `cfl` alone. -/

@[simp] theorem setReg_cfl (k : Nat) (v : Word) (j : Nat) : (s.setReg k v).cfl j = s.cfl j := rfl
@[simp] theorem modLine_cfl (k : Nat) (f : Line → Line) (j : Nat) : (s.modLine k f).cfl j = s.cfl j := rfl
@[simp] theorem setFld_cfl (k lo n v : Nat) (j : Nat) : (s.setFld k lo n v).cfl j = s.cfl j := rfl
@[simp] theorem modPond_cfl (k : Nat) (f : Pond → Pond) (j : Nat) : (s.modPond k f).cfl j = s.cfl j := rfl
@[simp] theorem setFlag_cfl (k i : Nat) (b : Bool) (j : Nat) : (s.setFlag k i b).cfl j = s.cfl j := rfl
@[simp] theorem modGrid_cfl (k : Nat) (f : GridSlot → GridSlot) (j : Nat) : (s.modGrid k f).cfl j = s.cfl j := rfl
@[simp] theorem count_cfl (k n : Nat) (j : Nat) : (s.count k n).cfl j = s.cfl j := rfl
@[simp] theorem modBmem_cfl (k : Nat) (f : BasinMem → BasinMem) (j : Nat) : (s.modBmem k f).cfl j = s.cfl j := rfl
@[simp] theorem countFld_cfl (k lo w n : Nat) (j : Nat) : (s.countFld k lo w n).cfl j = s.cfl j := rfl
@[simp] theorem modBpow_cfl (k : Nat) (f : BasinPower → BasinPower) (j : Nat) : (s.modBpow k f).cfl j = s.cfl j := rfl
@[simp] theorem dropRegs_cfl (p : Nat → Bool) (j : Nat) : (s.dropRegs p).cfl j = s.cfl j := rfl
@[simp] theorem modChan_cfl (k : Nat) (f : Channel → Channel) (j : Nat) : (s.modChan k f).cfl j = s.cfl j := rfl
@[simp] theorem bump_cfl (j : Nat) : (s.bump).cfl j = s.cfl j := rfl
@[simp] theorem modQueue_cfl (k : Nat) (f : AQueue → AQueue) (j : Nat) : (s.modQueue k f).cfl j = s.cfl j := rfl
@[simp] theorem emit_cfl (m : Msg) (j : Nat) : (s.emit m).cfl j = s.cfl j := rfl
@[simp] theorem modPort_cfl (k : Nat) (f : Port → Port) (j : Nat) : (s.modPort k f).cfl j = s.cfl j := rfl
@[simp] theorem undefAt_cfl (c : Undefined) (k : Scope) (j : Nat) : (s.undefAt c k).cfl j = s.cfl j := rfl
@[simp] theorem modCtx_cfl (k : Nat) (f : Ctx → Ctx) (j : Nat) : (s.modCtx k f).cfl j = s.cfl j := rfl
@[simp] theorem undef_cfl (c : Undefined) (j : Nat) : (s.undef c).cfl j = s.cfl j := rfl
@[simp] theorem atPf0_cfl (j : Nat) : (s.atPf0).cfl j = s.cfl j := rfl
@[simp] theorem modHart_cfl (k : Nat) (f : Core → Core) (j : Nat) : (s.modHart k f).cfl j = s.cfl j := rfl
@[simp] theorem setLayerQ_cfl (b : Nat) (q : List Layer) (j : Nat) : (s.setLayerQ b q).cfl j = s.cfl j := rfl
@[simp] theorem modSpur_cfl (k : Nat) (f : Spur → Spur) (j : Nat) : (s.modSpur k f).cfl j = s.cfl j := rfl
@[simp] theorem setTlb_cfl (b : Nat) (q : List TlbEntry) (j : Nat) : (s.setTlb b q).cfl j = s.cfl j := rfl
@[simp] theorem modDie_cfl (k : Nat) (f : Die → Die) (j : Nat) : (s.modDie k f).cfl j = s.cfl j := rfl
@[simp] theorem modHealth_cfl (k : Nat) (f : Health → Health) (j : Nat) : (s.modHealth k f).cfl j = s.cfl j := rfl
@[simp] theorem keeping_cfl (t : State) (j : Nat) : (t.keeping s).cfl j = t.cfl j := rfl
@[simp] theorem clean_cfl (j : Nat) : s.clean.cfl j = s.cfl j := rfl

/-! What leaves `layerQ` alone. -/

@[simp] theorem setReg_layerQ (k : Nat) (v : Word) (j : Nat) : (s.setReg k v).layerQ j = s.layerQ j := rfl
@[simp] theorem modLine_layerQ (k : Nat) (f : Line → Line) (j : Nat) : (s.modLine k f).layerQ j = s.layerQ j := rfl
@[simp] theorem setFld_layerQ (k lo n v : Nat) (j : Nat) : (s.setFld k lo n v).layerQ j = s.layerQ j := rfl
@[simp] theorem modPond_layerQ (k : Nat) (f : Pond → Pond) (j : Nat) : (s.modPond k f).layerQ j = s.layerQ j := rfl
@[simp] theorem setFlag_layerQ (k i : Nat) (b : Bool) (j : Nat) : (s.setFlag k i b).layerQ j = s.layerQ j := rfl
@[simp] theorem modGrid_layerQ (k : Nat) (f : GridSlot → GridSlot) (j : Nat) : (s.modGrid k f).layerQ j = s.layerQ j := rfl
@[simp] theorem count_layerQ (k n : Nat) (j : Nat) : (s.count k n).layerQ j = s.layerQ j := rfl
@[simp] theorem modBmem_layerQ (k : Nat) (f : BasinMem → BasinMem) (j : Nat) : (s.modBmem k f).layerQ j = s.layerQ j := rfl
@[simp] theorem countFld_layerQ (k lo w n : Nat) (j : Nat) : (s.countFld k lo w n).layerQ j = s.layerQ j := rfl
@[simp] theorem modBpow_layerQ (k : Nat) (f : BasinPower → BasinPower) (j : Nat) : (s.modBpow k f).layerQ j = s.layerQ j := rfl
@[simp] theorem dropRegs_layerQ (p : Nat → Bool) (j : Nat) : (s.dropRegs p).layerQ j = s.layerQ j := rfl
@[simp] theorem modChan_layerQ (k : Nat) (f : Channel → Channel) (j : Nat) : (s.modChan k f).layerQ j = s.layerQ j := rfl
@[simp] theorem bump_layerQ (j : Nat) : (s.bump).layerQ j = s.layerQ j := rfl
@[simp] theorem modQueue_layerQ (k : Nat) (f : AQueue → AQueue) (j : Nat) : (s.modQueue k f).layerQ j = s.layerQ j := rfl
@[simp] theorem emit_layerQ (m : Msg) (j : Nat) : (s.emit m).layerQ j = s.layerQ j := rfl
@[simp] theorem modPort_layerQ (k : Nat) (f : Port → Port) (j : Nat) : (s.modPort k f).layerQ j = s.layerQ j := rfl
@[simp] theorem undefAt_layerQ (c : Undefined) (k : Scope) (j : Nat) : (s.undefAt c k).layerQ j = s.layerQ j := rfl
@[simp] theorem modCtx_layerQ (k : Nat) (f : Ctx → Ctx) (j : Nat) : (s.modCtx k f).layerQ j = s.layerQ j := rfl
@[simp] theorem undef_layerQ (c : Undefined) (j : Nat) : (s.undef c).layerQ j = s.layerQ j := rfl
@[simp] theorem modCfl_layerQ (k : Nat) (f : CflEntry → CflEntry) (j : Nat) : (s.modCfl k f).layerQ j = s.layerQ j := rfl
@[simp] theorem atPf0_layerQ (j : Nat) : (s.atPf0).layerQ j = s.layerQ j := rfl
@[simp] theorem modHart_layerQ (k : Nat) (f : Core → Core) (j : Nat) : (s.modHart k f).layerQ j = s.layerQ j := rfl
@[simp] theorem modSpur_layerQ (k : Nat) (f : Spur → Spur) (j : Nat) : (s.modSpur k f).layerQ j = s.layerQ j := rfl
@[simp] theorem setTlb_layerQ (b : Nat) (q : List TlbEntry) (j : Nat) : (s.setTlb b q).layerQ j = s.layerQ j := rfl
@[simp] theorem modDie_layerQ (k : Nat) (f : Die → Die) (j : Nat) : (s.modDie k f).layerQ j = s.layerQ j := rfl
@[simp] theorem modHealth_layerQ (k : Nat) (f : Health → Health) (j : Nat) : (s.modHealth k f).layerQ j = s.layerQ j := rfl
@[simp] theorem keeping_layerQ (t : State) (j : Nat) : (t.keeping s).layerQ j = t.layerQ j := rfl
@[simp] theorem clean_layerQ (j : Nat) : s.clean.layerQ j = s.layerQ j := rfl

/-! What leaves `hart` alone. -/

@[simp] theorem setReg_hart (k : Nat) (v : Word) (j : Nat) : (s.setReg k v).hart j = s.hart j := rfl
@[simp] theorem modLine_hart (k : Nat) (f : Line → Line) (j : Nat) : (s.modLine k f).hart j = s.hart j := rfl
@[simp] theorem setFld_hart (k lo n v : Nat) (j : Nat) : (s.setFld k lo n v).hart j = s.hart j := rfl
@[simp] theorem modPond_hart (k : Nat) (f : Pond → Pond) (j : Nat) : (s.modPond k f).hart j = s.hart j := rfl
@[simp] theorem setFlag_hart (k i : Nat) (b : Bool) (j : Nat) : (s.setFlag k i b).hart j = s.hart j := rfl
@[simp] theorem modGrid_hart (k : Nat) (f : GridSlot → GridSlot) (j : Nat) : (s.modGrid k f).hart j = s.hart j := rfl
@[simp] theorem count_hart (k n : Nat) (j : Nat) : (s.count k n).hart j = s.hart j := rfl
@[simp] theorem modBmem_hart (k : Nat) (f : BasinMem → BasinMem) (j : Nat) : (s.modBmem k f).hart j = s.hart j := rfl
@[simp] theorem countFld_hart (k lo w n : Nat) (j : Nat) : (s.countFld k lo w n).hart j = s.hart j := rfl
@[simp] theorem modBpow_hart (k : Nat) (f : BasinPower → BasinPower) (j : Nat) : (s.modBpow k f).hart j = s.hart j := rfl
@[simp] theorem dropRegs_hart (p : Nat → Bool) (j : Nat) : (s.dropRegs p).hart j = s.hart j := rfl
@[simp] theorem modChan_hart (k : Nat) (f : Channel → Channel) (j : Nat) : (s.modChan k f).hart j = s.hart j := rfl
@[simp] theorem bump_hart (j : Nat) : (s.bump).hart j = s.hart j := rfl
@[simp] theorem modQueue_hart (k : Nat) (f : AQueue → AQueue) (j : Nat) : (s.modQueue k f).hart j = s.hart j := rfl
@[simp] theorem emit_hart (m : Msg) (j : Nat) : (s.emit m).hart j = s.hart j := rfl
@[simp] theorem modPort_hart (k : Nat) (f : Port → Port) (j : Nat) : (s.modPort k f).hart j = s.hart j := rfl
@[simp] theorem undefAt_hart (c : Undefined) (k : Scope) (j : Nat) : (s.undefAt c k).hart j = s.hart j := rfl
@[simp] theorem modCtx_hart (k : Nat) (f : Ctx → Ctx) (j : Nat) : (s.modCtx k f).hart j = s.hart j := rfl
@[simp] theorem undef_hart (c : Undefined) (j : Nat) : (s.undef c).hart j = s.hart j := rfl
@[simp] theorem modCfl_hart (k : Nat) (f : CflEntry → CflEntry) (j : Nat) : (s.modCfl k f).hart j = s.hart j := rfl
@[simp] theorem atPf0_hart (j : Nat) : (s.atPf0).hart j = s.hart j := rfl
@[simp] theorem setLayerQ_hart (b : Nat) (q : List Layer) (j : Nat) : (s.setLayerQ b q).hart j = s.hart j := rfl
@[simp] theorem modSpur_hart (k : Nat) (f : Spur → Spur) (j : Nat) : (s.modSpur k f).hart j = s.hart j := rfl
@[simp] theorem setTlb_hart (b : Nat) (q : List TlbEntry) (j : Nat) : (s.setTlb b q).hart j = s.hart j := rfl
@[simp] theorem modDie_hart (k : Nat) (f : Die → Die) (j : Nat) : (s.modDie k f).hart j = s.hart j := rfl
@[simp] theorem modHealth_hart (k : Nat) (f : Health → Health) (j : Nat) : (s.modHealth k f).hart j = s.hart j := rfl
@[simp] theorem keeping_hart (t : State) (j : Nat) : (t.keeping s).hart j = t.hart j := rfl
@[simp] theorem clean_hart (j : Nat) : s.clean.hart j = s.hart j := rfl

/-! What leaves `spur` alone. -/

@[simp] theorem setReg_spur (k : Nat) (v : Word) (j : Nat) : (s.setReg k v).spur j = s.spur j := rfl
@[simp] theorem modLine_spur (k : Nat) (f : Line → Line) (j : Nat) : (s.modLine k f).spur j = s.spur j := rfl
@[simp] theorem setFld_spur (k lo n v : Nat) (j : Nat) : (s.setFld k lo n v).spur j = s.spur j := rfl
@[simp] theorem modPond_spur (k : Nat) (f : Pond → Pond) (j : Nat) : (s.modPond k f).spur j = s.spur j := rfl
@[simp] theorem setFlag_spur (k i : Nat) (b : Bool) (j : Nat) : (s.setFlag k i b).spur j = s.spur j := rfl
@[simp] theorem modGrid_spur (k : Nat) (f : GridSlot → GridSlot) (j : Nat) : (s.modGrid k f).spur j = s.spur j := rfl
@[simp] theorem count_spur (k n : Nat) (j : Nat) : (s.count k n).spur j = s.spur j := rfl
@[simp] theorem modBmem_spur (k : Nat) (f : BasinMem → BasinMem) (j : Nat) : (s.modBmem k f).spur j = s.spur j := rfl
@[simp] theorem countFld_spur (k lo w n : Nat) (j : Nat) : (s.countFld k lo w n).spur j = s.spur j := rfl
@[simp] theorem modBpow_spur (k : Nat) (f : BasinPower → BasinPower) (j : Nat) : (s.modBpow k f).spur j = s.spur j := rfl
@[simp] theorem dropRegs_spur (p : Nat → Bool) (j : Nat) : (s.dropRegs p).spur j = s.spur j := rfl
@[simp] theorem modChan_spur (k : Nat) (f : Channel → Channel) (j : Nat) : (s.modChan k f).spur j = s.spur j := rfl
@[simp] theorem bump_spur (j : Nat) : (s.bump).spur j = s.spur j := rfl
@[simp] theorem modQueue_spur (k : Nat) (f : AQueue → AQueue) (j : Nat) : (s.modQueue k f).spur j = s.spur j := rfl
@[simp] theorem emit_spur (m : Msg) (j : Nat) : (s.emit m).spur j = s.spur j := rfl
@[simp] theorem modPort_spur (k : Nat) (f : Port → Port) (j : Nat) : (s.modPort k f).spur j = s.spur j := rfl
@[simp] theorem undefAt_spur (c : Undefined) (k : Scope) (j : Nat) : (s.undefAt c k).spur j = s.spur j := rfl
@[simp] theorem modCtx_spur (k : Nat) (f : Ctx → Ctx) (j : Nat) : (s.modCtx k f).spur j = s.spur j := rfl
@[simp] theorem undef_spur (c : Undefined) (j : Nat) : (s.undef c).spur j = s.spur j := rfl
@[simp] theorem modCfl_spur (k : Nat) (f : CflEntry → CflEntry) (j : Nat) : (s.modCfl k f).spur j = s.spur j := rfl
@[simp] theorem atPf0_spur (j : Nat) : (s.atPf0).spur j = s.spur j := rfl
@[simp] theorem modHart_spur (k : Nat) (f : Core → Core) (j : Nat) : (s.modHart k f).spur j = s.spur j := rfl
@[simp] theorem setLayerQ_spur (b : Nat) (q : List Layer) (j : Nat) : (s.setLayerQ b q).spur j = s.spur j := rfl
@[simp] theorem setTlb_spur (b : Nat) (q : List TlbEntry) (j : Nat) : (s.setTlb b q).spur j = s.spur j := rfl
@[simp] theorem modDie_spur (k : Nat) (f : Die → Die) (j : Nat) : (s.modDie k f).spur j = s.spur j := rfl
@[simp] theorem modHealth_spur (k : Nat) (f : Health → Health) (j : Nat) : (s.modHealth k f).spur j = s.spur j := rfl
@[simp] theorem keeping_spur (t : State) (j : Nat) : (t.keeping s).spur j = t.spur j := rfl
@[simp] theorem clean_spur (j : Nat) : s.clean.spur j = s.spur j := rfl

/-! What leaves `die` alone. -/

@[simp] theorem setReg_die (k : Nat) (v : Word) (j : Nat) : (s.setReg k v).die j = s.die j := rfl
@[simp] theorem modLine_die (k : Nat) (f : Line → Line) (j : Nat) : (s.modLine k f).die j = s.die j := rfl
@[simp] theorem setFld_die (k lo n v : Nat) (j : Nat) : (s.setFld k lo n v).die j = s.die j := rfl
@[simp] theorem modPond_die (k : Nat) (f : Pond → Pond) (j : Nat) : (s.modPond k f).die j = s.die j := rfl
@[simp] theorem setFlag_die (k i : Nat) (b : Bool) (j : Nat) : (s.setFlag k i b).die j = s.die j := rfl
@[simp] theorem modGrid_die (k : Nat) (f : GridSlot → GridSlot) (j : Nat) : (s.modGrid k f).die j = s.die j := rfl
@[simp] theorem count_die (k n : Nat) (j : Nat) : (s.count k n).die j = s.die j := rfl
@[simp] theorem modBmem_die (k : Nat) (f : BasinMem → BasinMem) (j : Nat) : (s.modBmem k f).die j = s.die j := rfl
@[simp] theorem countFld_die (k lo w n : Nat) (j : Nat) : (s.countFld k lo w n).die j = s.die j := rfl
@[simp] theorem modBpow_die (k : Nat) (f : BasinPower → BasinPower) (j : Nat) : (s.modBpow k f).die j = s.die j := rfl
@[simp] theorem dropRegs_die (p : Nat → Bool) (j : Nat) : (s.dropRegs p).die j = s.die j := rfl
@[simp] theorem modChan_die (k : Nat) (f : Channel → Channel) (j : Nat) : (s.modChan k f).die j = s.die j := rfl
@[simp] theorem bump_die (j : Nat) : (s.bump).die j = s.die j := rfl
@[simp] theorem modQueue_die (k : Nat) (f : AQueue → AQueue) (j : Nat) : (s.modQueue k f).die j = s.die j := rfl
@[simp] theorem emit_die (m : Msg) (j : Nat) : (s.emit m).die j = s.die j := rfl
@[simp] theorem modPort_die (k : Nat) (f : Port → Port) (j : Nat) : (s.modPort k f).die j = s.die j := rfl
@[simp] theorem undefAt_die (c : Undefined) (k : Scope) (j : Nat) : (s.undefAt c k).die j = s.die j := rfl
@[simp] theorem modCtx_die (k : Nat) (f : Ctx → Ctx) (j : Nat) : (s.modCtx k f).die j = s.die j := rfl
@[simp] theorem undef_die (c : Undefined) (j : Nat) : (s.undef c).die j = s.die j := rfl
@[simp] theorem modCfl_die (k : Nat) (f : CflEntry → CflEntry) (j : Nat) : (s.modCfl k f).die j = s.die j := rfl
@[simp] theorem atPf0_die (j : Nat) : (s.atPf0).die j = s.die j := rfl
@[simp] theorem modHart_die (k : Nat) (f : Core → Core) (j : Nat) : (s.modHart k f).die j = s.die j := rfl
@[simp] theorem setLayerQ_die (b : Nat) (q : List Layer) (j : Nat) : (s.setLayerQ b q).die j = s.die j := rfl
@[simp] theorem modSpur_die (k : Nat) (f : Spur → Spur) (j : Nat) : (s.modSpur k f).die j = s.die j := rfl
@[simp] theorem setTlb_die (b : Nat) (q : List TlbEntry) (j : Nat) : (s.setTlb b q).die j = s.die j := rfl
@[simp] theorem modHealth_die (k : Nat) (f : Health → Health) (j : Nat) : (s.modHealth k f).die j = s.die j := rfl
@[simp] theorem keeping_die (t : State) (j : Nat) : (t.keeping s).die j = t.die j := rfl
@[simp] theorem clean_die (j : Nat) : s.clean.die j = s.die j := rfl

/-! What leaves `healthOf` alone. -/

@[simp] theorem setReg_healthOf (k : Nat) (v : Word) (j : Nat) : (s.setReg k v).healthOf j = s.healthOf j := rfl
@[simp] theorem modLine_healthOf (k : Nat) (f : Line → Line) (j : Nat) : (s.modLine k f).healthOf j = s.healthOf j := rfl
@[simp] theorem setFld_healthOf (k lo n v : Nat) (j : Nat) : (s.setFld k lo n v).healthOf j = s.healthOf j := rfl
@[simp] theorem modPond_healthOf (k : Nat) (f : Pond → Pond) (j : Nat) : (s.modPond k f).healthOf j = s.healthOf j := rfl
@[simp] theorem setFlag_healthOf (k i : Nat) (b : Bool) (j : Nat) : (s.setFlag k i b).healthOf j = s.healthOf j := rfl
@[simp] theorem modGrid_healthOf (k : Nat) (f : GridSlot → GridSlot) (j : Nat) : (s.modGrid k f).healthOf j = s.healthOf j := rfl
@[simp] theorem count_healthOf (k n : Nat) (j : Nat) : (s.count k n).healthOf j = s.healthOf j := rfl
@[simp] theorem modBmem_healthOf (k : Nat) (f : BasinMem → BasinMem) (j : Nat) : (s.modBmem k f).healthOf j = s.healthOf j := rfl
@[simp] theorem countFld_healthOf (k lo w n : Nat) (j : Nat) : (s.countFld k lo w n).healthOf j = s.healthOf j := rfl
@[simp] theorem modBpow_healthOf (k : Nat) (f : BasinPower → BasinPower) (j : Nat) : (s.modBpow k f).healthOf j = s.healthOf j := rfl
@[simp] theorem dropRegs_healthOf (p : Nat → Bool) (j : Nat) : (s.dropRegs p).healthOf j = s.healthOf j := rfl
@[simp] theorem modChan_healthOf (k : Nat) (f : Channel → Channel) (j : Nat) : (s.modChan k f).healthOf j = s.healthOf j := rfl
@[simp] theorem bump_healthOf (j : Nat) : (s.bump).healthOf j = s.healthOf j := rfl
@[simp] theorem modQueue_healthOf (k : Nat) (f : AQueue → AQueue) (j : Nat) : (s.modQueue k f).healthOf j = s.healthOf j := rfl
@[simp] theorem emit_healthOf (m : Msg) (j : Nat) : (s.emit m).healthOf j = s.healthOf j := rfl
@[simp] theorem modPort_healthOf (k : Nat) (f : Port → Port) (j : Nat) : (s.modPort k f).healthOf j = s.healthOf j := rfl
@[simp] theorem undefAt_healthOf (c : Undefined) (k : Scope) (j : Nat) : (s.undefAt c k).healthOf j = s.healthOf j := rfl
@[simp] theorem modCtx_healthOf (k : Nat) (f : Ctx → Ctx) (j : Nat) : (s.modCtx k f).healthOf j = s.healthOf j := rfl
@[simp] theorem undef_healthOf (c : Undefined) (j : Nat) : (s.undef c).healthOf j = s.healthOf j := rfl
@[simp] theorem modCfl_healthOf (k : Nat) (f : CflEntry → CflEntry) (j : Nat) : (s.modCfl k f).healthOf j = s.healthOf j := rfl
@[simp] theorem atPf0_healthOf (j : Nat) : (s.atPf0).healthOf j = s.healthOf j := rfl
@[simp] theorem modHart_healthOf (k : Nat) (f : Core → Core) (j : Nat) : (s.modHart k f).healthOf j = s.healthOf j := rfl
@[simp] theorem setLayerQ_healthOf (b : Nat) (q : List Layer) (j : Nat) : (s.setLayerQ b q).healthOf j = s.healthOf j := rfl
@[simp] theorem modSpur_healthOf (k : Nat) (f : Spur → Spur) (j : Nat) : (s.modSpur k f).healthOf j = s.healthOf j := rfl
@[simp] theorem setTlb_healthOf (b : Nat) (q : List TlbEntry) (j : Nat) : (s.setTlb b q).healthOf j = s.healthOf j := rfl
@[simp] theorem modDie_healthOf (k : Nat) (f : Die → Die) (j : Nat) : (s.modDie k f).healthOf j = s.healthOf j := rfl
@[simp] theorem keeping_healthOf (t : State) (j : Nat) : (t.keeping s).healthOf j = t.healthOf j := rfl
@[simp] theorem clean_healthOf (j : Nat) : s.clean.healthOf j = s.healthOf j := rfl

/-! What leaves `tlb` alone. -/

@[simp] theorem setReg_tlb (k : Nat) (v : Word) (j : Nat) : (s.setReg k v).tlb j = s.tlb j := rfl
@[simp] theorem modLine_tlb (k : Nat) (f : Line → Line) (j : Nat) : (s.modLine k f).tlb j = s.tlb j := rfl
@[simp] theorem setFld_tlb (k lo n v : Nat) (j : Nat) : (s.setFld k lo n v).tlb j = s.tlb j := rfl
@[simp] theorem modPond_tlb (k : Nat) (f : Pond → Pond) (j : Nat) : (s.modPond k f).tlb j = s.tlb j := rfl
@[simp] theorem setFlag_tlb (k i : Nat) (b : Bool) (j : Nat) : (s.setFlag k i b).tlb j = s.tlb j := rfl
@[simp] theorem modGrid_tlb (k : Nat) (f : GridSlot → GridSlot) (j : Nat) : (s.modGrid k f).tlb j = s.tlb j := rfl
@[simp] theorem count_tlb (k n : Nat) (j : Nat) : (s.count k n).tlb j = s.tlb j := rfl
@[simp] theorem modBmem_tlb (k : Nat) (f : BasinMem → BasinMem) (j : Nat) : (s.modBmem k f).tlb j = s.tlb j := rfl
@[simp] theorem countFld_tlb (k lo w n : Nat) (j : Nat) : (s.countFld k lo w n).tlb j = s.tlb j := rfl
@[simp] theorem modBpow_tlb (k : Nat) (f : BasinPower → BasinPower) (j : Nat) : (s.modBpow k f).tlb j = s.tlb j := rfl
@[simp] theorem dropRegs_tlb (p : Nat → Bool) (j : Nat) : (s.dropRegs p).tlb j = s.tlb j := rfl
@[simp] theorem modChan_tlb (k : Nat) (f : Channel → Channel) (j : Nat) : (s.modChan k f).tlb j = s.tlb j := rfl
@[simp] theorem bump_tlb (j : Nat) : (s.bump).tlb j = s.tlb j := rfl
@[simp] theorem modQueue_tlb (k : Nat) (f : AQueue → AQueue) (j : Nat) : (s.modQueue k f).tlb j = s.tlb j := rfl
@[simp] theorem emit_tlb (m : Msg) (j : Nat) : (s.emit m).tlb j = s.tlb j := rfl
@[simp] theorem modPort_tlb (k : Nat) (f : Port → Port) (j : Nat) : (s.modPort k f).tlb j = s.tlb j := rfl
@[simp] theorem undefAt_tlb (c : Undefined) (k : Scope) (j : Nat) : (s.undefAt c k).tlb j = s.tlb j := rfl
@[simp] theorem modCtx_tlb (k : Nat) (f : Ctx → Ctx) (j : Nat) : (s.modCtx k f).tlb j = s.tlb j := rfl
@[simp] theorem undef_tlb (c : Undefined) (j : Nat) : (s.undef c).tlb j = s.tlb j := rfl
@[simp] theorem modCfl_tlb (k : Nat) (f : CflEntry → CflEntry) (j : Nat) : (s.modCfl k f).tlb j = s.tlb j := rfl
@[simp] theorem atPf0_tlb (j : Nat) : (s.atPf0).tlb j = s.tlb j := rfl
@[simp] theorem modHart_tlb (k : Nat) (f : Core → Core) (j : Nat) : (s.modHart k f).tlb j = s.tlb j := rfl
@[simp] theorem setLayerQ_tlb (b : Nat) (q : List Layer) (j : Nat) : (s.setLayerQ b q).tlb j = s.tlb j := rfl
@[simp] theorem modSpur_tlb (k : Nat) (f : Spur → Spur) (j : Nat) : (s.modSpur k f).tlb j = s.tlb j := rfl
@[simp] theorem modDie_tlb (k : Nat) (f : Die → Die) (j : Nat) : (s.modDie k f).tlb j = s.tlb j := rfl
@[simp] theorem modHealth_tlb (k : Nat) (f : Health → Health) (j : Nat) : (s.modHealth k f).tlb j = s.tlb j := rfl
@[simp] theorem keeping_tlb (t : State) (j : Nat) : (t.keeping s).tlb j = t.tlb j := rfl
@[simp] theorem clean_tlb (j : Nat) : s.clean.tlb j = s.tlb j := rfl

/-! What leaves `reg` alone. -/

@[simp] theorem modLine_reg (k : Nat) (f : Line → Line) (j : Nat) : (s.modLine k f).reg j = s.reg j := rfl
@[simp] theorem modPond_reg (k : Nat) (f : Pond → Pond) (j : Nat) : (s.modPond k f).reg j = s.reg j := rfl
@[simp] theorem modGrid_reg (k : Nat) (f : GridSlot → GridSlot) (j : Nat) : (s.modGrid k f).reg j = s.reg j := rfl
@[simp] theorem modBmem_reg (k : Nat) (f : BasinMem → BasinMem) (j : Nat) : (s.modBmem k f).reg j = s.reg j := rfl
@[simp] theorem modBpow_reg (k : Nat) (f : BasinPower → BasinPower) (j : Nat) : (s.modBpow k f).reg j = s.reg j := rfl
@[simp] theorem modChan_reg (k : Nat) (f : Channel → Channel) (j : Nat) : (s.modChan k f).reg j = s.reg j := rfl
@[simp] theorem bump_reg (j : Nat) : (s.bump).reg j = s.reg j := rfl
@[simp] theorem modQueue_reg (k : Nat) (f : AQueue → AQueue) (j : Nat) : (s.modQueue k f).reg j = s.reg j := rfl
@[simp] theorem emit_reg (m : Msg) (j : Nat) : (s.emit m).reg j = s.reg j := rfl
@[simp] theorem modPort_reg (k : Nat) (f : Port → Port) (j : Nat) : (s.modPort k f).reg j = s.reg j := rfl
@[simp] theorem undefAt_reg (c : Undefined) (k : Scope) (j : Nat) : (s.undefAt c k).reg j = s.reg j := rfl
@[simp] theorem modCtx_reg (k : Nat) (f : Ctx → Ctx) (j : Nat) : (s.modCtx k f).reg j = s.reg j := rfl
@[simp] theorem undef_reg (c : Undefined) (j : Nat) : (s.undef c).reg j = s.reg j := rfl
@[simp] theorem modCfl_reg (k : Nat) (f : CflEntry → CflEntry) (j : Nat) : (s.modCfl k f).reg j = s.reg j := rfl
@[simp] theorem atPf0_reg (j : Nat) : (s.atPf0).reg j = s.reg j := rfl
@[simp] theorem modHart_reg (k : Nat) (f : Core → Core) (j : Nat) : (s.modHart k f).reg j = s.reg j := rfl
@[simp] theorem setLayerQ_reg (b : Nat) (q : List Layer) (j : Nat) : (s.setLayerQ b q).reg j = s.reg j := rfl
@[simp] theorem modSpur_reg (k : Nat) (f : Spur → Spur) (j : Nat) : (s.modSpur k f).reg j = s.reg j := rfl
@[simp] theorem setTlb_reg (b : Nat) (q : List TlbEntry) (j : Nat) : (s.setTlb b q).reg j = s.reg j := rfl
@[simp] theorem modDie_reg (k : Nat) (f : Die → Die) (j : Nat) : (s.modDie k f).reg j = s.reg j := rfl
@[simp] theorem modHealth_reg (k : Nat) (f : Health → Health) (j : Nat) : (s.modHealth k f).reg j = s.reg j := rfl
@[simp] theorem keeping_reg (t : State) (j : Nat) : (t.keeping s).reg j = t.reg j := rfl
@[simp] theorem clean_reg (j : Nat) : s.clean.reg j = s.reg j := rfl

/-! What leaves `leaderOf` alone. -/

@[simp] theorem setReg_leaderOf (k : Nat) (v : Word) (j : Nat) : (s.setReg k v).leaderOf j = s.leaderOf j := rfl
@[simp] theorem modLine_leaderOf (k : Nat) (f : Line → Line) (j : Nat) : (s.modLine k f).leaderOf j = s.leaderOf j := rfl
@[simp] theorem setFld_leaderOf (k lo n v : Nat) (j : Nat) : (s.setFld k lo n v).leaderOf j = s.leaderOf j := rfl
@[simp] theorem modPond_leaderOf (k : Nat) (f : Pond → Pond) (j : Nat) : (s.modPond k f).leaderOf j = s.leaderOf j := rfl
@[simp] theorem setFlag_leaderOf (k i : Nat) (b : Bool) (j : Nat) : (s.setFlag k i b).leaderOf j = s.leaderOf j := rfl
@[simp] theorem modGrid_leaderOf (k : Nat) (f : GridSlot → GridSlot) (j : Nat) : (s.modGrid k f).leaderOf j = s.leaderOf j := rfl
@[simp] theorem count_leaderOf (k n : Nat) (j : Nat) : (s.count k n).leaderOf j = s.leaderOf j := rfl
@[simp] theorem modBmem_leaderOf (k : Nat) (f : BasinMem → BasinMem) (j : Nat) : (s.modBmem k f).leaderOf j = s.leaderOf j := rfl
@[simp] theorem countFld_leaderOf (k lo w n : Nat) (j : Nat) : (s.countFld k lo w n).leaderOf j = s.leaderOf j := rfl
@[simp] theorem modBpow_leaderOf (k : Nat) (f : BasinPower → BasinPower) (j : Nat) : (s.modBpow k f).leaderOf j = s.leaderOf j := rfl
@[simp] theorem dropRegs_leaderOf (p : Nat → Bool) (j : Nat) : (s.dropRegs p).leaderOf j = s.leaderOf j := rfl
@[simp] theorem modChan_leaderOf (k : Nat) (f : Channel → Channel) (j : Nat) : (s.modChan k f).leaderOf j = s.leaderOf j := rfl
@[simp] theorem bump_leaderOf (j : Nat) : (s.bump).leaderOf j = s.leaderOf j := rfl
@[simp] theorem modQueue_leaderOf (k : Nat) (f : AQueue → AQueue) (j : Nat) : (s.modQueue k f).leaderOf j = s.leaderOf j := rfl
@[simp] theorem emit_leaderOf (m : Msg) (j : Nat) : (s.emit m).leaderOf j = s.leaderOf j := rfl
@[simp] theorem modPort_leaderOf (k : Nat) (f : Port → Port) (j : Nat) : (s.modPort k f).leaderOf j = s.leaderOf j := rfl
@[simp] theorem undefAt_leaderOf (c : Undefined) (k : Scope) (j : Nat) : (s.undefAt c k).leaderOf j = s.leaderOf j := rfl
@[simp] theorem modCtx_leaderOf (k : Nat) (f : Ctx → Ctx) (j : Nat) : (s.modCtx k f).leaderOf j = s.leaderOf j := rfl
@[simp] theorem undef_leaderOf (c : Undefined) (j : Nat) : (s.undef c).leaderOf j = s.leaderOf j := rfl
@[simp] theorem modCfl_leaderOf (k : Nat) (f : CflEntry → CflEntry) (j : Nat) : (s.modCfl k f).leaderOf j = s.leaderOf j := rfl
@[simp] theorem atPf0_leaderOf (j : Nat) : (s.atPf0).leaderOf j = s.leaderOf j := rfl
@[simp] theorem modHart_leaderOf (k : Nat) (f : Core → Core) (j : Nat) : (s.modHart k f).leaderOf j = s.leaderOf j := rfl
@[simp] theorem setLayerQ_leaderOf (b : Nat) (q : List Layer) (j : Nat) : (s.setLayerQ b q).leaderOf j = s.leaderOf j := rfl
@[simp] theorem modSpur_leaderOf (k : Nat) (f : Spur → Spur) (j : Nat) : (s.modSpur k f).leaderOf j = s.leaderOf j := rfl
@[simp] theorem setTlb_leaderOf (b : Nat) (q : List TlbEntry) (j : Nat) : (s.setTlb b q).leaderOf j = s.leaderOf j := rfl
@[simp] theorem modDie_leaderOf (k : Nat) (f : Die → Die) (j : Nat) : (s.modDie k f).leaderOf j = s.leaderOf j := rfl
@[simp] theorem modHealth_leaderOf (k : Nat) (f : Health → Health) (j : Nat) : (s.modHealth k f).leaderOf j = s.leaderOf j := rfl
@[simp] theorem keeping_leaderOf (t : State) (j : Nat) : (t.keeping s).leaderOf j = t.leaderOf j := rfl
@[simp] theorem clean_leaderOf (j : Nat) : s.clean.leaderOf j = s.leaderOf j := rfl

/-! What leaves `members` alone. -/

@[simp] theorem setReg_members (k : Nat) (v : Word) (j : Nat) : (s.setReg k v).members j = s.members j := rfl
@[simp] theorem modLine_members (k : Nat) (f : Line → Line) (j : Nat) : (s.modLine k f).members j = s.members j := rfl
@[simp] theorem setFld_members (k lo n v : Nat) (j : Nat) : (s.setFld k lo n v).members j = s.members j := rfl
@[simp] theorem modPond_members (k : Nat) (f : Pond → Pond) (j : Nat) : (s.modPond k f).members j = s.members j := rfl
@[simp] theorem setFlag_members (k i : Nat) (b : Bool) (j : Nat) : (s.setFlag k i b).members j = s.members j := rfl
@[simp] theorem modGrid_members (k : Nat) (f : GridSlot → GridSlot) (j : Nat) : (s.modGrid k f).members j = s.members j := rfl
@[simp] theorem count_members (k n : Nat) (j : Nat) : (s.count k n).members j = s.members j := rfl
@[simp] theorem modBmem_members (k : Nat) (f : BasinMem → BasinMem) (j : Nat) : (s.modBmem k f).members j = s.members j := rfl
@[simp] theorem countFld_members (k lo w n : Nat) (j : Nat) : (s.countFld k lo w n).members j = s.members j := rfl
@[simp] theorem modBpow_members (k : Nat) (f : BasinPower → BasinPower) (j : Nat) : (s.modBpow k f).members j = s.members j := rfl
@[simp] theorem dropRegs_members (p : Nat → Bool) (j : Nat) : (s.dropRegs p).members j = s.members j := rfl
@[simp] theorem modChan_members (k : Nat) (f : Channel → Channel) (j : Nat) : (s.modChan k f).members j = s.members j := rfl
@[simp] theorem bump_members (j : Nat) : (s.bump).members j = s.members j := rfl
@[simp] theorem modQueue_members (k : Nat) (f : AQueue → AQueue) (j : Nat) : (s.modQueue k f).members j = s.members j := rfl
@[simp] theorem emit_members (m : Msg) (j : Nat) : (s.emit m).members j = s.members j := rfl
@[simp] theorem modPort_members (k : Nat) (f : Port → Port) (j : Nat) : (s.modPort k f).members j = s.members j := rfl
@[simp] theorem undefAt_members (c : Undefined) (k : Scope) (j : Nat) : (s.undefAt c k).members j = s.members j := rfl
@[simp] theorem modCtx_members (k : Nat) (f : Ctx → Ctx) (j : Nat) : (s.modCtx k f).members j = s.members j := rfl
@[simp] theorem undef_members (c : Undefined) (j : Nat) : (s.undef c).members j = s.members j := rfl
@[simp] theorem modCfl_members (k : Nat) (f : CflEntry → CflEntry) (j : Nat) : (s.modCfl k f).members j = s.members j := rfl
@[simp] theorem atPf0_members (j : Nat) : (s.atPf0).members j = s.members j := rfl
@[simp] theorem modHart_members (k : Nat) (f : Core → Core) (j : Nat) : (s.modHart k f).members j = s.members j := rfl
@[simp] theorem setLayerQ_members (b : Nat) (q : List Layer) (j : Nat) : (s.setLayerQ b q).members j = s.members j := rfl
@[simp] theorem modSpur_members (k : Nat) (f : Spur → Spur) (j : Nat) : (s.modSpur k f).members j = s.members j := rfl
@[simp] theorem setTlb_members (b : Nat) (q : List TlbEntry) (j : Nat) : (s.setTlb b q).members j = s.members j := rfl
@[simp] theorem modDie_members (k : Nat) (f : Die → Die) (j : Nat) : (s.modDie k f).members j = s.members j := rfl
@[simp] theorem modHealth_members (k : Nat) (f : Health → Health) (j : Nat) : (s.modHealth k f).members j = s.members j := rfl
@[simp] theorem keeping_members (t : State) (j : Nat) : (t.keeping s).members j = t.members j := rfl
@[simp] theorem clean_members (j : Nat) : s.clean.members j = s.members j := rfl

/-! What leaves `isLeader` alone. -/

@[simp] theorem setReg_isLeader (k : Nat) (v : Word) (j : Nat) : (s.setReg k v).isLeader j = s.isLeader j := rfl
@[simp] theorem modLine_isLeader (k : Nat) (f : Line → Line) (j : Nat) : (s.modLine k f).isLeader j = s.isLeader j := rfl
@[simp] theorem setFld_isLeader (k lo n v : Nat) (j : Nat) : (s.setFld k lo n v).isLeader j = s.isLeader j := rfl
@[simp] theorem modPond_isLeader (k : Nat) (f : Pond → Pond) (j : Nat) : (s.modPond k f).isLeader j = s.isLeader j := rfl
@[simp] theorem setFlag_isLeader (k i : Nat) (b : Bool) (j : Nat) : (s.setFlag k i b).isLeader j = s.isLeader j := rfl
@[simp] theorem modGrid_isLeader (k : Nat) (f : GridSlot → GridSlot) (j : Nat) : (s.modGrid k f).isLeader j = s.isLeader j := rfl
@[simp] theorem count_isLeader (k n : Nat) (j : Nat) : (s.count k n).isLeader j = s.isLeader j := rfl
@[simp] theorem modBmem_isLeader (k : Nat) (f : BasinMem → BasinMem) (j : Nat) : (s.modBmem k f).isLeader j = s.isLeader j := rfl
@[simp] theorem countFld_isLeader (k lo w n : Nat) (j : Nat) : (s.countFld k lo w n).isLeader j = s.isLeader j := rfl
@[simp] theorem modBpow_isLeader (k : Nat) (f : BasinPower → BasinPower) (j : Nat) : (s.modBpow k f).isLeader j = s.isLeader j := rfl
@[simp] theorem dropRegs_isLeader (p : Nat → Bool) (j : Nat) : (s.dropRegs p).isLeader j = s.isLeader j := rfl
@[simp] theorem modChan_isLeader (k : Nat) (f : Channel → Channel) (j : Nat) : (s.modChan k f).isLeader j = s.isLeader j := rfl
@[simp] theorem bump_isLeader (j : Nat) : (s.bump).isLeader j = s.isLeader j := rfl
@[simp] theorem modQueue_isLeader (k : Nat) (f : AQueue → AQueue) (j : Nat) : (s.modQueue k f).isLeader j = s.isLeader j := rfl
@[simp] theorem emit_isLeader (m : Msg) (j : Nat) : (s.emit m).isLeader j = s.isLeader j := rfl
@[simp] theorem modPort_isLeader (k : Nat) (f : Port → Port) (j : Nat) : (s.modPort k f).isLeader j = s.isLeader j := rfl
@[simp] theorem undefAt_isLeader (c : Undefined) (k : Scope) (j : Nat) : (s.undefAt c k).isLeader j = s.isLeader j := rfl
@[simp] theorem modCtx_isLeader (k : Nat) (f : Ctx → Ctx) (j : Nat) : (s.modCtx k f).isLeader j = s.isLeader j := rfl
@[simp] theorem undef_isLeader (c : Undefined) (j : Nat) : (s.undef c).isLeader j = s.isLeader j := rfl
@[simp] theorem modCfl_isLeader (k : Nat) (f : CflEntry → CflEntry) (j : Nat) : (s.modCfl k f).isLeader j = s.isLeader j := rfl
@[simp] theorem atPf0_isLeader (j : Nat) : (s.atPf0).isLeader j = s.isLeader j := rfl
@[simp] theorem modHart_isLeader (k : Nat) (f : Core → Core) (j : Nat) : (s.modHart k f).isLeader j = s.isLeader j := rfl
@[simp] theorem setLayerQ_isLeader (b : Nat) (q : List Layer) (j : Nat) : (s.setLayerQ b q).isLeader j = s.isLeader j := rfl
@[simp] theorem modSpur_isLeader (k : Nat) (f : Spur → Spur) (j : Nat) : (s.modSpur k f).isLeader j = s.isLeader j := rfl
@[simp] theorem setTlb_isLeader (b : Nat) (q : List TlbEntry) (j : Nat) : (s.setTlb b q).isLeader j = s.isLeader j := rfl
@[simp] theorem modDie_isLeader (k : Nat) (f : Die → Die) (j : Nat) : (s.modDie k f).isLeader j = s.isLeader j := rfl
@[simp] theorem modHealth_isLeader (k : Nat) (f : Health → Health) (j : Nat) : (s.modHealth k f).isLeader j = s.isLeader j := rfl
@[simp] theorem keeping_isLeader (t : State) (j : Nat) : (t.keeping s).isLeader j = t.isLeader j := rfl
@[simp] theorem clean_isLeader (j : Nat) : s.clean.isLeader j = s.isLeader j := rfl

/-! What leaves `free` alone. -/

@[simp] theorem setReg_free (k : Nat) (v : Word) : (s.setReg k v).free = s.free := rfl
@[simp] theorem modLine_free (k : Nat) (f : Line → Line) : (s.modLine k f).free = s.free := rfl
@[simp] theorem setFld_free (k lo n v : Nat) : (s.setFld k lo n v).free = s.free := rfl
@[simp] theorem modPond_free (k : Nat) (f : Pond → Pond) : (s.modPond k f).free = s.free := rfl
@[simp] theorem setFlag_free (k i : Nat) (b : Bool) : (s.setFlag k i b).free = s.free := rfl
@[simp] theorem modGrid_free (k : Nat) (f : GridSlot → GridSlot) : (s.modGrid k f).free = s.free := rfl
@[simp] theorem count_free (k n : Nat) : (s.count k n).free = s.free := rfl
@[simp] theorem modBmem_free (k : Nat) (f : BasinMem → BasinMem) : (s.modBmem k f).free = s.free := rfl
@[simp] theorem countFld_free (k lo w n : Nat) : (s.countFld k lo w n).free = s.free := rfl
@[simp] theorem modBpow_free (k : Nat) (f : BasinPower → BasinPower) : (s.modBpow k f).free = s.free := rfl
@[simp] theorem dropRegs_free (p : Nat → Bool) : (s.dropRegs p).free = s.free := rfl
@[simp] theorem modChan_free (k : Nat) (f : Channel → Channel) : (s.modChan k f).free = s.free := rfl
@[simp] theorem modQueue_free (k : Nat) (f : AQueue → AQueue) : (s.modQueue k f).free = s.free := rfl
@[simp] theorem emit_free (m : Msg) : (s.emit m).free = s.free := rfl
@[simp] theorem modPort_free (k : Nat) (f : Port → Port) : (s.modPort k f).free = s.free := rfl
@[simp] theorem undefAt_free (c : Undefined) (k : Scope) : (s.undefAt c k).free = s.free := rfl
@[simp] theorem modCtx_free (k : Nat) (f : Ctx → Ctx) : (s.modCtx k f).free = s.free := rfl
@[simp] theorem undef_free (c : Undefined) : (s.undef c).free = s.free := rfl
@[simp] theorem modCfl_free (k : Nat) (f : CflEntry → CflEntry) : (s.modCfl k f).free = s.free := rfl
@[simp] theorem atPf0_free  : (s.atPf0).free = s.free := rfl
@[simp] theorem modHart_free (k : Nat) (f : Core → Core) : (s.modHart k f).free = s.free := rfl
@[simp] theorem setLayerQ_free (b : Nat) (q : List Layer) : (s.setLayerQ b q).free = s.free := rfl
@[simp] theorem modSpur_free (k : Nat) (f : Spur → Spur) : (s.modSpur k f).free = s.free := rfl
@[simp] theorem setTlb_free (b : Nat) (q : List TlbEntry) : (s.setTlb b q).free = s.free := rfl
@[simp] theorem modDie_free (k : Nat) (f : Die → Die) : (s.modDie k f).free = s.free := rfl
@[simp] theorem modHealth_free (k : Nat) (f : Health → Health) : (s.modHealth k f).free = s.free := rfl
@[simp] theorem keeping_free (t : State) : (t.keeping s).free = t.free := rfl
@[simp] theorem clean_free : s.clean.free = s.free := rfl

end Sys2Proof.Laws
end

