-- ==== Sys2Proof/Laws/Ops.lean ====
section
/-!
SUPPORT. What the shared operations of Machine/Ops.lean do to the table or register that they change, and what the four
kinds of outcome say.
-/
namespace Sys2Proof.Laws

open Sys2Proof.Machine

variable (s : State)

/-! Registers. -/

@[simp] theorem reg_setReg_self (k : Nat) (v : Word) : (s.setReg k v).reg k = v := by
  simp [State.reg, State.setReg]

theorem reg_setReg_ne {k i : Nat} (v : Word) (h : i ≠ k) : (s.setReg k v).reg i = s.reg i := by
  have : (s.setReg k v).regs = tblSet (regReset k) s.regs k v := rfl
  simp only [State.reg, this]
  unfold tblSet
  split_ifs
  · exact tblGet_erase_ne _ _ h
  · exact tblGet_insert_ne _ _ _ h

theorem reg_setReg (k i : Nat) (v : Word) : (s.setReg k v).reg i = if i = k then v else s.reg i := by
  split_ifs with h
  · subst h; simp
  · exact reg_setReg_ne s v h

@[simp] theorem reg_setFld_self (k lo n v : Nat) : (s.setFld k lo n v).reg k = (s.reg k).withField lo n v := by
  simp [State.setFld]

theorem reg_setFld_ne {k i : Nat} (lo n v : Nat) (h : i ≠ k) : (s.setFld k lo n v).reg i = s.reg i :=
  reg_setReg_ne s _ h

theorem reg_setFlag_ne {k i : Nat} (j : Nat) (b : Bool) (h : i ≠ k) : (s.setFlag k j b).reg i = s.reg i :=
  reg_setReg_ne s _ h

theorem reg_count_ne {k i : Nat} (n : Nat) (h : i ≠ k) : (s.count k n).reg i = s.reg i := reg_setReg_ne s _ h

/-- A counter register stops at all ones. -/
theorem reg_count_self (k n : Nat) : ((s.count k n).reg k).toNat = min ((s.reg k).toNat + n) (2 ^ 64 - 1) := by
  have : (s.count k n).reg k = BitVec.ofNat 64 (satAdd64 (s.reg k).toNat n) := by simp [State.count]
  rw [this, BitVec.toNat_ofNat, satAdd64, Nat.mod_eq_of_lt]
  omega

/-! Tables of units: an update changes the unit that it names and no other. -/

@[simp] theorem line_modLine_self (k : Nat) (f : Line → Line) : (s.modLine k f).line k = f (s.line k) := by
  simp [State.line, State.modLine, tblMod]
theorem line_modLine_ne {k i : Nat} (f : Line → Line) (h : i ≠ k) : (s.modLine k f).line i = s.line i := by
  simp [State.line, State.modLine, tblMod, h]
theorem line_modLine (k i : Nat) (f : Line → Line) : (s.modLine k f).line i = if i = k then f (s.line k) else s.line i := by
  split_ifs with h
  · subst h; exact line_modLine_self s i f
  · exact line_modLine_ne s f h

@[simp] theorem pond_modPond_self (k : Nat) (f : Pond → Pond) : (s.modPond k f).pond k = f (s.pond k) := by
  simp [State.pond, State.modPond, tblMod]
theorem pond_modPond_ne {k i : Nat} (f : Pond → Pond) (h : i ≠ k) : (s.modPond k f).pond i = s.pond i := by
  simp [State.pond, State.modPond, tblMod, h]
theorem pond_modPond (k i : Nat) (f : Pond → Pond) : (s.modPond k f).pond i = if i = k then f (s.pond k) else s.pond i := by
  split_ifs with h
  · subst h; exact pond_modPond_self s i f
  · exact pond_modPond_ne s f h

@[simp] theorem grid_modGrid_self (k : Nat) (f : GridSlot → GridSlot) : (s.modGrid k f).grid k = f (s.grid k) := by
  simp [State.grid, State.modGrid, tblMod]
theorem grid_modGrid_ne {k i : Nat} (f : GridSlot → GridSlot) (h : i ≠ k) : (s.modGrid k f).grid i = s.grid i := by
  simp [State.grid, State.modGrid, tblMod, h]
theorem grid_modGrid (k i : Nat) (f : GridSlot → GridSlot) : (s.modGrid k f).grid i = if i = k then f (s.grid k) else s.grid i := by
  split_ifs with h
  · subst h; exact grid_modGrid_self s i f
  · exact grid_modGrid_ne s f h

@[simp] theorem bmem_modBmem_self (k : Nat) (f : BasinMem → BasinMem) : (s.modBmem k f).bmem k = f (s.bmem k) := by
  simp [State.bmem, State.modBmem, tblMod]
theorem bmem_modBmem_ne {k i : Nat} (f : BasinMem → BasinMem) (h : i ≠ k) : (s.modBmem k f).bmem i = s.bmem i := by
  simp [State.bmem, State.modBmem, tblMod, h]
theorem bmem_modBmem (k i : Nat) (f : BasinMem → BasinMem) : (s.modBmem k f).bmem i = if i = k then f (s.bmem k) else s.bmem i := by
  split_ifs with h
  · subst h; exact bmem_modBmem_self s i f
  · exact bmem_modBmem_ne s f h

@[simp] theorem bpow_modBpow_self (k : Nat) (f : BasinPower → BasinPower) : (s.modBpow k f).bpow k = f (s.bpow k) := by
  simp [State.bpow, State.modBpow, tblMod]
theorem bpow_modBpow_ne {k i : Nat} (f : BasinPower → BasinPower) (h : i ≠ k) : (s.modBpow k f).bpow i = s.bpow i := by
  simp [State.bpow, State.modBpow, tblMod, h]
theorem bpow_modBpow (k i : Nat) (f : BasinPower → BasinPower) : (s.modBpow k f).bpow i = if i = k then f (s.bpow k) else s.bpow i := by
  split_ifs with h
  · subst h; exact bpow_modBpow_self s i f
  · exact bpow_modBpow_ne s f h

@[simp] theorem chan_modChan_self (k : Nat) (f : Channel → Channel) : (s.modChan k f).chan k = f (s.chan k) := by
  simp [State.chan, State.modChan, tblMod]
theorem chan_modChan_ne {k i : Nat} (f : Channel → Channel) (h : i ≠ k) : (s.modChan k f).chan i = s.chan i := by
  simp [State.chan, State.modChan, tblMod, h]
theorem chan_modChan (k i : Nat) (f : Channel → Channel) : (s.modChan k f).chan i = if i = k then f (s.chan k) else s.chan i := by
  split_ifs with h
  · subst h; exact chan_modChan_self s i f
  · exact chan_modChan_ne s f h

@[simp] theorem queue_modQueue_self (k : Nat) (f : AQueue → AQueue) : (s.modQueue k f).queue k = f (s.queue k) := by
  simp [State.queue, State.modQueue, tblMod]
theorem queue_modQueue_ne {k i : Nat} (f : AQueue → AQueue) (h : i ≠ k) : (s.modQueue k f).queue i = s.queue i := by
  simp [State.queue, State.modQueue, tblMod, h]
theorem queue_modQueue (k i : Nat) (f : AQueue → AQueue) : (s.modQueue k f).queue i = if i = k then f (s.queue k) else s.queue i := by
  split_ifs with h
  · subst h; exact queue_modQueue_self s i f
  · exact queue_modQueue_ne s f h

@[simp] theorem port_modPort_self (k : Nat) (f : Port → Port) : (s.modPort k f).port k = f (s.port k) := by
  simp [State.port, State.modPort, tblMod]
theorem port_modPort_ne {k i : Nat} (f : Port → Port) (h : i ≠ k) : (s.modPort k f).port i = s.port i := by
  simp [State.port, State.modPort, tblMod, h]
theorem port_modPort (k i : Nat) (f : Port → Port) : (s.modPort k f).port i = if i = k then f (s.port k) else s.port i := by
  split_ifs with h
  · subst h; exact port_modPort_self s i f
  · exact port_modPort_ne s f h

@[simp] theorem ctx_modCtx_self (k : Nat) (f : Ctx → Ctx) : (s.modCtx k f).ctx k = f (s.ctx k) := by
  simp [State.ctx, State.modCtx, tblMod]
theorem ctx_modCtx_ne {k i : Nat} (f : Ctx → Ctx) (h : i ≠ k) : (s.modCtx k f).ctx i = s.ctx i := by
  simp [State.ctx, State.modCtx, tblMod, h]
theorem ctx_modCtx (k i : Nat) (f : Ctx → Ctx) : (s.modCtx k f).ctx i = if i = k then f (s.ctx k) else s.ctx i := by
  split_ifs with h
  · subst h; exact ctx_modCtx_self s i f
  · exact ctx_modCtx_ne s f h

@[simp] theorem cfl_modCfl_self (k : Nat) (f : CflEntry → CflEntry) : (s.modCfl k f).cfl k = f (s.cfl k) := by
  simp [State.cfl, State.modCfl, tblMod]
theorem cfl_modCfl_ne {k i : Nat} (f : CflEntry → CflEntry) (h : i ≠ k) : (s.modCfl k f).cfl i = s.cfl i := by
  simp [State.cfl, State.modCfl, tblMod, h]
theorem cfl_modCfl (k i : Nat) (f : CflEntry → CflEntry) : (s.modCfl k f).cfl i = if i = k then f (s.cfl k) else s.cfl i := by
  split_ifs with h
  · subst h; exact cfl_modCfl_self s i f
  · exact cfl_modCfl_ne s f h

@[simp] theorem hart_modHart_self (k : Nat) (f : Core → Core) : (s.modHart k f).hart k = f (s.hart k) := by
  simp [State.hart, State.modHart, tblMod]
theorem hart_modHart_ne {k i : Nat} (f : Core → Core) (h : i ≠ k) : (s.modHart k f).hart i = s.hart i := by
  simp [State.hart, State.modHart, tblMod, h]
theorem hart_modHart (k i : Nat) (f : Core → Core) : (s.modHart k f).hart i = if i = k then f (s.hart k) else s.hart i := by
  split_ifs with h
  · subst h; exact hart_modHart_self s i f
  · exact hart_modHart_ne s f h

@[simp] theorem spur_modSpur_self (k : Nat) (f : Spur → Spur) : (s.modSpur k f).spur k = f (s.spur k) := by
  simp [State.spur, State.modSpur, tblMod]
theorem spur_modSpur_ne {k i : Nat} (f : Spur → Spur) (h : i ≠ k) : (s.modSpur k f).spur i = s.spur i := by
  simp [State.spur, State.modSpur, tblMod, h]
theorem spur_modSpur (k i : Nat) (f : Spur → Spur) : (s.modSpur k f).spur i = if i = k then f (s.spur k) else s.spur i := by
  split_ifs with h
  · subst h; exact spur_modSpur_self s i f
  · exact spur_modSpur_ne s f h

@[simp] theorem die_modDie_self (k : Nat) (f : Die → Die) : (s.modDie k f).die k = f (s.die k) := by
  simp [State.die, State.modDie, tblMod]
theorem die_modDie_ne {k i : Nat} (f : Die → Die) (h : i ≠ k) : (s.modDie k f).die i = s.die i := by
  simp [State.die, State.modDie, tblMod, h]
theorem die_modDie (k i : Nat) (f : Die → Die) : (s.modDie k f).die i = if i = k then f (s.die k) else s.die i := by
  split_ifs with h
  · subst h; exact die_modDie_self s i f
  · exact die_modDie_ne s f h

@[simp] theorem healthOf_modHealth_self (k : Nat) (f : Health → Health) : (s.modHealth k f).healthOf k = f (s.healthOf k) := by
  simp [State.healthOf, State.modHealth, tblMod]
theorem healthOf_modHealth_ne {k i : Nat} (f : Health → Health) (h : i ≠ k) : (s.modHealth k f).healthOf i = s.healthOf i := by
  simp [State.healthOf, State.modHealth, tblMod, h]
theorem healthOf_modHealth (k i : Nat) (f : Health → Health) : (s.modHealth k f).healthOf i = if i = k then f (s.healthOf k) else s.healthOf i := by
  split_ifs with h
  · subst h; exact healthOf_modHealth_self s i f
  · exact healthOf_modHealth_ne s f h

@[simp] theorem layerQ_setLayerQ_self (k : Nat) (q : List Layer) : (s.setLayerQ k q).layerQ k = q := by simp [State.layerQ, State.setLayerQ]
theorem layerQ_setLayerQ_ne {k i : Nat} (q : List Layer) (h : i ≠ k) : (s.setLayerQ k q).layerQ i = s.layerQ i := by
  simp [State.layerQ, State.setLayerQ, h]

@[simp] theorem tlb_setTlb_self (k : Nat) (q : List TlbEntry) : (s.setTlb k q).tlb k = q := by simp [State.tlb, State.setTlb]
theorem tlb_setTlb_ne {k i : Nat} (q : List TlbEntry) (h : i ≠ k) : (s.setTlb k q).tlb i = s.tlb i := by
  simp [State.tlb, State.setTlb, h]

/-! Small operations. -/

@[simp] theorem emit_out (m : Msg) : (s.emit m).out = m :: s.out := rfl
@[simp] theorem bump_freeCtr : s.bump.freeCtr = s.freeCtr + 1 := rfl
@[simp] theorem undefIf_false (c : Undefined) : s.undefIf false c = s := rfl
@[simp] theorem undefIf_true (c : Undefined) : s.undefIf true c = s.undef c := rfl
@[simp] theorem when_true (f : State → State) : s.when true f = f s := rfl
@[simp] theorem when_false (f : State → State) : s.when false f = s := rfl
@[simp] theorem each_nil (f : State → Nat → State) : s.each [] f = s := rfl
@[simp] theorem each_cons (x : Nat) (l : List Nat) (f : State → Nat → State) : s.each (x :: l) f = (f s x).each l f := rfl

theorem undef_misuse (c : Undefined) : (s.undef c).misuse ≠ none := by
  unfold State.undef State.undefAt
  cases s.misuse <;> simp

theorem undef_of_none {c : Undefined} (h : s.misuse = none) : (s.undef c).misuse = some (c, .line) := by
  simp [State.undef, State.undefAt, h]

theorem undefAt_of_none {c : Undefined} {k : Scope} (h : s.misuse = none) : (s.undefAt c k).misuse = some (c, k) := by
  simp [State.undefAt, h]

/-- Nothing is noted at PF0 where no case was met. -/
@[simp] theorem noted_misuse_none (v : Via) : (s.noted v).misuse = none ↔ s.misuse = none := by
  unfold State.noted State.atPf0
  split <;> simp

/-- Where no case was met, the note stays as it is. -/
theorem noted_of_none (v : Via) (h : s.misuse = none) : s.noted v = s := by
  unfold State.noted State.atPf0
  rw [h, Option.map_none, ← h]
  split <;> rfl

/-- An aligned address stays as it is. -/
theorem lowBits_of_aligned {a n : Nat} (h : a % n = 0) : s.lowBits a n = (a, s) := if_pos h

/-- Whatever its low bits, an address stays in its aligned block. -/
theorem lowBits_div {a n : Nat} (h : 0 < n) : (s.lowBits a n).1 / n = a / n := by
  unfold State.lowBits
  split
  · rfl
  · show (a / n * n + s.free % n) / n = a / n
    rw [Nat.mul_comm, Nat.mul_add_div h, Nat.div_eq_of_lt (Nat.mod_lt _ h), Nat.add_zero]

/-! Outcomes. -/

@[simp] theorem keeping_self : s.keeping s = s := rfl

/-- Where an effect leaves the queue, time, the vault and the misuse note alone, nothing is put back. -/
theorem keeping_of_same {t : State} (h1 : t.pending = s.pending) (h2 : t.time = s.time) (h3 : t.vault = s.vault)
    (h4 : t.misuse = s.misuse) : t.keeping s = t := by
  unfold State.keeping
  rw [← h1, ← h2, ← h3, ← h4]

theorem clean_of_none (h : s.misuse = none) : s.clean = s := by
  unfold State.clean
  rw [← h]

theorem run_of_keeps (f : State → State) (h1 : (f s).pending = s.pending) (h2 : (f s).time = s.time)
    (h3 : (f s).vault = s.vault) (h4 : (f s).misuse = s.misuse) : run f s = .next (f s) := by
  rw [run, keeping_of_same s h1 h2 h3 h4]

/-- A command that can meet an undefined case and does not. -/
theorem runU_of_none (f : State → State) (h : (f s.clean).misuse = none) :
    runU f s = .next ((f s.clean).keeping s) := by
  simp [runU, h]

theorem runU_of_keeps (f : State → State) (h0 : s.misuse = none) (h : (f s).misuse = none)
    (h1 : (f s).pending = s.pending) (h2 : (f s).time = s.time) (h3 : (f s).vault = s.vault) :
    runU f s = .next (f s) := by
  have e := clean_of_none s h0
  rw [runU_of_none s f (by rw [e]; exact h), e, keeping_of_same s h1 h2 h3 (h.trans h0.symm)]

/-- A command that meets an undefined case stops with it (R552 to R557). -/
theorem runU_of_some (f : State → State) (c : Undefined) (k : Scope) (h : (f s.clean).misuse = some (c, k)) :
    runU f s = .fault (.undefinedCase c k) := by
  simp [runU, h]

/-- Everything that a command through `runU` can do. -/
theorem runU_cases (f : State → State) :
    (∃ c k, runU f s = .fault (.undefinedCase c k)) ∨
    (∃ t, runU f s = .next t ∧ t.pending = s.pending ∧ t.time = s.time ∧ t.vault = s.vault ∧ t.misuse = s.misuse) := by
  unfold runU
  split
  · exact .inl ⟨_, _, rfl⟩
  · exact .inr ⟨_, rfl, rfl, rfl, rfl, rfl⟩

/-- Everything that a command through `runVaultU` can do. -/
theorem runVaultU_cases (v : State → Vault) (f : State → State) :
    (∃ c k, runVaultU v f s = .fault (.undefinedCase c k)) ∨
    (∃ t, runVaultU v f s = .next t ∧ t.pending = s.pending ∧ t.time = s.time ∧ t.vault = v s ∧ t.misuse = s.misuse) := by
  unfold runVaultU
  split
  · exact .inl ⟨_, _, rfl⟩
  · exact .inr ⟨_, rfl, rfl, rfl, rfl, rfl⟩

end Sys2Proof.Laws
end

