-- ==== Sys2Proof/WellFormed.lean ====
section
/-!
DEFINITION. Which commands are well formed: numbers that the manual gives a width or a range lie in it. A command that is
not well formed still has a meaning; the checks say what a sender can spell.
-/
namespace Sys2Proof

/-- A device physical address has 52 bits (R34). -/
def dpaOk (a : Nat) : Bool := decide (a < 2 ^ 52)

/-- A line number is DPA bits [51:6] (R302). -/
def lineOk (n : Nat) : Bool := decide (n < 2 ^ 46)

/-- An offset of a register space: 256 MiB for PF0, 64 MiB for a Line function (R306). -/
def RegFn.offOk : RegFn → Nat → Bool
  | .hub, off => decide (off < 2 ^ 28)
  | .line _, off => decide (off < 2 ^ 26)

/-- An access lies within one 64-byte granule. -/
def MemOp.ok : MemOp → Nat → Bool
  | .read n, a => decide (0 < n ∧ a % 64 + n ≤ 64)
  | .write d _, a => decide (0 < d.length ∧ a % 64 + d.length ≤ 64)

/-- A width that a core accesses memory in. -/
def coreWidth (n : Nat) : Bool := n == 1 || n == 2 || n == 4 || n == 8

/-- A core's address has 64 bits. -/
def vaOk (a : Nat) : Bool := decide (a < 2 ^ 64)

/-- A core's access has a width of its instructions, at most a vector register (R408). -/
def CoreAccess.ok : CoreAccess → Bool
  | .load a n => vaOk a && coreWidth n
  | .store a d => vaOk a && coreWidth d.length
  | .amoAdd a _ | .amoSwap a _ | .lr a | .sc a _ => vaOk a
  | .cboZero a | .cboClean a | .cboFlush a | .cboInval a => vaOk a
  | .fload _ _ a | .fstore _ _ a => vaOk a
  | .vload _ a n | .vstore _ a n => vaOk a && decide (n ≤ 32)
  | .vfredusum _ sew vl _ _ _ _ => decide (sew ≤ 3 ∧ vl ≤ 256)
  | .fp _ _ _ _ _ _ _ | .csrWrite _ _ | .mret | .fence | .wfi => true

/-- The address of an ECC event. -/
def EccEvent.addr : EccEvent → Nat
  | .fixed a | .lost a => a

/-- A codeword has 544 symbols and 5,140 message bits (R337), and the body of a flit at most 256 bytes (R341). -/
def Codeword.ok (c : Codeword) : Bool :=
  decide (c.errors ≤ 544 ∧ c.msg < 2 ^ 5140 ∧ c.bodies.length ≤ 2) && c.bodies.all fun b => decide (b.length ≤ 256)

/-- A spur flit holds 64 bytes of payload (R430). -/
def SpurFlit.ok (f : SpurFlit) : Bool := decide (f.payload.length = 64)

/-- An operation of the CXL mode, its access within one granule (R304). -/
def CxlOp.ok (a : Nat) : CxlOp → Bool
  | .mem acc => acc.ok a
  | .decoder _ _ _ | .snoop => true

/-- UNIT names a unit of its kind (R470). -/
def UnitKind.ok : UnitKind → Nat → Bool
  | .grid, u => decide (u / 8 < 34)
  | .core, u => decide (u / 2 < 68)
  | .subarray, u => decide (u < 2 ^ 16 ∧ u / 2 ^ 11 < 33)
  | .spurLane, u => decide (u < 2 ^ 12 ∧ u % 32 < 26 ∧ u / 64 < 34)
  | .railLane, u => decide (u < 2 ^ 10 ∧ u / 64 < 9)
  | .memChan, u => decide (u < 256)

/-- Link rates of 8 to 64 GT/s by their generation, and lane counts (R303). -/
def linkOk (speed width : Nat) : Bool :=
  decide (3 ≤ speed ∧ speed ≤ 6) && (width == 1 || width == 2 || width == 4 || width == 8 || width == 16)

/-- The findings of a boot step name dies, spurs and channels that exist (R428, R444). -/
def BootResult.ok (r : BootResult) : Bool :=
  decide (r.roms.length ≤ 27) && r.spursFailed.all (fun s => decide (s < 26))
    && r.wires.all (fun w => decide (w.spur < 26 ∧ w.dieA < 27 ∧ w.portA < 26 ∧ w.dieB < 27 ∧ w.portB < 4))
  && (r.chansFailed ++ r.repairsRefused).all fun c => decide (c < 256)

/-- A command is well formed. -/
def wellFormed : Instr → Bool
  | .registerWrite _ fn off _ _ => fn.offOk off
  | .slotClaim _ g => g.val == 1 || g.val == 2 || g.val == 4 || g.val == 8 || g.val == 15
  | .spareCopyDone _ bank => decide (bank < 256)
  | .scrubPass _ _ found => found.all fun e => dpaOk e.addr
  | .refresh _ _ rate => decide (rate ≤ 32)
  | .readShared _ g | .readUnique _ g | .upgrade _ g | .writeBack _ g | .cleanEvict _ g => lineOk g
  | .snpShared _ g | .snpInvalidate _ g | .snpReadNoAlloc _ g | .snoopResponse _ g | .wbAck _ g => lineOk g
  | .cachelessAccess _ a acc ecc => dpaOk a && acc.ok a && ecc.all fun e => dpaOk e.addr
  | .linkUp speed width _ big hdm => linkOk speed width && decide (big < 2 ^ 13) && decide (hdm.length ≤ 8)
  | .linkRetrain speed width => linkOk speed width
  | .bar2Access _ off acc ecc => decide (off < 2 ^ 42) && acc.ok off && ecc.all fun e => dpaOk e.addr
  | .cxlMemAccess addr op => op.ok addr
  | .codewordReceive _ cw => cw.ok
  | .railNak _ n => decide (n < 4096)
  | .laneSwitch _ _ _ n => decide (n < 4096)
  | .coreMemoryAccess _ acc => acc.ok
  | .spurFlitReceive _ _ f => f.ok
  | .spurNak _ _ n => decide (n < 1024)
  | .testDue k u | .testBegin k u | .testComplete k u _ => k.ok u
  | .tenantValueUpdate draws => decide (draws.length = 8)
  | .powerSample readings => decide (readings.length = 9)
  | .setmwl n | .setmrl n => decide (n < 2 ^ 16)
  | .bootStepDone res => res.ok
  | .thermalTrip die => decide (die < 27)
  | _ => true

end Sys2Proof
end

