-- ==== Sys2Proof/Laws/PerInstr.lean ====
section
/-!
SUPPORT. The family Fields, one lemma for each constructor: a well-formed command names only device physical addresses of
52 bits.
-/
namespace Sys2Proof.Laws

/-- The device physical addresses that a command names (R34, R302). -/
def Fields.dpas : Instr → List Nat
  | .scrubPass _ _ found => found.map EccEvent.addr
  | .readShared _ g | .readUnique _ g | .upgrade _ g | .writeBack _ g | .cleanEvict _ g => [g * 64]
  | .snpShared _ g | .snpInvalidate _ g | .snpReadNoAlloc _ g | .snoopResponse _ g | .wbAck _ g => [g * 64]
  | .cachelessAccess _ a _ ecc => a :: ecc.map EccEvent.addr
  | .bar2Access _ _ _ ecc => ecc.map EccEvent.addr
  | _ => []

/-- A well-formed command names only addresses of 52 bits. -/
def Fields.Statement (i : Instr) : Prop := wellFormed i = true → ∀ a ∈ Fields.dpas i, a < 2 ^ 52

theorem Fields.of_none {i : Instr} (h : Fields.dpas i = []) : Fields.Statement i := by
  intro _ a ha
  rw [h] at ha
  exact absurd ha List.not_mem_nil

theorem Fields.of_line {g : Nat} (h : lineOk g = true) : ∀ a ∈ [g * 64], a < 2 ^ 52 := by
  intro a ha
  have hg : g < 2 ^ 46 := of_decide_eq_true h
  rw [List.mem_singleton.mp ha]
  omega

theorem Fields.of_events {ecc : List EccEvent} (h : (ecc.all fun e => dpaOk e.addr) = true) :
    ∀ a ∈ ecc.map EccEvent.addr, a < 2 ^ 52 := by
  intro a ha
  obtain ⟨e, he, rfl⟩ := List.mem_map.mp ha
  exact of_decide_eq_true (List.all_eq_true.mp h e he)

theorem Fields.engineQueueRoom (u : PondId) : Fields.Statement (.engineQueueRoom u) := Fields.of_none rfl
theorem Fields.ttApplyDone : Fields.Statement (.ttApplyDone) := Fields.of_none rfl
theorem Fields.nop (u : PondId) : Fields.Statement (.nop u) := Fields.of_none rfl
theorem Fields.linkDown : Fields.Statement (.linkDown) := Fields.of_none rfl
theorem Fields.endProgram (u : PondId) : Fields.Statement (.endProgram u) := Fields.of_none rfl
theorem Fields.hotReset : Fields.Statement (.hotReset) := Fields.of_none rfl
theorem Fields.br (u : PondId) : Fields.Statement (.br u) := Fields.of_none rfl
theorem Fields.perst : Fields.Statement (.perst) := Fields.of_none rfl
theorem Fields.loop (u : PondId) : Fields.Statement (.loop u) := Fields.of_none rfl
theorem Fields.pf0Flr : Fields.Statement (.pf0Flr) := Fields.of_none rfl
theorem Fields.wait (u : PondId) : Fields.Statement (.wait u) := Fields.of_none rfl
theorem Fields.drbgReseed : Fields.Statement (.drbgReseed) := Fields.of_none rfl
theorem Fields.waitDone (u : PondId) : Fields.Statement (.waitDone u) := Fields.of_none rfl
theorem Fields.rngHealthFail : Fields.Statement (.rngHealthFail) := Fields.of_none rfl
theorem Fields.signal (u : PondId) : Fields.Statement (.signal u) := Fields.of_none rfl
theorem Fields.start (via : Via) (l : LineId) (v : Word) : Fields.Statement (.start via l v) := Fields.of_none rfl
theorem Fields.add (u : PondId) : Fields.Statement (.add u) := Fields.of_none rfl
theorem Fields.hubLineStop (v : Word) : Fields.Statement (.hubLineStop v) := Fields.of_none rfl
theorem Fields.sub (u : PondId) : Fields.Statement (.sub u) := Fields.of_none rfl
theorem Fields.budgetLoop : Fields.Statement (.budgetLoop) := Fields.of_none rfl
theorem Fields.mul (u : PondId) : Fields.Statement (.mul u) := Fields.of_none rfl
theorem Fields.stop (via : Via) (l : LineId) (v : Word) : Fields.Statement (.stop via l v) := Fields.of_none rfl
theorem Fields.and (u : PondId) : Fields.Statement (.and u) := Fields.of_none rfl
theorem Fields.ttLoad (v : Word) : Fields.Statement (.ttLoad v) := Fields.of_none rfl
theorem Fields.or (u : PondId) : Fields.Statement (.or u) := Fields.of_none rfl
theorem Fields.rstdaa : Fields.Statement (.rstdaa) := Fields.of_none rfl
theorem Fields.xor (u : PondId) : Fields.Statement (.xor u) := Fields.of_none rfl
theorem Fields.reset (via : Via) (l : LineId) (v : Word) : Fields.Statement (.reset via l v) := Fields.of_none rfl
theorem Fields.shl (u : PondId) : Fields.Statement (.shl u) := Fields.of_none rfl
theorem Fields.ttDryRun (v : Word) : Fields.Statement (.ttDryRun v) := Fields.of_none rfl
theorem Fields.shr (u : PondId) : Fields.Statement (.shr u) := Fields.of_none rfl
theorem Fields.getpid : Fields.Statement (.getpid) := Fields.of_none rfl
theorem Fields.sra (u : PondId) : Fields.Statement (.sra u) := Fields.of_none rfl
theorem Fields.lock (via : Via) (l : LineId) (v : Word) : Fields.Statement (.lock via l v) := Fields.of_none rfl
theorem Fields.addi (u : PondId) : Fields.Statement (.addi u) := Fields.of_none rfl
theorem Fields.fabricIdWrite (v : Word) : Fields.Statement (.fabricIdWrite v) := Fields.of_none rfl
theorem Fields.lih (u : PondId) : Fields.Statement (.lih u) := Fields.of_none rfl
theorem Fields.getbcr : Fields.Statement (.getbcr) := Fields.of_none rfl
theorem Fields.ld (u : PondId) : Fields.Statement (.ld u) := Fields.of_none rfl
theorem Fields.xlatFenceGo (via : Via) (l : LineId) (v : Word) : Fields.Statement (.xlatFenceGo via l v) :=
    Fields.of_none rfl
theorem Fields.sd (u : PondId) : Fields.Statement (.sd u) := Fields.of_none rfl
theorem Fields.unitRead (v : Word) : Fields.Statement (.unitRead v) := Fields.of_none rfl
theorem Fields.ald (u : PondId) : Fields.Statement (.ald u) := Fields.of_none rfl
theorem Fields.lineReady (l : LineId) : Fields.Statement (.lineReady l) := Fields.of_none rfl
theorem Fields.aadd (u : PondId) : Fields.Statement (.aadd u) := Fields.of_none rfl
theorem Fields.getdcr : Fields.Statement (.getdcr) := Fields.of_none rfl
theorem Fields.aset (u : PondId) : Fields.Statement (.aset u) := Fields.of_none rfl
theorem Fields.hostEn (via : Via) (l : LineId) (v : Word) : Fields.Statement (.hostEn via l v) := Fields.of_none rfl
theorem Fields.lda (u : PondId) : Fields.Statement (.lda u) := Fields.of_none rfl
theorem Fields.unitTest (v : Word) : Fields.Statement (.unitTest v) := Fields.of_none rfl
theorem Fields.ldb (u : PondId) : Fields.Statement (.ldb u) := Fields.of_none rfl
theorem Fields.lineDrained (l : LineId) : Fields.Statement (.lineDrained l) := Fields.of_none rfl
theorem Fields.mma (u : PondId) : Fields.Statement (.mma u) := Fields.of_none rfl
theorem Fields.getstatus : Fields.Statement (.getstatus) := Fields.of_none rfl
theorem Fields.mmag (u : PondId) : Fields.Statement (.mmag u) := Fields.of_none rfl
theorem Fields.claim (via : Via) (l : LineId) (v : Word) : Fields.Statement (.claim via l v) := Fields.of_none rfl
theorem Fields.st (u : PondId) : Fields.Statement (.st u) := Fields.of_none rfl
theorem Fields.quarantine (v : Word) : Fields.Statement (.quarantine v) := Fields.of_none rfl
theorem Fields.stb (u : PondId) : Fields.Statement (.stb u) := Fields.of_none rfl
theorem Fields.lineIdle (l : LineId) : Fields.Statement (.lineIdle l) := Fields.of_none rfl
theorem Fields.ldt (u : PondId) : Fields.Statement (.ldt u) := Fields.of_none rfl
theorem Fields.getmwl : Fields.Statement (.getmwl) := Fields.of_none rfl
theorem Fields.rel (u : PondId) : Fields.Statement (.rel u) := Fields.of_none rfl
theorem Fields.getVersion (t : Transport) (body : List Byte) : Fields.Statement (.getVersion t body) :=
    Fields.of_none rfl
theorem Fields.releaseEnd (u : PondId) : Fields.Statement (.releaseEnd u) := Fields.of_none rfl
theorem Fields.winBaseWrite (via : Via) (l : LineId) (v : Word) : Fields.Statement (.winBaseWrite via l v) :=
    Fields.of_none rfl
theorem Fields.sadd (u : PondId) : Fields.Statement (.sadd u) := Fields.of_none rfl
theorem Fields.retire (v : Word) : Fields.Statement (.retire v) := Fields.of_none rfl
theorem Fields.swait (u : PondId) : Fields.Statement (.swait u) := Fields.of_none rfl
theorem Fields.fenceBegin (l : LineId) : Fields.Statement (.fenceBegin l) := Fields.of_none rfl
theorem Fields.swaitSatisfied (u : PondId) : Fields.Statement (.swaitSatisfied u) := Fields.of_none rfl
theorem Fields.getmrl : Fields.Statement (.getmrl) := Fields.of_none rfl
theorem Fields.waitTimeout (u : PondId) : Fields.Statement (.waitTimeout u) := Fields.of_none rfl
theorem Fields.sqFetchReturn (l : LineId) (q : QueueId) : Fields.Statement (.sqFetchReturn l q) := Fields.of_none rfl
theorem Fields.runLimit (u : PondId) : Fields.Statement (.runLimit u) := Fields.of_none rfl
theorem Fields.getCapabilities (t : Transport) (body : List Byte) : Fields.Statement (.getCapabilities t body) :=
    Fields.of_none rfl
theorem Fields.xstart (u : PondId) : Fields.Statement (.xstart u) := Fields.of_none rfl
theorem Fields.queueEnable (via : Via) (l : LineId) (v : Word) : Fields.Statement (.queueEnable via l v) :=
    Fields.of_none rfl
theorem Fields.phase (u : PondId) : Fields.Statement (.phase u) := Fields.of_none rfl
theorem Fields.suspect (v : Word) : Fields.Statement (.suspect v) := Fields.of_none rfl
theorem Fields.programStart (u : PondId) : Fields.Statement (.programStart u) := Fields.of_none rfl
theorem Fields.fenceComplete (l : LineId) : Fields.Statement (.fenceComplete l) := Fields.of_none rfl
theorem Fields.imemLoadDone (u : PondId) : Fields.Statement (.imemLoadDone u) := Fields.of_none rfl
theorem Fields.getcaps : Fields.Statement (.getcaps) := Fields.of_none rfl
theorem Fields.vopCopy (u : PondId) : Fields.Statement (.vopCopy u) := Fields.of_none rfl
theorem Fields.refetch (l : LineId) (q : QueueId) : Fields.Statement (.refetch l q) := Fields.of_none rfl
theorem Fields.vopAdd (u : PondId) : Fields.Statement (.vopAdd u) := Fields.of_none rfl
theorem Fields.negotiateAlgorithms (t : Transport) (body : List Byte) : Fields.Statement (.negotiateAlgorithms t body) :=
    Fields.of_none rfl
theorem Fields.vopSub (u : PondId) : Fields.Statement (.vopSub u) := Fields.of_none rfl
theorem Fields.queueDisable (via : Via) (l : LineId) (v : Word) : Fields.Statement (.queueDisable via l v) :=
    Fields.of_none rfl
theorem Fields.vopMul (u : PondId) : Fields.Statement (.vopMul u) := Fields.of_none rfl
theorem Fields.reinstate (v : Word) : Fields.Statement (.reinstate v) := Fields.of_none rfl
theorem Fields.vopDiv (u : PondId) : Fields.Statement (.vopDiv u) := Fields.of_none rfl
theorem Fields.lineFlr (l : LineId) : Fields.Statement (.lineFlr l) := Fields.of_none rfl
theorem Fields.vopFma (u : PondId) : Fields.Statement (.vopFma u) := Fields.of_none rfl
theorem Fields.repeatFlush : Fields.Statement (.repeatFlush) := Fields.of_none rfl
theorem Fields.vopFill (u : PondId) : Fields.Statement (.vopFill u) := Fields.of_none rfl
theorem Fields.aporiNop (l : LineId) (q : QueueId) : Fields.Statement (.aporiNop l q) := Fields.of_none rfl
theorem Fields.vopAdds (u : PondId) : Fields.Statement (.vopAdds u) := Fields.of_none rfl
theorem Fields.getDigests (t : Transport) (body : List Byte) : Fields.Statement (.getDigests t body) :=
    Fields.of_none rfl
theorem Fields.vopMuls (u : PondId) : Fields.Statement (.vopMuls u) := Fields.of_none rfl
theorem Fields.queueResume (via : Via) (l : LineId) (v : Word) : Fields.Statement (.queueResume via l v) :=
    Fields.of_none rfl
theorem Fields.vopFmas (u : PondId) : Fields.Statement (.vopFmas u) := Fields.of_none rfl
theorem Fields.surveyLoad (v : Word) : Fields.Statement (.surveyLoad v) := Fields.of_none rfl
theorem Fields.vopMax (u : PondId) : Fields.Statement (.vopMax u) := Fields.of_none rfl
theorem Fields.queueDisableDone (l : LineId) : Fields.Statement (.queueDisableDone l) := Fields.of_none rfl
theorem Fields.vopMin (u : PondId) : Fields.Statement (.vopMin u) := Fields.of_none rfl
theorem Fields.powerOn : Fields.Statement (.powerOn) := Fields.of_none rfl
theorem Fields.vopMaxs (u : PondId) : Fields.Statement (.vopMaxs u) := Fields.of_none rfl
theorem Fields.launch (l : LineId) (q : QueueId) : Fields.Statement (.launch l q) := Fields.of_none rfl
theorem Fields.vopAbs (u : PondId) : Fields.Statement (.vopAbs u) := Fields.of_none rfl
theorem Fields.flitWrite (p : PortId) : Fields.Statement (.flitWrite p) := Fields.of_none rfl
theorem Fields.vopNeg (u : PondId) : Fields.Statement (.vopNeg u) := Fields.of_none rfl
theorem Fields.getCertificate (t : Transport) (body : List Byte) : Fields.Statement (.getCertificate t body) :=
    Fields.of_none rfl
theorem Fields.vopAddrow (u : PondId) : Fields.Statement (.vopAddrow u) := Fields.of_none rfl
theorem Fields.ctxOpen (via : Via) (l : LineId) (v : Word) : Fields.Statement (.ctxOpen via l v) := Fields.of_none rfl
theorem Fields.vopSubrow (u : PondId) : Fields.Statement (.vopSubrow u) := Fields.of_none rfl
theorem Fields.surveyErase (v : Word) : Fields.Statement (.surveyErase v) := Fields.of_none rfl
theorem Fields.vopMulrow (u : PondId) : Fields.Statement (.vopMulrow u) := Fields.of_none rfl
theorem Fields.lockInterface (l : LineId) : Fields.Statement (.lockInterface l) := Fields.of_none rfl
theorem Fields.vopDivrow (u : PondId) : Fields.Statement (.vopDivrow u) := Fields.of_none rfl
theorem Fields.modRst : Fields.Statement (.modRst) := Fields.of_none rfl
theorem Fields.vopAddcol (u : PondId) : Fields.Statement (.vopAddcol u) := Fields.of_none rfl
theorem Fields.readShared (agent : AgentId) (line : Nat) : Fields.Statement (.readShared agent line) := Fields.of_line
theorem Fields.vopMulcol (u : PondId) : Fields.Statement (.vopMulcol u) := Fields.of_none rfl
theorem Fields.xfer (l : LineId) (q : QueueId) : Fields.Statement (.xfer l q) := Fields.of_none rfl
theorem Fields.vopRecip (u : PondId) : Fields.Statement (.vopRecip u) := Fields.of_none rfl
theorem Fields.flitReduce (p : PortId) : Fields.Statement (.flitReduce p) := Fields.of_none rfl
theorem Fields.vopSqrt (u : PondId) : Fields.Statement (.vopSqrt u) := Fields.of_none rfl
theorem Fields.challenge (t : Transport) (body : List Byte) : Fields.Statement (.challenge t body) := Fields.of_none rfl
theorem Fields.vopRsqrt (u : PondId) : Fields.Statement (.vopRsqrt u) := Fields.of_none rfl
theorem Fields.ctxClose (via : Via) (l : LineId) (v : Word) : Fields.Statement (.ctxClose via l v) := Fields.of_none rfl
theorem Fields.vopExp (u : PondId) : Fields.Statement (.vopExp u) := Fields.of_none rfl
theorem Fields.runNow (v : Word) : Fields.Statement (.runNow v) := Fields.of_none rfl
theorem Fields.vopExp2 (u : PondId) : Fields.Statement (.vopExp2 u) := Fields.of_none rfl
theorem Fields.startInterface (l : LineId) : Fields.Statement (.startInterface l) := Fields.of_none rfl
theorem Fields.vopLog (u : PondId) : Fields.Statement (.vopLog u) := Fields.of_none rfl
theorem Fields.watchdog : Fields.Statement (.watchdog) := Fields.of_none rfl
theorem Fields.vopTanh (u : PondId) : Fields.Statement (.vopTanh u) := Fields.of_none rfl
theorem Fields.readUnique (agent : AgentId) (line : Nat) : Fields.Statement (.readUnique agent line) := Fields.of_line
theorem Fields.vopSigmoid (u : PondId) : Fields.Statement (.vopSigmoid u) := Fields.of_none rfl
theorem Fields.writeInline (l : LineId) (q : QueueId) : Fields.Statement (.writeInline l q) := Fields.of_none rfl
theorem Fields.vopSilu (u : PondId) : Fields.Statement (.vopSilu u) := Fields.of_none rfl
theorem Fields.flitReadReq (p : PortId) : Fields.Statement (.flitReadReq p) := Fields.of_none rfl
theorem Fields.vopGelu (u : PondId) : Fields.Statement (.vopGelu u) := Fields.of_none rfl
theorem Fields.getMeasurements (t : Transport) (body : List Byte) : Fields.Statement (.getMeasurements t body) :=
    Fields.of_none rfl
theorem Fields.vopExpsubrow (u : PondId) : Fields.Statement (.vopExpsubrow u) := Fields.of_none rfl
theorem Fields.ctxRekey (via : Via) (l : LineId) (v : Word) : Fields.Statement (.ctxRekey via l v) := Fields.of_none rfl
theorem Fields.vopCmplt (u : PondId) : Fields.Statement (.vopCmplt u) := Fields.of_none rfl
theorem Fields.offlineTest (v : Word) : Fields.Statement (.offlineTest v) := Fields.of_none rfl
theorem Fields.vopCmple (u : PondId) : Fields.Statement (.vopCmple u) := Fields.of_none rfl
theorem Fields.stopInterface (l : LineId) : Fields.Statement (.stopInterface l) := Fields.of_none rfl
theorem Fields.vopCmpeq (u : PondId) : Fields.Statement (.vopCmpeq u) := Fields.of_none rfl
theorem Fields.boot : Fields.Statement (.boot) := Fields.of_none rfl
theorem Fields.vopCmpltb (u : PondId) : Fields.Statement (.vopCmpltb u) := Fields.of_none rfl
theorem Fields.upgrade (agent : AgentId) (line : Nat) : Fields.Statement (.upgrade agent line) := Fields.of_line
theorem Fields.vopDiag (u : PondId) : Fields.Statement (.vopDiag u) := Fields.of_none rfl
theorem Fields.readInline (l : LineId) (q : QueueId) : Fields.Statement (.readInline l q) := Fields.of_none rfl
theorem Fields.vopCvti (u : PondId) : Fields.Statement (.vopCvti u) := Fields.of_none rfl
theorem Fields.flitReadData (p : PortId) : Fields.Statement (.flitReadData p) := Fields.of_none rfl
theorem Fields.vredSum (u : PondId) : Fields.Statement (.vredSum u) := Fields.of_none rfl
theorem Fields.keyExchange (t : Transport) (body : List Byte) : Fields.Statement (.keyExchange t body) :=
    Fields.of_none rfl
theorem Fields.fenceOpen (via : Via) (l : LineId) (v : Word) : Fields.Statement (.fenceOpen via l v) :=
    Fields.of_none rfl
theorem Fields.commitSvn (v : Word) : Fields.Statement (.commitSvn v) := Fields.of_none rfl
theorem Fields.ideIntegrityFail (l : LineId) : Fields.Statement (.ideIntegrityFail l) := Fields.of_none rfl
theorem Fields.stepTimeout : Fields.Statement (.stepTimeout) := Fields.of_none rfl
theorem Fields.vredProd (u : PondId) : Fields.Statement (.vredProd u) := Fields.of_none rfl
theorem Fields.grantMs (via : Via) (b : BasinId) (v : Word) : Fields.Statement (.grantMs via b v) := Fields.of_none rfl
theorem Fields.writeBack (agent : AgentId) (line : Nat) : Fields.Statement (.writeBack agent line) := Fields.of_line
theorem Fields.syncAdd (l : LineId) (q : QueueId) : Fields.Statement (.syncAdd l q) := Fields.of_none rfl
theorem Fields.flitAck (p : PortId) : Fields.Statement (.flitAck p) := Fields.of_none rfl
theorem Fields.finish (t : Transport) (body : List Byte) : Fields.Statement (.finish t body) := Fields.of_none rfl
theorem Fields.fenceClose (via : Via) (l : LineId) (v : Word) : Fields.Statement (.fenceClose via l v) :=
    Fields.of_none rfl
theorem Fields.ownerRequest (v : Word) : Fields.Statement (.ownerRequest v) := Fields.of_none rfl
theorem Fields.fenceClosed (l : LineId) : Fields.Statement (.fenceClosed l) := Fields.of_none rfl
theorem Fields.powerLoss : Fields.Statement (.powerLoss) := Fields.of_none rfl
theorem Fields.vredMax (u : PondId) : Fields.Statement (.vredMax u) := Fields.of_none rfl
theorem Fields.arm (via : Via) (b : BasinId) (v : Word) : Fields.Statement (.arm via b v) := Fields.of_none rfl
theorem Fields.maintWindowEnd (b : BasinId) : Fields.Statement (.maintWindowEnd b) := Fields.of_none rfl
theorem Fields.cleanEvict (agent : AgentId) (line : Nat) : Fields.Statement (.cleanEvict agent line) := Fields.of_line
theorem Fields.syncWait (l : LineId) (q : QueueId) : Fields.Statement (.syncWait l q) := Fields.of_none rfl
theorem Fields.counterAdd (p : PortId) : Fields.Statement (.counterAdd p) := Fields.of_none rfl
theorem Fields.heartbeat (t : Transport) (body : List Byte) : Fields.Statement (.heartbeat t body) := Fields.of_none rfl
theorem Fields.decSubmit (via : Via) (l : LineId) (v : Word) : Fields.Statement (.decSubmit via l v) :=
    Fields.of_none rfl
theorem Fields.pwrCapWrite (v : Word) : Fields.Statement (.pwrCapWrite v) := Fields.of_none rfl
theorem Fields.lineClearDone (l : LineId) : Fields.Statement (.lineClearDone l) := Fields.of_none rfl
theorem Fields.rideThrough : Fields.Statement (.rideThrough) := Fields.of_none rfl
theorem Fields.startRamp (g : SlotId) : Fields.Statement (.startRamp g) := Fields.of_none rfl
theorem Fields.vredMin (u : PondId) : Fields.Statement (.vredMin u) := Fields.of_none rfl
theorem Fields.pdLaunch (via : Via) (u : PondId) (v : Word) : Fields.Statement (.pdLaunch via u v) := Fields.of_none rfl
theorem Fields.cflAbort (via : Via) (b : BasinId) (v : Word) : Fields.Statement (.cflAbort via b v) :=
    Fields.of_none rfl
theorem Fields.layerStart (b : BasinId) : Fields.Statement (.layerStart b) := Fields.of_none rfl
theorem Fields.snpShared (agent : AgentId) (line : Nat) : Fields.Statement (.snpShared agent line) := Fields.of_line
theorem Fields.syncWaitSatisfied (l : LineId) (q : QueueId) : Fields.Statement (.syncWaitSatisfied l q) :=
    Fields.of_none rfl
theorem Fields.handshake (p : PortId) : Fields.Statement (.handshake p) := Fields.of_none rfl
theorem Fields.ctxCloseDone (l : LineId) (x : CtxId) : Fields.Statement (.ctxCloseDone l x) := Fields.of_none rfl
theorem Fields.recalStep (p : PortId) (dir : Dir) : Fields.Statement (.recalStep p dir) := Fields.of_none rfl
theorem Fields.keyUpdate (t : Transport) (body : List Byte) : Fields.Statement (.keyUpdate t body) := Fields.of_none rfl
theorem Fields.term (via : Via) (l : LineId) (v : Word) : Fields.Statement (.term via l v) := Fields.of_none rfl
theorem Fields.logNote (v : Word) : Fields.Statement (.logNote v) := Fields.of_none rfl
theorem Fields.sleepEntry (l : LineId) : Fields.Statement (.sleepEntry l) := Fields.of_none rfl
theorem Fields.rideThroughExpiry : Fields.Statement (.rideThroughExpiry) := Fields.of_none rfl
theorem Fields.stopRamp (g : SlotId) : Fields.Statement (.stopRamp g) := Fields.of_none rfl
theorem Fields.vredArgmax (u : PondId) : Fields.Statement (.vredArgmax u) := Fields.of_none rfl
theorem Fields.pdAbort (via : Via) (u : PondId) (v : Word) : Fields.Statement (.pdAbort via u v) := Fields.of_none rfl
theorem Fields.channelLinkLoss (mc : MemChanId) : Fields.Statement (.channelLinkLoss mc) := Fields.of_none rfl
theorem Fields.updSubmit (via : Via) (b : BasinId) (v : Word) : Fields.Statement (.updSubmit via b v) :=
    Fields.of_none rfl
theorem Fields.rowCommit (b : BasinId) : Fields.Statement (.rowCommit b) := Fields.of_none rfl
theorem Fields.snpInvalidate (agent : AgentId) (line : Nat) : Fields.Statement (.snpInvalidate agent line) :=
    Fields.of_line
theorem Fields.syncWaitTimeout (l : LineId) (q : QueueId) : Fields.Statement (.syncWaitTimeout l q) :=
    Fields.of_none rfl
theorem Fields.flitClose (p : PortId) : Fields.Statement (.flitClose p) := Fields.of_none rfl
theorem Fields.rekeyDue (l : LineId) (x : CtxId) : Fields.Statement (.rekeyDue l x) := Fields.of_none rfl
theorem Fields.mirrorCompareDone (p : PortId) (dir : Dir) : Fields.Statement (.mirrorCompareDone p dir) :=
    Fields.of_none rfl
theorem Fields.endSession (t : Transport) (body : List Byte) : Fields.Statement (.endSession t body) :=
    Fields.of_none rfl
theorem Fields.clear (via : Via) (l : LineId) (v : Word) : Fields.Statement (.clear via l v) := Fields.of_none rfl
theorem Fields.logWall (v : Word) : Fields.Statement (.logWall v) := Fields.of_none rfl
theorem Fields.wake (l : LineId) : Fields.Statement (.wake l) := Fields.of_none rfl
theorem Fields.rideThroughEnd : Fields.Statement (.rideThroughEnd) := Fields.of_none rfl
theorem Fields.rampStageEnd (g : SlotId) : Fields.Statement (.rampStageEnd g) := Fields.of_none rfl
theorem Fields.vredArgmin (u : PondId) : Fields.Statement (.vredArgmin u) := Fields.of_none rfl
theorem Fields.holdLaunch (via : Via) (u : PondId) (v : Word) : Fields.Statement (.holdLaunch via u v) :=
    Fields.of_none rfl
theorem Fields.liveCheck (mc : MemChanId) : Fields.Statement (.liveCheck mc) := Fields.of_none rfl
theorem Fields.updAbort (via : Via) (b : BasinId) (v : Word) : Fields.Statement (.updAbort via b v) :=
    Fields.of_none rfl
theorem Fields.layerComplete (b : BasinId) : Fields.Statement (.layerComplete b) := Fields.of_none rfl
theorem Fields.xeChSubmit (via : Via) (c : ChanId) (v : Word) : Fields.Statement (.xeChSubmit via c v) :=
    Fields.of_none rfl
theorem Fields.snpReadNoAlloc (agent : AgentId) (line : Nat) : Fields.Statement (.snpReadNoAlloc agent line) :=
    Fields.of_line
theorem Fields.syncSet (l : LineId) (q : QueueId) : Fields.Statement (.syncSet l q) := Fields.of_none rfl
theorem Fields.portTrain (p : PortId) : Fields.Statement (.portTrain p) := Fields.of_none rfl
theorem Fields.epochGraceEnd (l : LineId) (x : CtxId) : Fields.Statement (.epochGraceEnd l x) := Fields.of_none rfl
theorem Fields.laneAtReached (p : PortId) (dir : Dir) : Fields.Statement (.laneAtReached p dir) := Fields.of_none rfl
theorem Fields.calNow (via : Via) (p : PortId) (v : Word) : Fields.Statement (.calNow via p v) := Fields.of_none rfl
theorem Fields.laneMirror (p : PortId) (dir : Dir) (lane : Fin 9) : Fields.Statement (.laneMirror p dir lane) :=
    Fields.of_none rfl
theorem Fields.zeroingDone (b : BasinId) (e : EntryId) : Fields.Statement (.zeroingDone b e) := Fields.of_none rfl
theorem Fields.chunkSend (t : Transport) (body : List Byte) : Fields.Statement (.chunkSend t body) := Fields.of_none rfl
theorem Fields.entdaa (addr : Fin 128) : Fields.Statement (.entdaa addr) := Fields.of_none rfl
theorem Fields.enec (mask : Byte) : Fields.Statement (.enec mask) := Fields.of_none rfl
theorem Fields.setmwl (len : Nat) : Fields.Statement (.setmwl len) := Fields.of_none rfl
theorem Fields.setEventReceiver (binding : Fin 2) (body : List Byte) : Fields.Statement (.setEventReceiver binding body) :=
    Fields.of_none rfl
theorem Fields.wakeTolWrite (via : Via) (l : LineId) (v : Word) : Fields.Statement (.wakeTolWrite via l v) :=
    Fields.of_none rfl
theorem Fields.hubReset (v : Word) : Fields.Statement (.hubReset v) := Fields.of_none rfl
theorem Fields.sleepExitDone (l : LineId) : Fields.Statement (.sleepExitDone l) := Fields.of_none rfl
theorem Fields.ttImageReadDone (readOk : Bool) (sigOk : Bool) : Fields.Statement (.ttImageReadDone readOk sigOk) :=
    Fields.of_none rfl
theorem Fields.crystalEdge : Fields.Statement (.crystalEdge) := Fields.of_none rfl
theorem Fields.ttPersistDone (ok : Bool) : Fields.Statement (.ttPersistDone ok) := Fields.of_none rfl
theorem Fields.gridIdle (g : SlotId) : Fields.Statement (.gridIdle g) := Fields.of_none rfl
theorem Fields.holdNew (via : Via) (g : SlotId) (v : Word) : Fields.Statement (.holdNew via g v) := Fields.of_none rfl
theorem Fields.vredSumsq (u : PondId) : Fields.Statement (.vredSumsq u) := Fields.of_none rfl
theorem Fields.flushQueue (via : Via) (u : PondId) (v : Word) : Fields.Statement (.flushQueue via u v) :=
    Fields.of_none rfl
theorem Fields.quietRetrain (mc : MemChanId) : Fields.Statement (.quietRetrain mc) := Fields.of_none rfl
theorem Fields.channelRetrainDone (mc : MemChanId) (ok : Bool) : Fields.Statement (.channelRetrainDone mc ok) :=
    Fields.of_none rfl
theorem Fields.scrubPassEnd (b : BasinId) (rsv : Bool) : Fields.Statement (.scrubPassEnd b rsv) := Fields.of_none rfl
theorem Fields.updHold (via : Via) (b : BasinId) (v : Word) : Fields.Statement (.updHold via b v) := Fields.of_none rfl
theorem Fields.selfRefreshExit (b : BasinId) : Fields.Statement (.selfRefreshExit b) := Fields.of_none rfl
theorem Fields.xeChAbort (via : Via) (c : ChanId) (v : Word) : Fields.Statement (.xeChAbort via c v) :=
    Fields.of_none rfl
theorem Fields.transferStart (c : ChanId) : Fields.Statement (.transferStart c) := Fields.of_none rfl
theorem Fields.snoopResponse (agent : AgentId) (line : Nat) : Fields.Statement (.snoopResponse agent line) :=
    Fields.of_line
theorem Fields.agentTimeout (l : LineId) (agent : AgentId) : Fields.Statement (.agentTimeout l agent) :=
    Fields.of_none rfl
theorem Fields.sqDoorbell (via : Via) (l : LineId) (q : QueueId) (v : Word) : Fields.Statement (.sqDoorbell via l q v) :=
    Fields.of_none rfl
theorem Fields.mirror (l : LineId) (q : QueueId) : Fields.Statement (.mirror l q) := Fields.of_none rfl
theorem Fields.portDark (p : PortId) : Fields.Statement (.portDark p) := Fields.of_none rfl
theorem Fields.pathWaitExpiry (l : LineId) (x : CtxId) : Fields.Statement (.pathWaitExpiry l x) := Fields.of_none rfl
theorem Fields.recalStepDone (p : PortId) (dir : Dir) : Fields.Statement (.recalStepDone p dir) := Fields.of_none rfl
theorem Fields.portRetrain (via : Via) (p : PortId) (v : Word) : Fields.Statement (.portRetrain via p v) :=
    Fields.of_none rfl
theorem Fields.laneFail (p : PortId) (dir : Dir) (lane : Fin 9) : Fields.Statement (.laneFail p dir lane) :=
    Fields.of_none rfl
theorem Fields.seedRead (b : BasinId) (e : EntryId) : Fields.Statement (.seedRead b e) := Fields.of_none rfl
theorem Fields.decodeStart (l : LineId) (unit : Fin 2) : Fields.Statement (.decodeStart l unit) := Fields.of_none rfl
theorem Fields.spurRecalStep (sp : SpurId) (dir : Dir) : Fields.Statement (.spurRecalStep sp dir) := Fields.of_none rfl
theorem Fields.spurRetrain (sp : SpurId) (v : Word) : Fields.Statement (.spurRetrain sp v) := Fields.of_none rfl
theorem Fields.testDue (kind : UnitKind) (unit : Nat) : Fields.Statement (.testDue kind unit) := Fields.of_none rfl
theorem Fields.surveyOpDone (readOk : Bool) (sigOk : Bool) (flashOk : Bool) : Fields.Statement (.surveyOpDone readOk sigOk flashOk) :=
    Fields.of_none rfl
theorem Fields.chunkGet (t : Transport) (body : List Byte) : Fields.Statement (.chunkGet t body) := Fields.of_none rfl
theorem Fields.setdasa (addr : Fin 128) : Fields.Statement (.setdasa addr) := Fields.of_none rfl
theorem Fields.disec (mask : Byte) : Fields.Statement (.disec mask) := Fields.of_none rfl
theorem Fields.setmrl (len : Nat) : Fields.Statement (.setmrl len) := Fields.of_none rfl
theorem Fields.pollForPlatformEventMessage (binding : Fin 2) (body : List Byte) : Fields.Statement (.pollForPlatformEventMessage binding body) :=
    Fields.of_none rfl
theorem Fields.registerWrite (via : Via) (fn : RegFn) (off : Nat) (acc : Access) (v : Word) : Fields.Statement (.registerWrite via fn off acc v) :=
    Fields.of_none rfl
theorem Fields.telCtlWrite (via : Via) (l : LineId) (v : Word) : Fields.Statement (.telCtlWrite via l v) :=
    Fields.of_none rfl
theorem Fields.recoveryWrite (v : Word) : Fields.Statement (.recoveryWrite v) := Fields.of_none rfl
theorem Fields.telemetrySample (l : LineId) : Fields.Statement (.telemetrySample l) := Fields.of_none rfl
theorem Fields.ownerRequestDone (readOk : Bool) (sigOk : Bool) : Fields.Statement (.ownerRequestDone readOk sigOk) :=
    Fields.of_none rfl
theorem Fields.signalBoxFailover : Fields.Statement (.signalBoxFailover) := Fields.of_none rfl
theorem Fields.applyComplete (ok : Bool) : Fields.Statement (.applyComplete ok) := Fields.of_none rfl
theorem Fields.slotClaim (u : PondId) (grids : Fin 16) : Fields.Statement (.slotClaim u grids) := Fields.of_none rfl
theorem Fields.slotFull (u : PondId) (g : Fin 4) (shadow : ShadowResult) : Fields.Statement (.slotFull u g shadow) :=
    Fields.of_none rfl
theorem Fields.tileBoundaryTakeOut (g : SlotId) : Fields.Statement (.tileBoundaryTakeOut g) := Fields.of_none rfl
theorem Fields.testReq (via : Via) (g : SlotId) (v : Word) : Fields.Statement (.testReq via g v) := Fields.of_none rfl
theorem Fields.vredAbsmax (u : PondId) : Fields.Statement (.vredAbsmax u) := Fields.of_none rfl
theorem Fields.imemLoad (via : Via) (u : PondId) (v : Word) : Fields.Statement (.imemLoad via u v) := Fields.of_none rfl
theorem Fields.spareCopyDone (b : BasinId) (bank : Nat) : Fields.Statement (.spareCopyDone b bank) := Fields.of_none rfl
theorem Fields.calibrationAbandon (mc : MemChanId) : Fields.Statement (.calibrationAbandon mc) := Fields.of_none rfl
theorem Fields.liveCheckDone (mc : MemChanId) (pass : Bool) : Fields.Statement (.liveCheckDone mc pass) :=
    Fields.of_none rfl
theorem Fields.scrubPass (b : BasinId) (rsv : Bool) (found : List EccEvent) : Fields.Statement (.scrubPass b rsv found) :=
    Fields.of_events
theorem Fields.loadClassChange (b : BasinId) (full : Bool) : Fields.Statement (.loadClassChange b full) :=
    Fields.of_none rfl
theorem Fields.hardRepair (mc : MemChanId) (row : Nat) (ok : Bool) : Fields.Statement (.hardRepair mc row ok) :=
    Fields.of_none rfl
theorem Fields.refresh (b : BasinId) (pkg : Fin 4) (rate : Nat) : Fields.Statement (.refresh b pkg rate) :=
    Fields.of_none rfl
theorem Fields.updFlush (via : Via) (b : BasinId) (v : Word) : Fields.Statement (.updFlush via b v) :=
    Fields.of_none rfl
theorem Fields.selfRefreshReentry (b : BasinId) : Fields.Statement (.selfRefreshReentry b) := Fields.of_none rfl
theorem Fields.xeChHold (via : Via) (c : ChanId) (v : Word) : Fields.Statement (.xeChHold via c v) := Fields.of_none rfl
theorem Fields.deliveryCommit (c : ChanId) : Fields.Statement (.deliveryCommit c) := Fields.of_none rfl
theorem Fields.wbAck (agent : AgentId) (line : Nat) : Fields.Statement (.wbAck agent line) := Fields.of_line
theorem Fields.cachelessAccess (l : LineId) (addr : Nat) (acc : MemOp) (ecc : List EccEvent) : Fields.Statement (.cachelessAccess l addr acc ecc) :=
    by
  intro h b hb
  simp only [wellFormed, Bool.and_eq_true] at h
  rcases List.mem_cons.mp hb with rfl | hb
  · exact of_decide_eq_true h.1.1
  · exact Fields.of_events h.2 b hb
theorem Fields.protocolError (l : LineId) (agent : AgentId) : Fields.Statement (.protocolError l agent) :=
    Fields.of_none rfl
theorem Fields.linkUp (speed : Nat) (width : Nat) (cxl : Bool) (big : Nat) (hdm : List (Nat × Nat × Nat)) : Fields.Statement (.linkUp speed width cxl big hdm) :=
    Fields.of_none rfl
theorem Fields.linkRetrain (speed : Nat) (width : Nat) : Fields.Statement (.linkRetrain speed width) :=
    Fields.of_none rfl
theorem Fields.bar2Access (fn : HostFn) (off : Nat) (acc : MemOp) (ecc : List EccEvent) : Fields.Statement (.bar2Access fn off acc ecc) :=
    by
  intro h
  simp only [wellFormed, Bool.and_eq_true] at h
  exact Fields.of_events h.2
theorem Fields.cxlMemAccess (addr : Nat) (op : CxlOp) : Fields.Statement (.cxlMemAccess addr op) := Fields.of_none rfl
theorem Fields.cqHeadDoorbell (via : Via) (l : LineId) (q : QueueId) (v : Word) : Fields.Statement (.cqHeadDoorbell via l q v) :=
    Fields.of_none rfl
theorem Fields.xlatFence (l : LineId) (q : QueueId) : Fields.Statement (.xlatFence l q) := Fields.of_none rfl
theorem Fields.ideKm (stream : Fin 10) (request : IdeRequest) : Fields.Statement (.ideKm stream request) :=
    Fields.of_none rfl
theorem Fields.codewordReceive (p : PortId) (cw : Codeword) : Fields.Statement (.codewordReceive p cw) :=
    Fields.of_none rfl
theorem Fields.railNak (p : PortId) (from_ : Nat) : Fields.Statement (.railNak p from_) := Fields.of_none rfl
theorem Fields.pathLost (p : PortId) : Fields.Statement (.pathLost p) := Fields.of_none rfl
theorem Fields.portTrainDone (p : PortId) (res : TrainResult) : Fields.Statement (.portTrainDone p res) :=
    Fields.of_none rfl
theorem Fields.ackTimeout (l : LineId) (x : CtxId) : Fields.Statement (.ackTimeout l x) := Fields.of_none rfl
theorem Fields.laneHalf (p : PortId) (dir : Dir) : Fields.Statement (.laneHalf p dir) := Fields.of_none rfl
theorem Fields.quiesce (via : Via) (p : PortId) (v : Word) : Fields.Statement (.quiesce via p v) := Fields.of_none rfl
theorem Fields.laneRetire (p : PortId) (dir : Dir) (lane : Fin 9) : Fields.Statement (.laneRetire p dir lane) :=
    Fields.of_none rfl
theorem Fields.laneSwitch (p : PortId) (dir : Dir) (lane : Fin 9) (at_ : Nat) : Fields.Statement (.laneSwitch p dir lane at_) :=
    Fields.of_none rfl
theorem Fields.finishing (b : BasinId) (e : EntryId) : Fields.Statement (.finishing b e) := Fields.of_none rfl
theorem Fields.coreMemoryAccess (h : HartId) (acc : CoreAccess) : Fields.Statement (.coreMemoryAccess h acc) :=
    Fields.of_none rfl
theorem Fields.irqRouteWrite (via : Via) (l : LineId) (src : Fin 512) (v : Word) : Fields.Statement (.irqRouteWrite via l src v) :=
    Fields.of_none rfl
theorem Fields.decodeComplete (l : LineId) (unit : Fin 2) : Fields.Statement (.decodeComplete l unit) :=
    Fields.of_none rfl
theorem Fields.spurFlitReceive (sp : SpurId) (dir : Dir) (flit : SpurFlit) : Fields.Statement (.spurFlitReceive sp dir flit) :=
    Fields.of_none rfl
theorem Fields.spurNak (sp : SpurId) (dir : Dir) (from_ : Nat) : Fields.Statement (.spurNak sp dir from_) :=
    Fields.of_none rfl
theorem Fields.spurLockLoss (sp : SpurId) : Fields.Statement (.spurLockLoss sp) := Fields.of_none rfl
theorem Fields.spurRetrainDone (sp : SpurId) (ok : Bool) (lanes : Nat × Nat) : Fields.Statement (.spurRetrainDone sp ok lanes) :=
    Fields.of_none rfl
theorem Fields.spurLaneFail (sp : SpurId) (dir : Dir) (lane : Fin 34) : Fields.Statement (.spurLaneFail sp dir lane) :=
    Fields.of_none rfl
theorem Fields.spurRecalStepDone (sp : SpurId) (dir : Dir) : Fields.Statement (.spurRecalStepDone sp dir) :=
    Fields.of_none rfl
theorem Fields.spurCalNow (sp : SpurId) (v : Word) : Fields.Statement (.spurCalNow sp v) := Fields.of_none rfl
theorem Fields.testBegin (kind : UnitKind) (unit : Nat) : Fields.Statement (.testBegin kind unit) := Fields.of_none rfl
theorem Fields.testComplete (kind : UnitKind) (unit : Nat) (res : TestResult) : Fields.Statement (.testComplete kind unit res) :=
    Fields.of_none rfl
theorem Fields.coreMigration (b : BasinId) (core : Fin 16) (res : MigrateResult) : Fields.Statement (.coreMigration b core res) :=
    Fields.of_none rfl
theorem Fields.recoveryWriteDone (readOk : Bool) (sigOk : Bool) (flashOk : Bool) : Fields.Statement (.recoveryWriteDone readOk sigOk flashOk) :=
    Fields.of_none rfl
theorem Fields.vendorDefinedRequest (t : Transport) (body : List Byte) : Fields.Statement (.vendorDefinedRequest t body) :=
    Fields.of_none rfl
theorem Fields.tenantValueUpdate (draws : List Nat) : Fields.Statement (.tenantValueUpdate draws) := Fields.of_none rfl
theorem Fields.powerSample (readings : List (Nat × Nat × Nat)) : Fields.Statement (.powerSample readings) :=
    Fields.of_none rfl
theorem Fields.vfRevalidate (b : BasinId) (core : Bool) (pass : Bool) : Fields.Statement (.vfRevalidate b core pass) :=
    Fields.of_none rfl
theorem Fields.setnewda (addr : Fin 128) : Fields.Statement (.setnewda addr) := Fields.of_none rfl
theorem Fields.rstact (action : Byte) : Fields.Statement (.rstact action) := Fields.of_none rfl
theorem Fields.thermalTrip (die : Nat) : Fields.Statement (.thermalTrip die) := Fields.of_none rfl
theorem Fields.smbusArp (cmd : ArpCmd) : Fields.Statement (.smbusArp cmd) := Fields.of_none rfl
theorem Fields.setEndpointId (binding : Fin 2) (eid : Byte) : Fields.Statement (.setEndpointId binding eid) :=
    Fields.of_none rfl
theorem Fields.logRead (binding : Fin 2) (body : List Byte) : Fields.Statement (.logRead binding body) :=
    Fields.of_none rfl
theorem Fields.firmwareUpdateComponent (binding : Fin 2) (comp : Nat) (image : List Byte) (sigOk : Bool) : Fields.Statement (.firmwareUpdateComponent binding comp image sigOk) :=
    Fields.of_none rfl
theorem Fields.activateFirmware (binding : Fin 2) : Fields.Statement (.activateFirmware binding) := Fields.of_none rfl
theorem Fields.sensorRefresh (readings : List (Nat × Int)) : Fields.Statement (.sensorRefresh readings) :=
    Fields.of_none rfl
theorem Fields.bootStepDone (res : BootResult) : Fields.Statement (.bootStepDone res) := Fields.of_none rfl

end Sys2Proof.Laws
end

