-- ==== Sys2Proof/Laws/Pond.lean ====
section
/-!
SUPPORT. The engines of a pond with nothing to do, and what one instruction then leaves.
-/
namespace Sys2Proof.Laws

open Sys2Proof.Machine Sys2Proof.Safety

theorem fillLoads_of_empty {p : Pond} (h : EnginesEmpty p) : p.fillLoads = p := by
  obtain ⟨ha, hb, hg, _, _, _, _⟩ := h
  cases p
  simp only [Pond.fillLoads] at *
  subst ha hb hg
  rfl

theorem turn_of_empty {s : State} {u q : Nat} (h : EnginesEmpty (s.pond u)) : s.turn u q = none := by
  simp [State.turn, Pond.nextMma, Pond.gridOps, h.gridQ]

theorem startable_of_empty {s : State} {u q : Nat} (h : EnginesEmpty (s.pond u)) : s.startable u q = none := by
  simp [State.startable, turn_of_empty h]

/-- Nothing to fill or to preload. -/
theorem fill_of_empty {s : State} {u : Nat} (h : EnginesEmpty (s.pond u)) : s.fill u = s := by
  simp [State.fill, State.preloads, fillLoads_of_empty h, turn_of_empty h]

/-- No load has met a fault. -/
theorem detect_of_empty {s : State} {u : Nat} (h : EnginesEmpty (s.pond u)) : s.detect u = s := by
  simp [State.detect, Pond.faulty, Pond.mmas, h.feedA, h.feedB, h.gridQ]

/-- No grid starts. -/
theorem runOn_of_empty {s : State} {u : Nat} (h : EnginesEmpty (s.pond u)) : s.runOn u = s := by
  have (f : Nat → MmaOp → State → State) (l : List Nat) :
      s.each l (fun s q => match s.startable u q with | some m => f q m s | none => s) = s := by
    induction l with
    | nil => rfl
    | cons q l ih =>
      simp only [State.each, List.foldl_cons, startable_of_empty h] at *
      exact ih
  exact this (fun q m s => if (mmaGrids m q).all fun k => s.phaseOf u k != .idle then
    if s.afterDry u m q then s.bump.startMma u q m fun _ => .rampUp 0 else s.bump.startMma u q m GridPhase.resume else s) _

/-- A pond whose engines have nothing to do: a round changes nothing. -/
theorem engineRound_of_empty {s : State} {u : Nat} (h : EnginesEmpty (s.pond u)) (hw : (s.pond u).wait ≠ .drain) :
    s.engineRound u = (false, s) := by
  unfold State.engineRound
  rw [fill_of_empty h, detect_of_empty h, runOn_of_empty h]
  simp [State.runVec, State.runStore, State.runXstart, State.runPosted, State.runDrain, h.vecQ, h.storeQ, h.xsQ, h.posted, hw]

/-- A round in which nothing goes on is the last. -/
theorem engineRounds_of_still {s t : State} {u : Nat} (k : Nat) (h : s.engineRound u = (false, t)) :
    State.engineRounds u (k + 1) s = t := by
  simp [State.engineRounds, h]

/-- The engines of a running pond with nothing to do change nothing. -/
theorem pump_of_empty {s : State} {u : Nat} (h : EnginesEmpty (s.pond u)) (hw : (s.pond u).wait ≠ .drain)
    (hm : (s.pond u).mode = .run) : s.pump u = s := by
  unfold State.pump
  split_ifs with hc
  · rw [engineRounds_of_still 63 (engineRound_of_empty h hw)]
    simp [State.tryFinish, hm]
  · rfl

end Sys2Proof.Laws
end

