-- ==== Sys2Proof/Laws/Words.lean ====
section
/-!
SUPPORT. What reading a field of a word gives after another field, or the same one, has been set.
-/
namespace Sys2Proof.Laws

open Sys2Proof

/-- Bits by division: the form that arithmetic uses. -/
theorem bits_eq (n lo len : Nat) : bits n lo len = n / 2 ^ lo % 2 ^ len := by
  simp [bits, Nat.shiftRight_eq_div_pow]

/-- A number from its bits above, in and below a field. -/
theorem split_bits (n lo len : Nat) :
    n = n / 2 ^ (lo + len) * 2 ^ (lo + len) + bits n lo len * 2 ^ lo + n % 2 ^ lo := by
  rw [bits_eq, Nat.pow_add]
  have h1 := Nat.div_add_mod n (2 ^ lo)
  have h2 := Nat.div_add_mod (n / 2 ^ lo) (2 ^ len)
  rw [Nat.div_div_eq_div_mul] at h2
  generalize n / (2 ^ lo * 2 ^ len) = q at *
  generalize n / 2 ^ lo % 2 ^ len = m at *
  generalize n / 2 ^ lo = k at *
  generalize n % 2 ^ lo = r at *
  rw [← h1, ← h2]
  ring

theorem setBits_eq (n lo len v : Nat) :
    setBits n lo len v = n / 2 ^ (lo + len) * 2 ^ (lo + len) + v % 2 ^ len * 2 ^ lo + n % 2 ^ lo := by
  have h := split_bits n lo len
  unfold setBits
  omega

/-- Below, in and above the field that was set. -/
theorem testBit_setBits (n lo len v i : Nat) :
    (setBits n lo len v).testBit i = if i < lo then n.testBit i else if i < lo + len then v.testBit (i - lo) else n.testBit i := by
  have hlt : v % 2 ^ len < 2 ^ len := Nat.mod_lt _ (by positivity)
  have hlo : n % 2 ^ lo < 2 ^ lo := Nat.mod_lt _ (by positivity)
  have e : setBits n lo len v = 2 ^ lo * (2 ^ len * (n / 2 ^ (lo + len)) + v % 2 ^ len) + n % 2 ^ lo := by
    rw [setBits_eq, Nat.pow_add]; ring
  rw [e, Nat.testBit_two_pow_mul_add _ hlo]
  by_cases h1 : i < lo
  · simp [h1, Nat.testBit_mod_two_pow]
  · simp only [h1, if_false]
    rw [Nat.testBit_two_pow_mul_add _ hlt]
    by_cases h2 : i < lo + len
    · have : i - lo < len := by omega
      simp [h2, this, Nat.testBit_mod_two_pow]
    · have : ¬ i - lo < len := by omega
      simp only [h2, this, if_false, Nat.testBit_div_two_pow]
      congr 1
      omega

theorem testBit_bits (n lo len i : Nat) : (bits n lo len).testBit i = (decide (i < len) && n.testBit (lo + i)) := by
  rw [bits_eq, Nat.testBit_mod_two_pow, Nat.testBit_div_two_pow, Nat.add_comm]

/-- The field that was set holds the new value. -/
theorem bits_setBits_self (n lo len v : Nat) : bits (setBits n lo len v) lo len = v % 2 ^ len := by
  apply Nat.eq_of_testBit_eq
  intro i
  rw [testBit_bits, testBit_setBits, Nat.testBit_mod_two_pow]
  by_cases h : i < len
  · simp [h]
  · simp [h]

/-- A field that does not meet the one that was set keeps its value. -/
theorem bits_setBits_ne (n lo len v l k : Nat) (h : l + k ≤ lo ∨ lo + len ≤ l) :
    bits (setBits n lo len v) l k = bits n l k := by
  apply Nat.eq_of_testBit_eq
  intro i
  rw [testBit_bits, testBit_bits, testBit_setBits]
  by_cases hi : i < k
  · rcases h with h | h
    · have : l + i < lo := by omega
      simp [this]
    · have h1 : ¬ l + i < lo := by omega
      have h2 : ¬ l + i < lo + len := by omega
      simp [h1, h2]
  · simp [hi]

theorem setBits_lt {n lo len v : Nat} (hn : n < 2 ^ 64) (h : lo + len ≤ 64) : setBits n lo len v < 2 ^ 64 := by
  apply Nat.lt_pow_two_of_testBit
  intro i hi
  rw [testBit_setBits]
  have h1 : ¬ i < lo := by omega
  have h2 : ¬ i < lo + len := by omega
  simp [h1, h2, Nat.testBit_lt_two_pow (Nat.lt_of_lt_of_le hn (Nat.pow_le_pow_right (by omega) hi))]

/-- The word's number after a field was set. -/
theorem toNat_withField (w : Word) {lo len : Nat} (v : Nat) (h : lo + len ≤ 64) :
    (w.withField lo len v).toNat = setBits w.toNat lo len v := by
  unfold Word.withField
  rw [BitVec.toNat_ofNat, Nat.mod_eq_of_lt (setBits_lt w.isLt h)]

theorem field_withField_self (w : Word) {lo len : Nat} (v : Nat) (h : lo + len ≤ 64) :
    (w.withField lo len v).field lo len = v % 2 ^ len := by
  unfold Word.field
  rw [toNat_withField w v h, bits_setBits_self]

theorem field_withField_ne (w : Word) {lo len : Nat} (v : Nat) (h : lo + len ≤ 64) {l k : Nat}
    (hd : l + k ≤ lo ∨ lo + len ≤ l) : (w.withField lo len v).field l k = w.field l k := by
  unfold Word.field
  rw [toNat_withField w v h, bits_setBits_ne _ _ _ _ _ _ hd]

theorem flag_withField_ne (w : Word) {lo len : Nat} (v : Nat) (h : lo + len ≤ 64) {i : Nat}
    (hd : i < lo ∨ lo + len ≤ i) : (w.withField lo len v).flag i = w.flag i := by
  unfold Word.flag
  rw [toNat_withField w v h, testBit_setBits]
  rcases hd with hd | hd
  · simp [hd]
  · have h1 : ¬ i < lo := by omega
    have h2 : ¬ i < lo + len := by omega
    simp [h1, h2]

theorem flag_withField_one (w : Word) {i : Nat} (b : Bool) (h : i < 64) : (w.withField i 1 (ofBool b)).flag i = b := by
  unfold Word.flag
  rw [toNat_withField w _ (by omega), testBit_setBits]
  cases b <;> simp [ofBool]

end Sys2Proof.Laws
end

