-- ==== Sys2Proof/Tests/Base.lean ====
section
/-!
SUPPORT. Small states that the tests start from.
-/
namespace Sys2Proof.Tests

set_option Elab.async false

open Machine Safety

/-- Every basin is a Line of its own, in a given state, after boot, with the host attached and every interface claimed. -/
def linesIn (st : LnState) : State :=
  { State.reset with
    leaders := [(0, 0), (1, 1), (2, 2), (3, 3), (4, 4), (5, 5), (6, 6), (7, 7)]
    lines := [(0, { st := st }), (1, { st := st }), (2, { st := st }), (3, { st := st }), (4, { st := st }), (5, { st := st }), (6, { st := st }), (7, { st := st })]
    host := { attached := true, speed := 6, width := 16
              claimed := [(0, true), (1, true), (2, true), (3, true), (4, true), (5, true), (6, true), (7, true)] }
    boot := { stage := .done } }

def up : State := linesIn .running

/-- Line 0 with address space 0 mapped one to one from DPA 0, its tables at 0x1000 and 0x2000. -/
def mapped : State :=
  { up with
    regs := [(xlKey 0 0, 0x8000000000001000)]
    mem := [(0x1000, 2), (0x1007, 0x80), (0x1008, 2), (0x2000, 0xD7)] }

/-- A pond that runs the program `w` from index 0. -/
def progOf (w : Word) : Pond := { mode := .run, imem := [(0, w)] }

/-- A state with pond 0 as given. -/
def withPond (s : State) (p : Pond) : State := { s with ponds := [(0, p)] }

/-- Memory with words written at an address. -/
def withWords (s : State) (a : Nat) (ws : List Word) : State := { s with mem := memPut s.mem a (wordBytes ws) }

/-- A codeword's message: the fields at their bits, and the CW_CRC they need (R338). -/
def messageOf (fields : List (Nat × Nat)) : Nat :=
  let m := fields.foldl (fun m f => m + f.2 * 2 ^ f.1) 0
  m + cwCrc m * 2 ^ 59

/-- A spur flit of zeros with the low control bits and the CRC they need (R430). -/
def spurFlitOf (control : Nat) : SpurFlit :=
  { payload := List.replicate 64 0
    control := BitVec.ofNat 64 (control + crc32c (List.replicate 64 0 ++ leBytes 4 control) * 2 ^ 32) }

/-! The premises that are structures, as conjunctions that are decided by evaluation. -/

theorem quiet_iff (s : State) (g : Nat) : Quiet s g
    ↔ s.txnOf g = none ∧ s.movingData g = none ∧ (s.coh.waits.any fun w => w.line == g) = false
      ∧ tblGet 0 s.errs g = 0 :=
  ⟨fun ⟨a, b, c, d⟩ => ⟨a, b, c, d⟩, fun ⟨a, b, c, d⟩ => ⟨a, b, c, d⟩⟩

theorem homesIdle_iff (s : State) : HomesIdle s
    ↔ s.coh.txns = [] ∧ s.coh.waits = [] ∧ s.coh.resps = [] ∧ s.coh.wbs = [] ∧ s.errs = [] :=
  ⟨fun ⟨a, b, c, d, e⟩ => ⟨a, b, c, d, e⟩, fun ⟨a, b, c, d, e⟩ => ⟨a, b, c, d, e⟩⟩

theorem writable_iff (s : State) (l a n : Nat) : Writable s l a n
    ↔ s.ownMem l a = true ∧ (0 < n ∧ a % 64 + n ≤ 64) ∧ s.onFailed a = none ∧ s.meetsOwned a n = false
      ∧ (s.line l).st ≠ .failed ∧ (s.granule (a / 64)).1.length = 64 ∧ Quiet s (a / 64) :=
  ⟨fun ⟨a, b, c, d, e, f, g⟩ => ⟨a, b, c, d, e, f, g⟩, fun ⟨a, b, c, d, e, f, g⟩ => ⟨a, b, c, d, e, f, g⟩⟩

theorem arrives_iff (s : State) (p : Nat) (f : Flit) : Arrives s p f
    ↔ (s.nextFlit p).map (·.1) = some f ∧ s.railLive (s.leaderOf (p / 4)) = true
      ∧ f.dstEp = s.endpoint (s.leaderOf (p / 4)) ∧ (s.ctx (ctxKey (s.leaderOf (p / 4)) f.dstCtx)).st = .open_
      ∧ f.tagOk = true ∧ f.epoch = (s.ctx (ctxKey (s.leaderOf (p / 4)) f.dstCtx)).epoch ∧ (f.last = true
      ∧ f.offset = 0)
      ∧ ((s.ctx (ctxKey (s.leaderOf (p / 4)) f.dstCtx)).committed.find? fun e => e.1 == f.delivery) = none
      ∧ ((s.ctx (ctxKey (s.leaderOf (p / 4)) f.dstCtx)).arriving.any fun a =>
        a.number == f.delivery && a.type == f.type) = false :=
  ⟨fun ⟨a, b, c, d, e, f, g, h, i⟩ => ⟨a, b, c, d, e, f, g, h, i⟩,
    fun ⟨a, b, c, d, e, f, g, h, i⟩ => ⟨a, b, c, d, e, f, g, h, i⟩⟩

theorem answerable_iff (s : State) (l q : Nat) (c : ACmd) : Answerable s l q c
    ↔ c.noCq = false ∧ c.done = false ∧ (s.queue (qKey l (s.queue (qKey l q)).cqid)).st ≠ .off
      ∧ s.cqFull l (s.queue (qKey l q)).cqid = false ∧ Writable s l (cqSlot s l q) 32
      ∧ (∀ p ∈ s.lineQueues l, ∀ d ∈ (s.queue (qKey l p)).running, d.done = false) :=
  ⟨fun ⟨a, b, c, d, e, f⟩ => ⟨a, b, c, d, e, f⟩, fun ⟨a, b, c, d, e, f⟩ => ⟨a, b, c, d, e, f⟩⟩

theorem dispatches_iff (s r : State) (l q : Nat) (c : ACmd) : Dispatches s r l q c
    ↔ s.nextCommand l q = some c ∧ s.clean.turnOf (8 + l) l (s.clean.queueWaits l) q = some r
      ∧ ((s.queue (qKey l q)).fetched = [c] ∧ (s.queue (qKey l q)).kept = []) ∧ c.status = 0
      ∧ s.jobEnded l c.job = false ∧ (c.w0.flag 13 = true → s.flag (lnKey l 0x300) 63 = false)
      ∧ (∀ d ∈ (s.queue (qKey l q)).running, d.seq ≠ c.seq) ∧ Answerable s l q c :=
  ⟨fun ⟨a, b, c, d, e, f, g, h⟩ => ⟨a, b, c, d, e, f, g, h⟩, fun ⟨a, b, c, d, e, f, g, h⟩ => ⟨a, b, c, d, e, f, g, h⟩⟩

theorem enginesEmpty_iff (p : Pond) : EnginesEmpty p
    ↔ p.feedA = [] ∧ p.feedB = [] ∧ p.gridQ = [] ∧ p.vecQ = [] ∧ p.storeQ = [] ∧ p.xsQ = [] ∧ p.posted = [] :=
  ⟨fun ⟨a, b, c, d, e, f, g⟩ => ⟨a, b, c, d, e, f, g⟩, fun ⟨a, b, c, d, e, f, g⟩ => ⟨a, b, c, d, e, f, g⟩⟩

theorem atInsn_iff (s : State) (u : Nat) (w : Word) : AtInsn s u w
    ↔ s.pondWorks u = true ∧ (s.pond u).mode = .run ∧ (s.pond u).wait = .none ∧ (s.pond u).insnAt (s.pond u).pc = w
      ∧ reservedSet w = false ∧ s.jobEnded (s.pondLine u) (s.pond u).cur.job = false :=
  ⟨fun ⟨a, b, c, d, e, f⟩ => ⟨a, b, c, d, e, f⟩, fun ⟨a, b, c, d, e, f⟩ => ⟨a, b, c, d, e, f⟩⟩

/-- `NothingQueued`, as a conjunction that is decided by evaluation. -/
theorem nothingQueued_iff (s : State) (l : Nat) :
    Safety.NothingQueued s l ↔ (∀ b ∈ s.members l, ∀ k < 8, (s.pond (b * 8 + k)).launches = [])
      ∧ (∀ b ∈ s.members l, s.layerQ b = []) ∧ ∀ q ∈ s.lineQueues l, (s.queue (qKey l q)).running = [] :=
  ⟨fun h => ⟨h.launches, h.layers, h.commands⟩, fun h => ⟨h.1, h.2.1, h.2.2⟩⟩

/-- Host memory with a survey pack of no records at 0x4000: 64 bytes of header, its digest, and a signature and certificate
of zeros (R465). -/
def packMem : List Host.Cell := memPut [] 0x4000
  [83, 86, 80, 75, 1, 0, 0, 0, 7, 0, 0, 0, 3, 0, 0, 0, 0, 0, 0, 0, 0, 0, 0, 0,
   0, 9, 0, 0, 0, 0, 0, 0, 0, 0, 0, 0, 0, 0, 0, 0, 0, 0, 0, 0, 0, 0, 0, 0,
   0, 0, 0, 0, 0, 0, 0, 0, 0, 0, 0, 0, 0, 0, 0, 0, 162, 243, 129, 61, 53, 41, 84, 170,
   202, 216, 231, 142, 238, 177, 241, 232, 113, 189, 191, 147, 132, 178, 193, 186, 101, 110, 75, 156, 64, 41, 28, 225,
   13, 93, 120, 151, 156, 209, 4, 50, 192, 232, 39, 48, 169, 80, 0, 66, 101, 216, 253, 36, 71, 29, 21, 127,
   76, 196, 214, 72, 61, 213, 104, 1]

/-- A survey LOAD of that pack runs. -/
def packState : State := { up with hostMem := packMem, survey := some { op := 0, addr := 0x4000, len := 3016, slot := 0 } }

/-- The pack at 0x4000. -/
def smallPack : List Byte := memBytes packState.hostMem 0x4000 3016

theorem smallPack_length : smallPack.length = 3016 := by simp [smallPack, memBytes]

theorem smallPack_format : packFormat smallPack = true := by
  have hn : packField smallPack 0x10 4 = 0 := by decide +kernel
  have hb : packBody smallPack = [] := by simp [packBody, hn]
  have hr : packRecords (3016 / 16) [] = some [] := by decide +kernel
  simp only [packFormat, smallPack_length, hn, hb, hr]
  decide +kernel

theorem packRead_of (s : State) (o : SurveyOp) (h : (true && s.host.attached
    && !((pieces o.addr o.len).any fun p => tblGet false s.hostPoison (p.1 / 64))) = true) :
    s.packRead o true = some (memBytes s.hostMem o.addr o.len) := if_pos h

theorem packState_read : packState.packRead { op := 0, addr := 0x4000, len := 3016, slot := 0 } true = some smallPack :=
  packRead_of packState { op := 0, addr := 0x4000, len := 3016, slot := 0 } (by decide +kernel)

/-- A result that holds slot 0, as a test that is decided by evaluation. -/
theorem isOk_eq {x : Except Nat Nat} (h : (x.toOption == some 0) = true) : x = .ok 0 := by
  cases x <;> simp_all [Except.toOption]

theorem packState_verdict : packState.packVerdict smallPack true = .ok 0 := by
  have hn : packField smallPack 0x10 4 = 0 := by decide +kernel
  have hd : shake256 64 (smallPack.take 64) = (smallPack.drop 64).take 64 := by decide +kernel
  simp only [State.packVerdict, smallPack_format, hn, Nat.add_zero, hd]
  exact isOk_eq (by decide +kernel)

end Sys2Proof.Tests
end

