-- ==== Sys2Proof/Tests/Slice0.lean ====
section
/-!
SUPPORT. Tests: the manual's worked examples, ill-formed commands, a few steps, and states that meet the premises of the
statements that Witness1 to Witness6 do not cover.
-/
namespace Sys2Proof.Tests

set_option Elab.async false

open Machine Safety

/-! Number formats: the worked examples of 03_number_formats.md. -/

/-- "Saturating conversions", steps 1 to 5. -/
theorem test_saturating_conversions :
    convertElem .e4m3 true false (ofInt 464) = ⟨0x7E, 0, 0⟩ ∧ convertElem .e4m3 true false (ofInt 470) = ⟨0x7E, 1, 0⟩
    ∧ convertElem .e4m3 true false (ofInt (-1000000)) = ⟨0xFE, 1, 0⟩
    ∧ convertElem .e4m3 true false (ofF32 0x7F800000) = ⟨0x7E, 1, 0⟩
    ∧ convertElem .bf16 true false (ofF32 0x7F7FFFFF) = ⟨0x7F7F, 1, 0⟩ := by decide +kernel

/-- "An MXFP4 block with one large element"; 0.2 and −0.1 are the FP32 values nearest to them. -/
theorem test_mxfp4_block :
    mxEncode .mx4 ([ofInt 96, ofF32 0x3F400000, ofF32 0x3E4CCCCD, ofF32 0xBDCCCCCD, ofInt (-90)] ++ List.replicate 27 (ofInt 0))
      = ⟨0x83, [7, 0, 0, 8, 15] ++ List.replicate 27 0, 0, 3⟩ := by decide +kernel

/-- The same block with +∞ for v1: scale 0xFC, and element 1 saturates to 6. -/
theorem test_mxfp4_infinity :
    let b := mxEncode .mx4 ([ofInt 96, .inf false, ofF32 0x3E4CCCCD, ofF32 0xBDCCCCCD, ofInt (-90)]
      ++ List.replicate 27 (ofInt 0))
    b.scale = 0xFC ∧ b.elems.take 2 = [0, 7] ∧ b.sat = 1 := by decide +kernel

/-- "A cell step that drops bits": 1,032.5 + 2^−16, and 0x4481_1000 at the exit. -/
theorem test_cell_step :
    let c := cellStep (ofInt 1024) [ofInt 10, .fin true 3 (-1), .fin false (2 ^ 8 + 2 ^ 7 + 2 + 1) (-24), .fin false 1 (-18)]
    c.eq (.fin false (1032 * 65536 + 32768 + 1) (-16)) = true ∧ (gridExit c).val = 0x44811000 := by decide +kernel

/-- "Double rounding at the exit": 1,028 + 2^−16 leaves as 0x4480_8000, and from there as BF16 0x4480. -/
theorem test_double_rounding :
    (gridExit (.fin false (1028 * 65536 + 1) (-16))).val = 0x44808000
    ∧ (convertElem .bf16 true true (ofF32 0x44808000)).val = 0x4480 := by decide +kernel

/-- "One block in two arrival orders" of 12_confluence.md: its addends at scale 0x80. -/
theorem test_confluence_addends :
    gridAddend (ofInt 1) 0x80 = { a := 0x2000000000000000 } ∧ gridAddend (.fin false 1 (-24)) 0x80 = { a := 0x2000000000 }
    ∧ gridAddend (.fin true 3 (-63)) 0x80 = { flush := 1 }
    ∧ gridAddend (ofInt 3) 0x80 = { a := 0x3FFFFFFFFFFFFFFF, sat := 1 }
    ∧ gridAddend (.fin true 1 (-2)) 0x80 = { a := -0x800000000000000 } := by decide +kernel

/-- The results of that example: 1 + 2^−23 and 2.25. -/
theorem test_confluence_results :
    gridResult fp32 0x2000004000000000 false 0x80 = ⟨0x3F800001, 0, 0⟩
    ∧ gridResult fp32 0x47FFFFFFFFFFFFFF false 0x80 = ⟨0x40100000, 0, 0⟩ := by decide +kernel

/-- The check value of CRC-32C, for the nine digits in ASCII. -/
theorem test_crc32c : crc32c [49, 50, 51, 52, 53, 54, 55, 56, 57] = 0xE3069283 := by decide +kernel

/-- SHAKE256 of the empty message begins as FIPS 202 gives it. -/
theorem test_shake256 : shake256 4 [] = [0x46, 0xB9, 0xDD, 0x2B] := by decide +kernel

/-! Fields of the encodings that 05_tile_programs.md works out, and the names of R19 and R410. -/

theorem test_encodings :
    (0x6188000480000000 : Word).field 56 8 = 0x61 ∧ (0x3030002000200000 : Word).field 56 8 = 0x30
    ∧ (0x3112582000200000 : Word).field 56 8 = 0x31 ∧ (0x39500045A0000000 : Word).field 52 4 = 5 := by decide

/-- R19: a Line of CD4 to CD7 is L4. -/
theorem test_line_four :
    let s : State := { State.reset with leaders := [(4, 4), (5, 4), (6, 4), (7, 4)] }
    s.members 4 = [4, 5, 6, 7] ∧ s.isLeader 4 = true ∧ s.isLeader 5 = false := by decide

/-! Reset and single steps. -/

theorem test_reset : State.reset.pending = [] ∧ State.reset.time = 0 ∧ State.reset.host.attached = false
    ∧ Memory.wf State.reset.mem = true := by decide

theorem test_idle : step State.reset = .next State.reset := rfl

/-- Power-on starts device time at 0, and a crystal edge adds 40 ns (R513). -/
theorem test_crystal_edge :
    (match step { up with time := 80, pending := [.crystalEdge] } with | .next t => t.time | _ => 0) = 120 := by
  decide +kernel

/-- A 1 in a reserved bit of a register is undefined (R556, R557). -/
theorem test_reserved_write :
    (match step { up with pending := [.registerWrite .host (.line 0) 0x200040 .whole 0x100000000] } with
      | .fault f => some f | _ => none) = some (.undefinedCase .reservedWrite .line) := by decide +kernel

/-! Ill-formed commands. -/

theorem test_ill_formed_registers :
    wellFormed (.registerWrite .pf0 .hub (2 ^ 28) .whole 0) = false
    ∧ wellFormed (.registerWrite .host (.line 0) (2 ^ 26) .whole 0) = false
    ∧ wellFormed (.registerWrite .host (.line 0) 0x200040 .whole 0) = true := by decide

theorem test_ill_formed_units :
    wellFormed (.slotClaim 0 3) = false ∧ wellFormed (.spareCopyDone 0 256) = false
    ∧ wellFormed (.refresh 0 0 33) = false ∧ wellFormed (.scrubPass 0 false [.lost (2 ^ 52)]) = false
    ∧ wellFormed (.testDue .grid 272) = false ∧ wellFormed (.testBegin .railLane 576) = false
    ∧ wellFormed (.testComplete .memChan 256 {}) = false ∧ wellFormed (.thermalTrip 27) = false := by decide

theorem test_ill_formed_lines :
    ∀ c ∈ [Instr.readShared 0 (2 ^ 46), .readUnique 0 (2 ^ 46), .upgrade 0 (2 ^ 46), .writeBack 0 (2 ^ 46),
      .cleanEvict 0 (2 ^ 46), .snpShared 0 (2 ^ 46), .snpInvalidate 0 (2 ^ 46), .snpReadNoAlloc 0 (2 ^ 46),
      .snoopResponse 0 (2 ^ 46), .wbAck 0 (2 ^ 46)], wellFormed c = false := by decide

theorem test_ill_formed_accesses :
    wellFormed (.cachelessAccess 0 (2 ^ 52) (.read 8) []) = false ∧ wellFormed (.cachelessAccess 0 60 (.read 8) []) = false
    ∧ wellFormed (.cachelessAccess 0 0 (.read 8) [.fixed (2 ^ 52)]) = false
    ∧ wellFormed (.bar2Access ⟨0, true⟩ (2 ^ 42) (.read 8) []) = false
    ∧ wellFormed (.bar2Access ⟨8, true⟩ 0 (.read 8) [.lost (2 ^ 52)]) = false
    ∧ wellFormed (.cxlMemAccess 0 (.mem (.read 0))) = false ∧ wellFormed (.coreMemoryAccess 0 (.load 0 3)) = false
    ∧ wellFormed (.coreMemoryAccess 0 (.lr (2 ^ 64))) = false ∧ wellFormed (.coreMemoryAccess 0 (.vload 0 0 33)) = false
    ∧ wellFormed (.coreMemoryAccess 0 (.vfredusum false 4 1 false 0 0 0)) = false := by decide

theorem test_ill_formed_links :
    wellFormed (.linkUp 2 16 false 0 []) = false ∧ wellFormed (.linkUp 6 3 false 0 []) = false
    ∧ wellFormed (.linkUp 6 16 false (2 ^ 13) []) = false ∧ wellFormed (.linkUp 6 16 true 0 (List.replicate 9 (0, 0, 0))) = false
    ∧ wellFormed (.linkRetrain 7 16) = false ∧ wellFormed (.codewordReceive 0 { errors := 545 }) = false
    ∧ wellFormed (.codewordReceive 0 { bodies := [List.replicate 257 0] }) = false ∧ wellFormed (.railNak 0 4096) = false
    ∧ wellFormed (.laneSwitch 0 .fwd 0 4096) = false ∧ wellFormed (.spurFlitReceive 0 .fwd {}) = false
    ∧ wellFormed (.spurNak 0 .fwd 1024) = false := by decide +kernel

theorem test_ill_formed_services :
    wellFormed (.tenantValueUpdate []) = false ∧ wellFormed (.powerSample []) = false ∧ wellFormed (.setmwl (2 ^ 16)) = false
    ∧ wellFormed (.setmrl (2 ^ 16)) = false ∧ wellFormed (.bootStepDone { spursFailed := [26] }) = false
    ∧ wellFormed (.bootStepDone { chansFailed := [256] }) = false := by decide

/-! States that meet the premises of statements. -/

theorem test_StepRunsFront :
    (∃ s : State, ∃ c rest, s.pending = c :: rest) ∧ ∃ s : State, s.pending = [] :=
  ⟨⟨{ up with pending := [.crystalEdge, .boot] }, .crystalEdge, [.boot], rfl⟩, State.reset, rfl⟩

/-- A state with a crystal edge in front of its queue, on which a step goes on. -/
def edge : State := { up with time := 40, pending := [.crystalEdge] }

theorem edge_inv : Inv edge := ⟨by unfold TimeOk; decide, by unfold VaultOk; decide, by decide⟩

theorem edge_goes : ∃ t, step edge = .next t := ⟨_, rfl⟩

theorem test_StepKeepsInv : ∃ s t : State, Inv s ∧ step s = .next t := ⟨edge, _, edge_inv, edge_goes.choose_spec⟩

theorem test_StepGrowsVault : ∃ s t : State, Inv s ∧ step s = .next t := test_StepKeepsInv

theorem test_CommandsKeepQueueAndTime :
    (∃ s t : State, exec .crystalEdge s = .next t)
    ∧ ∃ (c : Instr) (s t : State), exec c s = .next t ∧ c ≠ .crystalEdge ∧ c ≠ .powerOn :=
  ⟨⟨edge, _, rfl⟩, .rideThrough, edge, _, rfl, by decide, by decide⟩

/-- A codeword that carries a HANDSHAKE flit in slot B meets the premises of RailCodewords' last clause, and its CW_CRC holds. -/
theorem test_RailCodewords_sent :
    let c : TxCodeword := { seq := 4095, ack := some 77, slotB := some (0, { type := 8, dstCtx := 9, body := [1, 2, 255] }),
                            laneCmd := 4, lane := 8, laneAt := 4094, creditCls := 2, credits := 1023 }
    (c.seq < 4096 ∧ (∀ k, c.ack = some k → k < 4096) ∧ c.laneCmd < 8 ∧ c.lane < 16 ∧ c.laneAt < 4096 ∧ c.creditCls < 3
      ∧ c.credits < 1024) ∧ Codeword.lost { msg := c.message 3 } = false := by
  refine ⟨⟨by decide, ?_, by decide, by decide, by decide, by decide, by decide⟩, by decide +kernel⟩
  rintro k ⟨⟩
  decide

/-- The reads of a register of a Line that leads none, of a halted module, and of LN_STATUS. -/
theorem test_register_reads :
    (let s : State := { State.reset with boot := { stage := .halted } }
     0x40 ∉ [0x108, 0x118, 0x120, 0x130] ∧ s.isLeader 0 = false ∧ s.boot.stage = .halted
     ∧ 0x28 ∉ [0x00, 0x10, 0x18, 0x40, 0x60])
    ∧ (up.isLeader 0 = true ∧ bit up.applyingMask 0 = false) := by decide +kernel

/-- Active and inactive positions of a VOP that adds, and of one that compares: the mask is bit 0 of plane 0. -/
theorem test_VectorPositions :
    (∃ k < 4096, isCompare 0x01 = false ∧ maskActive 2 true (fun _ => false) (k / 64) (k % 64) = true)
    ∧ (∃ k < 4096, isCompare 0x01 = false ∧ maskActive 2 true (fun _ => false) (k / 64) (k % 64) = false)
    ∧ (∃ k < 4096, isCompare 0x30 = true ∧ maskActive 2 true (fun _ => false) (k / 64) (k % 64) = true)
    ∧ ∃ k < 4096, isCompare 0x33 = true ∧ maskActive 2 true (fun _ => false) (k / 64) (k % 64) = false :=
  ⟨⟨4095, by decide⟩, ⟨1, by decide⟩, ⟨0, by decide⟩, 63, by decide⟩

/-- A partial write of granule 0 that ends on its last byte, and a write of the whole granule. -/
theorem test_GranuleWrites : Writable up 0 56 8 ∧ Writable up 0 0 64 := by
  simp only [writable_iff, quiet_iff]
  decide +kernel

theorem test_MxBlocks :
    (fmtIsMx .mx4 = true ∧ (List.replicate 31 (ofInt 1) ++ [Machine.Num.nan]).length = 32
      ∧ ∃ x ∈ List.replicate 31 (ofInt 1) ++ [Machine.Num.nan], x.isNan = true)
    ∧ (List.replicate 30 (ofInt 0) ++ [Machine.Num.fin true 0 0, .fin true 0 0]).length = 32
    ∧ ∀ x ∈ List.replicate 30 (ofInt 0) ++ [Machine.Num.fin true 0 0, .fin true 0 0], x.isZero = true := by decide

end Sys2Proof.Tests
end

