-- ==== Sys2Proof/Tests/Witness1.lean ====
section
/-!
SUPPORT. States and operands that meet the premises of the statements ScalarInstructions to LineControl,
clause by clause.
-/
namespace Sys2Proof.Tests

set_option Elab.async false

open Machine Safety

/-- States and operands that meet the premises of each clause of ScalarInstructions. -/
theorem test_ScalarInstructions :
    (let s : State := withPond up (progOf 0x0)
     let u : PondId := 0
     let w : Word := 0x0
     let op := w.field 56 8
     AtInsn s u w
     ∧ EnginesEmpty (s.pond u)
     ∧ Follows (s.pond u)
     ∧ op = 0x00)
    ∧ (let s : State := withPond up { progOf 0x1020440000000000 with sregs := [(1, 0x8000000000000005), (2,
                                                                       0xFFFFFFFFFFFFFFC3)] }
       let u : PondId := 0
       let w : Word := 0x1020440000000000
       let op := w.field 56 8
       AtInsn s u w
       ∧ EnginesEmpty (s.pond u)
       ∧ Follows (s.pond u)
       ∧ op = 0x10)
    ∧ (let s : State := withPond up { progOf 0x1120440000000000 with sregs := [(1, 0x8000000000000005), (2,
                                                                       0xFFFFFFFFFFFFFFC3)] }
       let u : PondId := 0
       let w : Word := 0x1120440000000000
       let op := w.field 56 8
       AtInsn s u w
       ∧ EnginesEmpty (s.pond u)
       ∧ Follows (s.pond u)
       ∧ op = 0x11)
    ∧ (let s : State := withPond up { progOf 0x1220440000000000 with sregs := [(1, 0x8000000000000005), (2,
                                                                       0xFFFFFFFFFFFFFFC3)] }
       let u : PondId := 0
       let w : Word := 0x1220440000000000
       let op := w.field 56 8
       AtInsn s u w
       ∧ EnginesEmpty (s.pond u)
       ∧ Follows (s.pond u)
       ∧ op = 0x12)
    ∧ (let s : State := withPond up { progOf 0x1320440000000000 with sregs := [(1, 0x8000000000000005), (2,
                                                                       0xFFFFFFFFFFFFFFC3)] }
       let u : PondId := 0
       let w : Word := 0x1320440000000000
       let op := w.field 56 8
       AtInsn s u w
       ∧ EnginesEmpty (s.pond u)
       ∧ Follows (s.pond u)
       ∧ op = 0x13)
    ∧ (let s : State := withPond up { progOf 0x1420440000000000 with sregs := [(1, 0x8000000000000005), (2,
                                                                       0xFFFFFFFFFFFFFFC3)] }
       let u : PondId := 0
       let w : Word := 0x1420440000000000
       let op := w.field 56 8
       AtInsn s u w
       ∧ EnginesEmpty (s.pond u)
       ∧ Follows (s.pond u)
       ∧ op = 0x14)
    ∧ (let s : State := withPond up { progOf 0x1520440000000000 with sregs := [(1, 0x8000000000000005), (2,
                                                                       0xFFFFFFFFFFFFFFC3)] }
       let u : PondId := 0
       let w : Word := 0x1520440000000000
       let op := w.field 56 8
       AtInsn s u w
       ∧ EnginesEmpty (s.pond u)
       ∧ Follows (s.pond u)
       ∧ op = 0x15)
    ∧ (let s : State := withPond up { progOf 0x1620440000000000 with sregs := [(1, 0x8000000000000005), (2,
                                                                       0xFFFFFFFFFFFFFFC3)] }
       let u : PondId := 0
       let w : Word := 0x1620440000000000
       let op := w.field 56 8
       AtInsn s u w
       ∧ EnginesEmpty (s.pond u)
       ∧ Follows (s.pond u)
       ∧ op = 0x16)
    ∧ (let s : State := withPond up { progOf 0x1720440000000000 with sregs := [(1, 0x8000000000000005), (2,
                                                                       0xFFFFFFFFFFFFFFC3)] }
       let u : PondId := 0
       let w : Word := 0x1720440000000000
       let op := w.field 56 8
       AtInsn s u w
       ∧ EnginesEmpty (s.pond u)
       ∧ Follows (s.pond u)
       ∧ op = 0x17)
    ∧ (let s : State := withPond up { progOf 0x1820440000000000 with sregs := [(1, 0x8000000000000005), (2,
                                                                       0xFFFFFFFFFFFFFFC3)] }
       let u : PondId := 0
       let w : Word := 0x1820440000000000
       let op := w.field 56 8
       AtInsn s u w
       ∧ EnginesEmpty (s.pond u)
       ∧ Follows (s.pond u)
       ∧ op = 0x18)
    ∧ (let s : State := withPond up { progOf 0x1920400080000001 with sregs := [(1, 5)] }
       let u : PondId := 0
       let w : Word := 0x1920400080000001
       let op := w.field 56 8
       AtInsn s u w
       ∧ EnginesEmpty (s.pond u)
       ∧ Follows (s.pond u)
       ∧ op = 0x19)
    ∧ (let s : State := withPond up { progOf 0x1a18000080000001 with sregs := [(3, 5)] }
       let u : PondId := 0
       let w : Word := 0x1a18000080000001
       let op := w.field 56 8
       AtInsn s u w
       ∧ EnginesEmpty (s.pond u)
       ∧ Follows (s.pond u)
       ∧ op = 0x1A)
    ∧ (let s : State := withPond up { progOf 0x2130440000000000 with sregs := [(1, 0x8000000000000005), (2,
                                                                       0xFFFFFFFFFFFFFFC3)] }
       let u : PondId := 0
       let w : Word := 0x2130440000000000
       let op := w.field 56 8
       AtInsn s u w
       ∧ EnginesEmpty (s.pond u)
       ∧ Follows (s.pond u)
       ∧ op = 0x21)
    ∧ (let s : State := withPond up { progOf 0x2237080000000000 with sregs := [(1, 0x8000000000000005)] }
       let u : PondId := 0
       let w : Word := 0x2237080000000000
       let op := w.field 56 8
       AtInsn s u w
       ∧ EnginesEmpty (s.pond u)
       ∧ Follows (s.pond u)
       ∧ op = 0x22
       ∧ w.field 48 4 < 8) := by
  and_intros
  all_goals first
    | decide +kernel
    | simp only [enginesEmpty_iff, atInsn_iff, Follows] <;> decide +kernel

/-- States and operands that meet the premises of each clause of ControlInstructions. -/
theorem test_ControlInstructions :
    (let s : State := withPond up (progOf 0x200000000000005)
     let u : PondId := 0
     let w : Word := 0x200000000000005
     let p := s.pond u
     let op := w.field 56 8
     let c := w.field 52 4
     let a := p.sreg (w.field 47 5)
     let b := p.sreg (w.field 42 5)
     let taken := c = 0 ∨ (c = 1 ∧ a = b) ∨ (c = 2 ∧ a ≠ b) ∨ (c = 3 ∧ a.toInt < b.toInt) ∨ (c = 4 ∧ b.toInt ≤
         a.toInt)
       ∨ (c = 5 ∧ a.toNat < b.toNat) ∨ (c = 6 ∧ b.toNat ≤ a.toNat)
     let last := w.field 0 13
     AtInsn s u w
     ∧ EnginesEmpty (s.pond u)
     ∧ op = 0x02
     ∧ taken
     ∧ p.entersLoop last = false
     ∧ knownOpcode ((p.insnAt last).field 56 8) = true)
    ∧ (let s : State := withPond up { progOf 0x250880000000005 with sregs := [(1, 0xFFFFFFFFFFFFFFFF), (2, 7)] }
       let u : PondId := 0
       let w : Word := 0x250880000000005
       let p := s.pond u
       let op := w.field 56 8
       let c := w.field 52 4
       let a := p.sreg (w.field 47 5)
       let b := p.sreg (w.field 42 5)
       let taken := c = 0 ∨ (c = 1 ∧ a = b) ∨ (c = 2 ∧ a ≠ b) ∨ (c = 3 ∧ a.toInt < b.toInt) ∨ (c = 4 ∧ b.toInt ≤
           a.toInt)
         ∨ (c = 5 ∧ a.toNat < b.toNat) ∨ (c = 6 ∧ b.toNat ≤ a.toNat)
       AtInsn s u w
       ∧ EnginesEmpty (s.pond u)
       ∧ op = 0x02
       ∧ c < 7
       ∧ ¬ taken
       ∧ Follows p)
    ∧ (let s : State := withPond up (progOf 0x300000000030005)
       let u : PondId := 0
       let w : Word := 0x300000000030005
       let p := s.pond u
       let op := w.field 56 8
       let last := w.field 0 13
       let n := if w.flag 55 then (p.sreg (w.field 50 5)).field 0 32 else w.field 16 16
       AtInsn s u w
       ∧ EnginesEmpty (s.pond u)
       ∧ op = 0x03
       ∧ p.pc < last
       ∧ p.loops.length < 4
       ∧ 0 < n
       ∧ knownOpcode ((p.insnAt (p.pc + 1)).field 56 8) = true)
    ∧ (let s : State := withPond up (progOf 0x300000000000005)
       let u : PondId := 0
       let w : Word := 0x300000000000005
       let p := s.pond u
       let op := w.field 56 8
       let last := w.field 0 13
       let n := if w.flag 55 then (p.sreg (w.field 50 5)).field 0 32 else w.field 16 16
       AtInsn s u w
       ∧ EnginesEmpty (s.pond u)
       ∧ op = 0x03
       ∧ p.pc < last
       ∧ p.loops.length < 4
       ∧ n = 0
       ∧ Follows { p with pc := last })
    ∧ (let u : PondId := 0
       let w : Word := 0x400000000000020
       let op := w.field 56 8
       let last := w.field 0 13
       let s : State := withPond up { progOf 0x400000000000020 with stale := [(3, { last := ([], false) })] }
       let p := s.pond u
       AtInsn s u w
       ∧ EnginesEmpty (s.pond u)
       ∧ op = 0x04
       ∧ Follows p)
    ∧ (let s : State := withPond up (progOf 0x61007ff800000000)
       let u : PondId := 0
       let w : Word := 0x61007ff800000000
       let p := s.pond u
       let op := w.field 56 8
       let ctr := if w.flag 55 then (p.sreg (w.field 50 5)).toNat else w.field 35 15
       let val := if w.flag 34 then (p.sreg (w.field 29 5)).toNat else w.field 0 28
       let still := ∀ x, s.counterDpa (s.pondLine u) ctr = some x → Quiet s (x / 64)
       AtInsn s u w
       ∧ EnginesEmpty (s.pond u)
       ∧ op = 0x61
       ∧ ctr < 4096 * (s.members (s.pondLine u)).length
       ∧ s.counterReached (s.pondLine u) ctr val = true
       ∧ still
       ∧ Follows p)
    ∧ (let s : State := withPond up (progOf 0x61007ff800000001)
       let u : PondId := 0
       let w : Word := 0x61007ff800000001
       let p := s.pond u
       let op := w.field 56 8
       let ctr := if w.flag 55 then (p.sreg (w.field 50 5)).toNat else w.field 35 15
       let val := if w.flag 34 then (p.sreg (w.field 29 5)).toNat else w.field 0 28
       let still := ∀ x, s.counterDpa (s.pondLine u) ctr = some x → Quiet s (x / 64)
       AtInsn s u w
       ∧ EnginesEmpty (s.pond u)
       ∧ op = 0x61
       ∧ ctr < 4096 * (s.members (s.pondLine u)).length
       ∧ s.counterReached (s.pondLine u) ctr val = false
       ∧ still)
    ∧ (let s : State := withPond up { progOf 0x100000000000000 with held := [{ ticket := 4 }], startTime := 0 }
       let u : PondId := 0
       let w : Word := 0x100000000000000
       let p := s.pond u
       let op := w.field 56 8
       AtInsn s u w
       ∧ EnginesEmpty (s.pond u)
       ∧ op = 0x01
       ∧ p.recDpa = none
       ∧ p.cur.doneEn = false) := by
  and_intros
  all_goals first
    | decide +kernel
    | simp only [quiet_iff, enginesEmpty_iff, atInsn_iff, Follows] <;> decide +kernel

/-- States and operands that meet the premises of each clause of ReleaseInstructions. -/
theorem test_ReleaseInstructions :
    (let s : State := withPond up (progOf 0x50000000000ffff)
     let u : PondId := 0
     let w : Word := 0x50000000000ffff
     let op := w.field 56 8
     AtInsn s u w
     ∧ EnginesEmpty (s.pond u)
     ∧ Follows (s.pond u)
     ∧ op = 0x05
     ∧ w.flag 16 = false)
    ∧ (let s : State := withPond up (progOf 0x500000000011234)
       let u : PondId := 0
       let w : Word := 0x500000000011234
       let op := w.field 56 8
       let l := s.pondLine u
       let src := 8 * s.place (u / 8) + u % 8
       AtInsn s u w
       ∧ EnginesEmpty (s.pond u)
       ∧ Follows (s.pond u)
       ∧ op = 0x05
       ∧ w.flag 16 = true
       ∧ RouteOff s l src
       ∧ (s.line l).sleep = 0)
    ∧ (let s : State := withPond up (progOf 0x60007ff80fffffff)
       let u : PondId := 0
       let w : Word := 0x60007ff80fffffff
       let p := s.pond u
       let op := w.field 56 8
       let l := s.pondLine u
       let i := if w.flag 55 then (p.sreg (w.field 50 5)).toNat else w.field 35 15
       let a : Nat := s.syncBase 0 + 4095 * 8
       let c : Nat := 0
       AtInsn s u w
       ∧ EnginesEmpty (s.pond u)
       ∧ Follows (s.pond u)
       ∧ op = 0x60
       ∧ s.counterDpa l i = some a
       ∧ (s.granule (a / 64)).1.length = 64
       ∧ Quiet s (a / 64)
       ∧ s.counterVal l i = some c
       ∧ i < 4096 * (s.members l).length)
    ∧ (let s : State := withPond up { progOf 0x4300800000000000 with sregs := [(1, 9)], held := [{ ticket := 9 }],
                                                                     slots := [(2, { st := .full, ticket := 9 })] }
       let u : PondId := 0
       let w : Word := 0x4300800000000000
       let p := s.pond u
       let op := w.field 56 8
       let k : TicketInfo := { ticket := 9 }
       AtInsn s u w
       ∧ EnginesEmpty (s.pond u)
       ∧ Follows (s.pond u)
       ∧ op = 0x43
       ∧ p.heldIn (w.field 47 5) = some k
       ∧ p.tileFull k.ticket = true)
    ∧ (let s : State := withPond up (progOf 0x7800000000000000)
       let u : PondId := 0
       let w : Word := 0x7800000000000000
       let op := w.field 56 8
       let l := s.pondLine u
       AtInsn s u w
       ∧ EnginesEmpty (s.pond u)
       ∧ Follows (s.pond u)
       ∧ op = 0x78
       ∧ s.flag (lnKey l 0x300) 63 = false)
    ∧ (let s : State := withPond { up with regs := [(lnKey 0 0x300, 0x8000000000040000), (lnKey 0 0x308, 0x10000F)],
                                           time := 80 } { progOf 0x7890400000000000 with sregs := [(1,
                                                                                           0x123456789)] }
       let u : PondId := 0
       let w : Word := 0x7890400000000000
       let op := w.field 56 8
       let l := s.pondLine u
       let head := s.reg (lnKey l 0x308)
       let size := 2 ^ (s.fld (lnKey l 0x300) 0 4 + 4)
       let at_ := head.field 0 20 % size
       let ring := s.fld (lnKey l 0x300) 4 48 * 16 + at_ * 16
       AtInsn s u w
       ∧ EnginesEmpty (s.pond u)
       ∧ Follows (s.pond u)
       ∧ op = 0x78
       ∧ s.flag (lnKey l 0x300) 63 = true
       ∧ isHostPa ring = false
       ∧ Writable s l ring 16) := by
  and_intros
  all_goals first
    | decide +kernel
    | simp only [quiet_iff, writable_iff, enginesEmpty_iff, atInsn_iff, RouteOff, Follows] <;> decide +kernel

/-- States and operands that meet the premises of each clause of MemoryInstructions. -/
theorem test_MemoryInstructions :
    (let s : State := withPond mapped { progOf 0x1b10400000000008 with sregs := [(1, 0x1000)] }
     let u : PondId := 0
     let r : State := (s.clean.pondRead u 0x1008 8).2
     let w : Word := 0x1b10400000000008
     let p := s.pond u
     let op := w.field 56 8
     let a := p.sreg (w.field 46 5)
     let va := (a + BitVec.ofInt 64 (signed 32 (w.field 0 32))).toNat
     let bs : List (Byte × Bool) := (match s.clean.pondRead 0 0x1008 8 with | (.ok x, _) => x | _ => [])
     AtInsn s u w
     ∧ EnginesEmpty (s.pond u)
     ∧ Follows (s.pond u)
     ∧ r.misuse = none
     ∧ op = 0x1B
     ∧ va % 8 = 0
     ∧ s.clean.ldRegister u (va % 2 ^ 57) = none
     ∧ s.clean.pondRead u (va % 2 ^ 57) 8 = (.ok bs, r)
     ∧ anyPoison bs = false)
    ∧ (let s : State := withPond mapped { progOf 0x20f0400000000020 with sregs := [(1, 0xFE0)] }
       let u : PondId := 0
       let r : State := (s.clean.pondRead u 0x1000 32).2
       let w : Word := 0x20f0400000000020
       let p := s.pond u
       let op := w.field 56 8
       let a := p.sreg (w.field 46 5)
       let va := (a + BitVec.ofInt 64 (signed 32 (w.field 0 32))).toNat
       let bs : List (Byte × Bool) := (match s.clean.pondRead 0 0x1000 32 with | (.ok x, _) => x | _ => [])
       AtInsn s u w
       ∧ EnginesEmpty (s.pond u)
       ∧ Follows (s.pond u)
       ∧ r.misuse = none
       ∧ op = 0x20
       ∧ va % 32 = 0
       ∧ s.clean.pondRead u (va % 2 ^ 57) 32 = (.ok bs, r)
       ∧ anyPoison bs = false)
    ∧ (let s : State := withPond mapped { progOf 0x3025000080008000 with tbs := [(2, { words := [(0,
                                                                                         { code := 0x3F800000,
                                                                                           valid := true }), (65,
                                                                                         { code := 0x40000000,
                                                                                           valid := true })] })] }
       let r : State := s
       let u : PondId := 0
       let w : Word := 0x3025000080008000
       let op := w.field 56 8
       let isA : Bool := true
       AtInsn s u w
       ∧ EnginesEmpty (s.pond u)
       ∧ Follows (s.pond u)
       ∧ r.misuse = none
       ∧ op = (if isA then 0x30 else 0x31)
       ∧ w.flag 48 = true
       ∧ w.field 52 3 < 6)
    ∧ (let s : State := withPond mapped { progOf 0x303400008000c000 with descs := [(3,
                                                                           { w0 := 0x1000, w1 := 0x0010001000000040,
                                                                             w2 := 0, w3 := 0 })] }
       let u : PondId := 0
       let w : Word := 0x303400008000c000
       let p := s.pond u
       let op := w.field 56 8
       let d := p.desc (w.field 52 4)
       let load : Load := { seq := p.seq, pc := p.pc, ext := w.field 30 8, k := w.field 14 16, trans := w.flag 49,
                            cvt := w.flag 13
                            ri := (p.sreg (w.field 43 5)).toNat, rj := (p.sreg (w.field 38 5)).toNat }
       let isA : Bool := true
       let r : State := (s.clean.readRegion u (p.desc 3) .fp32 0 0 (if isA != w.flag 49 then 2 else 3) (if isA !=
           w.flag 49 then 3 else 2)).2
       let f : Fmt := .fp32
       let es := (match s.clean.readRegion u (p.desc 3) .fp32 0 0 (if isA != w.flag 49 then 2 else 3) (if isA !=
           w.flag 49 then 3 else 2) with | (.ok x, _) => x | _ => [])
       AtInsn s u w
       ∧ EnginesEmpty (s.pond u)
       ∧ Follows (s.pond u)
       ∧ r.misuse = none
       ∧ op = (if isA then 0x30 else 0x31)
       ∧ w.flag 48 = false
       ∧ d.badShape = false
       ∧ fmtOfCode d.fmt = some f
       ∧ (fmtIsMx f && d.mxdir == (isA != w.flag 49)) = false
       ∧ s.clean.readRegion u d f load.ri load.rj (if isA != w.flag 49 then load.ext else load.k)
           (if isA != w.flag 49 then load.k else load.ext) = (.ok es, r))
    ∧ (let s : State := withPond mapped { progOf 0x423a000000000000 with descs := [(3,
                                                                           { w0 := 0x1000, w1 := 0x0010001000000040,
                                                                             w2 := 0, w3 := 0 })] }
       let u : PondId := 0
       let w : Word := 0x423a000000000000
       let p := s.pond u
       let r : State := (s.clean.readRegion u (p.desc 3) .fp32 0 0 64 64).2
       let op := w.field 56 8
       let i := p.sreg (w.field 42 5)
       let j := p.sreg (w.field 37 5)
       let d := p.desc (w.field 52 4)
       let f : Fmt := .fp32
       let es := (match s.clean.readRegion u (p.desc 3) .fp32 0 0 64 64 with | (.ok x, _) => x | _ => [])
       AtInsn s u w
       ∧ EnginesEmpty (s.pond u)
       ∧ Follows (s.pond u)
       ∧ r.misuse = none
       ∧ op = 0x42
       ∧ w.field 49 3 < 6
       ∧ d.badShape = false
       ∧ fmtOfCode d.fmt = some f
       ∧ w.flag 35 = false
       ∧ s.clean.readRegion u d f i.toNat j.toNat 64 64 = (.ok es, r))
    ∧ (let s : State := withPond mapped { progOf 0x1c00440000000010 with sregs := [(1, 0x3000), (2,
                                                                           0x1122334455667788)] }
       let u : PondId := 0
       let w : Word := 0x1c00440000000010
       let p := s.pond u
       let op := w.field 56 8
       let a := p.sreg (w.field 46 5)
       let va := (a + BitVec.ofInt 64 (signed 32 (w.field 0 32))).toNat
       let o : PondOp := { p.item w with x := a + BitVec.ofInt 64 (signed 32 (w.field 0 32)),
                                         y := p.sreg (w.field 41 5) }
       let s1 := s.clean.toStore u o
       let r : State := (s1.putRuns u [{ va := 0x3010, bs := wholeBytes (leBytes 8 0x1122334455667788) false }]).2
       AtInsn s u w
       ∧ EnginesEmpty (s.pond u)
       ∧ Follows (s.pond u)
       ∧ r.misuse = none
       ∧ op = 0x1C
       ∧ va % 8 = 0
       ∧ s1.sdRegister u o = none
       ∧ s1.putRuns u [{ va := va % 2 ^ 57, bs := wholeBytes (leBytes 8 (p.sreg (w.field 41 5)).toNat) false }]
           = ({ res := .ok false }, r))
    ∧ (let s : State := withPond mapped { progOf 0x4134000000000000 with descs := [(3,
                                                                           { w0 := 0x3000, w1 := 0x0010001000000040,
                                                                             w2 := 0, w3 := 0 })], tbs := [(2,
                                                                           { words := [(0,
                                                                               { code := 0x3F800000,
                                                                                 valid := true }), (65,
                                                                               { code := 0x40000000,
                                                                                 valid := true })] })] }
       let u : PondId := 0
       let w : Word := 0x4134000000000000
       let p := s.pond u
       let op := w.field 56 8
       let i := p.sreg (w.field 42 5)
       let j := p.sreg (w.field 37 5)
       let d := p.desc (w.field 52 4)
       let f : Fmt := .fp32
       let s1 := s.clean.toStore u { p.item w with desc := d, x := i, y := j }
       let r : State := (s1.putRuns u (storeTile d f false (tileSource (p.tb (w.field 49 3))) i.toNat j.toNat)).2
       let b : PutOut := (s1.putRuns u (storeTile d f false (tileSource (p.tb (w.field 49 3))) i.toNat j.toNat)).1
       AtInsn s u w
       ∧ EnginesEmpty (s.pond u)
       ∧ Follows (s.pond u)
       ∧ r.misuse = none
       ∧ op = 0x41
       ∧ w.field 49 3 < 6
       ∧ d.badShape = false
       ∧ w.flag 35 = false
       ∧ fmtOfCode d.fmt = some f
       ∧ (fmtIsMx f && (if d.mxdir then i.toNat else j.toNat) % 32 != 0) = false
       ∧ s1.putRuns u (storeTile d f false (tileSource (p.tb (w.field 49 3))) i.toNat j.toNat) = (b, r)
       ∧ (∃ q, b.res = .ok q))
    ∧ (let s : State := withPond mapped { progOf 0x4030800000000000 with descs := [(3,
                                                                           { w0 := 0x3000, w1 := 0x0010001000000040,
                                                                             w2 := 0, w3 := 0 })], sregs := [(1,
                                                                           9)], held := [{ ticket := 9 }],
                                                                         slots := [(2,
                                                                           { st := .full, ticket := 9,
                                                                             tile := { words := [(0,
                                                                                         { code := 0x3F800000,
                                                                                           valid := true })] } })] }
       let u : PondId := 0
       let w : Word := 0x4030800000000000
       let p := s.pond u
       let op := w.field 56 8
       let i := p.sreg (w.field 42 5)
       let j := p.sreg (w.field 37 5)
       let d := p.desc (w.field 52 4)
       let f : Fmt := .fp32
       let k : TicketInfo := { ticket := 9 }
       let o : PondOp := { p.item w with desc := d, ticket := some k.ticket, x := i, y := j }
       let s1 := (s.clean.when (w.flag 36) fun s => s.modPond u fun p => p.unhold k.ticket).toStore u o
       let r : State := (s1.putRuns u (storeTile d f true (tileSource (p.tileOf k.ticket)) i.toNat j.toNat)).2
       let b : PutOut := (s1.putRuns u (storeTile d f true (tileSource (p.tileOf k.ticket)) i.toNat j.toNat)).1
       AtInsn s u w
       ∧ EnginesEmpty (s.pond u)
       ∧ Follows (s.pond u)
       ∧ r.misuse = none
       ∧ op = 0x40
       ∧ d.badShape = false
       ∧ w.flag 35 = false
       ∧ fmtOfCode d.fmt = some f
       ∧ (fmtIsMx f && (if d.mxdir then i.toNat else j.toNat) % 32 != 0) = false
       ∧ p.heldIn (w.field 47 5) = some k
       ∧ (w.flag 34 = true ∨ (d.fmt = k.ofmt ∧ (fmtIsMx f = true → d.mxdir = k.omx)))
       ∧ k.gang = false
       ∧ (∀ n < 8, ((p.slot n).ticket = k.ticket ∧ (p.slot n).st ≠ .free) → (p.slot n).gang = false)
       ∧ p.tileFull k.ticket = true
       ∧ s1.putRuns u (storeTile d f true (tileSource (p.tileOf k.ticket)) i.toNat j.toNat) = (b, r)
       ∧ (∃ q, b.res = .ok q))
    ∧ (let s : State := withPond mapped { progOf 0x4030800000000000 with descs := [(3,
                                                                           { w0 := 0x3000, w1 := 0x0010001000000040,
                                                                             w2 := 0, w3 := 0 })], sregs := [(1,
                                                                           9)], held := [{ ticket := 9 }],
                                                                         slots := [(2,
                                                                           { st := .filling, ticket := 9,
                                                                             tile := { words := [(0,
                                                                                         { code := 0x3F800000,
                                                                                           valid := true })] } })] }
       let r : State := s
       let u : PondId := 0
       let w : Word := 0x4030800000000000
       let p := s.pond u
       let op := w.field 56 8
       let i := p.sreg (w.field 42 5)
       let j := p.sreg (w.field 37 5)
       let d := p.desc (w.field 52 4)
       let f : Fmt := .fp32
       let k : TicketInfo := { ticket := 9 }
       AtInsn s u w
       ∧ EnginesEmpty (s.pond u)
       ∧ Follows (s.pond u)
       ∧ r.misuse = none
       ∧ op = 0x40
       ∧ d.badShape = false
       ∧ w.flag 35 = false
       ∧ fmtOfCode d.fmt = some f
       ∧ (fmtIsMx f && (if d.mxdir then i.toNat else j.toNat) % 32 != 0) = false
       ∧ p.heldIn (w.field 47 5) = some k
       ∧ (w.flag 34 = true ∨ (d.fmt = k.ofmt ∧ (fmtIsMx f = true → d.mxdir = k.omx)))
       ∧ k.gang = false
       ∧ (∀ n < 8, ((p.slot n).ticket = k.ticket ∧ (p.slot n).st ≠ .free) → (p.slot n).gang = false)
       ∧ p.tileFull k.ticket = false)
    ∧ (let s : State := withPond { up with chans := [(4, { queue := [{}, {}, {}, {}, {}, {}, {},
                                                             {}] })] } (progOf 0x7040000000000000)
       let r : State := s
       let u : PondId := 0
       let w : Word := 0x7040000000000000
       let op := w.field 56 8
       let c := u / 8 * 16 + w.field 52 4
       AtInsn s u w
       ∧ EnginesEmpty (s.pond u)
       ∧ Follows (s.pond u)
       ∧ r.misuse = none
       ∧ op = 0x70
       ∧ s.lineStOf (u / 8) ≠ .stopping
       ∧ s.chanRoom c = false)
    ∧ (let s : State := withPond { mapped with mem := [(0x1000, 2), (0x1007, 0x80), (0x1008, 2), (0x2000, 0xD7),
                                                 (0x4000, 0x01)] } { progOf 0x7040800000000000 with sregs := [(1,
                                                                                                      0x4000)] }
       let u : PondId := 0
       let w : Word := 0x7040800000000000
       let p := s.pond u
       let op := w.field 56 8
       let c := u / 8 * 16 + w.field 52 4
       let o : PondOp := { p.item w with x := p.sreg (w.field 47 5) }
       let s1 := (s.clean.modPond u fun q => { q with xsQ := [o] }).adv u
       let bs : List (Byte × Bool) := (match (s1.modPond u fun q => { q with xsQ := [] }).pondRead u (o.x.toNat % 2
           ^ 57) 136 with | (.ok x, _) => x | _ => [])
       let r' : State := ((s1.modPond u fun q => { q with xsQ := [] }).pondRead u (o.x.toNat % 2 ^ 57) 136).2
       let r : State := (((s1.modPond u fun q => { q with xsQ := [] }).pondRead u (o.x.toNat % 2 ^ 57)
           136).2.acceptXfer c ((List.range 17).map fun n => BitVec.ofNat 64 (bytesNat ((bs.drop (8 * n)).take 8)))
           p.cur.asid p.cur.job p.cur.cls (.program (u % 8)) (r'.chanWho c p.cur.asid)).2
       AtInsn s u w
       ∧ EnginesEmpty (s.pond u)
       ∧ Follows (s.pond u)
       ∧ r.misuse = none
       ∧ op = 0x70
       ∧ s.lineStOf (u / 8) ≠ .stopping
       ∧ s.chanRoom c = true
       ∧ (s1.modPond u fun q => { q with xsQ := [] }).pondRead u (o.x.toNat % 2 ^ 57) 136 = (.ok bs, r')
       ∧ anyPoison bs = false
       ∧ r'.acceptXfer c ((List.range 17).map fun n => BitVec.ofNat 64 (bytesNat ((bs.drop (8 * n)).take 8)))
           p.cur.asid p.cur.job p.cur.cls (.program (u % 8)) (r'.chanWho c p.cur.asid) = (none, r)) := by
  and_intros
  all_goals first
    | decide +kernel
    | simp only [enginesEmpty_iff, atInsn_iff, Follows] <;> decide +kernel

/-- States and operands that meet the premises of each clause of VectorInstructions. -/
theorem test_VectorInstructions :
    (let s : State := withPond up { progOf 0x5000811000000000 with tbs := [(2, { words := [(0,
                                                                                   { code := 0x3F800000,
                                                                                     valid := true }), (65,
                                                                                   { code := 0x40000000,
                                                                                     valid := true })] })] }
     let u : PondId := 0
     let w : Word := 0x5000811000000000
     let p := s.pond u
     let f := w.field 48 8
     let noA := w.field 56 8 = 0x50 ∧ readsNoA f = true
     let e := (0, Instr.vopCopy u)
     AtInsn s u w
     ∧ EnginesEmpty (s.pond u)
     ∧ Follows (s.pond u)
     ∧ w.flag 26 = false
     ∧ ((w.field 56 8 = 0x50 ∧ isCompare f = true ∧ w.field 45 3 < 4) ∨ w.field 45 3 < 6)
     ∧ (w.field 56 8 = 0x50 → isCompare f = true → w.field 45 3 < 4)
     ∧ (w.field 56 8 = 0x50 → readsTbb f = true → w.field 36 3 < 6)
     ∧ (noA ∨ w.flag 44 = true ∨ w.field 39 3 < 6)
     ∧ (w.flag 44 = true → ¬ noA → ∃ k, p.heldIn (w.field 39 5) = some k ∧ k.gang = false ∧ p.tileFull k.ticket =
         true)
     ∧ w.field 56 8 = 0x50
     ∧ e ∈ [
         (0x00, Instr.vopCopy u), (0x01, Instr.vopAdd u), (0x02, Instr.vopSub u), (0x03, Instr.vopMul u),
         (0x04, Instr.vopDiv u), (0x05, Instr.vopFma u), (0x06, Instr.vopFill u), (0x07, Instr.vopAdds u),
         (0x08, Instr.vopMuls u), (0x09, Instr.vopFmas u), (0x0A, Instr.vopMax u), (0x0B, Instr.vopMin u),
         (0x0C, Instr.vopMaxs u), (0x0D, Instr.vopAbs u), (0x0E, Instr.vopNeg u), (0x10, Instr.vopAddrow u),
         (0x11, Instr.vopSubrow u), (0x12, Instr.vopMulrow u), (0x13, Instr.vopDivrow u), (0x14, Instr.vopAddcol u),
         (0x15, Instr.vopMulcol u), (0x20, Instr.vopRecip u), (0x21, Instr.vopSqrt u), (0x22, Instr.vopRsqrt u),
         (0x23, Instr.vopExp u), (0x24, Instr.vopExp2 u), (0x25, Instr.vopLog u), (0x26, Instr.vopTanh u),
         (0x27, Instr.vopSigmoid u), (0x28, Instr.vopSilu u), (0x29, Instr.vopGelu u), (0x2A, Instr.vopExpsubrow u),
         (0x30, Instr.vopCmplt u), (0x31, Instr.vopCmple u), (0x32, Instr.vopCmpeq u), (0x33, Instr.vopCmpltb u),
         (0x38, Instr.vopDiag u), (0x3C, Instr.vopCvti u)
         ]
     ∧ f = e.1)
    ∧ (let s : State := withPond up { progOf 0x5180810000000000 with tbs := [(2, { words := [(0,
                                                                                     { code := 0x3F800000,
                                                                                       valid := true }), (65,
                                                                                     { code := 0x40000000,
                                                                                       valid := true })] })] }
       let u : PondId := 0
       let w : Word := 0x5180810000000000
       let p := s.pond u
       let f := w.field 48 8
       let noA := w.field 56 8 = 0x50 ∧ readsNoA f = true
       let e := (128, Instr.vredSum u)
       AtInsn s u w
       ∧ EnginesEmpty (s.pond u)
       ∧ Follows (s.pond u)
       ∧ w.flag 26 = false
       ∧ ((w.field 56 8 = 0x50 ∧ isCompare f = true ∧ w.field 45 3 < 4) ∨ w.field 45 3 < 6)
       ∧ (w.field 56 8 = 0x50 → isCompare f = true → w.field 45 3 < 4)
       ∧ (w.field 56 8 = 0x50 → readsTbb f = true → w.field 36 3 < 6)
       ∧ (noA ∨ w.flag 44 = true ∨ w.field 39 3 < 6)
       ∧ (w.flag 44 = true → ¬ noA → ∃ k, p.heldIn (w.field 39 5) = some k ∧ k.gang = false ∧ p.tileFull k.ticket =
           true)
       ∧ w.field 56 8 = 0x51
       ∧ w.field 37 2 ≠ 3
       ∧ badReduceFmt (w.field 33 4) = false
       ∧ e ∈ [
           (0x80, Instr.vredSum u), (0x81, Instr.vredProd u), (0x82, Instr.vredMax u), (0x83, Instr.vredMin u),
           (0x84, Instr.vredArgmax u), (0x85, Instr.vredArgmin u), (0x86, Instr.vredSumsq u), (0x87,
               Instr.vredAbsmax u)
           ]
       ∧ f = e.1) := by
  and_intros
  all_goals first
    | decide +kernel
    | simp only [enginesEmpty_iff, atInsn_iff, Follows] <;> decide +kernel

/-- States and operands that meet the premises of each clause of SequencerEvents. -/
theorem test_SequencerEvents :
    (let s : State := withPond { up with chans := [(4, { queue := [{}, {}, {}, {}, {}, {}, {},
                                                           {}] })] }
        { progOf 0x7040800000000000 with wait := .queueRoom }
     let u : PondId := 0
     let p := s.pond u
     let l := s.pondLine u
     s.pondWorks u = true
     ∧ p.mode = .run
     ∧ EnginesEmpty p
     ∧ p.wait = .queueRoom
     ∧ s.jobEnded l p.cur.job = false
     ∧ (p.insnAt p.pc).field 56 8 = 0x70
     ∧ reservedSet (p.insnAt p.pc) = false
     ∧ Follows p
     ∧ s.lineStOf (u / 8) ≠ .stopping
     ∧ s.chanRoom (u / 8 * 16 + (p.insnAt p.pc).field 52 4) = false)
    ∧ (let s : State := withPond up { progOf 0 with wait := .classes 0x3F, stale := [(3, { last := ([], false) })] }
       let u : PondId := 0
       let p := s.pond u
       let m : Nat := 0x3F
       s.pondWorks u = true
       ∧ p.mode = .run
       ∧ EnginesEmpty p
       ∧ p.wait = .classes m
       ∧ Follows p)
    ∧ (let s : State := withPond up { progOf 0 with wait := .sync 4095 0 }
       let u : PondId := 0
       let p := s.pond u
       let l := s.pondLine u
       let i : Nat := 4095
       let v : Nat := 0
       s.pondWorks u = true
       ∧ p.mode = .run
       ∧ EnginesEmpty p
       ∧ p.wait = .sync i v
       ∧ s.counterReached l i v = true
       ∧ Follows p)
    ∧ (let s : State := withPond up { progOf 0 with slots := [(1, { st := .releasing }), (7, { st := .full })] }
       let u : PondId := 0
       let p := s.pond u
       s.pondWorks u = true
       ∧ p.mode = .run
       ∧ EnginesEmpty p
       ∧ p.wait ≠ .drain)
    ∧ (let s : State := withPond { up with regs := [(pdKey 0 0x38, 5)],
                                           time := 5000 } { progOf 0 with wait := .sync 7 1 }
       let u : PondId := 0
       let p := s.pond u
       let l := s.pondLine u
       let src := 0x40 + 8 * s.place (u / 8) + u % 8
       let i : Nat := 7
       let v : Nat := 1
       s.pondWorks u = true
       ∧ p.mode = .run
       ∧ EnginesEmpty p
       ∧ p.recDpa = none
       ∧ p.cur.doneEn = false
       ∧ RouteOff s l src
       ∧ p.wait = .sync i v
       ∧ s.counterReached l i v = false
       ∧ s.fld (pdKey u 0x38) 0 32 ≠ 0
       ∧ p.waitFrom + s.fld (pdKey u 0x38) 0 32 * 1000 ≤ s.time)
    ∧ (let s : State := withPond { up with regs := [(pdKey 0 0x40, 5)], time := 5000040 } (progOf 0)
       let u : PondId := 0
       let p := s.pond u
       let l := s.pondLine u
       let src := 0x40 + 8 * s.place (u / 8) + u % 8
       s.pondWorks u = true
       ∧ p.mode = .run
       ∧ EnginesEmpty p
       ∧ p.recDpa = none
       ∧ p.cur.doneEn = false
       ∧ RouteOff s l src
       ∧ s.fld (pdKey u 0x40) 0 32 ≠ 0
       ∧ p.startTime + s.fld (pdKey u 0x40) 0 32 * 1000000 < s.time)
    ∧ (let s : State := withPond up { launches := [{ entry := 8191, cls := 1, args := [5, 6] }, {}] }
       let u : PondId := 0
       let p := s.pond u
       let l := s.pondLine u
       let la : Launch := { entry := 8191, cls := 1, args := [5, 6] }
       let rest : List Launch := [{}]
       p.launches = la :: rest
       ∧ p.mode = .idle
       ∧ s.lineStOf (u / 8) = .running
       ∧ s.flag (pdKey u 0) 1 = false
       ∧ s.imemBusy u = false
       ∧ s.jobEnded l la.job = false
       ∧ la.recVa = 0
       ∧ la.entry < 8192
       ∧ knownOpcode ((p.insnAt la.entry).field 56 8) = true) := by
  and_intros
  all_goals first
    | decide +kernel
    | simp only [enginesEmpty_iff, RouteOff, Follows] <;> decide +kernel

/-- States and operands that meet the premises of each clause of PondRegisters. -/
theorem test_PondRegisters :
    (let s : State := mapped
     let via : Via := .host
     let u : PondId := 0
     let v : Word := 0x1000
     let p := s.pond u
     let l := s.pondLine u
     let r : State := ((s.clean.wakeExit l).loadWords l (v.field 6 46 * 64) 8).2.2
     let ws : List Word := ((s.clean.wakeExit l).loadWords l (v.field 6 46 * 64) 8).1
     let rd : Rd := ((s.clean.wakeExit l).loadWords l (v.field 6 46 * 64) 8).2.1
     s.bWrites via (u / 8) = true
     ∧ (s.line (s.pondLine u)).sleep = 0
     ∧ r.misuse = none
     ∧ v.field 52 12 = 0
     ∧ (s.clean.wakeExit l).loadWords l (v.field 6 46 * 64) 8 = (ws, rd, r)
     ∧ rd.noTarget = false
     ∧ rd.poison = false
     ∧ (ws.getD 0 0).field 48 2 ≠ 3
     ∧ s.lineStOf (u / 8) ≠ .stopping
     ∧ p.launches.length < 8)
    ∧ (let s : State := withPond up (progOf 0)
       let r : State := s
       let via : Via := .host
       let u : PondId := 0
       let v : Word := 1
       let p := s.pond u
       let l := s.pondLine u
       s.bWrites via (u / 8) = true
       ∧ (s.line (s.pondLine u)).sleep = 0
       ∧ r.misuse = none
       ∧ v = 1
       ∧ s.pondWorks u = true
       ∧ p.mode = .run
       ∧ EnginesEmpty p
       ∧ p.recDpa = none
       ∧ p.cur.doneEn = false
       ∧ RouteOff s l (0x40 + 8 * s.place (u / 8) + u % 8))
    ∧ (let s : State := up
       let r : State := s
       let via : Via := .host
       let u : PondId := 0
       let v : Word := 0
       s.bWrites via (u / 8) = true
       ∧ (s.line (s.pondLine u)).sleep = 0
       ∧ r.misuse = none
       ∧ v.field 3 61 = 0
       ∧ v.flag 0 = false
       ∧ v.flag 2 = false)
    ∧ (let s : State := withPond up { launches := [{}, {}] }
       let r : State := s
       let via : Via := .host
       let u : PondId := 0
       let v : Word := 4
       let p := s.pond u
       let l := s.pondLine u
       s.bWrites via (u / 8) = true
       ∧ (s.line (s.pondLine u)).sleep = 0
       ∧ r.misuse = none
       ∧ v = 4
       ∧ (∀ la ∈ p.launches, la.recVa = 0 ∧ la.doneEn = false)
       ∧ RouteOff s l (0x40 + 8 * s.place (u / 8) + u % 8))
    ∧ (let s : State := up
       let r : State := s
       let via : Via := .host
       let u : PondId := 0
       let v : Word := 0x100000001
       s.bWrites via (u / 8) = true
       ∧ (s.line (s.pondLine u)).sleep = 0
       ∧ r.misuse = none
       ∧ v.field 14 2 = 0
       ∧ v.field 29 3 = 0
       ∧ v.field 35 29 = 0
       ∧ v.flag 32 = true
       ∧ v.flag 34 = false
       ∧ s.imemBusy u = false
       ∧ 0 < v.field 0 14
       ∧ v.field 16 13 + v.field 0 14 ≤ 8192)
    ∧ (let s : State := withPond { up with regs := [(pdKey 0 0x20,
                                             0x200000002)] } { imemLoad := some (0x1000, 0, 2) }
       let via : Via := .host
       let u : PondId := 0
       let p := s.pond u
       let a : Nat := 0x1000
       let i : Nat := 0
       let n : Nat := 2
       let r : State := s.clean.loadImem u a i n
       s.bWrites via (u / 8) = true
       ∧ (s.line (s.pondLine u)).sleep = 0
       ∧ r.misuse = none
       ∧ p.imemLoad = some (a, i, n)
       ∧ s.imemBusy u = true
       ∧ p.mode = .idle
       ∧ s.lineStOf (u / 8) ≠ .failed
       ∧ s.clean.loadImem u a i n = r) := by
  and_intros
  all_goals first
    | decide +kernel
    | simp only [enginesEmpty_iff, RouteOff] <;> decide +kernel

/-- States and operands that meet the premises of each clause of MatrixInstructions. -/
theorem test_MatrixInstructions :
    (let s : State := withPond { up with bindings := [(0, 0), (1, 1), (2, 2), (3,
                                           3)] } { progOf 0x38600000a0000000 with feedA := [(0,
                                                                                    [{ fmt := 0, ext := 2, k := 3,
                                                                                       ready := true, elems := [(0,
                                                                                         { code := 0x3F800000 }),
                                                                                         (65537, { code := 0x40000000 })] }])],
                                                                                  feedB := [(0,
                                                                                    [{ fmt := 0, ext := 2, k := 3,
                                                                                       ready := true, elems := [(0,
                                                                                         { code := 0x3F800000 }),
                                                                                         (65537, { code := 0x40000000 })] }])] }
     let u : PondId := 0
     let p := s.pond u
     let w : Word := 0x38600000a0000000
     let gang : Bool := false
     let a : Load := { fmt := 0, ext := 2, k := 3, ready := true, elems := [(0, { code := 0x3F800000 }), (65537,
                         { code := 0x40000000 })] }
     let b : Load := { fmt := 0, ext := 2, k := 3, ready := true, elems := [(0, { code := 0x3F800000 }), (65537,
                         { code := 0x40000000 })] }
     let qs := mmaQueues gang w
     let q := qs.headD 0
     let pre := w.field 48 2
     AtInsn s u w
     ∧ Follows p
     ∧ p.gridQ = []
     ∧ p.vecQ = []
     ∧ p.storeQ = []
     ∧ p.xsQ = []
     ∧ p.posted = []
     ∧ p.feedA = [(q, [a])]
     ∧ p.feedB = [(q, [b])]
     ∧ w.field 56 8 = (if gang then 0x39 else 0x38)
     ∧ pre ≠ 3
     ∧ (pre = 1 → w.field 45 3 < 6)
     ∧ modeAdmits (w.field 52 4) a.operandFmt b.operandFmt = true
     ∧ mmaStatus p gang w a b = none
     ∧ a.fault = none
     ∧ b.fault = none
     ∧ (∀ k ∈ qs, s.phaseOf u k = .idle))
    ∧ (let s : State := withPond { up with bindings := [(0, 0), (1, 1), (2, 2), (3,
                                             3)] } { mode := .run, gridQ := [(2,
                                                       [{ seq := 1, ticket := 5, started := true,
                                                          a := { fmt := 0, ext := 2, k := 3, ready := true,
                                                                 elems := [(0, { code := 0x3F800000 }), (65537,
                                                                   { code := 0x40000000 })] },
                                                          b := { fmt := 0, ext := 2, k := 3, ready := true,
                                                                 elems := [(0, { code := 0x3F800000 }), (65537,
                                                                   { code := 0x40000000 })] } }])], slots := [(0,
                                                       { st := .full })] }
       let u : PondId := 0
       let p := s.pond u
       let grids : Fin 16 := 4
       let q : Nat := 2
       let m : MmaOp := { seq := 1, ticket := 5, started := true,
                          a := { fmt := 0, ext := 2, k := 3, ready := true, elems := [(0, { code := 0x3F800000 }),
                                   (65537, { code := 0x40000000 })] },
                          b := { fmt := 0, ext := 2, k := 3, ready := true, elems := [(0, { code := 0x3F800000 }),
                                   (65537, { code := 0x40000000 })] } }
       let qs := mmaGrids m q
       (List.range 4).filter (bit grids) = [q]
       ∧ s.pondWorks u = true
       ∧ p.draining q = some m
       ∧ (m.gang = true → q = 0)
       ∧ p.mode = .run
       ∧ p.wait ≠ .drain
       ∧ p.faulty = []
       ∧ p.vecQ = []
       ∧ p.storeQ = []
       ∧ p.xsQ = []
       ∧ p.posted = []
       ∧ (p.mmas.all fun x => x.pre != 2 || x.preReady) = true
       ∧ qs.length ≤ p.freeSlots.length)
    ∧ (let s : State := withPond { up with bindings := [(0, 0), (1, 1), (2, 2), (3,
                                             3)] } { mode := .run, gridQ := [(0,
                                                       [{ seq := 1, gang := true, ticket := 5, started := true,
                                                          a := { fmt := 0, ext := 2, k := 3, ready := true,
                                                                 elems := [(0, { code := 0x3F800000 }), (65537,
                                                                   { code := 0x40000000 })] },
                                                          b := { fmt := 0, ext := 2, k := 3, ready := true,
                                                                 elems := [(0, { code := 0x3F800000 }), (65537,
                                                                   { code := 0x40000000 })] } }]), (1,
                                                       [{ seq := 1, gang := true, ticket := 5, started := true,
                                                          a := { fmt := 0, ext := 2, k := 3, ready := true,
                                                                 elems := [(0, { code := 0x3F800000 }), (65537,
                                                                   { code := 0x40000000 })] },
                                                          b := { fmt := 0, ext := 2, k := 3, ready := true,
                                                                 elems := [(0, { code := 0x3F800000 }), (65537,
                                                                   { code := 0x40000000 })] } }]), (2,
                                                       [{ seq := 1, gang := true, ticket := 5, started := true,
                                                          a := { fmt := 0, ext := 2, k := 3, ready := true,
                                                                 elems := [(0, { code := 0x3F800000 }), (65537,
                                                                   { code := 0x40000000 })] },
                                                          b := { fmt := 0, ext := 2, k := 3, ready := true,
                                                                 elems := [(0, { code := 0x3F800000 }), (65537,
                                                                   { code := 0x40000000 })] } }]), (3,
                                                       [{ seq := 1, gang := true, ticket := 5, started := true,
                                                          a := { fmt := 0, ext := 2, k := 3, ready := true,
                                                                 elems := [(0, { code := 0x3F800000 }), (65537,
                                                                   { code := 0x40000000 })] },
                                                          b := { fmt := 0, ext := 2, k := 3, ready := true,
                                                                 elems := [(0, { code := 0x3F800000 }), (65537,
                                                                   { code := 0x40000000 })] } }])], slots := [(0,
                                                       { st := .full }), (1, { st := .full }), (2, { st := .full }),
                                                       (3, { st := .full }), (4, { st := .full })] }
       let u : PondId := 0
       let p := s.pond u
       let grids : Fin 16 := 1
       let q : Nat := 0
       let m : MmaOp := { seq := 1, gang := true, ticket := 5, started := true,
                          a := { fmt := 0, ext := 2, k := 3, ready := true, elems := [(0, { code := 0x3F800000 }),
                                   (65537, { code := 0x40000000 })] },
                          b := { fmt := 0, ext := 2, k := 3, ready := true, elems := [(0, { code := 0x3F800000 }),
                                   (65537, { code := 0x40000000 })] } }
       let qs := mmaGrids m q
       (List.range 4).filter (bit grids) = [q]
       ∧ s.pondWorks u = true
       ∧ p.draining q = some m
       ∧ (m.gang = true → q = 0)
       ∧ p.mode = .run
       ∧ p.wait ≠ .drain
       ∧ p.faulty = []
       ∧ p.vecQ = []
       ∧ p.storeQ = []
       ∧ p.xsQ = []
       ∧ p.posted = []
       ∧ (p.mmas.all fun x => x.pre != 2 || x.preReady) = true
       ∧ p.freeSlots.length < qs.length)
    ∧ (let u : PondId := 0
       let g : Fin 4 := 2
       let k : Nat := 6
       let s : State := withPond { up with bindings := [(0, 0), (1, 1), (2, 2), (3,
                                             3)] } { mode := .run, gridQ := [(2,
                                                       [{ seq := 1, ticket := 5, mode := 6, started := true,
                                                          claimed := [2],
                                                          a := { fmt := 0, ext := 2, k := 3, ready := true,
                                                                 elems := [(0, { code := 0x3F800000 }), (65537,
                                                                   { code := 0x40000000 })] },
                                                          b := { fmt := 0, ext := 2, k := 3, ready := true,
                                                                 elems := [(0, { code := 0x3F800000 }), (65537,
                                                                   { code := 0x40000000 })] } }])], slots := [(6,
                                                       { st := .filling, ticket := 5 })] }
       let p := s.pond u
       let m : MmaOp := { seq := 1, ticket := 5, mode := 6, started := true, claimed := [2],
                          a := { fmt := 0, ext := 2, k := 3, ready := true, elems := [(0, { code := 0x3F800000 }),
                                   (65537, { code := 0x40000000 })] },
                          b := { fmt := 0, ext := 2, k := 3, ready := true, elems := [(0, { code := 0x3F800000 }),
                                   (65537, { code := 0x40000000 })] } }
       s.pondWorks u = true
       ∧ p.mode = .run
       ∧ p.wait ≠ .drain
       ∧ p.feedA = []
       ∧ p.feedB = []
       ∧ p.vecQ = []
       ∧ p.storeQ = []
       ∧ p.xsQ = []
       ∧ p.posted = []
       ∧ p.gridQ = [(g.val, [m])]
       ∧ m.gang = false
       ∧ m.started = true
       ∧ m.claimed = [g.val]
       ∧ m.full = []
       ∧ m.record = false
       ∧ p.slotFor m g = some k
       ∧ (∀ x, s.gridOf u g = some x → (s.healthOf (gridHealth (x / 34) (x % 34))).st ≠ .suspect)) := by
  and_intros
  all_goals first
    | decide +kernel
    | simp only [atInsn_iff, Follows] <;> decide +kernel

/-- States and operands that meet the premises of each clause of GridEvents. -/
theorem test_GridEvents :
    (let s : State := withPond { up with bindings := [(0, 0), (1, 1), (2, 2), (3,
                                           3)] } { mode := .run, gridQ := [(2,
                                                     [{ seq := 1, ticket := 5, mode := 6,
                                                        a := { fmt := 0, ext := 2, k := 3, ready := true,
                                                               elems := [(0, { code := 0x3F800000 }), (65537,
                                                                 { code := 0x40000000 })] },
                                                        b := { fmt := 0, ext := 2, k := 3, ready := true,
                                                               elems := [(0, { code := 0x3F800000 }), (65537,
                                                                 { code := 0x40000000 })] } }])] }
     let g : SlotId := 2
     let u : Nat := 0
     let q : Nat := 2
     let m : MmaOp := { seq := 1, ticket := 5, mode := 6, a := { fmt := 0, ext := 2, k := 3, ready := true,
                                                                 elems := [(0, { code := 0x3F800000 }), (65537,
                                                                   { code := 0x40000000 })] },
                        b := { fmt := 0, ext := 2, k := 3, ready := true, elems := [(0, { code := 0x3F800000 }),
                                 (65537, { code := 0x40000000 })] } }
     s.nameOf g = some (u, q)
     ∧ s.startable u q = some m
     ∧ s.pondWorks u = true
     ∧ (∀ k ∈ mmaGrids m q, s.phaseOf u k = .idle ∨ s.phaseOf u k = .active))
    ∧ (let s : State := { up with grids := [(2, { phase := .rampUp 2 })] }
       let g : SlotId := 2
       let x := s.grid g
       let runs := s.lineStOf (g / 34) ≠ .failed
       let all := s.rampGroup g
       runs
       ∧ (x.phase = .active ∨ ∃ st, x.phase = .rampUp st)
       ∧ (∀ k ∈ all, ∀ u q, s.nameOf k = some (u, q) → (s.pond u).nextMma q = none ∨ s.gridTakes u q = false))
    ∧ (let s : State := { up with grids := [(2, { phase := .rampDown 3, testReq := true })] }
       let g : SlotId := 2
       let x := s.grid g
       let runs := s.lineStOf (g / 34) ≠ .failed
       runs
       ∧ x.phase = .rampDown 3
       ∧ s.gridBusy g = false
       ∧ x.leave = false
       ∧ (¬ (x.out = true ∧ x.testReq = true)))
    ∧ (let s : State := { up with grids := [(2, { phase := .rampDown 3, out := true, testReq := true })] }
       let g : SlotId := 2
       let x := s.grid g
       let runs := s.lineStOf (g / 34) ≠ .failed
       runs
       ∧ x.phase = .rampDown 3
       ∧ s.gridBusy g = false
       ∧ x.out = true
       ∧ x.testReq = true)
    ∧ (let s : State := { up with grids := [(2, { takeOut := true })] }
       let g : SlotId := 2
       let x := s.grid g
       let runs := s.lineStOf (g / 34) ≠ .failed
       runs
       ∧ x.takeOut = true
       ∧ x.testReq = false
       ∧ x.leave = false
       ∧ x.phase = .idle)
    ∧ (let s : State := { up with grids := [(2, { takeOut := true, phase := .rampUp 1 })] }
       let g : SlotId := 2
       let x := s.grid g
       let runs := s.lineStOf (g / 34) ≠ .failed
       runs
       ∧ (x.takeOut = true ∨ x.testReq = true)
       ∧ (x.phase = .active ∨ ∃ st, x.phase = .rampUp st))
    ∧ (let s : State := { up with grids := [(2, { phase := .active })] }
       let g : SlotId := 2
       let x := s.grid g
       let via : Via := .pf0
       let v : Word := 0x106
       s.bWrites via (g / 34) = true
       ∧ v.field 3 5 = 0
       ∧ v.field 10 54 = 0
       ∧ v.field 0 3 ≠ 7
       ∧ (x.phase ≠ .idle ∨ s.gridBusy g = true))
    ∧ (let s : State := { up with grids := [(2, {})] }
       let g : SlotId := 2
       let x := s.grid g
       let runs := s.lineStOf (g / 34) ≠ .failed
       let via : Via := .pf0
       let v : Word := 0x106
       s.bWrites via (g / 34) = true
       ∧ v.field 3 5 = 0
       ∧ v.field 10 54 = 0
       ∧ v.field 0 3 ≠ 7
       ∧ runs
       ∧ x.phase = .idle
       ∧ s.gridBusy g = false
       ∧ x.leave = false
       ∧ v.flag 8 = true
       ∧ v.flag 9 = false
       ∧ x.testReq = false)
    ∧ (let s : State := { up with grids := [(2, {})] }
       let g : SlotId := 2
       let x := s.grid g
       let runs := s.lineStOf (g / 34) ≠ .failed
       let via : Via := .pf0
       let v : Word := 0x200
       s.bWrites via (g / 34) = true
       ∧ v.field 3 5 = 0
       ∧ v.field 10 54 = 0
       ∧ v.field 0 3 ≠ 7
       ∧ runs
       ∧ x.phase = .idle
       ∧ s.gridBusy g = false
       ∧ x.leave = false
       ∧ v.flag 9 = true) := by
  and_intros
  all_goals first
    | decide +kernel
    | exact Or.inr ⟨_, rfl⟩
    | skip
      intro k hk u q h
      have e : some (u, q) = none := h.symm.trans (by clear h; revert k; decide +kernel)
      cases e

/-- States and operands that meet the premises of each clause of LineControl. -/
theorem test_LineControl :
    (let s : State := linesIn .stopped
     let via : Via := .host
     let l : LineId := 0
     let v : Word := 0x19
     let ln := s.line l
     s.lnWrites via l = true
     ∧ v.field 5 59 = 0
     ∧ v.flag 0 = true
     ∧ v.flag 1 = false
     ∧ v.flag 2 = false
     ∧ ln.st = .stopped
     ∧ s.clearing l = false
     ∧ s.tdisp l ≠ .locked)
    ∧ (let s : State := up
       let via : Via := .host
       let l : LineId := 0
       let v : Word := 0x2
       let ln := s.line l
       s.lnWrites via l = true
       ∧ v.field 5 59 = 0
       ∧ v.flag 1 = true
       ∧ v.flag 2 = false
       ∧ ln.st.isUp = true
       ∧ NothingQueued s l)
    ∧ (let s : State := up
       let via : Via := .host
       let l : LineId := 0
       let v : Word := 0xF
       let ln := s.line l
       s.lnWrites via l = true
       ∧ v.field 5 59 = 0
       ∧ v.flag 2 = true
       ∧ ln.st ≠ .off
       ∧ ln.st ≠ .applying
       ∧ s.tdisp l = .unlocked)
    ∧ (let s : State := up
       let via : Via := .host
       let l : LineId := 0
       let v : Word := 0x8
       s.lnWrites via l = true
       ∧ v.field 5 59 = 0
       ∧ v.flag 0 = false
       ∧ v.flag 1 = false
       ∧ v.flag 2 = false)
    ∧ (let s : State := linesIn .starting
       let l : LineId := 0
       let ln := s.line l
       s.isLeader l = true
       ∧ ln.st = .starting)
    ∧ (let s : State := { linesIn .stopping with basinPower := [(0, { pll := true })] }
       let l : LineId := 0
       let ln := s.line l
       s.isLeader l = true
       ∧ ln.st = .stopping
       ∧ s.drained l = true)
    ∧ (let s : State := up
       let v : Word := 0x81
       s.hubWrites = true
       ∧ v.field 8 56 = 0
       ∧ (∀ n < 8, v.flag n = true → s.isLeader n = true → NothingQueued s n)) := by
  and_intros
  all_goals first
    | decide +kernel
    | simp only [nothingQueued_iff] <;> decide +kernel
    | simp only [nothingQueued_iff]; decide +kernel

end Sys2Proof.Tests
end

