-- ==== Sys2Proof/Tests/Witness2.lean ====
section
/-!
SUPPORT. States and operands that meet the premises of the statements TimetableCommands to AporiSync,
clause by clause.
-/
namespace Sys2Proof.Tests

set_option Elab.async false

open Machine Safety

/-- States and operands that meet the premises of each clause of TimetableCommands. -/
theorem test_TimetableCommands :
    (let s : State := up
     let early := s.boot.stage.early
     let v : Word := 0x11
     let fine := v.field 0 2 ≠ 3 ∧ (v.field 0 2 = 0 → (s.reg (ttKey 0x10)).toNat % 8 = 0
       ∧ 8 ≤ s.fld (ttKey 0x18) 0 21 ∧ s.fld (ttKey 0x18) 0 21 ≤ 0x100000)
     s.hubWrites = true
     ∧ v.field 5 59 = 0
     ∧ v.flag 4 = true
     ∧ early = false
     ∧ s.ttLoad = none
     ∧ s.fwWriting = false
     ∧ fine
     ∧ v.flag 2 = false)
    ∧ (let s : State := up
       let early := s.boot.stage.early
       let v : Word := 0x16
       let fine := v.field 0 2 ≠ 3 ∧ (v.field 0 2 = 0 → (s.reg (ttKey 0x10)).toNat % 8 = 0
         ∧ 8 ≤ s.fld (ttKey 0x18) 0 21 ∧ s.fld (ttKey 0x18) 0 21 ≤ 0x100000)
       s.hubWrites = true
       ∧ v.field 5 59 = 0
       ∧ v.flag 4 = true
       ∧ early = false
       ∧ s.ttLoad = none
       ∧ s.fwWriting = false
       ∧ fine
       ∧ v.flag 2 = true)
    ∧ (let v : Word := 0x10
       let s : State := { up with ttLoad := some { stage := .reading, src := .slotA, dryRun := true,
                                                   persist := false, addr := 0, len := 0 } }
       let early := s.boot.stage.early
       let x : TtLoad := { stage := .reading, src := .slotA, dryRun := true, persist := false, addr := 0, len := 0 }
       s.hubWrites = true
       ∧ v.field 5 59 = 0
       ∧ v.flag 4 = true
       ∧ early = false
       ∧ s.ttLoad = some x)
    ∧ (let s : State := { up with ttLoad := some { stage := .reading, src := .slotA, dryRun := true,
                                                   persist := false, addr := 0, len := 0 } }
       let x : TtLoad := { stage := .reading, src := .slotA, dryRun := true, persist := false, addr := 0, len := 0 }
       s.ttLoad = some x
       ∧ x.stage = .reading)
    ∧ (let s : State := { linesIn .stopped with flash := { slotA := [84, 84, 66, 76, 3, 0, 64, 0, 24, 0, 0, 0, 1, 0,
                                                             0, 0, 1, 0, 0, 0, 0, 0, 0, 0, 0, 0, 0, 0, 0, 0, 0, 0,
                                                             0, 0, 0, 0, 0, 0, 0, 0, 0, 0, 0, 0, 0, 0, 0, 0, 0, 0,
                                                             0, 0, 0, 0, 0, 0, 0, 0, 0, 0, 0, 0, 0, 0, 11, 1, 0, 0,
                                                             24, 0, 0, 0, 1, 0, 0, 0, 0, 0, 0, 0, 0, 0, 0, 0, 0, 0,
                                                             0, 0, 70, 254, 58, 213, 34, 58, 101, 91, 138, 171, 185,
                                                             77, 117, 239, 135, 224, 251, 165, 183, 16, 77, 150, 32,
                                                             84, 160, 243, 203, 228, 64, 167, 173, 236, 209, 57,
                                                             252, 150, 203, 48, 249, 44, 178, 29, 108, 63, 119, 179,
                                                             129, 3, 168, 170, 139, 56, 68, 96, 82, 29, 173, 40, 30,
                                                             2, 200, 100, 105, 120] },
                                                ttLoad := some { stage := .reading, src := .slotA, dryRun := true,
                                                                 persist := false, addr := 0, len := 0 } }
       let x : TtLoad := { stage := .reading, src := .slotA, dryRun := true, persist := false, addr := 0, len := 0 }
       let sigOk : Bool := true
       let img : List Byte := [84, 84, 66, 76, 3, 0, 64, 0, 24, 0, 0, 0, 1, 0, 0, 0, 1, 0, 0, 0, 0, 0, 0, 0, 0, 0,
           0, 0, 0, 0, 0, 0, 0, 0, 0, 0, 0, 0, 0, 0, 0, 0, 0, 0, 0, 0, 0, 0, 0, 0, 0, 0, 0, 0, 0, 0, 0, 0, 0, 0, 0,
           0, 0, 0, 11, 1, 0, 0, 24, 0, 0, 0, 1, 0, 0, 0, 0, 0, 0, 0, 0, 0, 0, 0, 0, 0, 0, 0, 70, 254, 58, 213, 34,
           58, 101, 91, 138, 171, 185, 77, 117, 239, 135, 224, 251, 165, 183, 16, 77, 150, 32, 84, 160, 243, 203,
           228, 64, 167, 173, 236, 209, 57, 252, 150, 203, 48, 249, 44, 178, 29, 108, 63, 119, 179, 129, 3, 168,
           170, 139, 56, 68, 96, 82, 29, 173, 40, 30, 2, 200, 100, 105, 120]
       let a := (match s.ttCheck img false sigOk with | .ok a => a | _ => { next := {} })
       s.ttLoad = some x
       ∧ x.stage = .reading
       ∧ s.ttImage x true = some img
       ∧ s.ttCheck img false sigOk = .ok a
       ∧ s.ttBusy (s.tt.touched a.next) = []
       ∧ x.dryRun = true)
    ∧ (let s : State := { up with ttLoad := some { stage := .applying, src := .host, dryRun := true,
                                                   persist := false, addr := 0, len := 0 } }
       let x : TtLoad := { stage := .applying, src := .host, dryRun := true, persist := false, addr := 0, len := 0 }
       s.ttLoad = some x
       ∧ x.stage = .applying
       ∧ x.src = .host
       ∧ x.persist = false)
    ∧ (let s : State := { up with ttLoad := some { stage := .persisting, src := .host, dryRun := true,
                                                   persist := true, addr := 0, len := 0, image := [1, 2] } }
       let x : TtLoad := { stage := .persisting, src := .host, dryRun := true, persist := true, addr := 0, len := 0,
                           image := [1, 2] }
       s.ttLoad = some x
       ∧ x.stage = .persisting
       ∧ s.fwWriting = false)
    ∧ (let s : State := { up with ttLoad := some { stage := .persisting, src := .host, dryRun := true,
                                                   persist := true, addr := 0, len := 0, image := [1, 2] } }
       let x : TtLoad := { stage := .persisting, src := .host, dryRun := true, persist := true, addr := 0, len := 0,
                           image := [1, 2] }
       s.ttLoad = some x
       ∧ x.stage = .persisting
       ∧ s.fwWriting = false)
    ∧ (let s : State := { up with pldm := { update := some { comp := 1, image := [1], sigOk := true,
                                                             binding := 0 } } }
       let v : Word := 0x10
       s.hubWrites = true
       ∧ v.field 5 59 = 0
       ∧ v.flag 4 = true
       ∧ s.fwWriting = true) := by
  and_intros <;> decide +kernel

/-- States and operands that meet the premises of each clause of Registers. -/
theorem test_Registers :
    (let s : State := up
     let via : Via := .host
     let l : LineId := 0
     let off : Nat := 0x200040
     let a : Access := .whole
     let v : Word := 0xFFFFFFFF
     let x := accessPlace a v
     let own := [(LnBlk.lead, 0x410), (.lead, 0x708), (.cfl, 0x10), (.xlat, 0), (.cfl, 0)]
     let r := ({ blk := .pond, b := 0, unit := 0, off := 64, key := pdKey 0 0x40 } : RegAt)
     let sp : RegSpec := { rsv := 0xFFFFFFFF00000000, rwl := 0xFFFFFFFF }
     s.lnWrites via l = true
     ∧ off % 8 = 0
     ∧ off ≠ 0x100
     ∧ off ≠ 0x118
     ∧ s.regAt l off = some (r, sp)
     ∧ a ≠ .other
     ∧ sp.badAccess a = false
     ∧ x &&& sp.rsv = 0
     ∧ (∀ w, s.clean.writeOwn l r w = none)
     ∧ r.wakes = false
     ∧ r.goBit = none
     ∧ (r.blk, r.off) ∉ own)
    ∧ (let s : State := up
       let via : Via := .host
       let l : LineId := 0
       let off : Nat := 0x200040
       let a : Access := .whole
       let v : Word := 0x100000000
       let x := accessPlace a v
       let r := ({ blk := .pond, b := 0, unit := 0, off := 64, key := pdKey 0 0x40 } : RegAt)
       let sp : RegSpec := { rsv := 0xFFFFFFFF00000000, rwl := 0xFFFFFFFF }
       s.lnWrites via l = true
       ∧ off % 8 = 0
       ∧ off ≠ 0x100
       ∧ off ≠ 0x118
       ∧ s.regAt l off = some (r, sp)
       ∧ a ≠ .other
       ∧ sp.badAccess a = false
       ∧ x &&& sp.rsv ≠ 0
       ∧ r.wakes = false
       ∧ r.goBit = none
       ∧ (∀ w, (s.clean.undef .reservedWrite).writeOwn l r w = none))
    ∧ (let s : State := up
       let via : Via := .host
       let l : LineId := 0
       let off : Nat := 0x200040
       let a : Access := .other
       let r := ({ blk := .pond, b := 0, unit := 0, off := 64, key := pdKey 0 0x40 } : RegAt)
       let sp : RegSpec := { rsv := 0xFFFFFFFF00000000, rwl := 0xFFFFFFFF }
       s.lnWrites via l = true
       ∧ off % 8 = 0
       ∧ off ≠ 0x100
       ∧ off ≠ 0x118
       ∧ s.regAt l off = some (r, sp)
       ∧ a = .other)
    ∧ (let s : State := up
       let off : Nat := 0x1000010
       let a : Access := .whole
       let v : Word := 0x1000
       let x := accessPlace a v
       let r := ((.tt, 0, 16) : HubBlk × Nat × Nat)
       let sp : RegSpec := { rw := 0xFFFFFFFFFFFFFFFF, span := true }
       s.hubServes off = true
       ∧ off % 8 = 0
       ∧ off < 2 ^ 28
       ∧ a ≠ .other
       ∧ hubRegAt off = some (r, sp)
       ∧ sp.badAccess a = false
       ∧ x &&& sp.rsv = 0
       ∧ (∀ w, s.clean.writeHubOwn r w = none))
    ∧ (let s : State := linesIn .running |> fun s => { s with host := {} }
       let via : Via := .host
       let l : LineId := 0
       let off : Nat := 0x200040
       let a : Access := .whole
       s.lnWrites via l = false
       ∧ off % 8 = 0
       ∧ off ≠ 0x100
       ∧ off ≠ 0x118
       ∧ a ≠ .other)
    ∧ (let via : Via := .host
       via ≠ .pf0) := by
  and_intros
  all_goals first
    | exact fun _ => rfl
    | decide +kernel

/-- States and operands that meet the premises of each clause of MemoryEvents. -/
theorem test_MemoryEvents :
    (let s : State := { up with basinMem := [(0, { copying := [(7, 5), (9, 1)] })] }
     let b : BasinId := 0
     let m := s.bmem b
     let bank : Nat := 7
     let sub : Nat := 5
     m.copying.find? (fun e => e.1 == bank) = some (bank, sub))
    ∧ (let s : State := up
       let mc : MemChanId := 3
       let d := mc.val / 32
       let c := mc.val % 32
       let used := (s.chansOf d).contains c = true ∧ s.chanGood d c = true
       used)
    ∧ (let s : State := { up with basinMem := [(0, { maintEnd := some 100, linkLost := [(3, true)], trains := [(3,
                                                       { full := true, time := 7 })] })], regs := [(memKey 0 0x10,
                                    0x800000008)] }
       let mc : MemChanId := 3
       let d := mc.val / 32
       let c := mc.val % 32
       s.mayRetrain d c = true
       ∧ tblGet false (s.bmem d).linkLost c = true)
    ∧ (let s : State := { up with basinMem := [(0, { maintEnd := some 100, linkLost := [(3, true)] })] }
       let mc : MemChanId := 3
       let d := mc.val / 32
       let c := mc.val % 32
       s.mayRetrain d c = true
       ∧ tblGet false (s.bmem d).linkLost c = true)
    ∧ (let s : State := { up with regs := [(rsvKey 0 0x20, 24)], chkDiff := [(0x400000000, 1)] }
       let b : BasinId := 0
       let rsv : Bool := true
       let running (t : State) : Bool := if rsv then (t.bmem b).scrubRsv else (t.bmem b).scrubLpddr
       let ctl := if rsv then rsvKey b 0x20 else memKey b 0x30
       s.scrubPaused b = false
       ∧ (s.fld ctl 0 8 ≠ 0 ∨ running s = true)
       ∧ s.scrubAt b rsv ≤ s.scrubLen b rsv)
    ∧ (let s : State := { up with basinMem := [(0, { scrubLpddr := true, scrubRsv := true })],
                                  regs := [(rsvKey 0 0x20, 0xFFFFFFFF00000018)] }
       let b : BasinId := 0
       let rsv : Bool := true
       let running (t : State) : Bool := if rsv then (t.bmem b).scrubRsv else (t.bmem b).scrubLpddr
       s.scrubPaused b = false
       ∧ running s = true)
    ∧ (let s : State := { up with basinMem := [(0, { maintEnd := some 100, pprQueue := [(3, 11), (3, 12), (4,
                                                       11)] })] }
       let mc : MemChanId := 3
       let d := mc.val / 32
       let c := mc.val % 32
       let row : Nat := 11
       s.quiet d = true
       ∧ s.calAllowed d = true
       ∧ (s.bmem d).pprQueue.contains (c, row) = true)
    ∧ (let s : State := { up with basinMem := [(0, { selfRefresh := false, refresh := [(2, 4)] })] }
       let b : BasinId := 0
       let m := s.bmem b
       m.selfRefresh = false) := by
  and_intros <;> decide +kernel

/-- States and operands that meet the premises of each clause of MemoryTraining. -/
theorem test_MemoryTraining :
    (let s : State := { up with basinMem := [(0, { })], regs := [(memKey 0 0x10, 8)] }
     let mc : MemChanId := 3
     let d := mc.val / 32
     let c := mc.val % 32
     let used := (s.chansOf d).contains c = true ∧ s.chanGood d c = true
     used
     ∧ s.flag (memKey d 0x10) c = true)
    ∧ (let s : State := { up with basinMem := [(0, { loadFull := true, liveCheck := [(3, true)] })],
                                  regs := [(memKey 0 0x10, 8)], time := 80 }
       let mc : MemChanId := 3
       let d := mc.val / 32
       let c := mc.val % 32
       tblGet false (s.bmem d).liveCheck c = true)
    ∧ (let s : State := { up with basinMem := [(0, { loadFull := true, liveCheck := [(3, true)] })],
                                  regs := [(memKey 0 0x10, 8)], time := 80 }
       let mc : MemChanId := 3
       let d := mc.val / 32
       let c := mc.val % 32
       tblGet false (s.bmem d).liveCheck c = true)
    ∧ (let s : State := { up with time := 1000080, lines := [(0, { st := .running, idleFrom := some 80 })] }
       let l : LineId := 0
       s.isLeader l = true
       ∧ s.idleNow l = true
       ∧ ((s.line l).st = .stopped ∨ sinceMs (s.line l).idleFrom s.time = true))
    ∧ (let s : State := { up with basinMem := [(0, { maintEnd := some 100 })] }
       let mc : MemChanId := 3
       let d := mc.val / 32
       let c := mc.val % 32
       let used := (s.chansOf d).contains c = true ∧ s.chanGood d c = true
       used
       ∧ s.quiet d = true
       ∧ s.calAllowed d = true
       ∧ (s.bmem d).calibrating = none)
    ∧ (let s : State := { up with basinMem := [(0, { maintEnd := some 100, calibrating := some 3 })], time := 80 }
       let mc : MemChanId := 3
       let d := mc.val / 32
       let c := mc.val % 32
       let used := (s.chansOf d).contains c = true ∧ s.chanGood d c = true
       used
       ∧ s.quiet d = true
       ∧ s.calAllowed d = true
       ∧ (s.bmem d).calibrating = some c)
    ∧ (let s : State := { up with basinMem := [(0, { calibrating := some 3 })] }
       let mc : MemChanId := 3
       let d := mc.val / 32
       let c := mc.val % 32
       (s.bmem d).calibrating = some c
       ∧ s.quiet d = false)
    ∧ (let s : State := { up with basinMem := [(0, { maintEnd := some 100 })] }
       let b : BasinId := 0
       let via : Via := .host
       let v : Word := 0x0
       s.bWrites via b = true
       ∧ v.field 17 15 = 0
       ∧ v.field 48 16 = 0)
    ∧ (let s : State := { up with basinMem := [(0, { maintEnd := some 80 })], time := 80 }
       let b : BasinId := 0
       let e : Nat := 80
       (s.bmem b).maintEnd = some e
       ∧ e ≤ s.time) := by
  and_intros <;> decide +kernel

/-- States and operands that meet the premises of each clause of TransferSubmission. -/
theorem test_TransferSubmission :
    (let s : State := mapped
     let via : Via := .host
     let c : ChanId := 3
     let v : Word := 0x1000
     let b := c.val / 16
     let l := s.leaderOf b
     let a := v.field 3 49 * 8
     let w (i : Nat) : Word := wordAt s (a + 8 * i)
     s.bWrites via b = true
     ∧ v.field 52 12 = 0
     ∧ (s.line l).st = .running
     ∧ s.chanRoom c = true
     ∧ Readable s l a 136
     ∧ (w 14).field 0 57 = 0)
    ∧ (let s : State := { mapped with chans := [(3, { queue := [{}, {}, {}, {}, {}, {}, {}, {}] })] }
       let via : Via := .host
       let c : ChanId := 3
       let v : Word := 0x0
       let b := c.val / 16
       let l := s.leaderOf b
       s.bWrites via b = true
       ∧ v.field 52 12 = 0
       ∧ (s.line l).st = .running
       ∧ s.chanRoom c = false)
    ∧ (let s : State := { up with regs := [(chKey 3 0, 2)] }
       let via : Via := .host
       let c : ChanId := 3
       let v : Word := 0x0
       let b := c.val / 16
       s.bWrites via b = true
       ∧ v.field 2 62 = 0
       ∧ v.flag 0 = false)
    ∧ (let s : State := { up with chans := [(3, { queue := [{ running := true }, {}] })] }
       let via : Via := .host
       let c : ChanId := 3
       let v : Word := 0x1
       let b := c.val / 16
       let l := s.leaderOf b
       let src := 0x80 + 16 * s.place b + c.val % 16
       let x : Xfer := { running := true }
       let rest : List Xfer := [{}]
       s.bWrites via b = true
       ∧ v.field 2 62 = 0
       ∧ v.flag 0 = true
       ∧ (s.chan c).queue = x :: rest
       ∧ x.running = true
       ∧ x.rdone = false
       ∧ x.sent = []
       ∧ x.recDpa = none
       ∧ (s.lineStOf b).works = true
       ∧ RouteOff s l src) := by
  and_intros
  all_goals first
    | decide +kernel
    | simp only [Readable, quiet_iff, RouteOff] <;> decide +kernel

/-- States and operands that meet the premises of each clause of TransferStarts. -/
theorem test_TransferStarts :
    (let s : State := { up with chans := [(3, { queue := [{ words := [0x4000000001, 0x1122334455667788, 0x3000,
                                                              0x1000100010001, 0x0, 0x0, 0x0, 0x0, 0x0, 0x0, 0x0,
                                                              0x0, 0x0, 0x0, 0x0, 0x0, 0x0] }, {}] })] }
     let c : ChanId := 3
     let x : Xfer := { words := [0x4000000001, 0x1122334455667788, 0x3000, 0x1000100010001, 0x0, 0x0, 0x0, 0x0, 0x0,
                         0x0, 0x0, 0x0, 0x0, 0x0, 0x0, 0x0, 0x0] }
     let rest : List Xfer := [{}]
     let b := c.val / 16
     let l := s.leaderOf b
     (s.lineStOf b).works = true
     ∧ (s.chan c).queue = x :: rest
     ∧ x.running = false
     ∧ s.flag (chKey c 0) 1 = false
     ∧ x.op ≠ 3
     ∧ x.cls ≠ 3
     ∧ (x.op = 2 → x.dstRemote = true)
     ∧ (x.srcRemote = true → x.dstRemote = false)
     ∧ x.reserved = false
     ∧ (x.empty = false → x.overlaps = false)
     ∧ s.jobEnded l x.job = false
     ∧ x.empty = false
     ∧ (x.remote = true → ∀ st, s.ctxGate l x.peer x.cls ≠ .gone st))
    ∧ (let s : State := { up with lines := [(0, { st := .stopping, ended := [(7, true)] })], chans := [(3,
                                    { queue := [{ words := [0x4000000001, 0x1122334455667788, 0x3000,
                                                    0x1000100010001, 0x0, 0x0, 0x0, 0x0, 0x0, 0x0, 0x0, 0x0, 0x0,
                                                    0x0, 0x0, 0x0, 0x0], job := 7 }, {}] })] }
       let c : ChanId := 3
       let x : Xfer := { words := [0x4000000001, 0x1122334455667788, 0x3000, 0x1000100010001, 0x0, 0x0, 0x0, 0x0,
                           0x0, 0x0, 0x0, 0x0, 0x0, 0x0, 0x0, 0x0, 0x0], job := 7 }
       let rest : List Xfer := [{}]
       let b := c.val / 16
       let l := s.leaderOf b
       (s.lineStOf b).works = true
       ∧ (s.chan c).queue = x :: rest
       ∧ x.running = false
       ∧ s.flag (chKey c 0) 1 = false
       ∧ x.op ≠ 3
       ∧ x.cls ≠ 3
       ∧ (x.op = 2 → x.dstRemote = true)
       ∧ (x.srcRemote = true → x.dstRemote = false)
       ∧ x.reserved = false
       ∧ (x.empty = false → x.overlaps = false)
       ∧ s.jobEnded l x.job = true
       ∧ x.recDpa = none
       ∧ RouteOff s l (0x80 + 16 * s.place b + c.val % 16)) := by
  and_intros
  all_goals first
    | decide +kernel
    | simp only [RouteOff] <;> decide +kernel
    | exact fun h => absurd h (by decide +kernel)

/-- States and operands that meet the premises of each clause of TransferDelivery. -/
theorem test_TransferDelivery :
    (let s : State := { mapped with chans := [(3, { queue := [{ words := [0x4800000001, 0x1122334455667788, 0x3008,
                                                                  0x1000100010001, 0x0, 0x0, 0x0, 0x0, 0x0, 0x0,
                                                                  0x0, 0x0, 0x0, 0x0, 0x0, 0x0, 0x0],
                                                                running := true }, {}] })] }
     let c : ChanId := 3
     let x : Xfer := { words := [0x4800000001, 0x1122334455667788, 0x3008, 0x1000100010001, 0x0, 0x0, 0x0, 0x0, 0x0,
                         0x0, 0x0, 0x0, 0x0, 0x0, 0x0, 0x0, 0x0], running := true }
     let rest : List Xfer := [{}]
     let g : Seg := (x.delivery 0).headD ⟨0, 0, 0, 0⟩
     let pa : Nat := 0x3008
     let b := c.val / 16
     let l := s.leaderOf b
     let r : State := ((s.clean.turnOf b l (s.engineWaits b) (c.val % 16)).getD s)
     let who := s.chanWho c x.asid
     let va := x.dstAt x.pos
     let s1 : State := (r.xlateFor who va false true).2
     (s.lineStOf b).works = true
     ∧ (s.chan c).queue = x :: rest
     ∧ x.running = true
     ∧ x.remote = false
     ∧ x.sent = []
     ∧ s.clean.turnOf b l (s.engineWaits b) (c.val % 16) = some r
     ∧ s.jobEnded l x.job = false
     ∧ x.recDpa = none
     ∧ (x.w 12).flag 15 = false
     ∧ (x.w 12).flag 47 = false
     ∧ x.delivery x.pos = [g]
     ∧ x.op = 1
     ∧ r.xlateFor who va false true = (.ok pa, s1)
     ∧ s1.misuse = none
     ∧ BlockWritable s1 l (pa / 4096))
    ∧ (let s : State := { mapped with chans := [(3, { queue := [{ words := [0x4800000000, 0x1fb8, 0x3008,
                                                                    0x1000100010001, 0x0, 0x0, 0x0, 0x0, 0x0, 0x0,
                                                                    0x0, 0x0, 0x0, 0x0, 0x0, 0x0, 0x0],
                                                                  running := true }, {}] })] }
       let c : ChanId := 3
       let x : Xfer := { words := [0x4800000000, 0x1fb8, 0x3008, 0x1000100010001, 0x0, 0x0, 0x0, 0x0, 0x0, 0x0, 0x0,
                           0x0, 0x0, 0x0, 0x0, 0x0, 0x0], running := true }
       let rest : List Xfer := [{}]
       let g : Seg := (x.delivery 0).headD ⟨0, 0, 0, 0⟩
       let pa : Nat := 0x3008
       let ps : Nat := 0x1FB8
       let b := c.val / 16
       let l := s.leaderOf b
       let r : State := ((s.clean.turnOf b l (s.engineWaits b) (c.val % 16)).getD s)
       let who := s.chanWho c x.asid
       let s1 : State := (r.xlateFor who g.src true false).2
       let va := x.dstAt x.pos
       let s2 : State := (s1.xlateFor who va false true).2
       (s.lineStOf b).works = true
       ∧ (s.chan c).queue = x :: rest
       ∧ x.running = true
       ∧ x.remote = false
       ∧ x.sent = []
       ∧ s.clean.turnOf b l (s.engineWaits b) (c.val % 16) = some r
       ∧ s.jobEnded l x.job = false
       ∧ x.recDpa = none
       ∧ (x.w 12).flag 15 = false
       ∧ (x.w 12).flag 47 = false
       ∧ x.delivery x.pos = [g]
       ∧ x.op = 0
       ∧ g.src % 4096 + g.len ≤ 4096
       ∧ r.xlateFor who g.src true false = (.ok ps, s1)
       ∧ s1.blockValid (ps / 4096) = true
       ∧ Readable s1 l ps g.len
       ∧ s1.xlateFor who va false true = (.ok pa, s2)
       ∧ s2.misuse = none
       ∧ BlockWritable s2 l (pa / 4096)) := by
  and_intros
  all_goals first
    | decide +kernel
    | simp only [Readable, quiet_iff, BlockWritable] <;> decide +kernel

/-- States and operands that meet the premises of each clause of TranslationFences. -/
theorem test_TranslationFences :
    (let s : State := { up with regs := [(xlKey 0 0x10, 0x3FFFFFFFFF)] }
     let via : Via := .host
     let l : LineId := 0
     let v : Word := 0x30001
     s.lnWrites via l = true
     ∧ v.field 39 25 = 0
     ∧ v.flag 38 = false)
    ∧ (let s : State := { up with lines := [(0, { st := .running, fences := [{}, {}, {}], fencesIssued := 65535 })],
                                  regs := [(xlKey 0 0x18, 0xFFFFF123456789AB)] }
       let via : Via := .host
       let l : LineId := 0
       let v : Word := 0x4000000003
       let ln := s.line l
       s.lnWrites via l = true
       ∧ v.field 39 25 = 0
       ∧ v.flag 38 = true
       ∧ ln.fences.length < 4)
    ∧ (let s : State := { up with lines := [(0, { st := .running, fences := [{}, {}, {}, {}] })] }
       let via : Via := .host
       let l : LineId := 0
       let v : Word := 0x4000000003
       let ln := s.line l
       s.lnWrites via l = true
       ∧ v.field 39 25 = 0
       ∧ v.flag 38 = true
       ∧ 4 ≤ ln.fences.length)
    ∧ (let s : State := { up with lines := [(0, { st := .running, fences := [{ asid := 3, vpn := 16, pages := 2 },
                                                    {}] })], tlbs := [(0,
                                    [{ asid := 3, level := 0, part := 16, pte := 0xD7, leaf := true },
                                    { asid := 3, level := 0, part := 18, pte := 0xD7, leaf := true },
                                    { asid := 4, level := 0, part := 16, pte := 0xD7, leaf := true },
                                    { asid := 3, level := 1, part := 0, pte := 0xD7, leaf := true },
                                    { asid := 3, level := 2, part := 0, pte := 0xD7, leaf := false },
                                    { asid := 3, level := 1, part := 1, pte := 0xD7, leaf := true }]), (1,
                                    [{ asid := 3, level := 0, part := 16, pte := 0xD7, leaf := true },
                                    { asid := 3, level := 0, part := 18, pte := 0xD7, leaf := true },
                                    { asid := 4, level := 0, part := 16, pte := 0xD7, leaf := true },
                                    { asid := 3, level := 1, part := 0, pte := 0xD7, leaf := true },
                                    { asid := 3, level := 2, part := 0, pte := 0xD7, leaf := false },
                                    { asid := 3, level := 1, part := 1, pte := 0xD7, leaf := true }])] }
       let l : LineId := 0
       let ln := s.line l
       let f : Fence := { asid := 3, vpn := 16, pages := 2 }
       let rest : List Fence := [{}]
       ln.fences = f :: rest
       ∧ ln.fenceOn = false)
    ∧ (let s : State := { up with lines := [(0, { st := .running, fences := [{ asid := 3, vpn := 16, pages := 2 },
                                                    {}], fenceOn := true })], chans := [(3,
                                    { queue := [{ fenced := true }] })] }
       let l : LineId := 0
       let ln := s.line l
       let f : Fence := { asid := 3, vpn := 16, pages := 2 }
       let rest : List Fence := [{}]
       ln.fences = f :: rest
       ∧ ln.fenceOn = true
       ∧ s.fenceHeld l = true)
    ∧ (let s : State := { up with lines := [(0, { st := .running, fences := [{ asid := 3, vpn := 16, pages := 2 },
                                                    {}], fenceOn := true, fencesDone := 65535 })] }
       let l : LineId := 0
       let ln := s.line l
       let f : Fence := { asid := 3, vpn := 16, pages := 2 }
       let rest : List Fence := [{}]
       ln.fences = f :: rest
       ∧ ln.fenceOn = true
       ∧ s.fenceHeld l = false
       ∧ f.src = .register
       ∧ s.fenceWaiter l = none)
    ∧ (let s : State := up
       let via : Via := .host
       let l : LineId := 0
       let v : Word := 0
       s.lnWrites via l = true
       ∧ v.field 1 63 = 0) := by
  and_intros <;> decide +kernel

/-- States and operands that meet the premises of each clause of QueueControl. -/
theorem test_QueueControl :
    (let s : State := withWords { mapped with regs := [(lnKey 0 0x400, 0x3000)] } 0x3140 [0x4000,
        0x0000000000008000, 0x0000000700801005, 0x1234]
     let via : Via := .host
     let l : LineId := 0
     let v : Word := 0x5005
     let q := v.field 0 12
     let x := s.queue (qKey l q)
     let a := s.tableEntry l q
     let w (i : Nat) : Word := wordAt s (a + 8 * i)
     s.lnWrites via l = true
     ∧ v.field 19 13 = 0
     ∧ v.flag 14 = true
     ∧ v.field 12 2 = 1
     ∧ q < s.queueCount l
     ∧ x.st = .off
     ∧ Readable s l a 64
     ∧ (w 0).field 52 4 ≤ 8
     ∧ (w 1).field 52 4 ≤ 12
     ∧ s.ringPlace l ((w 0).field 0 52) = true
     ∧ s.ringPlace l ((w 1).field 0 52) = true
     ∧ (w 2).field 0 12 = q
     ∧ (w 0).field 56 2 ≠ 3)
    ∧ (let s : State := { mapped with queues := [(5, { st := .active, fetched := [{}], h := 5, waiting := some 5,
                                                       refetch := 3 })] }
       let via : Via := .host
       let l : LineId := 0
       let v : Word := 0x6005
       let q := v.field 0 12
       let x := s.queue (qKey l q)
       s.lnWrites via l = true
       ∧ v.field 19 13 = 0
       ∧ v.flag 14 = true
       ∧ v.field 12 2 = 2
       ∧ (x.st = .active ∨ x.st = .parked)
       ∧ (∀ p ∈ s.lineQueues l, p ≠ q → (s.queue (qKey l p)).st ≠ .off → (s.queue (qKey l p)).cqid ≠ q))
    ∧ (let s : State := { mapped with queues := [(5, { st := .parked, h := 5 })] }
       let via : Via := .host
       let l : LineId := 0
       let v : Word := 0x7005
       let q := v.field 0 12
       let x := s.queue (qKey l q)
       s.lnWrites via l = true
       ∧ v.field 19 13 = 0
       ∧ v.flag 14 = true
       ∧ v.field 12 2 = 3
       ∧ x.st = .parked)
    ∧ (let s : State := { mapped with queues := [(5, { st := .disabling, wasParked := true, h := 65535 })],
                                      regs := [(lnKey 0 0x400, 0x3000)] }
       let l : LineId := 0
       let v : Word := 5
       let q := v.field 0 12
       let x := s.queue (qKey l q)
       let a := s.tableEntry l q
       x.st = .disabling
       ∧ x.running = []
       ∧ (∀ p ∈ s.lineQueues l, (s.queue (qKey l p)).st = .disabling → p = q)
       ∧ Writable s l (a + 32) 8) := by
  and_intros
  all_goals first
    | decide +kernel
    | simp only [writable_iff, quiet_iff, Readable] <;> decide +kernel

/-- States and operands that meet the premises of each clause of Doorbells. -/
theorem test_Doorbells :
    (let s : State := { mapped with queues := [(5, { st := .active, sqSize := 16, cqSize := 16, h := 65530,
                                                     t := 65534, cqWritten := 20, cqHead := 10, cqid := 5 })] }
     let via : Via := .host
     let l : LineId := 0
     let q : QueueId := 5
     let v : Word := 0xa000a
     let x := s.queue (qKey l q)
     let d := v.field 16 16
     s.lnWrites via l = true
     ∧ q.val < s.queueCount l
     ∧ x.st ≠ .off
     ∧ v.field 32 32 = 0
     ∧ v.field 0 16 = d % x.sqSize
     ∧ (¬ (seqSub x.h d ≤ x.sqSize ∧ d ≠ x.h))
     ∧ seqSub d x.h ≤ x.sqSize)
    ∧ (let s : State := { mapped with queues := [(5, { st := .active, sqSize := 16, cqSize := 16, h := 65530,
                                                       t := 65534, cqWritten := 20, cqHead := 10, cqid := 5 })] }
       let via : Via := .host
       let l : LineId := 0
       let q : QueueId := 5
       let v : Word := 0x30004
       let x := s.queue (qKey l q)
       let d := v.field 16 16
       s.lnWrites via l = true
       ∧ q.val < s.queueCount l
       ∧ x.st ≠ .off
       ∧ v.field 32 32 = 0
       ∧ v.field 0 16 ≠ d % x.sqSize
       ∧ s.flag (lnKey l 0x410) 36 = false
       ∧ RouteOff s l 0x100)
    ∧ (let s : State := { mapped with queues := [(5, { st := .active, sqSize := 16, cqSize := 16, h := 65530,
                                                       t := 65534, cqWritten := 20, cqHead := 10, cqid := 5 })] }
       let via : Via := .host
       let l : LineId := 0
       let q : QueueId := 5
       let v : Word := 0x4
       let x := s.queue (qKey l q)
       let n := (v.field 0 16 + x.cqSize - x.cqHead % x.cqSize) % x.cqSize
       s.lnWrites via l = true
       ∧ q.val < s.queueCount l
       ∧ x.st ≠ .off
       ∧ v.field 16 48 = 0
       ∧ v.field 0 16 < x.cqSize
       ∧ n ≤ x.cqWritten - x.cqHead
       ∧ x.fetched = []
       ∧ (∀ p ∈ s.lineQueues l, ∀ c ∈ (s.queue (qKey l p)).running, c.done = false)) := by
  and_intros
  all_goals first
    | decide +kernel
    | simp only [RouteOff] <;> decide +kernel

/-- States and operands that meet the premises of each clause of EntryFetch. -/
theorem test_EntryFetch :
    (let s : State := withWords { mapped with queues := [(5, { st := .active, sqBase := 0x4000, sqSize := 16,
                                                               h := 5, t := 6, cqSize := 16, cqid := 5,
                                                               reach := 5 })] } 0x4280 [0x50100, 7]
     let l : LineId := 0
     let q : QueueId := 5
     let x := s.queue (qKey l q)
     let a := x.sqBase + x.h % x.sqSize * 128
     let bs := (List.range 128).map fun i => seen s (a + i)
     let c : ACmd :=
       { seq := x.h, entries := 1, w0 := entryWord bs 0, w1 := entryWord bs 1, arg0 := entryWord bs 2
         arg1 := entryWord bs 3, payload := bs.drop 32 }
     s.fetches l q = true
     ∧ x.fetched = []
     ∧ x.kept = []
     ∧ x.h < 65536
     ∧ (x.h + 1) % 65536 = x.t
     ∧ 0 < x.sqSize
     ∧ Readable s l a 128
     ∧ entryValid bs x.h x.sqSize = true
     ∧ (entryWord bs 0).field 9 3 = 0
     ∧ c.isBad = false
     ∧ x.reach = x.h)
    ∧ (let s : State := withWords { mapped with queues := [(5,
                                                  { st := .active, sqBase := 0x4000, sqSize := 16, h := 5, t := 6,
                                                    cqSize := 16, cqid := 5, reach := 6, waiting := some 5,
                                                    refetch := 7 })] } 0x4280 [0x50104, 7, 0x3000, 0, 0]
       let l : LineId := 0
       let q : QueueId := 5
       let x := s.queue (qKey l q)
       let a := x.sqBase + x.h % x.sqSize * 128
       let bs := (List.range 128).map fun i => seen s (a + i)
       let c : ACmd :=
         { seq := x.h, entries := 1, w0 := entryWord bs 0, w1 := entryWord bs 1, arg0 := entryWord bs 2
           arg1 := entryWord bs 3, payload := bs.drop 32 }
       s.fetches l q = true
       ∧ x.fetched = []
       ∧ x.kept = []
       ∧ x.h < 65536
       ∧ (x.h + 1) % 65536 = x.t
       ∧ 0 < x.sqSize
       ∧ Readable s l a 128
       ∧ entryValid bs x.h x.sqSize = true
       ∧ (entryWord bs 0).field 9 3 = 0
       ∧ c.isBad = false
       ∧ x.reach = x.t
       ∧ x.waiting = some x.h)
    ∧ (let s : State := withWords { mapped with queues := [(5,
                                                  { st := .active, sqBase := 0x4000, sqSize := 16, h := 5, t := 6,
                                                    cqSize := 16, cqid := 5, reach := 5,
                                                    refetch := 3 })] } 0x4280 [0x50004, 7, 0x3000, 0, 0]
       let l : LineId := 0
       let q : QueueId := 5
       let x := s.queue (qKey l q)
       let a := x.sqBase + x.h % x.sqSize * 128
       let bs := (List.range 128).map fun i => seen s (a + i)
       s.fetches l q = true
       ∧ x.fetched = []
       ∧ x.kept = []
       ∧ x.h < 65536
       ∧ (x.h + 1) % 65536 = x.t
       ∧ 0 < x.sqSize
       ∧ Readable s l a 128
       ∧ entryValid bs x.h x.sqSize = false
       ∧ x.reach = x.h
       ∧ x.waiting = none)
    ∧ (let s : State := withWords { mapped with queues := [(5,
                                                  { st := .active, sqBase := 0x4000, sqSize := 16, h := 5, t := 6,
                                                    cqSize := 16, cqid := 5, reach := 6, waiting := some 5,
                                                    refetch := 6 })] } 0x4280 [0x50004, 7, 0x3000, 0, 0]
       let l : LineId := 0
       let q : QueueId := 5
       let x := s.queue (qKey l q)
       let a := x.sqBase + x.h % x.sqSize * 128
       let bs := (List.range 128).map fun i => seen s (a + i)
       s.fetches l q = true
       ∧ x.fetched = []
       ∧ x.kept = []
       ∧ x.h < 65536
       ∧ (x.h + 1) % 65536 = x.t
       ∧ 0 < x.sqSize
       ∧ Readable s l a 128
       ∧ entryValid bs x.h x.sqSize = false
       ∧ x.waiting = some x.h
       ∧ x.refetch < 7) := by
  and_intros
  all_goals first
    | decide +kernel
    | simp only [Readable, quiet_iff] <;> decide +kernel

/-- States and operands that meet the premises of each clause of AporiWork. -/
theorem test_AporiWork :
    (let s : State := { mapped with queues := [(5, { st := .active, sqBase := 0x4000, sqSize := 16,
                                                     cqBase := 0x8000, cqSize := 16, cqid := 5, h := 5, t := 6,
                                                     cqWritten := 31, cqHead := 20,
                                                     fetched := [{ seq := 5, w0 := 0x50100, w1 := 0x0, arg0 := 0x0,
                                                                   arg1 := 0x0, payload := [] }] })] }
     let l : LineId := 0
     let q : QueueId := 5
     let r : State := ((s.clean.turnOf (8 + l.val) l (s.clean.queueWaits l) q).getD s)
     let c : ACmd := { seq := 5, w0 := 0x50100, w1 := 0x0, arg0 := 0x0, arg1 := 0x0, payload := [] }
     Dispatches s r l q c
     ∧ c.opcode = 0)
    ∧ (let s : State := { mapped with queues := [(5, { st := .active, sqBase := 0x4000, sqSize := 16,
                                                       cqBase := 0x8000, cqSize := 16, cqid := 5, h := 5, t := 6,
                                                       cqWritten := 31, cqHead := 20,
                                                       fetched := [{ seq := 5, w0 := 0x50101, w1 := 0x0,
                                                                     arg0 := 0x38, arg1 := 0x0, payload := [64, 0,
                                                                       0, 0, 0, 0, 1, 0, 0, 0, 0, 0, 0, 0, 0, 0, 3,
                                                                       0, 0, 0, 0, 0, 0, 0, 4, 0, 0, 0, 0, 0, 0, 0,
                                                                       5, 0, 0, 0, 0, 0, 0, 0, 6, 0, 0, 0, 0, 0, 0,
                                                                       0, 7, 0, 0, 0, 0, 0, 0, 0, 8, 0, 0, 0, 0, 0,
                                                                       0, 0] }] })] }
       let l : LineId := 0
       let q : QueueId := 5
       let r : State := ((s.clean.turnOf (8 + l.val) l (s.clean.queueWaits l) q).getD s)
       let c : ACmd := { seq := 5, w0 := 0x50101, w1 := 0x0, arg0 := 0x38, arg1 := 0x0, payload := [64, 0, 0, 0, 0,
                           0, 1, 0, 0, 0, 0, 0, 0, 0, 0, 0, 3, 0, 0, 0, 0, 0, 0, 0, 4, 0, 0, 0, 0, 0, 0, 0, 5, 0, 0,
                           0, 0, 0, 0, 0, 6, 0, 0, 0, 0, 0, 0, 0, 7, 0, 0, 0, 0, 0, 0, 0, 8, 0, 0, 0, 0, 0, 0, 0] }
       let b : Nat := 0
       let u := b * 8 + c.arg0.field 3 3
       Dispatches s r l q c
       ∧ c.opcode = 1
       ∧ s.atPlace l (c.arg0.field 0 3) = some b
       ∧ (s.pond u).launches.length < 8
       ∧ (entryWord c.payload 0).field 48 2 ≠ 3)
    ∧ (let s : State := { mapped with queues := [(5, { st := .active, sqBase := 0x4000, sqSize := 16,
                                                       cqBase := 0x8000, cqSize := 16, cqid := 5, h := 5, t := 6,
                                                       cqWritten := 31, cqHead := 20,
                                                       fetched := [{ seq := 5, w0 := 0x50102, w1 := 0x3,
                                                                     arg0 := 0x78, arg1 := 0x0, payload := [1, 0, 0,
                                                                       0, 64, 0, 0, 0, 136, 119, 102, 85, 68, 51,
                                                                       34, 17, 0, 48, 0, 0, 0, 0, 0, 0, 1, 0, 1, 0,
                                                                       1, 0, 1, 0, 0, 0, 0, 0, 0, 0, 0, 0, 0, 0, 0,
                                                                       0, 0, 0, 0, 0, 0, 0, 0, 0, 0, 0, 0, 0, 0, 0,
                                                                       0, 0, 0, 0, 0, 0, 0, 0, 0, 0, 0, 0, 0, 0, 0,
                                                                       0, 0, 0, 0, 0, 0, 0, 0, 0, 0, 0, 0, 0, 0, 0,
                                                                       0, 0, 0, 0, 0, 0, 0, 0, 0, 0, 0, 0, 0, 0, 0,
                                                                       0, 0, 0, 0, 0, 0, 0, 0, 0, 0, 0, 0, 0, 0, 0,
                                                                       0, 0, 0, 0, 0, 0, 0, 0, 0, 0, 0, 0, 0, 0, 0,
                                                                       0, 0, 0] }] })] }
       let l : LineId := 0
       let q : QueueId := 5
       let r : State := ((s.clean.turnOf (8 + l.val) l (s.clean.queueWaits l) q).getD s)
       let c : ACmd := { seq := 5, w0 := 0x50102, w1 := 0x3, arg0 := 0x78, arg1 := 0x0, payload := [1, 0, 0, 0, 64,
                           0, 0, 0, 136, 119, 102, 85, 68, 51, 34, 17, 0, 48, 0, 0, 0, 0, 0, 0, 1, 0, 1, 0, 1, 0, 1,
                           0, 0, 0, 0, 0, 0, 0, 0, 0, 0, 0, 0, 0, 0, 0, 0, 0, 0, 0, 0, 0, 0, 0, 0, 0, 0, 0, 0, 0, 0,
                           0, 0, 0, 0, 0, 0, 0, 0, 0, 0, 0, 0, 0, 0, 0, 0, 0, 0, 0, 0, 0, 0, 0, 0, 0, 0, 0, 0, 0, 0,
                           0, 0, 0, 0, 0, 0, 0, 0, 0, 0, 0, 0, 0, 0, 0, 0, 0, 0, 0, 0, 0, 0, 0, 0, 0, 0, 0, 0, 0, 0,
                           0, 0, 0, 0, 0, 0, 0, 0, 0, 0, 0, 0, 0, 0, 0] }
       let b : Nat := 0
       let ch := b * 16 + c.arg0.field 3 4
       let x0 : Xfer :=
         { words := payloadWords c.payload 17, asid := s.cmdAsid l q c, job := c.job, cls := s.queueCls l q,
           src := .command }
       Dispatches s r l q c
       ∧ c.opcode = 2
       ∧ s.atPlace l (c.arg0.field 0 3) = some b
       ∧ s.chanRoom ch = true
       ∧ (x0.w 14).field 0 57 = 0)
    ∧ (let s : State := { mapped with queues := [(5, { st := .active, sqBase := 0x4000, sqSize := 16,
                                                       cqBase := 0x8000, cqSize := 16, cqid := 5, h := 5, t := 6,
                                                       cqWritten := 31, cqHead := 20,
                                                       fetched := [{ seq := 5, w0 := 0x50102, w1 := 0x0,
                                                                     arg0 := 0x78, arg1 := 0x0, payload := [1, 0, 0,
                                                                       0, 64, 0, 0, 0, 136, 119, 102, 85, 68, 51,
                                                                       34, 17, 0, 48, 0, 0, 0, 0, 0, 0, 1, 0, 1, 0,
                                                                       1, 0, 1, 0, 0, 0, 0, 0, 0, 0, 0, 0, 0, 0, 0,
                                                                       0, 0, 0, 0, 0, 0, 0, 0, 0, 0, 0, 0, 0, 0, 0,
                                                                       0, 0, 0, 0, 0, 0, 0, 0, 0, 0, 0, 0, 0, 0, 0,
                                                                       0, 0, 0, 0, 0, 0, 0, 0, 0, 0, 0, 0, 0, 0, 0,
                                                                       0, 0, 0, 0, 0, 0, 0, 0, 0, 0, 0, 0, 0, 0, 0,
                                                                       0, 0, 0, 0, 0, 0, 0, 0, 0, 0, 49, 0, 0, 0, 0,
                                                                       0, 0, 0, 0, 0, 0, 0, 0, 0, 0, 0, 0, 0, 0, 0,
                                                                       0, 0, 0] }] })] }
       let l : LineId := 0
       let q : QueueId := 5
       let r : State := ((s.clean.turnOf (8 + l.val) l (s.clean.queueWaits l) q).getD s)
       let c : ACmd := { seq := 5, w0 := 0x50102, w1 := 0x0, arg0 := 0x78, arg1 := 0x0, payload := [1, 0, 0, 0, 64,
                           0, 0, 0, 136, 119, 102, 85, 68, 51, 34, 17, 0, 48, 0, 0, 0, 0, 0, 0, 1, 0, 1, 0, 1, 0, 1,
                           0, 0, 0, 0, 0, 0, 0, 0, 0, 0, 0, 0, 0, 0, 0, 0, 0, 0, 0, 0, 0, 0, 0, 0, 0, 0, 0, 0, 0, 0,
                           0, 0, 0, 0, 0, 0, 0, 0, 0, 0, 0, 0, 0, 0, 0, 0, 0, 0, 0, 0, 0, 0, 0, 0, 0, 0, 0, 0, 0, 0,
                           0, 0, 0, 0, 0, 0, 0, 0, 0, 0, 0, 0, 0, 0, 0, 0, 0, 0, 0, 0, 0, 0, 49, 0, 0, 0, 0, 0, 0,
                           0, 0, 0, 0, 0, 0, 0, 0, 0, 0, 0, 0, 0, 0, 0, 0] }
       let b : Nat := 0
       let pa : Nat := 0x3100
       let s0 := r.take l q c
       let slot := cqSlot s l q
       let va := c.arg0.field 0 57
       let ch := b * 16 + c.arg0.field 3 4
       let x0 : Xfer :=
         { words := payloadWords c.payload 17, asid := s.cmdAsid l q c, job := c.job, cls := s.queueCls l q,
           src := .command }
       let low := s0.lowBitsOf x0.words [(14, 0, 57, 64)]
       let x1 : Xfer := { x0 with words := low.1 }
       let s1 : State := (low.2.xlateFor (s.chanWho ch x0.asid) ((x1.w 14).field 0 57) false true).2
       let xlates (s2 : State) (w : Who) (va : Nat) (rd wr : Bool) : Prop :=
         s2.xlateFor w va rd wr = (.ok pa, s1) ∧ s1.misuse = none ∧ Writable s1 l slot 32
       Dispatches s r l q c
       ∧ c.opcode = 2
       ∧ s.atPlace l (c.arg0.field 0 3) = some b
       ∧ s.chanRoom ch = true
       ∧ (x1.w 14).field 0 57 ≠ 0
       ∧ xlates low.2 (s.chanWho ch x0.asid) ((x1.w 14).field 0 57) false true)
    ∧ (let s : State := { mapped with queues := [(5, { st := .active, sqBase := 0x4000, sqSize := 16,
                                                       cqBase := 0x8000, cqSize := 16, cqid := 5, h := 5, t := 6,
                                                       cqWritten := 31, cqHead := 20,
                                                       fetched := [{ seq := 5, w0 := 0x50103, w1 := 0x0,
                                                                     arg0 := 0x3010, arg1 := 0x5, payload := [1, 2,
                                                                       3, 4, 5, 6, 7, 8] }] })] }
       let l : LineId := 0
       let q : QueueId := 5
       let r : State := ((s.clean.turnOf (8 + l.val) l (s.clean.queueWaits l) q).getD s)
       let c : ACmd := { seq := 5, w0 := 0x50103, w1 := 0x0, arg0 := 0x3010, arg1 := 0x5, payload := [1, 2, 3, 4, 5,
                           6, 7, 8] }
       let pa : Nat := 0x3010
       let s0 := r.take l q c
       let slot := cqSlot s l q
       let va := c.arg0.field 0 57
       let s1 : State := (s0.xlateFor (s0.cmdWho l q c) va false true).2
       let n := min (c.arg1.field 0 10) c.payload.length
       let xlates (s2 : State) (w : Who) (va : Nat) (rd wr : Bool) : Prop :=
         s2.xlateFor w va rd wr = (.ok pa, s1) ∧ s1.misuse = none ∧ Writable s1 l slot 32
       Dispatches s r l q c
       ∧ c.opcode = 3
       ∧ 0 < n
       ∧ va % 4096 + n ≤ 4096
       ∧ xlates s0 (s0.cmdWho l q c) va false true
       ∧ BlockWritable s1 l (pa / 4096)
       ∧ s1.blockValid (pa / 4096) = true
       ∧ (∀ i < 64, (s1.granule (pa / 4096 * 64 + i)).2 = false))
    ∧ (let s : State := { mapped with queues := [(5, { st := .active, sqBase := 0x4000, sqSize := 16,
                                                       cqBase := 0x8000, cqSize := 16, cqid := 5, h := 5, t := 6,
                                                       cqWritten := 31, cqHead := 20,
                                                       fetched := [{ seq := 5, w0 := 0x50104, w1 := 0x0,
                                                                     arg0 := 0x1003, arg1 := 0x0,
                                                                     payload := [] }] })] }
       let l : LineId := 0
       let q : QueueId := 5
       let r : State := ((s.clean.turnOf (8 + l.val) l (s.clean.queueWaits l) q).getD s)
       let c : ACmd := { seq := 5, w0 := 0x50104, w1 := 0x0, arg0 := 0x1003, arg1 := 0x0, payload := [] }
       let pa : Nat := 0x1003
       let s0 := r.take l q c
       let slot := cqSlot s l q
       let va := c.arg0.field 0 57
       let s1 : State := (s0.xlateFor (s0.cmdWho l q c) va true false).2
       let xlates (s2 : State) (w : Who) (va : Nat) (rd wr : Bool) : Prop :=
         s2.xlateFor w va rd wr = (.ok pa, s1) ∧ s1.misuse = none ∧ Writable s1 l slot 32
       Dispatches s r l q c
       ∧ c.opcode = 4
       ∧ va % 4096 + 8 ≤ 4096
       ∧ xlates s0 (s0.cmdWho l q c) va true false
       ∧ Readable s1 l pa 8)
    ∧ (let s : State := { mapped with queues := [(5, { st := .active, sqBase := 0x4000, sqSize := 16,
                                                       cqBase := 0x8000, cqSize := 16, cqid := 5, h := 5, t := 6,
                                                       cqWritten := 31, cqHead := 20,
                                                       fetched := [{ seq := 5, w0 := 0x50109, w1 := 0x0,
                                                                     arg0 := 0x30000, arg1 := 0x0,
                                                                     payload := [] }] })] }
       let l : LineId := 0
       let q : QueueId := 5
       let r : State := ((s.clean.turnOf (8 + l.val) l (s.clean.queueWaits l) q).getD s)
       let c : ACmd := { seq := 5, w0 := 0x50109, w1 := 0x0, arg0 := 0x30000, arg1 := 0x0, payload := [] }
       Dispatches s r l q c
       ∧ c.opcode = 9
       ∧ (s.line l).fences.length < 4) := by
  and_intros
  all_goals first
    | decide +kernel
    | simp only [writable_iff, quiet_iff, dispatches_iff, answerable_iff, Readable,
        BlockWritable] <;> decide +kernel

/-- States and operands that meet the premises of each clause of AporiSync. -/
theorem test_AporiSync :
    (let s : State := { mapped with queues := [(5, { st := .active, sqBase := 0x4000, sqSize := 16,
                                                     cqBase := 0x8000, cqSize := 16, cqid := 5, h := 5, t := 6,
                                                     cqWritten := 31, cqHead := 20,
                                                     fetched := [{ seq := 5, w0 := 0x50105, w1 := 0x0,
                                                                   arg0 := 0xfff, arg1 := 0xffffffffffffffff,
                                                                   payload := [] }] })], mem := [(0x1000, 2),
                                      (0x1007, 0x80), (0x1008, 2), (0x2000, 0xD7), (0x40001FFF8000 + 0x7FF8, 9)] }
     let l : LineId := 0
     let q : QueueId := 5
     let r : State := ((s.clean.turnOf (8 + l.val) l (s.clean.queueWaits l) q).getD s)
     let c : ACmd := { seq := 5, w0 := 0x50105, w1 := 0x0, arg0 := 0xfff, arg1 := 0xffffffffffffffff,
                       payload := [] }
     let i := c.arg0.field 0 15
     let calm := ∀ a, s.counterDpa l i = some a →
       (s.granule (a / 64)).1.length = 64 ∧ s.onFailed a = none ∧ Quiet s (a / 64)
     let old : Nat := 9
     Dispatches s r l q c
     ∧ s.counterVal l i = some old
     ∧ calm
     ∧ c.opcode = 5)
    ∧ (let s : State := { mapped with queues := [(5, { st := .active, sqBase := 0x4000, sqSize := 16,
                                                       cqBase := 0x8000, cqSize := 16, cqid := 5, h := 5, t := 6,
                                                       cqWritten := 31, cqHead := 20,
                                                       fetched := [{ seq := 5, w0 := 0x50107, w1 := 0x0,
                                                                     arg0 := 0xfff, arg1 := 0xff00ffffffffffff,
                                                                     payload := [] }] })], mem := [(0x1000, 2),
                                        (0x1007, 0x80), (0x1008, 2), (0x2000, 0xD7), (0x40001FFF8000 + 0x7FF8, 9)] }
       let l : LineId := 0
       let q : QueueId := 5
       let r : State := ((s.clean.turnOf (8 + l.val) l (s.clean.queueWaits l) q).getD s)
       let c : ACmd := { seq := 5, w0 := 0x50107, w1 := 0x0, arg0 := 0xfff, arg1 := 0xff00ffffffffffff,
                         payload := [] }
       let i := c.arg0.field 0 15
       let calm := ∀ a, s.counterDpa l i = some a →
         (s.granule (a / 64)).1.length = 64 ∧ s.onFailed a = none ∧ Quiet s (a / 64)
       let old : Nat := 9
       Dispatches s r l q c
       ∧ s.counterVal l i = some old
       ∧ calm
       ∧ c.opcode = 7)
    ∧ (let s : State := { mapped with queues := [(5, { st := .active, sqBase := 0x4000, sqSize := 16,
                                                       cqBase := 0x8000, cqSize := 16, cqid := 5, h := 5, t := 6,
                                                       cqWritten := 31, cqHead := 20,
                                                       fetched := [{ seq := 5, w0 := 0x50106, w1 := 0x0,
                                                                     arg0 := 0xfff, arg1 := 0x9,
                                                                     payload := [] }] })], mem := [(0x1000, 2),
                                        (0x1007, 0x80), (0x1008, 2), (0x2000, 0xD7), (0x40001FFF8000 + 0x7FF8, 9)] }
       let l : LineId := 0
       let q : QueueId := 5
       let r : State := ((s.clean.turnOf (8 + l.val) l (s.clean.queueWaits l) q).getD s)
       let c : ACmd := { seq := 5, w0 := 0x50106, w1 := 0x0, arg0 := 0xfff, arg1 := 0x9, payload := [] }
       let i := c.arg0.field 0 15
       let calm := ∀ a, s.counterDpa l i = some a →
         (s.granule (a / 64)).1.length = 64 ∧ s.onFailed a = none ∧ Quiet s (a / 64)
       let old : Nat := 9
       Dispatches s r l q c
       ∧ s.counterVal l i = some old
       ∧ calm
       ∧ c.opcode = 6
       ∧ c.arg1.toNat ≤ old)
    ∧ (let s : State := { mapped with queues := [(5, { st := .active, sqBase := 0x4000, sqSize := 16,
                                                       cqBase := 0x8000, cqSize := 16, cqid := 5, h := 5, t := 6,
                                                       cqWritten := 31, cqHead := 20,
                                                       fetched := [{ seq := 5, w0 := 0x50106, w1 := 0x0,
                                                                     arg0 := 0xfff, arg1 := 0xa,
                                                                     payload := [] }] })], mem := [(0x1000, 2),
                                        (0x1007, 0x80), (0x1008, 2), (0x2000, 0xD7), (0x40001FFF8000 + 0x7FF8, 9)] }
       let l : LineId := 0
       let q : QueueId := 5
       let r : State := ((s.clean.turnOf (8 + l.val) l (s.clean.queueWaits l) q).getD s)
       let c : ACmd := { seq := 5, w0 := 0x50106, w1 := 0x0, arg0 := 0xfff, arg1 := 0xa, payload := [] }
       let i := c.arg0.field 0 15
       let calm := ∀ a, s.counterDpa l i = some a →
         (s.granule (a / 64)).1.length = 64 ∧ s.onFailed a = none ∧ Quiet s (a / 64)
       let old : Nat := 9
       Dispatches s r l q c
       ∧ s.counterVal l i = some old
       ∧ calm
       ∧ c.opcode = 6
       ∧ old < c.arg1.toNat)
    ∧ (let s : State := { mapped with queues := [(5, { st := .active, sqBase := 0x4000, sqSize := 16,
                                                       cqBase := 0x8000, cqSize := 16, cqid := 5, h := 6, t := 6,
                                                       running := [{ seq := 4, w0 := 0x05 },
                                                         { satisfied := true, seq := 5, w0 := 0x50106, w1 := 0x0,
                                                           arg0 := 0x50fff, arg1 := 0xa, payload := [] }] })] }
       let l : LineId := 0
       let q : QueueId := 5
       let c : ACmd := { satisfied := true, seq := 5, w0 := 0x50106, w1 := 0x0, arg0 := 0x50fff, arg1 := 0xa,
                         payload := [] }
       s.waiter l q = some c
       ∧ (s.queue (qKey l q)).running.filter (fun d => d.seq == c.seq) = [c]
       ∧ Answerable s l q c
       ∧ (s.queue (qKey l q)).fetched = []
       ∧ (s.line l).st.works = true
       ∧ c.satisfied = true)
    ∧ (let s : State := { mapped with queues := [(5, { st := .active, sqBase := 0x4000, sqSize := 16,
                                                       cqBase := 0x8000, cqSize := 16, cqid := 5, h := 6, t := 6,
                                                       running := [{ seq := 4, w0 := 0x05 },
                                                         { since := 40, seq := 5, w0 := 0x50106, w1 := 0x0,
                                                           arg0 := 0x50fff, arg1 := 0xa, payload := [] }] })],
                                      time := 5040 }
       let l : LineId := 0
       let q : QueueId := 5
       let c : ACmd := { since := 40, seq := 5, w0 := 0x50106, w1 := 0x0, arg0 := 0x50fff, arg1 := 0xa,
                         payload := [] }
       s.waiter l q = some c
       ∧ (s.queue (qKey l q)).running.filter (fun d => d.seq == c.seq) = [c]
       ∧ Answerable s l q c
       ∧ (s.queue (qKey l q)).fetched = []
       ∧ (s.line l).st.works = true
       ∧ c.satisfied = false
       ∧ c.arg0.field 16 32 ≠ 0
       ∧ c.since + c.arg0.field 16 32 * 1000 ≤ s.time)
    ∧ (let s : State := { mapped with queues := [(5, { st := .active, sqBase := 0x4000, sqSize := 16,
                                                       cqBase := 0x8000, cqSize := 16, cqid := 5, h := 5, t := 6,
                                                       cqWritten := 31, cqHead := 20,
                                                       fetched := [{ seq := 5, w0 := 0x50108, w1 := 0x0,
                                                                     arg0 := 0x10000, arg1 := 0x0, payload := [0, 0,
                                                                       0, 0, 0, 0, 0, 0, 0, 0, 0, 0, 0, 0, 0,
                                                                       0] }] })] }
       let l : LineId := 0
       let q : QueueId := 5
       let r : State := ((s.clean.turnOf (8 + l.val) l (s.clean.queueWaits l) q).getD s)
       let c : ACmd := { seq := 5, w0 := 0x50108, w1 := 0x0, arg0 := 0x10000, arg1 := 0x0, payload := [0, 0, 0, 0,
                           0, 0, 0, 0, 0, 0, 0, 0, 0, 0, 0, 0] }
       let s0 := r.take l q c
       let slot := cqSlot s l q
       let n := c.arg0.field 16 16
       let s1 : State := (s0.mirrorApply l (s0.cmdAsid l q c) (wordPairs (payloadWords c.payload (2 * n)) n)).2
       let m : Mirrored := (s0.mirrorApply l (s0.cmdAsid l q c) (wordPairs (payloadWords c.payload (2 * n)) n)).1
       Dispatches s r l q c
       ∧ c.opcode = 8
       ∧ c.arg0.flag 0 = false
       ∧ c.arg0.flag 1 = false
       ∧ s0.mirrorApply l (s0.cmdAsid l q c) (wordPairs (payloadWords c.payload (2 * n)) n) = (m, s1)
       ∧ s1.misuse = none
       ∧ Writable s1 l slot 32) := by
  and_intros
  all_goals first
    | decide +kernel
    | simp only [quiet_iff, writable_iff, answerable_iff, dispatches_iff] <;> decide +kernel

end Sys2Proof.Tests
end

