-- ==== Sys2Proof/Tests/Witness3.lean ====
section
/-!
SUPPORT. States and operands that meet the premises of the statements CoherenceRequests to RailFlits,
clause by clause.
-/
namespace Sys2Proof.Tests

set_option Elab.async false

open Machine Safety

/-- States and operands that meet the premises of each clause of CoherenceRequests. -/
theorem test_CoherenceRequests :
    (let s : State := { up with bindings := [(32, 0), (33, 1), (34, 2), (35, 3)], harts := [(0, { mode := .run }),
                                  (1, { mode := .run })], coh := {}, mem := [(640, 5), (703, 6)], poison := [(10,
                                  true)] }
     let a : AgentId := 0
     let g : Nat := 10
     let d := s.dirOf g
     s.cohLive a g = true
     ∧ Quiet s g
     ∧ s.wbOf a g = none
     ∧ s.onFailed (g * 64) = none
     ∧ CacheRoom s a g
     ∧ s.copy a g = none
     ∧ d = .inv)
    ∧ (let s : State := { up with bindings := [(32, 0), (33, 1), (34, 2), (35, 3)], harts := [(0, { mode := .run }),
                                    (1, { mode := .run })], coh := { caches := [(1 * 2 ^ 46 + 10,
                                                                       some { st := .s, data := List.replicate 64 7,
                                                                              poison := false }), (2 * 2 ^ 46 + 10,
                                                                       some { st := .s, data := List.replicate 64 7,
                                                                              poison := false })], dir := [(10,
                                                                       .shared [1, 2])], txns := [], resps := [],
                                                                     wbs := [] } }
       let a : AgentId := 0
       let g : Nat := 10
       let d := s.dirOf g
       let as : List Nat := [1, 2]
       s.cohLive a g = true
       ∧ Quiet s g
       ∧ s.wbOf a g = none
       ∧ s.onFailed (g * 64) = none
       ∧ CacheRoom s a g
       ∧ s.copy a g = none
       ∧ d = .shared as)
    ∧ (let s : State := { up with bindings := [(32, 0), (33, 1), (34, 2), (35, 3)], harts := [(0, { mode := .run }),
                                    (1, { mode := .run })], coh := { caches := [(1 * 2 ^ 46 + 10,
                                                                       some { st := .m, data := List.replicate 64 7,
                                                                              poison := false })], dir := [(10,
                                                                       .owned 1)], txns := [], resps := [],
                                                                     wbs := [] } }
       let a : AgentId := 0
       let g : Nat := 10
       let d := s.dirOf g
       let o : Nat := 1
       s.cohLive a g = true
       ∧ Quiet s g
       ∧ s.wbOf a g = none
       ∧ s.onFailed (g * 64) = none
       ∧ CacheRoom s a g
       ∧ s.copy a g = none
       ∧ d.owner = some o)
    ∧ (let s : State := { up with bindings := [(32, 0), (33, 1), (34, 2), (35, 3)], harts := [(0, { mode := .run }),
                                    (1, { mode := .run })], coh := {} }
       let a : AgentId := 0
       let g : Nat := 10
       let d := s.dirOf g
       s.cohLive a g = true
       ∧ Quiet s g
       ∧ s.wbOf a g = none
       ∧ s.onFailed (g * 64) = none
       ∧ CacheRoom s a g
       ∧ s.copy a g = none
       ∧ d.agents = [])
    ∧ (let s : State := { up with bindings := [(32, 0), (33, 1), (34, 2), (35, 3)], harts := [(0, { mode := .run }),
                                    (1, { mode := .run })], coh := { caches := [(1 * 2 ^ 46 + 10,
                                                                       some { st := .o, data := List.replicate 64 7,
                                                                              poison := false }), (2 * 2 ^ 46 + 10,
                                                                       some { st := .s, data := List.replicate 64 7,
                                                                              poison := false })], dir := [(10,
                                                                       .ownedShared 1 [2])], txns := [],
                                                                     resps := [], wbs := [] } }
       let a : AgentId := 0
       let g : Nat := 10
       let d := s.dirOf g
       s.cohLive a g = true
       ∧ Quiet s g
       ∧ s.wbOf a g = none
       ∧ s.onFailed (g * 64) = none
       ∧ CacheRoom s a g
       ∧ s.copy a g = none
       ∧ d.agents ≠ [])
    ∧ (let s : State := { up with bindings := [(32, 0), (33, 1), (34, 2), (35, 3)], harts := [(0, { mode := .run }),
                                    (1, { mode := .run })], coh := { caches := [(0 * 2 ^ 46 + 10,
                                                                       some { st := .s, data := List.replicate 64 7,
                                                                              poison := false })], dir := [(10,
                                                                       .shared [0])], txns := [], resps := [],
                                                                     wbs := [] } }
       let a : AgentId := 0
       let g : Nat := 10
       let d := s.dirOf g
       let data := s.granule g
       let c : CacheLine := { st := .s, data := List.replicate 64 7 }
       s.cohLive a g = true
       ∧ Quiet s g
       ∧ s.wbOf a g = none
       ∧ s.onFailed (g * 64) = none
       ∧ CacheRoom s a g
       ∧ s.copy a g = some c
       ∧ (c.st = .s ∨ c.st = .o)
       ∧ d.agents.filter (fun x : Nat => x != a.val) = [])
    ∧ (let s : State := { up with bindings := [(32, 0), (33, 1), (34, 2), (35, 3)], harts := [(0, { mode := .run }),
                                    (1, { mode := .run })], coh := { caches := [(0 * 2 ^ 46 + 10,
                                                                       some { st := .s, data := List.replicate 64 7,
                                                                              poison := false }), (1 * 2 ^ 46 + 10,
                                                                       some { st := .s, data := List.replicate 64 7,
                                                                              poison := false })], dir := [(10,
                                                                       .shared [0, 1])], txns := [], resps := [],
                                                                     wbs := [] } }
       let a : AgentId := 0
       let g : Nat := 10
       let d := s.dirOf g
       let data := s.granule g
       let c : CacheLine := { st := .s, data := List.replicate 64 7 }
       s.cohLive a g = true
       ∧ Quiet s g
       ∧ s.wbOf a g = none
       ∧ s.onFailed (g * 64) = none
       ∧ CacheRoom s a g
       ∧ s.copy a g = some c
       ∧ (c.st = .s ∨ c.st = .o)
       ∧ d.agents.filter (fun x : Nat => x != a.val) ≠ []) := by
  and_intros
  all_goals first
    | decide +kernel
    | simp only [quiet_iff] <;> decide +kernel
    | exact ⟨by decide +kernel, Or.inl (by decide +kernel)⟩

/-- States and operands that meet the premises of each clause of CoherenceSnoops. -/
theorem test_CoherenceSnoops :
    (let s : State := { up with bindings := [(32, 0), (33, 1), (34, 2), (35, 3)], harts := [(0, { mode := .run }),
                                  (1, { mode := .run })], coh := { caches := [(1 * 2 ^ 46 + 10,
                                                                     some { st := .m, data := List.replicate 64 7,
                                                                            poison := false })], dir := [(10,
                                                                     .owned 1)],
                                                                   txns := [{ line := 10, requester := 0,
                                                                              req := .readShared, kind := .shared,
                                                                              waiting := [1] }], resps := [],
                                                                   wbs := [] } }
     let a : AgentId := 1
     let g : Nat := 10
     let x : CohTxn := { line := 10, requester := 0, req := .readShared, kind := .shared, waiting := [1] }
     let c : CacheLine := { st := .m, data := List.replicate 64 7 }
     s.txnOf g = some x
     ∧ x.waiting.contains a.val = true
     ∧ s.copy a g = some c
     ∧ (s.coh.resps.any fun r => r.agent == a.val && r.line == g) = false
     ∧ x.kind = .shared)
    ∧ (let s : State := { up with bindings := [(32, 0), (33, 1), (34, 2), (35, 3)], harts := [(0, { mode := .run }),
                                    (1, { mode := .run })], coh := { caches := [(1 * 2 ^ 46 + 10,
                                                                       some { st := .m, data := List.replicate 64 7,
                                                                              poison := false })], dir := [(10,
                                                                       .owned 1)],
                                                                     txns := [{ line := 10, requester := 0,
                                                                                req := .readUnique,
                                                                                kind := .invalidate,
                                                                                waiting := [1] }], resps := [],
                                                                     wbs := [] } }
       let a : AgentId := 1
       let g : Nat := 10
       let x : CohTxn := { line := 10, requester := 0, req := .readUnique, kind := .invalidate, waiting := [1] }
       let c : CacheLine := { st := .m, data := List.replicate 64 7 }
       s.txnOf g = some x
       ∧ x.waiting.contains a.val = true
       ∧ s.copy a g = some c
       ∧ (s.coh.resps.any fun r => r.agent == a.val && r.line == g) = false
       ∧ x.kind = .invalidate)
    ∧ (let s : State := { up with bindings := [(32, 0), (33, 1), (34, 2), (35, 3)], harts := [(0, { mode := .run }),
                                    (1, { mode := .run })], coh := { caches := [(1 * 2 ^ 46 + 10,
                                                                       some { st := .m, data := List.replicate 64 7,
                                                                              poison := false })], dir := [(10,
                                                                       .owned 1)],
                                                                     txns := [{ line := 10, requester := 0,
                                                                                req := .read 0 8,
                                                                                kind := .readNoAlloc,
                                                                                waiting := [1] }], resps := [],
                                                                     wbs := [] } }
       let a : AgentId := 1
       let g : Nat := 10
       let x : CohTxn := { line := 10, requester := 0, req := .read 0 8, kind := .readNoAlloc, waiting := [1] }
       let c : CacheLine := { st := .m, data := List.replicate 64 7 }
       s.txnOf g = some x
       ∧ x.waiting.contains a.val = true
       ∧ s.copy a g = some c
       ∧ (s.coh.resps.any fun r => r.agent == a.val && r.line == g) = false
       ∧ x.kind = .readNoAlloc)
    ∧ (let s : State := { up with bindings := [(32, 0), (33, 1), (34, 2), (35, 3)], harts := [(0, { mode := .run }),
                                    (1, { mode := .run })], coh := { caches := [(1 * 2 ^ 46 + 10,
                                                                       some { st := .o, data := List.replicate 64 7,
                                                                              poison := false })], dir := [(10,
                                                                       .owned 1)],
                                                                     txns := [{ line := 10, requester := 0,
                                                                                req := .readShared, kind := .shared,
                                                                                waiting := [1] }],
                                                                     resps := [{ agent := 1, line := 10,
                                                                                 data := some (List.replicate 64 7,
                                                                                   false) }], wbs := [] } }
       let a : AgentId := 1
       let g : Nat := 10
       let x : CohTxn := { line := 10, requester := 0, req := .readShared, kind := .shared, waiting := [1] }
       let r : SnoopResp := { agent := 1, line := 10, data := some (List.replicate 64 7, false) }
       let d := (List.replicate 64 7, false)
       s.txnOf g = some x
       ∧ x.waiting = [a.val]
       ∧ x.held = []
       ∧ x.req = .readShared
       ∧ x.line = g
       ∧ s.wbOf a g = none
       ∧ (s.coh.waits.any fun w => w.line == g) = false
       ∧ CacheRoom s x.requester g
       ∧ (s.coh.resps.find? fun r => r.agent == a.val && r.line == g) = some r
       ∧ r.data = some d) := by
  and_intros
  all_goals first
    | decide +kernel
    | exact ⟨by decide +kernel, Or.inl (by decide +kernel)⟩

/-- States and operands that meet the premises of each clause of CoherenceWriteBacks. -/
theorem test_CoherenceWriteBacks :
    (let s : State := { up with bindings := [(32, 0), (33, 1), (34, 2), (35, 3)], harts := [(0, { mode := .run }),
                                  (1, { mode := .run })], coh := { caches := [(0 * 2 ^ 46 + 10,
                                                                     some { st := .m, data := List.replicate 64 7,
                                                                            poison := false })], dir := [(10,
                                                                     .owned 0)], txns := [], resps := [],
                                                                   wbs := [] } }
     let a : AgentId := 0
     let g : Nat := 10
     let still := (s.coh.waits.any fun w => w.line == g) = false
     let c : CacheLine := { st := .m, data := List.replicate 64 7 }
     s.cohLive a g = true
     ∧ still
     ∧ s.wbOf a g = none
     ∧ s.copy a g = some c
     ∧ (c.st = .m ∨ c.st = .o))
    ∧ (let s : State := { up with bindings := [(32, 0), (33, 1), (34, 2), (35, 3)], harts := [(0, { mode := .run }),
                                    (1, { mode := .run })], coh := { caches := [], dir := [(10, .owned 0)],
                                                                     txns := [], resps := [],
                                                                     wbs := [{ agent := 0, line := 10,
                                                                               data := List.replicate 64 7,
                                                                               poison := true }] } }
       let a : AgentId := 0
       let g : Nat := 10
       let w : WriteBackMsg := { agent := 0, line := 10, data := List.replicate 64 7, poison := true }
       let still := (s.coh.waits.any fun w => w.line == g) = false
       s.cohLive a g = true
       ∧ still
       ∧ s.wbOf a g = some w
       ∧ w.arrived = false
       ∧ s.txnOf g = none
       ∧ s.onFailed (g * 64) = none
       ∧ w.data.length = 64)
    ∧ (let s : State := { up with bindings := [(32, 0), (33, 1), (34, 2), (35, 3)], harts := [(0, { mode := .run }),
                                    (1, { mode := .run })], coh := { caches := [(0 * 2 ^ 46 + 10,
                                                                       some { st := .e, data := List.replicate 64 7,
                                                                              poison := false })], dir := [(10,
                                                                       .owned 0)], txns := [], resps := [],
                                                                     wbs := [] } }
       let a : AgentId := 0
       let g : Nat := 10
       let still := (s.coh.waits.any fun w => w.line == g) = false
       let c : CacheLine := { st := .e, data := List.replicate 64 7 }
       s.cohLive a g = true
       ∧ still
       ∧ s.copy a g = some c
       ∧ (c.st = .e ∨ c.st = .s)
       ∧ s.txnOf g = none)
    ∧ (let s : State := { up with bindings := [(32, 0), (33, 1), (34, 2), (35, 3)], harts := [(0, { mode := .run }),
                                    (1, { mode := .run })], coh := { caches := [], txns := [], resps := [],
                                                                     wbs := [{ agent := 0, line := 10,
                                                                               data := List.replicate 64 7,
                                                                               poison := true,
                                                                               arrived := true }] } }
       let a : AgentId := 0
       let g : Nat := 10
       let w : WriteBackMsg := { agent := 0, line := 10, data := List.replicate 64 7, poison := true,
                                 arrived := true }
       let still := (s.coh.waits.any fun w => w.line == g) = false
       s.wbOf a g = some w
       ∧ w.arrived = true
       ∧ w.cross = none
       ∧ still)
    ∧ (let s : State := { up with bindings := [(32, 0), (33, 1), (34, 2), (35, 3)], harts := [(0, { mode := .run }),
                                    (1, { mode := .run })], coh := {}, mem := [(650, 5)], poison := [(10, true)] }
       let l : LineId := 0
       let x : Nat := 650
       let n : Nat := 54
       s.isLeader l = true
       ∧ (s.line l).st ≠ .failed
       ∧ s.ownMem l x = true
       ∧ Quiet s (x / 64)
       ∧ s.wbOf 255 (x / 64) = none
       ∧ s.onFailed x = none
       ∧ 0 < n
       ∧ x % 64 + n ≤ 64
       ∧ (s.dirOf (x / 64)).owner = none)
    ∧ (let s : State := { up with bindings := [(32, 0), (33, 1), (34, 2), (35, 3)], harts := [(0, { mode := .run }),
                                    (1, { mode := .run })], coh := {}, mem := [(650, 5), (640, 3)] }
       let l : LineId := 0
       let x : Nat := 650
       let data : List Byte := [1, 2, 3]
       s.isLeader l = true
       ∧ (s.line l).st ≠ .failed
       ∧ s.ownMem l x = true
       ∧ Quiet s (x / 64)
       ∧ s.wbOf 255 (x / 64) = none
       ∧ s.onFailed x = none
       ∧ Writable s l x data.length
       ∧ s.dirOf (x / 64) = .inv) := by
  and_intros
  all_goals first
    | decide +kernel
    | simp only [quiet_iff, writable_iff] <;> decide +kernel

/-- States and operands that meet the premises of each clause of CoherenceFailStop. -/
theorem test_CoherenceFailStop :
    (let s : State := { linesIn .running with bindings := [(32, 0), (33, 1), (34, 2), (35, 3)], harts := [(0,
                                                { mode := .run }), (1, { mode := .run })], time := 2000000,
                                              coh := { caches := [],
                                                       txns := [{ line := 10, requester := 0, req := .readShared,
                                                                  kind := .shared, waiting := [1] }], resps := [],
                                                       wbs := [] } }
     let l : LineId := 0
     let a : AgentId := 1
     let x : CohTxn := { line := 10, requester := 0, req := .readShared, kind := .shared, waiting := [1] }
     ((s.line l).st = .starting ∨ (s.line l).st = .running ∨ (s.line l).st = .stopping)
     ∧ s.tdisp l = .unlocked
     ∧ s.flag (xlKey l 0x40) 15 = false
     ∧ a.val < 136
     ∧ s.overdue l a = some x)
    ∧ (let s : State := { linesIn .running with bindings := [(32, 0), (33, 1), (34, 2), (35, 3)], harts := [(0,
                                                  { mode := .run }), (1, { mode := .run })], time := 2000000,
                                                coh := {} }
       let l : LineId := 0
       let a : AgentId := 1
       ((s.line l).st = .starting ∨ (s.line l).st = .running ∨ (s.line l).st = .stopping)
       ∧ s.tdisp l = .unlocked
       ∧ s.flag (xlKey l 0x40) 15 = false
       ∧ a.val < 136
       ∧ s.overdue l a = none)
    ∧ (let s : State := { linesIn .running with bindings := [(32, 0), (33, 1), (34, 2), (35, 3)], harts := [(0,
                                                  { mode := .run }), (1, { mode := .run })], time := 2000000,
                                                coh := { caches := [],
                                                         txns := [{ line := 10, requester := 0, req := .readShared,
                                                                    kind := .shared, waiting := [1] }], resps := [],
                                                         wbs := [] } }
       let l : LineId := 0
       let a : AgentId := 136
       let h : Nat := 0
       let g : Nat := 10
       ((s.line l).st = .starting ∨ (s.line l).st = .running ∨ (s.line l).st = .stopping)
       ∧ s.tdisp l = .unlocked
       ∧ s.flag (xlKey l 0x40) 15 = false
       ∧ h < 8
       ∧ a.val = 136 + h
       ∧ s.leaderOf h = l.val
       ∧ s.unserved h = some g)
    ∧ (let s : State := { linesIn .running with bindings := [(32, 0), (33, 1), (34, 2), (35, 3)], harts := [(0,
                                                  { mode := .run }), (1, { mode := .run })], time := 2000000,
                                                coh := {} }
       let l : LineId := 0
       let a : AgentId := 136
       let h : Nat := 0
       ((s.line l).st = .starting ∨ (s.line l).st = .running ∨ (s.line l).st = .stopping)
       ∧ s.tdisp l = .unlocked
       ∧ s.flag (xlKey l 0x40) 15 = false
       ∧ h < 8
       ∧ a.val = 136 + h
       ∧ s.leaderOf h = l.val
       ∧ s.unserved h = none)
    ∧ (let s : State := { linesIn .running with bindings := [(32, 0), (33, 1), (34, 2), (35, 3)], harts := [(0,
                                                  { mode := .run }), (1, { mode := .run })], time := 2000000,
                                                coh := {} }
       let l : LineId := 0
       let a : AgentId := 136
       let h : Nat := 0
       ((s.line l).st = .starting ∨ (s.line l).st = .running ∨ (s.line l).st = .stopping)
       ∧ s.tdisp l = .unlocked
       ∧ s.flag (xlKey l 0x40) 15 = false
       ∧ h < 8
       ∧ a.val = 136 + h
       ∧ s.leaderOf h = l.val)
    ∧ (let s : State := { linesIn .running with bindings := [(32, 0), (33, 1), (34, 2), (35, 3)], harts := [(0,
                                                  { mode := .run }), (1, { mode := .run })], time := 2000000,
                                                coh := {} }
       let l : LineId := 0
       let a : AgentId := 3
       ((s.line l).st = .starting ∨ (s.line l).st = .running ∨ (s.line l).st = .stopping)
       ∧ s.tdisp l = .unlocked
       ∧ s.flag (xlKey l 0x40) 15 = false
       ∧ a.val < 136
       ∧ s.cachingAgent l a = true) := by
  and_intros <;> decide +kernel

/-- States and operands that meet the premises of each clause of LinkEvents. -/
theorem test_LinkEvents :
    (let s : State := { up with host := { gen := 0xFFFFFFFF, detachedOnce := true } }
     let h := s.host
     let speed : Nat := 3
     let width : Nat := 16
     h.attached = false
     ∧ s.boot.powered = true
     ∧ s.boot.stage ≠ .alwaysOn
     ∧ s.boot.stage ≠ .image
     ∧ 3 ≤ speed
     ∧ speed ≤ 6
     ∧ linkWidth width = true
     ∧ (∀ l < 8, s.isLeader l = true → RouteOff s l 0x106))
    ∧ (let s : State := up
       let h := s.host
       let speed : Nat := 6
       let width : Nat := 8
       let legal := (if h.cxl then 5 else 3) ≤ speed ∧ speed ≤ 6 ∧ linkWidth width = true
       h.attached = true
       ∧ legal)
    ∧ (let speed : Nat := 4
       let s : State := { up with host := { attached := true, cxl := true, speed := 6 } }
       let h := s.host
       let width : Nat := 8
       let legal := (if h.cxl then 5 else 3) ≤ speed ∧ speed ≤ 6 ∧ linkWidth width = true
       ¬ legal)
    ∧ (let s : State := { up with host := {} }
       let h := s.host
       let c : Instr := .perst
       let cause : Nat := 3
       (c, cause) ∈ [(Instr.linkDown, 1), (.hotReset, 2), (.perst, 3)]
       ∧ h.attached = false)
    ∧ (let s : State := up
       let h := s.host
       let c : Instr := .perst
       let cause : Nat := 3
       (c, cause) ∈ [(Instr.linkDown, 1), (.hotReset, 2), (.perst, 3)]
       ∧ h.attached = true
       ∧ s.queues = []
       ∧ (∀ k < 128, (s.chan k).queue = [])
       ∧ (∀ l < 8, s.isLeader l = true → s.tdisp l = .unlocked ∧ RouteOff s l 0x105 ∧ NothingQueued s l)) := by
  and_intros
  all_goals first
    | decide +kernel
    | simp only [nothingQueued_iff, RouteOff] <;> decide +kernel

/-- States and operands that meet the premises of each clause of FunctionEvents. -/
theorem test_FunctionEvents :
    (let s : State := { up with host := { attached := true, gen := 7 } }
     let via : Via := .host
     let l : LineId := 0
     let v : Word := 0x100000007
     v.field 33 31 = 0
     ∧ s.host.attached = true
     ∧ s.claimWrites via l = true
     ∧ v.field 0 32 = s.host.gen)
    ∧ (let s : State := { up with host := { attached := true, gen := 7 } }
       let via : Via := .host
       let l : LineId := 0
       let v : Word := 0x100000006
       v.field 33 31 = 0
       ∧ (v.field 0 32 ≠ s.host.gen ∨ s.claimWrites via l = false ∨ s.host.attached = false))
    ∧ (let s : State := { up with leaders := [(0, 0), (1, 0)] }
       let l : LineId := 1
       s.host.attached = true
       ∧ s.isLeader l = false)
    ∧ (let s : State := { up with lines := [(0, { st := .running, survive := false })], regs := [(xlKey 0 8, 1)] }
       let l : LineId := 0
       s.host.attached = true
       ∧ s.isLeader l = true
       ∧ s.queues = []
       ∧ (∀ k < 128, (s.chan k).queue = [])
       ∧ NothingQueued s l)
    ∧ (let s : State := { up with host := { attached := true, hdm := [(0, ⟨0, 1, 2⟩)], pf0Bar := 3 } }
       s.host.attached = true)
    ∧ (let s : State := up
       let via : Via := .host
       let l : LineId := 0
       let v : Word := 0x5C
       s.lnWrites via l = true
       ∧ v.field 20 44 = 0
       ∧ (s.line l).locked = false
       ∧ s.meetsOwn l (v.field 0 20 * 2 ^ 32) (2 ^ 32) = true)
    ∧ (let s : State := up
       let via : Via := .host
       let l : LineId := 0
       let v : Word := 0x60
       s.lnWrites via l = true
       ∧ v.field 20 44 = 0
       ∧ ((s.line l).locked = true ∨ s.meetsOwn l (v.field 0 20 * 2 ^ 32) (2 ^ 32) = false)) := by
  and_intros
  all_goals first
    | decide +kernel
    | simp only [nothingQueued_iff] <;> decide +kernel

/-- States and operands that meet the premises of each clause of HostMemoryAccess. -/
theorem test_HostMemoryAccess :
    (let s : State := { up with mem := [(0x105, 5)], poison := [(4, true)] }
     let l : LineId := 0
     let fn : FnId := 1
     let bound : Bool := false
     let off : Nat := 0x105
     let a : Nat := 0x105
     s.host.attached = true
     ∧ s.onFailed a = none
     ∧ Quiet s (a / 64)
     ∧ fn.val = l.val + 1
     ∧ s.isLeader l = true
     ∧ s.tdisp l ≠ .error
     ∧ (s.confidential l = true → bound = true)
     ∧ s.clearing l = false
     ∧ (s.line l).st ≠ .failed
     ∧ s.bar2Dpa l off = some a
     ∧ s.hostReach l (s.bar2Whole l) a = true)
    ∧ (let s : State := { up with mem := [(0x105, 5)] }
       let fn : FnId := 0
       let off : Nat := 0x104
       let a : Nat := 0x104
       s.host.attached = true
       ∧ s.onFailed a = none
       ∧ Quiet s (a / 64)
       ∧ fn = 0
       ∧ s.boot.running = false
       ∧ s.boot.stage.stopped = false
       ∧ off < 2 ^ (30 + s.host.pf0Bar)
       ∧ barLayout off = some a
       ∧ s.hostReach 8 true a = true)
    ∧ (let s : State := { up with mem := [(0x2005, 5)], host := { attached := true, cxl := true, hdm := [(0,
                                                                    ⟨0x1000, 0x10000, 0x2000⟩)] } }
       let a : Nat := 0x2005
       let d : HdmDecoder := ⟨0x1000, 0x10000, 0x2000⟩
       let addr : Nat := 0x1005
       s.host.attached = true
       ∧ s.onFailed a = none
       ∧ Quiet s (a / 64)
       ∧ s.host.cxl = true
       ∧ (((s.host.hdm.map (·.2)).find? fun d => decide (d.host ≤ addr ∧ addr < d.host + d.size)) = some d)
       ∧ a = d.dpa + (addr - d.host)
       ∧ s.hostReach 8 true a = true)
    ∧ (let s : State := { up with leaders := [(0, 0), (1, 0)] }
       let l : LineId := 1
       let fn : FnId := 2
       s.host.attached = true
       ∧ fn.val = l.val + 1
       ∧ s.isLeader l = false)
    ∧ (let s : State := up
       let fn : FnId := 0
       let off : Nat := 2 ^ 30
       s.host.attached = true
       ∧ fn = 0
       ∧ s.boot.running = false
       ∧ s.boot.stage.stopped = false
       ∧ 2 ^ (30 + s.host.pf0Bar) ≤ off)
    ∧ (let s : State := { up with host := { attached := true } }
       let l : LineId := 0
       let fn : FnId := 1
       let bound : Bool := false
       s.host.attached = true
       ∧ fn.val = l.val + 1
       ∧ s.isLeader l = true
       ∧ s.tdisp l ≠ .error
       ∧ (s.confidential l = true → bound = true)
       ∧ s.claimed l = false)
    ∧ (let s : State := { up with host := { attached := true, tdisp := [(0, .run)] } }
       let l : LineId := 0
       let fn : FnId := 1
       let bound : Bool := false
       s.host.attached = true
       ∧ fn.val = l.val + 1
       ∧ s.isLeader l = true
       ∧ s.confidential l = true
       ∧ bound = false)
    ∧ (let s : State := { up with host := { attached := true, cxl := true, hdm := [(0, ⟨0x1000, 0x10000,
                                              0x2000⟩)] } }
       s.host.attached = true
       ∧ s.host.cxl = true) := by
  and_intros
  all_goals first
    | decide +kernel
    | simp only [quiet_iff] <;> decide +kernel

/-- States and operands that meet the premises of each clause of ConfidentialInterfaces. -/
theorem test_ConfidentialInterfaces :
    (let s : State := { linesIn .stopped with queues := [], mem := [(0x105, 5), (0x6000000007, 3), (0x400000000000,
                                                4), (0x400020000000, 8)], basinMem := [(0, { keyGen := 255 })] }
     let l : LineId := 0
     s.host.attached = true
     ∧ s.isLeader l = true
     ∧ s.clearing l = false
     ∧ (s.line l).st = .stopped
     ∧ s.tdisp l = .unlocked)
    ∧ (let s : State := { linesIn .stopped with host := { attached := true, tdisp := [(0, .run)] }, mem := [(0x105,
                                                  5), (0x6000000007, 3), (0x400000000000, 4), (0x400020000000, 8)],
                                                basinMem := [(0, { keyGen := 255 })] }
       let l : LineId := 0
       s.host.attached = true
       ∧ s.isLeader l = true
       ∧ s.clearing l = false
       ∧ s.confidential l = true
       ∧ (s.line l).st ≠ .off
       ∧ (s.line l).st ≠ .applying)
    ∧ (let s : State := { up with host := { attached := true, tdisp := [(0, .locked)] } }
       let l : LineId := 0
       s.host.attached = true
       ∧ s.isLeader l = true
       ∧ s.clearing l = false
       ∧ s.tdisp l = .locked)
    ∧ (let s : State := { up with host := { attached := true, tdisp := [(0, .run)] } }
       let l : LineId := 0
       s.host.attached = true
       ∧ s.isLeader l = true
       ∧ s.clearing l = false
       ∧ s.tdisp l ≠ .locked)
    ∧ (let s : State := { linesIn .running with host := { attached := true, tdisp := [(0, .run)] } }
       let l : LineId := 0
       s.isLeader l = true
       ∧ (s.tdisp l = .locked ∨ s.tdisp l = .run)
       ∧ s.queues = []
       ∧ (∀ k < 128, (s.chan k).queue = [])
       ∧ NothingQueued s l)
    ∧ (let s : State := { up with sessions := [{ id := 1, transport := 2, established := true }] }
       s.host.attached = true
       ∧ (s.sessions.any fun e => e.transport == 2 && e.established) = true)
    ∧ (let s : State := { up with sessions := [{ id := 1, transport := 2 }] }
       s.host.attached = true
       ∧ (s.sessions.any fun e => e.transport == 2 && e.established) = false) := by
  and_intros
  all_goals first
    | decide +kernel
    | simp only [nothingQueued_iff] <;> decide +kernel

/-- States and operands that meet the premises of each clause of RailPorts. -/
theorem test_RailPorts :
    (let s : State := { up with ports := [(3, { st := .dark, quiesce := true })], regs := [(portKey 3 0x08,
                                  0xFFFFFFFF00000000)] }
     let p : PortId := 3
     let q := s.port p
     s.portInService p = true
     ∧ s.lasersLit (p / 2) = true
     ∧ (q.st = .dark ∨ q.st = .refused))
    ∧ (let s : State := { up with ports := [(3, { st := .training })], regs := [(hubKey 0x48, 0x4007)] }
       let p : PortId := 3
       let r : TrainResult := { result := 0, fid := 7, port := 5, line := 3, twin := true }
       let q := s.port p
       let twin := r.twin = true ∧ r.fid % 2 ^ 14 = s.fabricId.field 0 14
       q.st = .training
       ∧ twin)
    ∧ (let s : State := { up with ports := [(3, { st := .training })] }
       let p : PortId := 3
       let r : TrainResult := { result := 1, fid := 0, port := 5, line := 3 }
       let q := s.port p
       let twin := r.twin = true ∧ r.fid % 2 ^ 14 = s.fabricId.field 0 14
       q.st = .training
       ∧ ¬ twin
       ∧ r.result.val = 1)
    ∧ (let s : State := { up with ports := [(3, { st := .training })] }
       let p : PortId := 3
       let r : TrainResult := { result := 6, fid := 0, port := 5, line := 3 }
       let q := s.port p
       let twin := r.twin = true ∧ r.fid % 2 ^ 14 = s.fabricId.field 0 14
       q.st = .training
       ∧ ¬ twin
       ∧ 2 ≤ r.result.val)
    ∧ (let s : State := { up with ports := [(3, { st := .training })] }
       let p : PortId := 3
       let r : TrainResult := { result := 0, fid := 7, port := 5, line := 3 }
       let q := s.port p
       let twin := r.twin = true ∧ r.fid % 2 ^ 14 = s.fabricId.field 0 14
       q.st = .training
       ∧ ¬ twin
       ∧ r.result.val = 0
       ∧ s.fabricId.flag 14 = false)
    ∧ (let s : State := { up with ports := [(3, { st := .training })], regs := [(hubKey 0x48, 0x4007)] }
       let p : PortId := 3
       let r : TrainResult := { result := 0, fid := 16391, port := 5, line := 3 }
       let q := s.port p
       let twin := r.twin = true ∧ r.fid % 2 ^ 14 = s.fabricId.field 0 14
       q.st = .training
       ∧ ¬ twin
       ∧ r.result.val = 0
       ∧ s.fabricId.flag 14 = true
       ∧ r.fid % 2 ^ 14 = s.fabricId.field 0 14)
    ∧ (let s : State := { up with ports := [(3, { st := .training })], regs := [(hubKey 0x48, 0x4007)] }
       let p : PortId := 3
       let r : TrainResult := { result := 0, fid := 8, port := 5, line := 3 }
       let q := s.port p
       let twin := r.twin = true ∧ r.fid % 2 ^ 14 = s.fabricId.field 0 14
       q.st = .training
       ∧ ¬ twin
       ∧ r.result.val = 0
       ∧ s.fabricId.flag 14 = true
       ∧ r.fid % 2 ^ 14 ≠ s.fabricId.field 0 14
       ∧ s.sec.railSigned = false)
    ∧ (let s : State := { up with ports := [(3, { st := .training, cwRx := 5, farPort := 2 })],
                                  regs := [(hubKey 0x48, 0x4007)], sec := { railSigned := true } }
       let p : PortId := 3
       let r : TrainResult := { result := 0, fid := 16383, port := 5, line := 3 }
       let q := s.port p
       let good (x : Dir) (bad : Nat) : Prop := ∀ i < 9, s.laneRetired p x i = false ∧ bit bad i = false
       let twin := r.twin = true ∧ r.fid % 2 ^ 14 = s.fabricId.field 0 14
       q.st = .training
       ∧ ¬ twin
       ∧ r.result.val = 0
       ∧ s.fabricId.flag 14 = true
       ∧ r.fid % 2 ^ 14 ≠ s.fabricId.field 0 14
       ∧ s.sec.railSigned = true
       ∧ good .fwd r.badTx
       ∧ good .rev r.badRx)
    ∧ (let s : State := { up with ports := [(3, { st := .up })] }
       let p : PortId := 3
       let q := s.port p
       (q.st = .training ∨ q.isUp = true ∨ q.st = .refused))
    ∧ (let s : State := { up with ports := [(3, { st := .up })] }
       let via : Via := .host
       let p : PortId := 3
       let v : Word := 1
       let q := s.port p
       s.bWrites via (p / 4) = true
       ∧ v.field 3 61 = 0
       ∧ v.flag 1 = false
       ∧ v.flag 0 = true
       ∧ q.st ≠ .off)
    ∧ (let s : State := { up with ports := [(3, { st := .half, quiesce := true })] }
       let via : Via := .host
       let p : PortId := 3
       let v : Word := 0
       s.bWrites via (p / 4) = true
       ∧ v.field 3 61 = 0
       ∧ v.flag 1 = false
       ∧ v.flag 0 = false)
    ∧ (let s : State := { up with regs := [(hubKey 0x48, 0x4007)] }
       let v : Word := 0x4007
       s.hubWrites = true
       ∧ v.field 15 49 = 0
       ∧ v.field 0 15 = s.fabricId.field 0 15)
    ∧ (let s : State := { up with regs := [(hubKey 0x48, 0x4007)], ports := [(0, { st := .up }), (1,
                                    { st := .failed }), (2, { st := .dark }), (3, { st := .refused }), (31,
                                    { st := .training })] }
       let v : Word := 0x7FFF
       s.hubWrites = true
       ∧ v.field 15 49 = 0
       ∧ v.field 0 15 ≠ s.fabricId.field 0 15
       ∧ s.ctxs = [])
    ∧ (let s : State := { up with time := 80, ports := [(3, { st := .up, farFid := 5, farLine := 2 })], ctxs := [(0,
                                    { st := .open_, remoteEp := 42, portMask := 8, noPathFrom := some 40 }), (1,
                                    { st := .open_, remoteEp := 43, portMask := 8 }), (4095,
                                    { st := .open_, noPathFrom := some 0 })] }
       let p : PortId := 3
       let l := s.leaderOf (p.val / 4)
       s.railLive l = true) := by
  and_intros <;> decide +kernel

/-- States and operands that meet the premises of each clause of RailLanes. -/
theorem test_RailLanes :
    (let s : State := { up with ports := [(3, { st := .up })], regs := [(portKey 3 0x18, 1)] }
     let p : PortId := 3
     let d : Dir := .fwd
     let q := s.port p
     let x := q.side d
     let idle := q.st = .up ∧ x.spare ≠ none ∧ x.step = .none ∧ x.change = .none
     let i : Nat := 0
     idle
     ∧ s.nextLane p d = some i
     ∧ s.fld (portKey p 0x18) 0 8 ≠ 0)
    ∧ (let s : State := { up with ports := [(3, { st := .up })], regs := [(portKey 3 0x18, 1)] }
       let via : Via := .host
       let p : PortId := 3
       let d : Dir := .fwd
       let v : Word := 2
       let q := s.port p
       let x := q.side d
       let idle := q.st = .up ∧ x.spare ≠ none ∧ x.step = .none ∧ x.change = .none
       let i : Nat := 0
       idle
       ∧ s.nextLane p d = some i
       ∧ s.bWrites via (p / 4) = true
       ∧ v.field 3 61 = 0
       ∧ v.flag 0 = false
       ∧ v.flag 1 = true)
    ∧ (let s : State := { up with regs := [(portKey 3 0x18, 0x500000000)], ports := [(3, { st := .up })] }
       let p : PortId := 3
       s.fld (portKey p 0x18) 0 8 = 0)
    ∧ (let s : State := { up with ports := [(3, { st := .up })] }
       let p : PortId := 3
       let d : Dir := .fwd
       let lane : Fin 9 := 4
       let q := s.port p
       let x := q.side d
       let idle := q.st = .up ∧ x.spare ≠ none ∧ x.step = .none ∧ x.change = .none
       idle
       ∧ x.spare ≠ some lane.val)
    ∧ (let s : State := { up with ports := [(3, { st := .up, rx := { step := .mirror 4 } })] }
       let p : PortId := 3
       let i : Nat := 4
       (s.port p).rx.step = .mirror i)
    ∧ (let s : State := { up with ports := [(3, { st := .up, tx := { step := .mirror 4 } })] }
       let p : PortId := 3
       let d : Dir := .fwd
       let lane : Fin 9 := 4
       let q := s.port p
       let x := q.side d
       x.step = .mirror lane)
    ∧ (let s : State := { up with ports := [(3, { st := .up, tx := { step := .switching 4 7 } })] }
       let p : PortId := 3
       let d : Dir := .fwd
       let q := s.port p
       let x := q.side d
       let i : Nat := 4
       let a : Nat := 7
       x.change = .none
       ∧ x.step = .switching i a)
    ∧ (let s : State := { up with ports := [(3, { st := .up, tx := { change := .retire 4 7 } })] }
       let p : PortId := 3
       let d : Dir := .fwd
       let q := s.port p
       let x := q.side d
       let i : Nat := 4
       let a : Nat := 7
       x.change = .retire i a)
    ∧ (let s : State := { up with ports := [(3, { st := .up, tx := { change := .half 7 } })] }
       let p : PortId := 3
       let d : Dir := .fwd
       let q := s.port p
       let x := q.side d
       let a : Nat := 7
       x.change = .half a)
    ∧ (let s : State := { up with ports := [(3, { st := .up, tx := { step := .calibrating 4, spare := none } })],
                                  regs := [(portKey 3 0x18, 0xFFFFFFFF00000001)] }
       let p : PortId := 3
       let d : Dir := .fwd
       let q := s.port p
       let x := q.side d
       let i : Nat := 4
       x.step = .calibrating i)
    ∧ (let s : State := { up with ports := [(3, { st := .up })] }
       let p : PortId := 3
       let d : Dir := .fwd
       let lane : Fin 9 := 4
       s.laneRetired p d lane = false)
    ∧ (let s : State := { up with ports := [(3, { st := .up, tx := { step := .mirror 4 } })] }
       let p : PortId := 3
       let q := s.port p
       q.isUp = true) := by
  and_intros <;> decide +kernel

/-- States and operands that meet the premises of each clause of RailCodewords. -/
theorem test_RailCodewords :
    (let s : State := up
     let p : PortId := 3
     let q := s.port p
     q.isUp = false)
    ∧ (let s : State := up
       let p : PortId := 3
       let q := s.port p
       q.isUp = false)
    ∧ (let s : State := { up with ports := [(3, { st := .half, cwRx := 4095, rxq := [{ type := 3 }] })] }
       let p : PortId := 3
       let cw : Codeword := { errors := 3, msg := messageOf [(0, 4095), (12, 77), (24, 1), (26, 3), (148, 1), (340,
                                1), (2644, 15)], bodies := [[1, 2]], tagOk := [true] }
       let q := s.port p
       q.isUp = true
       ∧ cw.lost = false
       ∧ cw.seq = q.cwRx
       ∧ cw.nak = false
       ∧ cw.laneCmd = 0
       ∧ q.nakSent = false
       ∧ q.txq = [])
    ∧ (let s : State := { up with ports := [(3, { st := .up, cwRx := 5, nakSent := true })] }
       let p : PortId := 3
       let cw : Codeword := { errors := 3, msg := messageOf [(0, 7), (26, 3), (148, 1), (340, 1), (2644, 15)],
                              bodies := [[1, 2]], tagOk := [true] }
       let q := s.port p
       q.isUp = true
       ∧ (cw.lost = true ∨ cw.seq ≠ q.cwRx)
       ∧ q.nakSent = true)
    ∧ (let s : State := { up with ports := [(3, { st := .up, cwRx := 0 })] }
       let p : PortId := 3
       let cw : Codeword := { errors := 16, msg := messageOf [(26, 3), (148, 1), (340, 1), (2644, 15)],
                              bodies := [[1, 2]], tagOk := [true] }
       let q := s.port p
       q.isUp = true
       ∧ (cw.lost = true ∨ cw.seq ≠ q.cwRx)
       ∧ q.nakSent = false)
    ∧ (let s : State := { up with ports := [(3, { st := .up, cwRx := 0 })] }
       let p : PortId := 3
       let q := s.port p
       q.isUp = true) := by
  and_intros <;> decide +kernel

/-- States and operands that meet the premises of each clause of PeerContexts. -/
theorem test_PeerContexts :
    (let s : State := withWords { mapped with regs := [(xlKey 0 0, 0x8000000000001000), (bKey 0 0x800000,
                                                0x3000)] } 0x3120 [0x1ABCDEF1, 0x0000000500000008]
     let via : Via := .host
     let l : LineId := 0
     let v : Word := 0x5009
     let c : CtxId := 9
     let k := ctxKey l c
     let x := s.ctx k
     let a := s.fld (bKey l 0x800000) 6 46 * 64 + c.val * 32
     s.lnWrites via l = true
     ∧ v.flag 15 = false
     ∧ v.field 24 8 = 0
     ∧ v.flag 14 = true
     ∧ v.field 0 12 = c.val
     ∧ v.field 12 2 = 1
     ∧ s.ctxExists l c = true
     ∧ s.railLive l = true
     ∧ (x.st = .off ∨ x.st = .down)
     ∧ Readable s l a 32)
    ∧ (let s : State := { mapped with ctxs := [(9, { st := .open_ })], time := 80 }
       let via : Via := .host
       let l : LineId := 0
       let v : Word := 0x6009
       let c : CtxId := 9
       let k := ctxKey l c
       let x := s.ctx k
       s.lnWrites via l = true
       ∧ v.flag 15 = false
       ∧ v.field 24 8 = 0
       ∧ v.flag 14 = true
       ∧ v.field 0 12 = c.val
       ∧ v.field 12 2 = 2
       ∧ (x.st = .open_ ∨ x.st = .opening)
       ∧ NoTransfers s)
    ∧ (let s : State := { mapped with ctxs := [(9, { st := .open_, epoch := true })] }
       let via : Via := .host
       let l : LineId := 0
       let v : Word := 0x7009
       let c : CtxId := 9
       let k := ctxKey l c
       let x := s.ctx k
       s.lnWrites via l = true
       ∧ v.flag 15 = false
       ∧ v.field 24 8 = 0
       ∧ v.flag 14 = true
       ∧ v.field 0 12 = c.val
       ∧ v.field 12 2 = 3
       ∧ x.st = .open_
       ∧ x.rekeying = false)
    ∧ (let s : State := { mapped with ctxs := [(9, { st := .open_, keyTime := 80 })], time := 86400000000080 }
       let l : LineId := 0
       let c : CtxId := 9
       let k := ctxKey l c
       let x := s.ctx k
       x.st = .open_
       ∧ x.rekeying = false
       ∧ (2 ^ 36 ≤ x.txSeq ∨ 2 ^ 36 ≤ x.rxSeq ∨ x.keyTime + 86400000000000 ≤ s.time))
    ∧ (let s : State := { mapped with ctxs := [(9, { st := .closing, keyed := true, cause := 1, demoted := 3,
                                                     remoteEp := 5 })] }
       let l : LineId := 0
       let c : CtxId := 9
       let k := ctxKey l c
       let x := s.ctx k
       x.st = .closing
       ∧ ((x.keyed = true ∧ x.sent = []) ∨ x.openedAt + 20000000 ≤ s.time))
    ∧ (let s : State := { mapped with ctxs := [(9, { st := .open_, newSeen := some 80, oldEpoch := true })],
                                      time := 10000080 }
       let l : LineId := 0
       let c : CtxId := 9
       let k := ctxKey l c
       let x := s.ctx k
       let t0 : Nat := 80
       x.newSeen = some t0
       ∧ t0 + 10000000 ≤ s.time)
    ∧ (let s : State := { mapped with ctxs := [(9, { st := .opening, pathWait := 1 })], time := 1000000 }
       let l : LineId := 0
       let c : CtxId := 9
       let k := ctxKey l c
       let x := s.ctx k
       NoTransfers s
       ∧ RouteOff s l 0x107
       ∧ x.st = .opening
       ∧ x.openedAt + x.pathWait * 1000000 ≤ s.time)
    ∧ (let s : State := { mapped with ctxs := [(9, { st := .open_, sent := [{ number := 2, port := 3, at_ := 90 },
                                                       { number := 1, port := 3, at_ := 80 }] })],
                                      time := 20000080 }
       let l : LineId := 0
       let c : CtxId := 9
       let k := ctxKey l c
       let x := s.ctx k
       let d : SentDelivery := { number := 1, port := 3, at_ := 80 }
       NoTransfers s
       ∧ RouteOff s l 0x107
       ∧ d ∈ x.sent
       ∧ x.st = .open_
       ∧ d.at_ + 20000000 ≤ s.time)
    ∧ (let s : State := { mapped with ctxs := [(9, { st := .opening, remoteEp := 42, remoteCtx := 7 })],
                                      ports := [(3, { st := .up, rxq := [{ type := 1 },
                                                        { type := 8, cls := 1, last := true, dstEp := 0,
                                                          dstCtx := 9, srcEp := 42, srcCtx := 7, info := 1 }] })] }
       let l : LineId := 0
       let c : CtxId := 9
       let p : PortId := 3
       let f : Flit := { type := 8, cls := 1, last := true, dstEp := 0, dstCtx := 9, srcEp := 42, srcCtx := 7,
                         info := 1 }
       let k := ctxKey l c
       let x := s.ctx k
       (s.nextFlit p).map (·.1) = some f
       ∧ f.type = 8
       ∧ s.leaderOf (p / 4) = l.val
       ∧ s.railLive l = true
       ∧ f.dstEp = s.endpoint l
       ∧ s.ctxExists l c = true
       ∧ f.dstCtx = c.val
       ∧ f.last = true
       ∧ bit f.info 1 = false
       ∧ x.st = .opening
       ∧ f.srcEp = x.remoteEp
       ∧ f.srcCtx = x.remoteCtx
       ∧ bit f.info 0 = s.initiator l c)
    ∧ (let s : State := { mapped with ctxs := [(9, { remoteEp := 1 })], ports := [(3,
                                        { st := .up, rxq := [{ type := 8, cls := 1, last := true, dstEp := 0,
                                                               dstCtx := 9, srcEp := 42, srcCtx := 7,
                                                               info := 1 }] })] }
       let l : LineId := 0
       let c : CtxId := 9
       let p : PortId := 3
       let f : Flit := { type := 8, cls := 1, last := true, dstEp := 0, dstCtx := 9, srcEp := 42, srcCtx := 7,
                         info := 1 }
       let k := ctxKey l c
       let x := s.ctx k
       (s.nextFlit p).map (·.1) = some f
       ∧ f.type = 8
       ∧ s.leaderOf (p / 4) = l.val
       ∧ s.railLive l = true
       ∧ f.dstEp = s.endpoint l
       ∧ s.ctxExists l c = true
       ∧ f.dstCtx = c.val
       ∧ f.last = true
       ∧ bit f.info 1 = false
       ∧ x.st = .off) := by
  and_intros
  all_goals first
    | decide +kernel
    | simp only [Readable, quiet_iff, NoTransfers, RouteOff] <;> decide +kernel

/-- States and operands that meet the premises of each clause of RailFlits. -/
theorem test_RailFlits :
    (let s : State := { mapped with tt := { windows := [(0x0000000800000000 + 5 + 0xC000, 0x3000)] }, ctxs := [(9,
                                      { st := .open_, remoteEp := 42, remoteCtx := 7, portMask := 15 })],
                                    ports := [(3, { st := .up, farFid := 5, farLine := 2, credits := [(0, 100), (1,
                                                      100), (2, 100)], rxq := [{ type := 15 },
                                                      { type := 1, cls := 1, last := true, dstEp := 0, dstCtx := 9,
                                                        srcEp := 42, srcCtx := 7, addr := 0x8050000000010,
                                                        delivery := 77, info := crc32c [1, 2, 3], body := [1, 2,
                                                          3] }] })] }
     let p : PortId := 3
     let f : Flit := { type := 1, cls := 1, last := true, dstEp := 0, dstCtx := 9, srcEp := 42, srcCtx := 7,
                       addr := 0x8050000000010, delivery := 77, info := crc32c [1, 2, 3], body := [1, 2, 3] }
     let l := s.leaderOf (p.val / 4)
     let a : Nat := 0x3010
     Arrives s p f
     ∧ f.type = 1
     ∧ s.cflWaits l f.dstCtx f.delivery = false
     ∧ s.resolve l f.addr f.body.length true = some a
     ∧ a % 4096 + f.body.length ≤ 4096
     ∧ BlockWritable s l (a / 4096)
     ∧ crc32c f.body = f.info % 2 ^ 32)
    ∧ (let s : State := { mapped with tt := { windows := [(0x0000000800000000 + 5 + 0xC000, 0x3000)] }, ctxs := [(9,
                                        { st := .open_, remoteEp := 42, remoteCtx := 7, portMask := 15 })],
                                      ports := [(3, { st := .up, farFid := 5, farLine := 2, credits := [(0, 100),
                                                        (1, 100), (2, 100)], rxq := [{ type := 15 },
                                                        { type := 1, cls := 1, last := true, dstEp := 0,
                                                          dstCtx := 9, srcEp := 42, srcCtx := 7,
                                                          addr := 0x8050000007FFE, delivery := 77,
                                                          info := crc32c [1, 2, 3], body := [1, 2, 3] }] })] }
       let p : PortId := 3
       let f : Flit := { type := 1, cls := 1, last := true, dstEp := 0, dstCtx := 9, srcEp := 42, srcCtx := 7,
                         addr := 0x8050000007FFE, delivery := 77, info := crc32c [1, 2, 3], body := [1, 2, 3] }
       let l := s.leaderOf (p.val / 4)
       Arrives s p f
       ∧ f.type = 1
       ∧ s.cflWaits l f.dstCtx f.delivery = false
       ∧ s.resolve l f.addr f.body.length true = none)
    ∧ (let s : State := { mapped with tt := { windows := [(0x0000000800000000 + 5 + 0xC000, 0x3000)] }, ctxs := [(9,
                                        { st := .open_, remoteEp := 42, remoteCtx := 7, portMask := 15 })],
                                      ports := [(3, { st := .up, farFid := 5, farLine := 2, credits := [(0, 100),
                                                        (1, 100), (2, 100)], rxq := [{ type := 15 },
                                                        { type := 3, cls := 1, last := true, dstEp := 0,
                                                          dstCtx := 9, srcEp := 42, srcCtx := 7,
                                                          addr := 0x8050000000000, delivery := 77, info := 16,
                                                          body := [] }] })], mem := [(0x3000, 5), (0x300F, 9)] }
       let p : PortId := 3
       let f : Flit := { type := 3, cls := 1, last := true, dstEp := 0, dstCtx := 9, srcEp := 42, srcCtx := 7,
                         addr := 0x8050000000000, delivery := 77, info := 16, body := [] }
       let l := s.leaderOf (p.val / 4)
       let k := ctxKey l f.dstCtx
       let a : Nat := 0x3000
       let n := bits f.info 0 13
       let k3 := (s.policed l f.dstCtx p (flitRank f) n).1
       Arrives s p f
       ∧ f.type = 3
       ∧ s.resolve l f.addr n false = some a
       ∧ 0 < n
       ∧ n ≤ 256
       ∧ Readable s l a n
       ∧ s.blockValid (a / 4096) = true
       ∧ s.blockPoisoned (a / 4096) = false
       ∧ s.isPath l p (s.ctx k) = true
       ∧ (s.port p).txq = []
       ∧ tblGet 0 (s.port p).credits k3 ≠ 0
       ∧ (s.weights l).1 ≠ 0
       ∧ (s.weights l).2 ≠ 0)
    ∧ (let s : State := { mapped with tt := { windows := [(0x0000000800000000 + 5 + 0xC000, 0x3000)] }, ctxs := [(9,
                                        { st := .open_, remoteEp := 42, remoteCtx := 7, portMask := 15,
                                          sent := [{ number := 77, port := 3, isRead := true, chan := 5 }] })],
                                      ports := [(3, { st := .up, farFid := 5, farLine := 2, credits := [(0, 100),
                                                        (1, 100), (2, 100)], rxq := [{ type := 15 },
                                                        { type := 4, cls := 1, last := true, dstEp := 0,
                                                          dstCtx := 9, srcEp := 42, srcCtx := 7, addr := 0,
                                                          delivery := 77, info := crc32c [1, 2, 3], body := [1, 2,
                                                            3] }] })], chans := [(5,
                                        { queue := [{ words := [0x4000000910, 0x8050000000000, 0x3000,
                                                        0x1000100010001, 0x0, 0x0, 0x0, 0x0, 0x0, 0x0, 0x0, 0x0,
                                                        0x0, 0x0, 0x0, 0x0, 0x0], running := true,
                                                      fetch := [{ number := 77, pos := 0, addr := 0x8050000000000,
                                                                  len := 3 },
                                                        { number := 78, pos := 3, addr := 0x8050000000003,
                                                          len := 61 }] }, {}] })] }
       let p : PortId := 3
       let f : Flit := { type := 4, cls := 1, last := true, dstEp := 0, dstCtx := 9, srcEp := 42, srcCtx := 7,
                         addr := 0, delivery := 77, info := crc32c [1, 2, 3], body := [1, 2, 3] }
       let l := s.leaderOf (p.val / 4)
       let k := ctxKey l f.dstCtx
       let d : SentDelivery := { number := 77, port := 3, isRead := true, chan := 5 }
       let x : Xfer := { words := [0x4000000910, 0x8050000000000, 0x3000, 0x1000100010001, 0x0, 0x0, 0x0, 0x0, 0x0,
                           0x0, 0x0, 0x0, 0x0, 0x0, 0x0, 0x0, 0x0], running := true,
                         fetch := [{ number := 77, pos := 0, addr := 0x8050000000000, len := 3 },
                           { number := 78, pos := 3, addr := 0x8050000000003, len := 61 }] }
       let rest : List Xfer := [{}]
       let h : FetchPart := { number := 77, pos := 0, addr := 0x8050000000000, len := 3 }
       Arrives s p f
       ∧ (s.chan d.chan).queue = x :: rest
       ∧ x.running = true
       ∧ x.remote = true
       ∧ x.peer = f.dstCtx
       ∧ (s.lineStOf (d.chan / 16)).works = true
       ∧ f.type = 4
       ∧ ((s.ctx k).sent.find? fun e => e.number == f.delivery && e.isRead == true) = some d
       ∧ (x.fetch.find? fun g => g.number == f.delivery) = some h
       ∧ bits f.info 32 8 = 0
       ∧ crc32c f.body = f.info % 2 ^ 32
       ∧ f.body.length = h.len)
    ∧ (let s : State := { mapped with tt := { windows := [(0x0000000800000000 + 5 + 0xC000, 0x3000)] }, ctxs := [(9,
                                        { st := .open_, remoteEp := 42, remoteCtx := 7, portMask := 15,
                                          sent := [{ number := 77, port := 3, isRead := true },
                                            { number := 77, port := 3, chan := 5 }] })], ports := [(3,
                                        { st := .up, farFid := 5, farLine := 2, credits := [(0, 100), (1, 100), (2,
                                            100)], rxq := [{ type := 15 },
                                            { type := 5, cls := 1, last := true, dstEp := 0, dstCtx := 9,
                                              srcEp := 42, srcCtx := 7, addr := 0, delivery := 77, info := 0,
                                              body := [] }] })], chans := [(5,
                                        { queue := [{ words := [0x4000000920, 0x3000, 0x8050000000000,
                                                        0x1000100010001, 0x0, 0x0, 0x0, 0x0, 0x0, 0x0, 0x0, 0x0,
                                                        0x0, 0x0, 0x0, 0x0, 0x0], running := true,
                                                      sent := [{ number := 77, pos := 0, len := 16 }],
                                                      sentPos := 16 }, {}] })] }
       let p : PortId := 3
       let f : Flit := { type := 5, cls := 1, last := true, dstEp := 0, dstCtx := 9, srcEp := 42, srcCtx := 7,
                         addr := 0, delivery := 77, info := 0, body := [] }
       let l := s.leaderOf (p.val / 4)
       let k := ctxKey l f.dstCtx
       let d : SentDelivery := { number := 77, port := 3, chan := 5 }
       let x : Xfer := { words := [0x4000000920, 0x3000, 0x8050000000000, 0x1000100010001, 0x0, 0x0, 0x0, 0x0, 0x0,
                           0x0, 0x0, 0x0, 0x0, 0x0, 0x0, 0x0, 0x0], running := true,
                         sent := [{ number := 77, pos := 0, len := 16 }], sentPos := 16 }
       let rest : List Xfer := [{}]
       let q : SentPart := ({ number := 77, pos := 0, len := 16 } : SentPart)
       Arrives s p f
       ∧ (s.chan d.chan).queue = x :: rest
       ∧ x.running = true
       ∧ x.remote = true
       ∧ x.peer = f.dstCtx
       ∧ (s.lineStOf (d.chan / 16)).works = true
       ∧ f.type = 5
       ∧ ((s.ctx k).sent.find? fun e => e.number == f.delivery && e.isRead == false) = some d
       ∧ d.isCounter = false
       ∧ x.sent = [q]
       ∧ x.ending = none
       ∧ q.number = f.delivery
       ∧ f.info % 2 ^ 8 = 0
       ∧ (x.w 12).flag 47 = false
       ∧ x.pos + q.len < x.total)
    ∧ (let s : State := { mapped with tt := { windows := [(0x0000000800000000 + 5 + 0xC000, 0x3000)] }, ctxs := [(9,
                                        { st := .open_, remoteEp := 42, remoteCtx := 7, portMask := 15 })],
                                      ports := [(3, { st := .up, farFid := 5, farLine := 2, credits := [(0, 100),
                                                        (1, 100), (2, 100)], rxq := [{ type := 15 },
                                                        { type := 6, cls := 1, last := true, dstEp := 0,
                                                          dstCtx := 9, srcEp := 42, srcCtx := 7, addr := 0x0FFF,
                                                          delivery := 77, info := 0x5FFFF, body := [] }] })],
                                      mem := [(0x40001FFF8000 + 0x7FF8, 9)] }
       let p : PortId := 3
       let f : Flit := { type := 6, cls := 1, last := true, dstEp := 0, dstCtx := 9, srcEp := 42, srcCtx := 7,
                         addr := 0x0FFF, delivery := 77, info := 0x5FFFF, body := [] }
       let l := s.leaderOf (p.val / 4)
       let old : Nat := 9
       Arrives s p f
       ∧ f.type = 6
       ∧ (s.windowFor l (bits f.info 16 11) true).isSome = true
       ∧ s.counterVal l (f.addr % 2 ^ 15) = some old
       ∧ (∀ a, s.counterDpa l (f.addr % 2 ^ 15) = some a →
           (s.granule (a / 64)).1.length = 64 ∧ s.onFailed a = none ∧ Quiet s (a / 64)))
    ∧ (let s : State := { mapped with tt := { windows := [(0x0000000800000000 + 5 + 0xC000, 0x3000)] }, ctxs := [(9,
                                        { st := .open_, remoteEp := 42, remoteCtx := 7, portMask := 15 })],
                                      ports := [(3, { st := .up, farFid := 5, farLine := 2, credits := [(0, 100),
                                                        (1, 100), (2, 100)], rxq := [{ type := 15 },
                                                        { type := 9, cls := 1, last := true, dstEp := 0,
                                                          dstCtx := 9, srcEp := 42, srcCtx := 7, addr := 0,
                                                          delivery := 77, info := 0, body := [] }] })] }
       let p : PortId := 3
       let f : Flit := { type := 9, cls := 1, last := true, dstEp := 0, dstCtx := 9, srcEp := 42, srcCtx := 7,
                         addr := 0, delivery := 77, info := 0, body := [] }
       let l := s.leaderOf (p.val / 4)
       Arrives s p f
       ∧ f.type = 9
       ∧ NoTransfers s
       ∧ RouteOff s l 0x107) := by
  and_intros
  all_goals first
    | decide +kernel
    | simp only [quiet_iff, arrives_iff, Readable, BlockWritable, NoTransfers, RouteOff] <;> decide +kernel

end Sys2Proof.Tests
end

