-- ==== Sys2Proof/Tests/Witness4.lean ====
section
/-!
SUPPORT. States and operands that meet the premises of the statements ReductionEntries to SpurEvents,
clause by clause.
-/
namespace Sys2Proof.Tests

set_option Elab.async false

open Machine Safety

/-- States and operands that meet the premises of each clause of ReductionEntries. -/
theorem test_ReductionEntries :
    (let s : State := { mapped with regs := [(cflKey 0 0, 0x5000)] }
     let via : Via := .host
     let b : BasinId := 0
     let v : Word := 0x510
     let n : EntryId := 16
     let l := s.leaderOf b
     let t0 := s.reg (cflKey l 0)
     s.bWrites via b = true
     ∧ l = b.val
     ∧ v.flag 11 = false
     ∧ v.flag 15 = false
     ∧ v.field 20 12 = 0
     ∧ v.field 60 4 = 0
     ∧ v.flag 10 = true
     ∧ v.field 0 8 = n.val
     ∧ v.field 8 2 = 1
     ∧ t0.field 0 4 < 5
     ∧ 2 ^ (t0.field 0 4 + 4) ≤ n.val)
    ∧ (let s : State := withWords { mapped with regs := [(cflKey 0 0, 0x5000)], cfls := [(3,
                                                  { st := .armed })] } 0x5180 [0x10000, 0x20000, 0x30000,
        0x400000000000, 0x200200001, 0x0, 0x1000000000000, 0x0]
       let via : Via := .host
       let b : BasinId := 0
       let v : Word := 0x503
       let n : EntryId := 3
       let l := s.leaderOf b
       let c := l * 256 + n.val
       let e := s.cfl c
       let t0 := s.reg (cflKey l 0)
       let a := t0.field 7 45 * 128 + n.val * 128
       let e0 : CflEntry := { st := .arming, words := (List.range 16).map fun i => wordAt s (a + 8 * i) }
       s.bWrites via b = true
       ∧ l = b.val
       ∧ v.flag 11 = false
       ∧ v.flag 15 = false
       ∧ v.field 20 12 = 0
       ∧ v.field 60 4 = 0
       ∧ v.flag 10 = true
       ∧ v.field 0 8 = n.val
       ∧ v.field 8 2 = 1
       ∧ t0.field 0 4 < 5
       ∧ n.val < 2 ^ (t0.field 0 4 + 4)
       ∧ Readable s l a 128
       ∧ e0.badField = false
       ∧ s.cflRange l e0 = false
       ∧ e.st.active = true)
    ∧ (let s : State := withWords { mapped with regs := [(cflKey 0 0, 0x5000)] } 0x5180 [0x10000, 0x20000, 0x30000,
        0x400000000000, 0x200200001, 0x0, 0x1000000000000, 0x0]
       let via : Via := .host
       let b : BasinId := 0
       let v : Word := 0x503
       let n : EntryId := 3
       let l := s.leaderOf b
       let c := l * 256 + n.val
       let e := s.cfl c
       let t0 := s.reg (cflKey l 0)
       let a := t0.field 7 45 * 128 + n.val * 128
       let e0 : CflEntry := { st := .arming, words := (List.range 16).map fun i => wordAt s (a + 8 * i) }
       s.bWrites via b = true
       ∧ l = b.val
       ∧ v.flag 11 = false
       ∧ v.flag 15 = false
       ∧ v.field 20 12 = 0
       ∧ v.field 60 4 = 0
       ∧ v.flag 10 = true
       ∧ v.field 0 8 = n.val
       ∧ v.field 8 2 = 1
       ∧ t0.field 0 4 < 5
       ∧ n.val < 2 ^ (t0.field 0 4 + 4)
       ∧ Readable s l a 128
       ∧ e0.badField = false
       ∧ s.cflRange l e0 = false
       ∧ e.st.active = false
       ∧ s.cflOverlap l e0 = false)
    ∧ (let s : State := { mapped with cfls := [(3, { st := .armed, sat := 3 })] }
       let via : Via := .host
       let b : BasinId := 0
       let v : Word := 0x603
       let n : EntryId := 3
       let l := s.leaderOf b
       let c := l * 256 + n.val
       let e := s.cfl c
       s.bWrites via b = true
       ∧ l = b.val
       ∧ v.flag 11 = false
       ∧ v.flag 15 = false
       ∧ v.field 20 12 = 0
       ∧ v.field 60 4 = 0
       ∧ v.flag 10 = true
       ∧ v.field 0 8 = n.val
       ∧ v.field 8 2 = 2
       ∧ e.st.active = true
       ∧ e.waiting = []
       ∧ e.recBase = 0)
    ∧ (let s : State := { mapped with mem := [(0x5, 1), (0x400000000000, 7), (0x400000000FFF, 8), (0x400000001000,
                                        9)], cfls := [(3, { st := .arming, words := [0x10000, 0x20000, 0x30000,
                                                              0x400000000000, 0x200200001, 0x0, 0x1000000000000,
                                                              0x0] }), (4, { st := .armed })] }
       let b : BasinId := 0
       let n : EntryId := 3
       let l := s.leaderOf b
       let c := l * 256 + n.val
       let e := s.cfl c
       (s.line l).st ≠ .failed
       ∧ e.st = .arming
       ∧ e.waiting = []
       ∧ s.meetsCounter e.accBase e.accBytes = false)
    ∧ (let s : State := { mapped with mem := [(0x10000, 1), (0x10007, 0x40), (0x30000, 127)], cfls := [(3,
                                        { st := .armed, words := [0x200000000010000, 0x20000, 0x30000,
                                            0x400000000000, 0x200200001, 0x0, 0x1000000000000, 0x0] })] }
       let b : BasinId := 0
       let n : EntryId := 3
       let l := s.leaderOf b
       let c := l * 256 + n.val
       let e := s.cfl c
       (s.line l).st ≠ .failed
       ∧ e.st = .armed
       ∧ e.seedEn = true
       ∧ e.seeded = false
       ∧ s.counterReached l ((e.w 6).field 32 15) (e.w 7).toNat = true
       ∧ e.badField = false
       ∧ Readable s l e.inBase (e.elems * e.wIn)
       ∧ Readable s l e.scaleBase e.blockCount
       ∧ (∀ k < e.blockCount, tblGet 0 e.count k + 1 ≠ e.contrib))
    ∧ (let s : State := { mapped with regs := [(lnKey 0 0x200, 0xFFFFFFFFFFFFFFFF)], cfls := [(3,
                                        { st := .finishing, sat := 3, flush := 4, blocks := 1, words := [0x10000,
                                            0x20000, 0x30000, 0x400000000000, 0x200200001, 0x0, 0x1000000000000,
                                            0x0, 0x40020] })] }
       let b : BasinId := 0
       let n : EntryId := 3
       let l := s.leaderOf b
       let c := l * 256 + n.val
       let e := s.cfl c
       (s.line l).st ≠ .failed
       ∧ e.st = .finishing
       ∧ e.stats = false
       ∧ (e.w 6).flag 15 = false
       ∧ e.recBase ≠ 0
       ∧ Writable s l e.recBase 32) := by
  and_intros
  all_goals first
    | decide +kernel
    | simp only [writable_iff, quiet_iff, Readable] <;> decide +kernel

/-- States and operands that meet the premises of each clause of ReductionDeliveries. -/
theorem test_ReductionDeliveries :
    (let s : State := { mapped with tt := { windows := [(0x0000010000000000 + 5 + 0xC000, 0)] }, ctxs := [(9,
                                      { st := .open_, remoteEp := 42, remoteCtx := 7, portMask := 15 })],
                                    ports := [(3, { st := .up, farFid := 5, farLine := 2,
                                                    rxq := [{ type := 2, cls := 1, last := true, dstEp := 0,
                                                              dstCtx := 9, srcEp := 42, srcCtx := 7,
                                                              addr := 0x8050000010000, delivery := 77,
                                                              info := (crc32c ([0, 0, 128,
                                                                63] ++ List.replicate 124 0)) + 3 * 2 ^ 32 + 1 * 2 ^
                                                                40, body := [0, 0, 128,
                                                                63] ++ List.replicate 124 0 }] })], cfls := [(3,
                                      { st := .armed, words := [0x10000, 0x20000, 0x30000, 0x400000000000,
                                          0x200200001, 0x0, 0x1000000000000, 0x0] })], mem := [(0x30000, 127)] }
     let p : PortId := 3
     let f : Flit := { type := 2, cls := 1, last := true, dstEp := 0, dstCtx := 9, srcEp := 42, srcCtx := 7,
                       addr := 0x8050000010000, delivery := 77, info := (crc32c ([0, 0, 128,
                         63] ++ List.replicate 124 0)) + 3 * 2 ^ 32 + 1 * 2 ^ 40, body := [0, 0, 128,
                         63] ++ List.replicate 124 0 }
     let a : Nat := 0x10000
     let k : Nat := 0
     let l := s.leaderOf (p.val / 4)
     let n := bits f.info 32 8
     let c := l * 256 + n
     let e := s.cfl c
     let sc := (seen s (e.scaleBase + k)).toNat
     Arrives s p f
     ∧ f.type = 2
     ∧ s.cflWaits l f.dstCtx f.delivery = false
     ∧ s.resolve l f.addr f.body.length true = some a
     ∧ crc32c f.body = f.info % 2 ^ 32
     ∧ n < 2 ^ (s.fld (cflKey l 0) 0 4 + 4)
     ∧ e.st = .armed
     ∧ e.badField = false
     ∧ cflRefusal e (bits f.info 40 16) [(a, f.body)] = none
     ∧ f.body.length = 32 * e.wIn
     ∧ a = e.inBase + k * (32 * e.wIn)
     ∧ tblGet 0 e.count k + 1 ≠ e.contrib
     ∧ Readable s l (e.scaleBase + k) 1
     ∧ sc ≠ 0xFF)
    ∧ (let s : State := { mapped with tt := { windows := [(0x0000010000000000 + 5 + 0xC000, 0)] }, ctxs := [(9,
                                        { st := .open_, remoteEp := 42, remoteCtx := 7, portMask := 15 })],
                                      ports := [(3, { st := .up, farFid := 5, farLine := 2,
                                                      rxq := [{ type := 2, cls := 1, last := true, dstEp := 0,
                                                                dstCtx := 9, srcEp := 42, srcCtx := 7,
                                                                addr := 0x8050000010000, delivery := 77,
                                                                info := (crc32c ([0, 0, 128,
                                                                  63] ++ List.replicate 124 0)) + 3 * 2 ^ 32 + 1 * 2
                                                                  ^ 40, body := [0, 0, 128,
                                                                  63] ++ List.replicate 124 0 }] })], cfls := [(3,
                                        { st := .done, words := [0x10000, 0x20000, 0x30000, 0x400000000000,
                                            0x200200001, 0x0, 0x1000000000000, 0x0] })], mem := [(0x30000, 127)] }
       let p : PortId := 3
       let f : Flit := { type := 2, cls := 1, last := true, dstEp := 0, dstCtx := 9, srcEp := 42, srcCtx := 7,
                         addr := 0x8050000010000, delivery := 77, info := (crc32c ([0, 0, 128,
                           63] ++ List.replicate 124 0)) + 3 * 2 ^ 32 + 1 * 2 ^ 40, body := [0, 0, 128,
                           63] ++ List.replicate 124 0 }
       let a : Nat := 0x10000
       let l := s.leaderOf (p.val / 4)
       let n := bits f.info 32 8
       let c := l * 256 + n
       let e := s.cfl c
       Arrives s p f
       ∧ f.type = 2
       ∧ s.cflWaits l f.dstCtx f.delivery = false
       ∧ s.resolve l f.addr f.body.length true = some a
       ∧ crc32c f.body = f.info % 2 ^ 32
       ∧ n < 2 ^ (s.fld (cflKey l 0) 0 4 + 4)
       ∧ e.st.active = false
       ∧ RouteOff s l 0x102
       ∧ s.flag (cflKey l 0x10) 28 = false) := by
  and_intros
  all_goals first
    | decide +kernel
    | simp only [arrives_iff, Readable, quiet_iff, RouteOff] <;> decide +kernel

/-- States and operands that meet the premises of each clause of UpdateQueue. -/
theorem test_UpdateQueue :
    (let s : State := { up with layers := [(0, [{}, {}, {}, {}, {}, {}, {}, {}, {}, {}, {}, {}, {}, {}, {}, {}])] }
     let via : Via := .host
     let b : BasinId := 0
     let v : Word := 0x4000
     let l := s.leaderOf b
     let q := s.layerQ b
     s.bWrites via b = true
     ∧ v.field 52 12 = 0
     ∧ (s.line l).st = .running
     ∧ 16 ≤ q.length)
    ∧ (let s : State := withWords up 0x4000 [0x0, 0x300030002, 0x10000, 0x11000, 0x12000, 0x13000, 0x14000, 0x15000,
        0x16000, 0x17000, 0x18000, 0x19000, 0x1a000, 0x3f0000003f000000, 0x3f8000003f000000, 0x3f8000003a000000,
        0x0, 0x0, 0x0]
       let via : Via := .host
       let b : BasinId := 0
       let v : Word := 0x4000
       let l := s.leaderOf b
       let q := s.layerQ b
       let a := v.field 3 49 * 8
       let ws := (List.range 19).map fun i => wordAt s (a + 8 * i)
       let y0 : Layer := { words := (s.lowBitsOf ws [(10, 0, 57, 8), (11, 0, 57, 2), (18, 0, 57, 32)]).1 }
       s.bWrites via b = true
       ∧ v.field 52 12 = 0
       ∧ (s.line l).st = .running
       ∧ q.length < 16
       ∧ Readable s l a 152
       ∧ y0.reserved = false
       ∧ (y0.w 0).field 32 2 ≠ 3
       ∧ (∀ c ∈ s.members l, ∀ z ∈ s.layerQ c, layersMeet y0 z = false))
    ∧ (let s : State := { up with layers := [(0, [{ running := true }])], regs := [(updKey 0 0x20, 2)] }
       let via : Via := .host
       let b : BasinId := 0
       let v : Word := 0
       s.bWrites via b = true
       ∧ v.field 3 61 = 0
       ∧ v.flag 0 = false
       ∧ v.flag 2 = false)
    ∧ (let s : State := { up with layers := [(0, [{ words := [0x0, 0x300030002, 0x10000, 0x11000, 0x12000, 0x13000,
                                                      0x14000, 0x15000, 0x16000, 0x17000, 0x18000, 0x19000, 0x1a000,
                                                      0x3f0000003f000000, 0x3f8000003f000000, 0x3f8000003a000000,
                                                      0x0, 0x0, 0x0] },
                                    { words := [0x0, 0x300030002, 0x10000, 0x11000, 0x12000, 0x13000, 0x14000,
                                        0x15000, 0x16000, 0x17000, 0x18000, 0x19000, 0x1a000, 0x3f0000003f000000,
                                        0x3f8000003f000000, 0x3f8000003a000000, 0x0, 0x0, 0x0], running := true,
                                      row := 1 }])] }
       let via : Via := .host
       let b : BasinId := 0
       let v : Word := 1
       let l := s.leaderOf b
       let y : Layer := { words := [0x0, 0x300030002, 0x10000, 0x11000, 0x12000, 0x13000, 0x14000, 0x15000, 0x16000,
                            0x17000, 0x18000, 0x19000, 0x1a000, 0x3f0000003f000000, 0x3f8000003f000000,
                            0x3f8000003a000000, 0x0, 0x0, 0x0], running := true, row := 1 }
       s.bWrites via b = true
       ∧ v.field 3 61 = 0
       ∧ v.flag 0 = true
       ∧ v.flag 2 = false
       ∧ s.runningLayer b = some y
       ∧ (s.line l).st.works = true
       ∧ y.recDpa = none
       ∧ RouteOff s l 0x103)
    ∧ (let s : State := { up with layers := [(0, [{ words := [0x0, 0x300030002, 0x10000, 0x11000, 0x12000, 0x13000,
                                                      0x14000, 0x15000, 0x16000, 0x17000, 0x18000, 0x19000, 0x1a000,
                                                      0x3f0000003f000000, 0x3f8000003f000000, 0x3f8000003a000000,
                                                      0x0, 0x0, 0x0] },
                                    { words := [0x0, 0x300030002, 0x10000, 0x11000, 0x12000, 0x13000, 0x14000,
                                        0x15000, 0x16000, 0x17000, 0x18000, 0x19000, 0x1a000, 0x3f0000003f000000,
                                        0x3f8000003f000000, 0x3f8000003a000000, 0x0, 0x0, 0x0], running := true,
                                      row := 1 }])] }
       let via : Via := .host
       let b : BasinId := 0
       let v : Word := 4
       let l := s.leaderOf b
       let q := s.layerQ b
       s.bWrites via b = true
       ∧ v.field 3 61 = 0
       ∧ v.flag 0 = false
       ∧ v.flag 2 = true
       ∧ (∀ y ∈ q, y.va 18 = 0)
       ∧ RouteOff s l 0x103)
    ∧ (let s : State := { up with regs := [(updKey 0 0, 0x123400005678), (updKey 0 8, 0xFFFFFFFF00000010)] }
       let via : Via := .host
       let b : BasinId := 0
       let v : Word := 1
       let ln := s.line b
       s.lnWrites via b = true
       ∧ v.field 21 11 = 0
       ∧ v.flag 0 = true
       ∧ v.flag 1 = false
       ∧ ln.stepFence = .closed)
    ∧ (let s : State := { up with lines := [(0, { st := .running, stepFence := .open_ })] }
       let via : Via := .host
       let b : BasinId := 0
       let v : Word := 0x11
       let ln := s.line b
       s.lnWrites via b = true
       ∧ v.field 21 11 = 0
       ∧ v.flag 0 = true
       ∧ v.flag 1 = false
       ∧ ln.stepFence ≠ .closed)
    ∧ (let s : State := { up with lines := [(0, { st := .running, stepFence := .open_ })] }
       let via : Via := .host
       let b : BasinId := 0
       let v : Word := 2
       let ln := s.line b
       s.lnWrites via b = true
       ∧ v.field 21 11 = 0
       ∧ v.flag 1 = true
       ∧ ln.stepFence = .open_)
    ∧ (let s : State := { up with lines := [(0, { st := .running, stepFence := .closing })] }
       let b : BasinId := 0
       let k := updKey b 8
       let ln := s.line b
       ln.stepFence = .closing
       ∧ ln.st ≠ .failed
       ∧ (∀ c ∈ s.members b, s.runningLayer c = none)
       ∧ RouteOff s b 0x108
       ∧ s.flag k 5 = false)
    ∧ (let s : State := { up with lines := [(0, { st := .running, stepFence := .closing })], regs := [(updKey 0 8,
                                    0x20)] }
       let b : BasinId := 0
       let k := updKey b 8
       let ln := s.line b
       let old : Nat := 0
       ln.stepFence = .closing
       ∧ ln.st ≠ .failed
       ∧ (∀ c ∈ s.members b, s.runningLayer c = none)
       ∧ RouteOff s b 0x108
       ∧ s.flag k 5 = true
       ∧ s.counterVal b (s.fld k 6 15) = some old
       ∧ (∀ x, s.counterDpa b (s.fld k 6 15) = some x →
           (s.granule (x / 64)).1.length = 64 ∧ s.onFailed x = none ∧ Quiet s (x / 64))) := by
  and_intros
  all_goals first
    | decide +kernel
    | simp only [quiet_iff, Readable, RouteOff] <;> decide +kernel

/-- States and operands that meet the premises of each clause of UpdateLayers. -/
theorem test_UpdateLayers :
    (let b : BasinId := 0
     let y : Layer := { words := [0x0, 0x300030002, 0x10000, 0x11000, 0x12000, 0x13000, 0x14000, 0x15000, 0x16000,
                          0x17000, 0x18000, 0x19000, 0x1a000, 0x3f0000003f000000, 0x3f8000003f000000,
                          0x3f8000003a000000, 0x0, 0x100000000, 0x0] }
     let s : State := { mapped with layers := [(0, [{ words := [0x0, 0x300030002, 0x10000, 0x11000, 0x12000,
                                                        0x13000, 0x14000, 0x15000, 0x16000, 0x17000, 0x18000,
                                                        0x19000, 0x1a000, 0x3f0000003f000000, 0x3f8000003f000000,
                                                        0x3f8000003a000000, 0x0, 0x100000000, 0x0] }])],
                                    lines := [(0, { st := .running, stepFence := .open_, ended := [(0, true)] })] }
     let l := s.leaderOf b
     let q := s.layerQ b
     (s.line l).st = .running
     ∧ s.leaderOf b < 8
     ∧ (s.line l).stepFence = .open_
     ∧ s.runningLayer b = none
     ∧ s.flag (updKey b 0x20) 1 = false
     ∧ q.find? (s.layerReady l) = some y
     ∧ y.va 18 = 0
     ∧ s.jobEnded l y.job = true
     ∧ RouteOff s l 0x103)
    ∧ (let s : State := { mapped with lines := [(0, { st := .running, stepFence := .open_ })], layers := [(0,
                                        [{ words := [0x0, 0x100030000, 0x10000, 0x11000, 0x12000, 0x13000, 0x14000,
                                             0x15000, 0x16000, 0x17000, 0x18000, 0x19000, 0x1a000,
                                             0x3f0000003f000000, 0x3f8000003f000000, 0x3f8000003a000000, 0x0, 0x0,
                                             0x0] }])] }
       let b : BasinId := 0
       let y : Layer := { words := [0x0, 0x100030000, 0x10000, 0x11000, 0x12000, 0x13000, 0x14000, 0x15000, 0x16000,
                            0x17000, 0x18000, 0x19000, 0x1a000, 0x3f0000003f000000, 0x3f8000003f000000,
                            0x3f8000003a000000, 0x0, 0x0, 0x0] }
       let l := s.leaderOf b
       let q := s.layerQ b
       (s.line l).st = .running
       ∧ s.leaderOf b < 8
       ∧ (s.line l).stepFence = .open_
       ∧ s.runningLayer b = none
       ∧ s.flag (updKey b 0x20) 1 = false
       ∧ q.find? (s.layerReady l) = some y
       ∧ y.va 18 = 0
       ∧ s.jobEnded l y.job = false
       ∧ y.badShape = true
       ∧ RouteOff s l 0x103)
    ∧ (let s : State := { mapped with lines := [(0, { st := .running, stepFence := .open_ })], layers := [(0,
                                        [{ words := [0x0, 0x300030002, 0x10000, 0x11000, 0x12000, 0x13000, 0x14000,
                                             0x15000, 0x16000, 0x17000, 0x18000, 0x19000, 0x1a000,
                                             0x3f0000003f000000, 0x3f8000003f000000, 0x3f8000003a000000, 0x0, 0x0,
                                             0x0] }])], mem := [(0x1000, 2), (0x1007, 0x80), (0x1008, 2), (0x2000,
                                        0xD7), (0x15000, 7), (0x15003, 0x3F), (0x17003, 0x40), (0x18000, 5)],
                                      regs := [(xlKey 0 0, 0x8000000000001000), (updKey 0 0, 0x3F80000000000000)] }
       let b : BasinId := 0
       let y : Layer := { words := [0x0, 0x300030002, 0x10000, 0x11000, 0x12000, 0x13000, 0x14000, 0x15000, 0x16000,
                            0x17000, 0x18000, 0x19000, 0x1a000, 0x3f0000003f000000, 0x3f8000003f000000,
                            0x3f8000003a000000, 0x0, 0x0, 0x0] }
       let l := s.leaderOf b
       let q := s.layerQ b
       let i := q.findIdx (s.layerReady l)
       let y2 := { y with running := true, row := y.start, recDpa := none }
       let s1 := (s.clean.setLayerQ b (q.take i ++ y2 :: q.drop (i + 1))).setRunning b y2
       let eta := s.fld (updKey l 0) 32 32
       let h : List Byte × Bool × Nat := (match s1.updReads 0 y2 [(y.va 10, 8, false), (y.va 7, 4 * y.cols, false),
           (y.va 9, 4 * y.cols, false)] with | (.ok x, _) => x.getD 0 ([], false, 0) | _ => ([], false, 0))
       let c : List Byte × Bool × Nat := (match s1.updReads 0 y2 [(y.va 10, 8, false), (y.va 7, 4 * y.cols, false),
           (y.va 9, 4 * y.cols, false)] with | (.ok x, _) => x.getD 1 ([], false, 0) | _ => ([], false, 0))
       let w : List Byte × Bool × Nat := (match s1.updReads 0 y2 [(y.va 10, 8, false), (y.va 7, 4 * y.cols, false),
           (y.va 9, 4 * y.cols, false)] with | (.ok x, _) => x.getD 2 ([], false, 0) | _ => ([], false, 0))
       let s2 : State := (s1.updReads 0 y2 [(y.va 10, 8, false), (y.va 7, 4 * y.cols, false), (y.va 9, 4 * y.cols,
           false)]).2
       (s.line l).st = .running
       ∧ s.leaderOf b < 8
       ∧ (s.line l).stepFence = .open_
       ∧ s.runningLayer b = none
       ∧ s.flag (updKey b 0x20) 1 = false
       ∧ q.find? (s.layerReady l) = some y
       ∧ y.va 18 = 0
       ∧ s.jobEnded l y.job = false
       ∧ y.badShape = false
       ∧ y.badParam eta = false
       ∧ y.misaligned = false
       ∧ s1.updReads b y2 [(y.va 10, 8, false), (y.va 7, 4 * y.cols, false), (y.va 9, 4 * y.cols, false)]
           = (.ok [h, c, w], s2)
       ∧ s2.misuse = none
       ∧ h.2.1 = false
       ∧ c.2.1 = false
       ∧ w.2.1 = false)
    ∧ (let s : State := { mapped with lines := [(0, { st := .running, stepFence := .open_ })], layers := [(0,
                                        [{ words := [0x0, 0x300030002, 0x10000, 0x11000, 0x12000, 0x13000, 0x14000,
                                             0x15000, 0x16000, 0x17000, 0x18000, 0x19000, 0x1a000,
                                             0x3f0000003f000000, 0x3f8000003f000000, 0x3f8000003a000000, 0x0, 0x0,
                                             0x0], running := true, row := 1, t := 3, cn := [0x3F800000, 0x3F800000,
                                             0x3F800000], d := 0x40400000, etaL := 0x3F800000,
                                           keep := 0x3F800000 }])], mem := [(0x1000, 2), (0x1007, 0x80), (0x1008,
                                        2), (0x2000, 0xD7), (0x1000E, 0x80), (0x1000F, 0x3F), (0x11007, 0x3F),
                                        (0x14007, 0x3F), (0x16007, 0x40), (0x19002, 1), (0x1A004, 1)] }
       let b : BasinId := 0
       let y : Layer := { words := [0x0, 0x300030002, 0x10000, 0x11000, 0x12000, 0x13000, 0x14000, 0x15000, 0x16000,
                            0x17000, 0x18000, 0x19000, 0x1a000, 0x3f0000003f000000, 0x3f8000003f000000,
                            0x3f8000003a000000, 0x0, 0x0, 0x0], running := true, row := 1, t := 3,
                          cn := [0x3F800000, 0x3F800000, 0x3F800000], d := 0x40400000, etaL := 0x3F800000,
                          keep := 0x3F800000 }
       let l := s.leaderOf b
       let s0 : State := s.clean
       let i : Nat := 1
       let n : Nat := 0
       let at2 (w : Nat) : Nat := y.va w + 2 * i * y.cols
       let s1 : State := (s0.updReads 0 y ([(y.va 2 + y.gWidth * i * y.cols, y.gWidth * y.cols, false), (at2 3,
           2 * y.cols, true), (at2 4, 2 * y.cols, true), (y.va 6 + 4 * i, 4, true), (y.va 8 + 4 * i, 4,
           false)] ++ (if y.momEn then [(at2 5, 2 * y.cols, true)] else []) ++ (if y.emb then [(y.va 12 + 4 * i, 4,
           true)] else []))).2
       let rs : List (List Byte × Bool × Nat) := (match s0.updReads 0 y ([(y.va 2 + y.gWidth * i * y.cols,
           y.gWidth * y.cols, false), (at2 3, 2 * y.cols, true), (at2 4, 2 * y.cols, true), (y.va 6 + 4 * i, 4,
           true), (y.va 8 + 4 * i, 4, false)] ++ (if y.momEn then [(at2 5, 2 * y.cols,
           true)] else []) ++ (if y.emb then [(y.va 12 + 4 * i, 4,
           true)] else [])) with | (.ok zz, _) => zz | _ => [])
       let part (j : Nat) : List Byte := (rs.getD j ([], false, 0)).1
       let x : RowIn :=
         { g := if y.gBf16 then (codes16 (part 0)).map (· * 65536) else codes32 (part 0), hi := codes16 (part 1)
           lo := codes16 (part 2), r := leNat (part 3), rowsq := leNat (part 4)
           mom := if y.momEn then codes16 (part 5) else [] }
       let o := (updateRow y (if y.emb then (if y.t ≤ n then 0 else y.t - n - 1) else 0) x).run (0, 0)
       let bytes (z : List Nat) : List Byte := z.flatMap fun v => leBytes 2 v
       let s2 : State := (s1.updWrites 0 y ([(y.va 6 + 4 * i, leBytes 4 o.1.r), (at2 3, bytes o.1.hi), (at2 4,
           bytes o.1.lo)] ++ (if y.momEn then [(at2 5, bytes o.1.mom)] else []) ++ (if y.emb then [(y.va 12 + 4 * i,
           leBytes 4 y.t)] else []))).2
       s.runningLayer b = some y
       ∧ (s.lineStOf b).works = true
       ∧ y.row < y.count
       ∧ s.jobEnded l y.job = false
       ∧ (y.emb = false ∧ s0 = s.clean ∧ i = y.row ∧ n = 0 ∨ y.emb = true ∧ i < y.rows ∧ ∃ sa sp bs ls,
           s.clean.updRead b y (y.va 11 + 2 * y.row) 2 = (.ok bs false, sa) ∧ leNat bs = i
           ∧ (y.row = 0 ∧ sp = sa ∨ y.row ≠ 0 ∧ ∃ before bad,
           sa.updRead b y (y.va 11 + 2 * (y.row - 1)) 2 = (.ok before bad, sp) ∧ leNat before < i)
           ∧ sp.updRead b y (y.va 12 + 4 * i) 4 true = (.ok ls false, s0) ∧ leNat ls = n)
       ∧ s0.updReads b y ([(y.va 2 + y.gWidth * i * y.cols, y.gWidth * y.cols, false), (at2 3, 2 * y.cols, true),
           (at2 4, 2 * y.cols, true), (y.va 6 + 4 * i, 4, true), (y.va 8 + 4 * i, 4, false)]
           ++ (if y.momEn then [(at2 5, 2 * y.cols, true)] else []) ++ (if y.emb then [(y.va 12 + 4 * i, 4,
               true)] else []))
           = (.ok rs, s1)
       ∧ rs.find? (·.2.1) = none
       ∧ s1.updWrites b y ([(y.va 6 + 4 * i, leBytes 4 o.1.r), (at2 3, bytes o.1.hi), (at2 4, bytes o.1.lo)]
           ++ (if y.momEn then [(at2 5, bytes o.1.mom)] else [])
           ++ (if y.emb then [(y.va 12 + 4 * i, leBytes 4 y.t)] else [])) = (none, s2)
       ∧ s2.misuse = none)
    ∧ (let s : State := { mapped with lines := [(0, { st := .running, stepFence := .open_ })], layers := [(0,
                                        [{ words := [0x0, 0x300030002, 0x10000, 0x11000, 0x12000, 0x13000, 0x14000,
                                             0x15000, 0x16000, 0x17000, 0x18000, 0x19000, 0x1a000,
                                             0x3f0000003f000000, 0x3f8000003f000000, 0x3f8000003a000000, 0x0, 0x0,
                                             0x0], running := true, row := 2, t := 9, cn := [0x3F800000, 0x40000000,
                                             0x40400000] }])] }
       let b : BasinId := 0
       let y : Layer := { words := [0x0, 0x300030002, 0x10000, 0x11000, 0x12000, 0x13000, 0x14000, 0x15000, 0x16000,
                            0x17000, 0x18000, 0x19000, 0x1a000, 0x3f0000003f000000, 0x3f8000003f000000,
                            0x3f8000003a000000, 0x0, 0x0, 0x0], running := true, row := 2, t := 9,
                          cn := [0x3F800000, 0x40000000, 0x40400000] }
       let s0 : State := (s.clean.updChecks 0 y [(y.va 7, 4 * y.cols), (y.va 10, 4)]).2
       let s1 : State := (s0.updWrites 0 y [(y.va 7, y.cn.flatMap fun v => leBytes 4 v), (y.va 10,
           leBytes 4 y.t)]).2
       s.runningLayer b = some y
       ∧ (s.lineStOf b).works = true
       ∧ y.count ≤ y.row
       ∧ y.recDpa = none
       ∧ (y.w 17).flag 15 = false
       ∧ s.clean.updChecks b y [(y.va 7, 4 * y.cols), (y.va 10, 4)] = (none, s0)
       ∧ s0.updWrites b y [(y.va 7, y.cn.flatMap fun v => leBytes 4 v), (y.va 10, leBytes 4 y.t)] = (none, s1)
       ∧ s1.misuse = none) := by
  and_intros
  all_goals first
    | decide +kernel
    | simp only [RouteOff] <;> decide +kernel
    | exact Or.inl ⟨by decide +kernel, rfl, by decide +kernel, by decide +kernel⟩

/-- States and operands that meet the premises of each clause of CoreAccesses. -/
theorem test_CoreAccesses :
    (let s : State := { up with bindings := [(32, 5)], harts := [(0,
                                  { pc := 0x80, mode := .run, csrs := [(0x305, 0x1001)] })], mem := [(0x4000, 1),
                                  (0x4007, 2), (0x4008, 3), (0x403F, 4)] }
     let h : HartId := 0
     let l := s.leaderOf (h.val / 16)
     let x0 := s.hart h
     let calm := l < 8 ∧ s.coreOn l h = true ∧ x0.mode = .run ∧ (s.line l).st.works = true
     calm)
    ∧ (let s : State := { up with bindings := [(32, 5)], harts := [(0,
                                    { pc := 0x80, mode := .run, csrs := [(0x305, 0x1001)] })], mem := [(0x4000, 1),
                                    (0x4007, 2), (0x4008, 3), (0x403F, 4)] }
       let h : HartId := 0
       let l := s.leaderOf (h.val / 16)
       let x0 := s.hart h
       let calm := l < 8 ∧ s.coreOn l h = true ∧ x0.mode = .run ∧ (s.line l).st.works = true
       calm
       ∧ x0.imsic = [])
    ∧ (let s : State := { up with bindings := [(32, 5)], harts := [(0,
                                    { pc := 0x80, mode := .run, csrs := [(0x305, 0x1001)] })], mem := [(0x4000, 1),
                                    (0x4007, 2), (0x4008, 3), (0x403F, 4)] }
       let h : HartId := 0
       let va : Nat := 0x4001
       let l := s.leaderOf (h.val / 16)
       let x0 := s.hart h
       let calm := l < 8 ∧ s.coreOn l h = true ∧ x0.mode = .run ∧ (s.line l).st.works = true
       calm
       ∧ va % 8 ≠ 0)
    ∧ (let s : State := { up with bindings := [(32, 5)], harts := [(0,
                                    { pc := 0x80, mode := .run, csrs := [(0x305, 0x1001)] })], mem := [(0x4000, 1),
                                    (0x4007, 2), (0x4008, 3), (0x403F, 4)] }
       let h : HartId := 0
       let l := s.leaderOf (h.val / 16)
       let x0 := s.hart h
       let calm := l < 8 ∧ s.coreOn l h = true ∧ x0.mode = .run ∧ (s.line l).st.works = true
       let sew : Nat := 2
       let vl : Nat := 3
       let f : FloatFmt := fp32
       let m : Nat := 0
       calm
       ∧ sewFmt sew = some f
       ∧ x0.rounding 7 = some m
       ∧ 0 < vl)
    ∧ (let s : State := { up with bindings := [(32, 5)], harts := [(0,
                                    { pc := 0x80, mode := .run, csrs := [(0x305, 0x1001)] })], mem := [(0x4000, 1),
                                    (0x4007, 2), (0x4008, 3), (0x403F, 4)],
                                  coh := { caches := [(0x100,
                                             some { st := .m, data := List.replicate 32 9 ++ List.replicate 32 7,
                                                    poison := false })], dir := [(0x100, .owned 0)] } }
       let h : HartId := 0
       let va : Nat := 0x4007
       let a : Nat := 0x4007
       let l := s.leaderOf (h.val / 16)
       let g := a / 64
       let x0 := s.hart h
       let calm := l < 8 ∧ s.coreOn l h = true ∧ x0.mode = .run ∧ (s.line l).st.works = true
       let owns := ∃ c, s.holders g = [h.val] ∧ s.copy h g = some c ∧ c.st = .m ∧ s.dirOf g = .owned h.val
       let alone := s.ownMem l a = true ∧ s.onFailed a = none ∧ Quiet s g ∧ s.wbOf h g = none ∧ CacheRoom s h g
         ∧ (s.granule g).1.length = 64 ∧ ((s.holders g = [] ∧ s.dirOf g = .inv) ∨ owns)
       let finds (wr : Bool) : Prop := s.clean.coreVa l h va wr = (.ok a, s.clean)
       let fits (n : Nat) := 0 < n ∧ a % 64 + n ≤ 64
       let n : Nat := 2
       calm
       ∧ alone
       ∧ fits n
       ∧ finds false
       ∧ (s.granule g).2 = false)
    ∧ (let s : State := { up with bindings := [(32, 5)], harts := [(0,
                                    { pc := 0x80, mode := .run, csrs := [(0x305, 0x1001)] })], mem := [(0x4000, 1),
                                    (0x4007, 2), (0x4008, 3), (0x403F, 4)],
                                  coh := { caches := [(0x100,
                                             some { st := .m, data := List.replicate 32 9 ++ List.replicate 32 7,
                                                    poison := true })], dir := [(0x100, .owned 0)] } }
       let h : HartId := 0
       let va : Nat := 0x4000
       let a : Nat := 0x4000
       let l := s.leaderOf (h.val / 16)
       let g := a / 64
       let x0 := s.hart h
       let calm := l < 8 ∧ s.coreOn l h = true ∧ x0.mode = .run ∧ (s.line l).st.works = true
       let owns := ∃ c, s.holders g = [h.val] ∧ s.copy h g = some c ∧ c.st = .m ∧ s.dirOf g = .owned h.val
       let alone := s.ownMem l a = true ∧ s.onFailed a = none ∧ Quiet s g ∧ s.wbOf h g = none ∧ CacheRoom s h g
         ∧ (s.granule g).1.length = 64 ∧ ((s.holders g = [] ∧ s.dirOf g = .inv) ∨ owns)
       let finds (wr : Bool) : Prop := s.clean.coreVa l h va wr = (.ok a, s.clean)
       let fits (n : Nat) := 0 < n ∧ a % 64 + n ≤ 64
       let n : Nat := 8
       calm
       ∧ alone
       ∧ fits n
       ∧ finds false
       ∧ (s.granule g).2 = true)
    ∧ (let s : State := { up with bindings := [(32, 5)], harts := [(0,
                                    { pc := 0x80, mode := .run, csrs := [(0x305, 0x1001)] })], mem := [(0x4000, 1),
                                    (0x4007, 2), (0x4008, 3), (0x403F, 4)] }
       let h : HartId := 0
       let va : Nat := 0x403D
       let a : Nat := 0x403D
       let l := s.leaderOf (h.val / 16)
       let g := a / 64
       let x0 := s.hart h
       let calm := l < 8 ∧ s.coreOn l h = true ∧ x0.mode = .run ∧ (s.line l).st.works = true
       let owns := ∃ c, s.holders g = [h.val] ∧ s.copy h g = some c ∧ c.st = .m ∧ s.dirOf g = .owned h.val
       let alone := s.ownMem l a = true ∧ s.onFailed a = none ∧ Quiet s g ∧ s.wbOf h g = none ∧ CacheRoom s h g
         ∧ (s.granule g).1.length = 64 ∧ ((s.holders g = [] ∧ s.dirOf g = .inv) ∨ owns)
       let finds (wr : Bool) : Prop := s.clean.coreVa l h va wr = (.ok a, s.clean)
       let fits (n : Nat) := 0 < n ∧ a % 64 + n ≤ 64
       let d : List Byte := [1, 2, 3]
       calm
       ∧ alone
       ∧ fits d.length
       ∧ finds true
       ∧ s.meetsOwned a d.length = false)
    ∧ (let s : State := { up with bindings := [(32, 5)], harts := [(0,
                                    { pc := 0x80, mode := .run, csrs := [(0x305, 0x1001)] })], mem := [(0x4000, 1),
                                    (0x4007, 2), (0x4008, 3), (0x403F, 4)] }
       let h : HartId := 0
       let va : Nat := 0x4008
       let a : Nat := 0x4008
       let l := s.leaderOf (h.val / 16)
       let g := a / 64
       let x0 := s.hart h
       let calm := l < 8 ∧ s.coreOn l h = true ∧ x0.mode = .run ∧ (s.line l).st.works = true
       let owns := ∃ c, s.holders g = [h.val] ∧ s.copy h g = some c ∧ c.st = .m ∧ s.dirOf g = .owned h.val
       let alone := s.ownMem l a = true ∧ s.onFailed a = none ∧ Quiet s g ∧ s.wbOf h g = none ∧ CacheRoom s h g
         ∧ (s.granule g).1.length = 64 ∧ ((s.holders g = [] ∧ s.dirOf g = .inv) ∨ owns)
       let finds (wr : Bool) : Prop := s.clean.coreVa l h va wr = (.ok a, s.clean)
       calm
       ∧ alone
       ∧ va % 8 = 0
       ∧ (s.granule g).2 = false
       ∧ finds true
       ∧ s.meetsEntry a 8 = false
       ∧ s.meetsJob a 8 = false)
    ∧ (let s : State := { up with bindings := [(32, 5)], harts := [(0,
                                    { pc := 0x80, mode := .run, csrs := [(0x305, 0x1001)] })], mem := [(0x4000, 1),
                                    (0x4007, 2), (0x4008, 3), (0x403F, 4)] }
       let h : HartId := 0
       let va : Nat := 0x4008
       let a : Nat := 0x4008
       let l := s.leaderOf (h.val / 16)
       let g := a / 64
       let x0 := s.hart h
       let calm := l < 8 ∧ s.coreOn l h = true ∧ x0.mode = .run ∧ (s.line l).st.works = true
       let owns := ∃ c, s.holders g = [h.val] ∧ s.copy h g = some c ∧ c.st = .m ∧ s.dirOf g = .owned h.val
       let alone := s.ownMem l a = true ∧ s.onFailed a = none ∧ Quiet s g ∧ s.wbOf h g = none ∧ CacheRoom s h g
         ∧ (s.granule g).1.length = 64 ∧ ((s.holders g = [] ∧ s.dirOf g = .inv) ∨ owns)
       let finds (wr : Bool) : Prop := s.clean.coreVa l h va wr = (.ok a, s.clean)
       calm
       ∧ alone
       ∧ va % 8 = 0
       ∧ (s.granule g).2 = false
       ∧ finds true
       ∧ s.meetsEntry a 8 = false
       ∧ s.meetsJob a 8 = false)
    ∧ (let s : State := { up with bindings := [(32, 5)], harts := [(0,
                                    { pc := 0x80, mode := .run, csrs := [(0x305, 0x1001)] })], mem := [(0x4000, 1),
                                    (0x4007, 2), (0x4008, 3), (0x403F, 4)] }
       let h : HartId := 0
       let va : Nat := 0x4008
       let a : Nat := 0x4008
       let l := s.leaderOf (h.val / 16)
       let g := a / 64
       let x0 := s.hart h
       let calm := l < 8 ∧ s.coreOn l h = true ∧ x0.mode = .run ∧ (s.line l).st.works = true
       let owns := ∃ c, s.holders g = [h.val] ∧ s.copy h g = some c ∧ c.st = .m ∧ s.dirOf g = .owned h.val
       let alone := s.ownMem l a = true ∧ s.onFailed a = none ∧ Quiet s g ∧ s.wbOf h g = none ∧ CacheRoom s h g
         ∧ (s.granule g).1.length = 64 ∧ ((s.holders g = [] ∧ s.dirOf g = .inv) ∨ owns)
       let finds (wr : Bool) : Prop := s.clean.coreVa l h va wr = (.ok a, s.clean)
       calm
       ∧ alone
       ∧ va % 8 = 0
       ∧ (s.granule g).2 = false
       ∧ finds true
       ∧ s.meetsEntry a 8 = false
       ∧ s.meetsJob a 8 = false
       ∧ finds false)
    ∧ (let s : State := { up with bindings := [(32, 5)], harts := [(0,
                                    { pc := 0x80, mode := .run, reservation := some 0x100 })], mem := [(0x4000, 1),
                                    (0x4007, 2), (0x4008, 3), (0x403F, 4)] }
       let h : HartId := 0
       let va : Nat := 0x4000
       let a : Nat := 0x4000
       let l := s.leaderOf (h.val / 16)
       let g := a / 64
       let x0 := s.hart h
       let calm := l < 8 ∧ s.coreOn l h = true ∧ x0.mode = .run ∧ (s.line l).st.works = true
       let owns := ∃ c, s.holders g = [h.val] ∧ s.copy h g = some c ∧ c.st = .m ∧ s.dirOf g = .owned h.val
       let alone := s.ownMem l a = true ∧ s.onFailed a = none ∧ Quiet s g ∧ s.wbOf h g = none ∧ CacheRoom s h g
         ∧ (s.granule g).1.length = 64 ∧ ((s.holders g = [] ∧ s.dirOf g = .inv) ∨ owns)
       let finds (wr : Bool) : Prop := s.clean.coreVa l h va wr = (.ok a, s.clean)
       calm
       ∧ alone
       ∧ va % 8 = 0
       ∧ (s.granule g).2 = false
       ∧ finds true
       ∧ s.meetsEntry a 8 = false
       ∧ s.meetsJob a 8 = false
       ∧ s.meetsOwned a 8 = false
       ∧ x0.reservation = some g)
    ∧ (let s : State := { up with bindings := [(32, 5)], harts := [(0,
                                    { pc := 0x80, mode := .run, csrs := [(0x305, 0x1001)] })], mem := [(0x4000, 1),
                                    (0x4007, 2), (0x4008, 3), (0x403F, 4)] }
       let h : HartId := 0
       let va : Nat := 0x4008
       let a : Nat := 0x4008
       let l := s.leaderOf (h.val / 16)
       let g := a / 64
       let x0 := s.hart h
       let calm := l < 8 ∧ s.coreOn l h = true ∧ x0.mode = .run ∧ (s.line l).st.works = true
       let owns := ∃ c, s.holders g = [h.val] ∧ s.copy h g = some c ∧ c.st = .m ∧ s.dirOf g = .owned h.val
       let alone := s.ownMem l a = true ∧ s.onFailed a = none ∧ Quiet s g ∧ s.wbOf h g = none ∧ CacheRoom s h g
         ∧ (s.granule g).1.length = 64 ∧ ((s.holders g = [] ∧ s.dirOf g = .inv) ∨ owns)
       let finds (wr : Bool) : Prop := s.clean.coreVa l h va wr = (.ok a, s.clean)
       calm
       ∧ alone
       ∧ va % 8 = 0
       ∧ (s.granule g).2 = false
       ∧ finds true
       ∧ s.meetsEntry a 8 = false
       ∧ s.meetsJob a 8 = false
       ∧ s.meetsOwned a 8 = false
       ∧ x0.reservation ≠ some g)
    ∧ (let s : State := { up with bindings := [(32, 5)], harts := [(0,
                                    { pc := 0x80, mode := .run, csrs := [(0x305, 0x1001)] })], mem := [(0x4000, 1),
                                    (0x4007, 2), (0x4008, 3), (0x403F, 4)], poison := [(0x100, true)] }
       let h : HartId := 0
       let va : Nat := 0x4000
       let a : Nat := 0x4000
       let l := s.leaderOf (h.val / 16)
       let g := a / 64
       let x0 := s.hart h
       let calm := l < 8 ∧ s.coreOn l h = true ∧ x0.mode = .run ∧ (s.line l).st.works = true
       let owns := ∃ c, s.holders g = [h.val] ∧ s.copy h g = some c ∧ c.st = .m ∧ s.dirOf g = .owned h.val
       let alone := s.ownMem l a = true ∧ s.onFailed a = none ∧ Quiet s g ∧ s.wbOf h g = none ∧ CacheRoom s h g
         ∧ (s.granule g).1.length = 64 ∧ ((s.holders g = [] ∧ s.dirOf g = .inv) ∨ owns)
       let finds (wr : Bool) : Prop := s.clean.coreVa l h va wr = (.ok a, s.clean)
       calm
       ∧ alone
       ∧ finds true
       ∧ s.meetsOwned (g * 64) 64 = false)
    ∧ (let s : State := { up with bindings := [(32, 5)], harts := [(0,
                                    { pc := 0x80, mode := .run, csrs := [(0x305, 0x1001)] })], mem := [(0x4000, 1),
                                    (0x4007, 2), (0x4008, 3), (0x403F, 4)],
                                  coh := { caches := [(0x100,
                                             some { st := .m, data := List.replicate 32 9 ++ List.replicate 32 7,
                                                    poison := false })], dir := [(0x100, .owned 0)] } }
       let h : HartId := 0
       let va : Nat := 0x4000
       let a : Nat := 0x4000
       let l := s.leaderOf (h.val / 16)
       let g := a / 64
       let x0 := s.hart h
       let calm := l < 8 ∧ s.coreOn l h = true ∧ x0.mode = .run ∧ (s.line l).st.works = true
       let owns := ∃ c, s.holders g = [h.val] ∧ s.copy h g = some c ∧ c.st = .m ∧ s.dirOf g = .owned h.val
       let alone := s.ownMem l a = true ∧ s.onFailed a = none ∧ Quiet s g ∧ s.wbOf h g = none ∧ CacheRoom s h g
         ∧ (s.granule g).1.length = 64 ∧ ((s.holders g = [] ∧ s.dirOf g = .inv) ∨ owns)
       let finds (wr : Bool) : Prop := s.clean.coreVa l h va wr = (.ok a, s.clean)
       calm
       ∧ alone
       ∧ finds true
       ∧ owns)
    ∧ (let s : State := { up with bindings := [(32, 5)], harts := [(0,
                                    { pc := 0x80, mode := .run, csrs := [(0x305, 0x1001)] })], mem := [(0x4000, 1),
                                    (0x4007, 2), (0x4008, 3), (0x403F, 4)],
                                  coh := { caches := [(0x100,
                                             some { st := .m, data := List.replicate 32 9 ++ List.replicate 32 7,
                                                    poison := false })], dir := [(0x100, .owned 0)] } }
       let h : HartId := 0
       let va : Nat := 0x4000
       let a : Nat := 0x4000
       let l := s.leaderOf (h.val / 16)
       let g := a / 64
       let x0 := s.hart h
       let calm := l < 8 ∧ s.coreOn l h = true ∧ x0.mode = .run ∧ (s.line l).st.works = true
       let owns := ∃ c, s.holders g = [h.val] ∧ s.copy h g = some c ∧ c.st = .m ∧ s.dirOf g = .owned h.val
       let alone := s.ownMem l a = true ∧ s.onFailed a = none ∧ Quiet s g ∧ s.wbOf h g = none ∧ CacheRoom s h g
         ∧ (s.granule g).1.length = 64 ∧ ((s.holders g = [] ∧ s.dirOf g = .inv) ∨ owns)
       let finds (wr : Bool) : Prop := s.clean.coreVa l h va wr = (.ok a, s.clean)
       calm
       ∧ alone
       ∧ finds true
       ∧ owns)
    ∧ (let s : State := { up with bindings := [(32, 5)], harts := [(0,
                                    { pc := 0x80, mode := .run, csrs := [(0x305, 0x1001)] })], mem := [(0x4000, 1),
                                    (0x4007, 2), (0x4008, 3), (0x403F, 4)],
                                  coh := { caches := [(0x100,
                                             some { st := .m, data := List.replicate 32 9 ++ List.replicate 32 7,
                                                    poison := false })], dir := [(0x100, .owned 0)] } }
       let h : HartId := 0
       let va : Nat := 0x4000
       let a : Nat := 0x4000
       let l := s.leaderOf (h.val / 16)
       let g := a / 64
       let x0 := s.hart h
       let calm := l < 8 ∧ s.coreOn l h = true ∧ x0.mode = .run ∧ (s.line l).st.works = true
       let owns := ∃ c, s.holders g = [h.val] ∧ s.copy h g = some c ∧ c.st = .m ∧ s.dirOf g = .owned h.val
       let alone := s.ownMem l a = true ∧ s.onFailed a = none ∧ Quiet s g ∧ s.wbOf h g = none ∧ CacheRoom s h g
         ∧ (s.granule g).1.length = 64 ∧ ((s.holders g = [] ∧ s.dirOf g = .inv) ∨ owns)
       let finds (wr : Bool) : Prop := s.clean.coreVa l h va wr = (.ok a, s.clean)
       calm
       ∧ alone
       ∧ finds true
       ∧ owns) := by
  and_intros
  all_goals first
    | decide +kernel
    | simp only [quiet_iff] <;> decide +kernel
    | exact ⟨by decide +kernel, Or.inl (by decide +kernel)⟩
    | exact Or.inl (by decide +kernel)
    | exact ⟨{ st := .m, data := List.replicate 32 9 ++ List.replicate 32 7, poison := false }, by decide +kernel,
        by decide +kernel, by decide +kernel, by decide +kernel⟩
    | exact Or.inr ⟨{ st := .m, data := List.replicate 32 9 ++ List.replicate 32 7, poison := false },
        by decide +kernel, by decide +kernel, by decide +kernel, by decide +kernel⟩
    | exact ⟨{ st := .m, data := List.replicate 32 9 ++ List.replicate 32 7, poison := true }, by decide +kernel,
        by decide +kernel, by decide +kernel, by decide +kernel⟩
    | exact Or.inr ⟨{ st := .m, data := List.replicate 32 9 ++ List.replicate 32 7, poison := true },
        by decide +kernel, by decide +kernel, by decide +kernel, by decide +kernel⟩

/-- States and operands that meet the premises of each clause of CoreServices. -/
theorem test_CoreServices :
    (let s : State := { up with regs := [(routeKey 0 0x103, 0)] }
     let via : Via := .host
     let l : LineId := 0
     let v : Word := 0x010005
     let src : Fin 512 := 0x103
     let k := routeKey l src
     let pend := (s.reg k).flag 32
     s.lnWrites via l = true
     ∧ v.field 12 4 = 0
     ∧ v.field 27 4 = 0
     ∧ v.field 34 30 = 0
     ∧ (v.flag 31 = false ∨ pend = false))
    ∧ (let s : State := { up with bindings := [(32, 5)], regs := [(routeKey 0 0x103, 0x100000000)] }
       let via : Via := .host
       let l : LineId := 0
       let v : Word := 0x87FF0000
       let src : Fin 512 := 0x103
       let k := routeKey l src
       let pend := (s.reg k).flag 32
       s.lnWrites via l = true
       ∧ v.field 12 4 = 0
       ∧ v.field 27 4 = 0
       ∧ v.field 34 30 = 0
       ∧ v.flag 31 = true
       ∧ pend = true
       ∧ v.field 16 11 ≠ 0
       ∧ v.field 8 4 < 8
       ∧ (v.flag 7 = true → v.field 8 4 = 0)
       ∧ s.hartActive l (v.field 0 7) = true)
    ∧ (let s : State := { up with bindings := [(32, 5)], regs := [(routeKey 0 0x103, 0x300000000)] }
       let via : Via := .host
       let l : LineId := 0
       let v : Word := 0x80010001
       let src : Fin 512 := 0x103
       let k := routeKey l src
       let pend := (s.reg k).flag 32
       s.lnWrites via l = true
       ∧ v.field 12 4 = 0
       ∧ v.field 27 4 = 0
       ∧ v.field 34 30 = 0
       ∧ v.flag 31 = true
       ∧ pend = true
       ∧ v.field 16 11 ≠ 0
       ∧ v.field 8 4 < 8
       ∧ (v.flag 7 = true → v.field 8 4 = 0)
       ∧ s.hartActive l (v.field 0 7) = false)
    ∧ (let s : State := withWords { up with lines := [(0, { st := .running, decode := [(0, [{}, {}, {}, {}, {}, {},
                                                              {}])] })] } 0x4000 [0x0, 0x5000, 0xa, 0x6000, 0x40,
        0x0, 0x0, 0x0]
       let via : Via := .host
       let l : LineId := 0
       let v : Word := 0x4000
       let a := v.field 3 49 * 8
       let ws := (List.range 8).map fun i => wordAt s (a + 8 * i)
       let at_ := [(3, 0, 52, 64), (4, 0, 32, 64), (4, 32, 32, 4096), (5, 0, 52, 4096), (7, 0, 52, 32)]
       let j : DecodeJob := { words := (s.lowBitsOf ws at_).1 }
       let q (t : State) : List DecodeJob := tblGet [] (t.line l).decode j.unit
       s.lnWrites via l = true
       ∧ v.field 52 12 = 0
       ∧ (s.line l).sleep = 0
       ∧ Readable s l a 64
       ∧ (s.line l).st ≠ .stopping
       ∧ (q s).length < 8
       ∧ j.reserved = false
       ∧ (j.w 0).flag 1 = false
       ∧ (j.w 0).field 2 2 ≠ 3
       ∧ j.out ≠ 3)
    ∧ (let s : State := withWords { up with lines := [(0, { st := .running, decode := [(0, [{}, {}, {}, {}, {}, {},
                                                              {}, {}])] })] } 0x4000 [0x0, 0x5000, 0xa, 0x6000,
        0x40, 0x0, 0x0, 0x0]
       let via : Via := .host
       let l : LineId := 0
       let v : Word := 0x4000
       let a := v.field 3 49 * 8
       let ws := (List.range 8).map fun i => wordAt s (a + 8 * i)
       let at_ := [(3, 0, 52, 64), (4, 0, 32, 64), (4, 32, 32, 4096), (5, 0, 52, 4096), (7, 0, 52, 32)]
       let j : DecodeJob := { words := (s.lowBitsOf ws at_).1 }
       let q (t : State) : List DecodeJob := tblGet [] (t.line l).decode j.unit
       s.lnWrites via l = true
       ∧ v.field 52 12 = 0
       ∧ (s.line l).sleep = 0
       ∧ Readable s l a 64
       ∧ ((s.line l).st = .stopping ∨ 8 ≤ (q s).length))
    ∧ (let s : State := { up with lines := [(0, { st := .stopping, decode := [(1,
                                                    [{ words := [0x0, 0x5000, 0xa, 0xfffffffff0000, 0x40, 0x0, 0x0,
                                                         0x0] }, {}])] })] }
       let l : LineId := 0
       let unit : Fin 2 := 1
       let j : DecodeJob := { words := [0x0, 0x5000, 0xa, 0xfffffffff0000, 0x40, 0x0, 0x0, 0x0] }
       let r : List DecodeJob := [{}]
       tblGet [] (s.line l).decode unit = j :: r
       ∧ (s.line l).st.works = true
       ∧ j.running = false)
    ∧ (let s : State := { up with lines := [(0, { st := .running, decode := [(0,
                                                    [{ words := [0x0, 0x5000, 0xa, 0xfffffffff0000, 0x40, 0x0, 0x0,
                                                         0x0], running := true }, {}])] })] }
       let l : LineId := 0
       let unit : Fin 2 := 0
       let r0 : State := ((s.clean.turnOf (48 + unit) l (s.decodeWaits unit) l).getD s)
       let j : DecodeJob := { words := [0x0, 0x5000, 0xa, 0xfffffffff0000, 0x40, 0x0, 0x0, 0x0], running := true }
       let r : List DecodeJob := [{}]
       tblGet [] (s.line l).decode unit = j :: r
       ∧ (s.line l).st.works = true
       ∧ j.running = true
       ∧ s.clean.turnOf (48 + unit) l (s.decodeWaits unit) l = some r0
       ∧ (∃ b ∈ s.members l, b / 4 = unit.val)
       ∧ j.hevc = false
       ∧ Readable s l j.src j.srcLen
       ∧ HomesIdle s
       ∧ j.src + j.srcLen ≤ j.dst
       ∧ (∀ b < 8, s.syncBase b + 0x8000 ≤ j.dst)
       ∧ (∀ e ∈ s.cfls, e.2.st.active = false)
       ∧ j.recAt = 0
       ∧ (j.w 6).flag 47 = false
       ∧ RouteOff s l 0x109) := by
  and_intros
  all_goals first
    | decide +kernel
    | simp only [homesIdle_iff, Readable, quiet_iff, RouteOff] <;> decide +kernel

/-- States and operands that meet the premises of each clause of SpurEvents. -/
theorem test_SpurEvents :
    (let s : State := { up with spurs := [(3, { st := .up, ver := 3, rxSeq := [(0, 7), (1, 1023)] })] }
     let p : SpurId := 3
     let q := s.spur p
     let f : SpurFlit := { payload := List.replicate 64 0, control := 7 }
     q.works = true
     ∧ f.crcOk = false)
    ∧ (let s : State := { up with spurs := [(3, { st := .up, ver := 3, rxSeq := [(0, 7), (1, 1023)] })] }
       let p : SpurId := 3
       let d : Dir := .fwd
       let q := s.spur p
       let k := dirNo d
       let next := tblGet 0 q.rxSeq k
       let f : SpurFlit := spurFlitOf (7 + 6 * 2 ^ 10 + 1 * 2 ^ 23 + 4 * 2 ^ 26)
       q.works = true
       ∧ f.crcOk = true
       ∧ f.seq = next
       ∧ f.nak = false
       ∧ (¬ (f.laneCmd = 3 ∧ f.lane < 34))
       ∧ q.room k f.cls = true)
    ∧ (let s : State := { up with spurs := [(3, { st := .up, ver := 3, rxSeq := [(0, 7), (1, 1023)] })] }
       let p : SpurId := 3
       let d : Dir := .fwd
       let q := s.spur p
       let k := dirNo d
       let next := tblGet 0 q.rxSeq k
       let f : SpurFlit := spurFlitOf (8 + 2 ^ 20)
       q.works = true
       ∧ f.crcOk = true
       ∧ (f.seq ≠ next ∨ q.room k f.cls = false))
    ∧ (let s : State := { up with spurs := [(3, { st := .up, ver := 3, rxSeq := [(0, 7), (1, 1023)] })] }
       let p : SpurId := 3
       let q := s.spur p
       q.works = true)
    ∧ (let s : State := { up with spurs := [(3, { st := .up, ver := 3, attempts := 1,
                                                  ab := { calLane := some 3 } })] }
       let p : SpurId := 3
       let q := s.spur p
       q.works = true)
    ∧ (let s : State := { up with spurs := [(3, { st := .up, ver := 3, retest := false })], regs := [(spurKey 3 8,
                                    0xFFFFFFFF00000000)] }
       let p : SpurId := 3
       let q := s.spur p
       let v : Word := 1
       q.works = true
       ∧ s.hubWrites = true
       ∧ v.field 0 64 = 1)
    ∧ (let s : State := { up with spurs := [(3, { st := .up, ver := 3, ab := { calLane := some 4 } })] }
       let p : SpurId := 3
       let d : Dir := .fwd
       let q := s.spur p
       let x := q.side d
       let lane : Fin 34 := 32
       q.works = true
       ∧ (s.healthOf (spurLane p d lane)).st ≠ .retired
       ∧ 17 ≤ (s.spurGood p d).length
       ∧ x.half = false
       ∧ x.spare0 = some lane.val)
    ∧ (let s : State := { up with spurs := [(3, { st := .up, ver := 3, ab := {} })] }
       let p : SpurId := 3
       let d : Dir := .fwd
       let q := s.spur p
       let x := q.side d
       let lane : Fin 34 := 33
       q.works = true
       ∧ (s.healthOf (spurLane p d lane)).st ≠ .retired
       ∧ 17 ≤ (s.spurGood p d).length
       ∧ x.half = false
       ∧ x.spare0 ≠ some lane.val
       ∧ x.spare1 = some lane.val)
    ∧ (let s : State := { up with spurs := [(3, { st := .up, ver := 3, ab := {} })] }
       let p : SpurId := 3
       let d : Dir := .fwd
       let q := s.spur p
       let x := q.side d
       let has (y : SpurDir) := y.spare0.isSome = true ∨ y.spare1.isSome = true
       let lane : Fin 34 := 3
       q.works = true
       ∧ (s.healthOf (spurLane p d lane)).st ≠ .retired
       ∧ 17 ≤ (s.spurGood p d).length
       ∧ x.half = false
       ∧ x.spare0 ≠ some lane.val
       ∧ x.spare1 ≠ some lane.val
       ∧ has x)
    ∧ (let s : State := { up with spurs := [(3, { st := .up, ver := 3,
                                                  ab := { spare0 := none, spare1 := none } })] }
       let p : SpurId := 3
       let d : Dir := .fwd
       let q := s.spur p
       let x := q.side d
       let has (y : SpurDir) := y.spare0.isSome = true ∨ y.spare1.isSome = true
       let lane : Fin 34 := 3
       q.works = true
       ∧ (s.healthOf (spurLane p d lane)).st ≠ .retired
       ∧ 17 ≤ (s.spurGood p d).length
       ∧ x.half = false
       ∧ x.spare0 ≠ some lane.val
       ∧ x.spare1 ≠ some lane.val
       ∧ ¬ has x)
    ∧ (let s : State := { up with spurs := [(3, { st := .training, attempts := 1, retest := true })] }
       let p : SpurId := 3
       let q := s.spur p
       q.st = .training
       ∧ q.attempts + 1 < 3)
    ∧ (let s : State := { up with spurs := [(3, { st := .training, attempts := 2, retest := true })] }
       let p : SpurId := 3
       let q := s.spur p
       q.st = .training
       ∧ 3 ≤ q.attempts + 1
       ∧ (∀ l ∈ s.spurLines p, s.cohFlying l = []))
    ∧ (let s : State := { up with spurs := [(3, { st := .training, attempts := 2, ab := { half := true } })],
                                  dies := [(0, { spurMin := 2, spurMax := 3 }), (1, { spurMin := 2, spurMax := 3 }),
                                    (2, { spurMin := 2, spurMax := 3 }), (3, { spurMin := 2, spurMax := 3 }), (4,
                                    { spurMin := 2, spurMax := 2 })] }
       let p : SpurId := 3
       let q := s.spur p
       q.st = .training
       ∧ q.retest = false
       ∧ 16 ≤ (s.spurGood p .fwd).length
       ∧ 16 ≤ (s.spurGood p .rev).length)
    ∧ (let s : State := { up with spurs := [(3, { st := .up, ver := 3 })], regs := [(spurKey 3 0x20, 1)] }
       let p : SpurId := 3
       let d : Dir := .fwd
       let q := s.spur p
       let x := q.side d
       let has (y : SpurDir) := y.spare0.isSome = true ∨ y.spare1.isSome = true
       let i : Nat := 0
       q.st = .up
       ∧ q.ver = 3
       ∧ x.calLane = none
       ∧ has x
       ∧ s.spurNextLane p d = some i
       ∧ s.fld (spurKey p 0x20) 0 8 ≠ 0)
    ∧ (let s : State := { up with spurs := [(3, { st := .up, ver := 3, ab := { lastFreed := 2 } })] }
       let p : SpurId := 3
       let q := s.spur p
       let has (y : SpurDir) := y.spare0.isSome = true ∨ y.spare1.isSome = true
       let v : Word := 2
       let i : Nat := 3
       let j : Nat := 0
       q.st = .up
       ∧ q.ver = 3
       ∧ s.hubWrites = true
       ∧ v.field 0 64 = 2
       ∧ q.ab.calLane = none
       ∧ q.ba.calLane = none
       ∧ has q.ab
       ∧ has q.ba
       ∧ s.spurNextLane p .fwd = some i
       ∧ s.spurNextLane p .rev = some j)
    ∧ (let s : State := { up with spurs := [(3, { st := .up, ab := { calLane := some 4 } })] }
       let p : SpurId := 3
       let d : Dir := .fwd
       let q := s.spur p
       let x := q.side d
       let i : Nat := 4
       x.calLane = some i) := by
  and_intros <;> decide +kernel

end Sys2Proof.Tests
end

