-- ==== Sys2Proof/Tests/Witness5.lean ====
section
/-!
SUPPORT. States and operands that meet the premises of the statements JobsAndHealth to TelemetryAndLogbook,
clause by clause.
-/
namespace Sys2Proof.Tests

set_option Elab.async false

open Machine Safety

/-- States and operands that meet the premises of each clause of JobsAndHealth. -/
theorem test_JobsAndHealth :
    (let s : State := up
     let via : Via := .host
     let l : LineId := 0
     let v : Word := 0x10005
     let tag := v.field 0 16
     s.lnWrites via l = true
     ∧ v.field 19 13 = 0
     ∧ v.field 49 15 = 0
     ∧ v.flag 16 = true
     ∧ s.jobEnded l tag = false
     ∧ (∀ q ∈ s.lineQueues l, (s.queue (qKey l q)).running = []))
    ∧ (let s : State := { up with lines := [(0, { st := .running, ended := [(4, true), (5, true)] })] }
       let via : Via := .host
       let l : LineId := 0
       let v : Word := 0x20005
       s.lnWrites via l = true
       ∧ v.field 19 13 = 0
       ∧ v.field 49 15 = 0
       ∧ v.flag 16 = false
       ∧ v.flag 17 = true)
    ∧ (let s : State := up
       let v : Word := 0x100011000
       let kind := v.field 0 4
       let u := v.field 8 24
       s.hubWrites = true
       ∧ v.field 33 31 = 0
       ∧ v.flag 32 = true
       ∧ v.field 4 4 = 0
       ∧ unitOk kind u = false)
    ∧ (let s : State := { up with health := [(healthKey 0 25, {})] }
       let v : Word := 0x100001900
       let kind := v.field 0 4
       let u := v.field 8 24
       s.hubWrites = true
       ∧ v.field 33 31 = 0
       ∧ v.flag 32 = true
       ∧ unitOk kind u = true
       ∧ v.field 4 4 = 0)
    ∧ (let s : State := { up with health := [(healthKey 0 25, {})] }
       let v : Word := 0x100001910
       let kind := v.field 0 4
       let u := v.field 8 24
       let k := healthKey kind u
       let st := (s.healthOf k).st
       s.hubWrites = true
       ∧ v.field 33 31 = 0
       ∧ v.flag 32 = true
       ∧ unitOk kind u = true
       ∧ v.field 4 4 = 1
       ∧ kind < 5
       ∧ st ≠ .retired)
    ∧ (let s : State := { up with health := [(healthKey 5 37, {})] }
       let v : Word := 0x100002515
       let kind := v.field 0 4
       let u := v.field 8 24
       s.hubWrites = true
       ∧ v.field 33 31 = 0
       ∧ v.flag 32 = true
       ∧ unitOk kind u = true
       ∧ v.field 4 4 = 1
       ∧ kind = 5)
    ∧ (let s : State := { up with health := [(healthKey 0 25, {})] }
       let v : Word := 0x100001940
       let kind := v.field 0 4
       let u := v.field 8 24
       let k := healthKey kind u
       let st := (s.healthOf k).st
       s.hubWrites = true
       ∧ v.field 33 31 = 0
       ∧ v.flag 32 = true
       ∧ unitOk kind u = true
       ∧ v.field 4 4 = 4
       ∧ kind < 2
       ∧ st = .healthy)
    ∧ (let s : State := { up with health := [(healthKey 2 2067, {})] }
       let v : Word := 0x100081342
       let kind := v.field 0 4
       let u := v.field 8 24
       s.hubWrites = true
       ∧ v.field 33 31 = 0
       ∧ v.flag 32 = true
       ∧ unitOk kind u = true
       ∧ v.field 4 4 = 4
       ∧ 2 ≤ kind)
    ∧ (let s : State := { up with health := [(healthKey 0 25, { st := .retired, cause := 1 })] }
       let v : Word := 0x100001950
       let kind := v.field 0 4
       let u := v.field 8 24
       let k := healthKey kind u
       let st := (s.healthOf k).st
       s.hubWrites = true
       ∧ v.field 33 31 = 0
       ∧ v.flag 32 = true
       ∧ unitOk kind u = true
       ∧ v.field 4 4 = 5
       ∧ kind < 2
       ∧ st = .retired)
    ∧ (let s : State := { up with health := [(healthKey 0 25, {})] }
       let v : Word := 0x100001950
       let kind := v.field 0 4
       let u := v.field 8 24
       let k := healthKey kind u
       let st := (s.healthOf k).st
       s.hubWrites = true
       ∧ v.field 33 31 = 0
       ∧ v.flag 32 = true
       ∧ unitOk kind u = true
       ∧ v.field 4 4 = 5
       ∧ st ≠ .retired)
    ∧ (let s : State := { up with health := [(healthKey 0 25, {})], bindings := [(1 * 64 + 3, 3), (1 * 64 + 32 + 4,
                                    4), (1 * 64 + 32 + 2, 2), (5 * 64 + 32 + 2, 2)] }
       let v : Word := 0x100001920
       let kind := v.field 0 4
       let u := v.field 8 24
       let k := healthKey kind u
       let st := (s.healthOf k).st
       s.hubWrites = true
       ∧ v.field 33 31 = 0
       ∧ v.flag 32 = true
       ∧ unitOk kind u = true
       ∧ v.field 4 4 = 2
       ∧ kind < 2
       ∧ st ≠ .retired)
    ∧ (let s : State := { up with health := [(healthKey 0 25, {})], bindings := [(1 * 64 + 3, 3), (1 * 64 + 32 + 4,
                                    4), (1 * 64 + 32 + 2, 2), (5 * 64 + 32 + 2, 2)] }
       let v : Word := 0x100001930
       let kind := v.field 0 4
       let u := v.field 8 24
       let k := healthKey kind u
       let st := (s.healthOf k).st
       s.hubWrites = true
       ∧ v.field 33 31 = 0
       ∧ v.flag 32 = true
       ∧ unitOk kind u = true
       ∧ v.field 4 4 = 3
       ∧ kind < 2
       ∧ st ≠ .retired)
    ∧ (let s : State := { up with health := [(healthKey 5 37, {})] }
       let v : Word := 0x100002535
       let kind := v.field 0 4
       let u := v.field 8 24
       let k := healthKey kind u
       let st := (s.healthOf k).st
       s.hubWrites = true
       ∧ v.field 33 31 = 0
       ∧ v.flag 32 = true
       ∧ unitOk kind u = true
       ∧ v.field 4 4 = 3
       ∧ kind = 5
       ∧ st ≠ .retired
       ∧ s.flag (memKey (u / 32) 8) (32 + u % 32) = false)
    ∧ (let s : State := { up with health := [(healthKey 0 25, { testedAt := 5 })], time := 1000000000000005 }
       let kind : UnitKind := .grid
       let u : Nat := 25
       let b : Nat := 1
       let k := healthKey (kindNo kind) u
       let h := s.healthOf k
       let interval := if h.st = .healthy then bits (s.tt.basin b).test 0 11 * 60000000000
         else bits (s.tt.basin b).test 16 10 * 1000000000
       (kind = .grid ∨ kind = .core)
       ∧ unitOk (kindNo kind) u = true
       ∧ testBasin k = some b
       ∧ h.st ≠ .retired
       ∧ h.due = false
       ∧ h.testedAt + interval ≤ s.aged)
    ∧ (let s : State := { up with health := [(healthKey 0 25, { testedAt := 100000000000000 })],
                                  time := 100000000000000, tt := { basins := [(1, { test := 1 }), (4,
                                                                     { test := 1 })] } }
       let kind : UnitKind := .grid
       let u : Nat := 25
       let b : Nat := 1
       let k := healthKey (kindNo kind) u
       let h := s.healthOf k
       let interval := if h.st = .healthy then bits (s.tt.basin b).test 0 11 * 60000000000
         else bits (s.tt.basin b).test 16 10 * 1000000000
       (kind = .grid ∨ kind = .core)
       ∧ unitOk (kindNo kind) u = true
       ∧ testBasin k = some b
       ∧ h.st ≠ .retired
       ∧ h.due = false
       ∧ s.aged < h.testedAt + interval)
    ∧ (let s : State := { up with health := [(coreHealth 1 3, { due := true })], bindings := [(1 * 64 + 32 + 4, 3)],
                                  harts := [(20, { mode := .run, reservation := some 9, pc := 7 }), (21,
                                    { mode := .run })], coh := { caches := [(20 * 2 ^ 46 + 10,
                                                                   some { st := .m, data := List.replicate 64 7 }),
                                                                   (20 * 2 ^ 46 + 11,
                                                                   some { st := .s, data := List.replicate 64 7 })],
                                                                 dir := [(10, .owned 20), (11, .shared [20])] } }
       let b : BasinId := 1
       let i : Fin 16 := 4
       let j := s.coreOf b i
       let k := coreHealth b j
       j < 16
       ∧ ((s.healthOf k).leaving = true ∨ (s.healthOf k).due = true)
       ∧ s.sidingFree b = true
       ∧ s.coresUp b = true)
    ∧ (let s : State := { up with health := [(coreHealth 1 3, { due := true })], bindings := [(1 * 64 + 32 + 4, 3)],
                                  harts := [(20, { mode := .run, reservation := some 9, pc := 7 }), (21,
                                    { mode := .run })], coh := { caches := [(20 * 2 ^ 46 + 10,
                                                                   some { st := .m, data := List.replicate 64 7 }),
                                                                   (20 * 2 ^ 46 + 11,
                                                                   some { st := .s, data := List.replicate 64 7 })],
                                                                 dir := [(10, .owned 20), (11, .shared [20])] } }
       let b : BasinId := 1
       let i : Fin 16 := 4
       let j := s.coreOf b i
       let k := coreHealth b j
       j < 16
       ∧ ((s.healthOf k).leaving = true ∨ (s.healthOf k).due = true)
       ∧ s.sidingFree b = true
       ∧ s.coresUp b = true)
    ∧ (let s : State := { up with health := [(coreHealth 1 3, { due := true })], bindings := [(1 * 64 + 32 + 4, 3)],
                                  harts := [(20, { mode := .run, reservation := some 9, pc := 7 }), (21,
                                    { mode := .run })], coh := { caches := [(20 * 2 ^ 46 + 10,
                                                                   some { st := .m, data := List.replicate 64 7 }),
                                                                   (20 * 2 ^ 46 + 11,
                                                                   some { st := .s, data := List.replicate 64 7 })],
                                                                 dir := [(10, .owned 20), (11, .shared [20])] } }
       let b : BasinId := 1
       let i : Fin 16 := 4
       let j := s.coreOf b i
       let k := coreHealth b j
       j < 16
       ∧ ((s.healthOf k).leaving = true ∨ (s.healthOf k).due = true)
       ∧ s.sidingFree b = true
       ∧ s.coresUp b = true) := by
  and_intros <;> decide +kernel

/-- States and operands that meet the premises of each clause of TestsAndSurveys. -/
theorem test_TestsAndSurveys :
    (let s : State := { linesIn .stopped with health := [(healthKey 0 25, { due := true })],
                                              bindings := [(1 * 64 + 3, 3)] }
     let kind : UnitKind := .grid
     let u : Nat := 25
     let n := kindNo kind
     let k := healthKey n u
     let h := s.healthOf k
     let b := u % 8
     let g := b * 34 + u / 8
     let y := (s.port (u % 32)).side (unitDir u)
     let w : Nat := 8
     let e : Nat := 3
     let i : Nat := 32
     unitOk n u = true
     ∧ h.st ≠ .retired
     ∧ h.due = true
     ∧ s.groupTesting k = false
     ∧ kind = .grid
     ∧ s.testState b = true
     ∧ (s.line (s.leaderOf b)).sleep = 0
     ∧ (s.grid g).phase = .idle
     ∧ s.gridBusy g = false
     ∧ (∀ y ∈ s.health, y.2.due = true → y.2.blames ≠ some g)
     ∧ s.nameOf g = some (w, e)
     ∧ s.groupSpare b (slotGroup (u / 8)) = some i)
    ∧ (let s : State := { up with health := [(healthKey 2 2067, { due := true })] }
       let kind : UnitKind := .subarray
       let u : Nat := 0x813
       let n := kindNo kind
       let k := healthKey n u
       let h := s.healthOf k
       let b := u % 8
       let bank := bits u 3 8
       let m := s.bmem b
       unitOk n u = true
       ∧ h.st ≠ .retired
       ∧ h.due = true
       ∧ s.groupTesting k = false
       ∧ kind = .subarray
       ∧ tblGet 0 m.spares bank = 0
       ∧ (∀ e ∈ m.copying, e.1 ≠ bank))
    ∧ (let s : State := { up with health := [(healthKey 3 67, { due := true })], spurs := [(3,
                                    { st := .up, ver := 3 })] }
       let kind : UnitKind := .spurLane
       let u : Nat := 67
       let n := kindNo kind
       let k := healthKey n u
       let h := s.healthOf k
       let lane := u / 64
       let x := (s.spur (u % 32)).side (unitDir u)
       unitOk n u = true
       ∧ h.st ≠ .retired
       ∧ h.due = true
       ∧ s.groupTesting k = false
       ∧ kind = .spurLane
       ∧ (s.spur (u % 32)).st = .up
       ∧ (s.spur (u % 32)).ver = 3
       ∧ x.calLane = none
       ∧ (x.spare0.isSome = true ∨ x.spare1.isSome = true)
       ∧ x.spare0 ≠ some lane
       ∧ x.spare1 ≠ some lane)
    ∧ (let s : State := { up with health := [(healthKey 4 69, { due := true, st := .suspect })], ports := [(5,
                                    { st := .up })] }
       let kind : UnitKind := .railLane
       let u : Nat := 69
       let n := kindNo kind
       let k := healthKey n u
       let h := s.healthOf k
       let lane := u / 64
       let y := (s.port (u % 32)).side (unitDir u)
       unitOk n u = true
       ∧ h.st ≠ .retired
       ∧ h.due = true
       ∧ s.groupTesting k = false
       ∧ kind = .railLane
       ∧ (s.port (u % 32)).st = .up
       ∧ y.step = .none
       ∧ y.change = .none
       ∧ y.spare.isSome = true
       ∧ y.spare ≠ some lane)
    ∧ (let kind : UnitKind := .grid
       let u : Nat := 25
       let n := kindNo kind
       let k := healthKey n u
       let r : TestResult := {}
       let e : RunningTest := {}
       let pass := r.rom = true ∧ r.survey = none
       let s : State := { up with health := [(healthKey 0 25, { cause := 2 })], tests := [(healthKey 0 25,
                                    some {})] }
       let h := s.healthOf k
       unitOk n u = true
       ∧ tblGet none s.tests k = some e
       ∧ (kind = .grid ∨ kind = .core)
       ∧ pass
       ∧ h.st = .healthy)
    ∧ (let s : State := { up with health := [(healthKey 0 25, { st := .suspect, passes := 70 })],
                                  tests := [(healthKey 0 25, some {})] }
       let kind : UnitKind := .grid
       let u : Nat := 25
       let n := kindNo kind
       let k := healthKey n u
       let h := s.healthOf k
       let r : TestResult := {}
       let e : RunningTest := {}
       let pass := r.rom = true ∧ r.survey = none
       unitOk n u = true
       ∧ tblGet none s.tests k = some e
       ∧ (kind = .grid ∨ kind = .core)
       ∧ pass
       ∧ h.st = .suspect
       ∧ h.passes + 1 < 72)
    ∧ (let kind : UnitKind := .grid
       let u : Nat := 25
       let n := kindNo kind
       let k := healthKey n u
       let r : TestResult := {}
       let e : RunningTest := {}
       let pass := r.rom = true ∧ r.survey = none
       let s : State := { up with health := [(healthKey 0 25, { st := .suspect, cause := 1, passes := 71 })],
                                  tests := [(healthKey 0 25, some {})] }
       let h := s.healthOf k
       unitOk n u = true
       ∧ tblGet none s.tests k = some e
       ∧ (kind = .grid ∨ kind = .core)
       ∧ pass
       ∧ h.st = .suspect
       ∧ 72 ≤ h.passes + 1)
    ∧ (let s : State := { up with health := [(healthKey 0 25, { })], tests := [(healthKey 0 25, some {})] }
       let kind : UnitKind := .grid
       let u : Nat := 25
       let n := kindNo kind
       let k := healthKey n u
       let h := s.healthOf k
       let r : TestResult := { rom := false, reproduced := false }
       let e : RunningTest := {}
       let pass := r.rom = true ∧ r.survey = none
       unitOk n u = true
       ∧ tblGet none s.tests k = some e
       ∧ (kind = .grid ∨ kind = .core)
       ∧ ¬ pass
       ∧ h.st = .healthy
       ∧ r.reproduced = false)
    ∧ (let s : State := { up with health := [(healthKey 0 25, { })], tests := [(healthKey 0 25, some {})] }
       let kind : UnitKind := .grid
       let u : Nat := 25
       let n := kindNo kind
       let k := healthKey n u
       let h := s.healthOf k
       let r : TestResult := { rom := false }
       let e : RunningTest := {}
       let pass := r.rom = true ∧ r.survey = none
       unitOk n u = true
       ∧ tblGet none s.tests k = some e
       ∧ (kind = .grid ∨ kind = .core)
       ∧ ¬ pass
       ∧ (h.st = .suspect ∨ (h.st = .healthy ∧ r.reproduced = true)))
    ∧ (let s : State := { up with health := [(healthKey 2 2067, { st := .suspect })], tests := [(healthKey 2 0x813,
                                    some {})] }
       let kind : UnitKind := .subarray
       let u : Nat := 0x813
       let n := kindNo kind
       let k := healthKey n u
       let r : TestResult := {}
       let e : RunningTest := {}
       let pass := r.rom = true ∧ r.survey = none
       unitOk n u = true
       ∧ tblGet none s.tests k = some e
       ∧ kind = .subarray
       ∧ pass)
    ∧ (let s : State := { up with regs := [(hubKey 0x820, 0x4008)] }
       let v : Word := 0x11800bc8
       let addr := (s.reg (hubKey 0x820)).toNat
       let len := v.field 0 23
       s.hubWrites = true
       ∧ v.field 29 35 = 0
       ∧ v.flag 28 = true
       ∧ v.field 26 2 ≠ 3
       ∧ s.survey = none
       ∧ v.field 26 2 = 0
       ∧ 3016 ≤ len
       ∧ len ≤ 0x400000
       ∧ addr % 8 = 0)
    ∧ (let s : State := { up with regs := [(hubKey 0x820, 0x4008)] }
       let v : Word := 0x11800bc7
       let len := v.field 0 23
       s.hubWrites = true
       ∧ v.field 29 35 = 0
       ∧ v.flag 28 = true
       ∧ v.field 26 2 ≠ 3
       ∧ s.survey = none
       ∧ v.field 26 2 = 0
       ∧ (len < 3016 ∨ 0x400000 < len))
    ∧ (let s : State := up
       let v : Word := 0x17800000
       s.hubWrites = true
       ∧ v.field 29 35 = 0
       ∧ v.flag 28 = true
       ∧ v.field 26 2 ≠ 3
       ∧ s.survey = none
       ∧ v.field 26 2 = 1)
    ∧ (let s : State := up
       let v : Word := 0x1b800000
       s.hubWrites = true
       ∧ v.field 29 35 = 0
       ∧ v.flag 28 = true
       ∧ v.field 26 2 ≠ 3
       ∧ s.survey = none
       ∧ v.field 26 2 = 2)
    ∧ (let s : State := { up with survey := some { op := 1, addr := 0, len := 0, slot := 0 } }
       let v : Word := 0x13800000
       s.hubWrites = true
       ∧ v.field 29 35 = 0
       ∧ v.flag 28 = true
       ∧ v.field 26 2 ≠ 3
       ∧ s.survey ≠ none
       ∧ v.field 26 2 = 0)
    ∧ (let s : State := packState
       let o : SurveyOp := { op := 0, addr := 0x4000, len := 3016, slot := 0 }
       let readOk : Bool := true
       let sigOk : Bool := true
       let d : List Byte := smallPack
       let i : Nat := 0
       s.survey = some o
       ∧ s.ownerRuns = false
       ∧ o.pack = none
       ∧ o.op = 0
       ∧ s.packRead o readOk = some d
       ∧ s.packVerdict d sigOk = .ok i)
    ∧ (let s : State := { up with hostMem := [(0x4000, 1)], survey := some { op := 0, addr := 0x4000, len := 8,
                                                                             slot := 0 } }
       let o : SurveyOp := { op := 0, addr := 0x4000, len := 8, slot := 0 }
       let readOk : Bool := true
       let sigOk : Bool := true
       let d : List Byte := [1, 0, 0, 0, 0, 0, 0, 0]
       let c : Nat := 2
       s.survey = some o
       ∧ s.ownerRuns = false
       ∧ o.pack = none
       ∧ o.op = 0
       ∧ s.packRead o readOk = some d
       ∧ s.packVerdict d sigOk = .error c)
    ∧ (let s : State := { up with hostMem := memPut [] 0x4000 ([83, 86, 80, 75, 1, 0, 0, 0, 7, 0, 0, 0, 3, 0, 0, 0,
                                    0, 0, 0, 0, 0, 0, 0, 0, 0, 9, 0, 0, 0, 0, 0, 0, 0, 0, 0, 0, 0, 0, 0, 0, 0, 0, 0,
                                    0, 0, 0, 0, 0, 0, 0, 0, 0, 0, 0, 0, 0, 0, 0, 0, 0, 0, 0, 0, 0, 162, 243, 129,
                                    61, 53, 41, 84, 170, 202, 216, 231, 142, 238, 177, 241, 232, 113, 189, 191, 147,
                                    132, 178, 193, 186, 101, 110, 75, 156, 64, 41, 28, 225, 13, 93, 120, 151, 156,
                                    209, 4, 50, 192, 232, 39, 48, 169, 80, 0, 66, 101, 216, 253, 36, 71, 29, 21,
                                    127, 76, 196, 214, 72, 61, 213, 104, 1] ++ List.replicate 2888 0),
                                  survey := some { op := 0, addr := 0x4000, len := 3016, slot := 0 } }
       let o : SurveyOp := { op := 0, addr := 0x4000, len := 3016, slot := 0 }
       let readOk : Bool := false
       s.survey = some o
       ∧ s.ownerRuns = false
       ∧ o.pack = none
       ∧ o.op = 0
       ∧ s.packRead o readOk = none)
    ∧ (let s : State := { up with survey := some { op := 1, addr := 0, len := 0, slot := 2 } }
       let o : SurveyOp := { op := 1, addr := 0, len := 0, slot := 2 }
       let p := s.packAt o.slot
       s.survey = some o
       ∧ s.ownerRuns = false
       ∧ o.pack = none
       ∧ o.op ≠ 0
       ∧ p = [])
    ∧ (let s : State := { up with survey := some { op := 1, addr := 0, len := 0, slot := 2 },
                                  flash := { survey := [(2, ([83, 86, 80, 75, 1, 0, 1, 0, 7, 0, 0, 0, 3, 0, 0, 0,
                                               16, 0, 0, 0, 1, 0, 0, 0, 0, 9, 0, 0, 0, 0, 0, 0, 0, 0, 0, 0, 0, 0, 0,
                                               0, 0, 0, 0, 0, 0, 0, 0, 0, 0, 0, 0, 0, 0, 0, 0, 0, 0, 0, 0, 0, 0, 0,
                                               0, 0, 0, 16, 0, 0, 0, 0, 0, 0, 0, 0, 0, 0, 0, 0, 0, 0, 90, 147, 16,
                                               46, 246, 238, 84, 14, 142, 195, 243, 59, 133, 244, 100, 253, 64, 128,
                                               177, 24, 23, 58, 64, 49, 239, 192, 121, 254, 234, 204, 129, 250, 84,
                                               28, 226, 102, 135, 186, 67, 111, 155, 213, 94, 142, 2, 239, 117, 73,
                                               173, 43, 76, 61, 101, 4, 178, 129, 242, 240, 214, 174, 222, 232, 139,
                                               154] ++ List.replicate 2888 0))] }, health := [(gridHealth 1 4,
                                    { st := .retired })] }
       let o : SurveyOp := { op := 1, addr := 0, len := 0, slot := 2 }
       let p := s.packAt o.slot
       s.survey = some o
       ∧ s.ownerRuns = false
       ∧ o.pack = none
       ∧ o.op = 1
       ∧ p ≠ [])
    ∧ (let s : State := { up with survey := some { op := 2, addr := 0, len := 0, slot := 2 },
                                  flash := { survey := [(2, ([83, 86, 80, 75, 1, 0, 1, 0, 7, 0, 0, 0, 3, 0, 0, 0,
                                               16, 0, 0, 0, 1, 0, 0, 0, 0, 9, 0, 0, 0, 0, 0, 0, 0, 0, 0, 0, 0, 0, 0,
                                               0, 0, 0, 0, 0, 0, 0, 0, 0, 0, 0, 0, 0, 0, 0, 0, 0, 0, 0, 0, 0, 0, 0,
                                               0, 0, 0, 16, 0, 0, 0, 0, 0, 0, 0, 0, 0, 0, 0, 0, 0, 0, 90, 147, 16,
                                               46, 246, 238, 84, 14, 142, 195, 243, 59, 133, 244, 100, 253, 64, 128,
                                               177, 24, 23, 58, 64, 49, 239, 192, 121, 254, 234, 204, 129, 250, 84,
                                               28, 226, 102, 135, 186, 67, 111, 155, 213, 94, 142, 2, 239, 117, 73,
                                               173, 43, 76, 61, 101, 4, 178, 129, 242, 240, 214, 174, 222, 232, 139,
                                               154] ++ List.replicate 2888 0))] }, health := [(gridHealth 1 4,
                                    { st := .retired })] }
       let o : SurveyOp := { op := 2, addr := 0, len := 0, slot := 2 }
       let p := s.packAt o.slot
       s.survey = some o
       ∧ s.ownerRuns = false
       ∧ o.pack = none
       ∧ o.op = 2
       ∧ p ≠ []) := by
  and_intros
  all_goals first
    | with_reducible exact packState_read
    | with_reducible exact packState_verdict
    | decide +kernel

/-- States and operands that meet the premises of each clause of Security. -/
theorem test_Security :
    (let s : State := { up with regs := [(secKey 0x10, 0x4000)] }
     let v : Word := 1
     s.hubWrites = true
     ∧ v.field 1 63 = 0
     ∧ v.flag 0 = true
     ∧ s.sec.ownerOp = none)
    ∧ (let s : State := { up with sec := { ownerOp := some { addr := 0 } } }
       let v : Word := 1
       s.hubWrites = true
       ∧ v.field 1 63 = 0
       ∧ v.flag 0 = true
       ∧ s.sec.ownerOp ≠ none)
    ∧ (let s : State := { up with sec := { ownerOp := some { addr := 0x4000 } }, hostMem := memPut [] 0x4000 [0x4F,
                                    0x57, 0x4E, 0x52], ttLoad := some { stage := .waiting, src := .slotA,
                                                                        dryRun := true, persist := false, addr := 0,
                                                                        len := 0 } }
       let o : OwnerOp := { addr := 0x4000 }
       let readOk : Bool := true
       let got := readOk = true ∧ s.host.attached = true ∧ o.addr % 8 = 0
         ∧ ∀ p ∈ pieces o.addr 3040, tblGet false s.hostPoison (p.1 / 64) = false
       s.sec.ownerOp = some o
       ∧ o.waiting = false
       ∧ got)
    ∧ (let s : State := { up with sec := { ownerOp := some { addr := 0x4000 } } }
       let o : OwnerOp := { addr := 0x4000 }
       let readOk : Bool := false
       let got := readOk = true ∧ s.host.attached = true ∧ o.addr % 8 = 0
         ∧ ∀ p ∈ pieces o.addr 3040, tblGet false s.hostPoison (p.1 / 64) = false
       s.sec.ownerOp = some o
       ∧ o.waiting = false
       ∧ ¬ got)
    ∧ (let s : State := up
       s.log.mramFail = false)
    ∧ (let s : State := { up with spdm := [(2, { version := 0x12, caps := true, algos := true, size := 0,
                                                 handle := 255 })] }
       let tr : Transport := .doe
       let n := transportNo tr
       s.spdmServed n = true)
    ∧ (let s : State := { up with spdm := [(2, { version := 0x12, caps := true, algos := true, size := 0,
                                                 handle := 255 })] }
       let tr : Transport := .doe
       let body : List Byte := [0x13, 0xE1, 0, 0, 0, 0, 0, 0, 0, 0, 0, 0, 0, 4, 0, 0]
       let n := transportNo tr
       s.spdmServed n = true
       ∧ (msgByte body 0 = 0x12 ∨ msgByte body 0 = 0x13))
    ∧ (let s : State := { up with spdm := [(2, { version := 0x12, caps := true, algos := true, size := 0,
                                                 handle := 255 })] }
       let tr : Transport := .doe
       let body : List Byte := [0x11, 0xE1, 0, 0]
       let n := transportNo tr
       s.spdmServed n = true
       ∧ msgByte body 0 ≠ 0x12
       ∧ msgByte body 0 ≠ 0x13)
    ∧ (let s : State := { up with spdm := [(2, { version := 0x12, caps := true, algos := false, size := 0,
                                                 handle := 255 })] }
       let tr : Transport := .doe
       let body : List Byte := [0x12, 0xE3, 0, 0]
       let n := transportNo tr
       let c := s.spdmConn n
       s.spdmServed n = true
       ∧ c.caps = true
       ∧ msgByte body 0 = c.version
       ∧ msgByte body 28 = 0)
    ∧ (let s : State := { up with spdm := [(2, { version := 0x12, caps := true, algos := false, size := 0,
                                                 handle := 255 })] }
       let tr : Transport := .doe
       let body : List Byte := [0x12, 0xE3, 0, 0] ++ List.replicate 24 0 ++ [1]
       let n := transportNo tr
       let c := s.spdmConn n
       s.spdmServed n = true
       ∧ c.caps = true
       ∧ msgByte body 0 = c.version
       ∧ msgByte body 28 ≠ 0)
    ∧ (let s : State := { up with spdm := [(2, { version := 0x12, caps := true, algos := false, size := 0,
                                                 handle := 255 })] }
       let tr : Transport := .doe
       let n := transportNo tr
       let c := s.spdmConn n
       s.spdmServed n = true
       ∧ c.algos = false)
    ∧ (let s : State := { up with spdm := [(2, { version := 0x12, caps := true, algos := true, size := 0,
                                                 handle := 255 })] }
       let tr : Transport := .doe
       let body : List Byte := [0x12, 0x81, 0, 0]
       let n := transportNo tr
       let c := s.spdmConn n
       s.spdmServed n = true
       ∧ c.algos = true
       ∧ msgByte body 0 = c.version)
    ∧ (let s : State := { up with spdm := [(2, { version := 0x12, caps := true, algos := true, size := 0,
                                                 handle := 255 })] }
       let tr : Transport := .doe
       let body : List Byte := [0x12, 0x82, 0, 0, 0, 0, 255, 255]
       let n := transportNo tr
       let c := s.spdmConn n
       s.spdmServed n = true
       ∧ c.algos = true
       ∧ msgByte body 0 = c.version)
    ∧ (let s : State := { up with spdm := [(2, { version := 0x12, caps := true, algos := true, size := 0,
                                                 handle := 255 })] }
       let tr : Transport := .doe
       let body : List Byte := [0x12, 0x83, 0, 0]
       let n := transportNo tr
       let c := s.spdmConn n
       s.spdmServed n = true
       ∧ c.algos = true
       ∧ msgByte body 0 = c.version
       ∧ msgByte body 1 = 0x83
       ∧ msgByte body 2 = 0
       ∧ s.vault.nextLeaf < leafBound)
    ∧ (let s : State := { up with spdm := [(2, { version := 0x12, caps := true, algos := true, size := 0,
                                                 handle := 255 })],
                                  vault := { nextLeaf := 0x100000, reserved := 0x100000 } }
       let tr : Transport := .doe
       let body : List Byte := [0x12, 0x83, 0, 0]
       let n := transportNo tr
       let c := s.spdmConn n
       s.spdmServed n = true
       ∧ c.algos = true
       ∧ msgByte body 0 = c.version
       ∧ msgByte body 1 = 0x83
       ∧ msgByte body 2 = 0
       ∧ leafBound ≤ s.vault.nextLeaf)
    ∧ (let s : State := { up with spdm := [(2, { version := 0x12, caps := true, algos := true, size := 0,
                                                 handle := 255 })] }
       let tr : Transport := .doe
       let body : List Byte := [0x12, 0xE0, 0, 0]
       let n := transportNo tr
       let c := s.spdmConn n
       s.spdmServed n = true
       ∧ c.algos = true
       ∧ msgByte body 0 = c.version
       ∧ msgByte body 1 = 0xE0
       ∧ (msgByte body 3 ≤ 16 ∨ msgByte body 3 = 255)
       ∧ bit (msgByte body 2) 0 = false)
    ∧ (let s : State := { up with spdm := [(2, { version := 0x12, caps := true, algos := true, size := 0,
                                                 handle := 255 })] }
       let tr : Transport := .doe
       let body : List Byte := [0x12, 0xE0, 1, 0]
       let n := transportNo tr
       let c := s.spdmConn n
       s.spdmServed n = true
       ∧ c.algos = true
       ∧ msgByte body 0 = c.version
       ∧ msgByte body 1 = 0xE0
       ∧ (msgByte body 3 ≤ 16 ∨ msgByte body 3 = 255)
       ∧ bit (msgByte body 2) 0 = true
       ∧ s.vault.nextLeaf < leafBound)
    ∧ (let s : State := { up with spdm := [(2, { version := 0x12, caps := true, algos := true, size := 0,
                                                 handle := 255 })] }
       let tr : Transport := .doe
       let body : List Byte := [0x12, 0xE4, 0, 0, 5, 6]
       let n := transportNo tr
       let c := s.spdmConn n
       s.spdmServed n = true
       ∧ c.algos = true
       ∧ msgByte body 0 = c.version
       ∧ msgByte body 1 = 0xE4
       ∧ msgByte body 3 = 0
       ∧ s.sessions.length < 4
       ∧ s.vault.nextLeaf < leafBound)
    ∧ (let s : State := { up with spdm := [(2, { version := 0x12, caps := true, algos := true, size := 0,
                                                 handle := 255 })], sessions := [{ id := 1, transport := 0 },
                                    { id := 2, transport := 1 }, { id := 3, transport := 2 },
                                    { id := 4, transport := 0 }] }
       let tr : Transport := .doe
       let body : List Byte := [0x12, 0xE4, 0, 0, 5, 6]
       let n := transportNo tr
       let c := s.spdmConn n
       s.spdmServed n = true
       ∧ c.algos = true
       ∧ msgByte body 0 = c.version
       ∧ msgByte body 1 = 0xE4
       ∧ msgByte body 3 = 0
       ∧ 4 ≤ s.sessions.length)
    ∧ (let s : State := { up with spdm := [(2, { version := 0x12, caps := true, algos := true, size := 0,
                                                 handle := 255, chunk := [1], chunkSeq := 1 })] }
       let tr : Transport := .doe
       let body : List Byte := [0x12, 0x85, 0, 7, 1, 0, 0, 0, 3, 0, 0, 0, 8, 9, 10]
       let n := transportNo tr
       let c := s.spdmConn n
       s.spdmServed n = true
       ∧ c.algos = true
       ∧ msgByte body 0 = c.version
       ∧ fieldAt body 4 2 = c.chunkSeq
       ∧ bit (msgByte body 2) 0 = false)
    ∧ (let s : State := { up with spdm := [(2, { version := 0x12, caps := true, algos := true, size := 0,
                                                 handle := 255, large := [1, 2, 3, 4, 5], largeSeq := 1 })] }
       let tr : Transport := .doe
       let body : List Byte := [0x12, 0x86, 0, 255, 1, 0]
       let n := transportNo tr
       let c := s.spdmConn n
       s.spdmServed n = true
       ∧ c.algos = true
       ∧ msgByte body 0 = c.version
       ∧ c.large ≠ []
       ∧ msgByte body 3 = c.handle
       ∧ fieldAt body 4 2 = c.largeSeq)
    ∧ (let s : State := { up with spdm := [(2, { version := 0x12, caps := true, algos := true, size := 0,
                                                 handle := 255 })], sessions := [{ id := 1, transport := 0 },
                                    { id := 0x50004, transport := 2, established := false },
                                    { id := 0x50004, transport := 0 }] }
       let tr : Transport := .doe
       let body : List Byte := [4, 0, 5, 0, 0x12, 0xE8, 2, 9]
       let n := transportNo tr
       let e : SpdmSession := { id := 0x50004, transport := 2, established := false }
       s.spdmServed n = true
       ∧ (s.sessions.find? fun x => x.id == fieldAt body 0 4 && x.transport == n) = some e
       ∧ e.established = false)
    ∧ (let s : State := { up with spdm := [(2, { version := 0x12, caps := true, algos := true, size := 0,
                                                 handle := 255 })], sessions := [{ id := 1, transport := 0 },
                                    { id := 0x50004, transport := 2, established := true },
                                    { id := 0x50004, transport := 0 }] }
       let tr : Transport := .doe
       let body : List Byte := [4, 0, 5, 0, 0x12, 0xE8, 2, 9]
       let n := transportNo tr
       let e : SpdmSession := { id := 0x50004, transport := 2, established := true }
       s.spdmServed n = true
       ∧ (s.sessions.find? fun x => x.id == fieldAt body 0 4 && x.transport == n) = some e
       ∧ e.established = true)
    ∧ (let s : State := { up with spdm := [(2, { version := 0x12, caps := true, algos := true, size := 0,
                                                 handle := 255 })], sessions := [{ id := 1, transport := 0 },
                                    { id := 0x50004, transport := 2, established := true },
                                    { id := 0x50004, transport := 0 }] }
       let tr : Transport := .doe
       let body : List Byte := [4, 0, 5, 0, 0x12, 0xE8, 2, 9]
       let n := transportNo tr
       let e : SpdmSession := { id := 0x50004, transport := 2, established := true }
       s.spdmServed n = true
       ∧ (s.sessions.find? fun x => x.id == fieldAt body 0 4 && x.transport == n) = some e
       ∧ e.established = true)
    ∧ (let s : State := { up with spdm := [(2, { version := 0x12, caps := true, algos := true, size := 0,
                                                 handle := 255 })], sessions := [{ id := 1, transport := 0 },
                                    { id := 0x50004, transport := 2, established := true },
                                    { id := 0x50004, transport := 0 }] }
       let tr : Transport := .doe
       let body : List Byte := [4, 0, 5, 0, 0x12, 0xE8, 2, 9]
       let n := transportNo tr
       let e : SpdmSession := { id := 0x50004, transport := 2, established := true }
       s.spdmServed n = true
       ∧ (s.sessions.find? fun x => x.id == fieldAt body 0 4 && x.transport == n) = some e
       ∧ e.established = true)
    ∧ (let s : State := { up with spdm := [(2, { version := 0x12, caps := true, algos := true, size := 0,
                                                 handle := 255 })], sessions := [{ id := 1, transport := 0 },
                                    { id := 0x50004, transport := 2, established := true },
                                    { id := 0x50004, transport := 0 }] }
       let tr : Transport := .doe
       let body : List Byte := [4, 0, 5, 0, 0x12, 0xE8, 2, 9]
       let n := transportNo tr
       let e : SpdmSession := { id := 0x50004, transport := 2, established := true }
       let m := body.drop 4
       s.spdmServed n = true
       ∧ (s.sessions.find? fun x => x.id == fieldAt body 0 4 && x.transport == n) = some e
       ∧ e.established = true
       ∧ 1 ≤ msgByte m 2
       ∧ msgByte m 2 ≤ 3)
    ∧ (let s : State := { up with spdm := [(2, { version := 0x12, caps := true, algos := true, size := 0,
                                                 handle := 255 })],
                                  sessions := [{ id := 0x50004, transport := 0 }] }
       let tr : Transport := .doe
       let body : List Byte := [4, 0, 5, 0, 0x12, 0xE8, 2, 9]
       let n := transportNo tr
       s.spdmServed n = true
       ∧ (s.sessions.find? fun x => x.id == fieldAt body 0 4 && x.transport == n) = none) := by
  and_intros <;> decide +kernel

/-- States and operands that meet the premises of each clause of PowerAndSleep. -/
theorem test_PowerAndSleep :
    (let s : State := withPond { up with regs := [(lnKey 0 0x140, 2)], lines := [(0,
                                           { st := .running, sleepFrom := some 80 })], time := 1000080,
                                         basinPower := [(0, { pll := true })], bindings := [(32, 5)], harts := [(0,
                                           { mode := .run })], mem := [(9, 1)],
                                         coh := { caches := [(10, some { st := .m, data := List.replicate 64 7 })],
                                                  dir := [(10, .owned 0)] } } { slots := [(1, { st := .full })],
                                                                                sregs := [(1, 5)] }
     let l : LineId := 0
     let ln := s.line l
     let want := sleepDepth (s.fld (lnKey l 0x140) 0 16)
     let d := if want = 3 ∧ s.allWfi l = false then 2 else want
     s.isLeader l = true
     ∧ ln.st = .running
     ∧ ln.sleep = 0
     ∧ d ≠ 0
     ∧ s.holdsGrant l = false
     ∧ s.sleepIdle l = true
     ∧ sinceMs ln.sleepFrom s.time = true)
    ∧ (let s : State := withPond { up with regs := [(lnKey 0 0x140, 1)], lines := [(0,
                                             { st := .running, sleepFrom := some 80 })], time := 1000080,
                                           basinPower := [(0, { pll := true })], bindings := [(32, 5)],
                                           harts := [(0, { mode := .wfi })], mem := [(9,
                                             1)] } { slots := [(1, { st := .full })], sregs := [(1, 5)] }
       let l : LineId := 0
       let ln := s.line l
       let want := sleepDepth (s.fld (lnKey l 0x140) 0 16)
       (want = 0 ∨ s.holdsGrant l = true ∨ s.sleepIdle l = false ∨ sinceMs ln.sleepFrom s.time = false))
    ∧ (let s : State := { up with lines := [(0, { st := .running, sleep := 1, waking := false })], basinMem := [(0,
                                    { selfRefresh := true })], basinPower := [(0, { pll := false })] }
       let l : LineId := 0
       let ln := s.line l
       ln.sleep ≠ 0)
    ∧ (let s : State := { up with lines := [(0, { st := .running, sleep := 1, waking := true })], basinMem := [(0,
                                    { selfRefresh := true })], basinPower := [(0, { pll := false })] }
       let l : LineId := 0
       let ln := s.line l
       ln.waking = true
       ∧ ln.st = .running
       ∧ ln.sleep ≠ 0)
    ∧ (let s : State := { up with lines := [(0, { st := .running, sleep := 3, waking := false })], basinMem := [(0,
                                    { selfRefresh := true })], basinPower := [(0, { pll := false })] }
       let l : LineId := 0
       let via : Via := .host
       let v : Word := 0x1234
       s.lnWrites via l = true
       ∧ v.field 16 48 = 0)
    ∧ (let s : State := { up with lines := [(0, { st := .running, sleep := 3, waking := false })], basinMem := [(0,
                                    { selfRefresh := true })], basinPower := [(0, { pll := false })] }
       let b : BasinId := 0
       s.quietBasin b = true)
    ∧ (let s : State := { up with lines := [(0, { st := .running, sleep := 3, waking := false })], basinMem := [(0,
                                    { selfRefresh := true })], basinPower := [(0, { pll := false })] }
       let b : BasinId := 0
       s.quietBasin b = true)
    ∧ (let rs : List (Nat × Nat × Nat) := [(149, 1, 39), (150, 2, 40), (300, 3, 50), (0, 0, 0), (0, 0, 0), (0, 0,
        0), (0, 0, 0), (7, 8, 9), (4181, 0, 0)]
       rs.length = 9)
    ∧ (let s : State := up
       let v : Word := 1000
       s.hubWrites = true
       ∧ v.field 12 52 = 0)
    ∧ (let b : BasinId := 0
       let core : Bool := true
       let s : State := { up with basinPower := [(0, { core := { anchors := [600, 700], guard := true,
                                                                 temp := 20 } })], time := 80 }
       s.railDue b core = true)
    ∧ (let b : BasinId := 0
       let core : Bool := true
       let s : State := { up with basinPower := [(0, { core := { anchors := [], guard := true, temp := 20 } })],
                                  time := 80 }
       let x := s.rail b core
       s.railDue b core = true
       ∧ (∀ a ∈ x.anchors, a + 10 ≤ railMax b core))
    ∧ (let b : BasinId := 0
       let core : Bool := true
       let s : State := { up with basinPower := [(0, { core := { anchors := [600, railMax 0 true], guard := true,
                                                                 temp := 20 } })], time := 80 }
       let x := s.rail b core
       s.railDue b core = true
       ∧ (∃ a ∈ x.anchors, railMax b core < a + 10))
    ∧ (let s : State := up
       let b : BasinId := 0
       let core : Bool := true
       s.railDue b core = false) := by
  and_intros
  all_goals first
    | decide +kernel
    | exact ⟨_, List.mem_cons_of_mem _ (List.mem_singleton.mpr rfl), Nat.lt_add_of_pos_right (by decide +kernel)⟩

/-- States and operands that meet the premises of each clause of ManagementBus. -/
theorem test_ManagementBus :
    (let s : State := { up with mgmt := { i3c := true, dynAddr := some 7, events := 0xF1, mwl := 0x102,
                                          mrl := 0x304, eids := [(0, 9)] } }
     s.busOn = true)
    ∧ (let s : State := { up with mgmt := { i3c := true, dynAddr := some 7, events := 0xF1, mwl := 0x102,
                                            mrl := 0x304, eids := [(0, 9)] } }
       s.busOn = true)
    ∧ (let s : State := { up with mgmt := { i3c := true, dynAddr := some 7, events := 0xF1, mwl := 0x102,
                                            mrl := 0x304, eids := [(0, 9)] } }
       s.busOn = true)
    ∧ (let s : State := { up with mgmt := { i3c := true, dynAddr := some 7, events := 0xF1, mwl := 0x102,
                                            mrl := 0x304, eids := [(0, 9)] } }
       s.busOn = true)
    ∧ (let s : State := { up with mgmt := { i3c := true, dynAddr := some 7, events := 0xF1, mwl := 0x102,
                                            mrl := 0x304, eids := [(0, 9)] } }
       s.busOn = true)
    ∧ (let s : State := { up with mgmt := { i3c := true, dynAddr := some 7, events := 0xF1, mwl := 0x102,
                                            mrl := 0x304, eids := [(0, 9)] } }
       s.busOn = true)
    ∧ (let s : State := { up with mgmt := { i3c := true, dynAddr := some 7, events := 0xF1, mwl := 0x102,
                                            mrl := 0x304, eids := [(0, 9)] } }
       s.busOn = true)
    ∧ (let s : State := { up with mgmt := { i3c := true, dynAddr := some 7, events := 0xF1, mwl := 0x102,
                                            mrl := 0x304, eids := [(0, 9)] } }
       s.busOn = true)
    ∧ (let s : State := { up with mgmt := { i3c := true, dynAddr := some 7, events := 0xF1, mwl := 0x102,
                                            mrl := 0x304, eids := [(0, 9)] } }
       s.busOn = true)
    ∧ (let s : State := { up with mgmt := { i3c := true, dynAddr := some 7, events := 0xF1, mwl := 0x102,
                                            mrl := 0x304, eids := [(0, 9)] } }
       let m := s.mgmt
       s.busOn = true
       ∧ m.i3c = true
       ∧ m.dynAddr.isSome = true)
    ∧ (let s : State := { up with mgmt := { i3c := true, dynAddr := some 7, events := 0xF1, mwl := 0x102,
                                            mrl := 0x304, eids := [(0, 9)] } }
       let m := s.mgmt
       s.busOn = true
       ∧ m.i3c = true
       ∧ m.dynAddr.isSome = true)
    ∧ (let s : State := { up with mgmt := { i3c := true, dynAddr := some 7, events := 0xF1, mwl := 0x102,
                                            mrl := 0x304, eids := [(0, 9)] } }
       let m := s.mgmt
       s.busOn = true
       ∧ m.i3c = true
       ∧ m.dynAddr.isSome = true)
    ∧ (let s : State := { up with mgmt := { i3c := true, dynAddr := some 7, events := 0xF1, mwl := 0x102,
                                            mrl := 0x304, eids := [(0, 9)] } }
       let m := s.mgmt
       s.busOn = true
       ∧ m.i3c = true
       ∧ m.dynAddr.isSome = true)
    ∧ (let s : State := { up with mgmt := { i3c := true, dynAddr := some 7, events := 0xF1, mwl := 0x102,
                                            mrl := 0x304, eids := [(0, 9)] } }
       let m := s.mgmt
       s.busOn = true
       ∧ m.i3c = true
       ∧ m.dynAddr.isSome = true)
    ∧ (let s : State := { up with mgmt := { i3c := true, dynAddr := some 7, events := 0xF1, mwl := 0x102,
                                            mrl := 0x304, eids := [(0, 9)] } }
       let m := s.mgmt
       s.busOn = true
       ∧ m.i3c = true
       ∧ m.dynAddr.isSome = true)
    ∧ (let s : State := { up with mgmt := { i3c := true, dynAddr := some 7, events := 0xF1, mwl := 0x102,
                                            mrl := 0x304, eids := [(0, 9)] } }
       let m := s.mgmt
       s.busOn = true
       ∧ m.i3c = true
       ∧ m.dynAddr.isSome = true)
    ∧ (let s : State := { up with mgmt := { i3c := true, dynAddr := some 7, events := 0xF1, mwl := 0x102,
                                            mrl := 0x304, eids := [(0, 9)] } }
       let m := s.mgmt
       s.busOn = true
       ∧ m.i3c = true
       ∧ m.dynAddr.isSome = true)
    ∧ (let s : State := { up with mgmt := { arpDone := false, smbusAddr := 0x33 } }
       let m := s.mgmt
       s.busOn = true
       ∧ m.i3c = false)
    ∧ (let s : State := { up with mgmt := { arpDone := false, smbusAddr := 0x33 } }
       let m := s.mgmt
       s.busOn = true
       ∧ m.i3c = false)
    ∧ (let s : State := { up with mgmt := { arpDone := false, smbusAddr := 0x33 } }
       let m := s.mgmt
       s.busOn = true
       ∧ m.i3c = false)
    ∧ (let s : State := { up with mgmt := { arpDone := false, smbusAddr := 0x33 } }
       let m := s.mgmt
       s.busOn = true
       ∧ m.i3c = false)
    ∧ (let s : State := { up with mgmt := { arpDone := false, smbusAddr := 0x33 } }
       let m := s.mgmt
       s.busOn = true
       ∧ m.i3c = false
       ∧ m.arpDone = false)
    ∧ (let s : State := { up with mgmt := { arpDone := false, smbusAddr := 0x33 } }
       let m := s.mgmt
       m.dynAddr = none)
    ∧ (let s : State := up
       let binding : Fin 2 := 0
       let eid : Byte := 5
       s.mctpServed binding = true
       ∧ eid ≠ 0
       ∧ eid ≠ 255)
    ∧ (let s : State := up
       let binding : Fin 2 := 0
       let eid : Byte := 0
       s.mctpServed binding = true
       ∧ (eid = 0 ∨ eid = 255))
    ∧ (let s : State := up
       let binding : Fin 2 := 0
       let body : List Byte := [3, 1]
       s.pldmServed binding = true
       ∧ (body.getD 0 0).toNat ≤ 3)
    ∧ (let s : State := { up with pldm := { lost := 4 } }
       let binding : Fin 2 := 0
       s.pldmServed binding = true
       ∧ s.pldm.events = [])
    ∧ (let s : State := { up with pldm := { lost := 4, events := [{ kind := 1, a := 2, b := 3 },
                                              { kind := 4, a := 5, b := 6 }] } }
       let binding : Fin 2 := 0
       let e : PldmEvent := { kind := 1, a := 2, b := 3 }
       let r : List PldmEvent := [{ kind := 4, a := 5, b := 6 }]
       s.pldmServed binding = true
       ∧ s.pldm.events = e :: r)
    ∧ (let s : State := up
       let binding : Fin 2 := 0
       s.fwServed binding 1 = true
       ∧ s.pldm.update = none
       ∧ s.boot.recovery = none)
    ∧ (let s : State := up
       let binding : Fin 2 := 0
       s.fwServed binding 2 = true
       ∧ s.pldm.update = none
       ∧ s.survey = none)
    ∧ (let binding : Fin 2 := 0
       let s : State := { up with pldm := { update := some { comp := 1, image := [1, 2], sigOk := true,
                                                             binding := 0 } } }
       s.fwServed binding 1 = true
       ∧ s.pldm.update ≠ none)
    ∧ (let s : State := { up with pldm := { update := some { comp := 1, image := [1, 2], sigOk := true,
                                                             binding := 0 } } }
       let u : FwUpdate := { comp := 1, image := [1, 2], sigOk := true, binding := 0 }
       s.pldm.update = some u
       ∧ u.comp = 1
       ∧ u.waiting = false)
    ∧ (let s : State := { up with pldm := { update := some { comp := 1, image := [1, 2], sigOk := true,
                                                             binding := 0 } } }
       let u : FwUpdate := { comp := 1, image := [1, 2], sigOk := true, binding := 0 }
       s.pldm.update = some u
       ∧ u.comp = 1
       ∧ u.waiting = false)
    ∧ (let s : State := up
       let binding : Fin 2 := 0
       s.fwServed binding 1 = true) := by
  and_intros <;> decide +kernel

/-- States and operands that meet the premises of each clause of TelemetryAndLogbook. -/
theorem test_TelemetryAndLogbook :
    (let s : State := { up with time := 1000000, regs := [(lnKey 0 0x200, 0x123456789AB), (lnKey 0 0x718, 7),
                                  (updKey 0 0x28, 0x7777777)], tenantPrev := [(lnKey 0 0x718, 6)],
                                tenant := [(lnKey 0 0x200, 5)] }
     let drawn := s.each (List.range 8) State.sampleBasin
     s.time % 1000000 = 0
     ∧ s.sec.tenantAt ≠ s.time
     ∧ tblRising drawn.regs = true)
    ∧ (let s : State := { up with time := 1000040, regs := [(lnKey 0 0x200, 0x123456789AB), (bKey 0 0x600028,
                                    0x7777777), (grdKey 3 0x20, 99999)] }
       s.time % 1000000 ≠ 0)
    ∧ (let s : State := { up with time := 5000000, regs := [(lnKey 0 0x718, 7), (telKey 0 0, 0x8000), (telKey 0 8,
                                    0x0), (telKey 0 0x10, 5), (telKey 0 0x18, 0x0E0C100F)], lines := [(0,
                                    { st := .running, telSeq := 0xFFFFFFFF })], mem := [(0x8000, 9), (0x8040, 7),
                                    (0x83FF, 3)] }
       let l : LineId := 0
       let period := s.fld (telKey l 0x10) 0 10
       let n := 2 ^ (s.fld (telKey l 0) 0 4 + 4)
       let i := s.fld (telKey l 8) 0 20
       let base := s.tenantStep.lowBits (s.fld (telKey l 0) 4 48 * 16) (n * 64)
       let a := base.1 + i * 64
       s.isLeader l = true
       ∧ (s.line l).st ≠ .failed
       ∧ period ≠ 0
       ∧ s.time % (period * 1000000) = 0
       ∧ Writable s l a 64)
    ∧ (let s : State := { up with time := 5000000, regs := [(lnKey 0 0x718, 7), (telKey 0 0, 0x3fffffff8000),
                                    (telKey 0 8, 0x2), (telKey 0 0x10, 5), (telKey 0 0x18, 0x0E0C100F)],
                                  lines := [(0, { st := .running, telSeq := 0xFFFFFFFF })], mem := [(0x8000, 9),
                                    (0x8040, 7), (0x83FF, 3)] }
       let l : LineId := 0
       let period := s.fld (telKey l 0x10) 0 10
       let n := 2 ^ (s.fld (telKey l 0) 0 4 + 4)
       let i := s.fld (telKey l 8) 0 20
       let base := s.tenantStep.lowBits (s.fld (telKey l 0) 4 48 * 16) (n * 64)
       let a := base.1 + i * 64
       s.isLeader l = true
       ∧ (s.line l).st ≠ .failed
       ∧ period ≠ 0
       ∧ s.time % (period * 1000000) = 0
       ∧ s.ownMem l a = false)
    ∧ (let s : State := { up with regs := [(telKey 0 8, 5), (telKey 0 0x10, 0x403)] }
       let via : Via := .host
       let l : LineId := 0
       let v : Word := 0x3FF
       s.lnWrites via l = true
       ∧ v.field 11 53 = 0)
    ∧ (let rs : List (Nat × Int) := [(2, 47000), (0x10, 99), (0x18, 106), (0x2F, -4), (0x41, 95)]
       (rs.map fun e => e.1).Nodup)
    ∧ (let s : State := up
       let v : Word := 0x55
       s.hubWrites = true
       ∧ s.log.mramFail = false
       ∧ s.logRecent 0x0104 0x20 v.toNat = none)
    ∧ (let s : State := up
       let v : Word := 0x55
       s.hubWrites = true
       ∧ s.log.mramFail = false
       ∧ s.logRecent 0x0103 0x20 v.toNat = none)
    ∧ (let s : State := { up with time := 999999999, log := { next := 5, entries := [{ seq := 0, time := 0,
                                                                                       boot := 0, code := 0x0104,
                                                                                       sev := 0, source := 0x20,
                                                                                       lines := 0,
                                                                                       mirrored := false, svn := 0,
                                                                                       ttGen := 0, arg0 := 0x55,
                                                                                       arg1 := 0, arg2 := 0,
                                                                                       payload := [] }] } }
       let v : Word := 0x55
       let e : LogEntry := { seq := 0, time := 0, boot := 0, code := 0x0104, sev := 0, source := 0x20, lines := 0,
                             mirrored := false, svn := 0, ttGen := 0, arg0 := 0x55, arg1 := 0, arg2 := 0,
                             payload := [] }
       s.hubWrites = true
       ∧ s.log.mramFail = false
       ∧ s.logRecent 0x0104 0x20 v.toNat = some e)
    ∧ (let s : State := { up with log := { next := 5, entries := [{ seq := 0, time := 0, boot := 0, code := 0x0104,
                                                                    sev := 0, source := 0x20, lines := 0,
                                                                    mirrored := false, svn := 0, ttGen := 0,
                                                                    arg0 := 0x55, arg1 := 0, arg2 := 0,
                                                                    payload := [] },
                                             { seq := 0, time := 0, boot := 0, code := 0x0104, sev := 0,
                                               source := 0x20, lines := 0, mirrored := false, svn := 0, ttGen := 0,
                                               arg0 := 0x55, arg1 := 0, arg2 := 0, payload := [] }] } }
       let binding : Fin 2 := 0
       s.mctpServed binding = true) := by
  and_intros
  all_goals first
    | decide +kernel
    | simp only [writable_iff, quiet_iff] <;> decide +kernel

end Sys2Proof.Tests
end

