-- ==== Sys2Proof/Tests/Witness6.lean ====
section
/-!
SUPPORT. States and operands that meet the premises of the statements BootAndModule to VersionFloor,
clause by clause.
-/
namespace Sys2Proof.Tests

set_option Elab.async false

open Machine Safety

/-- States and operands that meet the premises of each clause of BootAndModule. -/
theorem test_BootAndModule :
    (let s : State := { up with vault := { minSvn := 3, nextLeaf := 5, reserved := 16 },
                                nvm := { ownerCount := 3, bootCount := 4, logReserved := 64 }, mem := [(1, 1)],
                                poison := [(5, true)], ponds := [(0, {})], harts := [(0, {})], health := [(5,
                                  { st := .retired })], time := 1000, log := { next := 9 }, regs := [(hubKey 0x58,
                                  0xFFFFFFFF00000000), (hubKey 0x68, 7)], basinMem := [(0,
                                  { selfRefresh := true })] }
     s.busOn = true)
    ∧ (let s : State := { up with vault := { minSvn := 3, nextLeaf := 5, reserved := 16 },
                                  nvm := { ownerCount := 3, bootCount := 4, logReserved := 64 }, mem := [(1, 1)],
                                  poison := [(5, true)], ponds := [(0, {})], harts := [(0, {})], health := [(5,
                                    { st := .retired })], time := 1000, log := { next := 9 }, regs := [(hubKey 0x58,
                                    0xFFFFFFFF00000000), (hubKey 0x68, 7)], basinMem := [(0,
                                    { selfRefresh := true })] }
       s.busOn = true)
    ∧ (let s : State := { up with vault := { minSvn := 3, nextLeaf := 5, reserved := 16 },
                                  nvm := { ownerCount := 3, bootCount := 4, logReserved := 64 }, mem := [(1, 1)],
                                  poison := [(5, true)], ponds := [(0, {})], harts := [(0, {})], health := [(5,
                                    { st := .retired })], time := 1000, log := { next := 9 }, regs := [(hubKey 0x58,
                                    0xFFFFFFFF00000000), (hubKey 0x68, 7)], basinMem := [(0,
                                    { selfRefresh := true })] }
       s.busOn = true)
    ∧ (let s : State := { up with vault := { minSvn := 3, nextLeaf := 5, reserved := 16 },
                                  nvm := { ownerCount := 3, bootCount := 4, logReserved := 64 }, mem := [(1, 1)],
                                  poison := [(5, true)], ponds := [(0, {})], harts := [(0, {})], health := [(5,
                                    { st := .retired })], time := 1000, log := { next := 9 }, regs := [(hubKey 0x58,
                                    0xFFFFFFFF00000000), (hubKey 0x68, 7)], basinMem := [(0,
                                    { selfRefresh := true })] }
       s.busOn = true)
    ∧ (let s : State := { State.reset with time := 1000, boot := { powered := false }, health := [(5,
                                             { st := .retired })], vault := { nextLeaf := 5, reserved := 16 } }
       s.busOn = false)
    ∧ (let s : State := { State.reset with time := 1000, boot := { powered := false }, health := [(5,
                                             { st := .retired })], vault := { nextLeaf := 5, reserved := 16 } }
       s.busOn = false)
    ∧ (let s : State := { up with vault := { minSvn := 3, nextLeaf := 5, reserved := 16 },
                                  nvm := { ownerCount := 3, bootCount := 4, logReserved := 64 }, mem := [(1, 1)],
                                  poison := [(5, true)], ponds := [(0, {})], harts := [(0, {})], health := [(5,
                                    { st := .retired })], time := 1000, log := { next := 9 }, regs := [(hubKey 0x58,
                                    0xFFFFFFFF00000000), (hubKey 0x68, 7)], basinMem := [(0,
                                    { selfRefresh := true })] }
       let v : Word := 0x1A5
       s.host.attached = true
       ∧ s.boot.powered = true
       ∧ v.field 9 55 = 0
       ∧ v.flag 8 = true
       ∧ v.field 0 8 = 0xA5)
    ∧ (let s : State := { up with vault := { minSvn := 3, nextLeaf := 5, reserved := 16 },
                                  nvm := { ownerCount := 3, bootCount := 4, logReserved := 64 }, mem := [(1, 1)],
                                  poison := [(5, true)], ponds := [(0, {})], harts := [(0, {})], health := [(5,
                                    { st := .retired })], time := 1000, log := { next := 9 }, regs := [(hubKey 0x58,
                                    0xFFFFFFFF00000000), (hubKey 0x68, 7)], basinMem := [(0,
                                    { selfRefresh := true })] }
       let v : Word := 0x15A
       s.host.attached = true
       ∧ s.boot.powered = true
       ∧ v.field 9 55 = 0
       ∧ v.flag 8 = true
       ∧ v.field 0 8 ≠ 0xA5)
    ∧ (let s : State := { up with vault := { minSvn := 3, nextLeaf := 5, reserved := 16 },
                                  nvm := { ownerCount := 3, bootCount := 4, logReserved := 64 }, mem := [(1, 1)],
                                  poison := [(5, true)], ponds := [(0, {})], harts := [(0, {})], health := [(5,
                                    { st := .retired })], time := 1000, log := { next := 9 }, regs := [(hubKey 0x58,
                                    0xFFFFFFFF00000000), (hubKey 0x68, 7)], basinMem := [(0,
                                    { selfRefresh := true })] }
       s.boot.powered = true)
    ∧ (let s : State := { linesIn .stopped with health := [(5, { st := .suspect })], mem := [(1, 1)] }
       let v : Word := 1
       let calm := ∀ l < 8, s.isLeader l = true → (s.line l).st = .off ∨ (s.line l).st = .stopped ∨ (s.line l).st =
           .failed
       s.hubWrites = true
       ∧ v.field 2 62 = 0
       ∧ v.flag 0 = true
       ∧ calm
       ∧ s.queues = []
       ∧ (∀ l < 8, s.isLeader l = true → s.tdisp l = .unlocked ∧ RouteOff s l 0x105))
    ∧ (let s : State := up
       let v : Word := 1
       let calm := ∀ l < 8, s.isLeader l = true → (s.line l).st = .off ∨ (s.line l).st = .stopped ∨ (s.line l).st =
           .failed
       s.hubWrites = true
       ∧ v.field 2 62 = 0
       ∧ v.flag 0 = true
       ∧ ¬ calm)
    ∧ (let s : State := { up with vault := { minSvn := 3, nextLeaf := 5, reserved := 16 },
                                  nvm := { ownerCount := 3, bootCount := 4, logReserved := 64 }, mem := [(1, 1)],
                                  poison := [(5, true)], ponds := [(0, {})], harts := [(0, {})], health := [(5,
                                    { st := .retired })], time := 1000, log := { next := 9 }, regs := [(hubKey 0x58,
                                    0xFFFFFFFF00000000), (hubKey 0x68, 7)], basinMem := [(0,
                                    { selfRefresh := true })], boot := { stage := .alwaysOn } }
       s.boot.powered = true
       ∧ s.boot.running = false
       ∧ s.boot.stage = .alwaysOn)
    ∧ (let s : State := { State.reset with time := 1000, vault := { minSvn := 0, nextLeaf := 15, reserved := 16 },
                                           mem := [(1, 1)], boot := { running := true, stage := .alwaysOn } }
       let r : BootResult := {}
       s.boot.running = true
       ∧ s.boot.stage = .alwaysOn
       ∧ s.critical 0 = false
       ∧ r.nvmOk = true
       ∧ r.rngOk = true
       ∧ r.idOk = true)
    ∧ (let s : State := { State.reset with time := 1000, vault := { minSvn := 0, nextLeaf := 15, reserved := 16 },
                                           mem := [(1, 1)], boot := { running := true, stage := .alwaysOn } }
       let r : BootResult := { nvmOk := false, rngOk := false }
       s.boot.running = true
       ∧ s.boot.stage = .alwaysOn
       ∧ s.critical 0 = false
       ∧ r.nvmOk = false)
    ∧ (let s : State := { State.reset with time := 1000, vault := { minSvn := 0, nextLeaf := 15, reserved := 16 },
                                           mem := [(1, 1)], boot := { running := true, stage := .alwaysOn } }
       let r : BootResult := { rngOk := false, idOk := false }
       s.boot.running = true
       ∧ s.boot.stage = .alwaysOn
       ∧ s.critical 0 = false
       ∧ r.nvmOk = true
       ∧ r.rngOk = false)
    ∧ (let s : State := { State.reset with time := 1000, vault := { minSvn := 0, nextLeaf := 15, reserved := 16 },
                                           mem := [(1, 1)], boot := { running := true, stage := .alwaysOn } }
       let r : BootResult := { idOk := false }
       s.boot.running = true
       ∧ s.boot.stage = .alwaysOn
       ∧ s.critical 0 = false
       ∧ r.nvmOk = true
       ∧ r.rngOk = true
       ∧ r.idOk = false)
    ∧ (let s : State := { State.reset with time := 1000, vault := { minSvn := 0, nextLeaf := 15, reserved := 16 },
                                           mem := [(1, 1)], boot := { running := true, stage := .image } }
       let r : BootResult := { flashOk := false }
       s.boot.running = true
       ∧ s.boot.stage = .image
       ∧ r.flashOk = false)
    ∧ (let s : State := { State.reset with time := 1000, vault := { minSvn := 0, nextLeaf := 15, reserved := 16 },
                                           mem := [(1, 1)], boot := { running := true, stage := .image } }
       let r : BootResult := {}
       s.boot.running = true
       ∧ s.boot.stage = .image
       ∧ r.flashOk = true
       ∧ (s.fwCheck r.badFormat).1 = 0)
    ∧ (let s : State := { State.reset with time := 1000, vault := { minSvn := 0, nextLeaf := 15, reserved := 16 },
                                           mem := [(1, 1)], boot := { running := true, stage := .image },
                                           flash := { fw := .broken } }
       let r : BootResult := {}
       s.boot.running = true
       ∧ s.boot.stage = .image
       ∧ r.flashOk = true
       ∧ (s.fwCheck r.badFormat).1 ≠ 0)
    ∧ (let s : State := { State.reset with time := 1000, vault := { minSvn := 0, nextLeaf := 15, reserved := 16 },
                                           mem := [(1, 1)], boot := { running := true, stage := .inventory } }
       s.boot.running = true
       ∧ s.boot.stage = .inventory)
    ∧ (let s : State := { State.reset with time := 1000, vault := { minSvn := 0, nextLeaf := 15, reserved := 16 },
                                           mem := [(1, 1)], boot := { running := true, stage := .spurs } }
       let r : BootResult := { wires := [{ spur := 5, dieA := 5, portA := 0, dieB := 1, portB := 0 }] }
       let w : SpurWire := { spur := 5, dieA := 5, portA := 0, dieB := 1, portB := 0 }
       let ws : List SpurWire := []
       s.boot.running = true
       ∧ s.boot.stage = .spurs
       ∧ r.wires.filter s.mispaired = w :: ws)
    ∧ (let s : State := { State.reset with time := 1000, vault := { minSvn := 0, nextLeaf := 15, reserved := 16 },
                                           mem := [(1, 1)], boot := { running := true, stage := .spurs } }
       let r : BootResult := {}
       s.boot.running = true
       ∧ s.boot.stage = .spurs
       ∧ r.wires.filter s.mispaired = [])
    ∧ (let s : State := { State.reset with time := 1000, vault := { minSvn := 0, nextLeaf := 15, reserved := 16 },
                                           mem := [(1, 1)], boot := { running := true, stage := .dies } }
       s.boot.running = true
       ∧ s.boot.stage = .dies)
    ∧ (let s : State := { State.reset with time := 1000, vault := { minSvn := 0, nextLeaf := 15, reserved := 16 },
                                           mem := [(1, 1)], boot := { running := true, stage := .lpddr },
                                           dies := [(1, { st := .absent }), (2, { st := .absent }), (3,
                                             { st := .absent }), (4, { st := .absent }), (5, { st := .absent }), (6,
                                             { st := .absent }), (7, { st := .absent }), (8, { st := .absent })] }
       s.boot.running = true
       ∧ s.boot.stage = .lpddr)
    ∧ (let s : State := { State.reset with time := 1000, vault := { minSvn := 0, nextLeaf := 15, reserved := 16 },
                                           mem := [(1, 1)], boot := { running := true, stage := .timetable } }
       s.boot.running = true
       ∧ s.boot.stage = .timetable)
    ∧ (let s : State := { State.reset with time := 1000, vault := { minSvn := 0, nextLeaf := 15, reserved := 16 },
                                           mem := [(1, 1)], boot := { running := true, stage := .done } }
       s.boot.running = true
       ∧ s.boot.stage = .done)
    ∧ (let s : State := { State.reset with time := 6000001, vault := { minSvn := 0, nextLeaf := 15,
                                                                       reserved := 16 }, mem := [(1, 1)],
                                           boot := { running := true, stage := .spurs } }
       s.boot.running = true
       ∧ s.boot.stepAt + stepLimit s.boot.stage < s.time)
    ∧ (let s : State := { State.reset with time := 6000000, vault := { minSvn := 0, nextLeaf := 15,
                                                                       reserved := 16 }, mem := [(1, 1)],
                                           boot := { running := true, stage := .spurs } }
       s.boot.running = true
       ∧ s.time ≤ s.boot.stepAt + stepLimit s.boot.stage)
    ∧ (let s : State := { State.reset with host := { attached := true }, regs := [(hubKey 0x20, 0x4000)],
                                           boot := { stage := .recovery } }
       let v : Word := 0x8000008
       let addr := (s.reg (hubKey 0x20)).toNat
       let len := v.field 0 27
       s.recoveryServed = true
       ∧ v.field 28 36 = 0
       ∧ v.flag 27 = true
       ∧ s.boot.recovery = none
       ∧ s.pldm.update = none
       ∧ addr % 8 = 0
       ∧ 8 ≤ len
       ∧ len ≤ 0x4000000)
    ∧ (let s : State := { State.reset with host := { attached := true }, regs := [(hubKey 0x20, 0x4000)],
                                           boot := { stage := .recovery } }
       let v : Word := 0x8000007
       let addr := (s.reg (hubKey 0x20)).toNat
       let len := v.field 0 27
       s.recoveryServed = true
       ∧ v.field 28 36 = 0
       ∧ v.flag 27 = true
       ∧ s.boot.recovery = none
       ∧ s.pldm.update = none
       ∧ (addr % 8 ≠ 0 ∨ len < 8 ∨ 0x4000000 < len))
    ∧ (let s : State := { State.reset with host := { attached := true }, regs := [(hubKey 0x20, 0x4000)],
                                           boot := { stage := .recovery,
                                                     recovery := some { addr := 0x4000, len := 3064 } } }
       let v : Word := 0x8000008
       s.recoveryServed = true
       ∧ v.field 28 36 = 0
       ∧ v.flag 27 = true
       ∧ s.boot.recovery ≠ none)
    ∧ (let s : State := { State.reset with host := { attached := true }, regs := [(hubKey 0x20, 0x4000)],
                                           boot := { stage := .recovery,
                                                     recovery := some { addr := 0x4000, len := 3064 } },
                                           hostMem := memPut [] 0x4000 ([90, 70, 77, 87, 1, 0, 1, 0, 16, 0, 0, 0, 2,
                                             0, 0, 0, 0, 0, 0, 0, 0, 0, 0, 0, 0, 0, 0, 0, 0, 0, 0, 0, 0, 0, 0, 0, 0,
                                             0, 0, 0, 0, 0, 0, 0, 0, 0, 0, 0, 0, 0, 0, 0, 0, 0, 0, 0, 0, 0, 0, 0, 0,
                                             0, 0, 0, 0, 0, 0, 0, 0, 0, 0, 0, 8, 0, 0, 0, 0, 0, 0, 0, 1, 0, 0, 0, 8,
                                             0, 0, 0, 8, 0, 0, 0, 0, 0, 0, 0, 0, 0, 0, 0, 0, 0, 0, 0, 0, 0, 0, 0, 0,
                                             0, 0, 0, 83, 137, 28, 118, 191, 65, 209, 100, 166, 226, 27, 27, 155,
                                             218, 58, 51, 31, 109, 101, 179, 71, 145, 196, 224, 87, 156, 230, 54,
                                             84, 243, 87, 166, 216, 175, 3, 250, 153, 155, 105, 216, 77, 253, 211,
                                             83, 94, 97, 177, 88, 233, 193, 168, 48, 47, 124, 17, 16, 0, 250, 109,
                                             13, 77, 229, 200, 223] ++ List.replicate 2888 0) }
       let o : RecoveryOp := { addr := 0x4000, len := 3064 }
       let readOk : Bool := false
       let got := readOk = true ∧ s.host.attached = true ∧ ∀ p ∈ pieces o.addr o.len,
           tblGet false s.hostPoison (p.1 / 64) = false
       s.boot.recovery = some o
       ∧ s.busOn = true
       ∧ ¬ got)
    ∧ (let s : State := { State.reset with host := { attached := true }, regs := [(hubKey 0x20, 0x4000)],
                                           boot := { stage := .recovery,
                                                     recovery := some { addr := 0x4000, len := 3064 } },
                                           hostMem := memPut [] 0x4000 ([90, 70, 77, 87, 1, 0, 1, 0, 16, 0, 0, 0, 2,
                                             0, 0, 0, 0, 0, 0, 0, 0, 0, 0, 0, 0, 0, 0, 0, 0, 0, 0, 0, 0, 0, 0, 0, 0,
                                             0, 0, 0, 0, 0, 0, 0, 0, 0, 0, 0, 0, 0, 0, 0, 0, 0, 0, 0, 0, 0, 0, 0, 0,
                                             0, 0, 0, 0, 0, 0, 0, 0, 0, 0, 0, 8, 0, 0, 0, 0, 0, 0, 0, 1, 0, 0, 0, 8,
                                             0, 0, 0, 8, 0, 0, 0, 0, 0, 0, 0, 0, 0, 0, 0, 0, 0, 0, 0, 0, 0, 0, 0, 0,
                                             0, 0, 0, 83, 137, 28, 118, 191, 65, 209, 100, 166, 226, 27, 27, 155,
                                             218, 58, 51, 31, 109, 101, 179, 71, 145, 196, 224, 87, 156, 230, 54,
                                             84, 243, 87, 166, 216, 175, 3, 250, 153, 155, 105, 216, 77, 253, 211,
                                             83, 94, 97, 177, 88, 233, 193, 168, 48, 47, 124, 17, 16, 0, 250, 109,
                                             13, 77, 229, 200, 223] ++ List.replicate 2888 0) }
       let o : RecoveryOp := { addr := 0x4000, len := 3064 }
       let readOk : Bool := true
       let got := readOk = true ∧ s.host.attached = true ∧ ∀ p ∈ pieces o.addr o.len,
           tblGet false s.hostPoison (p.1 / 64) = false
       s.boot.recovery = some o
       ∧ s.busOn = true
       ∧ got)
    ∧ (let s : State := { up with vault := { minSvn := 3, nextLeaf := 5, reserved := 16 },
                                  nvm := { ownerCount := 3, bootCount := 4, logReserved := 64 }, mem := [(1, 1)],
                                  poison := [(5, true)], ponds := [(0, {})], harts := [(0, {})], health := [(5,
                                    { st := .retired })], time := 1000, log := { next := 9 }, regs := [(hubKey 0x58,
                                    0xFFFFFFFF00000000), (hubKey 0x68, 7)], basinMem := [(0,
                                    { selfRefresh := true })] }
       s.boot.powered = true
       ∧ s.power.rideThrough = false)
    ∧ (let s : State := { up with vault := { minSvn := 3, nextLeaf := 5, reserved := 16 },
                                  nvm := { ownerCount := 3, bootCount := 4, logReserved := 64 }, mem := [(1, 1)],
                                  poison := [(5, true)], ponds := [(0, {})], harts := [(0, {})], health := [(5,
                                    { st := .retired })], time := 10000041, log := { next := 9 },
                                  regs := [(hubKey 0x58, 0xFFFFFFFF00000000), (hubKey 0x68, 7)], basinMem := [(0,
                                    { selfRefresh := true })], power := { rideThrough := true, rideFrom := 40 } }
       s.power.rideThrough = true
       ∧ s.power.rideFrom + 10000000 < s.time)
    ∧ (let s : State := { up with vault := { minSvn := 3, nextLeaf := 5, reserved := 16 },
                                  nvm := { ownerCount := 3, bootCount := 4, logReserved := 64 }, mem := [(1, 1)],
                                  poison := [(5, true)], ponds := [(0, {})], harts := [(0, {})], health := [(5,
                                    { st := .retired })], time := 10000040, log := { next := 9 },
                                  regs := [(hubKey 0x58, 0xFFFFFFFF00000000), (hubKey 0x68, 7)], basinMem := [(0,
                                    { selfRefresh := true })], power := { rideThrough := true, rideFrom := 40 } }
       s.power.rideThrough = true
       ∧ s.time ≤ s.power.rideFrom + 10000000)
    ∧ (let s : State := { up with vault := { minSvn := 3, nextLeaf := 5, reserved := 16 },
                                  nvm := { ownerCount := 3, bootCount := 4, logReserved := 64 }, mem := [(1, 1)],
                                  poison := [(5, true)], ponds := [(0, {})], harts := [(0, {})], health := [(5,
                                    { st := .retired })], time := 1000, log := { next := 9 }, regs := [(hubKey 0x58,
                                    0xFFFFFFFF00000000), (hubKey 0x68, 7)], basinMem := [(0,
                                    { selfRefresh := true })] }
       let die : Nat := 0
       die < 27
       ∧ s.boot.powered = true)
    ∧ (let s : State := { up with vault := { minSvn := 3, nextLeaf := 5, reserved := 16 },
                                  nvm := { ownerCount := 3, bootCount := 4, logReserved := 64 }, mem := [(1, 1)],
                                  poison := [(5, true)], ponds := [(0, {})], harts := [(0, {})], health := [(5,
                                    { st := .retired })], time := 1000, log := { next := 9 }, regs := [(hubKey 0x58,
                                    0xFFFFFFFF00000000), (hubKey 0x68, 7)], basinMem := [(0,
                                    { selfRefresh := true })] }
       s.canFailover = true)
    ∧ (let s : State := { up with vault := { minSvn := 3, nextLeaf := 5, reserved := 16 },
                                  nvm := { ownerCount := 3, bootCount := 4, logReserved := 64 }, mem := [(1, 1)],
                                  poison := [(5, true)], ponds := [(0, {})], harts := [(0, {})], health := [(5,
                                    { st := .retired })], time := 1000, log := { next := 9, writer := 1 },
                                  regs := [(hubKey 0x58, 0xFFFFFFFF00000000), (hubKey 0x68, 7)], basinMem := [(0,
                                    { selfRefresh := true })] }
       s.canFailover = false) := by
  and_intros
  all_goals first
    | decide +kernel
    | simp only [RouteOff] <;> decide +kernel

/-- States and operands that meet the premises of each clause of VersionFloor. -/
theorem test_VersionFloor :
    (let s : State := { up with sec := { fwSvn := 5 }, vault := { minSvn := 4 } }
     let v : Word := 1
     v.field 1 63 = 0
     ∧ s.hubWrites = true
     ∧ v.flag 0 = true
     ∧ s.vault.minSvn < s.sec.fwSvn)
    ∧ (let s : State := { up with sec := { fwSvn := 5 }, vault := { minSvn := 5 } }
       let v : Word := 1
       v.field 1 63 = 0
       ∧ (s.hubWrites = false ∨ v.flag 0 = false ∨ s.sec.fwSvn ≤ s.vault.minSvn)) := by
  and_intros <;> decide +kernel

end Sys2Proof.Tests
end

section
/-!
PROOFS. Registers without a behaviour of their own (R7 to R9): what an access does to each bit, where it is undefined, and
what registers without storage read as (R13, R20, R545).
-/
namespace Sys2Proof.Proofs

open Sys2Proof Sys2Proof.Machine Sys2Proof.Safety Sys2Proof.Laws

/-! What an access does to each bit. -/

/-- Every bit of `new` is what an access by the access codes of `sp` makes of it in `old` (R8, R9). -/
def ActsByCode (sp : RegSpec) (locked : Bool) (a : Access) (v : Word) (old new : Word) : Prop := ∀ i < 64, new.flag i =
  (((if (bit sp.rw i || (bit sp.rwl i && !locked)) && bit (accessMask a) i then bit (accessPlace a v) i else old.flag i)
    && !(bit (accessPlace a v) i && bit sp.w1c i)) || (bit (accessPlace a v) i && bit sp.w1s i))

theorem flag_ofNat (n : Nat) {i : Nat} (h : i < 64) : Word.flag (BitVec.ofNat 64 n) i = n.testBit i := by
  rw [Word.flag, BitVec.toNat_ofNat, Nat.testBit_mod_two_pow, decide_eq_true h, Bool.true_and]

theorem testBit_all64 {i : Nat} (h : i < 64) : Nat.testBit 0xFFFFFFFFFFFFFFFF i = true := by
  rw [show 0xFFFFFFFFFFFFFFFF = 2 ^ 64 - 1 from rfl, Nat.testBit_two_pow_sub_one]
  simpa using h

theorem testBit_compl64 (n : Nat) {i : Nat} (h : i < 64) : (0xFFFFFFFFFFFFFFFF ^^^ n).testBit i = !n.testBit i := by
  rw [Nat.testBit_xor, testBit_all64 h, Bool.true_xor]

theorem testBit_ite_zero (b : Bool) (n i : Nat) : (if b then 0 else n).testBit i = (n.testBit i && !b) := by
  cases b <;> simp

/-- The plain write of a register does to each bit what its access code says. -/
theorem apply_actsByCode (sp : RegSpec) (locked : Bool) (old : Word) (a : Access) (v : Word) :
    ActsByCode sp locked a v old (sp.apply locked old a v) := by
  intro i hi
  have hold : old.toNat.testBit i = old.flag i := rfl
  have hbit (n : Nat) : n.testBit i = bit n i := rfl
  unfold RegSpec.apply
  rw [flag_ofNat _ hi]
  simp only [Nat.testBit_or, Nat.testBit_and, testBit_compl64 _ hi, testBit_ite_zero, hold]
  simp only [hbit]
  generalize ((bit sp.rw i || (bit sp.rwl i && !locked)) && bit (accessMask a) i) = stored
  cases stored <;> simp

/-- The data of an accepted access lies in the bits that it covers. -/
theorem bit_accessMask_of_place {a : Access} (ha : a ≠ .other) {v : Word} {i : Nat} (hi : i < 64)
    (h : bit (accessPlace a v) i = true) : bit (accessMask a) i = true := by
  unfold bit at h ⊢
  cases a with
  | whole => exact testBit_all64 hi
  | low =>
    rw [accessPlace, Word.field, testBit_bits] at h
    rw [accessMask, show 0xFFFFFFFF = 2 ^ 32 - 1 from rfl, Nat.testBit_two_pow_sub_one]
    exact (Bool.and_eq_true_iff.mp h).1
  | high =>
    rw [accessPlace, Nat.testBit_mul_two_pow] at h
    rw [accessMask, show 0xFFFFFFFF00000000 = (2 ^ 32 - 1) * 2 ^ 32 from rfl, Nat.testBit_mul_two_pow,
      Nat.testBit_two_pow_sub_one]
    have hge := (Bool.and_eq_true_iff.mp h).1
    simp only [decide_eq_true_eq] at hge
    simp; omega
  | other => exact absurd rfl ha

/-- Where an access covers no bit that can be written, no bit changes. -/
theorem actsByCode_of_readOnly {sp : RegSpec} {a : Access} (h : sp.writable &&& accessMask a = 0) (ha : a ≠ .other)
    (locked : Bool) (v old : Word) : ActsByCode sp locked a v old old := by
  intro i hi
  have hw : (sp.writable.testBit i && (accessMask a).testBit i) = false := by
    rw [← Nat.testBit_and, h, Nat.zero_testBit]
  have hp := bit_accessMask_of_place ha (v := v) hi
  simp only [RegSpec.writable, Nat.testBit_or, bit] at hw hp ⊢
  by_cases hm : (accessMask a).testBit i = true
  · simp only [hm, Bool.and_true, Bool.or_eq_false_iff] at hw
    simp [hw]
  · have hx : (accessPlace a v).testBit i = false := Bool.eq_false_iff.mpr fun hx => hm (hp hx)
    simp [hm, hx]

/-! A write to the stored register `k` that has no behaviour of its own. -/

/-- What such a write leaves. -/
def plainStore (s : State) (k : Nat) (sp : RegSpec) (locked : Bool) (a : Access) (v : Word) : State :=
  if sp.writable &&& accessMask a = 0 then s else s.setReg k (sp.apply locked (s.reg k) a v)

theorem plainStore_eq (s : State) (k : Nat) (sp : RegSpec) (locked : Bool) (a : Access) (v : Word) :
    ∃ w, plainStore s k sp locked a v = { s with regs := w } := by
  unfold plainStore; split <;> exact ⟨_, rfl⟩

theorem plainStore_misuse (s : State) (k : Nat) (sp : RegSpec) (locked : Bool) (a : Access) (v : Word) :
    (plainStore s k sp locked a v).misuse = s.misuse := by
  obtain ⟨w, hw⟩ := plainStore_eq s k sp locked a v
  rw [hw]

theorem plainStore_actsByCode (s : State) (k : Nat) (sp : RegSpec) (locked : Bool) {a : Access} (ha : a ≠ .other) (v : Word) :
    ActsByCode sp locked a v (s.reg k) ((plainStore s k sp locked a v).reg k) := by
  unfold plainStore
  split
  next h => exact actsByCode_of_readOnly h ha locked v _
  next => rw [reg_setReg_self]; exact apply_actsByCode sp locked _ a v

theorem plainStore_reg_ne (s : State) (sp : RegSpec) (locked : Bool) (a : Access) (v : Word) {k j : Nat} (h : j ≠ k) :
    (plainStore s k sp locked a v).reg j = s.reg j := by
  unfold plainStore
  split
  · rfl
  · exact reg_setReg_ne s _ h

theorem plainStore_frame (s : State) (k : Nat) (sp : RegSpec) (locked : Bool) (a : Access) (v : Word) :
    { (((plainStore s.clean k sp locked a v).keeping s).setVault s.vault) with regs := s.regs } = s := by
  obtain ⟨w, hw⟩ := plainStore_eq s.clean k sp locked a v
  rw [hw]
  rfl

/-! REGISTER_WRITE. -/

theorem exec_registerWrite (s : State) (via : Via) (fn : RegFn) (off : Nat) (a : Access) (v : Word) :
    exec (.registerWrite via fn off a v) s
      = runVaultU (fun s => s.registerVault via fn off a v) (fun s => s.registerWrite via fn off a v) s := rfl

theorem exec_registerWrite_of_none {s : State} {via : Via} {fn : RegFn} {off : Nat} {a : Access} {v : Word}
    (h : (s.clean.registerWrite via fn off a v).misuse = none) :
    exec (.registerWrite via fn off a v) s
      = .next (((s.clean.registerWrite via fn off a v).keeping s).setVault (s.registerVault via fn off a v)) := by
  simp [exec_registerWrite, runVaultU, h]

theorem exec_registerWrite_of_some {s : State} {via : Via} {fn : RegFn} {off : Nat} {a : Access} {v : Word} {c : Undefined}
    {k : Scope} (h : (s.clean.registerWrite via fn off a v).misuse = some (c, k)) :
    exec (.registerWrite via fn off a v) s = .fault (.undefinedCase c k) := by
  simp [exec_registerWrite, runVaultU, h]

theorem registerVault_line (s : State) (via : Via) (n : LineId) (off : Nat) (a : Access) (v : Word) :
    s.registerVault via (.line n) off a v = s.vault := by
  simp [State.registerVault]

theorem registerVault_of_ne {s : State} {via : Via} {fn : RegFn} {off : Nat} (a : Access) (v : Word)
    (h : via ≠ .pf0 ∨ off ≠ 0x02000008) : s.registerVault via fn off a v = s.vault := by
  unfold State.registerVault
  rw [if_neg]
  rintro ⟨hv, -, ho, -⟩
  exact h.elim (· hv) (· ho)

/-- A write that leaves the state as it is. -/
theorem gives_same_of_noop {s : State} {via : Via} {fn : RegFn} {off : Nat} {a : Access} {v : Word}
    (h : s.clean.registerWrite via fn off a v = s.clean) (hv : s.registerVault via fn off a v = s.vault) :
    Gives (.registerWrite via fn off a v) s fun t => t = s := by
  refine ⟨_, exec_registerWrite_of_none (by rw [h]; rfl), ?_⟩
  rw [h, hv]
  rfl

/-- A write that is the plain write of the stored register `k`. -/
theorem gives_of_plainStore {s : State} {via : Via} {fn : RegFn} {off k : Nat} {a : Access} {v : Word} {sp : RegSpec}
    {locked : Bool} (ha : a ≠ .other) (h : s.clean.registerWrite via fn off a v = plainStore s.clean k sp locked a v)
    (hv : s.registerVault via fn off a v = s.vault) :
    Gives (.registerWrite via fn off a v) s fun t =>
      ActsByCode sp locked a v (s.reg k) (t.reg k) ∧ OnlyReg s t k (t.reg k) := by
  refine ⟨_, exec_registerWrite_of_none (by rw [h, plainStore_misuse]; rfl), ?_⟩
  rw [h, hv]
  exact ⟨plainStore_actsByCode s.clean k sp locked ha v, rfl,
    fun j hj => plainStore_reg_ne s.clean sp locked a v hj, plainStore_frame s k sp locked a v⟩

/-! Registers of a Line. -/

/-- The registers whose plain write does something more than R8 says: an error register that clears MORE with VALID, and
a table size. -/
def plainExtras : List (LnBlk × Nat) := [(.lead, 0x410), (.lead, 0x708), (.cfl, 0x10), (.xlat, 0), (.cfl, 0)]

theorem writePlain_of_noExtra (s : State) (l : Nat) {r : RegAt} (h : (r.blk, r.off) ∉ plainExtras) (sp : RegSpec)
    (a : Access) (v : Word) :
    s.writePlain l r sp a v = s.setReg r.key (sp.apply (s.line l).locked (s.reg r.key) a v) := by
  unfold State.writePlain
  have no {b : LnBlk} {o : Nat} (hb : r.blk = b) (ho : r.off = o) : (b, o) ∉ plainExtras := by rw [← hb, ← ho]; exact h
  split
  next hb ho => exact (no hb ho (by simp [plainExtras])).elim
  next hb ho => exact (no hb ho (by simp [plainExtras])).elim
  next hb ho => exact (no hb ho (by simp [plainExtras])).elim
  next hb ho => exact (no hb ho (by simp [plainExtras])).elim
  next hb ho => exact (no hb ho (by simp [plainExtras])).elim
  next => rfl

/-- A plain write keeps a case that was noted before it. -/
theorem writePlain_misuse_of_some {s : State} {d : Undefined × Scope} (h : s.misuse = some d) (l : Nat) (r : RegAt)
    (sp : RegSpec) (a : Access) (v : Word) : (s.writePlain l r sp a v).misuse = some d := by
  have keeps (t : State) (b : Bool) (c : Undefined) (ht : t.misuse = some d) : (t.undefIf b c).misuse = some d := by
    cases b <;> simp [State.undef, State.undefAt, ht]
  have kept (t : State) (b : Bool) (f : State → State) (ht : t.misuse = some d) (hf : (f t).misuse = some d) :
      (t.when b f).misuse = some d := by
    cases b <;> simp [ht, hf]
  have stored (k : Nat) (w : Word) : (s.setReg k w).misuse = some d := by rw [setReg_misuse, h]
  have cleared (k : Nat) (w : Word) (i : Nat) : ((s.setReg k w).setFlag k i false).misuse = some d := by
    rw [setFlag_misuse, stored]
  unfold State.writePlain
  split
  · exact kept _ _ _ (stored _ _) (cleared _ _ _)
  · exact kept _ _ _ (stored _ _) (cleared _ _ _)
  · exact kept _ _ _ (stored _ _) (cleared _ _ _)
  · exact keeps _ _ _ (stored _ _)
  · exact keeps _ _ _ (stored _ _)
  · exact stored _ _

/-- An accepted write to a register that neither wakes the Line nor starts work, once its reserved bits are judged. -/
theorem writeReg_of_quiet (s : State) (l : Nat) {r : RegAt} {sp : RegSpec} {a : Access} (hb : sp.badAccess a = false)
    (hw : r.wakes = false) (hg : r.goBit = none) (v : Word) :
    s.writeReg l r sp a v =
      let t := s.undefIf (accessPlace a v &&& sp.rsv != 0) .reservedWrite
      if sp.writable &&& accessMask a = 0 then t
      else (t.writeOwn l r (sp.compose (s.readReg false l r) a v)).getD (t.writePlain l r sp a v) := by
  unfold State.writeReg
  rw [hb, hw, hg]
  rfl

/-- Where a path may write, an aligned and accepted access reaches the register at its offset. -/
theorem mmioWrite_of_regAt {s : State} {via : Via} {l off : Nat} {a : Access} (hl : s.lnWrites via l = true)
    (h8 : off % 8 = 0) (h1 : off ≠ 0x100) (h2 : off ≠ 0x118) (ha : a ≠ .other) {r : RegAt} {sp : RegSpec}
    (hr : s.regAt l off = some (r, sp)) (v : Word) : s.mmioWrite via l off a v = s.writeReg l r sp a v := by
  simp [State.mmioWrite, h8, h1, h2, ha, hl, hr]

/-- Where a path may not write, an aligned and accepted access changes nothing. -/
theorem mmioWrite_of_no_path {s : State} {via : Via} {l off : Nat} {a : Access} (hl : s.lnWrites via l = false)
    (h8 : off % 8 = 0) (h1 : off ≠ 0x100) (h2 : off ≠ 0x118) (ha : a ≠ .other) (v : Word) :
    s.mmioWrite via l off a v = s := by
  simp [State.mmioWrite, h8, h1, h2, ha, hl]

/-- An accepted access with 0 in the reserved bits is the plain write of the register. -/
theorem registerWrite_line_plain {s : State} {via : Via} {l : LineId} {off : Nat} {a : Access} {v : Word} {r : RegAt}
    {sp : RegSpec} (hl : s.lnWrites via l = true) (h8 : off % 8 = 0) (h1 : off ≠ 0x100) (h2 : off ≠ 0x118)
    (hr : s.regAt l off = some (r, sp)) (ha : a ≠ .other) (hb : sp.badAccess a = false)
    (hrsv : accessPlace a v &&& sp.rsv = 0) (hown : ∀ w, s.clean.writeOwn l r w = none) (hw : r.wakes = false)
    (hg : r.goBit = none) (hx : (r.blk, r.off) ∉ plainExtras) :
    s.clean.registerWrite via (.line l) off a v = plainStore s.clean r.key sp (s.line l).locked a v := by
  have hmmio : s.clean.mmioWrite via l off a v = plainStore s.clean r.key sp (s.line l).locked a v := by
    rw [mmioWrite_of_regAt (s := s.clean) hl h8 h1 h2 ha hr, writeReg_of_quiet s.clean l hb hw hg]
    simp only [hrsv, bne_self_eq_false, undefIf_false, hown, Option.getD_none, writePlain_of_noExtra _ _ hx]
    rfl
  show (s.clean.mmioWrite via l off a v).noted via = _
  rw [hmmio]
  exact noted_of_none _ via (plainStore_misuse ..)

/-- An accepted access with a 1 in a reserved bit notes the case of R557. -/
theorem registerWrite_line_reserved {s : State} {via : Via} {l : LineId} {off : Nat} {a : Access} {v : Word} {r : RegAt}
    {sp : RegSpec} (hl : s.lnWrites via l = true) (h8 : off % 8 = 0) (h1 : off ≠ 0x100) (h2 : off ≠ 0x118)
    (hr : s.regAt l off = some (r, sp)) (ha : a ≠ .other) (hb : sp.badAccess a = false)
    (hrsv : accessPlace a v &&& sp.rsv ≠ 0) (hw : r.wakes = false) (hg : r.goBit = none)
    (hown : ∀ w, (s.clean.undef .reservedWrite).writeOwn l r w = none) :
    (s.clean.mmioWrite via l off a v).misuse = some (.reservedWrite, .line) := by
  have hnote : (s.clean.undef .reservedWrite).misuse = some (.reservedWrite, .line) := undef_of_none _ rfl
  have hne : (accessPlace a v &&& sp.rsv != 0) = true := bne_iff_ne.mpr hrsv
  rw [mmioWrite_of_regAt (s := s.clean) hl h8 h1 h2 ha hr, writeReg_of_quiet s.clean l hb hw hg]
  simp only [hne, undefIf_true, hown, Option.getD_none]
  split
  · exact hnote
  · exact writePlain_misuse_of_some hnote l r sp a v

/-- The scope of the cases of register accesses by path (R557). -/
theorem noted_misuse_of_register {t : State} {c : Undefined} (hc : c = .registerAccess ∨ c = .reservedWrite)
    (h : t.misuse = some (c, .line)) (via : Via) :
    (t.noted via).misuse = some (c, if via = .pf0 then .module else .line) := by
  unfold State.noted State.atPf0
  rcases hc with rfl | rfl <;> split <;> simp [h, pf0Case]

/-! Registers of PF0. -/

/-- SEC_CTL, the register that can change the vault, has a behaviour of its own (R476). -/
theorem writeHubOwn_secCtl (s : State) {r : HubBlk × Nat × Nat} {sp : RegSpec} (h : hubRegAt 0x02000008 = some (r, sp))
    (w : Word) : s.writeHubOwn r w ≠ none := by
  have hr : r = (.sec, 0, 8) := by
    have e : hubRegAt 0x02000008 = some ((.sec, 0, 8), { rsv := 0xFFFFFFFFFFFFFFFE, wo := 0x1 }) := by decide
    exact (Prod.mk.inj (Option.some.inj (h.symm.trans e))).1
  rw [hr]
  exact Option.some_ne_none _

/-- An accepted access through PF0 with 0 in the reserved bits is the plain write of the register, which has no lock. -/
theorem registerWrite_hub_plain {s : State} {off : Nat} {a : Access} {v : Word} {r : HubBlk × Nat × Nat} {sp : RegSpec}
    (hs : s.hubServes off = true) (h8 : off % 8 = 0) (ha : a ≠ .other) (hr : hubRegAt off = some (r, sp))
    (hb : sp.badAccess a = false) (hrsv : accessPlace a v &&& sp.rsv = 0) (hown : ∀ w, s.clean.writeHubOwn r w = none) :
    s.clean.registerWrite .pf0 .hub off a v = plainStore s.clean (hubKey off) sp false a v := by
  have hdiv : off / 8 * 8 = off := by omega
  have hs' : s.clean.hubServes off = true := hs
  have hmmio : s.clean.hubMmioWrite .pf0 off a v = plainStore s.clean (hubKey off) sp false a v := by
    simp only [State.hubMmioWrite, State.writeHubReg, hdiv, hs', h8, ha, hr, hb, hrsv, hown, bne_self_eq_false, undefIf_false,
      Option.getD_none]
    rfl
  show (s.clean.hubMmioWrite .pf0 off a v).noted .pf0 = _
  rw [hmmio]
  exact noted_of_none _ .pf0 (plainStore_misuse ..)

/-! What registers without storage read as. -/

/-- A function that leads no Line, and an offset without register, read 0 (R13, R20). -/
theorem readLine_of_no_register {s : State} {l off : Nat} (tenant : Bool) (ho : off ∉ [0x108, 0x118, 0x120, 0x130])
    (h : s.isLeader l = false ∨ s.regAt l off = none) : s.readLine tenant l off = 0 := by
  unfold State.readLine
  split
  next => exact absurd (by simp) ho
  next => exact absurd (by simp) ho
  next => exact absurd (by simp) ho
  next => exact absurd (by simp) ho
  next => rcases h with h | h <;> simp [h]

/-- HUB_TIME reads device time in every stage of boot (R513, R545). -/
theorem readHub_time (s : State) : s.readHub 0x60 = BitVec.ofNat 64 s.time := by
  have hr : hubRegAt 0x60 = some ((.hub, 0, 0x60), {}) := by decide
  simp [State.readHub, hubServedStopped, hr, State.readHubReg]

/-- HUB_BOOT_STATUS reads the boot state in every stage of boot (R545). -/
theorem readHub_bootStatus (s : State) : s.readHub 0x10 = s.bootStatus := by
  have hr : hubRegAt 0x10 = some ((.hub, 0, 0x10), { rsv := 0xFF0000F0 }) := by decide
  simp [State.readHub, hubServedStopped, hr, State.readHubReg]

/-- In HALTED every hub register but those of R545 reads 0. -/
theorem readHub_of_halted {s : State} {off : Nat} (h : s.boot.stage = .halted)
    (ho : off ∉ [0x00, 0x10, 0x18, 0x40, 0x60]) : s.readHub off = 0 := by
  have hs : hubServedStopped (Stage.halted == .recovery) off = false := by
    simpa [hubServedStopped] using ho
  simp [State.readHub, h, hs, Stage.stopped]

theorem code_lt (st : LnState) : st.code < 8 := by cases st <;> decide

/-- LN_STATUS.STATE of a leader outside APPLYING is the code of its Line's state (R26). -/
theorem lnStatus_state {s : State} {l : LineId} (hl : s.isLeader l = true) (ha : bit s.applyingMask l = false) :
    (s.lnStatus l).field 0 3 = (s.line l).st.code := by
  have hlead : s.leaderOf l = l := eq_of_beq hl
  have hne : ¬ (l : Nat) = 8 := by omega
  have hcode := code_lt (s.line l).st
  unfold State.lnStatus
  rw [hlead]
  simp only [hne, if_false, if_true, ha, Bool.false_eq_true, Word.field, bits_eq, BitVec.toNat_ofNat]
  generalize (s.line l).st.code = c at *
  omega

/-- Settles O19: an accepted write is the plain write of its register, which acts on each bit by its access code. -/
theorem registers : Obligations.Registers := by
  unfold Obligations.Registers
  intro s via l off a v x after sc own
  refine ⟨fun hl h8 h1 h2 r sp hr => ⟨?plain, ?reserved, ?width⟩, ?hub, ?noPath, ?agent, ?reads⟩
  case plain =>
    intro ha hb hrsv hown hw hg hx
    exact gives_of_plainStore ha (registerWrite_line_plain hl h8 h1 h2 hr ha hb hrsv hown hw hg hx)
      (registerVault_line ..)
  case reserved =>
    intro ha hb hrsv hw hg hown
    exact exec_registerWrite_of_some (noted_misuse_of_register (.inr rfl)
      (registerWrite_line_reserved hl h8 h1 h2 hr ha hb hrsv hw hg hown) via)
  case width =>
    rintro rfl
    refine exec_registerWrite_of_some (noted_misuse_of_register (.inl rfl) ?_ via)
    have hl' : s.clean.lnWrites via l = true := hl
    rw [State.mmioWrite, if_pos (.inr rfl), hl']
    exact undef_of_none _ rfl
  case hub =>
    intro hs h8 _ ha r sp hr hb hrsv hown
    refine gives_of_plainStore ha (registerWrite_hub_plain hs h8 ha hr hb hrsv hown) (registerVault_of_ne a v (.inr ?_))
    rintro rfl
    exact writeHubOwn_secCtl s.clean hr 0 (hown 0)
  case noPath =>
    intro hl h8 h1 h2 ha
    refine gives_same_of_noop ?_ (registerVault_line ..)
    show (s.clean.mmioWrite via l off a v).noted via = _
    rw [mmioWrite_of_no_path (s := s.clean) hl h8 h1 h2 ha, noted_of_none _ via rfl]
  case agent =>
    intro hv
    refine gives_same_of_noop ?_ (registerVault_of_ne a v (.inl hv))
    show (s.clean.hubMmioWrite via off a v).noted via = _
    rw [State.hubMmioWrite, if_pos (by simp [hv]), noted_of_none _ via rfl]
  case reads =>
    intro tenant
    exact ⟨readLine_of_no_register tenant, readHub_time s, readHub_bootStatus s, readHub_of_halted, lnStatus_state⟩

end Sys2Proof.Proofs
end

section
/-!
PROOFS. Lines starting, stopping and being reset (R9, R24 to R32): what reports of a Line's state, the exit from sleep, the
flush of empty queues and Line reset leave unchanged, and what they do to the Line's record.
-/
namespace Sys2Proof.Proofs

open Sys2Proof Sys2Proof.Machine Sys2Proof.Safety Sys2Proof.Laws

/-! Folds over units. -/

/-- What every step of a fold keeps, the fold keeps. -/
theorem foldl_keeps {α β : Type} (p : State → α) {f : State → β → State} (hf : ∀ t x, p (f t x) = p t) (l : List β)
    (s : State) : p (l.foldl f s) = p s :=
  List.foldlRecOn l f (motive := fun t => p t = p s) rfl fun t h x _ => (hf t x).trans h

theorem each_keeps {α : Type} (p : State → α) {f : State → Nat → State} (hf : ∀ t x, p (f t x) = p t) (l : List Nat)
    (s : State) : p (s.each l f) = p s := foldl_keeps p hf l s

/-- What a step brings about for its own unit and keeps for every other holds of every unit at the end. -/
theorem each_establishes {P : State → Nat → Prop} {f : State → Nat → State} (here : ∀ t x, P (f t x) x)
    (kept : ∀ t x y, P t y → P (f t x) y) {l : List Nat} (s : State) {y : Nat} (hy : y ∈ l) : P (s.each l f) y := by
  induction l generalizing s with
  | nil => exact absurd hy List.not_mem_nil
  | cons x r ih =>
    rcases List.mem_cons.mp hy with rfl | hr
    · exact List.foldlRecOn r f (motive := fun t => P t y) (here s y) fun t h z _ => kept t z y h
    · exact ih (f s x) hr

/-! What reports write: the Logbook, messages, platform events and the counts of vectors. -/

/-- The state without what reports write. -/
def unreported (s : State) : State :=
  { s with out := [], log := {}, nvm := {}, pldm := {}, host := { s.host with signals := 0, vectors := [] } }

theorem unreported_attend (s : State) : unreported s.attend = unreported s := by
  unfold State.attend; split <;> rfl

theorem unreported_mctpSend (s : State) (binding type : Nat) (body : List Byte) :
    unreported (s.mctpSend binding type body) = unreported s := by
  unfold State.mctpSend
  extract_lets t
  split
  · exact unreported_attend t
  · rfl

theorem unreported_sendEvent (s : State) (binding : Nat) (e : PldmEvent) :
    unreported (s.sendEvent binding e) = unreported s :=
  unreported_mctpSend { s with pldm := { s.pldm with lost := 0 } } _ _ _

theorem unreported_platformEvent (s : State) (e : PldmEvent) : unreported (s.platformEvent e) = unreported s := by
  unfold State.platformEvent
  split
  · rfl
  · split
    · exact unreported_attend _
    · split
      · exact foldl_keeps unreported (fun t x => unreported_sendEvent t _ x) _ { s with pldm := { s.pldm with events := [] } }
      · rfl

theorem unreported_logEvent (s : State) (code src lines a0 a1 a2 : Nat) :
    unreported (s.logEvent code src lines a0 a1 a2) = unreported s := by
  unfold State.logEvent
  split
  · rfl
  · extract_lets e t
    split
    · exact unreported_platformEvent t _
    · rfl

theorem unreported_signal (s : State) (fn vector : Nat) : unreported (s.signal fn vector) = unreported s := by
  unfold State.signal; split <;> rfl

theorem unreported_signalState (s : State) (n : Nat) : unreported (s.signalState n) = unreported s :=
  (unreported_signal _ 0 1).trans (unreported_signal s _ 0)

/-! A Line enters a state (R29, R324, R529). -/

theorem modLine_congr {s : State} {l : Nat} {f g : Line → Line} (h : f (s.line l) = g (s.line l)) :
    s.modLine l f = s.modLine l g :=
  congrArg (fun ln => ({ s with lines := tblSet {} s.lines l ln } : State)) h

/-- The record of a Line after it has entered `st`. -/
def Line.entered (st : LnState) (ln : Line) : Line :=
  if ln.st = st then ln
  else { ln with st := st, sleep := 0, idle := false, idleFrom := none, sleepFrom := none, waking := false }

@[simp] theorem Line.entered_st (st : LnState) (ln : Line) : (Line.entered st ln).st = st := by
  unfold Line.entered; split <;> simp [*]

@[simp] theorem Line.entered_cause (st : LnState) (ln : Line) : (Line.entered st ln).cause = ln.cause := by
  unfold Line.entered; split <;> rfl

@[simp] theorem Line.entered_locked (st : LnState) (ln : Line) : (Line.entered st ln).locked = ln.locked := by
  unfold Line.entered; split <;> rfl

@[simp] theorem Line.entered_survive (st : LnState) (ln : Line) : (Line.entered st ln).survive = ln.survive := by
  unfold Line.entered; split <;> rfl

@[simp] theorem Line.entered_ended (st : LnState) (ln : Line) : (Line.entered st ln).ended = ln.ended := by
  unfold Line.entered; split <;> rfl

/-- The state without the records of Lines and what reports write. -/
def offLines (s : State) : State := { unreported s with lines := [] }

/-- Entering a state where the Line is not in it already: the record, and reports. -/
theorem unreported_enterLineState_of_ne {s : State} {l : Nat} {st : LnState} (h : (s.line l).st ≠ st) :
    unreported (s.enterLineState l st) = unreported (s.modLine l (Line.entered st)) := by
  have hset : s.modLine l (Line.entered st) = s.modLine l fun ln =>
      { ln with st := st, sleep := 0, idle := false, idleFrom := none, sleepFrom := none, waking := false } :=
    modLine_congr (if_neg h)
  unfold State.enterLineState State.setLineState
  rw [if_neg h, if_neg h, hset]
  exact (unreported_signalState _ l).trans (unreported_logEvent _ _ _ _ _ _ _)

/-- Entering a state changes nothing but records of Lines and reports. -/
theorem offLines_enterLineState (s : State) (l : Nat) (st : LnState) : offLines (s.enterLineState l st) = offLines s := by
  by_cases h : (s.line l).st = st
  · rw [State.enterLineState, if_pos h]
  · have e := congrArg (fun t => ({ t with lines := [] } : State)) (unreported_enterLineState_of_ne h)
    exact e

@[simp] theorem line_enterLineState_self (s : State) (l : Nat) (st : LnState) :
    (s.enterLineState l st).line l = Line.entered st (s.line l) := by
  by_cases h : (s.line l).st = st
  · rw [State.enterLineState, if_pos h, Line.entered, if_pos h]
  · have e := congrArg (fun t => State.line t l) (unreported_enterLineState_of_ne h)
    exact e.trans (line_modLine_self s l _)

theorem line_enterLineState_ne (s : State) {l k : Nat} (st : LnState) (hk : k ≠ l) :
    (s.enterLineState l st).line k = s.line k := by
  by_cases h : (s.line l).st = st
  · rw [State.enterLineState, if_pos h]
  · have e := congrArg (fun t => State.line t k) (unreported_enterLineState_of_ne h)
    exact e.trans (line_modLine_ne s _ hk)

/-! The exit from sleep (R499, R500). -/

/-- The state without the records of Lines, the memory and power records of basins, and what reports write. -/
def calm (s : State) : State := { offLines s with basinMem := [], basinPower := [] }

theorem calm_of_offLines {s t : State} (h : offLines t = offLines s) : calm t = calm s :=
  congrArg (fun x => ({ x with basinMem := [], basinPower := [] } : State)) h

/-- What depends on none of these is the same in states that differ in them alone. -/
theorem keeps_of_calm {α : Type} {s t : State} (h : calm t = calm s) (p : State → α) (hp : ∀ x, p (calm x) = p x) :
    p t = p s := (hp t).symm.trans ((congrArg p h).trans (hp s))

/-- The record of a Line after the exit from sleep. -/
def Line.woken (ln : Line) : Line :=
  if ln.st = .running ∧ ln.sleep ≠ 0 then { ln.awake with sleep := 0, waking := false } else ln.awake

@[simp] theorem Line.woken_st (ln : Line) : (Line.woken ln).st = ln.st := by unfold Line.woken; split <;> rfl
@[simp] theorem Line.woken_locked (ln : Line) : (Line.woken ln).locked = ln.locked := by unfold Line.woken; split <;> rfl
@[simp] theorem Line.woken_survive (ln : Line) : (Line.woken ln).survive = ln.survive := by unfold Line.woken; split <;> rfl

/-- What the temperature check keeps, where it keeps no memory record of a basin. -/
theorem tempCheck_keeps {α : Type} (p : State → α) (hm : ∀ t k f, p (State.modBmem t k f) = p t) (s : State) (b : Nat) :
    p (s.tempCheck b) = p s := by
  refine each_keeps p (fun t k => ?_) _ s
  extract_lets chans temp far
  split
  · refine each_keeps p (fun u c => ?_) _ t
    unfold State.startLiveCheck
    split
    · exact hm u b _
    · rfl
  · rfl

/-- The exit from sleep is a change of the Line's record and of memory and power records of basins. -/
theorem wakeExit_keeps {α : Type} (p : State → α) (hm : ∀ t k f, p (State.modBmem t k f) = p t)
    (hp : ∀ t k f, p (State.modBpow t k f) = p t) (s : State) (l : Nat) :
    p (s.wakeExit l) = p (s.modLine l Line.woken) := by
  unfold State.wakeExit
  extract_lets ln t
  split
  next h =>
    have ht : s.modLine l Line.woken = t := modLine_congr (if_pos h)
    rw [ht]
    split
    · exact each_keeps p (fun u b => (tempCheck_keeps p hm _ b).trans ((hp _ b _).trans (hm u b _))) _ t
    · rfl
  next h => exact congrArg p (modLine_congr (if_neg h)).symm

theorem calm_wakeExit (s : State) (l : Nat) : calm (s.wakeExit l) = calm s :=
  wakeExit_keeps calm (fun _ _ _ => rfl) (fun _ _ _ => rfl) s l

@[simp] theorem line_wakeExit_self (s : State) (l : Nat) : (s.wakeExit l).line l = Line.woken (s.line l) :=
  (wakeExit_keeps (·.line l) (fun _ _ _ => rfl) (fun _ _ _ => rfl) s l).trans (line_modLine_self s l _)

theorem line_wakeExit_ne (s : State) {l k : Nat} (h : k ≠ l) : (s.wakeExit l).line k = s.line k :=
  (wakeExit_keeps (·.line k) (fun _ _ _ => rfl) (fun _ _ _ => rfl) s l).trans (line_modLine_ne s _ h)

/-! The flush of queues where nothing is queued (R31). -/

/-- Between `s` and `t` nothing changed but queues of launches and layers, and those that were empty still are. -/
structure EmptyQueuesKept (s t : State) : Prop where
  rest : { t with ponds := s.ponds, layers := s.layers } = s
  launches : ∀ u, (s.pond u).launches = [] → (t.pond u).launches = []
  layers : ∀ b, s.layerQ b = [] → t.layerQ b = []

theorem EmptyQueuesKept.keeps {α : Type} {s t : State} (h : EmptyQueuesKept s t) (p : State → α)
    (hp : ∀ x ps ys, p { x with ponds := ps, layers := ys } = p x) : p t = p s :=
  (hp t _ _).symm.trans (congrArg p h.rest)

theorem EmptyQueuesKept.refl (s : State) : EmptyQueuesKept s s := ⟨rfl, fun _ h => h, fun _ h => h⟩

/-- A flush of a pond without queued launches. -/
theorem EmptyQueuesKept.flushLaunches {s t : State} (h : EmptyQueuesKept s t) {u : Nat} (hu : (s.pond u).launches = []) :
    EmptyQueuesKept s (t.flushLaunches u) := by
  have e : t.flushLaunches u = t.modPond u fun p => { p with launches := [] } := by
    simp [State.flushLaunches, h.launches u hu]
  rw [e]
  refine ⟨h.rest, fun v hv => ?_, h.layers⟩
  rw [pond_modPond]
  split
  · rfl
  · exact h.launches v hv

/-- A flush of a basin without queued layers. -/
theorem EmptyQueuesKept.flushLayers {s t : State} (h : EmptyQueuesKept s t) {b : Nat} (hb : s.layerQ b = []) :
    EmptyQueuesKept s (t.flushLayers b) := by
  have e : t.flushLayers b = t.setLayerQ b [] := by simp [State.flushLayers, h.layers b hb]
  rw [e]
  refine ⟨h.rest, h.launches, fun c hc => ?_⟩
  by_cases hcb : c = b
  · rw [hcb, layerQ_setLayerQ_self]
  · rw [layerQ_setLayerQ_ne t [] hcb]
    exact h.layers c hc

/-- Nothing becomes queued where Lines' members, dispatched commands and empty queues stay. -/
theorem nothingQueued_of_kept {s t : State} {l : Nat} (h : NothingQueued s l) (hl : t.leaders = s.leaders)
    (hq : t.queues = s.queues) (hp : ∀ u, (s.pond u).launches = [] → (t.pond u).launches = [])
    (hy : ∀ b, s.layerQ b = [] → t.layerQ b = []) : NothingQueued t l := by
  have hm : t.members l = s.members l := by simp [State.members, State.leaderOf, hl]
  have hn : t.lineQueues l = s.lineQueues l := by simp [State.lineQueues, hq]
  refine ⟨?_, ?_, ?_⟩
  · rw [hm]; exact fun b hb k hk => hp _ (h.launches b hb k hk)
  · rw [hm]; exact fun b hb => hy b (h.layers b hb)
  · rw [hn]; intro q hq'
    simpa [State.queue, hq] using h.commands q hq'

theorem EmptyQueuesKept.nothingQueued {s t : State} (h : EmptyQueuesKept s t) {l : Nat} (hn : NothingQueued s l) :
    NothingQueued t l :=
  nothingQueued_of_kept hn (h.keeps State.leaders fun _ _ _ => rfl) (h.keeps State.queues fun _ _ _ => rfl) h.launches
    h.layers

/-- No SYNC_WAIT waits where no command runs. -/
theorem abortWaits_of_nothingQueued {s : State} {l : Nat} (h : NothingQueued s l) : s.abortWaits l = s :=
  List.foldlRecOn (s.lineQueues l) _ (motive := fun t => t = s) rfl fun t ht q hq => by
    subst ht
    rw [h.commands q hq]
    rfl

/-- The flush of a Line's queues of launches and layers. -/
def flushLine (s : State) (l : Nat) : State :=
  s.each (s.members l) fun s b => (s.each (List.range 8) fun s p => s.flushLaunches (b * 8 + p)).flushLayers b

theorem flushLine_kept {s : State} {l : Nat} (h : NothingQueued s l) : EmptyQueuesKept s (flushLine s l) :=
  List.foldlRecOn (s.members l) _ (EmptyQueuesKept.refl s) fun t ht b hb =>
    have hponds : EmptyQueuesKept s (t.each (List.range 8) fun s p => s.flushLaunches (b * 8 + p)) :=
      List.foldlRecOn (List.range 8) _ ht fun _ hu p hp => hu.flushLaunches (h.launches b hb p (List.mem_range.mp hp))
    hponds.flushLayers (h.layers b hb)

/-! Stopping (R29, R31). -/

/-- The entry of a Line into STOPPING with a cause. -/
def stoppingEntry (s : State) (l cause : Nat) : State := ((s.wakeExit l).setCause l cause).enterLineState l .stopping

theorem calm_stoppingEntry (s : State) (l cause : Nat) : calm (stoppingEntry s l cause) = calm s :=
  (calm_of_offLines (offLines_enterLineState _ l _)).trans (calm_wakeExit s l)

/-- The record of a Line after it was told to stop: a Line that is up enters STOPPING (R29). -/
def Line.stopped (cause : Nat) (ln : Line) : Line :=
  if ln.st.isUp then Line.entered .stopping { Line.woken ln with cause := cause } else ln

theorem line_stoppingEntry_self {s : State} {l : Nat} (h : (s.line l).st.isUp = true) (cause : Nat) :
    (stoppingEntry s l cause).line l = Line.stopped cause (s.line l) := by
  simp [stoppingEntry, State.setCause, Line.stopped, h]

theorem line_stoppingEntry_ne (s : State) {l k : Nat} (cause : Nat) (h : k ≠ l) :
    (stoppingEntry s l cause).line k = s.line k :=
  (line_enterLineState_ne _ _ h).trans ((line_modLine_ne _ _ h).trans (line_wakeExit_ne s h))

theorem nothingQueued_stoppingEntry {s : State} {l m : Nat} (h : NothingQueued s m) (cause : Nat) :
    NothingQueued (stoppingEntry s l cause) m := by
  have e := calm_stoppingEntry s l cause
  have hp (u : Nat) : (stoppingEntry s l cause).pond u = s.pond u := keeps_of_calm e (State.pond · u) fun _ => rfl
  have hy (b : Nat) : (stoppingEntry s l cause).layerQ b = s.layerQ b := keeps_of_calm e (State.layerQ · b) fun _ => rfl
  exact nothingQueued_of_kept h (keeps_of_calm e State.leaders fun _ => rfl) (keeps_of_calm e State.queues fun _ => rfl)
    (fun u hu => (congrArg Pond.launches (hp u)).trans hu) fun b hb => (hy b).trans hb

/-- Where nothing is queued, a Line that is told to stop enters STOPPING and flushes empty queues. -/
theorem beginStopping_kept {s : State} {l : Nat} (hup : (s.line l).st.isUp = true) (h : NothingQueued s l) (cause : Nat) :
    EmptyQueuesKept (stoppingEntry s l cause) (s.beginStopping l cause) := by
  have hn : NothingQueued (stoppingEntry s l cause) l := nothingQueued_stoppingEntry h cause
  have e : s.beginStopping l cause = (flushLine (stoppingEntry s l cause) l).abortWaits l := if_pos hup
  rw [e, abortWaits_of_nothingQueued ((flushLine_kept hn).nothingQueued hn)]
  exact flushLine_kept hn

theorem beginStopping_of_down {s : State} {l : Nat} (h : (s.line l).st.isUp = false) (cause : Nat) :
    s.beginStopping l cause = s := by
  simp [State.beginStopping, h]

section
variable {s : State} {l : Nat} (h : NothingQueued s l) (cause : Nat)
include h

theorem line_beginStopping_self : (s.beginStopping l cause).line l = Line.stopped cause (s.line l) := by
  cases hup : (s.line l).st.isUp with
  | false => rw [beginStopping_of_down hup, Line.stopped, hup]; rfl
  | true =>
    have e := (beginStopping_kept hup h cause).keeps (State.line · l) fun _ _ _ => rfl
    exact e.trans (line_stoppingEntry_self hup cause)

theorem line_beginStopping_ne {k : Nat} (hk : k ≠ l) : (s.beginStopping l cause).line k = s.line k := by
  cases hup : (s.line l).st.isUp with
  | false => rw [beginStopping_of_down hup]
  | true =>
    have e := (beginStopping_kept hup h cause).keeps (State.line · k) fun _ _ _ => rfl
    exact e.trans (line_stoppingEntry_ne s cause hk)

/-- What depends on neither ponds, layers, records of Lines and basins nor reports stays. -/
theorem beginStopping_keeps {α : Type} (p : State → α) (hc : ∀ x, p (calm x) = p x)
    (hp : ∀ x ps ys, p { x with ponds := ps, layers := ys } = p x) : p (s.beginStopping l cause) = p s := by
  cases hup : (s.line l).st.isUp with
  | false => rw [beginStopping_of_down hup]
  | true =>
    exact ((beginStopping_kept hup h cause).keeps p hp).trans (keeps_of_calm (calm_stoppingEntry s l cause) p hc)

theorem nothingQueued_beginStopping {m : Nat} (hm : NothingQueued s m) : NothingQueued (s.beginStopping l cause) m := by
  cases hup : (s.line l).st.isUp with
  | false => rwa [beginStopping_of_down hup]
  | true => exact (beginStopping_kept hup h cause).nothingQueued (nothingQueued_stoppingEntry hm cause)

end

end Sys2Proof.Proofs
end

section
/-!
PROOFS. LN_CTL, LINE_READY, LINE_DRAINED and HUB_LINE_STOP (R9, R24 to R32, R413, R493).
-/
namespace Sys2Proof.Proofs

open Sys2Proof Sys2Proof.Machine Sys2Proof.Safety Sys2Proof.Laws

/-! Line reset (R32). -/

/-- What Line reset keeps, beside the Line's state, cause and configuration. -/
def lasting (s : State) : Option (Undefined × Scope) × List Host.Cell × Tbl Bool × Timetable × Tbl Tdisp :=
  (s.misuse, s.mem, s.poison, s.tt, s.host.tdisp)

theorem lasting_eq_iff {s t : State} : lasting t = lasting s ↔
    t.misuse = s.misuse ∧ t.mem = s.mem ∧ t.poison = s.poison ∧ t.tt = s.tt ∧ t.host.tdisp = s.host.tdisp := by
  simp only [lasting, Prod.mk.injEq]

section
variable (s : State)

@[simp] theorem lasting_setReg (k : Nat) (v : Word) : lasting (s.setReg k v) = lasting s := rfl
@[simp] theorem lasting_setFld (k lo n v : Nat) : lasting (s.setFld k lo n v) = lasting s := lasting_setReg s k _
@[simp] theorem lasting_setFlag (k i : Nat) (b : Bool) : lasting (s.setFlag k i b) = lasting s := lasting_setFld s k i 1 _
@[simp] theorem lasting_dropRegs (p : Nat → Bool) : lasting (s.dropRegs p) = lasting s := rfl
@[simp] theorem lasting_modLine (l : Nat) (f : Line → Line) : lasting (s.modLine l f) = lasting s := rfl
@[simp] theorem lasting_modPond (u : Nat) (f : Pond → Pond) : lasting (s.modPond u f) = lasting s := rfl
@[simp] theorem lasting_modGrid (g : Nat) (f : GridSlot → GridSlot) : lasting (s.modGrid g f) = lasting s := rfl
@[simp] theorem lasting_modChan (c : Nat) (f : Channel → Channel) : lasting (s.modChan c f) = lasting s := rfl
@[simp] theorem lasting_modPort (p : Nat) (f : Port → Port) : lasting (s.modPort p f) = lasting s := rfl
@[simp] theorem lasting_modHart (h : Nat) (f : Core → Core) : lasting (s.modHart h f) = lasting s := rfl
@[simp] theorem lasting_modHealth (k : Nat) (f : Health → Health) : lasting (s.modHealth k f) = lasting s := rfl
@[simp] theorem lasting_setArb (k : Nat) (a : Arb) : lasting (s.setArb k a) = lasting s := rfl
@[simp] theorem lasting_setLayerQ (b : Nat) (q : List Layer) : lasting (s.setLayerQ b q) = lasting s := rfl
@[simp] theorem lasting_setTlb (b : Nat) (q : List TlbEntry) : lasting (s.setTlb b q) = lasting s := rfl
@[simp] theorem lasting_dropCoherence (l : Nat) : lasting (s.dropCoherence l) = lasting s := rfl
@[simp] theorem lasting_dropVectors (p : Nat → Bool) : lasting (s.dropVectors p) = lasting s := rfl
@[simp] theorem lasting_with_tests (x : Tbl (Option RunningTest)) : lasting { s with tests := x } = lasting s := rfl
@[simp] theorem lasting_with_tenant (x : Tbl Nat) : lasting { s with tenant := x } = lasting s := rfl
@[simp] theorem lasting_with_tables (q : Tbl AQueue) (c : Tbl Ctx) (e : Tbl CflEntry) (a : Tbl Arb) (x : Tbl Nat) :
    lasting { s with queues := q, ctxs := c, cfls := e, arbs := a, tenant := x } = lasting s := rfl

theorem lasting_each {f : State → Nat → State} (hf : ∀ t x, lasting (f t x) = lasting t) (l : List Nat) :
    lasting (s.each l f) = lasting s := each_keeps lasting hf l s

end

theorem setCores_keeps {α : Type} (p : State → α) (hm : ∀ t k f, p (State.modHart t k f) = p t) (s : State) (l : Nat)
    (f : Nat → Core) : p (s.setCores l f) = p s :=
  each_keeps p (fun _ _ => hm _ _ _) _ s

theorem lasting_abandonTests (s : State) (l : Nat) (cores : Bool) : lasting (s.abandonTests l cores) = lasting s := by
  unfold State.abandonTests
  extract_lets mine gone t
  refine (lasting_each t (fun u k => ?_) gone).trans (lasting_with_tests s _)
  extract_lets w
  split
  · rw [lasting_modGrid, lasting_modHealth]
  · exact lasting_modHealth u k _

theorem lasting_resetCores (s : State) (l : Nat) : lasting (s.resetCores l) = lasting s :=
  (setCores_keeps lasting lasting_modHart (s.dropCoherence l) l _).trans (lasting_dropCoherence s l)

theorem lasting_resetBasin (s : State) (b : Nat) : lasting (s.resetBasin b) = lasting s := by
  unfold State.resetBasin
  extract_lets ponds grids chans upd ports
  have hponds : lasting ponds = lasting s :=
    (lasting_each _ (fun t p => lasting_modPond t _ _) _).trans (lasting_dropRegs s _)
  have hgrids : lasting grids = lasting ponds :=
    lasting_each _ (fun t g => (lasting_setFld _ _ _ _ _).trans (lasting_modGrid t _ _)) _
  have hchans : lasting chans = lasting grids := lasting_each _ (fun t c => lasting_modChan t _ _) _
  have hupd : lasting upd = lasting chans := (lasting_setFld _ _ _ _ _).trans (lasting_setReg chans _ _)
  have hports : lasting ports = lasting upd :=
    lasting_each _ (fun t i => (lasting_setArb _ _ _).trans ((lasting_setArb _ _ _).trans (lasting_modPort t _ _))) _
  refine (lasting_with_tenant (((ports.setArb b {}).setLayerQ b []).setTlb b []) _).trans ?_
  rw [lasting_setTlb, lasting_setLayerQ, lasting_setArb, hports, hupd, hchans, hgrids, hponds]

theorem lasting_reloadLine (s : State) (l : Nat) : lasting (s.reloadLine l) = lasting s :=
  (lasting_setReg _ _ _).trans (lasting_setReg s _ _)

theorem lasting_resetLine (s : State) (l : Nat) : lasting (s.resetLine l) = lasting s := by
  unfold State.resetLine
  extract_lets basins leader tables host
  have hbasins : lasting basins = lasting s :=
    (foldl_keeps lasting lasting_resetBasin _ _).trans ((lasting_resetCores _ l).trans (lasting_abandonTests s l false))
  have hleader : lasting leader = lasting basins := (lasting_reloadLine _ l).trans (lasting_dropRegs basins _)
  have htables : lasting tables = lasting leader := lasting_with_tables leader _ _ _ _ _
  have hhost : lasting host = lasting tables := (lasting_dropVectors _ _).trans (lasting_setFlag tables _ _ _)
  rw [lasting_modLine, hhost, htables, hleader, hbasins]

/-- The Line's record after Line reset: its lock, its ended jobs and its queues are gone. -/
theorem line_resetLine (s : State) (l : Nat) : ∃ st cause ttGen survive,
    (s.resetLine l).line l = { st := st, cause := cause, ttGen := ttGen, survive := survive } :=
  ⟨_, _, _, _, line_modLine_self _ l _⟩

/-! Memory and power of a Line's basins (R493, R501). -/

theorem restBasins_keeps {α : Type} (p : State → α) (hm : ∀ t k f, p (State.modBmem t k f) = p t)
    (hp : ∀ t k f, p (State.modBpow t k f) = p t) (s : State) (l : Nat) : p (s.restBasins l) = p s :=
  each_keeps p (fun t b => (hm _ b _).trans ((hm _ b _).trans (hp t b _))) _ s

/-- The PLLs of a basin stand as `on`, and its channels are in self-refresh where they do not run. -/
def Powered (on : Bool) (s : State) (b : Nat) : Prop := (s.bpow b).pll = on ∧ (s.bmem b).selfRefresh = !on

theorem powered_rest {s : State} {l b : Nat} (hb : b ∈ s.members l) : Powered false (s.restBasins l) b := by
  refine each_establishes (P := Powered false) (fun t x => ?_) (fun t x y h => ?_) s hb
  · constructor <;> simp [State.abandonCal]
  · obtain ⟨hpll, hself⟩ := h
    constructor
    · simp only [State.abandonCal, modBmem_bpow, bpow_modBpow]
      split
      · rfl
      · exact hpll
    · simp only [State.abandonCal, bmem_modBmem]
      split
      · rfl
      · exact hself

/-- The basins of a Line that becomes RUNNING. -/
def readyBasins (s : State) (l : Nat) : State :=
  s.each (s.members l) fun s b =>
    (s.modBpow b fun p => { p with pll := true }).modBmem b fun m => { m with selfRefresh := false }

theorem readyBasins_keeps {α : Type} (p : State → α) (hm : ∀ t k f, p (State.modBmem t k f) = p t)
    (hp : ∀ t k f, p (State.modBpow t k f) = p t) (s : State) (l : Nat) : p (readyBasins s l) = p s :=
  each_keeps p (fun t b => (hm _ b _).trans (hp t b _)) _ s

theorem powered_ready {s : State} {l b : Nat} (hb : b ∈ s.members l) : Powered true (readyBasins s l) b := by
  refine each_establishes (P := Powered true) (fun t x => ?_) (fun t x y h => ?_) s hb
  · constructor <;> simp
  · obtain ⟨hpll, hself⟩ := h
    constructor
    · simp only [modBmem_bpow, bpow_modBpow]
      split
      · rfl
      · exact hpll
    · simp only [bmem_modBmem]
      split
      · rfl
      · exact hself

/-! LN_CTL (R24, R25). -/

/-- What the bits RESET, STOP and START of LN_CTL do: the first of them that is set. -/
def lnCtlAction (s : State) (l : Nat) (v : Word) : State :=
  if v.flag 2 then s.ctlReset l false
  else if v.flag 1 then s.beginStopping l 0x01
  else if v.flag 0 then s.startLine l
  else s

/-- What the other bits of LN_CTL do: SURVIVE_HOST where the lock is clear, and LOCK (R9, R25). -/
def writeLockBits (s : State) (l : Nat) (v : Word) : State :=
  State.when (if (s.line l).locked then s else s.modLine l fun ln => { ln with survive := v.flag 4 }) (v.flag 3)
    (·.modLine l fun ln => { ln with locked := true })

/-- The record of a Line after these bits were written. -/
def Line.lockWritten (v : Word) (ln : Line) : Line :=
  { ln with survive := if ln.locked then ln.survive else v.flag 4, locked := ln.locked || v.flag 3 }

theorem Line.lockWritten_of_locked {ln : Line} (h : ln.locked = true) (v : Word) : Line.lockWritten v ln = ln := by
  cases ln
  simp_all [Line.lockWritten]

theorem Line.lockWritten_of_unlocked {ln : Line} (h : ln.locked = false) (v : Word) :
    Line.lockWritten v ln = { ln with survive := v.flag 4, locked := v.flag 3 } := by
  simp [Line.lockWritten, h]

theorem line_writeLockBits_self (s : State) (l : Nat) (v : Word) :
    (writeLockBits s l v).line l = Line.lockWritten v (s.line l) := by
  unfold writeLockBits
  cases h : (s.line l).locked with
  | true =>
    have hlock : { s.line l with locked := true } = s.line l := by rw [← h]
    rw [Line.lockWritten_of_locked h]
    cases v.flag 3 <;> simp [hlock]
  | false =>
    have hlock : { s.line l with survive := v.flag 4, locked := false } = { s.line l with survive := v.flag 4 } := by rw [← h]
    rw [Line.lockWritten_of_unlocked h]
    cases v.flag 3 <;> simp [hlock]

theorem line_writeLockBits_ne (s : State) {l k : Nat} (v : Word) (hk : k ≠ l) :
    (writeLockBits s l v).line k = s.line k := by
  unfold writeLockBits
  cases (s.line l).locked <;> cases v.flag 3 <;> simp [line_modLine_ne _ _ hk]

theorem writeLockBits_frame (s : State) (l : Nat) (v : Word) : { writeLockBits s l v with lines := s.lines } = s := by
  have hfree : { (if (s.line l).locked then s else s.modLine l fun ln => { ln with survive := v.flag 4 }) with
      lines := s.lines } = s := by
    split <;> rfl
  unfold writeLockBits
  cases v.flag 3 with
  | false => exact hfree
  | true => exact hfree

theorem writeLockBits_keeps {α : Type} (p : State → α) (hp : ∀ x ls, p { x with lines := ls } = p x) (s : State) (l : Nat)
    (v : Word) : p (writeLockBits s l v) = p s :=
  (hp _ _).symm.trans (congrArg p (writeLockBits_frame s l v))

/-- A write of LN_CTL with 0 in its reserved bits, where the path may write, that meets no undefined case. -/
theorem runU_ctlWrite {s u : State} {via : Via} {l : Nat} {v : Word} (hw : s.lnWrites via l = true) (hv : v.field 5 59 = 0)
    (hu : lnCtlAction s.clean l v = u) (hm : u.misuse = none) :
    runU (fun s => s.ctlWrite via l v) s = .next ((writeLockBits u l v).keeping s) := by
  have hnone : (writeLockBits u l v).misuse = none := (writeLockBits_keeps State.misuse (fun _ _ => rfl) u l v).trans hm
  have hwrite : s.clean.writeLnCtl l v = writeLockBits u l v := by
    simp only [State.writeLnCtl, hv, bne_self_eq_false, undefIf_false, ← hu]
    rfl
  have hctl : s.clean.ctlWrite via l v = writeLockBits u l v := by
    have hw' : s.clean.lnWrites via l = true := hw
    rw [State.ctlWrite, if_pos hw', hwrite, noted_of_none _ via hnone]
  rw [runU_of_none s _ (by rw [hctl, hnone]), hctl]

/-! RESET (R32). -/

/-- Line reset as LN_CTL makes it in an unlocked interface: STOPPED with CAUSE 0x05. -/
def resetToStopped (s : State) (l : Nat) : State :=
  (((s.resetLine l).setCause l 0x05).enterLineState l .stopped).restBasins l

theorem lasting_resetToStopped (s : State) (l : Nat) : lasting (resetToStopped s l) = lasting s := by
  have hrest := restBasins_keeps lasting (fun _ _ _ => rfl) (fun _ _ _ => rfl)
    (((s.resetLine l).setCause l 0x05).enterLineState l .stopped) l
  have hcalm := calm_of_offLines (offLines_enterLineState ((s.resetLine l).setCause l 0x05) l .stopped)
  exact hrest.trans ((keeps_of_calm hcalm lasting fun _ => rfl).trans ((lasting_modLine _ l _).trans (lasting_resetLine s l)))

theorem tdispError_of_unlocked {s : State} {l : Nat} (h : s.tdisp l = .unlocked) : s.tdispError l = s := by
  simp [State.tdispError, h]

theorem ctlReset_of_unlocked {s : State} {l : Nat} (h1 : (s.line l).st ≠ .off) (h2 : (s.line l).st ≠ .applying)
    (h : s.tdisp l = .unlocked) : s.ctlReset l false = resetToStopped s l := by
  have htdisp := (lasting_eq_iff.mp (lasting_resetToStopped s l)).2.2.2.2
  have ht : (resetToStopped s l).tdisp l = .unlocked := (congrArg (tblGet Tdisp.unlocked · l) htdisp).trans h
  unfold State.ctlReset
  split
  next hst => exact absurd hst h1
  next hst => exact absurd hst h2
  next => exact (if_neg Bool.false_ne_true).trans (tdispError_of_unlocked ht)

/-- The Line's record after its reset. -/
theorem line_resetToStopped (s : State) (l : Nat) : ∃ ln : Line, ln.cause = 0x05 ∧ ln.locked = false ∧ ln.ended = []
    ∧ (resetToStopped s l).line l = Line.entered .stopped ln := by
  obtain ⟨st, cause, ttGen, survive, h⟩ := line_resetLine s l
  refine ⟨{ st := st, cause := 0x05, ttGen := ttGen, survive := survive }, rfl, rfl, rfl, ?_⟩
  have hrest := restBasins_keeps (State.line · l) (fun _ _ _ => rfl) (fun _ _ _ => rfl)
    (((s.resetLine l).setCause l 0x05).enterLineState l .stopped) l
  refine hrest.trans ((line_enterLineState_self _ l _).trans (congrArg _ ?_))
  rw [State.setCause, line_modLine_self, h]

/-! HUB_LINE_STOP (R28). -/

/-- What a write of HUB_LINE_STOP does to the Line of function `n`. -/
def stopNamed (v : Word) (s : State) (n : Nat) : State :=
  s.when (v.flag n && s.isLeader n) (·.beginStopping n 0x06)

section
variable {v : Word} {s : State} {n : Nat} (h : v.flag n = true → s.isLeader n = true → NothingQueued s n)
include h

theorem stopNamed_keeps {α : Type} (p : State → α) (hc : ∀ x, p (calm x) = p x)
    (hp : ∀ x ps ys, p { x with ponds := ps, layers := ys } = p x) : p (stopNamed v s n) = p s := by
  unfold stopNamed
  cases hb : v.flag n && s.isLeader n with
  | false => rfl
  | true =>
    obtain ⟨hf, hl⟩ := Bool.and_eq_true_iff.mp hb
    exact beginStopping_keeps (h hf hl) 0x06 p hc hp

theorem line_stopNamed (k : Nat) : (stopNamed v s n).line k
    = if k = n ∧ v.flag n = true ∧ s.isLeader n = true then Line.stopped 0x06 (s.line k) else s.line k := by
  unfold stopNamed
  cases hb : v.flag n && s.isLeader n with
  | false => rw [if_neg (by simp_all)]; rfl
  | true =>
    obtain ⟨hf, hl⟩ := Bool.and_eq_true_iff.mp hb
    by_cases hk : k = n
    · subst hk
      rw [if_pos ⟨rfl, hf, hl⟩]
      exact line_beginStopping_self (h hf hl) 0x06
    · rw [if_neg (fun e => hk e.1)]
      exact line_beginStopping_ne (h hf hl) 0x06 hk

theorem nothingQueued_stopNamed {m : Nat} (hm : NothingQueued s m) : NothingQueued (stopNamed v s n) m := by
  unfold stopNamed
  cases hb : v.flag n && s.isLeader n with
  | false => exact hm
  | true =>
    obtain ⟨hf, hl⟩ := Bool.and_eq_true_iff.mp hb
    exact nothingQueued_beginStopping (h hf hl) 0x06 hm

end

/-- The Lines after all that are named among `ns` were told to stop, with nothing queued in any of them. -/
theorem stopNamed_each (v : Word) {ns : List Nat} (hd : ns.Nodup) {s : State}
    (h : ∀ n ∈ ns, v.flag n = true → s.isLeader n = true → NothingQueued s n) :
    (s.each ns (stopNamed v)).misuse = s.misuse ∧ ∀ k, (s.each ns (stopNamed v)).line k
      = if k ∈ ns ∧ v.flag k = true ∧ s.isLeader k = true then Line.stopped 0x06 (s.line k) else s.line k := by
  induction ns generalizing s with
  | nil => simp
  | cons n r ih =>
    obtain ⟨hn, hr⟩ := List.nodup_cons.mp hd
    have hhere := h n List.mem_cons_self
    have hlead (k : Nat) : (stopNamed v s n).isLeader k = s.isLeader k :=
      stopNamed_keeps hhere (State.isLeader · k) (fun _ => rfl) fun _ _ _ => rfl
    obtain ⟨hmis, hlines⟩ := ih hr (s := stopNamed v s n) fun m hm hf hl =>
      nothingQueued_stopNamed hhere (h m (List.mem_cons_of_mem n hm) hf (by rwa [hlead] at hl))
    rw [each_cons]
    refine ⟨hmis.trans (stopNamed_keeps hhere State.misuse (fun _ => rfl) fun _ _ _ => rfl), fun k => ?_⟩
    rw [hlines k, hlead, line_stopNamed hhere]
    by_cases hk : k = n
    · subst hk; simp [hn]
    · simp [hk]

/-! LINE_READY and LINE_DRAINED (R29, R413). -/

theorem startCores_keeps {α : Type} (p : State → α) (hm : ∀ t k f, p (State.modHart t k f) = p t) (s : State) (l : Nat) :
    p (s.startCores l) = p s := setCores_keeps p hm s l _

theorem writeBackAll_keeps {α : Type} (p : State → α) (hm : ∀ t g d q, p (State.putGranule t g d q) = p t) (s : State)
    (l : Nat) : p (s.writeBackAll l) = p s := by
  refine foldl_keeps p (fun t e => ?_) _ s
  split
  · rfl
  · exact hm ..

/-- Halting the cores of a Line changes memory, its caches and its harts. -/
theorem haltCores_keeps {α : Type} (p : State → α) (hg : ∀ t g d q, p (State.putGranule t g d q) = p t)
    (hc : ∀ t c, p { t with coh := c } = p t) (hm : ∀ t k f, p (State.modHart t k f) = p t) (s : State) (l : Nat) :
    p (s.haltCores l) = p s :=
  (setCores_keeps p hm _ l _).trans ((hc _ _).trans (writeBackAll_keeps p hg s l))

/-- A core that does not run. -/
def Still (s : State) (h : Nat) : Prop := (s.hart h).mode ≠ .run ∧ (s.hart h).mode ≠ .wfi

theorem still_haltCores {s : State} {l h : Nat} (h128 : h < 128) (hl : s.leaderOf (h / 16) = l) :
    Still (s.haltCores l) h := by
  have hlead : ((s.writeBackAll l).dropCoherence l).leaderOf (h / 16) = l :=
    (writeBackAll_keeps (State.leaderOf · (h / 16)) (fun _ _ _ _ => rfl) s l).trans hl
  refine each_establishes (P := Still) (fun t x => ?_) (fun t x y hy => ?_) _
    (List.mem_filter.mpr ⟨List.mem_range.mpr h128, ?_⟩)
  · rw [Still, hart_modHart_self]
    split <;> simp
  · rw [Still, hart_modHart]
    split
    · split <;> simp
    · exact hy
  · exact beq_iff_eq.mpr hlead

theorem lineReady_of_starting {s : State} {l : Nat} (hs : (s.line l).st = .starting) (hl : s.isLeader l = true) :
    s.lineReady l = ((readyBasins s l).enterLineState l .running).startCores l := if_pos ⟨hs, hl⟩

theorem lineDrained_of_drained {s : State} {l : Nat} (hs : (s.line l).st = .stopping) (hl : s.isLeader l = true)
    (hd : s.drained l = true) : s.lineDrained l = ((s.haltCores l).enterLineState l .stopped).restBasins l :=
  if_pos ⟨hs, hl, hd⟩

/-! The commands. -/

theorem start_gives {s : State} {via : Via} {l : LineId} {v : Word} (hw : s.lnWrites via l = true)
    (hv : v.field 5 59 = 0) (h0 : v.flag 0 = true) (h1 : v.flag 1 = false) (h2 : v.flag 2 = false)
    (hst : (s.line l).st = .stopped) (hc : s.clearing l = false) (ht : s.tdisp l ≠ .locked) :
    Gives (.start via l v) s fun t => (t.line l).st = .starting
      ∧ (t.line l).survive = (if (s.line l).locked then (s.line l).survive else v.flag 4)
      ∧ (t.line l).locked = ((s.line l).locked || v.flag 3) ∧ t.mem = s.mem ∧ t.ponds = s.ponds ∧ t.regs = s.regs := by
  have hact : lnCtlAction s.clean l v = s.clean.enterLineState l .starting := by
    have hstart : s.clean.startLine l = s.clean.enterLineState l .starting := if_pos ⟨hst, hc, ht⟩
    simp [lnCtlAction, h0, h1, h2, hstart]
  have hkept {α : Type} (p : State → α) (hc : ∀ x, p (calm x) = p x) (hl : ∀ x ls, p { x with lines := ls } = p x) :
      p (writeLockBits (s.clean.enterLineState l .starting) l v) = p s.clean :=
    (writeLockBits_keeps p hl _ l v).trans (keeps_of_calm (calm_of_offLines (offLines_enterLineState s.clean l _)) p hc)
  have hline : (writeLockBits (s.clean.enterLineState l .starting) l v).line l
      = Line.lockWritten v (Line.entered .starting (s.line l)) :=
    (line_writeLockBits_self _ _ v).trans (congrArg _ (line_enterLineState_self _ _ _))
  refine ⟨_, runU_ctlWrite hw hv hact
    (keeps_of_calm (calm_of_offLines (offLines_enterLineState s.clean l _)) State.misuse fun _ => rfl), ?_, ?_, ?_,
    hkept State.mem (fun _ => rfl) fun _ _ => rfl, hkept State.ponds (fun _ => rfl) fun _ _ => rfl,
    hkept State.regs (fun _ => rfl) fun _ _ => rfl⟩
  · exact (congrArg Line.st hline).trans (Line.entered_st _ _)
  · exact (congrArg Line.survive hline).trans (by simp [Line.lockWritten])
  · exact (congrArg Line.locked hline).trans (by simp [Line.lockWritten])

theorem stop_gives {s : State} {via : Via} {l : LineId} {v : Word} (hw : s.lnWrites via l = true)
    (hv : v.field 5 59 = 0) (h1 : v.flag 1 = true) (h2 : v.flag 2 = false) (hup : (s.line l).st.isUp = true)
    (hq : NothingQueued s l) :
    Gives (.stop via l v) s fun t => (t.line l).st = .stopping ∧ (t.line l).cause = 0x01
      ∧ (t.line l).locked = ((s.line l).locked || v.flag 3) ∧ t.mem = s.mem := by
  have hq' : NothingQueued s.clean l := ⟨hq.launches, hq.layers, hq.commands⟩
  have hact : lnCtlAction s.clean l v = s.clean.beginStopping l 0x01 := by simp [lnCtlAction, h1, h2]
  have hline : (writeLockBits (s.clean.beginStopping l 0x01) l v).line l
      = Line.lockWritten v (Line.entered .stopping { Line.woken (s.line l) with cause := 0x01 }) :=
    (line_writeLockBits_self _ _ v).trans
      (congrArg _ ((line_beginStopping_self hq' 0x01).trans (if_pos hup)))
  refine ⟨_, runU_ctlWrite hw hv hact (beginStopping_keeps hq' 0x01 State.misuse (fun _ => rfl) fun _ _ _ => rfl),
    ?_, ?_, ?_, ?_⟩
  · exact (congrArg Line.st hline).trans (Line.entered_st _ _)
  · exact (congrArg Line.cause hline).trans (Line.entered_cause _ _)
  · exact (congrArg Line.locked hline).trans (by simp [Line.lockWritten])
  · exact (writeLockBits_keeps State.mem (fun _ _ => rfl) _ l v).trans
      (beginStopping_keeps hq' 0x01 State.mem (fun _ => rfl) fun _ _ _ => rfl)

theorem reset_gives {s : State} {via : Via} {l : LineId} {v : Word} (hw : s.lnWrites via l = true)
    (hv : v.field 5 59 = 0) (h2 : v.flag 2 = true) (hoff : (s.line l).st ≠ .off) (happ : (s.line l).st ≠ .applying)
    (ht : s.tdisp l = .unlocked) :
    Gives (.reset via l v) s fun t => (t.line l).st = .stopped ∧ (t.line l).cause = 0x05
      ∧ (t.line l).locked = v.flag 3 ∧ (t.line l).survive = v.flag 4 ∧ (t.line l).ended = [] ∧ t.mem = s.mem
      ∧ t.poison = s.poison ∧ t.tt = s.tt := by
  have hact : lnCtlAction s.clean l v = resetToStopped s.clean l := by
    have hreset : s.clean.ctlReset l false = resetToStopped s.clean l := ctlReset_of_unlocked hoff happ ht
    simp [lnCtlAction, h2, hreset]
  have hlast := lasting_resetToStopped s.clean l
  obtain ⟨ln, hcause, hlock, hended, hln⟩ := line_resetToStopped s.clean l
  obtain ⟨-, hmem, hpoison, htt, -⟩ :=
    lasting_eq_iff.mp ((writeLockBits_keeps lasting (fun _ _ => rfl) (resetToStopped s.clean l) l v).trans hlast)
  have hline : (writeLockBits (resetToStopped s.clean l) l v).line l
      = { Line.entered .stopped ln with survive := v.flag 4, locked := v.flag 3 } :=
    (line_writeLockBits_self _ _ v).trans ((congrArg _ hln).trans
      (Line.lockWritten_of_unlocked ((Line.entered_locked _ _).trans hlock) v))
  refine ⟨_, runU_ctlWrite hw hv hact (lasting_eq_iff.mp hlast).1, ?_, ?_, congrArg Line.locked hline,
    congrArg Line.survive hline, ?_, hmem, hpoison, htt⟩
  · exact (congrArg Line.st hline).trans (Line.entered_st _ _)
  · exact (congrArg Line.cause hline).trans ((Line.entered_cause _ _).trans hcause)
  · exact (congrArg Line.ended hline).trans ((Line.entered_ended _ _).trans hended)

theorem lock_gives {s : State} {via : Via} {l : LineId} {v : Word} (hw : s.lnWrites via l = true)
    (hv : v.field 5 59 = 0) (h0 : v.flag 0 = false) (h1 : v.flag 1 = false) (h2 : v.flag 2 = false) :
    Gives (.lock via l v) s fun t => OnlyLine s t l (Line.lockWritten v (s.line l)) := by
  have hact : lnCtlAction s.clean l v = s.clean := by simp [lnCtlAction, h0, h1, h2]
  exact ⟨_, runU_ctlWrite hw hv hact rfl, line_writeLockBits_self s.clean l v,
    fun k hk => line_writeLockBits_ne s.clean v hk, congrArg (State.keeping · s) (writeLockBits_frame s.clean l v)⟩

theorem lineReady_gives {s : State} {l : LineId} (hl : s.isLeader l = true) (hst : (s.line l).st = .starting) :
    Gives (.lineReady l) s fun t => (t.line l).st = .running
      ∧ (∀ b ∈ s.members l, (t.bpow b).pll = true ∧ (t.bmem b).selfRefresh = false) ∧ t.mem = s.mem := by
  have hready : s.clean.lineReady l = ((readyBasins s.clean l).enterLineState l .running).startCores l :=
    lineReady_of_starting hst hl
  have hkept {α : Type} (p : State → α) (hh : ∀ t k f, p (State.modHart t k f) = p t) (ho : ∀ x, p (offLines x) = p x) :
      p (s.clean.lineReady l) = p (readyBasins s.clean l) := by
    rw [hready, startCores_keeps p hh, ← ho, offLines_enterLineState, ho]
  have hbasins {α : Type} (p : State → α) (hm : ∀ t k f, p (State.modBmem t k f) = p t)
      (hp : ∀ t k f, p (State.modBpow t k f) = p t) : p (readyBasins s.clean l) = p s.clean :=
    readyBasins_keeps p hm hp s.clean l
  have hmis : (s.clean.lineReady l).misuse = none :=
    (hkept State.misuse (fun _ _ _ => rfl) fun _ => rfl).trans (hbasins State.misuse (fun _ _ _ => rfl) fun _ _ _ => rfl)
  refine ⟨_, runU_of_none s (fun s => s.lineReady l) hmis, ?_, fun b hb => ?_, ?_⟩
  · have hline : (s.clean.lineReady l).line l = Line.entered .running ((readyBasins s.clean l).line l) := by
      rw [hready, startCores_keeps (State.line · l) fun _ _ _ => rfl]
      exact line_enterLineState_self _ _ _
    exact (congrArg Line.st hline).trans (Line.entered_st _ _)
  · obtain ⟨hpll, hself⟩ := powered_ready (s := s.clean) hb
    exact ⟨(congrArg BasinPower.pll (hkept (State.bpow · b) (fun _ _ _ => rfl) fun _ => rfl)).trans hpll,
      (congrArg BasinMem.selfRefresh (hkept (State.bmem · b) (fun _ _ _ => rfl) fun _ => rfl)).trans hself⟩
  · exact (hkept State.mem (fun _ _ _ => rfl) fun _ => rfl).trans (hbasins State.mem (fun _ _ _ => rfl) fun _ _ _ => rfl)

theorem lineDrained_gives {s : State} {l : LineId} (hl : s.isLeader l = true) (hst : (s.line l).st = .stopping)
    (hd : s.drained l = true) :
    Gives (.lineDrained l) s fun t => (t.line l).st = .stopped
      ∧ (∀ b ∈ s.members l, (t.bpow b).pll = false ∧ (t.bmem b).selfRefresh = true)
      ∧ ∀ h < 128, s.leaderOf (h / 16) = l.val → (t.hart h).mode ≠ .run ∧ (t.hart h).mode ≠ .wfi := by
  have hdrained : s.clean.lineDrained l = ((s.clean.haltCores l).enterLineState l .stopped).restBasins l :=
    lineDrained_of_drained hst hl hd
  have hentered {α : Type} (p : State → α) (ho : ∀ x, p (offLines x) = p x) :
      p ((s.clean.haltCores l).enterLineState l .stopped) = p (s.clean.haltCores l) := by
    rw [← ho, offLines_enterLineState, ho]
  have hkept {α : Type} (p : State → α) (ho : ∀ x, p (offLines x) = p x)
      (hm : ∀ t k f, p (State.modBmem t k f) = p t) (hp : ∀ t k f, p (State.modBpow t k f) = p t) :
      p (s.clean.lineDrained l) = p (s.clean.haltCores l) := by
    rw [hdrained, restBasins_keeps p hm hp, hentered p ho]
  have hmis : (s.clean.lineDrained l).misuse = none :=
    (hkept State.misuse (fun _ => rfl) (fun _ _ _ => rfl) fun _ _ _ => rfl).trans
      (haltCores_keeps State.misuse (fun _ _ _ _ => rfl) (fun _ _ => rfl) (fun _ _ _ => rfl) s.clean l)
  have hmembers : ((s.clean.haltCores l).enterLineState l .stopped).members l = s.members l :=
    (hentered (State.members · l) fun _ => rfl).trans
      (haltCores_keeps (State.members · l) (fun _ _ _ _ => rfl) (fun _ _ => rfl) (fun _ _ _ => rfl) s.clean l)
  refine ⟨_, runU_of_none s (fun s => s.lineDrained l) hmis, ?_, fun b hb => ?_, fun h h128 hlead => ?_⟩
  · have hline : (s.clean.lineDrained l).line l = Line.entered .stopped ((s.clean.haltCores l).line l) := by
      rw [hdrained, restBasins_keeps (State.line · l) (fun _ _ _ => rfl) fun _ _ _ => rfl]
      exact line_enterLineState_self _ _ _
    exact (congrArg Line.st hline).trans (Line.entered_st _ _)
  · rw [← hmembers] at hb
    have hrest := powered_rest hb
    rw [← hdrained] at hrest
    exact hrest
  · have hhart : (s.clean.lineDrained l).hart h = (s.clean.haltCores l).hart h :=
      hkept (State.hart · h) (fun _ => rfl) (fun _ _ _ => rfl) fun _ _ _ => rfl
    have hstill : Still (s.clean.haltCores l) h := still_haltCores h128 hlead
    rw [Still, ← hhart] at hstill
    exact hstill

theorem hubLineStop_gives {s : State} {v : Word} (hw : s.hubWrites = true) (hv : v.field 8 56 = 0)
    (hq : ∀ n < 8, v.flag n = true → s.isLeader n = true → NothingQueued s n) :
    Gives (.hubLineStop v) s fun t => ∀ n < 8,
      if v.flag n ∧ s.isLeader n ∧ (s.line n).st.isUp then (t.line n).st = .stopping ∧ (t.line n).cause = 0x06
      else t.line n = s.line n := by
  have hstop : s.clean.writeLineStop v = s.clean.each (List.range 8) (stopNamed v) := by
    simp only [State.writeLineStop, hv, bne_self_eq_false, undefIf_false]
    rfl
  obtain ⟨hmis, hlines⟩ := stopNamed_each v List.nodup_range (s := s.clean) fun n hn hf hl =>
    have h := hq n (List.mem_range.mp hn) hf hl
    ⟨h.launches, h.layers, h.commands⟩
  have hnone : (s.clean.each (List.range 8) (stopNamed v)).misuse = none := hmis
  have hwrite : s.clean.hubWrite (·.writeLineStop v) = s.clean.each (List.range 8) (stopNamed v) := by
    have hw' : s.clean.hubWrites = true := hw
    rw [State.hubWrite, if_pos hw', hstop]
    exact noted_of_none _ .pf0 hnone
  refine ⟨_, runU_of_none s (fun s => s.hubWrite (·.writeLineStop v)) (by rw [hwrite, hnone]), fun n hn => ?_⟩
  have hline : ((s.clean.hubWrite (·.writeLineStop v)).keeping s).line n
      = if v.flag n = true ∧ s.isLeader n = true then Line.stopped 0x06 (s.line n) else s.line n := by
    rw [hwrite]
    refine (hlines n).trans ?_
    simp only [List.mem_range, hn, true_and]
    rfl
  rw [hline]
  by_cases hnamed : v.flag n = true ∧ s.isLeader n = true
  · obtain ⟨hf, hl⟩ := hnamed
    cases hup : (s.line n).st.isUp <;> simp [hf, hl, Line.stopped, hup]
  · rw [if_neg hnamed, if_neg fun h => hnamed ⟨h.1, h.2.1⟩]

/-- Settles O17: each command's effect is its action on the Line's record; what reports, sleep and flushes of empty queues
change is none of what the statement names. -/
theorem lineControl : Obligations.LineControl := by
  unfold Obligations.LineControl
  intro s via l v ln surv
  refine ⟨fun hw hv => ⟨?start, ?stop, ?reset, ?lock⟩, lineReady_gives, lineDrained_gives, hubLineStop_gives⟩
  case start => exact start_gives hw hv
  case stop => exact stop_gives hw hv
  case reset => exact reset_gives hw hv
  case lock => exact lock_gives hw hv

end Sys2Proof.Proofs
end

section
/-!
PROOFS. Claims, function resets and the window base (R20, R308, R330, R331).
-/
namespace Sys2Proof.Proofs

open Sys2Proof Sys2Proof.Machine Sys2Proof.Safety Sys2Proof.Laws

/-! Parts of the port and registers. -/

theorem tblErase_get {α : Type} (d : α) (t : Tbl α) (k i : Nat) :
    tblGet d (tblErase t k) i = if i = k then d else tblGet d t i := by
  split
  next h => rw [h, tblGet_erase_self]
  next h => exact tblGet_erase_ne d t h

theorem tblGet_filter_of_kept {α : Type} (d : α) (p : Nat → Bool) (t : Tbl α) {k : Nat} (h : p k = true) :
    tblGet d (t.filter fun e => p e.1) k = tblGet d t k := by
  induction t with
  | nil => rfl
  | cons e r ih =>
    obtain ⟨j, v⟩ := e
    by_cases hj : j = k
    · subst hj
      simp [h, tblGet]
    · cases hp : p j <;> simpa [hp, tblGet, hj] using ih

theorem dropRegs_reg_of_kept (s : State) (p : Nat → Bool) {k : Nat} (h : p k = false) : (s.dropRegs p).reg k = s.reg k :=
  tblGet_filter_of_kept (regReset k) (fun j => !p j) s.regs (congrArg not h)

/-- The write of a stored register is a change of that register alone. -/
theorem onlyReg_setReg (s : State) (k : Nat) (v : Word) : OnlyReg s (s.setReg k v) k v :=
  ⟨reg_setReg_self s k v, fun _ h => reg_setReg_ne s v h, rfl⟩

theorem claimed_claim (s : State) (n k : Nat) :
    ({ s with host := { s.host with claimed := tblSet false s.host.claimed n true } } : State).claimed k
      = if k = n then true else s.claimed k :=
  tblGet_set false s.host.claimed n k true

theorem claimed_unclaim (s : State) (n k : Nat) : (s.unclaim n).claimed k = if k = n then false else s.claimed k :=
  tblErase_get false s.host.claimed n k

/-! LN_CLAIM (R20, R330). -/

/-- A write of LN_CLAIM with 0 in its reserved bits claims the function where it names the present generation, by a path that
reaches it. -/
theorem writeClaim_eq {s : State} {via : Via} {l : Nat} {v : Word} (hv : v.field 33 31 = 0) (hm : s.misuse = none) :
    s.writeClaim via l v = if s.claimWrites via l ∧ s.host.attached ∧ v.field 0 32 = s.host.gen then
        { s with host := { s.host with claimed := tblSet false s.host.claimed l true } }
      else s := by
  simp only [State.writeClaim, hv, bne_self_eq_false, undefIf_false, noted_of_none s via hm]

theorem claim_gives {s : State} {via : Via} {l : LineId} {v : Word} (hv : v.field 33 31 = 0) (ha : s.host.attached = true)
    (hw : s.claimWrites via l = true) (hg : v.field 0 32 = s.host.gen) :
    Gives (.claim via l v) s fun t =>
      t.claimed l = true ∧ (∀ k, k ≠ l.val → t.claimed k = s.claimed k) ∧ { t with host := s.host } = s := by
  have hwrite : s.clean.writeClaim via l v
      = { s.clean with host := { s.host with claimed := tblSet false s.host.claimed l true } } :=
    (writeClaim_eq hv rfl).trans (if_pos ⟨hw, ha, hg⟩)
  refine ⟨_, runU_of_none s (fun s => s.writeClaim via l v) (by rw [hwrite]; rfl), ?_⟩
  rw [hwrite]
  exact ⟨(claimed_claim s l l).trans (if_pos rfl), fun k hk => (claimed_claim s l k).trans (if_neg hk), rfl⟩

theorem claim_gives_same {s : State} {via : Via} {l : LineId} {v : Word} (hv : v.field 33 31 = 0)
    (h : v.field 0 32 ≠ s.host.gen ∨ s.claimWrites via l = false ∨ s.host.attached = false) :
    Gives (.claim via l v) s fun t => t = s := by
  have hno : ¬(s.claimWrites via l = true ∧ s.host.attached = true ∧ v.field 0 32 = s.host.gen) := by
    rintro ⟨hw, ha, hg⟩
    rcases h with h | h | h
    · exact h hg
    · exact absurd hw (by simp [h])
    · exact absurd ha (by simp [h])
  have hwrite : s.clean.writeClaim via l v = s.clean := (writeClaim_eq hv rfl).trans (if_neg hno)
  refine ⟨_, runU_of_none s (fun s => s.writeClaim via l v) (by rw [hwrite]; rfl), ?_⟩
  rw [hwrite]
  rfl

/-! Function Level Resets (R331). -/

/-- A register that is no entry of an MSI-X table stays over the reset of a function. -/
theorem flag_resetFunction {s : State} {fn k : Nat} (h : k % 2 ^ 28 < 0x80000 ∨ 0x88000 ≤ k % 2 ^ 28) (i : Nat) :
    (s.resetFunction fn).flag k i = s.flag k i := by
  have hreg : (s.dropMsix (· == fn)).reg k = s.reg k := by
    refine dropRegs_reg_of_kept s _ ?_
    rw [decide_eq_false (by omega : ¬(0x80000 ≤ k % 2 ^ 28 ∧ k % 2 ^ 28 < 0x88000)), Bool.and_false]
  exact congrArg (Word.flag · i) hreg

/-- The reset of a function is a change of the port's record and of registers. -/
theorem resetFunction_frame (s : State) (fn : Nat) : { s.resetFunction fn with host := s.host, regs := s.regs } = s := rfl

theorem lineFlr_of_attached {s : State} (h : s.host.attached = true) (n : Nat) :
    s.lineFlr n = ((s.when (s.isLeader n) (·.detachLine n)).unclaim n).resetFunction (n + 1) := by
  simp [State.lineFlr, h]

theorem lineFlr_gives_of_member {s : State} {l : LineId} (ha : s.host.attached = true) (hl : s.isLeader l = false) :
    Gives (.lineFlr l) s fun t => t.claimed l = false
      ∧ (∀ k, k ≠ l.val → t.claimed k = s.claimed k) ∧ { t with host := s.host, regs := s.regs } = s := by
  have hflr : s.clean.lineFlr l = (s.clean.unclaim l).resetFunction (l + 1) := by
    have hl' : s.clean.isLeader l = false := hl
    rw [lineFlr_of_attached (s := s.clean) ha, hl', when_false]
  refine ⟨_, runU_of_none s (fun s => s.lineFlr l) (by rw [hflr]; rfl), ?_⟩
  rw [hflr]
  refine ⟨(claimed_unclaim s l l).trans (if_pos rfl), fun k hk => (claimed_unclaim s l k).trans (if_neg hk), ?_⟩
  exact congrArg (fun t => ({ t with misuse := s.misuse, host := s.host } : State))
    (resetFunction_frame (s.clean.unclaim l) (l + 1))

/-! The detach of a Line without transfers, queues or queued work (R328). -/

/-- Dropping the cached translations of host pages changes these and HOST_EN. -/
theorem dropHostLeaves_keeps {α : Type} (p : State → α) (ht : ∀ t b q, p (State.setTlb t b q) = p t)
    (hr : ∀ t k v, p (State.setReg t k v) = p t) (s : State) (l : Nat) : p (s.dropHostLeaves l) = p s :=
  (hr _ _ _).trans (each_keeps p (fun t b => ht t b _) _ s)

theorem flag_dropHostLeaves (s : State) (l : Nat) : (s.dropHostLeaves l).flag (xlKey l 8) 0 = false := by
  unfold State.dropHostLeaves State.setFlag State.flag
  rw [reg_setFld_self]
  exact flag_withField_one _ false (by omega)

/-- No transfer reaches host memory where no channel holds one. -/
theorem hostTransfer_of_empty {s : State} {c : Nat} (h : (s.chan c).queue = []) : s.hostTransfer c = none := by
  simp [State.hostTransfer, h]

theorem parkHostQueues_of_no_queues {s : State} (h : s.queues = []) (l : Nat) : s.parkHostQueues l = s := by
  simp [State.parkHostQueues, State.lineQueues, h]

theorem detachLine_of_idle {s : State} {l : Nat} (hq : s.queues = []) (hc : ∀ k < 128, (s.chan k).queue = []) :
    s.detachLine l = if (s.line l).survive then s.dropHostLeaves l else (s.dropHostLeaves l).beginStopping l 2 := by
  have hchans : ((s.members l).flatMap fun b => (List.range 16).map fun c => b * 16 + c).filterMap
      (fun c => (s.hostTransfer c).map fun (side, va) => (c, side, va)) = [] := by
    rw [List.filterMap_eq_nil_iff]
    intro k hk
    obtain ⟨b, hb, hk⟩ := List.mem_flatMap.mp hk
    obtain ⟨c, hc16, rfl⟩ := List.mem_map.mp hk
    have hb8 := List.mem_range.mp (List.mem_filter.mp hb).1
    have hc16 := List.mem_range.mp hc16
    rw [hostTransfer_of_empty (hc _ (by omega))]
    rfl
  have hqueues : (s.dropHostLeaves l).queues = [] :=
    (dropHostLeaves_keeps State.queues (fun _ _ _ => rfl) (fun _ _ _ => rfl) s l).trans hq
  have hline : (s.dropHostLeaves l).line l = s.line l :=
    dropHostLeaves_keeps (State.line · l) (fun _ _ _ => rfl) (fun _ _ _ => rfl) s l
  simp only [State.detachLine, hchans, ite_self, State.endHostTransfers, List.foldl_nil,
    parkHostQueues_of_no_queues hqueues, hline]

theorem nothingQueued_dropHostLeaves {s : State} {l : Nat} (hn : NothingQueued s l) : NothingQueued (s.dropHostLeaves l) l := by
  have hkept {α : Type} (p : State → α) (ht : ∀ t b q, p (State.setTlb t b q) = p t)
      (hr : ∀ t k v, p (State.setReg t k v) = p t) : p (s.dropHostLeaves l) = p s := dropHostLeaves_keeps p ht hr s l
  exact nothingQueued_of_kept hn (hkept State.leaders (fun _ _ _ => rfl) fun _ _ _ => rfl)
    (hkept State.queues (fun _ _ _ => rfl) fun _ _ _ => rfl)
    (fun u hu => (congrArg Pond.launches (hkept (State.pond · u) (fun _ _ _ => rfl) fun _ _ _ => rfl)).trans hu)
    fun b hb => (hkept (State.layerQ · b) (fun _ _ _ => rfl) fun _ _ _ => rfl).trans hb

section
variable {s : State} {l : Nat} (hq : s.queues = []) (hc : ∀ k < 128, (s.chan k).queue = []) (hn : NothingQueued s l)
include hq hc hn

/-- What a detach of an idle Line keeps of the state after the cached translations went. -/
theorem detachLine_keeps {α : Type} (p : State → α) (hcalm : ∀ x, p (calm x) = p x)
    (hp : ∀ x ps ys, p { x with ponds := ps, layers := ys } = p x) : p (s.detachLine l) = p (s.dropHostLeaves l) := by
  rw [detachLine_of_idle hq hc]
  split
  · rfl
  · exact beginStopping_keeps (nothingQueued_dropHostLeaves hn) 2 p hcalm hp

/-- A Line that is up stops at a detach, unless SURVIVE_HOST is set. -/
theorem line_detachLine : (s.detachLine l).line l
    = if (s.line l).survive then s.line l else Line.stopped 2 (s.line l) := by
  have hline : (s.dropHostLeaves l).line l = s.line l :=
    dropHostLeaves_keeps (State.line · l) (fun _ _ _ => rfl) (fun _ _ _ => rfl) s l
  rw [detachLine_of_idle hq hc]
  split
  · exact hline
  · rw [line_beginStopping_self (nothingQueued_dropHostLeaves hn), hline]

end

theorem lineFlr_gives_of_leader {s : State} {l : LineId} (ha : s.host.attached = true) (hl : s.isLeader l = true)
    (hq : s.queues = []) (hc : ∀ k < 128, (s.chan k).queue = []) (hn : NothingQueued s l) :
    Gives (.lineFlr l) s fun t => t.claimed l = false ∧ t.flag (xlKey l 8) 0 = false ∧ t.mem = s.mem
      ∧ if (s.line l).st.isUp ∧ (s.line l).survive = false then (t.line l).st = .stopping
        else (t.line l).st = (s.line l).st := by
  have hn' : NothingQueued s.clean l := ⟨hn.launches, hn.layers, hn.commands⟩
  have hflr : s.clean.lineFlr l = ((s.clean.detachLine l).unclaim l).resetFunction (l + 1) := by
    have hl' : s.clean.isLeader l = true := hl
    rw [lineFlr_of_attached (s := s.clean) ha, hl', when_true]
  have hkept {α : Type} (p : State → α) (hcalm : ∀ x, p (calm x) = p x)
      (hp : ∀ x ps ys, p { x with ponds := ps, layers := ys } = p x) :
      p (s.clean.detachLine l) = p (s.clean.dropHostLeaves l) := detachLine_keeps (s := s.clean) hq hc hn' p hcalm hp
  have hmis : (s.clean.detachLine l).misuse = none := (hkept State.misuse (fun _ => rfl) fun _ _ _ => rfl).trans
    (dropHostLeaves_keeps State.misuse (fun _ _ _ => rfl) (fun _ _ _ => rfl) s.clean l)
  have hmem : (s.clean.detachLine l).mem = s.mem := (hkept State.mem (fun _ => rfl) fun _ _ _ => rfl).trans
    (dropHostLeaves_keeps State.mem (fun _ _ _ => rfl) (fun _ _ _ => rfl) s.clean l)
  have hoff : (s.clean.detachLine l).flag (xlKey l 8) 0 = false :=
    (hkept (State.flag · (xlKey l 8) 0) (fun _ => rfl) fun _ _ _ => rfl).trans (flag_dropHostLeaves s.clean l)
  have hline : (s.clean.detachLine l).line l
      = if (s.line l).survive then s.line l else Line.stopped 2 (s.line l) := line_detachLine (s := s.clean) hq hc hn'
  generalize s.clean.detachLine l = u at hflr hmis hmem hoff hline
  refine ⟨_, runU_of_none s (fun s => s.lineFlr l) (by rw [hflr]; exact hmis), ?_⟩
  rw [hflr]
  refine ⟨(claimed_unclaim u l l).trans (if_pos rfl), ?_, hmem, ?_⟩
  · have hkey : xlKey l 8 % 2 ^ 28 < 0x80000 ∨ 0x88000 ≤ xlKey l 8 % 2 ^ 28 := by
      simp only [xlKey, lnKey]
      omega
    exact (flag_resetFunction (s := u.unclaim l) hkey 0).trans hoff
  · show if _ then (u.line l).st = _ else (u.line l).st = _
    rw [hline]
    cases (s.line l).survive <;> cases hup : (s.line l).st.isUp <;> simp [Line.stopped, hup]

/-! PF0's reset. -/

/-- A load that completes changes nothing but the Timetable's registers, the load and what reports write. -/
theorem ttComplete_keeps {α : Type} (p : State → α) (hu : ∀ x, p (unreported x) = p x)
    (hl : ∀ x, p { x with ttLoad := none } = p x) (hr : ∀ t k v, p (State.setReg t k v) = p t) (s : State) (src : TtSrc)
    (r : TtRefusal) : p (s.ttComplete src r) = p s := by
  have hreport {x y : State} (h : unreported x = unreported y) : p x = p y :=
    (hu x).symm.trans ((congrArg p h).trans (hu y))
  unfold State.ttComplete
  extract_lets idle told logged
  have htold : p told = p s := (hr _ _ _).trans ((hr _ _ _).trans ((hr _ _ _).trans (hl s)))
  have hlogged : p logged = p told := by
    dsimp only [logged]
    cases r.code != 0 with
    | false => rfl
    | true => exact hreport (unreported_logEvent told _ _ _ _ _ _)
  exact (hreport (unreported_signal logged 0 0)).trans (hlogged.trans htold)

theorem ttHostGone_keeps {α : Type} (p : State → α) (hu : ∀ x, p (unreported x) = p x)
    (hl : ∀ x, p { x with ttLoad := none } = p x) (hr : ∀ t k v, p (State.setReg t k v) = p t) (s : State) :
    p s.ttHostGone = p s := by
  unfold State.ttHostGone
  split
  · split
    · exact ttComplete_keeps p hu hl hr s _ _
    · rfl
  · rfl

theorem pf0Flr_gives {s : State} (ha : s.host.attached = true) :
    Gives .pf0Flr s fun t => t.host.cause = 4 ∧ t.host.hdm = [] ∧ t.host.pf0Bar = 0 ∧ t.host.claimed = s.host.claimed
      ∧ t.host.gen = s.host.gen ∧ t.host.attached = true ∧ t.mem = s.mem ∧ t.lines = s.lines := by
  have hflr : s.pf0Flr = (State.resetFunction { s with host := { s.host with cause := 4, hdm := [] } } 0).ttHostGone :=
    if_pos ha
  have hkept {α : Type} (p : State → α) (hu : ∀ x, p (unreported x) = p x)
      (hl : ∀ x, p { x with ttLoad := none } = p x) (hr : ∀ t k v, p (State.setReg t k v) = p t) :
      p s.pf0Flr = p (State.resetFunction { s with host := { s.host with cause := 4, hdm := [] } } 0) := by
    rw [hflr]
    exact ttHostGone_keeps p hu hl hr _
  have hhost {α : Type} (p : HostPort → α) (hp : ∀ h, p { h with signals := 0, vectors := [] } = p h) :
      p s.pf0Flr.host = p (State.resetFunction { s with host := { s.host with cause := 4, hdm := [] } } 0).host :=
    hkept (fun x => p x.host) (fun x => hp x.host) (fun _ => rfl) fun _ _ _ => rfl
  exact ⟨_, rfl, hhost HostPort.cause fun _ => rfl, hhost HostPort.hdm fun _ => rfl, hhost HostPort.pf0Bar fun _ => rfl,
    hhost HostPort.claimed fun _ => rfl, hhost HostPort.gen fun _ => rfl, (hhost HostPort.attached fun _ => rfl).trans ha,
    hkept State.mem (fun _ => rfl) (fun _ => rfl) fun _ _ _ => rfl,
    hkept State.lines (fun _ => rfl) (fun _ => rfl) fun _ _ _ => rfl⟩

/-! LN_WIN_BASE (R308). -/

/-- A write of LN_WIN_BASE with 0 in its reserved bits moves the window of an unlocked Line where it meets the Line's memory. -/
theorem writeWinBase_eq {s : State} {l : Nat} {v : Word} (hv : v.field 20 44 = 0) :
    s.writeWinBase l v = if (s.line l).locked || !s.meetsOwn l (v.field 0 20 * 2 ^ 32) (2 ^ 32) then s
      else s.setReg (lnKey l 0x110) (BitVec.ofNat 64 (v.field 0 20)) := by
  simp only [State.writeWinBase, hv, bne_self_eq_false, undefIf_false]

/-- A write of LN_WIN_BASE by a path that may write. -/
theorem winBaseWrite_gives {s u : State} {via : Via} {l : LineId} {v : Word} {P : State → Prop} (hw : s.lnWrites via l = true)
    (hu : s.clean.writeWinBase l v = u) (hm : u.misuse = none) (hP : P (u.keeping s)) :
    Gives (.winBaseWrite via l v) s P := by
  have hwrite : s.clean.lnWrite via l (·.writeWinBase l v) = u := by
    have hw' : s.clean.lnWrites via l = true := hw
    rw [State.lnWrite, if_pos hw', hu, noted_of_none u via hm]
  refine ⟨_, runU_of_none s (fun s => s.lnWrite via l (·.writeWinBase l v)) (by rw [hwrite, hm]), ?_⟩
  rw [hwrite]
  exact hP

/-- Settles O36: each event is a change of the port's record, of one register or of the Line's record, and of what its lemma
names; reports change none of it. -/
theorem functionEvents : Obligations.FunctionEvents := by
  unfold Obligations.FunctionEvents
  intro s via l v
  refine ⟨fun hv => ⟨fun ha hw hg => claim_gives hv ha hw hg, fun h => claim_gives_same hv h⟩,
    fun ha => ⟨lineFlr_gives_of_member ha, lineFlr_gives_of_leader ha, pf0Flr_gives ha⟩,
    fun hw hv => ⟨fun hlock hown => ?moves, fun h => ?stays⟩⟩
  case moves =>
    have hcond : ((s.clean.line l).locked || !s.clean.meetsOwn l (v.field 0 20 * 2 ^ 32) (2 ^ 32)) = false := by
      have hown' : s.clean.meetsOwn l (v.field 0 20 * 2 ^ 32) (2 ^ 32) = true := hown
      rw [clean_line, hlock, hown']
      rfl
    have hu := (writeWinBase_eq (s := s.clean) (l := l) hv).trans (if_neg (by rw [hcond]; exact Bool.false_ne_true))
    exact winBaseWrite_gives hw hu rfl (onlyReg_setReg s _ _)
  case stays =>
    have hcond : ((s.clean.line l).locked || !s.clean.meetsOwn l (v.field 0 20 * 2 ^ 32) (2 ^ 32)) = true := by
      rcases h with h | h
      · rw [clean_line, h]
        rfl
      · have hown : s.clean.meetsOwn l (v.field 0 20 * 2 ^ 32) (2 ^ 32) = false := h
        rw [hown, Bool.not_false, Bool.or_true]
    exact winBaseWrite_gives hw ((writeWinBase_eq (s := s.clean) (l := l) hv).trans (if_pos hcond)) rfl rfl

end Sys2Proof.Proofs
end

section
/-!
PROOFS. Rules for memory (R34, R219, R294, R295): what granules have in common, what a quiet granule's home does, and how
directories and caches make room.
-/
namespace Sys2Proof.Proofs

open Sys2Proof Sys2Proof.Machine Sys2Proof.Safety Sys2Proof.Laws

/-! A quiet granule: nothing is under way on it, and no bit error waits to be found in it (R219, R294). -/

theorem eccRead_of_no_error {s : State} {g : Nat} (h : tblGet 0 s.errs g = 0) (scrub : Bool) : s.eccRead scrub g = s := by
  simp [State.eccRead, h]

theorem wbFlying_of_not_moving {s : State} {g : Nat} (h : s.movingData g = none) : s.wbFlying g = none := by
  simp only [State.movingData, Option.orElse_eq_none,
    Option.map_eq_none_iff] at h
  obtain ⟨-, -, hsent⟩ := h
  exact hsent

section
variable {s : State} {g : Nat} (hq : Quiet s g)
include hq

theorem settleLine_of_quiet : s.settleLine g = s := by
  simp only [State.settleLine, wbFlying_of_not_moving hq.moving, hq.txn]

theorem serveLine_of_quiet : s.serveLine g = s := by
  have hnone : s.coh.waits.filter (fun w => w.line == g) = [] :=
    List.filter_eq_nil_iff.mpr fun w hw => by simpa using List.any_eq_false.mp hq.waits w hw
  rw [State.serveLine, hnone]
  rfl

theorem mergeBase_of_quiet (whole : Bool) : s.mergeBase g whole = s := by
  simp only [State.mergeBase, settleLine_of_quiet hq, eccRead_of_no_error hq.errs, ite_self]

theorem readNow_of_quiet (hgood : s.onFailed (g * 64) = none) : s.readNow g = (s.granule g, s) := by
  simp only [State.readNow, hgood, eccRead_of_no_error hq.errs, ite_self]

theorem readHome_of_quiet (hgood : s.onFailed (g * 64) = none) : s.readHome g = (s.granule g, s) := by
  rw [State.readHome, settleLine_of_quiet hq, readNow_of_quiet hq hgood]

theorem settleOwn_of_quiet {a : Nat} (hw : s.wbOf a g = none) : s.settleOwn a g = s := by
  simp only [State.settleOwn, settleLine_of_quiet hq, hw]

end

/-! Directory records (R294, R298). -/

theorem filter_tblSet_other {α : Type} [DecidableEq α] (d : α) (t : Tbl α) (k : Nat) (v : α) :
    (tblSet d t k v).filter (fun e => e.1 != k) = t.filter fun e => e.1 != k := by
  have hinsert : (tblInsert t k v).filter (fun e => e.1 != k) = t.filter fun e => e.1 != k := by
    induction t with
    | nil => simp [tblInsert]
    | cons e r ih =>
      obtain ⟨j, w⟩ := e
      unfold tblInsert
      split_ifs with h1 h2
      · simp
      · simp [h2]
      · simp only [List.filter_cons, ih]
  unfold tblSet
  split_ifs
  · simp [tblErase]
  · exact hinsert

theorem redirect_mem (s : State) (g : Nat) : (s.redirect g).mem = s.mem := rfl

theorem dropCopy_mem (s : State) (a g : Nat) : (s.dropCopy a g).mem = s.mem := rfl

theorem putGranule_mem (s : State) (g : Nat) (d : List Byte) (p : Bool) : (s.putGranule g d p).mem = memPut s.mem (g * 64) d := rfl

/-- A line that one agent holds in M or E is recorded as that agent's. -/
theorem redirect_of_sole {s : State} {a g : Nat} {c : CacheLine} (hh : s.holders g = [a]) (hc : s.copy a g = some c)
    (hs : c.st ≠ .s) (ho : c.st ≠ .o) :
    s.redirect g = { s with coh := { s.coh with dir := tblSet .inv s.coh.dir g (.owned a) } } := by
  simp [State.redirect, hh, hc, hs, ho]

/-- A line that no agent holds and none writes back is recorded as held by none. -/
theorem redirect_of_unheld {s : State} {g : Nat} (hh : s.holders g = []) (hw : s.wbFlying g = none) :
    s.redirect g = { s with coh := { s.coh with dir := tblSet .inv s.coh.dir g .inv } } := by
  simp [State.redirect, hh, hw]

theorem dir_redirect_other (s : State) (g : Nat) :
    (s.redirect g).coh.dir.filter (fun e => e.1 != g) = s.coh.dir.filter fun e => e.1 != g := filter_tblSet_other _ _ _ _

/-- A directory that records no other line has room for this one. -/
theorem makeRoom_of_alone {s : State} {g : Nat} (h : s.coh.dir.filter (fun e => e.1 != g) = []) : s.makeRoom g = s := by
  have hnone (p q : Nat × DirEntry → Bool) : s.coh.dir.filter (fun e => e.1 != g && p e && q e) = [] :=
    List.filter_eq_nil_iff.mpr fun e he => by simp_all [List.filter_eq_nil_iff.mp h e he]
  unfold State.makeRoom
  split
  · rfl
  · rw [hnone (fun e => (s.target (e.1 * 64)).memBasin == some _) fun e => (s.txnOf e.1).isNone]
    rfl

/-- A grant of a line leaves a directory without other records as it has formed it. -/
theorem makeRoom_of_grant {s : State} {g : Nat} (h : s.coh.dir.filter (fun e => e.1 != g) = []) (a : Nat)
    (c : Option CacheLine) : ((s.setCopy a g c).redirect g).makeRoom g = (s.setCopy a g c).redirect g :=
  makeRoom_of_alone ((dir_redirect_other _ g).trans h)

/-! Room in a cache (R294). -/

theorem evictFor_of_room {s : State} {a : Nat} (g : Nat)
    (h : (s.coh.caches.filter fun e => e.1 / 2 ^ 46 == a).length < cacheLines a) : s.evictFor a g = s := by
  simp only [State.evictFor, List.length_map, if_pos h]

/-- A full cache gives up a line in M by writing it back. -/
theorem evictFor_of_full {s : State} {a g x : Nat} {c : CacheLine} {mine free : List Nat}
    (hmine : ((s.coh.caches.filter fun e => e.1 / 2 ^ 46 == a).map (·.1 % 2 ^ 46)) = mine)
    (hfull : cacheLines a ≤ mine.length) (hfree : (mine.filter fun x => x != g && (s.txnOf x).isNone) = free)
    (hx : free[s.free % free.length]? = some x) (hc : s.copy a x = some c) (hd : c.st = .m)
    (hgood : s.onFailed (x * 64) = none) :
    s.evictFor a g = ((s.bump.putGranule x c.data c.poison).dropCopy a x).redirect x := by
  have hc' : s.bump.copy a x = some c := hc
  have hgood' : s.bump.onFailed (x * 64) = none := hgood
  simp only [State.evictFor, hmine, if_neg (Nat.not_lt.mpr hfull), hfree, hx, hc', hgood', hd]
  rfl

/-- A core that obtains a line which no agent holds, with room for it in its cache and in a directory without other
records. -/
theorem obtainShared_of_unheld {s : State} {a g : Nat} (hq : Quiet s g) (hw : s.wbOf a g = none)
    (hgood : s.onFailed (g * 64) = none) (hc : s.copy a g = none) (hh : s.holders g = []) (hd : s.dirOf g = .inv)
    (hroom : (s.coh.caches.filter fun e => e.1 / 2 ^ 46 == a).length < cacheLines a)
    (halone : s.coh.dir.filter (fun e => e.1 != g) = []) :
    s.obtainShared a g
      = (s.setCopy a g (some { st := .e, data := (s.granule g).1, poison := (s.granule g).2 })).redirect g := by
  simp only [State.obtainShared, settleOwn_of_quiet hq hw, hc, readNow_of_quiet hq hgood, hd, DirEntry.owner, hh,
    State.hold, evictFor_of_room g hroom, makeRoom_of_grant halone]
  rfl

end Sys2Proof.Proofs
end

section
/-!
PROOFS. Why a core's atomic access can change memory behind the caches (R294, R410): a core whose cache has one place left
takes it for the line that it reads, and its write then gives up another line, though it holds the one that it writes.
-/
namespace Sys2Proof.Proofs

open Sys2Proof Sys2Proof.Machine Sys2Proof.Safety Sys2Proof.Laws

/-! What a command through `runU` leaves. -/

theorem runU_next {f : State → State} {s t : State} (h : runU f s = .next t) : t = (f s.clean).keeping s := by
  unfold runU at h
  split at h
  · cases h
  · cases h
    rfl

/-! The lines that fill the cache of core 0. -/

/-- A dirty line of ones. -/
def onesLine : CacheLine := { st := .m, data := List.replicate 64 1 }

/-- Core 0 holds the lines 1 to `n`, each dirty. -/
def onesLines (n : Nat) : Tbl (Option CacheLine) := (List.range n).map fun i => (i + 1, some onesLine)

theorem tblGet_append {α : Type} (d : α) (t u : Tbl α) (k : Nat) : tblGet d (t ++ u) k = tblGet (tblGet d u k) t k := by
  induction t with
  | nil => rfl
  | cons e r ih =>
    obtain ⟨j, v⟩ := e
    by_cases h : j = k <;> simp [tblGet, h, ih]

theorem tblGet_map_range {α : Type} (d v : α) (n k : Nat) :
    tblGet d ((List.range n).map fun i => (i + 1, v)) k = if 1 ≤ k ∧ k ≤ n then v else d := by
  induction n generalizing d with
  | zero => rw [if_neg (by omega)]; rfl
  | succ n ih =>
    rw [List.range_succ, List.map_append, tblGet_append, ih]
    by_cases h : k = n + 1
    · simp [tblGet, h]
    · have h1 : (1 ≤ k ∧ k ≤ n + 1) ↔ (1 ≤ k ∧ k ≤ n) := by omega
      simp [tblGet, Ne.symm h, h1]

theorem onesLines_get (n k : Nat) : tblGet none (onesLines n) k = if 1 ≤ k ∧ k ≤ n then some onesLine else none :=
  tblGet_map_range _ _ _ _

/-- All of them are core 0's. -/
theorem onesLines_mine {n : Nat} (h : n < 2 ^ 46) : (onesLines n).filter (fun e => e.1 / 2 ^ 46 == 0) = onesLines n := by
  refine List.filter_eq_self.mpr fun e he => ?_
  obtain ⟨i, hi, rfl⟩ := List.mem_map.mp he
  have := List.mem_range.mp hi
  exact beq_iff_eq.mpr (Nat.div_eq_of_lt (by omega))

/-- None of them is line 0. -/
theorem onesLines_zero {n : Nat} (h : n + 1 < 2 ^ 46) : (onesLines n).filter (fun e => e.1 % 2 ^ 46 == 0) = [] := by
  refine List.filter_eq_nil_iff.mpr fun e he => ?_
  obtain ⟨i, hi, rfl⟩ := List.mem_map.mp he
  have := List.mem_range.mp hi
  rw [Nat.mod_eq_of_lt (by omega)]
  simp

/-- The numbers of these lines. -/
theorem onesLines_lines {n : Nat} (h : n < 2 ^ 46) :
    (onesLines n).map (fun e => e.1 % 2 ^ 46) = (List.range n).map (· + 1) := by
  rw [onesLines, List.map_map]
  refine List.map_congr_left fun i hi => ?_
  have := List.mem_range.mp hi
  exact Nat.mod_eq_of_lt (by dsimp only; omega)

/-! A module whose registers hold their reset values. -/

theorem regReset_memFailed (b : Nat) : regReset (memKey b 8) = 0 := by
  have h1 : memKey b 8 / 2 ^ 28 = b + 16 := by simp only [memKey, bKey]; omega
  have h2 : memKey b 8 % 2 ^ 28 = 0xC00008 := by simp only [memKey, bKey]; omega
  unfold regReset
  simp only [h1, h2]
  rw [if_neg (by omega), if_pos (by omega)]
  rfl

/-- No channel is declared failed at reset (R243). -/
theorem onFailed_of_no_regs {s : State} (h : s.regs = []) (a : Nat) : s.onFailed a = none := by
  have hflag (b i : Nat) : s.flag (memKey b 8) i = false := by
    simp [State.flag, State.reg, h, regReset_memFailed, Word.flag]
  unfold State.onFailed
  split
  · rw [hflag]
    rfl
  · rfl

/-! The counterexample. -/

/-- A Line of one basin runs with one core, whose cache holds `n` lines in M. The directory records none of them: how many
entries it has is open, and an empty one shows that the write-back comes from the cache alone. -/
def dirtyCore (n : Nat) : State :=
  { leaders := [(0, 0)], bindings := [(32, 0)], lines := [(0, { st := .running })], harts := [(0, { mode := .run })]
    basinMem := [(0, { selfRefresh := false })], coh := { caches := onesLines n } }

/-- The core has read line 0 as well. -/
def dirtyCoreRead (n : Nat) : State :=
  { dirtyCore n with
    coh := { caches := (0, some { st := .e, data := List.replicate 64 0 }) :: onesLines n, dir := [(0, .owned 0)] } }

section
variable {n : Nat} (hn : n + 1 = cacheLines 0)
include hn

theorem dirtyCore_bound : n + 1 < 2 ^ 46 := hn ▸ (by decide : cacheLines 0 < 2 ^ 46)

theorem dirtyCore_room : ((dirtyCore n).coh.caches.filter fun e => e.1 / 2 ^ 46 == 0).length < cacheLines 0 := by
  have hlt := dirtyCore_bound hn
  have hmine : (dirtyCore n).coh.caches.filter (fun e => e.1 / 2 ^ 46 == 0) = onesLines n := onesLines_mine (by omega)
  rw [hmine, onesLines, List.length_map, List.length_range]
  omega

theorem dirtyCore_holders : (dirtyCore n).holders 0 = [] :=
  congrArg (List.map _) (onesLines_zero (dirtyCore_bound hn))

theorem obtainShared_dirtyCore : (dirtyCore n).obtainShared 0 0 = dirtyCoreRead n := by
  have hset (v : Option CacheLine) : tblInsert (onesLines n) 0 v = (0, v) :: onesLines n := by
    obtain ⟨m, rfl⟩ : ∃ m, n = m + 1 := ⟨n - 1, by have : 1 < cacheLines 0 := by decide
                                                   omega⟩
    rw [onesLines, List.range_succ_eq_map]
    rfl
  have hshared := obtainShared_of_unheld (s := dirtyCore n) (a := 0) (g := 0) ⟨rfl, rfl, rfl, rfl⟩ rfl
    (onFailed_of_no_regs rfl _) (onesLines_get n 0) (dirtyCore_holders hn) rfl (dirtyCore_room hn) rfl
  have hheld : (dirtyCore n).setCopy 0 0 (some { st := .e, data := List.replicate 64 0 })
      = { dirtyCore n with coh := { caches := (0, some { st := .e, data := List.replicate 64 0 }) :: onesLines n } } := by
    simp only [State.setCopy, dirtyCore, tblSet, reduceCtorEq, if_false, Nat.zero_mul, Nat.zero_add, hset]
  refine hshared.trans ((congrArg (State.redirect · 0) hheld).trans ?_)
  refine redirect_of_sole (c := { st := .e, data := List.replicate 64 0 }) ?_ rfl (by decide) (by decide)
  exact congrArg (fun t => 0 :: List.map _ t) (onesLines_zero (dirtyCore_bound hn))

/-- The line that the full cache gives up. -/
def victim (n : Nat) : Nat := (dirtyCoreRead n).free % n + 1

/-- The state after it has been given up. -/
def victimGone (n : Nat) : State :=
  (((dirtyCoreRead n).bump.putGranule (victim n) onesLine.data false).dropCopy 0 (victim n)).redirect (victim n)

theorem victim_le : 1 ≤ victim n ∧ victim n ≤ n := by
  have hpos : 0 < n := by
    have : 1 < cacheLines 0 := by decide
    omega
  have := Nat.mod_lt (dirtyCoreRead n).free hpos
  unfold victim
  omega

theorem evictFor_dirtyCoreRead : (dirtyCoreRead n).evictFor 0 0 = victimGone n := by
  have hlt := dirtyCore_bound hn
  have hvictim := victim_le hn
  have hmine : ((dirtyCoreRead n).coh.caches.filter fun e => e.1 / 2 ^ 46 == 0).map (·.1 % 2 ^ 46)
      = 0 :: (List.range n).map (· + 1) := by
    have hlines : (dirtyCoreRead n).coh.caches.filter (fun e => e.1 / 2 ^ 46 == 0)
        = (0, some { st := .e, data := List.replicate 64 0 }) :: onesLines n :=
      congrArg (List.cons _) (onesLines_mine (by omega))
    rw [hlines, List.map_cons, onesLines_lines (by omega)]
    rfl
  have hfree : (0 :: (List.range n).map (· + 1)).filter (fun x => x != 0 && ((dirtyCoreRead n).txnOf x).isNone)
      = (List.range n).map (· + 1) := by
    have hothers : ∀ x ∈ (List.range n).map (· + 1), (x != 0 && ((dirtyCoreRead n).txnOf x).isNone) = true := by
      intro x hx
      obtain ⟨i, -, rfl⟩ := List.mem_map.mp hx
      rfl
    exact List.filter_eq_self.mpr hothers
  have hfull : cacheLines 0 ≤ (0 :: (List.range n).map (· + 1)).length := by
    rw [List.length_cons, List.length_map, List.length_range, hn]
  have hpick : ((List.range n).map (· + 1))[(dirtyCoreRead n).free % ((List.range n).map (· + 1)).length]?
      = some (victim n) := by
    rw [List.length_map, List.length_range, List.getElem?_map, List.getElem?_range (by unfold victim at hvictim; omega)]
    rfl
  have hcopy : (dirtyCoreRead n).copy 0 (victim n) = some onesLine := by
    have hget : (dirtyCoreRead n).copy 0 (victim n) = tblGet none (onesLines n) (victim n) := by
      simp only [State.copy, dirtyCoreRead, Nat.zero_mul, Nat.zero_add, tblGet]
      rw [if_neg (by omega)]
    rw [hget, onesLines_get, if_pos hvictim]
  exact evictFor_of_full hmine hfull hfree hpick hcopy rfl (onFailed_of_no_regs rfl _)

theorem victimGone_dir : (victimGone n).coh.dir.filter (fun e => e.1 != 0) = [] := by
  have hlt := dirtyCore_bound hn
  have hvictim := victim_le hn
  have hunheld : (((dirtyCoreRead n).bump.putGranule (victim n) onesLine.data false).dropCopy 0 (victim n)).holders
      (victim n) = [] := by
    refine congrArg (List.map _) (List.filter_eq_nil_iff.mpr fun e he => ?_)
    obtain ⟨hmem, hne⟩ := List.mem_filter.mp he
    have hkey : e.1 ≠ victim n := by simpa using hne
    have hsmall : e.1 < 2 ^ 46 := by
      rcases List.mem_cons.mp hmem with rfl | hmem
      · norm_num
      · obtain ⟨i, hi, rfl⟩ := List.mem_map.mp hmem
        have := List.mem_range.mp hi
        dsimp only
        omega
    rw [Nat.mod_eq_of_lt hsmall]
    simpa using hkey
  rw [victimGone, redirect_of_unheld hunheld rfl]
  refine List.filter_eq_nil_iff.mpr fun e he => ?_
  obtain ⟨hmem, -⟩ := List.mem_filter.mp he
  rw [List.mem_singleton.mp hmem]
  decide

/-- The write of line 0 writes another line back. -/
theorem mem_obtainUnique_dirtyCoreRead :
    ((dirtyCoreRead n).obtainUnique 0 0).mem = memPut [] (victim n * 64) onesLine.data := by
  have hholders : (dirtyCoreRead n).holders 0 = [0] :=
    congrArg (fun t => 0 :: List.map _ t) (onesLines_zero (dirtyCore_bound hn))
  have hown : (dirtyCoreRead n).settleOwn 0 0 = dirtyCoreRead n := rfl
  have hcopy : (dirtyCoreRead n).copy 0 0 = some { st := .e, data := List.replicate 64 0 } := rfl
  have hdir := victimGone_dir hn
  simp only [State.obtainUnique, hown, hcopy, hholders, State.hold]
  rw [show [0].filter (fun x => x != 0) = [] from rfl, List.foldl_nil, evictFor_dirtyCoreRead hn]
  have hmem : (victimGone n).mem = memPut [] (victim n * 64) onesLine.data := by
    rw [victimGone, redirect_mem, dropCopy_mem, putGranule_mem]
    rfl
  generalize victimGone n = gone at hdir hmem
  rw [makeRoom_of_grant hdir]
  exact hmem

end

/-! The access. -/

theorem mem_pokeCopy (s : State) (a g off : Nat) (d : List Byte) : (s.pokeCopy a g off d).mem = s.mem := by
  unfold State.pokeCopy
  split <;> rfl

/-- The waits on a counter hold no memory. -/
theorem mem_counterChanged (s : State) (l i : Nat) : (s.counterChanged l i).mem = s.mem := by
  unfold State.counterChanged
  extract_lets woken
  have hwoken : woken.mem = s.mem := by
    refine each_keeps State.mem (fun t u => ?_) _ s
    split
    · split
      · split <;> rfl
      · rfl
    · rfl
  clear_value woken
  exact hwoken

/-- An AMO leaves the memory that its write leaves. -/
theorem mem_coreAmo {s u w : State} {l h va a : Nat} {old : List Byte} {f : Nat → Nat} (halign : va % 8 = 0)
    (hva : s.coreVa l h va true = (.ok a, s)) (hpeek : s.corePeek l h a 8 = (.ok old, u))
    (hnote : (u.noteEntry a 8).noteJob a 8 = u) (hpoke : u.corePoke l h a (leBytes 8 (f (leNat old))) = (none, w)) :
    (s.coreAmo l h va f).mem = w.mem := by
  simp only [State.coreAmo, halign, ne_eq, not_true_eq_false, if_false, hva, hpeek, hnote, hpoke]
  split
  · rw [mem_counterChanged, emit_mem]
  · rw [emit_mem]

theorem dirtyCore_target (n : Nat) : (dirtyCore n).target 0 = .lpddr 0 0 := by
  have hchans : ((dirtyCore n).chansOf 0).length = 32 := by
    have hbmem : (dirtyCore n).bmem 0 = { selfRefresh := false } := rfl
    rw [State.chansOf, hbmem]
    decide
  simp [State.target, State.usable, hchans, usableGib]

theorem dirtyCore_ownMem (n : Nat) : (dirtyCore n).ownMem 0 0 = true := by
  rw [State.ownMem, dirtyCore_target]
  rfl

theorem dirtyCore_hart (n : Nat) : (dirtyCore n).hart 0 = { mode := .run } := rfl

theorem dirtyCore_coreOn (n : Nat) : (dirtyCore n).coreOn 0 0 = true := by
  rw [State.coreOn, dirtyCore_hart]
  rfl

/-- In M-mode the core's addresses are physical ones. -/
theorem dirtyCore_coreVa (n : Nat) : (dirtyCore n).coreVa 0 0 0 true = (.ok 0, dirtyCore n) := by
  have hpriv : ((dirtyCore n).hart 0).dataPriv = 3 := by
    rw [dirtyCore_hart]
    decide
  exact if_pos (.inl hpriv)

section
variable {n : Nat} (hn : n + 1 = cacheLines 0)
include hn

/-- The core reads line 0 and takes its last place for it. -/
theorem corePeek_dirtyCore : (dirtyCore n).corePeek 0 0 0 8 = (.ok (List.replicate 8 0), dirtyCoreRead n) := by
  have hgood : (dirtyCore n).onFailed 0 = none := onFailed_of_no_regs rfl 0
  have htouch : (dirtyCore n).touchMem 0 = dirtyCore n := by
    rw [State.touchMem, dirtyCore_target]
    rfl
  have hgranule : (dirtyCoreRead n).granule 0 = (List.replicate 64 0, false) := rfl
  simp [State.corePeek, dirtyCore_ownMem, hgood, htouch, obtainShared_dirtyCore hn, hgranule]

omit hn in
theorem corePoke_dirtyCoreRead (d : List Byte) : (dirtyCoreRead n).corePoke 0 0 0 d
    = (none, ((dirtyCoreRead n).obtainUnique 0 0).pokeCopy 0 0 0 d) := by
  have htarget : (dirtyCoreRead n).target 0 = .lpddr 0 0 := dirtyCore_target n
  have hown : (dirtyCoreRead n).ownMem 0 0 = true := by
    rw [State.ownMem, htarget]
    rfl
  have hgood : (dirtyCoreRead n).onFailed 0 = none := onFailed_of_no_regs rfl 0
  have htouch : (dirtyCoreRead n).touchMem 0 = dirtyCoreRead n := by
    rw [State.touchMem, htarget]
    rfl
  simp [State.corePoke, hown, hgood, htouch]

/-- The core's AMOADD on line 0 writes another line back. -/
theorem mem_amo_dirtyCore :
    ((dirtyCore n).coreAccess 0 (.amoAdd 0 0)).mem = memPut [] (victim n * 64) onesLine.data := by
  have hdo : (dirtyCore n).coreAccess 0 (.amoAdd 0 0) = (dirtyCore n).coreAmo 0 0 0 fun x => x + (0 : Word).toNat := by
    have hlead : (dirtyCore n).leaderOf 0 = 0 := rfl
    have hworks : ((dirtyCore n).line 0).st.works = true := rfl
    simp [State.coreAccess, hlead, dirtyCore_coreOn, hworks, dirtyCore_hart, State.coreDo]
  have hnote : ((dirtyCoreRead n).noteEntry 0 8).noteJob 0 8 = dirtyCoreRead n := rfl
  rw [hdo, mem_coreAmo (Nat.zero_mod 8) (dirtyCore_coreVa n) (corePeek_dirtyCore hn) hnote (corePoke_dirtyCoreRead _), mem_pokeCopy,
    mem_obtainUnique_dirtyCoreRead hn]

end

theorem granule_dirtyCore (n : Nat) : (dirtyCore n).granule 0 = (List.replicate 64 0, false) := rfl

theorem mem_coreAmoAdd {s t : State} {h : HartId} {va : Nat} {v : Word}
    (ht : exec (.coreMemoryAccess h (.amoAdd va v)) s = .next t) : t.mem = (s.clean.coreAccess h (.amoAdd va v)).mem := by
  rw [runU_next (f := fun s => s.coreAccess h (.amoAdd va v)) ht]
  rfl

/-- Refutes O48: a core whose cache has room for one more line does an AMOADD on a line that no agent holds. Its read takes
the last place. Its write then finds the cache full, since `evictFor` counts the line that it writes, and gives up another
line, which is dirty, so that memory behind the caches changes. -/
theorem not_coreAccesses : ¬ Obligations.CoreAccesses := by
  unfold Obligations.CoreAccesses
  intro h
  have hn : 32767 + 1 = cacheLines 0 := rfl
  generalize 32767 = n at hn
  obtain ⟨s, hs⟩ : ∃ s, s = dirtyCore n := ⟨_, rfl⟩
  have hlead : s.leaderOf 0 = 0 := hs ▸ rfl
  have hcalm : s.coreOn (s.leaderOf 0) 0 = true ∧ (s.hart 0).mode = .run ∧ (s.line (s.leaderOf 0)).st.works = true := by
    rw [hlead, hs]
    exact ⟨dirtyCore_coreOn n, rfl, rfl⟩
  have halone : s.ownMem (s.leaderOf 0) 0 = true ∧ s.onFailed 0 = none ∧ Quiet s 0 ∧ s.wbOf 0 0 = none ∧ CacheRoom s 0 0
      ∧ (s.granule 0).1.length = 64 ∧ s.holders 0 = [] ∧ s.dirOf 0 = .inv := by
    rw [hlead, hs]
    exact ⟨dirtyCore_ownMem n, onFailed_of_no_regs rfl 0, ⟨rfl, rfl, rfl, rfl⟩, rfl, ⟨dirtyCore_room hn, .inl rfl⟩,
      by rw [granule_dirtyCore]; rfl, dirtyCore_holders hn, rfl⟩
  have hplain : (s.granule 0).2 = false ∧ s.meetsEntry 0 8 = false ∧ s.meetsJob 0 8 = false := by
    rw [hs]
    exact ⟨rfl, rfl, rfl⟩
  have hva : s.clean.coreVa (s.leaderOf 0) 0 0 true = (.ok 0, s.clean) := by
    rw [hlead, hs]
    exact dirtyCore_coreVa n
  obtain ⟨hown, hgood, hquiet, hwb, hroom, hlength, hunheld⟩ := halone
  obtain ⟨hpoison, hentry, hjob⟩ := hplain
  obtain ⟨-, -, -, -, haccess⟩ := h s 0 0 0 ⟨hlead ▸ (by decide), hcalm⟩
  obtain ⟨-, -, -, hamo, -⟩ := haccess ⟨hown, hgood, hquiet, hwb, hroom, hlength, .inl hunheld⟩
  obtain ⟨⟨t, ht, -, -, -, hmem⟩, -⟩ := hamo rfl hpoison hva hentry hjob 0
  have hwritten : s.mem = memPut [] (victim n * 64) onesLine.data := by
    rw [← hmem, mem_coreAmoAdd ht, hs]
    exact mem_amo_dirtyCore hn
  have hbyte : tblGet 0 (memPut [] (victim n * 64) onesLine.data) (victim n * 64) = 1 := by
    rw [memPut_get, if_pos ⟨le_refl _, Nat.lt_add_of_pos_right (by decide)⟩, Nat.sub_self]
    rfl
  rw [← hwritten, hs] at hbyte
  exact absurd (show (0 : Byte) = 1 from hbyte) (by decide)

end Sys2Proof.Proofs
end

section
/-!
PROOFS. What accesses to memory and translations leave unchanged (R219, R272 to R279, R294 to R298): they change memory with its
poison, bit errors and check words, caches and directories, cached translations, harts, registers, records of Lines and basins,
and what reports write.
-/
namespace Sys2Proof.Proofs

open Sys2Proof Sys2Proof.Machine Sys2Proof.Safety Sys2Proof.Laws

/-- The state without what an access to memory can change. -/
def unaccessed (s : State) : State :=
  { calm s with
    freeCtr := 0, misuse := none, regs := [], mem := [], poison := [], errs := [], chkDiff := [], tlbs := [], coh := {}
    harts := [] }

/-- What depends on none of these is the same in states that differ in them alone. -/
theorem keeps_of_unaccessed {α : Type} {s t : State} (h : unaccessed t = unaccessed s) (p : State → α)
    (hp : ∀ x, p (unaccessed x) = p x) : p t = p s := (hp t).symm.trans ((congrArg p h).trans (hp s))

theorem unaccessed_of_calm {s t : State} (h : calm t = calm s) : unaccessed t = unaccessed s :=
  congrArg (fun x => ({ x with
    freeCtr := 0, misuse := none, regs := [], mem := [], poison := [], errs := [], chkDiff := [], tlbs := [], coh := {},
    harts := [] } : State)) h

theorem unaccessed_of_unreported {s t : State} (h : unreported t = unreported s) : unaccessed t = unaccessed s :=
  unaccessed_of_calm (calm_of_offLines (congrArg (fun x => ({ x with lines := [] } : State)) h))

section
variable (s : State)

@[simp] theorem unaccessed_setReg (k : Nat) (v : Word) : unaccessed (s.setReg k v) = unaccessed s := rfl
@[simp] theorem unaccessed_setFlag (k i : Nat) (b : Bool) : unaccessed (s.setFlag k i b) = unaccessed s := rfl
@[simp] theorem unaccessed_count (k n : Nat) : unaccessed (s.count k n) = unaccessed s := rfl
@[simp] theorem unaccessed_emit (m : Msg) : unaccessed (s.emit m) = unaccessed s := rfl
@[simp] theorem unaccessed_modHart (k : Nat) (f : Core → Core) : unaccessed (s.modHart k f) = unaccessed s := rfl
@[simp] theorem unaccessed_setCopy (a g : Nat) (c : Option CacheLine) : unaccessed (s.setCopy a g c) = unaccessed s := rfl
@[simp] theorem unaccessed_dropCopy (a g : Nat) : unaccessed (s.dropCopy a g) = unaccessed s := rfl
@[simp] theorem unaccessed_dropCopies (g : Nat) : unaccessed (s.dropCopies g) = unaccessed s := rfl
@[simp] theorem unaccessed_redirect (g : Nat) : unaccessed (s.redirect g) = unaccessed s := rfl
@[simp] theorem unaccessed_setTxn (g : Nat) (t : Option CohTxn) : unaccessed (s.setTxn g t) = unaccessed s := rfl
@[simp] theorem unaccessed_putGranule (g : Nat) (d : List Byte) (p : Bool) : unaccessed (s.putGranule g d p) = unaccessed s :=
  rfl
@[simp] theorem unaccessed_loseGranule (g : Nat) : unaccessed (s.loseGranule g) = unaccessed s := rfl
@[simp] theorem unaccessed_clearErr (g : Nat) : unaccessed (s.clearErr g) = unaccessed s := rfl
@[simp] theorem unaccessed_freeBytes (n : Nat) : unaccessed (s.freeBytes n).2 = unaccessed s := rfl
@[simp] theorem unaccessed_memErrLog (b x : Nat) (ue scrub : Bool) : unaccessed (s.memErrLog b x ue scrub) = unaccessed s :=
  unaccessed_setReg s _ _
@[simp] theorem unaccessed_rsvErrLog (b x : Nat) (ue scrub : Bool) : unaccessed (s.rsvErrLog b x ue scrub) = unaccessed s :=
  unaccessed_setReg s _ _
@[simp] theorem unaccessed_noteCorrected (b k : Nat) : unaccessed (s.noteCorrected b k).2 = unaccessed s := rfl

@[simp] theorem unaccessed_undefIf (b : Bool) (c : Undefined) : unaccessed (s.undefIf b c) = unaccessed s := by
  cases b <;> rfl

@[simp] theorem unaccessed_logEvent (code src lines a0 a1 a2 : Nat) :
    unaccessed (s.logEvent code src lines a0 a1 a2) = unaccessed s :=
  unaccessed_of_unreported (unreported_logEvent s _ _ _ _ _ _)

/-! Interrupts and ECC (R219, R417 to R419). -/

theorem unaccessed_sendMsi (l src : Nat) : unaccessed (s.sendMsi l src) = unaccessed s := by
  unfold State.sendMsi
  extract_lets r h guest eiid
  have hguest : unaccessed (if guest ≤ 7 then (guest, s) else (s.free % 9, s.bump)).2 = unaccessed s := by
    split <;> rfl
  generalize (if guest ≤ 7 then (guest, s) else (s.free % 9, s.bump)) = o at hguest
  obtain ⟨file, t⟩ := o
  split
  · rfl
  · split
    · rfl
    · split
      · dsimp only at hguest ⊢
        generalize (if r.flag 7 then 0 else 1 + file) = target
        split
        · exact hguest
        · exact (unaccessed_modHart t _ _).trans hguest
      · exact unaccessed_setFlag s _ _ _

@[simp] theorem unaccessed_raise (l src : Nat) : unaccessed (s.raise l src) = unaccessed s := by
  refine Eq.trans ?_ (unaccessed_of_calm (calm_wakeExit s l))
  unfold State.raise State.route
  split
  · exact unaccessed_sendMsi _ l src
  · exact unaccessed_setFlag _ _ _ _

@[simp] theorem unaccessed_queueRow (b c row : Nat) : unaccessed (s.queueRow b c row) = unaccessed s := by
  unfold State.queueRow
  split <;> rfl

@[simp] theorem unaccessed_takeSubarray (b bank sub : Nat) : unaccessed (s.takeSubarray b bank sub) = unaccessed s := by
  unfold State.takeSubarray
  extract_lets m running
  split
  · rfl
  · split
    · exact unaccessed_setFlag s _ _ _
    · rfl

@[simp] theorem unaccessed_reportUe (b : Nat) (w : Word) (k : Nat) : unaccessed (s.reportUe b w k) = unaccessed s := by
  unfold State.reportUe State.when
  split <;> simp

/-- A corrected error is noted, and where its place has had too many, `f` follows. -/
theorem unaccessed_noted {f : State → State} (hf : ∀ t, unaccessed (f t) = unaccessed t) (b k m : Nat) :
    unaccessed (match s.noteCorrected b k with | (n, t) => if m < n then f t else t) = unaccessed s := by
  have hnoted := unaccessed_noteCorrected s b k
  generalize s.noteCorrected b k = o at hnoted ⊢
  obtain ⟨n, t⟩ := o
  dsimp only at hnoted ⊢
  split
  · rw [hf, hnoted]
  · exact hnoted

theorem unaccessed_eccFixed (scrub : Bool) (g : Nat) : unaccessed (s.eccFixed scrub g) = unaccessed s := by
  unfold State.eccFixed
  split
  next b x _ =>
    refine (unaccessed_noted _ (fun t => unaccessed_queueRow t _ _ _) _ _ _).trans ?_
    rw [unaccessed_memErrLog, unaccessed_count]
  next b x _ _ =>
    refine (unaccessed_noted _ (fun t => unaccessed_takeSubarray t _ _ _) _ _ _).trans ?_
    rw [unaccessed_rsvErrLog, unaccessed_count]
  next => rfl

theorem unaccessed_eccLost (scrub : Bool) (g : Nat) : unaccessed (s.eccLost scrub g) = unaccessed s := by
  unfold State.eccLost
  split <;> simp

theorem unaccessed_eccFixed_clearErr (scrub : Bool) (g : Nat) :
    unaccessed ((s.clearErr g).eccFixed scrub g) = unaccessed s := by
  rw [unaccessed_eccFixed, unaccessed_clearErr]

theorem unaccessed_eccLost_clearErr (scrub : Bool) (g : Nat) :
    unaccessed ((s.clearErr g).eccLost scrub g) = unaccessed s := by
  rw [unaccessed_eccLost, unaccessed_clearErr]

@[simp] theorem unaccessed_eccRead (scrub : Bool) (g : Nat) : unaccessed (s.eccRead scrub g) = unaccessed s := by
  unfold State.eccRead
  split
  · rfl
  · exact unaccessed_eccFixed_clearErr s scrub g
  · exact unaccessed_eccLost_clearErr s scrub g

/-! Homes (R294 to R298). -/

@[simp] theorem unaccessed_readNow (g : Nat) : unaccessed (s.readNow g).2 = unaccessed s := by
  unfold State.readNow
  split
  · exact (unaccessed_freeBytes _ 64).trans (unaccessed_count s _ 1)
  · dsimp only
    split
    · rfl
    · exact unaccessed_eccRead s false g

@[simp] theorem unaccessed_evictFor (a g : Nat) : unaccessed (s.evictFor a g) = unaccessed s := by
  unfold State.evictFor
  extract_lets mine free t
  split
  · rfl
  · split
    · dsimp only
      rw [unaccessed_redirect, unaccessed_dropCopy]
      split
      · split <;> rfl
      · rfl
    · rfl

@[simp] theorem unaccessed_makeRoom (g : Nat) : unaccessed (s.makeRoom g) = unaccessed s := by
  unfold State.makeRoom
  split
  · rfl
  · extract_lets used x t u
    split
    · rfl
    · rw [unaccessed_count, unaccessed_dropCopies]
      dsimp only [u]
      split
      · split <;> rfl
      · rfl

@[simp] theorem unaccessed_grant (a g : Nat) (st : Moesi) (d : List Byte × Bool) :
    unaccessed (s.grant a g st d) = unaccessed s := by
  simp [State.grant, State.hold]

theorem unaccessed_writeNow (a : Nat) (d : List Byte) (p : Bool) : unaccessed (s.writeNow a d p) = unaccessed s := by
  unfold State.writeNow
  extract_lets g t
  split
  · rfl
  · split
    · rfl
    · rw [unaccessed_putGranule, unaccessed_dropCopies]
      dsimp only [t]
      split <;> simp

theorem unaccessed_homeData (g : Nat) (o : Option (List Byte × Bool)) : unaccessed (s.homeData g o).2 = unaccessed s := by
  cases o
  · exact unaccessed_readNow s g
  · rfl

theorem unaccessed_finishTxn (t : CohTxn) : unaccessed (s.finishTxn t) = unaccessed s := by
  unfold State.finishTxn
  extract_lets u own v
  have hu : unaccessed u = unaccessed s := rfl
  have hv : unaccessed v = unaccessed s := by
    dsimp only [v]
    split <;> rfl
  split
  · exact (unaccessed_grant _ _ _ _ _).trans (unaccessed_homeData u _ _)
  · exact (unaccessed_grant _ _ _ _ _).trans (unaccessed_homeData u _ _)
  · exact (unaccessed_grant _ _ _ _ _).trans (unaccessed_homeData u _ _)
  · exact (unaccessed_emit _ _).trans (unaccessed_homeData u _ _)
  · exact unaccessed_writeNow u _ _ _
  · exact (unaccessed_writeNow v _ _ _).trans hv

@[simp] theorem unaccessed_homeSettle (g : Nat) : unaccessed (s.homeSettle g) = unaccessed s := by
  unfold State.homeSettle
  split
  · split
    · exact unaccessed_finishTxn s _
    · rfl
  · rfl

@[simp] theorem unaccessed_openTxn (a g : Nat) (req : CohReq) (kind : SnoopKind) (who : List Nat) (since : Nat) :
    unaccessed (s.openTxn a g req kind who since) = unaccessed s := by
  simp only [State.openTxn, unaccessed_homeSettle, unaccessed_setTxn]
  exact foldl_keeps unaccessed (fun t x => unaccessed_emit t _) who s

theorem unaccessed_startReq (a g : Nat) (req : CohReq) (since : Nat) :
    unaccessed (s.startReq a g req since) = unaccessed s := by
  unfold State.startReq
  split
  · split
    · rfl
    · split <;> simp
  · split <;> simp
  · split
    · split <;> simp
    · rfl
  · split <;> simp
  · simp
  · simp

@[simp] theorem unaccessed_serveLine (g : Nat) : unaccessed (s.serveLine g) = unaccessed s := by
  refine foldl_keeps unaccessed (fun t w => ?_) _ s
  split
  · rfl
  · exact unaccessed_startReq _ _ _ _ _

theorem unaccessed_snoop (a g : Nat) (kind : SnoopKind) : unaccessed (s.snoop a g kind) = unaccessed s := by
  unfold State.snoop
  extract_lets awaited answered
  split
  · have key (o : Option (List Byte × Bool) × Option CacheLine) : unaccessed (match o with
        | (_, next) => match next with | some c => s.setCopy a g (some c) | none => s.dropCopy a g) = unaccessed s := by
      obtain ⟨-, next⟩ := o
      cases next <;> rfl
    exact key _
  · rfl

theorem unaccessed_respond (a g : Nat) : unaccessed (s.respond a g) = unaccessed s := by
  unfold State.respond
  split
  · rfl
  · extract_lets t wb late
    split
    · rfl
    · split
      · rfl
      · split
        · rfl
        · rw [unaccessed_homeSettle]
          rfl

theorem unaccessed_wbArrive (w : WriteBackMsg) : unaccessed (s.wbArrive w) = unaccessed s := by
  unfold State.wbArrive
  extract_lets g a t mark
  have ht : unaccessed t = unaccessed s := by
    dsimp only [t]
    split <;> rfl
  have hmark (c : Option SnoopKind) : unaccessed (mark c t) = unaccessed s := ht
  split
  · split
    · extract_lets x u
      have hu : unaccessed u = unaccessed s := by
        dsimp only [u]
        split
        · exact hmark none
        · exact hmark _
      rw [unaccessed_homeSettle, unaccessed_setTxn, unaccessed_redirect, hu]
    · exact hmark none
  · exact hmark none

@[simp] theorem unaccessed_settleLine (g : Nat) : unaccessed (s.settleLine g) = unaccessed s := by
  unfold State.settleLine
  extract_lets t
  have ht : unaccessed t = unaccessed s := by
    dsimp only [t]
    split
    · exact unaccessed_wbArrive s _
    · rfl
  split
  · exact (foldl_keeps unaccessed (fun u a => (unaccessed_respond _ a g).trans (unaccessed_snoop u a g _)) _ t).trans ht
  · exact ht

/-! Reads by agents (R37, R295). -/

theorem unaccessed_noTargetRead (n : Nat) : unaccessed (s.noTargetRead n).2 = unaccessed s := unaccessed_freeBytes s n

theorem unaccessed_loadPiece (l a n : Nat) : unaccessed (s.loadPiece l a n).2 = unaccessed s := by
  have hown : unaccessed (if s.ownMem l a then
      match s.onFailed a with
      | some b =>
        let (d, s) := (s.count (memKey b 0x20) 1).freeBytes n
        (({ data := d, poison := true } : Rd), s)
      | none =>
        let ((d, p), s) := s.readHome (a / 64)
        ({ data := (d.drop (a % 64)).take n, poison := p }, s.serveLine (a / 64))
    else s.noTargetRead n).2 = unaccessed s := by
    split
    · split
      · exact (unaccessed_freeBytes _ n).trans (unaccessed_count s _ 1)
      · exact (unaccessed_serveLine _ _).trans ((unaccessed_readNow _ _).trans (unaccessed_settleLine s _))
    · exact unaccessed_noTargetRead s n
  have hundef (c : Undefined) : unaccessed ((s.noTargetRead n).map id fun t : State => t.undef c).2 = unaccessed s :=
    unaccessed_noTargetRead s n
  unfold State.loadPiece
  split
  · exact hown
  · exact hown
  · split
    · exact hundef _
    · exact unaccessed_noTargetRead s n
  · split
    · exact hundef _
    · exact unaccessed_noTargetRead s n
  · split
    · rfl
    · exact unaccessed_noTargetRead s n
  · exact unaccessed_noTargetRead s n

theorem unaccessed_load (l a n : Nat) : unaccessed (s.load l a n).2 = unaccessed s :=
  List.foldlRecOn (motive := fun r : Rd × State => unaccessed r.2 = unaccessed s) (pieces a n) _ rfl
    fun r hr p _ => (unaccessed_loadPiece r.2 l p.1 p.2).trans hr

/-! Translation (R272 to R279). -/

theorem unaccessed_walkRead (l a : Nat) : unaccessed (s.walkRead l a).2 = unaccessed s := by
  unfold State.walkRead
  split
  · exact unaccessed_load s l a 8
  · rfl

theorem unaccessed_either {α : Type} [DecidableEq α] (fresh : α) (cached : List α) :
    unaccessed (s.either fresh cached).2 = unaccessed s := by
  unfold State.either
  extract_lets all
  split <;> rfl

theorem unaccessed_walkEntry (l b asid level va a : Nat) : unaccessed (s.walkEntry l b asid level va a).2 = unaccessed s :=
  (unaccessed_either _ _ _).trans (unaccessed_walkRead s l a)

@[simp] theorem unaccessed_tlbFill (b : Nat) (e : TlbEntry) : unaccessed (s.tlbFill b e) = unaccessed s := by
  unfold State.tlbFill
  extract_lets t kind victim
  split
  · rfl
  · split <;> rfl

end

theorem unaccessed_astEntry (s : State) (l b asid : Nat) : unaccessed (s.astEntry l b asid).2 = unaccessed s := by
  unfold State.astEntry
  extract_lets ast t a
  have ht : unaccessed t = unaccessed s := unaccessed_undefIf s _ _
  split
  · exact ht
  · have hroot := unaccessed_walkEntry t l b asid 5 0 a
    generalize t.walkEntry l b asid 5 0 a = o at hroot ⊢
    obtain ⟨w0, u⟩ := o
    dsimp only
    have hhost := unaccessed_walkRead u l (a + 8)
    generalize u.walkRead l (a + 8) = o at hhost ⊢
    obtain ⟨w1, v⟩ := o
    have hv : unaccessed v = unaccessed s := hhost.trans (hroot.trans ht)
    dsimp only
    split
    · split
      · exact (unaccessed_tlbFill v _ _).trans hv
      · exact hv
    · exact hv

theorem unaccessed_walk (s : State) (l b asid va level table : Nat) :
    unaccessed (s.walk l b asid va level table).2 = unaccessed s := by
  induction level generalizing s table with
  | zero =>
    unfold State.walk
    have hentry := unaccessed_walkEntry s l b asid 0 va (table + va / 2 ^ 12 % 512 * 8)
    generalize s.walkEntry l b asid 0 va (table + va / 2 ^ 12 % 512 * 8) = o at hentry ⊢
    obtain ⟨e, t⟩ := o
    dsimp only
    split
    · exact hentry
    · split <;> exact hentry
  | succ level ih =>
    unfold State.walk
    extract_lets sh
    have hentry := unaccessed_walkEntry s l b asid (level + 1) va (table + va / 2 ^ sh % 512 * 8)
    generalize s.walkEntry l b asid (level + 1) va (table + va / 2 ^ sh % 512 * 8) = o at hentry ⊢
    obtain ⟨e, t⟩ := o
    dsimp only
    split
    · exact hentry
    · split
      · exact hentry
      · split
        · exact hentry
        · exact (ih _ _).trans ((unaccessed_tlbFill t b _).trans hentry)

theorem unaccessed_xlate (s : State) (l b asid va : Nat) (rd wr : Bool) :
    unaccessed (s.xlate l b asid va rd wr).2 = unaccessed s := by
  unfold State.xlate
  extract_lets va
  have hast := unaccessed_astEntry s l b asid
  generalize s.astEntry l b asid = o at hast ⊢
  obtain ⟨ast, t⟩ := o
  dsimp only
  split
  · exact hast
  next root host =>
    have hwalk := unaccessed_walk t l b asid va 4 (root.field 0 40 * 4096)
    generalize t.walk l b asid va 4 (root.field 0 40 * 4096) = o at hwalk ⊢
    obtain ⟨fresh, u⟩ := o
    have hused := unaccessed_either u (walked fresh) ((tlbLeaves (u.tlb b) asid va).map some)
    dsimp only
    generalize u.either (walked fresh) ((tlbLeaves (u.tlb b) asid va).map some) = o at hused ⊢
    obtain ⟨used, v⟩ := o
    have hv : unaccessed v = unaccessed s := hused.trans (hwalk.trans hast)
    dsimp only
    split
    · exact hv
    · exact hv
    · dsimp only
      split
      · exact (unaccessed_tlbFill v b _).trans hv
      · exact hv

/-- A translation for an agent that succeeds. -/
theorem xlate_of_xlateFor {s t : State} {w : Who} {va pa : Nat} {rd wr : Bool} (h : s.xlateFor w va rd wr = (.ok pa, t)) :
    s.xlate w.l w.b w.asid va rd wr = (.ok pa, t) := by
  unfold State.xlateFor at h
  generalize s.xlate w.l w.b w.asid va rd wr = o at h ⊢
  obtain ⟨x, u⟩ := o
  cases x with
  | ok p => exact h
  | fault c => exact absurd (congrArg Prod.fst h) (by simp)

theorem unaccessed_xlateFor {s t : State} {w : Who} {va pa : Nat} {rd wr : Bool} (h : s.xlateFor w va rd wr = (.ok pa, t)) :
    unaccessed t = unaccessed s := by
  have hkept := unaccessed_xlate s w.l w.b w.asid va rd wr
  rwa [xlate_of_xlateFor h] at hkept

theorem leafPa_mod (level : Nat) (p : Word) (va : Nat) : leafPa level p va % 4096 = va % 4096 := by
  have hsize : ∃ k, (if p.flag 63 then 16 else 12 + 9 * level) = 12 + k := by
    split
    · exact ⟨4, rfl⟩
    · exact ⟨9 * level, rfl⟩
  obtain ⟨k, hk⟩ := hsize
  have hdvd : 4096 ∣ 2 ^ (12 + k) := ⟨2 ^ k, by rw [Nat.pow_add]⟩
  simp only [leafPa, hk]
  rw [Nat.add_mod, Nat.mod_mod_of_dvd _ hdvd, Nat.mod_eq_zero_of_dvd (Dvd.dvd.mul_left hdvd _), Nat.zero_add, Nat.mod_mod]

/-- A translation keeps the offset in the page. -/
theorem leafOutcome_ok {hostOk : Bool} {level : Nat} {p : Word} {va pa : Nat} {rd wr : Bool}
    (h : leafOutcome hostOk level p va rd wr = .ok pa) : pa = leafPa level p va := by
  unfold leafOutcome at h
  extract_lets q at h
  split_ifs at h
  exact (Xl.ok.inj h).symm

theorem xlateFor_mod {s t : State} {w : Who} {va pa : Nat} {rd wr : Bool} (h : s.xlateFor w va rd wr = (.ok pa, t)) :
    pa % 4096 = va % 4096 := by
  have hx := congrArg Prod.fst (xlate_of_xlateFor h)
  unfold State.xlate at hx
  extract_lets v at hx
  have hv : v % 4096 = va % 4096 := Nat.mod_mod_of_dvd va (by norm_num)
  generalize s.astEntry w.l w.b w.asid = o at hx
  obtain ⟨ast, u⟩ := o
  dsimp only at hx
  split at hx
  · cases hx
  · split at hx
    · cases hx
    · cases hx
    · rw [leafOutcome_ok hx, leafPa_mod, hv]

end Sys2Proof.Proofs
end

section
/-!
PROOFS. What a write of a block leaves in memory (R228, R255, R295): each granule holds the bytes that the pieces give and
otherwise what agents found there, and every other granule is what it was.
-/
namespace Sys2Proof.Proofs

open Sys2Proof Sys2Proof.Machine Sys2Proof.Safety Sys2Proof.Laws

/-! A granule lies in one place of the map (R34, R223). -/

theorem memBasin_target (s : State) (a : Nat) : (s.target a).memBasin
    = if a < 0x30000000000 then
        if a % 0x6000000000 < s.usable (a / 0x6000000000) then some (a / 0x6000000000) else none
      else if 0x400000000000 ≤ a ∧ a < 0x400100000000 then some ((a - 0x400000000000) / 0x20000000) else none := by
  unfold State.target
  by_cases hlpddr : a < 0x30000000000
  · by_cases husable : a % 0x6000000000 < s.usable (a / 0x6000000000)
    · simp only [hlpddr, husable, if_true, Target.memBasin]
    · simp only [hlpddr, husable, if_true, if_false]
      split_ifs <;> simp only [Target.memBasin]
  · simp only [hlpddr, if_false]
    split_ifs <;> simp only [Target.memBasin]

theorem onFailed_eq (s : State) (a : Nat) : s.onFailed a
    = if a < 0x30000000000 ∧ a % 0x6000000000 < s.usable (a / 0x6000000000) then
        if s.flag (memKey (a / 0x6000000000) 0x8) (32 + s.chanAt (a / 0x6000000000) (a % 0x6000000000)) then
          some (a / 0x6000000000)
        else none
      else none := by
  unfold State.onFailed State.target
  by_cases hlpddr : a < 0x30000000000
  · by_cases husable : a % 0x6000000000 < s.usable (a / 0x6000000000)
    · simp only [hlpddr, husable, if_true, and_self]
    · simp only [hlpddr, husable, if_true, if_false, and_false]
      split_ifs <;> simp only
  · simp only [hlpddr, if_false, false_and]
    split_ifs <;> simp only

theorem usable_granule (s : State) (a b : Nat) : a / 64 * 64 % 0x6000000000 < s.usable b ↔ a % 0x6000000000 < s.usable b := by
  unfold State.usable
  omega

theorem memBasin_granule (s : State) (a : Nat) : (s.target (a / 64 * 64)).memBasin = (s.target a).memBasin := by
  have hlpddr : a / 64 * 64 < 0x30000000000 ↔ a < 0x30000000000 := by omega
  have hbasin : a / 64 * 64 / 0x6000000000 = a / 0x6000000000 := by omega
  have hreservoir : (0x400000000000 ≤ a / 64 * 64 ∧ a / 64 * 64 < 0x400100000000)
      ↔ (0x400000000000 ≤ a ∧ a < 0x400100000000) := by omega
  have hslice : (a / 64 * 64 - 0x400000000000) / 0x20000000 = (a - 0x400000000000) / 0x20000000 := by omega
  simp only [memBasin_target, hlpddr, hbasin, usable_granule, hreservoir, hslice]

theorem ownMem_granule (s : State) (l a : Nat) : s.ownMem l (a / 64 * 64) = s.ownMem l a := by
  simp only [State.ownMem, memBasin_granule]

theorem onFailed_granule (s : State) (a : Nat) : s.onFailed (a / 64 * 64) = s.onFailed a := by
  have hlpddr : a / 64 * 64 < 0x30000000000 ↔ a < 0x30000000000 := by omega
  have hbasin : a / 64 * 64 / 0x6000000000 = a / 0x6000000000 := by omega
  have hchan : a / 64 * 64 % 0x6000000000 / 1024 = a % 0x6000000000 / 1024 := by omega
  simp only [onFailed_eq, State.chanAt, hlpddr, hbasin, usable_granule, hchan]
  congr

/-- Memory of a Line lies below 2^47. -/
theorem lt_of_ownMem {s : State} {l a : Nat} (h : s.ownMem l a = true) : a < 2 ^ 47 := by
  unfold State.ownMem at h
  rw [memBasin_target] at h
  split_ifs at h
  · omega
  · omega

/-! A granule is written (R228, R295). -/

/-- The state without what a write of a granule can change. -/
def unwritten (s : State) : State := { s with mem := [], poison := [], errs := [], coh := {}, harts := [] }

theorem keeps_of_unwritten {α : Type} {s t : State} (h : unwritten t = unwritten s) (p : State → α)
    (hp : ∀ x, p (unwritten x) = p x) : p t = p s := (hp t).symm.trans ((congrArg p h).trans (hp s))

theorem tblGet_filter {α : Type} (d : α) (t : Tbl α) (p : Nat → Bool) {k : Nat} (h : p k = true) :
    tblGet d (t.filter fun e => p e.1) k = tblGet d t k := by
  induction t with
  | nil => rfl
  | cons e r ih =>
    obtain ⟨j, v⟩ := e
    by_cases hp : p j = true
    · simp only [List.filter_cons, hp, if_true, tblGet, ih]
    · have hne : j ≠ k := fun hj => hp (hj ▸ h)
      simp only [List.filter_cons, hp, tblGet, hne, if_false, ih, Bool.false_eq_true]

theorem dirtyOwner_dropCopies_self (s : State) (g : Nat) : (s.dropCopies g).dirtyOwner g = none := by
  have hdir : tblGet .inv (s.dropCopies g).coh.dir g = DirEntry.inv := tblGet_erase_self _ _ _
  simp only [State.dirtyOwner, hdir]

theorem dirtyOwner_dropCopies_other (s : State) {g k : Nat} (hk : k < 2 ^ 46) (hne : k ≠ g) :
    (s.dropCopies g).dirtyOwner k = s.dirtyOwner k := by
  have hdir : tblGet DirEntry.inv (s.dropCopies g).coh.dir k = tblGet DirEntry.inv s.coh.dir k := tblGet_erase_ne _ _ hne
  have hcopy (o : Nat) : tblGet none (s.dropCopies g).coh.caches (o * 2 ^ 46 + k) = tblGet none s.coh.caches (o * 2 ^ 46 + k) :=
    tblGet_filter none s.coh.caches (fun x => x % 2 ^ 46 != g) (by
      rw [show (o * 2 ^ 46 + k) % 2 ^ 46 = k by omega]
      exact bne_iff_ne.mpr hne)
  simp only [State.dirtyOwner, hdir, hcopy]

theorem wbs_dropCopies_self (s : State) (g : Nat) :
    (s.dropCopies g).coh.wbs.find? (fun w => w.line == g && !w.arrived) = none := by
  refine List.find?_eq_none.mpr fun w hw => ?_
  obtain ⟨v, -, rfl⟩ := List.mem_map.mp hw
  split <;> simp_all

theorem wbs_dropCopies_other (s : State) {g k : Nat} (hne : k ≠ g) :
    (s.dropCopies g).coh.wbs.find? (fun w => w.line == k && !w.arrived)
      = s.coh.wbs.find? (fun w => w.line == k && !w.arrived) := by
  unfold State.dropCopies
  dsimp only
  induction s.coh.wbs with
  | nil => rfl
  | cons w r ih =>
    by_cases hw : w.line = g
    · have hno : (g == k) = false := by simpa using Ne.symm hne
      simp [hw, hno, ih]
    · simp [List.find?_cons, hw, ih]

theorem movingData_dropCopies_self {s : State} {g : Nat} (h : s.movingData g = none) :
    (s.dropCopies g).movingData g = none := by
  unfold State.movingData at h ⊢
  rw [wbs_dropCopies_self]
  simp only [Option.orElse_eq_none, Option.map_none] at h ⊢
  obtain ⟨hanswer, hheld, -⟩ := h
  exact ⟨hanswer, hheld, trivial⟩

theorem movingData_dropCopies_other (s : State) {g k : Nat} (hne : k ≠ g) :
    (s.dropCopies g).movingData k = s.movingData k := by
  unfold State.movingData
  rw [wbs_dropCopies_other s hne]
  rfl

/-- Between `s` and `t` granule `g` has been written with `data`, and nothing else has. -/
structure Rewrites (s t : State) (g : Nat) (data : List Byte) : Prop where
  frame : unwritten t = unwritten s
  here : (t.granule g).1 = data
  there : ∀ k < 2 ^ 46, k ≠ g → (t.granule k).1 = (s.granule k).1
  quiet : ∀ k, k ≠ g → Quiet s k → Quiet t k

theorem rewrites_self (s : State) (g : Nat) : Rewrites s s g (s.granule g).1 :=
  ⟨rfl, rfl, fun _ _ _ => rfl, fun _ _ h => h⟩

theorem memBytes_memPut_other (m : List Host.Cell) {g k : Nat} {d : List Byte} (hd : d.length = 64) (hne : k ≠ g) :
    memBytes (memPut m (g * 64) d) (k * 64) 64 = memBytes m (k * 64) 64 := by
  refine List.map_congr_left fun i hi => ?_
  have hi := List.mem_range.mp hi
  rw [memPut_get, if_neg (by omega)]

/-- A granule whose copies are dropped is written in memory. -/
theorem rewrites_putGranule {s : State} {g : Nat} {d : List Byte} (p : Bool) (hd : d.length = 64) (hq : Quiet s g) :
    Rewrites s ((s.dropCopies g).putGranule g d p) g d where
  frame := rfl
  here := by
    have howner : ((s.dropCopies g).putGranule g d p).dirtyOwner g = none := dirtyOwner_dropCopies_self s g
    have hmoving : ((s.dropCopies g).putGranule g d p).movingData g = none := movingData_dropCopies_self hq.moving
    have hbytes : memBytes ((s.dropCopies g).putGranule g d p).mem (g * 64) 64 = d := by
      have hput := memBytes_memPut_self s.mem (g * 64) d
      rwa [hd] at hput
    rw [State.granule, howner, hmoving, Option.getD_none, hbytes]
  there k hk hne := by
    have howner : ((s.dropCopies g).putGranule g d p).dirtyOwner k = s.dirtyOwner k := dirtyOwner_dropCopies_other s hk hne
    have hmoving : ((s.dropCopies g).putGranule g d p).movingData k = s.movingData k := movingData_dropCopies_other s hne
    have hbytes : memBytes ((s.dropCopies g).putGranule g d p).mem (k * 64) 64 = memBytes s.mem (k * 64) 64 :=
      memBytes_memPut_other s.mem hd hne
    have hpoison : tblGet false ((s.dropCopies g).putGranule g d p).poison k = tblGet false s.poison k :=
      tblGet_set_ne _ _ _ hne
    rw [State.granule, howner, hmoving, hbytes, hpoison, State.granule]
  quiet k hne h :=
    { txn := h.txn
      moving := (movingData_dropCopies_other s hne).trans h.moving
      waits := h.waits
      errs := (tblGet_erase_ne _ _ hne).trans h.errs }

theorem serveLine_dropCopies {s : State} {g : Nat} (hq : Quiet s g) (d : List Byte) (p : Bool) :
    ((s.dropCopies g).putGranule g d p).serveLine g = (s.dropCopies g).putGranule g d p :=
  serveLine_of_quiet ⟨hq.txn, movingData_dropCopies_self hq.moving, hq.waits, tblGet_erase_self _ _ _⟩

/-- The bytes of a granule once those given are written over `old`. -/
def overlay (old : List Byte) (new : List (Option (Byte × Bool))) : List Byte :=
  List.zipWith (fun o n => match n with | some (v, _) => v | none => o) old new

theorem overlay_of_none {old : List Byte} {new : List (Option (Byte × Bool))} (h : new.all (·.isNone) = true)
    (hlen : old.length = new.length) : overlay old new = old := by
  refine List.ext_getElem (by simp [overlay, hlen]) fun i h1 h2 => ?_
  have hi : new[i]'(hlen ▸ h2) = none := by
    simpa using List.all_eq_true.mp h _ (List.getElem_mem (hlen ▸ h2))
  simp only [overlay, List.getElem_zipWith, hi]

theorem rewrites_storeGranule {s : State} {g : Nat} {new : List (Option (Byte × Bool))} (hq : Quiet s g)
    (hgood : s.onFailed (g * 64) = none) (hold : (s.granule g).1.length = 64) (hnew : new.length = 64) :
    Rewrites s (s.storeGranule g new).2 g (overlay (s.granule g).1 new) := by
  unfold State.storeGranule
  split
  next hnone =>
    rw [overlay_of_none hnone (hold.trans hnew.symm)]
    exact rewrites_self s g
  · simp only [hgood, mergeBase_of_quiet hq]
    rw [serveLine_dropCopies hq]
    exact rewrites_putGranule _ (by simp [hold, hnew]) hq

/-! A check-word mismatch changes no byte (R255, R449, R529). -/

theorem keeps_of_unreported {α : Type} {s t : State} (h : unreported t = unreported s) (p : State → α)
    (hp : ∀ x, p (unreported x) = p x) : p t = p s := (hp t).symm.trans ((congrArg p h).trans (hp s))

theorem quiet_of_coh {s t : State} {g : Nat} (hcoh : t.coh = s.coh) (herrs : t.errs = s.errs) (h : Quiet s g) : Quiet t g := by
  obtain ⟨htxn, hmoving, hwaits, hbits⟩ := h
  refine ⟨?_, ?_, hcoh ▸ hwaits, herrs ▸ hbits⟩
  · rwa [State.txnOf, hcoh]
  · rwa [State.movingData, hcoh]

theorem granule_setPoison (s : State) (q : Tbl Bool) (g : Nat) :
    (({ s with poison := q } : State).granule g).1 = (s.granule g).1 := by
  have howner : ({ s with poison := q } : State).dirtyOwner g = s.dirtyOwner g := rfl
  have hmoving : ({ s with poison := q } : State).movingData g = s.movingData g := rfl
  simp only [State.granule, howner, hmoving]
  cases s.dirtyOwner g
  · cases s.movingData g <;> rfl
  · rfl

theorem onFailed_setReg (s : State) {k : Nat} (v : Word) (hk : ∀ b, memKey b 8 ≠ k) (a : Nat) :
    (s.setReg k v).onFailed a = s.onFailed a := by
  have hflag (b i : Nat) : (s.setReg k v).flag (memKey b 8) i = s.flag (memKey b 8) i := by
    rw [State.flag, reg_setReg_ne s v (hk b), State.flag]
  have htarget : (s.setReg k v).target a = s.target a := rfl
  have hchan (b x : Nat) : (s.setReg k v).chanAt b x = s.chanAt b x := rfl
  simp only [State.onFailed, htarget, hflag, hchan]

section
variable (s : State) (b blk who : Nat)

/-- It changes poison, two registers of the engine and what reports write. -/
theorem unreported_chkMismatch : ∃ (q : Tbl Bool) (v w : Word), unreported (s.chkMismatch b blk who)
    = unreported ((({ s with poison := q } : State).setReg (xeKey b 0x08) v).setReg (xeKey b 0x10) w) :=
  ⟨_, _, _, unreported_logEvent (((s.poisonBlock blk).count _ 1).setReg _ _) _ _ _ _ _ _⟩

theorem chkMismatch_keeps {α : Type} (p : State → α) (hlog : ∀ t, p (unreported t) = p t)
    (hreg : ∀ t k v, p (State.setReg t k v) = p t) (hpoison : ∀ q, p { s with poison := q } = p s) :
    p (s.chkMismatch b blk who) = p s := by
  obtain ⟨q, v, w, h⟩ := unreported_chkMismatch s b blk who
  rw [keeps_of_unreported h p hlog, hreg, hreg, hpoison]

theorem granule_chkMismatch (g : Nat) : ((s.chkMismatch b blk who).granule g).1 = (s.granule g).1 :=
  chkMismatch_keeps s b blk who (fun t => (t.granule g).1) (fun _ => rfl) (fun _ _ _ => rfl) fun q => granule_setPoison s q g

theorem quiet_chkMismatch {g : Nat} (h : Quiet s g) : Quiet (s.chkMismatch b blk who) g :=
  quiet_of_coh (chkMismatch_keeps s b blk who State.coh (fun _ => rfl) (fun _ _ _ => rfl) fun _ => rfl)
    (chkMismatch_keeps s b blk who State.errs (fun _ => rfl) (fun _ _ _ => rfl) fun _ => rfl) h

theorem misuse_chkMismatch : (s.chkMismatch b blk who).misuse = s.misuse :=
  chkMismatch_keeps s b blk who State.misuse (fun _ => rfl) (fun _ _ _ => rfl) fun _ => rfl

theorem chan_chkMismatch (c : Nat) : (s.chkMismatch b blk who).chan c = s.chan c :=
  chkMismatch_keeps s b blk who (State.chan · c) (fun _ => rfl) (fun _ _ _ => rfl) fun _ => rfl

theorem onFailed_chkMismatch (a : Nat) : (s.chkMismatch b blk who).onFailed a = s.onFailed a := by
  have hkey (d o : Nat) (ho : o < 0x1000) : memKey d 8 ≠ xeKey b o := by
    simp only [memKey, xeKey, bKey]
    omega
  obtain ⟨q, v, w, h⟩ := unreported_chkMismatch s b blk who
  rw [keeps_of_unreported h (State.onFailed · a) fun _ => rfl, onFailed_setReg _ _ fun d => hkey d 0x10 (by decide),
    onFailed_setReg _ _ fun d => hkey d 8 (by decide)]
  rfl

theorem reg_chkMismatch {c o : Nat} (ho : o < 0x40) : (s.chkMismatch b blk who).reg (chKey c o) = s.reg (chKey c o) := by
  have hkey (p : Nat) (hp : p < 0x1000) : chKey c o ≠ xeKey b p := by
    simp only [chKey, xeKey, bKey]
    omega
  obtain ⟨q, v, w, h⟩ := unreported_chkMismatch s b blk who
  rw [keeps_of_unreported h (State.reg · (chKey c o)) fun _ => rfl, reg_setReg_ne _ _ (hkey 0x10 (by decide)),
    reg_setReg_ne _ _ (hkey 8 (by decide))]
  rfl

end

/-! The granules of a block, one after the other. -/

/-- The first `k` granules of block `blk` are written with the bytes that `new` gives. -/
def storeGranules (s : State) (blk : Nat) (new : Nat → List (Option (Byte × Bool))) (k : Nat) : Bool × State :=
  (List.range k).foldl (fun r i =>
    (r.1 || (r.2.storeGranule ((blk * 4096 + i * 64) / 64) (new i)).1,
      (r.2.storeGranule ((blk * 4096 + i * 64) / 64) (new i)).2)) (false, s)

/-- Between `s` and `t` the first `k` granules of block `blk` have been written over with `new`, and nothing else has. -/
structure Overlaid (s t : State) (blk : Nat) (new : Nat → List (Option (Byte × Bool))) (k : Nat) : Prop where
  frame : unwritten t = unwritten s
  done : ∀ i < k, (t.granule (blk * 64 + i)).1 = overlay (s.granule (blk * 64 + i)).1 (new i)
  rest : ∀ g < 2 ^ 46, (∀ i < k, g ≠ blk * 64 + i) → (t.granule g).1 = (s.granule g).1
  quiet : ∀ i, k ≤ i → i < 64 → Quiet t (blk * 64 + i)

/-- Every granule of a block can be written. -/
def Storable (s : State) (blk : Nat) : Prop :=
  blk < 2 ^ 40 ∧ ∀ i < 64, s.onFailed (blk * 4096 + i * 64) = none ∧ (s.granule (blk * 64 + i)).1.length = 64
    ∧ Quiet s (blk * 64 + i)

theorem onFailed_of_unwritten {s t : State} (h : unwritten t = unwritten s) (a : Nat) : t.onFailed a = s.onFailed a :=
  keeps_of_unwritten h (State.onFailed · a) fun _ => rfl

theorem overlaid_storeGranules {s : State} {blk : Nat} {new : Nat → List (Option (Byte × Bool))} (hs : Storable s blk)
    (hnew : ∀ i, (new i).length = 64) {k : Nat} (hk : k ≤ 64) : Overlaid s (storeGranules s blk new k).2 blk new k := by
  obtain ⟨hblk, hgranules⟩ := hs
  induction k with
  | zero => exact ⟨rfl, fun _ h => absurd h (Nat.not_lt_zero _), fun _ _ _ => rfl, fun i _ hi => (hgranules i hi).2.2⟩
  | succ k ih =>
    obtain ⟨frame, done, rest, quiet⟩ := ih (by omega)
    have hstep : (storeGranules s blk new (k + 1)).2
        = ((storeGranules s blk new k).2.storeGranule (blk * 64 + k) (new k)).2 := by
      rw [storeGranules, List.range_succ, List.foldl_append, show blk * 64 + k = (blk * 4096 + k * 64) / 64 by omega]
      rfl
    obtain ⟨hgood, hlen, -⟩ := hgranules k (by omega)
    have hsame := rest (blk * 64 + k) (by omega) fun i hi => by omega
    obtain ⟨frame', here, there, quiet'⟩ := rewrites_storeGranule (quiet k (le_refl k) (by omega))
      (by rw [onFailed_of_unwritten frame, show (blk * 64 + k) * 64 = blk * 4096 + k * 64 by omega, hgood])
      (hsame ▸ hlen) (hnew k)
    rw [hstep]
    refine ⟨frame'.trans frame, fun i hi => ?_, fun g hg hne => ?_, fun i hi h64 => ?_⟩
    · rcases Nat.lt_succ_iff_lt_or_eq.mp hi with hlt | rfl
      · rw [there _ (by omega) (by omega), done i hlt]
      · rw [here, hsame]
    · rw [there g hg (hne k (Nat.lt_succ_self k)), rest g hg fun i hi => hne i (Nat.lt_succ_of_lt hi)]
    · exact quiet' _ (by omega) (quiet i (by omega) h64)

/-! Pieces (R255). -/

/-- The pieces give the byte `f x` to each of the `n` addresses from `a`, and nothing to others. -/
structure Carries (ps : List Piece) (a n : Nat) (f : Nat → Byte) : Prop where
  inside : ∀ p ∈ ps, a ≤ p.dst ∧ p.dst + p.data.length ≤ a + n
  bytes : ∀ p ∈ ps, ∀ k < p.data.length, p.data.getD k 0 = f (p.dst + k)
  cover : ∀ x, a ≤ x → x < a + n → ∃ p ∈ ps, p.dst ≤ x ∧ x < p.dst + p.data.length

/-- What the pieces that meet granule address `d` give to each of its bytes. -/
def granuleOf (ps : List Piece) (d : Nat) : List (Option (Byte × Bool)) :=
  granuleBytes (ps.filter fun p => spansMeet p.dst p.data.length d 64) d

theorem granuleOf_length (ps : List Piece) (d : Nat) : (granuleOf ps d).length = 64 := by simp [granuleOf, granuleBytes]

/-- The first piece that holds an address gives its byte. -/
def pieceAt (ps : List Piece) (x : Nat) : Option (Byte × Bool) :=
  ps.findSome? fun p => if p.dst ≤ x ∧ x < p.dst + p.data.length then some (p.data.getD (x - p.dst) 0, p.poison) else none

theorem pieceAt_of_inside {ps : List Piece} {a n x : Nat} {f : Nat → Byte} (h : Carries ps a n f) (hlo : a ≤ x)
    (hhi : x < a + n) : ∃ q, pieceAt ps x = some (f x, q) := by
  obtain ⟨p, hp, hcover⟩ := h.cover x hlo hhi
  obtain ⟨o, ho⟩ : ∃ o, pieceAt ps x = some o := by
    refine Option.ne_none_iff_exists'.mp fun hnone => ?_
    have := List.findSome?_eq_none_iff.mp hnone p hp
    rw [if_pos hcover] at this
    cases this
  obtain ⟨q, hq, hgiven⟩ := List.exists_of_findSome?_eq_some ho
  split_ifs at hgiven with hin
  obtain rfl := Option.some.inj hgiven
  refine ⟨q.poison, ?_⟩
  rw [ho, h.bytes q hq (x - q.dst) (by omega), Nat.add_sub_cancel' hin.1]

theorem pieceAt_of_outside {ps : List Piece} {a n x : Nat} {f : Nat → Byte} (h : Carries ps a n f)
    (hx : x < a ∨ a + n ≤ x) : pieceAt ps x = none := by
  refine List.findSome?_eq_none_iff.mpr fun p hp => if_neg fun hin => ?_
  have := h.inside p hp
  omega

/-- Pieces that meet no byte of a granule give it none. -/
theorem granuleOf_get (ps : List Piece) (d : Nat) {i : Nat} (hi : i < (granuleOf ps d).length) :
    (granuleOf ps d)[i] = pieceAt ps (d + i) := by
  have h64 : i < 64 := granuleOf_length ps d ▸ hi
  simp only [granuleOf, granuleBytes, List.getElem_map, List.getElem_range, pieceAt]
  induction ps with
  | nil => rfl
  | cons p r ih =>
    have ih := ih (by rwa [granuleOf_length] at hi ⊢)
    rw [List.filter_cons]
    by_cases hmeets : spansMeet p.dst p.data.length d 64 = true
    · rw [if_pos hmeets, List.findSome?_cons, List.findSome?_cons, ih]
    · have hout : ¬(p.dst ≤ d + i ∧ d + i < p.dst + p.data.length) := fun hin => hmeets (decide_eq_true (by omega))
      rw [if_neg hmeets, List.findSome?_cons, if_neg hout, ih]

theorem overlay_getD (ps : List Piece) (d : Nat) {old : List Byte} (hold : old.length = 64) {i : Nat} (hi : i < 64) :
    (overlay old (granuleOf ps d)).getD i 0 = match pieceAt ps (d + i) with | some (v, _) => v | none => old.getD i 0 := by
  have hnew : i < (granuleOf ps d).length := (granuleOf_length ps d).symm ▸ hi
  have hlen : i < (overlay old (granuleOf ps d)).length := by
    simp only [overlay, List.length_zipWith]
    omega
  rw [List.getD_eq_getElem _ 0 hlen]
  simp only [overlay, List.getElem_zipWith, granuleOf_get ps d hnew, List.getD_eq_getElem old 0 (hold.symm ▸ hi)]

theorem overlay_of_inside {ps : List Piece} {a n d i : Nat} {f : Nat → Byte} {old : List Byte} (h : Carries ps a n f)
    (hold : old.length = 64) (hi : i < 64) (hlo : a ≤ d + i) (hhi : d + i < a + n) :
    (overlay old (granuleOf ps d)).getD i 0 = f (d + i) := by
  obtain ⟨q, hq⟩ := pieceAt_of_inside h hlo hhi
  rw [overlay_getD ps d hold hi, hq]

theorem overlay_of_outside {ps : List Piece} {a n d i : Nat} {f : Nat → Byte} {old : List Byte} (h : Carries ps a n f)
    (hold : old.length = 64) (hi : i < 64) (hx : d + i < a ∨ a + n ≤ d + i) :
    (overlay old (granuleOf ps d)).getD i 0 = old.getD i 0 := by
  rw [overlay_getD ps d hold hi, pieceAt_of_outside h hx]

/-! A block is written (R255). -/

theorem meetsOwned_of_within {s : State} {a n p m : Nat} (h : s.meetsOwned a n = false) (hlo : a ≤ p)
    (hhi : p + m ≤ a + n) : s.meetsOwned p m = false := by
  have hspan {b k : Nat} (hm : spansMeet p m b k = true) : spansMeet a n b k = true := by
    have := of_decide_eq_true hm
    exact decide_eq_true (by omega)
  have hcounter : s.meetsCounter p m = true → s.meetsCounter a n = true := by
    intro hm
    obtain ⟨b, hb, hin⟩ := List.any_eq_true.mp hm
    have := of_decide_eq_true hin
    exact List.any_eq_true.mpr ⟨b, hb, decide_eq_true (by omega)⟩
  have hentry : s.meetsEntry p m = true → s.meetsEntry a n = true := by
    simp only [State.meetsEntry, List.any_eq_true, Bool.and_eq_true, Bool.or_eq_true]
    rintro ⟨x, hx, hactive, (hacc | hscale) | ⟨hseed, hin⟩⟩
    · exact ⟨x, hx, hactive, .inl (.inl (hspan hacc))⟩
    · exact ⟨x, hx, hactive, .inl (.inr (hspan hscale))⟩
    · exact ⟨x, hx, hactive, .inr ⟨hseed, hspan hin⟩⟩
  have hjob : s.meetsJob p m = true → s.meetsJob a n = true := by
    simp only [State.meetsJob, List.any_eq_true, Bool.and_eq_true, Bool.or_eq_true]
    rintro ⟨x, hx, q, hq, j, hj, hrun, hsrc | ⟨hhevc, hdpb⟩⟩
    · exact ⟨x, hx, q, hq, j, hj, hrun, .inl (hspan hsrc)⟩
    · exact ⟨x, hx, q, hq, j, hj, hrun, .inr ⟨hhevc, hspan hdpb⟩⟩
  simp only [State.meetsOwned, Bool.or_eq_false_iff] at h ⊢
  obtain ⟨⟨hc, he⟩, hj⟩ := h
  exact ⟨⟨Bool.eq_false_iff.mpr fun hm => Bool.eq_false_iff.mp hc (hcounter hm),
    Bool.eq_false_iff.mpr fun hm => Bool.eq_false_iff.mp he (hentry hm)⟩,
    Bool.eq_false_iff.mpr fun hm => Bool.eq_false_iff.mp hj (hjob hm)⟩

theorem foldl_noteWrite {s : State} {blk : Nat} {ps : List Piece} (h : s.meetsOwned (blk * 4096) 4096 = false)
    (hin : ∀ p ∈ ps, blk * 4096 ≤ p.dst ∧ p.dst + p.data.length ≤ blk * 4096 + 4096) :
    ps.foldl (fun t p => t.noteWrite p.dst p.data.length) s = s :=
  List.foldlRecOn (motive := (· = s)) ps _ rfl fun t ht p hp => by
    rw [ht, noteWrite_of_free s (meetsOwned_of_within h (hin p hp).1 (hin p hp).2)]

/-- What `writeBlock` keeps besides memory: what ends a transfer reads it. -/
structure BlockWritten (s t : State) (a n : Nat) (f : Nat → Byte) : Prop where
  inside : ∀ x, a ≤ x → x < a + n → seen t x = f x
  outside : SeenOutside s t a n
  misuse : t.misuse = s.misuse
  chan : ∀ c, t.chan c = s.chan c
  reg : ∀ c o, o < 0x40 → t.reg (chKey c o) = s.reg (chKey c o)

theorem seen_storeGranules {s : State} {blk a n : Nat} {ps : List Piece} {f : Nat → Byte} (hs : Storable s blk)
    (hc : Carries ps a n f) (hlo : blk * 4096 ≤ a) (hhi : a + n ≤ blk * 4096 + 4096) :
    BlockWritten s (storeGranules s blk (fun i => granuleOf ps (blk * 4096 + i * 64)) 64).2 a n f := by
  obtain ⟨frame, done, rest, -⟩ := overlaid_storeGranules (new := fun i => granuleOf ps (blk * 4096 + i * 64)) hs
    (fun _ => granuleOf_length _ _) (le_refl 64)
  generalize (storeGranules s blk (fun i => granuleOf ps (blk * 4096 + i * 64)) 64).2 = t at frame done rest ⊢
  obtain ⟨hblk, hgranules⟩ := hs
  have hgranule {x : Nat} (hx : x / 4096 = blk) : x / 64 = blk * 64 + x % 4096 / 64 ∧ x % 4096 / 64 < 64
      ∧ x = blk * 4096 + x % 4096 / 64 * 64 + x % 64 := by omega
  refine ⟨fun x hl hh => ?_, fun x hx hout => ?_, ?_, fun c => ?_, fun c o _ => ?_⟩
  · obtain ⟨hg, hi, hsum⟩ := hgranule (show x / 4096 = blk by omega)
    obtain ⟨-, hlen, -⟩ := hgranules _ hi
    rw [seen, hg, done _ hi, overlay_of_inside hc hlen (Nat.mod_lt _ (by decide)) (hsum ▸ hl) (hsum ▸ hh), ← hsum]
  · by_cases hb : x / 4096 = blk
    · obtain ⟨hg, hi, hsum⟩ := hgranule hb
      obtain ⟨-, hlen, -⟩ := hgranules _ hi
      rw [seen, hg, done _ hi, overlay_of_outside hc hlen (Nat.mod_lt _ (by decide)) (hsum ▸ hout), seen, hg]
    · rw [seen, rest (x / 64) (by omega) fun i hi => by omega, seen]
  · exact keeps_of_unwritten frame State.misuse fun _ => rfl
  · exact keeps_of_unwritten frame (State.chan · c) fun _ => rfl
  · exact keeps_of_unwritten frame (State.reg · (chKey c o)) fun _ => rfl

theorem storable_of_blockWritable {s : State} {l blk : Nat} (h : BlockWritable s l blk) : Storable s blk := by
  obtain ⟨-, hgranules⟩ := h
  refine ⟨?_, fun i hi => (hgranules i hi).2⟩
  have := lt_of_ownMem (hgranules 0 (by decide)).1
  omega

/-- A block is stored as it was before a mismatch of its check word was found. -/
theorem storable_chkMismatch {s : State} {blk : Nat} (b who : Nat) (h : Storable s blk) :
    Storable (s.chkMismatch b blk who) blk := by
  obtain ⟨hblk, hgranules⟩ := h
  refine ⟨hblk, fun i hi => ?_⟩
  obtain ⟨hgood, hlen, hquiet⟩ := hgranules i hi
  exact ⟨(onFailed_chkMismatch s b blk who _).trans hgood, by rw [granule_chkMismatch, hlen],
    quiet_chkMismatch s b blk who hquiet⟩

theorem seen_chkMismatch (s : State) (b blk who x : Nat) : seen (s.chkMismatch b blk who) x = seen s x := by
  rw [seen, granule_chkMismatch, seen]

theorem blockWritten_of_mismatch {s t : State} {b blk who a n : Nat} {f : Nat → Byte}
    (h : BlockWritten (s.chkMismatch b blk who) t a n f) : BlockWritten s t a n f where
  inside := h.inside
  outside x hx hout := (h.outside x hx hout).trans (seen_chkMismatch s b blk who x)
  misuse := h.misuse.trans (misuse_chkMismatch s b blk who)
  chan c := (h.chan c).trans (chan_chkMismatch s b blk who c)
  reg c o ho := (h.reg c o ho).trans (reg_chkMismatch s b blk who ho)

theorem blockWritten_validateBlock {s t : State} {a n : Nat} {f : Nat → Byte} (h : BlockWritten s t a n f) (blk : Nat) :
    BlockWritten s (t.validateBlock blk) a n f :=
  ⟨h.inside, h.outside, h.misuse, h.chan, h.reg⟩

/-- `writeBlock` writes the granules in turn. -/
theorem foldl_storeGranule (s : State) (blk : Nat) (ps : List Piece) (k : Nat) :
    (List.range k).foldl (fun (q, t) i =>
      let a := blk * 4096 + i * 64
      let (r, t) := State.storeGranule t (a / 64) (granuleBytes (ps.filter fun p => spansMeet p.dst p.data.length a 64) a)
      (q || r, t)) (false, s) = storeGranules s blk (fun i => granuleOf ps (blk * 4096 + i * 64)) k := rfl

theorem writeBlock_eq (s : State) (b blk : Nat) (ps : List Piece) : ∃ bad : Bool, (s.writeBlock b blk ps).2.2
    = (storeGranules
        (if bad then (ps.foldl (fun t p => t.noteWrite p.dst p.data.length) s).chkMismatch b blk 1
          else ps.foldl (fun t p => t.noteWrite p.dst p.data.length) s)
        blk (fun i => granuleOf ps (blk * 4096 + i * 64)) 64).2.validateBlock blk := by
  unfold State.writeBlock
  extract_lets n bad noted begun
  refine ⟨bad, ?_⟩
  rw [foldl_storeGranule]

/-- A delivery to a block that agents may write puts there the bytes of its pieces. -/
theorem blockWritten_writeBlock {s : State} {l b blk a n : Nat} {ps : List Piece} {f : Nat → Byte}
    (hw : BlockWritable s l blk) (hc : Carries ps a n f) (hlo : blk * 4096 ≤ a) (hhi : a + n ≤ blk * 4096 + 4096) :
    BlockWritten s (s.writeBlock b blk ps).2.2 a n f := by
  have hs := storable_of_blockWritable hw
  have hnote : ps.foldl (fun t p => t.noteWrite p.dst p.data.length) s = s :=
    foldl_noteWrite hw.1 fun p hp => by
      have := hc.inside p hp
      omega
  obtain ⟨bad, heq⟩ := writeBlock_eq s b blk ps
  rw [heq, hnote]
  cases bad
  · exact blockWritten_validateBlock (seen_storeGranules hs hc hlo hhi) blk
  · exact blockWritten_validateBlock
      (blockWritten_of_mismatch (seen_storeGranules (storable_chkMismatch b 1 hs) hc hlo hhi)) blk

end Sys2Proof.Proofs
end

section
/-!
PROOFS. Deliveries of a transfer within its Line (R250 to R255, R259): what a delivery of one run fetches, how it commits, and
how the transfer goes on.
-/
namespace Sys2Proof.Proofs

open Sys2Proof Sys2Proof.Machine Sys2Proof.Safety Sys2Proof.Laws

/-! The run of a delivery (R250, R253). -/

theorem segs_head {x : Xfer} {blk fuel pos : Nat} {g : Seg} {r : List Seg} (h : x.segs blk (fuel + 1) pos = g :: r) :
    pos < x.total ∧ g = { pos := pos, src := x.srcAt pos, dst := x.dstAt pos
                          len := min (x.len0 - pos % x.len0) (4096 - x.dstAt pos % 4096) } := by
  unfold Xfer.segs at h
  extract_lets dst n at h
  split at h
  · cases h
  next hin =>
    obtain ⟨rfl, -⟩ := List.cons.inj h
    exact ⟨not_le.mp fun hle => hin (.inl hle), rfl⟩

theorem len0_pos_of_total {x : Xfer} {pos : Nat} (h : pos < x.total) : 0 < x.len0 := by
  refine Nat.pos_of_ne_zero fun hzero => ?_
  have htotal : x.total = 0 := by simp [Xfer.total, Xfer.span, hzero]
  omega

/-- A delivery of one run begins at the cursor, holds a byte and ends in the block of its first. -/
structure OneRun (x : Xfer) (g : Seg) : Prop where
  more : x.pos < x.total
  pos : g.pos = x.pos
  dst : g.dst = x.dstAt x.pos
  some : 0 < g.len
  fits : x.dstAt x.pos % 4096 + g.len ≤ 4096

theorem oneRun_of_delivery {x : Xfer} {g : Seg} (h : x.delivery x.pos = [g]) : OneRun x g := by
  obtain ⟨hmore, rfl⟩ := segs_head (fuel := 4095) h
  have hlen0 := len0_pos_of_total hmore
  have hrow := Nat.mod_lt x.pos hlen0
  have hblock := Nat.mod_lt (x.dstAt x.pos) (show 0 < 4096 by decide)
  exact ⟨hmore, rfl, rfl, by dsimp only; omega, by dsimp only; omega⟩

theorem segBytes_single (g : Seg) : segBytes [g] = g.len := Nat.zero_add _

/-! A source page is read (R255). -/

theorem sourcePages_single {g : Seg} (hsome : 0 < g.len) (hpage : g.src % 4096 + g.len ≤ 4096) :
    sourcePages [g] = [(g.src, g.len, g.dst)] := by
  have hcount : (g.src + g.len + 4095) / 4096 - g.src / 4096 = 1 := by omega
  have hlo : max g.src (g.src / 4096 * 4096) = g.src := by omega
  have hhi : min (g.src + g.len) ((g.src / 4096 + 1) * 4096) - g.src = g.len := by omega
  simp [sourcePages, pagePieces, hsome.ne', hcount, hlo, hhi, -sup_eq_left]

theorem mem_pieces {a n : Nat} {p : Nat × Nat} (h : p ∈ pieces a n) :
    a ≤ p.1 ∧ p.1 + p.2 ≤ a + n ∧ 0 < p.2 ∧ p.1 % 64 + p.2 ≤ 64 := by
  unfold pieces at h
  split at h
  · cases h
  · obtain ⟨i, hi, rfl⟩ := List.mem_map.mp h
    have := List.mem_range.mp hi
    dsimp only
    omega

theorem pieces_cover {a n x : Nat} (hlo : a ≤ x) (hhi : x < a + n) : ∃ p ∈ pieces a n, p.1 ≤ x ∧ x < p.1 + p.2 := by
  unfold pieces
  rw [if_neg (by omega)]
  refine ⟨_, List.mem_map.mpr ⟨x / 64 - a / 64, List.mem_range.mpr (by omega), rfl⟩, ?_⟩
  dsimp only
  omega

theorem target_of_ownMem {s : State} {l a : Nat} (h : s.ownMem l a = true) :
    (∃ b x, s.target a = .lpddr b x) ∨ ∃ b x, s.target a = .reservoir b x := by
  unfold State.ownMem at h
  cases htarget : s.target a with
  | lpddr b x => exact .inl ⟨b, x, rfl⟩
  | reservoir b x => exact .inr ⟨b, x, rfl⟩
  | _ => simp [htarget, Target.memBasin] at h

theorem loadPiece_of_quiet {s : State} {l a : Nat} (n : Nat) (hown : s.ownMem l a = true) (hgood : s.onFailed a = none)
    (hq : Quiet s (a / 64)) :
    s.loadPiece l a n = ({ data := ((s.granule (a / 64)).1.drop (a % 64)).take n, poison := (s.granule (a / 64)).2 }, s) := by
  have hread := readHome_of_quiet hq (by rw [onFailed_granule, hgood])
  have hserve := serveLine_of_quiet hq
  obtain ⟨b, x, htarget⟩ | ⟨b, x, htarget⟩ := target_of_ownMem hown
  · simp only [State.loadPiece, htarget, hown, hgood, hread, hserve, if_true]
  · simp only [State.loadPiece, htarget, hown, hgood, hread, hserve, if_true]

/-- What a piece of a source gives. -/
def readPiece (s : State) (pa dst : Nat) (p : Nat × Nat) : Piece :=
  { dst := dst + (p.1 - pa), data := ((s.granule (p.1 / 64)).1.drop (p.1 % 64)).take p.2, poison := (s.granule (p.1 / 64)).2 }

theorem readPieces_of_readable {s : State} {l pa n : Nat} (h : Readable s l pa n) (dst : Nat) :
    s.readPieces l pa n dst = ((pieces pa n).map (readPiece s pa dst), false, s) := by
  have key (ps : List Piece) (qs : List (Nat × Nat)) (hqs : ∀ p ∈ qs, p ∈ pieces pa n) :
      qs.foldl (fun (o : List Piece × Bool × State) p =>
        (o.1 ++ [{ dst := dst + (p.1 - pa), data := (o.2.2.loadPiece l p.1 p.2).1.data
                   poison := (o.2.2.loadPiece l p.1 p.2).1.poison }],
          o.2.1 || (o.2.2.loadPiece l p.1 p.2).1.noTarget, (o.2.2.loadPiece l p.1 p.2).2)) (ps, false, s)
        = (ps ++ qs.map (readPiece s pa dst), false, s) := by
    induction qs generalizing ps with
    | nil => simp
    | cons p r ih =>
      obtain ⟨hlo, hhi, hsome, -⟩ := mem_pieces (hqs p List.mem_cons_self)
      obtain ⟨hown, hgood, -, -, hquiet⟩ := h (p.1 - pa) (by omega)
      rw [show pa + (p.1 - pa) = p.1 by omega] at hown hgood hquiet
      rw [List.foldl_cons, loadPiece_of_quiet p.2 hown hgood hquiet, List.map_cons]
      exact (ih _ fun q hq => hqs q (List.mem_cons_of_mem _ hq)).trans (by simp [readPiece])
  exact key [] _ fun _ hp => hp

theorem getD_take_drop (d : List Byte) {o n k : Nat} (hk : k < n) : ((d.drop o).take n).getD k 0 = d.getD (o + k) 0 := by
  simp [List.getD_eq_getElem?_getD, hk, List.getElem?_drop]

/-- The pieces read carry the source's bytes to the destination. -/
theorem carries_readPieces {s : State} {l ps n : Nat} (h : Readable s l ps n) (va pa : Nat) :
    Carries (movePieces ((pieces ps n).map (readPiece s ps va)) va pa) pa n fun x => seen s (ps + (x - pa)) := by
  have hlen {p : Nat × Nat} (hp : p ∈ pieces ps n) : (readPiece s ps va p).data.length = p.2 := by
    obtain ⟨hlo, hhi, hsome, hfits⟩ := mem_pieces hp
    obtain ⟨-, -, hwhole, -⟩ := h (p.1 - ps) (by omega)
    rw [show ps + (p.1 - ps) = p.1 by omega] at hwhole
    simp only [readPiece, List.length_take, List.length_drop, hwhole]
    omega
  have hdst (p : Nat × Nat) : pa + (va + (p.1 - ps)) - va = pa + (p.1 - ps) := by omega
  refine ⟨fun q hq => ?_, fun q hq k hk => ?_, fun x hlo hhi => ?_⟩
  · simp only [movePieces, List.map_map, List.mem_map, Function.comp_apply] at hq
    obtain ⟨p, hp, rfl⟩ := hq
    have := mem_pieces hp
    dsimp only
    rw [hlen hp]
    simp only [readPiece, hdst]
    omega
  · simp only [movePieces, List.map_map, List.mem_map, Function.comp_apply] at hq
    obtain ⟨p, hp, rfl⟩ := hq
    obtain ⟨hlo, hhi, hsome, hfits⟩ := mem_pieces hp
    dsimp only at hk ⊢
    rw [hlen hp] at hk
    simp only [readPiece, hdst]
    rw [getD_take_drop _ hk, show ps + (pa + (p.1 - ps) + k - pa) = p.1 + k by omega, seen,
      show (p.1 + k) / 64 = p.1 / 64 by omega, show (p.1 + k) % 64 = p.1 % 64 + k by omega]
  · obtain ⟨p, hp, hin, hout⟩ := pieces_cover (a := ps) (n := n) (x := ps + (x - pa)) (by omega) (by omega)
    refine ⟨_, List.mem_map.mpr ⟨_, List.mem_map.mpr ⟨p, hp, rfl⟩, rfl⟩, ?_⟩
    dsimp only
    rw [hlen hp]
    have := mem_pieces hp
    simp only [readPiece, hdst]
    omega

/-- The pattern carries its bytes to the destination (R252). -/
theorem carries_fillPieces (x : Xfer) {g : Seg} {va : Nat} (hdst : g.dst = va) (pa : Nat) :
    Carries (movePieces (x.fillPieces [g]) va pa) pa g.len
      fun y => (leBytes 8 (x.w 1).toNat).getD ((g.pos % x.len0 + (y - pa)) % 8) 0 := by
  have hpieces : movePieces (x.fillPieces [g]) va pa = [{
      dst := pa, data := (List.range g.len).map fun i => (leBytes 8 (x.w 1).toNat).getD ((g.pos % x.len0 + i) % 8) 0 }] := by
    simp [movePieces, Xfer.fillPieces, hdst]
  rw [hpieces]
  refine ⟨fun q hq => ?_, fun q hq k hk => ?_, fun y hlo hhi => ⟨_, List.mem_singleton_self _, hlo, by simpa using hhi⟩⟩
  · obtain rfl := List.mem_singleton.mp hq
    simp
  · obtain rfl := List.mem_singleton.mp hq
    have hk : k < g.len := by simpa using hk
    simp [List.getD_eq_getElem?_getD, hk]

/-! The fetch of a delivery (R255). -/

theorem checkSource_of_valid {s : State} {blk : Nat} (h : s.blockValid blk = true) (b l : Nat) :
    s.checkSource b l blk = (false, s) := by
  simp [State.checkSource, h]

/-- A source in one page is read whole. -/
theorem fetchPage_of_readable {r s1 : State} {c : Nat} {x : Xfer} {va n pa : Nat} (dst : Nat)
    (hx : r.xlateFor (r.chanWho c x.asid) va true false = (.ok pa, s1)) (hvalid : s1.blockValid (pa / 4096) = true)
    (hread : Readable s1 (r.leaderOf (c / 16)) pa n) :
    r.fetchPage c x {} va n dst
      = ({ ps := (pieces pa n).map (readPiece s1 pa dst), blocks := [pa / 4096] }, s1) := by
  have hnew : ([] : List Nat).contains (pa / 4096) = false := rfl
  simp only [State.fetchPage, Option.isSome_none, Bool.false_eq_true, if_false, hx, hnew, checkSource_of_valid hvalid,
    readPieces_of_readable hread, List.nil_append, Bool.or_false]

/-! The commit of a delivery (R254, R255, R259). -/

/-- What is left of a delivery once its bytes stand in the block: the cursor, the counter, and the end of the transfer. -/
def settleDelivery (t : State) (c : Nat) (x : Xfer) (n : Nat) (poison chk : Bool) : State :=
  let a := t.advance c x n poison chk
  if a.1.total ≤ a.1.pos then a.2.xferFinish c a.1 0 else a.2

/-- A delivery whose source has been fetched goes to a block of the Line. -/
theorem commitLocal_of_fetched {r s1 s2 : State} {c : Nat} {x : Xfer} {f : Fetched} {pa : Nat}
    {pages : List (Nat × Nat × Nat)} (hpages : (if x.op = 1 then [] else sourcePages (x.delivery x.pos)) = pages)
    (honly : pages.drop 1 = [])
    (hf : r.fetchPages c x { ps := if x.op = 1 then x.fillPieces (x.delivery x.pos) else [] } (pages.take 1) = (f, s1))
    (hok : f.bad = none) (hx : s1.xlateFor (s1.chanWho c x.asid) (x.dstAt x.pos) false true = (.ok pa, s2))
    (hown : s2.ownMem (r.leaderOf (c / 16)) pa = true) :
    ∃ q k, r.commitLocal c x none
      = settleDelivery (s2.writeBlock (c / 16) (pa / 4096) (movePieces f.ps (x.dstAt x.pos) pa)).2.2 c x
          (segBytes (x.delivery x.pos)) q k := by
  have hhost : isHostPa pa = false := by
    have := lt_of_ownMem hown
    exact decide_eq_false (by omega)
  have hmore : s2.fetchPages c x f [] = (f, s2) := rfl
  generalize hwritten : s2.writeBlock (c / 16) (pa / 4096) (movePieces f.ps (x.dstAt x.pos) pa) = w
  refine ⟨w.2.1, f.chk || w.1, ?_⟩
  unfold State.commitLocal
  extract_lets b l d va given f0
  have hgiven : given = pages := hpages
  have hfirst : r.fetchPages c x f0 (given.take 1) = (f, s1) := hgiven ▸ hf
  rw [hfirst]
  dsimp only
  rw [hok]
  dsimp only
  rw [hx]
  dsimp only
  rw [if_neg (by simp [l, b, hown]), hgiven, honly, hmore]
  dsimp only
  rw [hok, hhost]
  dsimp only
  rw [if_neg Bool.false_ne_true, Bool.false_and, if_neg Bool.false_ne_true,
    show s2.writeBlock b (pa / 4096) (movePieces f.ps va pa) = w from hwritten]
  rfl

/-- What a delivery leaves of a transfer, from the state `s3` that the translations leave, as the statement has it. -/
def DeliveryMoved (c : Nat) (x : Xfer) (rest : List Xfer) (n pa : Nat) (s3 t : State) : Prop :=
  SeenOutside s3 t pa n
  ∧ t.reg (chKey c 0x18) = BitVec.ofNat 64 (satAdd64 (s3.reg (chKey c 0x18)).toNat n)
  ∧ if x.total ≤ x.pos + n then (t.chan c).queue = rest ∧ t.fld (chKey c 0x08) 16 8 = 0
    else ∃ y, (t.chan c).queue = y :: rest ∧ y.pos = x.pos + n ∧ y.bytes = x.bytes + n ∧ y.words = x.words
      ∧ y.running = true

/-- The transfer behind a delivery of `n` bytes. -/
def advanced (x : Xfer) (n : Nat) (poison chk : Bool) : Xfer :=
  { x with pos := x.pos + n, bytes := x.bytes + n, poison := x.poison || poison, chk := x.chk || chk }

section
variable {x : Xfer} {t : State} (c n : Nat) (poison chk : Bool)

theorem advance_of_no_prog (hprog : (x.w 12).flag 47 = false) : t.advance c x n poison chk
    = (advanced x n poison chk, (t.setHead c (advanced x n poison chk)).count (chKey c 0x18) n) := by
  simp only [State.advance, State.progAdds, hprog, Bool.false_and, Bool.false_eq_true, if_false]
  rfl

/-- A transfer without a record or DONE add ends OK. -/
theorem xferFinish_of_plain (hrec : x.recDpa = none) (hdone : (x.w 12).flag 15 = false) :
    t.xferFinish c x 0 = (t.modChan c fun q => { queue := q.queue.drop 1 }).setLastStatus c 0 := by
  simp [State.xferFinish, hrec, hdone, State.when]

theorem settleDelivery_eq (hrec : x.recDpa = none) (hdone : (x.w 12).flag 15 = false) (hprog : (x.w 12).flag 47 = false) :
    settleDelivery t c x n poison chk
      = if x.total ≤ x.pos + n then
          (((t.setHead c (advanced x n poison chk)).count (chKey c 0x18) n).modChan c fun q =>
            { queue := q.queue.drop 1 }).setLastStatus c 0
        else (t.setHead c (advanced x n poison chk)).count (chKey c 0x18) n := by
  have hfinish := xferFinish_of_plain (x := advanced x n poison chk)
    (t := (t.setHead c (advanced x n poison chk)).count (chKey c 0x18) n) c hrec hdone
  rw [settleDelivery, advance_of_no_prog c n poison chk hprog]
  dsimp only
  rw [hfinish]
  rfl

end

/-- Channels and registers hold no bytes of memory. -/
theorem seen_setReg (s : State) (k : Nat) (v : Word) (y : Nat) : seen (s.setReg k v) y = seen s y := rfl
theorem seen_modChan (s : State) (c : Nat) (f : Channel → Channel) (y : Nat) : seen (s.modChan c f) y = seen s y := rfl
theorem reg_modChan (s : State) (c : Nat) (f : Channel → Channel) (k : Nat) : (s.modChan c f).reg k = s.reg k := rfl
theorem chan_setReg (s : State) (k : Nat) (v : Word) (c : Nat) : (s.setReg k v).chan c = s.chan c := rfl

section
variable {x : Xfer} {s3 t : State} {c n pa : Nat} {f : Nat → Byte} {rest : List Xfer} (poison chk : Bool)

theorem seen_settleDelivery (hrec : x.recDpa = none) (hdone : (x.w 12).flag 15 = false) (hprog : (x.w 12).flag 47 = false)
    (y : Nat) : seen (settleDelivery t c x n poison chk) y = seen t y := by
  rw [settleDelivery_eq c n poison chk hrec hdone hprog]
  split
  · rw [State.setLastStatus, State.setFld, seen_setReg, seen_modChan, State.count, seen_setReg, State.setHead, seen_modChan]
  · rw [State.count, seen_setReg, State.setHead, seen_modChan]

theorem misuse_settleDelivery (hrec : x.recDpa = none) (hdone : (x.w 12).flag 15 = false) (hprog : (x.w 12).flag 47 = false) :
    (settleDelivery t c x n poison chk).misuse = t.misuse := by
  rw [settleDelivery_eq c n poison chk hrec hdone hprog]
  split
  · rw [State.setLastStatus, setFld_misuse, modChan_misuse, count_misuse, State.setHead, modChan_misuse]
  · rw [count_misuse, State.setHead, modChan_misuse]

theorem deliveryMoved_settleDelivery (h : BlockWritten s3 t pa n f) (hqueue : (s3.chan c).queue = x :: rest)
    (hrun : x.running = true) (hrec : x.recDpa = none) (hdone : (x.w 12).flag 15 = false) (hprog : (x.w 12).flag 47 = false) :
    DeliveryMoved c x rest n pa s3 (settleDelivery t c x n poison chk) := by
  have hkey : chKey c 0x18 ≠ chKey c 8 := by
    simp only [chKey, bKey]
    omega
  have hhead : ((t.setHead c (advanced x n poison chk)).chan c).queue = advanced x n poison chk :: rest := by
    rw [State.setHead, chan_modChan_self, h.chan, hqueue]
    rfl
  have hcount : ((t.setHead c (advanced x n poison chk)).count (chKey c 0x18) n).reg (chKey c 0x18)
      = BitVec.ofNat 64 (satAdd64 (s3.reg (chKey c 0x18)).toNat n) := by
    rw [State.count, reg_setReg_self, State.setHead, reg_modChan, h.reg c 0x18 (by decide)]
  refine ⟨fun y hy hout => ?_, ?_, ?_⟩
  · rw [seen_settleDelivery poison chk hrec hdone hprog, h.outside y hy hout]
  · rw [settleDelivery_eq c n poison chk hrec hdone hprog]
    split
    · rw [State.setLastStatus, reg_setFld_ne _ _ _ _ hkey, reg_modChan, hcount]
    · exact hcount
  · rw [settleDelivery_eq c n poison chk hrec hdone hprog]
    split
    · refine ⟨?_, ?_⟩
      · rw [State.setLastStatus, State.setFld, chan_setReg, chan_modChan_self, State.count, chan_setReg, hhead]
        rfl
      · rw [State.setLastStatus, State.fld, reg_setFld_self, field_withField_self _ _ (by decide)]
        rfl
    · refine ⟨advanced x n poison chk, ?_, rfl, rfl, rfl, hrun⟩
      rw [State.count, chan_setReg, hhead]

end

/-! DELIVERY_COMMIT (R43, R267). -/

theorem setArb_of_turnOf {s r : State} {k l u : Nat} {ready : List (Nat × Nat)} (h : s.turnOf k l ready u = some r) :
    ∃ a, r = s.setArb k a := by
  unfold State.turnOf at h
  split at h
  next v a _ =>
    split at h
    · exact ⟨a, (Option.some.inj h).symm⟩
    · cases h
  · cases h

theorem deliveryCommit_of_local {s r : State} {c : Nat} {x : Xfer} {rest : List Xfer}
    (hturn : s.turnOf (c / 16) (s.leaderOf (c / 16)) (s.engineWaits (c / 16)) (c % 16) = some r)
    (hqueue : (s.chan c).queue = x :: rest) (hjob : s.jobEnded (s.leaderOf (c / 16)) x.job = false) (hmore : x.pos < x.total)
    (hlocal : x.remote = false) : s.deliveryCommit c = r.commitLocal c x none := by
  obtain ⟨a, hr⟩ := setArb_of_turnOf hturn
  have hqueue' : (r.chan c).queue = x :: rest := hr ▸ hqueue
  have hjob' : r.jobEnded (r.leaderOf (c / 16)) x.job = false := hr ▸ hjob
  obtain ⟨hsrc, hdst⟩ := Bool.or_eq_false_iff.mp hlocal
  simp [State.deliveryCommit, hturn, hqueue', hjob', not_le.mpr hmore, hsrc, hdst]

theorem ownMem_of_blockWritable {s : State} {l pa : Nat} (h : BlockWritable s l (pa / 4096)) : s.ownMem l pa = true := by
  obtain ⟨-, hgranules⟩ := h
  obtain ⟨hown, -⟩ := hgranules (pa % 4096 / 64) (by omega)
  rw [← ownMem_granule, ← hown]
  congr 1
  omega

/-- A transfer that goes on with the delivery `g`, without PROG, a record or a DONE add. -/
structure Delivers (x : Xfer) (g : Seg) : Prop where
  running : x.running = true
  plain : x.recDpa = none
  noDone : (x.w 12).flag 15 = false
  noProg : (x.w 12).flag 47 = false
  only : x.delivery x.pos = [g]

/-- The bytes of a delivery that the translations allow go to its block. -/
theorem gives_of_commit {s s1 s2 : State} {c : ChanId} {x : Xfer} {rest : List Xfer} {g : Seg} {l pa : Nat} {ps : List Piece}
    {f : Nat → Byte} {w : Who} {q k : Bool} (hd : Delivers x g)
    (hcommit : s.clean.deliveryCommit c = settleDelivery (s2.writeBlock (c / 16) (pa / 4096) ps).2.2 c x g.len q k)
    (hx : s1.xlateFor w (x.dstAt x.pos) false true = (.ok pa, s2)) (hw : BlockWritable s2 l (pa / 4096))
    (hc : Carries ps pa g.len f) (hqueue : (s2.chan c).queue = x :: rest) (hmis : s2.misuse = none) :
    Gives (.deliveryCommit c) s fun t => DeliveryMoved c x rest g.len pa s2 t
      ∧ ∀ i < g.len, seen t (pa + i) = f (pa + i) := by
  obtain ⟨hrun, hrec, hdone, hprog, honly⟩ := hd
  have hfits : pa % 4096 + g.len ≤ 4096 := xlateFor_mod hx ▸ (oneRun_of_delivery honly).fits
  have hwritten := blockWritten_writeBlock (b := c / 16) hw hc (by omega) (by omega)
  have hmoved := deliveryMoved_settleDelivery q k hwritten hqueue hrun hrec hdone hprog
  have hseen (y : Nat) := seen_settleDelivery (t := (s2.writeBlock (c / 16) (pa / 4096) ps).2.2) (c := c) (n := g.len) q k hrec
    hdone hprog y
  have hnone := (misuse_settleDelivery (c := c) (n := g.len) q k hrec hdone hprog).trans (hwritten.misuse.trans hmis)
  rw [← hcommit] at hmoved hseen hnone
  refine ⟨_, runU_of_none s (fun t => t.deliveryCommit c) hnone, hmoved, fun i hi => ?_⟩
  exact (hseen (pa + i)).trans (hwritten.inside _ (by omega) (by omega))

/-- A FILL writes its pattern (R252). -/
theorem fill_gives {s r s1 : State} {c : ChanId} {x : Xfer} {rest : List Xfer} {g : Seg} {l pa : Nat} (hd : Delivers x g)
    (hop : x.op = 1) (hcommit : s.clean.deliveryCommit c = r.commitLocal c x none) (hqueue : (r.chan c).queue = x :: rest)
    (hl : r.leaderOf (c / 16) = l) (hx : r.xlateFor (r.chanWho c x.asid) (x.dstAt x.pos) false true = (.ok pa, s1))
    (hmis : s1.misuse = none) (hw : BlockWritable s1 l (pa / 4096)) :
    Gives (.deliveryCommit c) s fun t => DeliveryMoved c x rest g.len pa s1 t
      ∧ ∀ i < g.len, seen t (pa + i) = (leBytes 8 (x.w 1).toNat).getD ((x.pos % x.len0 + i) % 8) 0 := by
  have hrun := oneRun_of_delivery hd.only
  obtain ⟨q, k, hcommit'⟩ := commitLocal_of_fetched (pages := []) (f := { ps := x.fillPieces [g] }) (if_pos hop) rfl
    (by rw [if_pos hop, hd.only]; rfl) rfl hx (hl ▸ ownMem_of_blockWritable hw)
  rw [hd.only, segBytes_single] at hcommit'
  have hqueue' : (s1.chan c).queue = x :: rest :=
    (keeps_of_unaccessed (unaccessed_xlateFor hx) (State.chan · c) fun _ => rfl) ▸ hqueue
  obtain ⟨t, ht, hmoved, hbytes⟩ :=
    gives_of_commit hd (hcommit.trans hcommit') hx hw (carries_fillPieces x hrun.dst pa) hqueue' hmis
  refine ⟨t, ht, hmoved, fun i hi => ?_⟩
  rw [hbytes i hi, hrun.pos, Nat.add_sub_cancel_left]

/-- A COPY writes the bytes of its source (R250). -/
theorem copy_gives {s r s1 s2 : State} {c : ChanId} {x : Xfer} {rest : List Xfer} {g : Seg} {l pa ps : Nat} (hd : Delivers x g)
    (hop : x.op = 0) (hcommit : s.clean.deliveryCommit c = r.commitLocal c x none) (hqueue : (r.chan c).queue = x :: rest)
    (hl : r.leaderOf (c / 16) = l) (hpage : g.src % 4096 + g.len ≤ 4096)
    (hsrc : r.xlateFor (r.chanWho c x.asid) g.src true false = (.ok ps, s1)) (hvalid : s1.blockValid (ps / 4096) = true)
    (hread : Readable s1 l ps g.len) (hx : s1.xlateFor (r.chanWho c x.asid) (x.dstAt x.pos) false true = (.ok pa, s2))
    (hmis : s2.misuse = none) (hw : BlockWritable s2 l (pa / 4096)) :
    Gives (.deliveryCommit c) s fun t => DeliveryMoved c x rest g.len pa s2 t
      ∧ ∀ i < g.len, seen t (pa + i) = seen s1 (ps + i) := by
  have hrun := oneRun_of_delivery hd.only
  have hno : x.op ≠ 1 := by omega
  have hpages := sourcePages_single hrun.some hpage
  have hfetch := fetchPage_of_readable g.dst hsrc hvalid (hl ▸ hread)
  have hleader : s1.leaderOf (c / 16) = r.leaderOf (c / 16) :=
    keeps_of_unaccessed (unaccessed_xlateFor hsrc) (State.leaderOf · (c / 16)) fun _ => rfl
  have hwho : s1.chanWho c x.asid = r.chanWho c x.asid := by rw [State.chanWho, hleader, State.chanWho]
  obtain ⟨q, k, hcommit'⟩ := commitLocal_of_fetched (pages := [(g.src, g.len, g.dst)])
    (by rw [if_neg hno, hd.only, hpages]) rfl (by rw [if_neg hno]; exact hfetch) rfl (hwho ▸ hx) (hl ▸ ownMem_of_blockWritable hw)
  rw [hd.only, segBytes_single] at hcommit'
  have hqueue' : (s2.chan c).queue = x :: rest :=
    (keeps_of_unaccessed ((unaccessed_xlateFor hx).trans (unaccessed_xlateFor hsrc)) (State.chan · c) fun _ => rfl) ▸ hqueue
  have hcarries := carries_readPieces hread (x.dstAt x.pos) pa
  rw [← hrun.dst] at hcarries hcommit'
  obtain ⟨t, ht, hmoved, hbytes⟩ := gives_of_commit hd (hcommit.trans hcommit') hx hw hcarries hqueue' hmis
  refine ⟨t, ht, hmoved, fun i hi => ?_⟩
  rw [hbytes i hi, Nat.add_sub_cancel_left]

/-- Settles O24: the delivery's bytes are carried by pieces, from the pattern or the granules of the source, and a block that
agents may write takes each piece granule by granule. -/
theorem transferDelivery : Obligations.TransferDelivery := by
  unfold Obligations.TransferDelivery
  intro s r s1 s2 c x rest g pa ps b l who va moved _ hqueue hrun hlocal _ hturn hjob hrec hdone hprog honly
  have hd : Delivers x g := ⟨hrun, hrec, hdone, hprog, honly⟩
  have hcommit : s.clean.deliveryCommit c = r.commitLocal c x none :=
    deliveryCommit_of_local hturn hqueue hjob (oneRun_of_delivery honly).more hlocal
  obtain ⟨a, hr⟩ := setArb_of_turnOf hturn
  have hqueue' : (r.chan c).queue = x :: rest := hr ▸ hqueue
  have hl : r.leaderOf (c / 16) = l := hr ▸ rfl
  have hwho : who = r.chanWho c x.asid := hr ▸ rfl
  clear_value who
  subst hwho
  exact ⟨fun hop hx hmis hw => fill_gives hd hop hcommit hqueue' hl hx hmis hw,
    fun hop hpage hsrc hvalid hread hx hmis hw =>
      copy_gives hd hop hcommit hqueue' hl hpage hsrc hvalid hread hx hmis hw⟩

end Sys2Proof.Proofs
end

section
/-!
PROOFS. What sending on the rails leaves unchanged (R335 to R361): it changes rail ports, peer contexts, arbiters, registers and
messages, and takes free values.
-/
namespace Sys2Proof.Proofs

open Sys2Proof Sys2Proof.Machine Sys2Proof.Safety Sys2Proof.Laws

/-- The state without what sending on the rails can change. -/
def unsent (s : State) : State := { s with freeCtr := 0, regs := [], out := [], arbs := [], ports := [], ctxs := [] }

theorem keeps_of_unsent {α : Type} {s t : State} (h : unsent t = unsent s) (p : State → α)
    (hp : ∀ x, p (unsent x) = p x) : p t = p s := (hp t).symm.trans ((congrArg p h).trans (hp s))

section
variable (s : State)

@[simp] theorem unsent_modPort (p : Nat) (f : Port → Port) : unsent (s.modPort p f) = unsent s := rfl
@[simp] theorem unsent_modCtx (k : Nat) (f : Ctx → Ctx) : unsent (s.modCtx k f) = unsent s := rfl
@[simp] theorem unsent_countFld (k lo w n : Nat) : unsent (s.countFld k lo w n) = unsent s := rfl
@[simp] theorem unsent_count (k n : Nat) : unsent (s.count k n) = unsent s := rfl
@[simp] theorem unsent_setArb (k : Nat) (a : Arb) : unsent (s.setArb k a) = unsent s := rfl
@[simp] theorem unsent_emit (m : Msg) : unsent (s.emit m) = unsent s := rfl
@[simp] theorem unsent_freeBytes (k : Nat) : unsent (s.freeBytes k).2 = unsent s := rfl

theorem unsent_when {f : State → State} (hf : ∀ t, unsent (f t) = unsent t) (b : Bool) :
    unsent (s.when b f) = unsent s := by
  cases b with
  | false => rfl
  | true => exact hf s

end

theorem unsent_of_fillPortSlot {s t : State} {p : Nat} {first : Bool} (h : s.fillPortSlot p first = some t) :
    unsent t = unsent s := by
  unfold State.fillPortSlot at h
  extract_lets q l at h
  split at h
  · cases h
  · split at h
    · cases h
    · obtain ⟨f, -, rfl⟩ := Option.map_eq_some_iff.mp h
      rw [unsent_emit, unsent_count, unsent_modPort, unsent_setArb]

theorem unsent_fillPort (p k : Nat) (first : Bool) (s : State) : unsent (State.fillPort p first k s) = unsent s := by
  induction k generalizing s first with
  | zero => rfl
  | succ k ih =>
    rw [State.fillPort]
    split
    next h => exact (ih false _).trans (unsent_of_fillPortSlot h)
    next => rfl

section
variable (s : State) (l c : Nat)

theorem unsent_sendFlit (p : Nat) (f : Flit) : unsent (s.sendFlit l c p f) = unsent s := by
  unfold State.sendFlit
  extract_lets x f' t
  exact (unsent_fillPort p _ true _).trans (unsent_when s (fun u => unsent_modCtx u _ _) _)

theorem unsent_policed (p cls n : Nat) : unsent (s.policed l c p cls n).2 = unsent s := by
  unfold State.policed
  split
  · rfl
  · extract_lets n demote
    split
    · rfl
    · extract_lets d
      split <;> rfl

theorem unsent_sendFlits (p type cls number info : Nat) (bodies : List (Nat × List Byte)) :
    unsent (s.sendFlits l c p type cls number info bodies) = unsent s := by
  unfold State.sendFlits
  extract_lets bodies'
  refine List.foldlRecOn bodies'.zipIdx _ (motive := fun r : Nat × State => unsent r.2 = unsent s) rfl fun r h b _ => ?_
  exact (unsent_sendFlit _ l c p _).trans ((unsent_policed r.2 l c p cls _).trans h)

theorem unsent_sendHandshake (rekey : Bool) : unsent (s.sendHandshake l c rekey) = unsent s := by
  unfold State.sendHandshake
  split
  · rfl
  · have hfree := unsent_freeBytes s 1568
    generalize s.freeBytes 1568 = r at hfree ⊢
    exact (unsent_modCtx _ _ _).trans ((unsent_sendFlits r.2 l c _ 8 0 0 _ _).trans hfree)

theorem unsent_answer (port type cls number info : Nat) (bodies : List (Nat × List Byte)) :
    unsent (s.answer l c port type cls number info bodies) = unsent s := by
  unfold State.answer
  split
  · extract_lets p
    clear_value p
    cases p with
    | some p => exact unsent_sendFlits s l c p type cls number info bodies
    | none => rfl
  · rfl

/-! The paths of contexts (R349, R353, R361). -/

theorem unsent_ctxKick : unsent (s.ctxKick l c) = unsent s := by
  have hsend (b rekey : Bool) : unsent (s.when b (·.sendHandshake l c rekey)) = unsent s :=
    unsent_when s (fun t => unsent_sendHandshake t l c rekey) b
  unfold State.ctxKick
  extract_lets k x opened y keyed rekeyed z
  split
  · rfl
  · split
    · split
      · exact (unsent_answer keyed l c 32 5 0 0 0 []).trans ((unsent_modCtx opened k _).trans (hsend _ false))
      · exact hsend _ false
    · split
      · split
        · exact (unsent_modCtx rekeyed k _).trans (hsend _ true)
        · exact hsend _ true
      · rfl

theorem unsent_resendCtx : unsent (s.resendCtx l c) = unsent s := by
  unfold State.resendCtx
  refine foldl_keeps unsent (fun t d => ?_) _ s
  split
  · rfl
  · split
    · rfl
    · exact unsent_sendFlits _ l c _ _ _ _ _ _

end

theorem unsent_pathScan (s : State) (l : Nat) : unsent (s.pathScan l) = unsent s := by
  unfold State.pathScan
  split
  · refine each_keeps unsent (fun t c => ?_) _ s
    extract_lets x gone u
    split
    · exact (unsent_ctxKick _ l c).trans (unsent_resendCtx u l c)
    · rfl
  · rfl

/-! Ports in and out of service (R335, R361). -/

theorem unsent_portLoses (s : State) (p : Nat) (st : PortState) : unsent (s.portLoses p st) = unsent s :=
  unsent_pathScan _ _

theorem unsent_retrainPort (s : State) (p : Nat) (retest : Bool) : unsent (s.retrainPort p retest) = unsent s := by
  unfold State.retrainPort State.trainPort
  split
  · rfl
  · rw [unsent_modPort, unsent_emit, unsent_countFld, unsent_portLoses]

theorem unsent_applyPorts (s : State) (b : Nat) : unsent (s.applyPorts b) = unsent s := by
  unfold State.applyPorts
  refine each_keeps unsent (fun t i => ?_) _ s
  extract_lets p
  split
  · split
    · rfl
    · exact unsent_portLoses t p .off
  · split
    · rfl
    · split
      · exact unsent_retrainPort t p false
      · rfl

end Sys2Proof.Proofs
end

section
/-!
PROOFS. Loading, applying and persisting a Timetable (R69 to R80).
-/
namespace Sys2Proof.Proofs

open Sys2Proof Sys2Proof.Machine Sys2Proof.Safety Sys2Proof.Laws

/-! A load completes (R70, R71). -/

/-- What a load that completes leaves, but for reports: no load, and its result in TT_STATUS. -/
def loadEnded (s : State) (r : TtRefusal) : State :=
  ((State.setFld { s with ttLoad := none } (ttKey 8) 8 8 r.code).setFld (ttKey 8) 16 8 r.sect).setFld (ttKey 8) 24 8 r.basins

section
variable (s : State) (src : TtSrc) (r : TtRefusal)

theorem unreported_ttComplete : unreported (s.ttComplete src r) = unreported (loadEnded s r) := by
  unfold State.ttComplete
  extract_lets idle told logged
  have hlogged : unreported logged = unreported told := by
    dsimp only [logged]
    cases r.code != 0 with
    | false => rfl
    | true => exact unreported_logEvent told _ _ _ _ _ _
  exact (unreported_signal logged 0 0).trans hlogged

theorem ttLoad_ttComplete : (s.ttComplete src r).ttLoad = none :=
  keeps_of_unreported (unreported_ttComplete s src r) State.ttLoad fun _ => rfl

theorem tt_ttComplete : (s.ttComplete src r).tt = s.tt :=
  ttComplete_keeps State.tt (fun _ => rfl) (fun _ => rfl) (fun _ _ _ => rfl) s src r

theorem mem_ttComplete : (s.ttComplete src r).mem = s.mem :=
  ttComplete_keeps State.mem (fun _ => rfl) (fun _ => rfl) (fun _ _ _ => rfl) s src r

theorem flash_ttComplete : (s.ttComplete src r).flash = s.flash :=
  ttComplete_keeps State.flash (fun _ => rfl) (fun _ => rfl) (fun _ _ _ => rfl) s src r

theorem status_ttComplete : (s.ttComplete src r).reg (ttKey 8)
    = (((s.reg (ttKey 8)).withField 8 8 r.code).withField 16 8 r.sect).withField 24 8 r.basins := by
  refine (keeps_of_unreported (unreported_ttComplete s src r) (State.reg · (ttKey 8)) fun _ => rfl).trans ?_
  simp only [loadEnded, reg_setFld_self]
  rfl

theorem result_ttComplete : (s.ttComplete src r).fld (ttKey 8) 8 8 = r.code % 2 ^ 8 := by
  rw [State.fld, status_ttComplete, field_withField_ne _ _ (by decide) (.inl (by decide)),
    field_withField_ne _ _ (by decide) (.inl (by decide)), field_withField_self _ _ (by decide)]

/-- The bits of TT_STATUS below RESULT stay as they were. -/
theorem flag_ttComplete {i : Nat} (hi : i < 8) : (s.ttComplete src r).flag (ttKey 8) i = s.flag (ttKey 8) i := by
  rw [State.flag, status_ttComplete, flag_withField_ne _ _ (by decide) (.inl (by omega)),
    flag_withField_ne _ _ (by decide) (.inl (by omega)), flag_withField_ne _ _ (by decide) (.inl (by omega))]
  rfl

end

theorem flag_setFlag_self (s : State) (k : Nat) {i : Nat} (hi : i < 64) (b : Bool) : (s.setFlag k i b).flag k i = b := by
  rw [State.flag, State.setFlag, reg_setFld_self, flag_withField_one _ b hi]

theorem flag_setFlag_ne (s : State) (k : Nat) {i j : Nat} (hi : i < 64) (hne : j ≠ i) (b : Bool) :
    (s.setFlag k i b).flag k j = s.flag k j := by
  rw [State.flag, State.setFlag, reg_setFld_self, flag_withField_ne _ _ (by omega) (by omega)]
  rfl

/-! TT_LOAD (R69, R71, R80, R522). -/

/-- SOURCE of TT_LOAD. -/
def ttSource (v : Word) : TtSrc := match v.field 0 2 with | 1 => .slotA | 2 => .slotB | _ => .host

/-- R71 does not refuse the source: a flash slot, or host memory at an aligned address with a length in its range. -/
def SourceFine (s : State) (v : Word) : Prop :=
  v.field 0 2 ≠ 3 ∧ (v.field 0 2 = 0 → (s.reg (ttKey 0x10)).toNat % 8 = 0
    ∧ 8 ≤ s.fld (ttKey 0x18) 0 21 ∧ s.fld (ttKey 0x18) 0 21 ≤ 0x100000)

/-- The load that a write of TT_LOAD begins. -/
def loadBegun (s : State) (v : Word) : TtLoad :=
  { stage := if s.sec.ownerOp.isSome then .waiting else .reading, src := ttSource v, dryRun := v.flag 2
    persist := v.flag 3, addr := (s.reg (ttKey 0x10)).toNat, len := s.fld (ttKey 0x18) 0 21 }

theorem field_eq_zero_of_host {v : Word} (h : ttSource v = .host) (h3 : v.field 0 2 ≠ 3) : v.field 0 2 = 0 := by
  have hlt : v.field 0 2 < 4 := Nat.mod_lt _ (by decide)
  have h1 : v.field 0 2 ≠ 1 := fun e => by
    rw [ttSource, e] at h
    cases h
  have h2 : v.field 0 2 ≠ 2 := fun e => by
    rw [ttSource, e] at h
    cases h
  omega

section
variable {s : State} {v : Word} (hv : v.field 5 59 = 0) (hgo : v.flag 4 = true)
include hv hgo

/-- GO where no load can begin only sets OVERRUN. -/
theorem writeTtLoad_of_overrun (h : (s.ttLoad.isSome || s.boot.stage.early || s.fwWriting) = true) :
    s.writeTtLoad v = (s.setReg (ttKey 0) (BitVec.ofNat 64 (v.field 0 4))).setFlag (ttKey 8) 1 true := by
  have hbusy : ((s.setReg (ttKey 0) (BitVec.ofNat 64 (v.field 0 4))).ttLoad.isSome || s.boot.stage.early
      || (s.setReg (ttKey 0) (BitVec.ofNat 64 (v.field 0 4))).fwWriting) = true := h
  simp only [State.writeTtLoad, hv, bne_self_eq_false, undefIf_false, hgo, Bool.not_true, Bool.false_eq_true, if_false]
  exact if_pos hbusy

/-- GO with a source that R71 does not refuse begins a load. -/
theorem writeTtLoad_of_fine (hidle : s.ttLoad = none) (hearly : s.boot.stage.early = false) (hfw : s.fwWriting = false)
    (hfine : SourceFine s v) :
    s.writeTtLoad v = { s.setReg (ttKey 0) (BitVec.ofNat 64 (v.field 0 4)) with ttLoad := some (loadBegun s v) } := by
  obtain ⟨h3, hhost⟩ := hfine
  have hfree : ¬ ((s.setReg (ttKey 0) (BitVec.ofNat 64 (v.field 0 4))).ttLoad.isSome || s.boot.stage.early
      || (s.setReg (ttKey 0) (BitVec.ofNat 64 (v.field 0 4))).fwWriting) = true := by
    have hfw' : (s.setReg (ttKey 0) (BitVec.ofNat 64 (v.field 0 4))).fwWriting = false := hfw
    simp [hidle, hearly, hfw']
  have haddr : (s.setReg (ttKey 0) (BitVec.ofNat 64 (v.field 0 4))).reg (ttKey 0x10) = s.reg (ttKey 0x10) :=
    reg_setReg_ne s _ (by decide)
  have hlen : (s.setReg (ttKey 0) (BitVec.ofNat 64 (v.field 0 4))).fld (ttKey 0x18) 0 21 = s.fld (ttKey 0x18) 0 21 :=
    congrArg (Word.field · 0 21) (reg_setReg_ne s _ (by decide))
  have hok : ¬ (v.field 0 2 = 3 ∨ (ttSource v = .host ∧ ((s.reg (ttKey 0x10)).toNat % 8 ≠ 0
      ∨ s.fld (ttKey 0x18) 0 21 < 8 ∨ 0x100000 < s.fld (ttKey 0x18) 0 21))) := by
    rintro (h | ⟨h, hbad⟩)
    · exact h3 h
    · have := hhost (field_eq_zero_of_host h h3)
      omega
  simp only [State.writeTtLoad, hv, bne_self_eq_false, undefIf_false, hgo, Bool.not_true, Bool.false_eq_true, if_false]
  refine (if_neg hfree).trans ?_
  rw [haddr, hlen]
  exact if_neg hok

end

/-- A command that is a write through PF0, where PF0 writes take effect and no undefined case is met. -/
theorem gives_of_hubWrite {c : Instr} {f : State → State} {s u : State} {P : State → Prop}
    (hc : exec c s = runU (fun s => s.hubWrite f) s) (hw : s.hubWrites = true) (hu : f s.clean = u) (hm : u.misuse = none)
    (hP : P (u.keeping s)) : Gives c s P := by
  have hwrite : s.clean.hubWrite f = u := by
    have hw' : s.clean.hubWrites = true := hw
    rw [State.hubWrite, if_pos hw', hu]
    exact noted_of_none u .pf0 hm
  refine ⟨_, hc.trans (runU_of_none s (fun s => s.hubWrite f) (by rw [hwrite, hm])), ?_⟩
  rw [hwrite]
  exact hP

section
variable {c : Instr} {s : State} {v : Word} (hc : exec c s = runU (fun s => s.hubWrite (·.writeTtLoad v)) s)
  (hw : s.hubWrites = true) (hv : v.field 5 59 = 0) (hgo : v.flag 4 = true)
include hc hw hv hgo

theorem ttLoad_overruns (h : (s.ttLoad.isSome || s.boot.stage.early || s.fwWriting) = true) :
    Gives c s fun t => t.flag (ttKey 8) 1 = true ∧ t.ttLoad = s.ttLoad ∧ t.tt = s.tt :=
  gives_of_hubWrite hc hw (writeTtLoad_of_overrun (s := s.clean) hv hgo h) rfl
    ⟨flag_setFlag_self _ (ttKey 8) (by decide) true, rfl, rfl⟩

theorem ttLoad_begins (hidle : s.ttLoad = none) (hearly : s.boot.stage.early = false) (hfw : s.fwWriting = false)
    (hfine : SourceFine s v) :
    Gives c s fun t => (∃ x, t.ttLoad = some x ∧ x.src = ttSource v ∧ x.dryRun = v.flag 2 ∧ x.persist = v.flag 3
      ∧ (s.sec.ownerOp = none → x.stage = .reading)) ∧ t.tt = s.tt ∧ t.mem = s.mem :=
  gives_of_hubWrite hc hw (writeTtLoad_of_fine (s := s.clean) hv hgo hidle hearly hfw hfine) rfl
    ⟨⟨loadBegun s.clean v, rfl, rfl, rfl, rfl, fun h => if_neg (by
      have h' : s.clean.sec.ownerOp = none := h
      rw [h']
      exact Bool.false_ne_true)⟩, rfl, rfl⟩

end

/-! TT_IMAGE_READ_DONE (R72). -/

section
variable {s : State} {x : TtLoad} (hx : s.ttLoad = some x) (hst : x.stage = .reading)
include hx hst

/-- A read that failed. -/
theorem ttReadDone_of_failed (sigOk : Bool) : s.ttReadDone false sigOk = s.ttComplete x.src { code := 1 } := by
  have hread : ¬ x.stage ≠ .reading := not_not.mpr hst
  simp only [State.ttReadDone, hx, if_neg hread]
  rfl

variable {img : List Byte} (himg : s.ttImage x true = some img) {sigOk : Bool}
include himg

/-- A verdict that is not the one of the image's signature is no event where an owner key is enrolled. -/
theorem ttReadDone_of_otherVerdict (howner : s.nvm.ownerHash.isSome = true) (hne : sigOk ≠ imageSigned img) :
    s.ttReadDone true sigOk = s := by
  have hread : ¬ x.stage ≠ .reading := not_not.mpr hst
  have hother : (s.nvm.ownerHash.isSome && sigOk != imageSigned img) = true := by simp [howner, hne]
  simp only [State.ttReadDone, hx, if_neg hread, himg, if_pos hother]

/-- A dry run whose image passes and whose Lines are ready. -/
theorem ttReadDone_of_dryRun (hverdict : s.nvm.ownerHash.isSome = true → sigOk = imageSigned img) {a : TtAccepted}
    (hok : s.ttCheck img false sigOk = .ok a) (hready : s.ttBusy (s.tt.touched a.next) = []) (hdry : x.dryRun = true) :
    s.ttReadDone true sigOk = s.ttComplete x.src { code := 0 } := by
  have hread : ¬ x.stage ≠ .reading := not_not.mpr hst
  have hsame : ¬ (s.nvm.ownerHash.isSome && sigOk != imageSigned img) = true := by simpa using hverdict
  have hnone : ¬ s.ttBusy (s.tt.touched a.next) ≠ [] := not_not.mpr hready
  simp only [State.ttReadDone, hx, if_neg hread, himg, if_neg hsame, hok, if_neg hnone, if_pos hdry]

end

/-! TT_PERSIST_DONE (R78). -/

section
variable {s : State} {x : TtLoad} (hx : s.ttLoad = some x) (hst : x.stage = .persisting) (hfw : s.fwWriting = false)
include hx hst hfw

/-- A failed write. -/
theorem ttPersistDone_of_failed : ∃ f, s.ttPersistDone false
    = (State.fwGo { s with flash := f }).ttComplete x.src { code := 0x14 } := by
  have hgo : ¬ (x.stage ≠ .persisting ∨ s.fwWriting = true) := by simp [hst, hfw]
  refine ⟨if !s.flag (ttKey 8) 5 then { s.flash with slotB := breakImage x.image }
    else { s.flash with slotA := breakImage x.image }, ?_⟩
  simp only [State.ttPersistDone, hx, if_neg hgo]
  rfl

/-- A write that succeeded: the slot that did not run holds the image, and is the one that runs. -/
theorem ttPersistDone_of_ok : s.ttPersistDone true = (((State.fwGo { s with
      flash := if s.flag (ttKey 8) 5 then { s.flash with slotA := x.image } else { s.flash with slotB := x.image } }).setFlag
      (ttKey 8) 2 true).setFlag (ttKey 8) 5 (!s.flag (ttKey 8) 5)).ttComplete x.src { code := 0 } := by
  have hgo : ¬ (x.stage ≠ .persisting ∨ s.fwWriting = true) := by simp [hst, hfw]
  simp only [State.ttPersistDone, hx, if_neg hgo]
  cases s.flag (ttKey 8) 5 <;> rfl

end

/-! TT_APPLY_DONE (R76). -/

theorem tt_of_unreported {s t : State} (h : unreported t = unreported s) : t.tt = s.tt :=
  keeps_of_unreported h State.tt fun _ => rfl

theorem tt_setLineState (s : State) (l : Nat) (st : LnState) : (s.setLineState l st).tt = s.tt := by
  unfold State.setLineState
  extract_lets old t
  split
  · rfl
  · exact (tt_of_unreported (unreported_logEvent t _ _ _ _ _ _)).trans (modLine_tt s l _)

theorem tt_signalChanges (s old : State) : (s.signalChanges old).tt = s.tt := by
  refine each_keeps State.tt (fun t n => ?_) _ s
  cases (t.lnStatus n).field 0 4 != (old.lnStatus n).field 0 4 with
  | false => rfl
  | true => exact tt_of_unreported (unreported_signalState t n)

theorem tt_resetLine (s : State) (l : Nat) : (s.resetLine l).tt = s.tt :=
  (lasting_eq_iff.mp (lasting_resetLine s l)).2.2.2.1

theorem tt_restBasins (s : State) (l : Nat) : (s.restBasins l).tt = s.tt :=
  restBasins_keeps State.tt (fun _ _ _ => rfl) (fun _ _ _ => rfl) s l

theorem tt_bindBasin (s : State) (b : Nat) : (s.bindBasin b).tt = s.tt := by
  unfold State.bindBasin
  extract_lets r rest t grids cores
  split <;> rfl

/-- The apply puts its Timetable in force. -/
theorem tt_putTimetable (s : State) (t : Timetable) (bs clear : List Nat) (cause : Nat) :
    (s.putTimetable t bs clear cause).tt = t := by
  unfold State.putTimetable
  extract_lets old cleared placed was now led bound mapped off members reset
  have hbound : bound.tt = t := each_keeps State.tt tt_bindBasin bs led
  have hmapped : mapped.tt = bound.tt := each_keeps State.tt (fun u b => modBmem_tt u b _) bs bound
  have hoff : off.tt = mapped.tt := each_keeps State.tt (fun u b => tt_setLineState u b .off) _ mapped
  have hmembers : members.tt = off.tt := each_keeps State.tt (fun u b => modLine_tt u b _) _ off
  have hreset : reset.tt = members.tt := by
    refine each_keeps State.tt (fun u l => ?_) now members
    extract_lets v
    rw [tt_restBasins, tt_setLineState, tt_resetLine, modLine_tt]
  have hports : (reset.each bs fun u b => u.applyPorts b).tt = reset.tt :=
    each_keeps State.tt (fun u b => keeps_of_unsent (unsent_applyPorts u b) State.tt fun _ => rfl) bs reset
  rw [tt_signalChanges, hports, hreset, hmembers, hoff, hmapped, hbound]

/-- A load from host memory without PERSIST ends with its apply. -/
theorem ttApplied_of_host {x : TtLoad} (hsrc : x.src = .host) (hkeep : x.persist = false) (s : State) :
    ∃ u : State, u.tt = s.tt ∧ s.ttApplied x = (u.setFlag (ttKey 8) 2 false).ttComplete .host { code := 0 } := by
  unfold State.ttApplied
  extract_lets capped logged flagged
  refine ⟨flagged, ?_, by simp only [hsrc, hkeep]; rfl⟩
  have hcapped : capped.tt = s.tt := by
    dsimp only [capped]
    cases x.hasModule <;> rfl
  exact (tt_of_unreported (unreported_logEvent capped _ _ _ _ _ _)).trans hcapped

/-! The faults that an apply has deferred (R76, R463, R464). -/

/-- What the end of a load leaves to be read: the Timetable, the load and the registers. -/
def loading (s : State) : Timetable × Option TtLoad × Tbl Word := (s.tt, s.ttLoad, s.regs)

section
variable (s : State)

@[simp] theorem loading_modGrid (g : Nat) (f : GridSlot → GridSlot) : loading (s.modGrid g f) = loading s := rfl
@[simp] theorem loading_modHart (h : Nat) (f : Core → Core) : loading (s.modHart h f) = loading s := rfl
@[simp] theorem loading_modHealth (k : Nat) (f : Health → Health) : loading (s.modHealth k f) = loading s := rfl
@[simp] theorem loading_with_bindings (b : Tbl Nat) : loading { s with bindings := b } = loading s := rfl
@[simp] theorem loading_with_sidings (b x : Tbl Nat) : loading { s with bindings := b, sidings := x } = loading s := rfl
@[simp] theorem loading_putGranule (g : Nat) (d : List Byte) (p : Bool) : loading (s.putGranule g d p) = loading s := rfl
@[simp] theorem loading_dropCopy (a g : Nat) : loading (s.dropCopy a g) = loading s := rfl
@[simp] theorem loading_redirect (g : Nat) : loading (s.redirect g) = loading s := rfl

theorem loading_giveName (g : Nat) (k : Option Nat) : loading (s.giveName g k) = loading s := by
  unfold State.giveName
  split
  · exact loading_with_bindings s _
  · rfl

theorem loading_takeOver (g : Nat) : loading (s.takeOver g) = loading s := by
  unfold State.takeOver
  split
  · rw [loading_modGrid, loading_giveName]
  · rfl

theorem loading_flushAgent (a : Nat) (poison : Bool) : loading (s.flushAgent a poison) = loading s := by
  unfold State.flushAgent
  refine foldl_keeps loading (fun t e => ?_) _ s
  extract_lets g
  split
  · extract_lets dirty writes u
    rw [loading_redirect, loading_dropCopy]
    dsimp only [u]
    split
    · rw [loading_putGranule]
    · rfl
  · rfl

theorem loading_dropCore (b i : Nat) : loading (s.dropCore b i) = loading s := by
  unfold State.dropCore
  rw [loading_with_bindings, loading_modHart, loading_flushAgent]

theorem loading_coreLeaves (b j : Nat) : loading (s.coreLeaves b j).2 = loading s := by
  unfold State.coreLeaves
  split
  · rfl
  · split
    · exact loading_dropCore s b _
    · split
      · exact loading_modHealth s _ _
      · exact loading_with_sidings s _ _

theorem loading_unitLeaves (k : Nat) : loading (s.unitLeaves k).2 = loading s := by
  unfold State.unitLeaves
  extract_lets u b g found x
  split
  · exact loading_modHealth s k _
  · split
    · split
      · rfl
      · split
        · exact (loading_takeOver _ g).trans (loading_modGrid s g _)
        · exact loading_modGrid s g _
    · exact loading_coreLeaves s _ _

theorem loading_actDeferred (bs : List Nat) : loading (s.actDeferred bs) = loading s := by
  unfold State.actDeferred
  refine foldl_keeps loading (fun t e => ?_) _ s
  rw [loading_unitLeaves, loading_modHealth]

end

theorem loading_applyDone (s : State) : loading s.applyDone = loading s.ttApplyDone := by
  unfold State.applyDone
  extract_lets bs
  cases bs != [] with
  | false => rfl
  | true => exact loading_actDeferred s.ttApplyDone bs

theorem ttApplyDone_gives {s : State} {x : TtLoad} (hx : s.ttLoad = some x) (hst : x.stage = .applying)
    (hsrc : x.src = .host) (hkeep : x.persist = false) :
    Gives .ttApplyDone s fun t =>
      t.tt = x.next ∧ t.ttLoad = none ∧ t.fld (ttKey 8) 8 8 = 0 ∧ t.flag (ttKey 8) 2 = false := by
  obtain ⟨u, hu, happlied⟩ := ttApplied_of_host hsrc hkeep (s.putTimetable x.next x.touched x.clear 0x07)
  have hdone : s.ttApplyDone = (u.setFlag (ttKey 8) 2 false).ttComplete .host { code := 0 } := by
    simp only [State.ttApplyDone, hx, if_pos hst, happlied]
  have hload : loading s.applyDone = loading ((u.setFlag (ttKey 8) 2 false).ttComplete .host { code := 0 }) :=
    (loading_applyDone s).trans (congrArg loading hdone)
  obtain ⟨htt, hrest⟩ := Prod.mk.inj hload
  obtain ⟨hnone, hregs⟩ := Prod.mk.inj hrest
  have hreg : s.applyDone.reg (ttKey 8) = ((u.setFlag (ttKey 8) 2 false).ttComplete .host { code := 0 }).reg (ttKey 8) :=
    congrArg (tblGet (regReset (ttKey 8)) · (ttKey 8)) hregs
  refine ⟨_, rfl, htt.trans ?_, hnone.trans (ttLoad_ttComplete _ _ _), (congrArg (Word.field · 8 8) hreg).trans ?_,
    (congrArg (Word.flag · 2) hreg).trans ?_⟩
  · rw [tt_ttComplete, setFlag_tt, hu, tt_putTimetable]
  · exact result_ttComplete _ _ _
  · exact (flag_ttComplete _ _ _ (by decide)).trans (flag_setFlag_self u _ (by decide) false)

end Sys2Proof.Proofs
end

section
/-!
PROOFS. What TimetableCommands comes down to (R53, R69 to R80).
-/
namespace Sys2Proof.Proofs

open Sys2Proof Sys2Proof.Machine Sys2Proof.Safety Sys2Proof.Laws

/-! What each ending command gives. -/

theorem ttImageReadDone_gives_of_failed {s : State} {x : TtLoad} (hx : s.ttLoad = some x) (hst : x.stage = .reading)
    (sigOk : Bool) :
    Gives (.ttImageReadDone false sigOk) s fun t => t.ttLoad = none ∧ t.fld (ttKey 8) 8 8 = 0x01 ∧ t.tt = s.tt := by
  refine ⟨(s.ttReadDone false sigOk).keeping s, rfl, ?_⟩
  rw [ttReadDone_of_failed hx hst]
  exact ⟨ttLoad_ttComplete _ _ _, result_ttComplete _ _ _, tt_ttComplete _ _ _⟩

theorem ttImageReadDone_gives_of_dryRun {s : State} {x : TtLoad} {img : List Byte} {a : TtAccepted} {sigOk : Bool}
    (hx : s.ttLoad = some x) (hst : x.stage = .reading) (himg : s.ttImage x true = some img)
    (hverdict : s.nvm.ownerHash.isSome = true → sigOk = imageSigned img) (hok : s.ttCheck img false sigOk = .ok a)
    (hready : s.ttBusy (s.tt.touched a.next) = []) (hdry : x.dryRun = true) :
    Gives (.ttImageReadDone true sigOk) s fun t =>
      t.ttLoad = none ∧ t.fld (ttKey 8) 8 8 = 0 ∧ t.tt = s.tt ∧ t.mem = s.mem := by
  refine ⟨(s.ttReadDone true sigOk).keeping s, rfl, ?_⟩
  rw [ttReadDone_of_dryRun hx hst himg hverdict hok hready hdry]
  exact ⟨ttLoad_ttComplete _ _ _, result_ttComplete _ _ _, tt_ttComplete _ _ _, mem_ttComplete _ _ _⟩

section
variable {s : State} {x : TtLoad} (hx : s.ttLoad = some x) (hst : x.stage = .persisting) (hfw : s.fwWriting = false)
include hx hst hfw

theorem ttPersistDone_gives_of_ok :
    Gives (.ttPersistDone true) s fun t => t.ttLoad = none ∧ t.fld (ttKey 8) 8 8 = 0 ∧ t.flag (ttKey 8) 2 = true
      ∧ t.flag (ttKey 8) 5 = !s.flag (ttKey 8) 5
      ∧ (if s.flag (ttKey 8) 5 then t.flash.slotA = x.image else t.flash.slotB = x.image) := by
  refine ⟨(s.ttPersistDone true).keeping s, rfl, ?_⟩
  rw [ttPersistDone_of_ok hx hst hfw]
  refine ⟨ttLoad_ttComplete _ _ _, result_ttComplete _ _ _, ?_, ?_, ?_⟩
  · refine (flag_ttComplete _ _ _ (by decide)).trans ?_
    rw [flag_setFlag_ne _ _ (by decide) (by decide), flag_setFlag_self _ _ (by decide)]
  · exact (flag_ttComplete _ _ _ (by decide)).trans (flag_setFlag_self _ _ (by decide) _)
  · simp only [keeping_flash, flash_ttComplete]
    cases s.flag (ttKey 8) 5 <;> rfl

theorem ttPersistDone_gives_of_failed :
    Gives (.ttPersistDone false) s fun t => t.ttLoad = none ∧ t.fld (ttKey 8) 8 8 = 0x14 ∧ t.tt = s.tt := by
  obtain ⟨f, hdone⟩ := ttPersistDone_of_failed hx hst hfw
  refine ⟨(s.ttPersistDone false).keeping s, rfl, ?_⟩
  rw [hdone]
  exact ⟨ttLoad_ttComplete _ _ _, result_ttComplete _ _ _, tt_ttComplete _ _ _⟩

end

/-! The verdict of the signature. -/

/-- Where an owner key is enrolled, the verdict with which an image passes the checks is that of its signature. -/
def VerdictsAgree : Prop :=
  ∀ (s : State) (img : List Byte) (a : TtAccepted) (sigOk : Bool), s.nvm.ownerHash.isSome = true →
    s.ttCheck img false sigOk = .ok a → sigOk = imageSigned img

/-- A dry run from slot A. -/
def dryLoad : TtLoad := { stage := .reading, src := .slotA, dryRun := true, persist := false, addr := 0, len := 0 }

/-- The state `s` without Lines, as it reads an image for a dry run. -/
def dryReading (s : State) (img : List Byte) : State :=
  { s with leaders := [], flash := { s.flash with slotA := img }, ttLoad := some dryLoad }

theorem ttCheck_dryReading (s : State) (img : List Byte) (sigOk : Bool) :
    (dryReading s img).ttCheck img false sigOk = s.ttCheck img false sigOk := rfl

/-- Without Lines, an apply waits for none. -/
theorem ttBusy_dryReading (s : State) (img : List Byte) (t u : Timetable) :
    (dryReading s img).ttBusy (t.touched u) = [] := by
  have hnone : (t.touched u).filter (dryReading s img).isLeader = [] := by
    refine List.filter_eq_nil_iff.mpr fun b hb hlead => ?_
    have hlt := List.mem_range.mp (List.mem_of_mem_filter hb)
    have : 8 = b := beq_iff_eq.mp hlead
    omega
  rw [State.ttBusy, hnone]
  rfl

theorem verdictsAgree_of_timetableCommands (h : Obligations.TimetableCommands) : VerdictsAgree := by
  intro s img a sigOk howner hok
  by_contra hne
  obtain ⟨-, hread, -⟩ := h (dryReading s img)
  obtain ⟨-, hdry⟩ := hread dryLoad sigOk rfl rfl
  obtain ⟨t, ht, hgone, -⟩ := hdry img a rfl ((ttCheck_dryReading s img sigOk).trans hok) (ttBusy_dryReading s img _ _) rfl
  have hsame : (dryReading s img).ttReadDone true sigOk = dryReading s img :=
    ttReadDone_of_otherVerdict (x := dryLoad) rfl rfl rfl howner hne
  have hexec : exec (.ttImageReadDone true sigOk) (dryReading s img) = .next (dryReading s img) :=
    congrArg (fun u => Host.Outcome.next (State.keeping u (dryReading s img))) hsame
  obtain rfl : dryReading s img = t := Host.Outcome.next.inj (hexec.symm.trans ht)
  cases hgone

theorem timetableCommands_of_verdictsAgree (h : VerdictsAgree) : Obligations.TimetableCommands := by
  unfold Obligations.TimetableCommands
  intro s st early
  refine ⟨fun v hw hv hgo hearly => ⟨?begins, ?dry, fun x hx => ?busy⟩, fun x sigOk hx hst => ⟨?failed, ?passes⟩,
    fun x hx hst hsrc hkeep => ttApplyDone_gives hx hst hsrc hkeep,
    fun x hx hst hfw => ⟨ttPersistDone_gives_of_ok hx hst hfw, ttPersistDone_gives_of_failed hx hst hfw⟩,
    fun v hw hv hgo hfw => ?firmware⟩
  case begins => exact fun hidle hfw hfine _ => ttLoad_begins rfl hw hv hgo hidle hearly hfw hfine
  case dry => exact fun hidle hfw hfine _ => ttLoad_begins rfl hw hv hgo hidle hearly hfw hfine
  case busy =>
    have hover := ttLoad_overruns (c := .ttLoad v) (s := s) rfl hw hv hgo (by rw [hx]; rfl)
    rwa [hx] at hover
  case failed => exact ttImageReadDone_gives_of_failed hx hst sigOk
  case passes =>
    exact fun img a himg hok hready hdry =>
      ttImageReadDone_gives_of_dryRun hx hst himg (fun howner => h s img a sigOk howner hok) hok hready hdry
  case firmware => exact ttLoad_overruns rfl hw hv hgo (by rw [hfw, Bool.or_true])

/-- All of TimetableCommands holds but for one thing, which it leaves out: where an owner key is enrolled, TT_IMAGE_READ_DONE
acts only with the verdict of the image's own signature (R53). -/
theorem timetableCommands_iff : Obligations.TimetableCommands ↔ VerdictsAgree :=
  ⟨verdictsAgree_of_timetableCommands, timetableCommands_of_verdictsAgree⟩

/-! `VerdictsAgree` is a claim about `Config.xmssOk`, which has no body: it holds where every signature verifies, and it says of
one image that its signature, all zero, verifies. So neither TimetableCommands nor its negation can be proved. -/

/-- Where an owner key is enrolled, every way through the header without a good verdict refuses the image. -/
theorem verdict_of_ttHeader {s : State} (howner : s.nvm.ownerHash.isSome = true) {img : List Byte} {boot sigOk : Bool}
    {ss : List TtSection} (h : s.ttHeader img boot sigOk = .ok ss) : sigOk = true := by
  by_contra hsig
  unfold State.ttHeader at h
  extract_lets ver flags gen signed stop total secs block at h
  have hbad : s.nvm.ownerHash.isSome ∧ (s.nvm.ownerHash ≠ some (ownerKeyHash (block.take 64)) ∨ sigOk = false
      ∨ (block.drop 2884).any (· != 0)) := ⟨howner, .inr (.inl (Bool.eq_false_iff.mpr hsig))⟩
  clear_value secs
  cases secs with
  | error i => split_ifs at h
  | ok ss =>
    simp only [if_pos hbad] at h
    split_ifs at h

theorem verdictsAgree_of_verifying (h : ∀ key msg sig, Config.xmssOk key msg sig = true) : VerdictsAgree := by
  intro s img a sigOk howner hok
  have hsigned : imageSigned img = true := h _ _ _
  rw [hsigned]
  cases hheader : s.ttHeader img false sigOk with
  | error r =>
    rw [State.ttCheck, hheader] at hok
    cases hok
  | ok ss => exact verdict_of_ttHeader howner hheader

/-- The signed part of an image of generation 1: its header and a MODULE section. -/
def moduleImage : List Byte :=
  [84, 84, 66, 76, 3, 0, 64, 0, 24, 0, 0, 0, 1, 0, 1, 0, 1] ++ List.replicate 47 0
    ++ [11, 1, 0, 0, 24, 0, 0, 0, 1] ++ List.replicate 15 0

/-- The image with its digest and a countersignature block of zeros. -/
def zeroSigned : List Byte := moduleImage ++ shake256 64 moduleImage ++ List.replicate 2888 0

/-- A module whose owner key is all zero takes the image where the event says that its signature verifies. -/
theorem ttCheck_zeroSigned :
    (State.ttCheck { nvm := { ownerHash := some (ownerKeyHash (List.replicate 64 0)) } } zeroSigned false true).isOk
      = true := by
  decide +kernel

theorem zeroSigned_verifies_of_timetableCommands (h : Obligations.TimetableCommands) : imageSigned zeroSigned = true := by
  have hok := ttCheck_zeroSigned
  generalize hs : ({ nvm := { ownerHash := some (ownerKeyHash (List.replicate 64 0)) } } : State) = s at hok
  have howner : s.nvm.ownerHash.isSome = true := hs ▸ rfl
  cases hcheck : s.ttCheck zeroSigned false true with
  | error r => rw [hcheck] at hok; cases hok
  | ok a => exact (verdictsAgree_of_timetableCommands h s zeroSigned a true howner hcheck).symm

end Sys2Proof.Proofs
end

section
/-!
PROOFS. MX blocks whose elements are not converted (R94, R95): a block with a NaN and a block of zeros.
-/
namespace Sys2Proof.Proofs

open Sys2Proof Sys2Proof.Machine Sys2Proof.Safety Sys2Proof.Laws

/-! The magnitude that chooses the scale (R92). -/

theorem mxMag_of_zero {x : Machine.Num} (h : x.isZero = true) : (mxMag x).1 = 0 := by
  cases x with
  | nan => rfl
  | inf n => cases h
  | fin n m e => exact beq_iff_eq.mp h

/-- A largest magnitude is that of one of the values, so zeros have none. -/
theorem mxMax_of_zeros {v : List Machine.Num} (h : ∀ x ∈ v, x.isZero = true) : (mxMax v).1 = 0 := by
  induction v with
  | nil => rfl
  | cons x r ih =>
    obtain ⟨hx, hr⟩ := List.forall_mem_cons.mp h
    rw [mxMax]
    split
    · exact ih hr
    · exact mxMag_of_zero hx

theorem isNan_of_zero {x : Machine.Num} (h : x.isZero = true) : x.isNan = false := by
  cases x with
  | nan => cases h
  | inf n => rfl
  | fin n m e => rfl

/-! The blocks themselves. -/

/-- A block of 32 elements with code 0, none of them counted. -/
def zeroBlock (scale : Nat) : MxBlock := { scale, elems := List.replicate 32 0, sat := 0, flush := 0 }

theorem mxEncode_of_nan (f : Fmt) {v : List Machine.Num} (hlen : v.length = 32) (h : ∃ x ∈ v, x.isNan = true) :
    mxEncode f v = zeroBlock 0xFF := by
  rw [mxEncode, if_pos (List.any_eq_true.mpr h), List.map_const', hlen, zeroBlock]

theorem mxEncode_of_zeros (f : Fmt) {v : List Machine.Num} (hlen : v.length = 32) (h : ∀ x ∈ v, x.isZero = true) :
    mxEncode f v = zeroBlock 0x00 := by
  have hnan : ¬ v.any Machine.Num.isNan = true := by
    rw [List.any_eq_true]
    exact fun ⟨x, hx, hn⟩ => Bool.eq_false_iff.mp (isNan_of_zero (h x hx)) hn
  rw [mxEncode, if_neg hnan]
  refine (if_pos (mxMax_of_zeros h)).trans ?_
  rw [List.map_const', hlen, zeroBlock]

/-- Settles O60: a NaN is found before the scale is chosen, and zeros leave no magnitude to choose it from, so that in neither
block is an element converted. -/
theorem mxBlocks : Obligations.MxBlocks := by
  unfold Obligations.MxBlocks
  intro f v _ hlen
  refine ⟨fun h => ?nan, fun h => ?zeros⟩
  case nan =>
    rw [mxEncode_of_nan f hlen h]
    exact ⟨rfl, rfl, rfl, rfl⟩
  case zeros =>
    rw [mxEncode_of_zeros f hlen h]
    exact ⟨rfl, rfl, rfl, rfl⟩

end Sys2Proof.Proofs
end

section
/-!
PROOFS. Rules for grids (R58, R134): the name that a slot serves and the slot that serves a name, what a change of one slot
or of the slots that share a ramp leaves, and what the start of an MMA leaves.
-/
namespace Sys2Proof.Proofs

open Sys2Proof Sys2Proof.Machine Sys2Proof.Safety Sys2Proof.Laws

/-! Outcomes. -/

/-- A command that meets no undefined case, by its effect. -/
theorem gives_of_runU {c : Instr} {f : State → State} {s t : State} {P : State → Prop} (hc : exec c s = runU f s)
    (hu : f s.clean = t) (hm : t.misuse = none) (hP : P (t.keeping s)) : Gives c s P := by
  subst hu
  exact ⟨_, hc.trans (runU_of_none s f hm), hP⟩

/-- A command whose effect is `f`, by what `f` leaves. -/
theorem gives_of_run {c : Instr} {f : State → State} {s t : State} {P : State → Prop} (hc : exec c s = run f s)
    (ht : f s = t) (hP : P (t.keeping s)) : Gives c s P := by
  subst ht
  exact ⟨_, hc, hP⟩

theorem gives_mono {c : Instr} {s : State} {P Q : State → Prop} (h : Gives c s P) (hPQ : ∀ t, P t → Q t) : Gives c s Q := by
  obtain ⟨t, hexec, hP⟩ := h
  exact ⟨t, hexec, hPQ t hP⟩

/-! What changes grids alone. -/

theorem keeps_of_gridFrame {α : Type} {s t : State} (h : { t with grids := s.grids } = s) (p : State → α)
    (hp : ∀ x gs, p { x with grids := gs } = p x) : p t = p s := (hp t _).symm.trans (congrArg p h)

theorem gridFrame_keeping {s t : State} (h : { t with grids := s.grids } = s) :
    { t.keeping s with grids := s.grids } = s :=
  congrArg (State.keeping · s) h

/-! Names and slots (R58, R139). -/

/-- The slot that serves a name is the one whose name it is. -/
theorem gridOf_of_nameOf {s : State} {g u q : Nat} (h : s.nameOf g = some (u, q)) :
    s.gridOf u q = some g ∧ u / 8 = g / 34 ∧ q < 4 := by
  obtain ⟨n, hn, he⟩ := Option.map_eq_some_iff.mp h
  obtain ⟨hu, hq⟩ := Prod.mk.inj he
  have hlt : n < 32 := List.mem_range.mp (List.mem_of_find?_eq_some hn)
  have hslot : tblGet 34 s.bindings (g / 34 * 64 + n) = g % 34 := by simpa using List.find?_some hn
  have hkey : u / 8 * 64 + u % 8 * 4 + q = g / 34 * 64 + n := by omega
  refine ⟨?_, by omega, by omega⟩
  rw [State.gridOf, hkey, hslot, if_pos (Nat.mod_lt _ (by decide))]
  congr 1
  omega

/-! One slot. -/

theorem onlyGrid_refl (s : State) (g : Nat) : OnlyGrid s s g (s.grid g) := ⟨rfl, fun _ _ => rfl, rfl⟩

theorem onlyGrid_modGrid {s t : State} {g : Nat} {x : GridSlot} (h : OnlyGrid s t g x) (f : GridSlot → GridSlot) :
    OnlyGrid s (t.modGrid g f) g (f x) := by
  obtain ⟨hself, hothers, hrest⟩ := h
  exact ⟨by rw [grid_modGrid_self, hself], fun v hv => (grid_modGrid_ne t f hv).trans (hothers v hv), hrest⟩

theorem onlyGrid_keeping {s t : State} {g : Nat} {x : GridSlot} (h : OnlyGrid s t g x) : OnlyGrid s (t.keeping s) g x := by
  obtain ⟨hself, hothers, hrest⟩ := h
  exact ⟨hself, hothers, gridFrame_keeping hrest⟩

/-- What depends on no grid stays. -/
theorem keeps_of_onlyGrid {α : Type} {s t : State} {g : Nat} {x : GridSlot} (h : OnlyGrid s t g x) (p : State → α)
    (hp : ∀ x gs, p { x with grids := gs } = p x) : p t = p s := keeps_of_gridFrame h.2.2 p hp

/-! The slots that share a ramp (R134). -/

/-- The same change of all slots of a list, where none is named twice or making the change twice is making it once. -/
theorem grid_each_modGrid {f : GridSlot → GridSlot} (l : List Nat) (h : l.Nodup ∨ ∀ x, f (f x) = f x) (s : State) (k : Nat) :
    (s.each l fun s g => s.modGrid g f).grid k = if k ∈ l then f (s.grid k) else s.grid k := by
  induction l generalizing s with
  | nil => rfl
  | cons g r ih =>
    rw [each_cons, ih (h.imp_left fun hd => (List.nodup_cons.mp hd).2), grid_modGrid]
    by_cases hk : k = g
    · subst hk
      by_cases hr : k ∈ r
      · have hidem := h.resolve_left fun hd => (List.nodup_cons.mp hd).1 hr
        simp [hr, hidem]
      · simp [hr]
    · simp [hk]

theorem setPhase_frame (s : State) (g : Nat) (f : GridPhase → GridPhase) : { s.setPhase g f with grids := s.grids } = s :=
  each_keeps (f := fun s k => s.modGrid k fun x => { x with phase := f x.phase }) (fun t => { t with grids := s.grids })
    (fun _ _ => rfl) (s.rampGroup g) s

/-- The phase of the slots that share a ramp changes, and nothing else. -/
theorem grid_setPhase {s : State} {g : Nat} {f : GridPhase → GridPhase}
    (h : (s.rampGroup g).Nodup ∨ ∀ ph, f (f ph) = f ph) (k : Nat) :
    (s.setPhase g f).grid k = if k ∈ s.rampGroup g then { s.grid k with phase := f (s.grid k).phase } else s.grid k :=
  grid_each_modGrid _ (h.imp_right fun hf x => by rw [hf]) s k

/-! The start of an MMA (R134). -/

/-- The start of an MMA on one of its grids. -/
def startOn (u : Nat) (m : MmaOp) (f : GridPhase → GridPhase) (s : State) (k : Nat) : State :=
  match s.gridOf u k with
  | some g => s.modGrid g fun x => { x with phase := f x.phase, lastMode := m.mode, ganged := m.gang }
  | none => s

theorem startMma_eq (s : State) (u q : Nat) (m : MmaOp) (f : GridPhase → GridPhase) :
    s.startMma u q m f
      = (s.modPond u fun p => p.modMma m.seq fun x => { x with started := true }).each (mmaGrids m q) (startOn u m f) := rfl

theorem startOn_frame (u : Nat) (m : MmaOp) (f : GridPhase → GridPhase) (s : State) (k : Nat) :
    { startOn u m f s k with grids := s.grids } = s := by
  unfold startOn
  split <;> rfl

/-- The start changes grids, and the pond's mark of the MMA. -/
theorem startMma_keeps {α : Type} (p : State → α) (hp : ∀ x gs ps, p { x with grids := gs, ponds := ps } = p x) (s : State)
    (u q : Nat) (m : MmaOp) (f : GridPhase → GridPhase) : p (s.startMma u q m f) = p s := by
  rw [startMma_eq, each_keeps p (fun t k => ?_) (mmaGrids m q)]
  · exact hp s _ _
  · exact keeps_of_gridFrame (startOn_frame u m f t k) p fun x gs => hp x gs x.ponds

theorem startMma_frame (s : State) (u q : Nat) (m : MmaOp) (f : GridPhase → GridPhase) :
    { s.startMma u q m f with grids := s.grids, ponds := s.ponds } = s :=
  startMma_keeps (fun t => { t with grids := s.grids, ponds := s.ponds }) (fun _ _ _ => rfl) s u q m f

/-- Every grid of an MMA that starts takes the phase that the start gives. -/
theorem phase_startMma {s : State} {u q g k : Nat} {m : MmaOp} {ph : GridPhase} (hk : k ∈ mmaGrids m q)
    (hg : s.gridOf u k = some g) : ((s.startMma u q m fun _ => ph).grid g).phase = ph := by
  have hnames (t : State) (j i : Nat) : (startOn u m (fun _ => ph) t j).gridOf u i = t.gridOf u i :=
    keeps_of_gridFrame (startOn_frame u m _ t j) (State.gridOf · u i) fun _ _ => rfl
  rw [startMma_eq]
  refine each_establishes (P := fun t k => ∀ g, t.gridOf u k = some g → (t.grid g).phase = ph)
    (fun t k g hg => ?here) (fun t j k hold g hg => ?kept) _ hk g ?name
  case here =>
    rw [hnames] at hg
    simp [startOn, hg]
  case kept =>
    rw [hnames] at hg
    unfold startOn
    split
    next =>
      rw [grid_modGrid]
      split
      · rfl
      · exact hold g hg
    next => exact hold g hg
  case name =>
    exact (each_keeps (State.gridOf · u k) (fun t j => hnames t j k) _ _).trans hg

end Sys2Proof.Proofs
end

section
/-!
PROOFS. Ramps, tile boundaries and GRD_CTL (R132 to R136, R138).
-/
namespace Sys2Proof.Proofs

open Sys2Proof Sys2Proof.Machine Sys2Proof.Safety Sys2Proof.Laws

theorem gridRuns_of_not_failed {s : State} {g : Nat} (h : s.lineStOf (g / 34) ≠ .failed) : s.gridRuns g = true :=
  bne_iff_ne.mpr h

/-! Ramps (R132, R133). -/

theorem mem_mmaGrids {q : Nat} (h : q < 4) (m : MmaOp) : q ∈ mmaGrids m q := by
  unfold mmaGrids
  split
  · simp only [List.mem_cons, List.not_mem_nil, or_false]
    omega
  · exact List.mem_singleton_self q

theorem startRamp_of_startable {s : State} {g u q : Nat} {m : MmaOp} (hn : s.nameOf g = some (u, q))
    (hm : s.startable u q = some m) (hw : s.pondWorks u = true)
    (hph : ∀ k ∈ mmaGrids m q, s.phaseOf u k = .idle ∨ s.phaseOf u k = .active) :
    s.startRamp g = s.startMma u q m fun _ => .rampUp 0 := by
  have hall : (mmaGrids m q).all (fun k => s.phaseOf u k == .idle || s.phaseOf u k == .active) = true := by
    simpa using hph
  simp [State.startRamp, hn, hw, hm, hall]

/-- A grid that issues steps, at full rate or under a start ramp. -/
def Issuing (ph : GridPhase) : Prop := ph = .active ∨ ∃ st, ph = .rampUp st

theorem stopRamp_of_done {s : State} {g : Nat} (hr : s.gridRuns g = true) (hph : Issuing (s.grid g).phase)
    (hdone : ∀ k ∈ s.rampGroup g, ∀ u q, s.nameOf k = some (u, q) → (s.pond u).nextMma q = none ∨ s.gridTakes u q = false) :
    s.stopRamp g = s.setPhase g fun _ => .rampDown 0 := by
  unfold State.stopRamp
  extract_lets more
  have hmore : more = false := by
    refine List.any_eq_false.mpr fun k hk => ?_
    split
    next u q hn => rcases hdone k hk u q hn with h | h <;> simp [h]
    next => exact Bool.false_ne_true
  have hstop : ¬ (more || !s.gridRuns g) = true := by simp [hmore, hr]
  rcases hph with h | ⟨st, h⟩
  · rw [h]
    exact if_neg hstop
  · rw [h]
    exact if_neg hstop

/-! Rest and tile boundaries (R133, R135). -/

theorem takeOver_of_staying {s : State} {g : Nat} (h : (s.grid g).leave = false) : s.takeOver g = s := by
  simp [State.takeOver, h]

/-- A grid that need not give up its name comes to rest. -/
theorem onlyGrid_rest {s t : State} {g : Nat} {x : GridSlot} (h : OnlyGrid s t g x)
    (hl : x.out = true ∧ x.testReq = true ∨ x.leave = false) :
    OnlyGrid s (t.rest g) g { x with phase := if x.out && x.testReq then .test else .idle } := by
  have hx : t.grid g = x := h.1
  unfold State.rest
  cases hb : x.out && x.testReq with
  | true =>
    simp only [hx, hb, if_true]
    exact onlyGrid_modGrid h _
  | false =>
    have hstays : x.leave = false := hl.resolve_left fun e => by simp [e] at hb
    have hleave : ((t.modGrid g fun x => { x with phase := .idle }).grid g).leave = false := by
      rw [grid_modGrid_self, hx]
      exact hstays
    simp only [hx, hb, Bool.false_eq_true, if_false, takeOver_of_staying hleave]
    exact onlyGrid_modGrid h _

theorem gridIdle_of_stopped {s : State} {g : Nat} (hr : s.gridRuns g = true) (hph : (s.grid g).phase = .rampDown 3)
    (hb : s.gridBusy g = false) : s.gridIdle g = s.rest g := if_pos ⟨hph, hb, hr⟩

/-- A request takes a grid that is idle out at once. -/
theorem onlyGrid_takeOut_of_idle {s t : State} {g : Nat} {x : GridSlot} (h : OnlyGrid s t g x) (hr : t.gridRuns g = true)
    (hreq : x.takeOut = true ∨ x.testReq = true) (hl : x.leave = false) (hph : x.phase = .idle) :
    OnlyGrid s (t.takeOut g) g { x with out := true, takeOut := false, phase := if x.testReq then .test else .idle } := by
  have hx : t.grid g = x := h.1
  have hreq' : ((x.takeOut || x.leave || x.testReq) && t.gridRuns g) = true := by
    rcases hreq with e | e <;> simp [e, hr]
  simp only [State.takeOut, hx, hreq', if_true, hph]
  exact onlyGrid_rest (onlyGrid_modGrid h _) (.inr hl)

/-- A request makes a grid that issues stop. -/
theorem onlyGrid_takeOut_of_issuing {s t : State} {g : Nat} {x : GridSlot} (h : OnlyGrid s t g x) (hr : t.gridRuns g = true)
    (hreq : x.takeOut = true ∨ x.testReq = true) (hph : Issuing x.phase) :
    OnlyGrid s (t.takeOut g) g { x with out := true, takeOut := false, phase := .rampDown 0 } := by
  have hx : t.grid g = x := h.1
  have hreq' : ((x.takeOut || x.leave || x.testReq) && t.gridRuns g) = true := by
    rcases hreq with e | e <;> simp [e, hr]
  unfold State.takeOut
  simp only [hx, hreq', if_true]
  rcases hph with e | ⟨st, e⟩
  · rw [e]
    exact onlyGrid_modGrid (onlyGrid_modGrid h _) _
  · rw [e]
    exact onlyGrid_modGrid (onlyGrid_modGrid h _) _

/-! GRD_CTL (R138). -/

/-- The bits of GRD_CTL that a write changes: HOLD_NEW, RAMP where the lock is clear, and TEST_REQ where it is set. -/
def grdBits (s : State) (g : Nat) (v : Word) : State :=
  ((if s.lockedAt (g / 34) then s else s.setFld (grdKey g 0) 0 3 (v.field 0 3)).setFlag (grdKey g 0) 8 (v.flag 8)).when
    (v.flag 9) (·.setFlag (grdKey g 0) 9 true)

/-- The slot with what HOLD_NEW asks of it. -/
def holdRequested (v : Word) (x : GridSlot) : GridSlot :=
  if v.flag 8 then if x.out then x else { x with takeOut := true }
  else { x with takeOut := false, out := x.out && (x.testReq || x.leave || x.phase == .test) }

/-- The slot with the requests of a write of GRD_CTL. -/
def requested (v : Word) (x : GridSlot) : GridSlot :=
  if v.flag 9 then { holdRequested v x with testReq := true } else holdRequested v x

theorem setReg_frame (s : State) (k : Nat) (v : Word) (rs : Tbl Word) :
    { s.setReg k v with regs := rs } = { s with regs := rs } := rfl

theorem setFld_frame (s : State) (k lo n v : Nat) (rs : Tbl Word) :
    { s.setFld k lo n v with regs := rs } = { s with regs := rs } := setReg_frame s k _ rs

theorem setFlag_frame (s : State) (k i : Nat) (b : Bool) (rs : Tbl Word) :
    { s.setFlag k i b with regs := rs } = { s with regs := rs } := setFld_frame s k i 1 _ rs

theorem setReg_modGrid (s : State) (g : Nat) (f : GridSlot → GridSlot) (k : Nat) (v : Word) :
    (s.modGrid g f).setReg k v = (s.setReg k v).modGrid g f := rfl

theorem setFlag_modGrid (s : State) (g : Nat) (f : GridSlot → GridSlot) (k i : Nat) (b : Bool) :
    (s.modGrid g f).setFlag k i b = (s.setFlag k i b).modGrid g f := setReg_modGrid s g f k _

theorem grdBits_frame (s : State) (g : Nat) (v : Word) : { grdBits s g v with regs := s.regs } = s := by
  have hlock : { (if s.lockedAt (g / 34) then s else s.setFld (grdKey g 0) 0 3 (v.field 0 3)) with regs := s.regs } = s := by
    split
    · rfl
    · exact setFld_frame s _ _ _ _ _
  unfold grdBits
  cases v.flag 9 with
  | false => exact (setFlag_frame _ _ 8 _ _).trans hlock
  | true => exact (setFlag_frame _ _ 9 _ _).trans ((setFlag_frame _ _ 8 _ _).trans hlock)

theorem keeps_of_regFrame {α : Type} {s t : State} (h : { t with regs := s.regs } = s) (p : State → α)
    (hp : ∀ x rs, p { x with regs := rs } = p x) : p t = p s := (hp t _).symm.trans (congrArg p h)

/-- A write of GRD_CTL with 0 in its reserved bits writes the register and leaves the slot its requests. -/
theorem writeGrdCtl_eq {s : State} {g : Nat} {v : Word} (h1 : v.field 3 5 = 0) (h2 : v.field 10 54 = 0)
    (h3 : v.field 0 3 ≠ 7) :
    ∃ t, s.writeGrdCtl g v = t.requestAtRest g ∧ OnlyGrid (grdBits s g v) t g (requested v (s.grid g)) := by
  have h3' : (v.field 0 3 == 7) = false := beq_false_of_ne h3
  have hgrid : (grdBits s g v).grid g = s.grid g := keeps_of_regFrame (grdBits_frame s g v) (State.grid · g) fun _ _ => rfl
  have honly : OnlyGrid (grdBits s g v) ((grdBits s g v).modGrid g (holdRequested v)) g (holdRequested v (s.grid g)) :=
    hgrid ▸ onlyGrid_modGrid (onlyGrid_refl (grdBits s g v) g) (holdRequested v)
  have hhold (t : State) : (if v.flag 8 then t.modGrid g fun x => if x.out then x else { x with takeOut := true }
      else t.modGrid g fun x => { x with takeOut := false, out := x.out && (x.testReq || x.leave || x.phase == .test) })
      = t.modGrid g (holdRequested v) := by
    unfold holdRequested
    cases v.flag 8 <;> rfl
  simp only [State.writeGrdCtl, h1, h2, h3', bne_self_eq_false, Bool.or_false, undefIf_false, hhold, setFlag_modGrid]
  refine ⟨_, rfl, ?_⟩
  unfold requested
  revert honly
  unfold grdBits
  cases v.flag 9 with
  | false => exact fun honly => honly
  | true => exact fun honly => onlyGrid_modGrid honly _

/-- What a write of GRD_CTL leaves in the registers (R138). -/
def GrdWritten (s : State) (g : Nat) (v : Word) (t : State) : Prop :=
  t.flag (grdKey g 0) 8 = v.flag 8
  ∧ t.fld (grdKey g 0) 0 3 = (if s.lockedAt (g / 34) then s.fld (grdKey g 0) 0 3 else v.field 0 3)
  ∧ t.flag (grdKey g 0) 9 = (v.flag 9 || s.flag (grdKey g 0) 9)
  ∧ (∀ k, k ≠ grdKey g 0 → t.reg k = s.reg k) ∧ { t with regs := s.regs, grids := s.grids } = s

theorem fld_setFlag_ne (s : State) (k : Nat) {i lo len : Nat} (hi : i < 64) (hd : lo + len ≤ i ∨ i + 1 ≤ lo) (b : Bool) :
    (s.setFlag k i b).fld k lo len = s.fld k lo len := by
  rw [State.fld, State.setFlag, reg_setFld_self, field_withField_ne _ _ (by omega) hd]
  rfl

theorem flag_setFld_ne (s : State) (k : Nat) {lo len i : Nat} (hl : lo + len ≤ 64) (hd : i < lo ∨ lo + len ≤ i) (n : Nat) :
    (s.setFld k lo len n).flag k i = s.flag k i := by
  rw [State.flag, reg_setFld_self, flag_withField_ne _ _ hl hd]
  rfl

theorem fld_setFld_self (s : State) (k : Nat) {lo len : Nat} (hl : lo + len ≤ 64) (n : Nat) :
    (s.setFld k lo len n).fld k lo len = n % 2 ^ len := by
  rw [State.fld, reg_setFld_self, field_withField_self _ _ hl]

/-- RAMP of GRD_CTL as a write leaves it where the lock is clear. -/
def rampWritten (s : State) (g : Nat) (v : Word) : State :=
  if s.lockedAt (g / 34) then s else s.setFld (grdKey g 0) 0 3 (v.field 0 3)

theorem grdBits_eq (s : State) (g : Nat) (v : Word) : grdBits s g v
    = ((rampWritten s g v).setFlag (grdKey g 0) 8 (v.flag 8)).when (v.flag 9) (·.setFlag (grdKey g 0) 9 true) := rfl

theorem grdBits_written (s : State) (g : Nat) (v : Word) : GrdWritten s g v (grdBits s g v) := by
  have hramp : (rampWritten s g v).fld (grdKey g 0) 0 3
      = if s.lockedAt (g / 34) then s.fld (grdKey g 0) 0 3 else v.field 0 3 := by
    unfold rampWritten
    split
    · rfl
    · rw [fld_setFld_self _ _ (by decide), Nat.mod_eq_of_lt (show v.field 0 3 < 2 ^ 3 from Nat.mod_lt _ (by decide))]
  have htest : (rampWritten s g v).flag (grdKey g 0) 9 = s.flag (grdKey g 0) 9 := by
    unfold rampWritten
    split
    · rfl
    · exact flag_setFld_ne s _ (by decide) (by decide) _
  have hothers (k : Nat) (hk : k ≠ grdKey g 0) : (rampWritten s g v).reg k = s.reg k := by
    unfold rampWritten
    split
    · rfl
    · exact reg_setFld_ne s _ _ _ hk
  have hframe := congrArg (fun t => ({ t with grids := s.grids } : State)) (grdBits_frame s g v)
  unfold GrdWritten
  rw [grdBits_eq] at hframe ⊢
  revert hframe
  cases v.flag 9 with
  | false =>
    intro hframe
    refine ⟨flag_setFlag_self _ _ (by decide) _, (fld_setFlag_ne _ _ (by decide) (by decide) _).trans hramp,
      (flag_setFlag_ne _ _ (by decide) (by decide) _).trans (htest.trans (Bool.false_or _).symm), fun k hk => ?_, hframe⟩
    exact (reg_setFlag_ne _ _ _ hk).trans (hothers k hk)
  | true =>
    intro hframe
    refine ⟨(flag_setFlag_ne _ _ (by decide) (by decide) _).trans (flag_setFlag_self _ _ (by decide) _),
      (fld_setFlag_ne _ _ (by decide) (by decide) _).trans ((fld_setFlag_ne _ _ (by decide) (by decide) _).trans hramp),
      flag_setFlag_self _ _ (by decide) _, fun k hk => ?_, hframe⟩
    exact (reg_setFlag_ne _ _ _ hk).trans ((reg_setFlag_ne _ _ _ hk).trans (hothers k hk))

/-- What follows a write in the slot alone leaves the registers written. -/
theorem grdWritten_keeping {s t : State} {g : Nat} {v : Word} {x : GridSlot} (h : OnlyGrid (grdBits s.clean g v) t g x) :
    GrdWritten s g v (t.keeping s) := by
  obtain ⟨hhold, hramp, htest, hothers, hframe⟩ := grdBits_written s.clean g v
  obtain ⟨-, -, hrest⟩ := h
  have hreg (k : Nat) : t.reg k = (grdBits s.clean g v).reg k :=
    keeps_of_gridFrame hrest (State.reg · k) fun _ _ => rfl
  refine ⟨?_, ?_, ?_, fun k hk => (hreg k).trans (hothers k hk), ?_⟩
  · exact (congrArg (Word.flag · 8) (hreg _)).trans hhold
  · exact (congrArg (Word.field · 0 3) (hreg _)).trans hramp
  · exact (congrArg (Word.flag · 9) (hreg _)).trans htest
  · have hgrids : { t with regs := s.regs, grids := s.grids }
        = { grdBits s.clean g v with regs := s.regs, grids := s.grids } :=
      congrArg (fun x => ({ x with regs := s.regs, grids := s.grids } : State)) hrest
    exact congrArg (State.keeping · s) (hgrids.trans hframe)

/-! What the requests of a write are. -/

section
variable (v : Word) (x : GridSlot)

@[simp] theorem requested_phase : (requested v x).phase = x.phase := by
  unfold requested holdRequested
  cases v.flag 9 <;> cases v.flag 8 <;> cases x.out <;> rfl

@[simp] theorem requested_leave : (requested v x).leave = x.leave := by
  unfold requested holdRequested
  cases v.flag 9 <;> cases v.flag 8 <;> cases x.out <;> rfl

@[simp] theorem requested_testReq : (requested v x).testReq = (v.flag 9 || x.testReq) := by
  unfold requested holdRequested
  cases v.flag 9 <;> cases v.flag 8 <;> cases x.out <;> rfl

theorem requested_takeOut_of_hold (h : v.flag 8 = true) (hx : x.out = false) : (requested v x).takeOut = true := by
  unfold requested holdRequested
  cases v.flag 9 <;> simp [h, hx]

theorem requested_out_of_hold (h : v.flag 8 = true) : (requested v x).out = x.out := by
  unfold requested holdRequested
  cases v.flag 9 <;> cases hx : x.out <;> simp [h, hx]

theorem requested_takeOut_of_release (h : v.flag 8 = false) : (requested v x).takeOut = false := by
  unfold requested holdRequested
  cases v.flag 9 <;> simp [h]

end

/-- A write of GRD_CTL by a path that may write, by what is left of the slot. -/
theorem gives_of_grdCtl {c : Instr} {s u : State} {via : Via} {g : Nat} {v : Word} {x : GridSlot} {P : State → Prop}
    (hc : exec c s = runU (fun s => s.bWrite via (g / 34) (·.writeGrdCtl g v)) s) (hw : s.bWrites via (g / 34) = true)
    (hu : s.clean.writeGrdCtl g v = u) (hx : OnlyGrid (grdBits s.clean g v) u g x) (hP : P (u.keeping s)) : Gives c s P := by
  have hmis : u.misuse = none := (keeps_of_onlyGrid hx State.misuse fun _ _ => rfl).trans
    (keeps_of_regFrame (grdBits_frame s.clean g v) State.misuse fun _ _ => rfl)
  have hwrite : s.clean.bWrite via (g / 34) (·.writeGrdCtl g v) = u := by
    have hw' : s.clean.bWrites via (g / 34) = true := hw
    rw [State.bWrite, if_pos hw', hu, noted_of_none u via hmis]
  exact gives_of_runU hc hwrite hmis hP

section
variable {c : Instr} {s : State} {via : Via} {g : Nat} {v : Word}
  (hc : exec c s = runU (fun s => s.bWrite via (g / 34) (·.writeGrdCtl g v)) s) (hw : s.bWrites via (g / 34) = true)
  (h1 : v.field 3 5 = 0) (h2 : v.field 10 54 = 0) (h3 : v.field 0 3 ≠ 7)
include hc hw h1 h2 h3

/-- Requests to a grid that is not at rest wait. -/
theorem grdCtl_gives_of_busy (h : (s.grid g).phase ≠ .idle ∨ s.gridBusy g = true) :
    Gives c s fun t => GrdWritten s g v t ∧ t.grid g = requested v (s.grid g) := by
  obtain ⟨t, hwrite, honly⟩ := writeGrdCtl_eq (s := s.clean) h1 h2 h3
  have hbusy : t.gridBusy g = s.gridBusy g := (keeps_of_onlyGrid honly (State.gridBusy · g) fun _ _ => rfl).trans
    (keeps_of_regFrame (grdBits_frame s.clean g v) (State.gridBusy · g) fun _ _ => rfl)
  have hphase : (t.grid g).phase = (s.grid g).phase := (congrArg GridSlot.phase honly.1).trans (requested_phase v _)
  have hrest : t.requestAtRest g = t := if_neg (by rw [hphase, hbusy]; simpa [imp_iff_not_or] using h)
  exact gives_of_grdCtl hc hw (hwrite.trans hrest) honly ⟨grdWritten_keeping honly, honly.1⟩

/-- Requests to a grid at rest act at once: it is out, and in TEST where a test was requested. -/
theorem grdCtl_gives_of_rest (hr : s.gridRuns g = true) (hph : (s.grid g).phase = .idle) (hb : s.gridBusy g = false)
    (hl : (s.grid g).leave = false) (hreq : v.flag 8 = true ∨ v.flag 9 = true) :
    Gives c s fun t => GrdWritten s g v t ∧ (t.grid g).out = true
      ∧ (t.grid g).phase = if v.flag 9 || (s.grid g).testReq then .test else .idle := by
  obtain ⟨t, hwrite, honly⟩ := writeGrdCtl_eq (s := s.clean) h1 h2 h3
  have hkept {α : Type} (p : State → α) (hg : ∀ x gs, p { x with grids := gs } = p x)
      (hrg : ∀ x rs, p { x with regs := rs } = p x) : p t = p s.clean :=
    (keeps_of_onlyGrid honly p hg).trans (keeps_of_regFrame (grdBits_frame s.clean g v) p hrg)
  have hbusy : t.gridBusy g = false := (hkept (State.gridBusy · g) (fun _ _ => rfl) fun _ _ => rfl).trans hb
  have hruns : t.gridRuns g = true := (hkept (State.gridRuns · g) (fun _ _ => rfl) fun _ _ => rfl).trans hr
  have hidle : (requested v (s.grid g)).phase = .idle := (requested_phase v _).trans hph
  have hact : t.requestAtRest g = t.takeOut g := if_pos ⟨(congrArg GridSlot.phase honly.1).trans hidle, hbusy⟩
  by_cases hpend : (requested v (s.grid g)).takeOut = true ∨ (requested v (s.grid g)).testReq = true
  · have hout := onlyGrid_takeOut_of_idle honly hruns hpend ((requested_leave v _).trans hl) hidle
    refine gives_of_grdCtl hc hw (hwrite.trans hact) hout ⟨grdWritten_keeping hout, congrArg GridSlot.out hout.1, ?_⟩
    exact (congrArg GridSlot.phase hout.1).trans (by rw [requested_testReq]; rfl)
  · obtain ⟨htake, htest⟩ := not_or.mp hpend
    rw [requested_testReq, Bool.or_eq_true] at htest
    obtain ⟨hno9, hnotest⟩ := not_or.mp htest
    have h8 : v.flag 8 = true := hreq.resolve_right hno9
    have hxout : (s.grid g).out = true := by
      by_contra hx
      exact htake (requested_takeOut_of_hold v _ h8 (Bool.eq_false_iff.mpr hx))
    have hstay : t.takeOut g = t := by
      refine if_neg ?_
      rw [honly.1]
      simp [Bool.eq_false_iff.mpr htake, Bool.eq_false_iff.mpr hno9, Bool.eq_false_iff.mpr hnotest, hl]
    refine gives_of_grdCtl hc hw (hwrite.trans (hact.trans hstay)) honly ⟨grdWritten_keeping honly, ?_, ?_⟩
    · exact (congrArg GridSlot.out honly.1).trans ((requested_out_of_hold v _ h8).trans hxout)
    · exact (congrArg GridSlot.phase honly.1).trans (hidle.trans (if_neg (by simp [hno9, hnotest])).symm)

end

/-! The events. -/

/-- The slots that share the ramp of `g` have changed their phase by `f`, and nothing else has. -/
def PhasesBecome (s : State) (g : Nat) (f : GridPhase → GridPhase) (t : State) : Prop :=
  { t with grids := s.grids } = s
  ∧ ∀ k, t.grid k = if k ∈ s.rampGroup g then { s.grid k with phase := f (s.grid k).phase } else s.grid k

theorem phasesBecome_setPhase {s : State} {g : Nat} {f : GridPhase → GridPhase}
    (h : (s.rampGroup g).Nodup ∨ ∀ ph, f (f ph) = f ph) : PhasesBecome s g f ((s.setPhase g f).keeping s) :=
  ⟨gridFrame_keeping (setPhase_frame s g f), grid_setPhase h⟩

theorem startRamp_gives {s : State} {g : SlotId} {u q : Nat} {m : MmaOp} (hn : s.nameOf g = some (u, q))
    (hm : s.startable u q = some m) (hw : s.pondWorks u = true)
    (hph : ∀ k ∈ mmaGrids m q, s.phaseOf u k = .idle ∨ s.phaseOf u k = .active) :
    Gives (.startRamp g) s fun t => (t.grid g).phase = .rampUp 0 ∧ { t with grids := s.grids, ponds := s.ponds } = s := by
  obtain ⟨hslot, -, hq⟩ := gridOf_of_nameOf hn
  refine gives_of_run (f := (·.startRamp g)) rfl (startRamp_of_startable hn hm hw hph)
    ⟨phase_startMma (mem_mmaGrids hq m) hslot, ?_⟩
  exact congrArg (State.keeping · s) (startMma_frame s u q m _)

/-- The phase after a stage of a ramp, stage by stage (R132, R133). -/
theorem stageEnd_eq (ph : GridPhase) : GridPhase.stageEnd ph = match ph with
    | .rampUp 0 => .rampUp 1 | .rampUp 1 => .rampUp 2 | .rampUp 2 => .rampUp 3 | .rampUp _ => .active
    | .rampDown 0 => .rampDown 1 | .rampDown 1 => .rampDown 2 | .rampDown _ => .rampDown 3
    | other => other := by
  match ph with
  | .rampUp 0 | .rampUp 1 | .rampUp 2 | .rampDown 0 | .rampDown 1 | .idle | .active | .test => rfl
  | .rampUp (n + 3) => simp [GridPhase.stageEnd]
  | .rampDown (n + 2) => exact congrArg GridPhase.rampDown (Nat.min_eq_left (Nat.le_add_left 3 n))

/-- Settles O16: each event is a change of the slots that share a ramp or of one slot; a write of GRD_CTL leaves requests in
the slot, and what they do at once is the tile boundary of a grid at rest. -/
theorem gridEvents : Obligations.GridEvents := by
  unfold Obligations.GridEvents
  intro s g x runs all become
  refine ⟨fun u q m hn hm hw hph => startRamp_gives hn hm hw hph, fun hr hph hdone => ?stop, fun hr hd => ?stage,
    fun hr hph hb hl hnot => ?idle, fun hr hph hb hout htest => ?test, fun hr htake hnotest hl hph => ?outIdle,
    fun hr hreq hph => ?outRunning, fun via v hw h1 h2 h3 => ⟨fun h => ?busy, fun hr hph hb hl => ?atRest⟩⟩
  case stop =>
    exact gives_of_run (f := (·.stopRamp g)) rfl (stopRamp_of_done (gridRuns_of_not_failed hr) hph hdone)
      (phasesBecome_setPhase (f := fun _ => .rampDown 0) (.inr fun _ => rfl))
  case stage =>
    have heq : s.rampStageEnd g = s.setPhase g GridPhase.stageEnd := if_pos (gridRuns_of_not_failed hr)
    obtain ⟨hframe, hgrids⟩ := phasesBecome_setPhase (f := GridPhase.stageEnd) (.inl hd)
    exact gives_of_run (f := (·.rampStageEnd g)) rfl heq ⟨hframe, fun k => (hgrids k).trans
      (congrArg (fun ph => if k ∈ all then { s.grid k with phase := ph } else s.grid k) (stageEnd_eq _))⟩
  case idle =>
    have h := onlyGrid_rest (onlyGrid_refl s g) (.inr hl)
    rw [if_neg (by rwa [Bool.and_eq_true])] at h
    exact gives_of_run (f := (·.gridIdle g)) rfl (gridIdle_of_stopped (gridRuns_of_not_failed hr) hph hb)
      (onlyGrid_keeping h)
  case test =>
    have h := onlyGrid_rest (onlyGrid_refl s g) (.inl ⟨hout, htest⟩)
    rw [if_pos (Bool.and_eq_true_iff.mpr ⟨hout, htest⟩)] at h
    exact gives_of_run (f := (·.gridIdle g)) rfl (gridIdle_of_stopped (gridRuns_of_not_failed hr) hph hb)
      (onlyGrid_keeping h)
  case outIdle =>
    have h := onlyGrid_takeOut_of_idle (onlyGrid_refl s g) (gridRuns_of_not_failed hr) (.inl htake) hl hph
    rw [if_neg (by rw [hnotest]; exact Bool.false_ne_true), ← hph] at h
    exact gives_of_run (f := (·.takeOut g)) rfl rfl (onlyGrid_keeping h)
  case outRunning =>
    exact gives_of_run (f := (·.takeOut g)) rfl rfl
      (onlyGrid_keeping (onlyGrid_takeOut_of_issuing (onlyGrid_refl s g) (gridRuns_of_not_failed hr) hreq hph))
  case busy =>
    have hgives {c : Instr} (hc : exec c s = runU (fun s => s.bWrite via (g / 34) (·.writeGrdCtl g v)) s) :=
      grdCtl_gives_of_busy hc hw h1 h2 h3 h
    have hheld {t : State} (ht : t.grid g = requested v x) : (v.flag 8 = true → x.out = false → (t.grid g).takeOut = true)
        ∧ (v.flag 8 = false → (t.grid g).takeOut = false) ∧ (t.grid g).testReq = (v.flag 9 || x.testReq) := by
      rw [ht]
      exact ⟨requested_takeOut_of_hold v x, requested_takeOut_of_release v x, requested_testReq v x⟩
    exact ⟨gives_mono (hgives rfl) fun t ht => ⟨ht.1, hheld ht.2⟩, gives_mono (hgives rfl) fun t ht => ⟨ht.1, hheld ht.2⟩⟩
  case atRest =>
    have hgives {c : Instr} (hc : exec c s = runU (fun s => s.bWrite via (g / 34) (·.writeGrdCtl g v)) s) :=
      grdCtl_gives_of_rest hc hw h1 h2 h3 (gridRuns_of_not_failed hr) hph hb hl
    refine ⟨fun h8 h9 hnotest => gives_mono (hgives rfl (.inl h8)) fun t ht => ?_,
      fun h9 => gives_mono (hgives rfl (.inr h9)) fun t ht => ?_⟩
    · obtain ⟨hwritten, hout, hphase⟩ := ht
      exact ⟨hwritten, hout, hphase.trans (if_neg (by rw [h9]; exact ne_true_of_eq_false hnotest))⟩
    · obtain ⟨hwritten, hout, hphase⟩ := ht
      exact ⟨hwritten, hout, hphase.trans (if_pos (by rw [h9, Bool.true_or]))⟩

end Sys2Proof.Proofs
end

section
/-!
PROOFS. Tests of units (R457 to R460): how they begin, and what the end of one leaves of health records.
-/
namespace Sys2Proof.Proofs

open Sys2Proof Sys2Proof.Machine Sys2Proof.Safety Sys2Proof.Laws

/-! The beginning of a test (R459). -/

/-- A test of the unit with health record `k` runs, with a spare that stands in or without; the unit is due no more. -/
def TestRuns (s : State) (k : Nat) (standIn : Option Nat) (t : State) : Prop :=
  tblGet none t.tests k = some { standIn := standIn } ∧ t.healthOf k = { s.healthOf k with due := false } ∧ t.mem = s.mem

theorem testRuns_startTest {s r : State} {k : Nat} (hh : r.healthOf k = s.healthOf k) (hm : r.mem = s.mem)
    (standIn : Option Nat) : TestRuns s k standIn ((r.startTest k { standIn := standIn }).keeping s) :=
  ⟨tblGet_set_self none r.tests k (some { standIn := standIn }),
    (healthOf_modHealth_self r k fun h => { h with due := false }).trans
      (congrArg (fun h => { h with due := false }) hh), hm⟩

section
variable (r s : State) (k : Nat) (t : RunningTest)

theorem grid_startTest (g : Nat) : ((r.startTest k t).keeping s).grid g = r.grid g := rfl
theorem gridOf_startTest (u q : Nat) : ((r.startTest k t).keeping s).gridOf u q = r.gridOf u q := rfl
theorem spur_startTest (p : Nat) : ((r.startTest k t).keeping s).spur p = r.spur p := rfl
theorem port_startTest (p : Nat) : ((r.startTest k t).keeping s).port p = r.port p := rfl

end

theorem setFlag_keeps {α : Type} (p : State → α) (hp : ∀ x rs, p { x with regs := rs } = p x) (s : State) (k i : Nat)
    (b : Bool) : p (s.setFlag k i b) = p s := (hp _ s.regs).symm.trans (congrArg p (setFlag_frame s k i b s.regs))

/-- The spare of a group is a slot of the basin. -/
theorem groupSpare_lt {s : State} {b k i : Nat} (h : s.groupSpare b (slotGroup k) = some i) : i < 34 := by
  have hgroup : slotGroup k ≤ 1 := by
    unfold slotGroup
    split <;> decide
  unfold State.groupSpare at h
  rcases List.mem_cons.mp (List.mem_of_find?_eq_some h) with rfl | hmem
  · omega
  · obtain ⟨j, hj, rfl⟩ := List.mem_map.mp hmem
    have := List.mem_range.mp hj
    omega

/-- A name that is given to another slot is served by that slot. -/
theorem gridOf_giveName {s : State} {g u q i : Nat} (hn : s.nameOf g = some (u, q)) (hi : i < 34) :
    (s.giveName g (some i)).gridOf u q = some (g / 34 * 34 + i) := by
  obtain ⟨-, hb, -⟩ := gridOf_of_nameOf hn
  have hkey : tblGet 34 (s.giveName g (some i)).bindings (g / 34 * 64 + u % 8 * 4 + q) = i := by
    simp [State.giveName, hn]
  rw [State.gridOf, hb, hkey, if_pos hi]

/-- A due unit that is not RETIRED, in a group without a test, meets the conditions of its kind alone. -/
theorem testable {s : State} {kind : UnitKind} {u : Nat} (hu : unitOk (kindNo kind) u = true)
    (hr : (s.healthOf (healthKey (kindNo kind) u)).st ≠ .retired)
    (hg : s.groupTesting (healthKey (kindNo kind) u) = false) :
    ¬ (!unitOk (kindNo kind) u || s.retired (healthKey (kindNo kind) u)
      || s.groupTesting (healthKey (kindNo kind) u)) = true := by
  simp [hu, hg, State.retired, hr]

/-- The grid of a slot under test: in TEST, and out of service. -/
def GridSlot.tested (x : GridSlot) : GridSlot := { x with phase := .test, testReq := false, out := true, takeOut := false }

/-- The test of a grid at rest whose name a spare takes. -/
theorem beginGrid_of_rest {s : State} {k b slot u q i : Nat} (hdue : (s.healthOf k).due = true) (hst : s.testState b = true)
    (hsl : (s.line (s.leaderOf b)).sleep = 0) (hph : (s.grid (b * 34 + slot)).phase = .idle)
    (hb : s.gridBusy (b * 34 + slot) = false)
    (hbl : ∀ y ∈ s.health, y.2.due = true → y.2.blames ≠ some (b * 34 + slot))
    (hn : s.nameOf (b * 34 + slot) = some (u, q)) (hi : s.groupSpare b (slotGroup slot) = some i) :
    s.beginGrid k b slot
      = (((s.giveName (b * 34 + slot) (some i)).modGrid (b * 34 + slot) GridSlot.tested).setFlag
          (grdKey (b * 34 + slot) 0) 9 false).startTest k { standIn := some i } := by
  have hafter : (s.health.any fun e => e.2.due && e.2.blames == some (b * 34 + slot)) = false := by
    refine List.any_eq_false.mpr fun y hy => ?_
    have := hbl y hy
    simpa using this
  simp [State.beginGrid, hdue, hst, hsl, hph, hb, hn, hi, hafter]
  rfl

section
variable {s : State} {u : Nat}

theorem gridTest_gives {w e i : Nat} (hu : unitOk (kindNo .grid) u = true)
    (hr : (s.healthOf (healthKey (kindNo .grid) u)).st ≠ .retired)
    (hdue : (s.healthOf (healthKey (kindNo .grid) u)).due = true)
    (hg : s.groupTesting (healthKey (kindNo .grid) u) = false) (hst : s.testState (u % 8) = true)
    (hsl : (s.line (s.leaderOf (u % 8))).sleep = 0) (hph : (s.grid (u % 8 * 34 + u / 8)).phase = .idle)
    (hb : s.gridBusy (u % 8 * 34 + u / 8) = false)
    (hbl : ∀ y ∈ s.health, y.2.due = true → y.2.blames ≠ some (u % 8 * 34 + u / 8))
    (hn : s.nameOf (u % 8 * 34 + u / 8) = some (w, e)) (hi : s.groupSpare (u % 8) (slotGroup (u / 8)) = some i) :
    Gives (.testBegin .grid u) s fun t => TestRuns s (healthKey (kindNo .grid) u) (some i) t
      ∧ t.gridOf w e = some (u % 8 * 34 + i)
      ∧ (t.grid (u % 8 * 34 + u / 8)).phase = .test ∧ (t.grid (u % 8 * 34 + u / 8)).out = true := by
  have hslot : u / 8 < 34 := of_decide_eq_true hu
  have hbasin : (u % 8 * 34 + u / 8) / 34 = u % 8 := by omega
  have hbegin : s.testBegin .grid u = s.beginGrid (healthKey (kindNo .grid) u) (u % 8) (u / 8) := by
    simp only [State.testBegin, if_neg (testable hu hr hg)]
  have hgiven {α : Type} (p : State → α) (hp : ∀ x bs, p { x with bindings := bs } = p x) :
      p (s.giveName (u % 8 * 34 + u / 8) (some i)) = p s := by
    simp only [State.giveName, hn]
    exact hp s _
  have hname := gridOf_giveName hn (groupSpare_lt hi)
  rw [hbasin] at hname
  refine gives_of_run (f := (·.testBegin .grid u)) rfl (hbegin.trans (beginGrid_of_rest hdue hst hsl hph hb hbl hn hi))
    ⟨testRuns_startTest ?_ ?_ (some i), ?_, ?_, ?_⟩
  · exact (setFlag_keeps (State.healthOf · _) (fun _ _ => rfl) _ _ _ _).trans (hgiven (State.healthOf · _) fun _ _ => rfl)
  · exact (setFlag_mem _ _ _ _).trans (hgiven State.mem fun _ _ => rfl)
  · rw [gridOf_startTest, setFlag_keeps (State.gridOf · w e) fun _ _ => rfl]
    exact hname
  · rw [grid_startTest, setFlag_keeps (State.grid · _) fun _ _ => rfl, grid_modGrid_self]
    rfl
  · rw [grid_startTest, setFlag_keeps (State.grid · _) fun _ _ => rfl, grid_modGrid_self]
    rfl

theorem subarrayTest_gives (hu : unitOk (kindNo .subarray) u = true)
    (hr : (s.healthOf (healthKey (kindNo .subarray) u)).st ≠ .retired)
    (hdue : (s.healthOf (healthKey (kindNo .subarray) u)).due = true)
    (hg : s.groupTesting (healthKey (kindNo .subarray) u) = false) (hs : tblGet 0 (s.bmem (u % 8)).spares (bits u 3 8) = 0)
    (hc : ∀ e ∈ (s.bmem (u % 8)).copying, e.1 ≠ bits u 3 8) :
    Gives (.testBegin .subarray u) s fun t => TestRuns s (healthKey (kindNo .subarray) u) none t := by
  have hcopy : ((s.bmem (u % 8)).copying.any fun e => e.1 == bits u 3 8) = false :=
    List.any_eq_false.mpr fun e he => by simpa using hc e he
  have hbegin : s.testBegin .subarray u = s.startTest (healthKey (kindNo .subarray) u) {} := by
    simp only [State.testBegin, if_neg (testable hu hr hg), hdue, hs, hcopy]
    rfl
  exact gives_of_run (f := (·.testBegin .subarray u)) rfl hbegin (testRuns_startTest rfl rfl none)

end

section
variable (s : State) (p : Nat) (d : Dir)

theorem health_modSpurSide (f : SpurDir → SpurDir) (k : Nat) : (s.modSpurSide p d f).healthOf k = s.healthOf k := rfl
theorem mem_modSpurSide (f : SpurDir → SpurDir) : (s.modSpurSide p d f).mem = s.mem := rfl
theorem health_modSide (f : LaneDir → LaneDir) (k : Nat) : (s.modSide p d f).healthOf k = s.healthOf k := rfl
theorem mem_modSide (f : LaneDir → LaneDir) : (s.modSide p d f).mem = s.mem := rfl

end

theorem spurSide_modSpurSide (s : State) (p : Nat) (d : Dir) (f : SpurDir → SpurDir) :
    ((s.modSpurSide p d f).spur p).side d = f ((s.spur p).side d) := by
  rw [State.modSpurSide, spur_modSpur_self]
  cases d <;> rfl

theorem portSide_modSide (s : State) (p : Nat) (d : Dir) (f : LaneDir → LaneDir) :
    ((s.modSide p d f).port p).side d = f ((s.port p).side d) := by
  rw [State.modSide, port_modPort_self]
  cases d <;> rfl

section
variable {s : State} {u : Nat}

theorem spurLaneTest_gives (hu : unitOk (kindNo .spurLane) u = true)
    (hr : (s.healthOf (healthKey (kindNo .spurLane) u)).st ≠ .retired)
    (hdue : (s.healthOf (healthKey (kindNo .spurLane) u)).due = true)
    (hg : s.groupTesting (healthKey (kindNo .spurLane) u) = false) (hup : (s.spur (u % 32)).st = .up)
    (hver : (s.spur (u % 32)).ver = 3) (hcal : ((s.spur (u % 32)).side (unitDir u)).calLane = none)
    (hspare : ((s.spur (u % 32)).side (unitDir u)).spare0.isSome = true
      ∨ ((s.spur (u % 32)).side (unitDir u)).spare1.isSome = true)
    (h0 : ((s.spur (u % 32)).side (unitDir u)).spare0 ≠ some (u / 64))
    (h1 : ((s.spur (u % 32)).side (unitDir u)).spare1 ≠ some (u / 64)) :
    Gives (.testBegin .spurLane u) s fun t => TestRuns s (healthKey (kindNo .spurLane) u) none t
      ∧ (t.spur (u % 32)).side (unitDir u) = { (s.spur (u % 32)).side (unitDir u) with calLane := some (u / 64) } := by
  have hbegin : s.testBegin .spurLane u = (s.modSpurSide (u % 32) (unitDir u) fun x =>
      { x with calLane := some (u / 64) }).startTest (healthKey (kindNo .spurLane) u) {} := by
    simp only [State.testBegin, if_neg (testable hu hr hg)]
    exact if_pos (by simp [hdue, hup, hver, hcal, hspare, Ne.symm h0, Ne.symm h1])
  exact gives_of_run (f := (·.testBegin .spurLane u)) rfl hbegin
    ⟨testRuns_startTest (health_modSpurSide s _ _ _ _) (mem_modSpurSide s _ _ _) none, by
      rw [spur_startTest]; exact spurSide_modSpurSide s _ _ _⟩

theorem railLaneTest_gives (hu : unitOk (kindNo .railLane) u = true)
    (hr : (s.healthOf (healthKey (kindNo .railLane) u)).st ≠ .retired)
    (hdue : (s.healthOf (healthKey (kindNo .railLane) u)).due = true)
    (hg : s.groupTesting (healthKey (kindNo .railLane) u) = false) (hup : (s.port (u % 32)).st = .up)
    (hstep : ((s.port (u % 32)).side (unitDir u)).step = .none)
    (hchange : ((s.port (u % 32)).side (unitDir u)).change = .none)
    (hspare : ((s.port (u % 32)).side (unitDir u)).spare.isSome = true)
    (hne : ((s.port (u % 32)).side (unitDir u)).spare ≠ some (u / 64)) :
    Gives (.testBegin .railLane u) s fun t => TestRuns s (healthKey (kindNo .railLane) u) none t
      ∧ (t.port (u % 32)).side (unitDir u)
        = { (s.port (u % 32)).side (unitDir u) with step := .calibrating (u / 64), spare := none } := by
  have hbegin : s.testBegin .railLane u = (s.modSide (u % 32) (unitDir u) fun x =>
      { x with step := .calibrating (u / 64), spare := none }).startTest (healthKey (kindNo .railLane) u) {} := by
    simp only [State.testBegin, if_neg (testable hu hr hg)]
    exact if_pos (by simp [hdue, hup, hstep, hchange, hspare, Ne.symm hne])
  exact gives_of_run (f := (·.testBegin .railLane u)) rfl hbegin
    ⟨testRuns_startTest (health_modSide s _ _ _ _) (mem_modSide s _ _ _) none, by
      rw [port_startTest]; exact portSide_modSide s _ _ _⟩

end

end Sys2Proof.Proofs
end

section
/-!
PROOFS. The end of a test (R457, R460, R463): what it leaves of the unit's health record.
-/
namespace Sys2Proof.Proofs

open Sys2Proof Sys2Proof.Machine Sys2Proof.Safety Sys2Proof.Laws

/-! What the unit's leaving leaves (R460, R463, R464). -/

/-- A health record but for what a unit that leaves notes in it. -/
def settled (x : Health) : Health := { x with leaving := false, deferred := false }

/-- The running tests and the settled health record `k`. -/
def verdict (k : Nat) (s : State) : Tbl (Option RunningTest) × Health := (s.tests, settled (s.healthOf k))

section
variable (s : State) (k : Nat)

theorem verdict_modGrid (g : Nat) (f : GridSlot → GridSlot) : verdict k (s.modGrid g f) = verdict k s := rfl
theorem verdict_modHart (h : Nat) (f : Core → Core) : verdict k (s.modHart h f) = verdict k s := rfl
theorem verdict_with_bindings (b : Tbl Nat) : verdict k { s with bindings := b } = verdict k s := rfl
theorem verdict_with_sidings (b x : Tbl Nat) : verdict k { s with bindings := b, sidings := x } = verdict k s := rfl
theorem verdict_putGranule (g : Nat) (d : List Byte) (p : Bool) : verdict k (s.putGranule g d p) = verdict k s := rfl
theorem verdict_dropCopy (a g : Nat) : verdict k (s.dropCopy a g) = verdict k s := rfl
theorem verdict_redirect (g : Nat) : verdict k (s.redirect g) = verdict k s := rfl

theorem verdict_modHealth (j : Nat) {f : Health → Health} (hf : ∀ x, settled (f x) = settled x) :
    verdict k (s.modHealth j f) = verdict k s := by
  have hhealth : settled ((s.modHealth j f).healthOf k) = settled (s.healthOf k) := by
    rw [healthOf_modHealth]
    split
    next h => rw [h, hf]
    next => rfl
  exact congrArg (Prod.mk s.tests) hhealth

theorem verdict_giveName (g : Nat) (i : Option Nat) : verdict k (s.giveName g i) = verdict k s := by
  unfold State.giveName
  split
  · exact verdict_with_bindings s k _
  · rfl

theorem verdict_takeOver (g : Nat) : verdict k (s.takeOver g) = verdict k s := by
  unfold State.takeOver
  split
  · rw [verdict_modGrid, verdict_giveName]
  · rfl

theorem verdict_flushAgent (a : Nat) (poison : Bool) : verdict k (s.flushAgent a poison) = verdict k s := by
  unfold State.flushAgent
  refine foldl_keeps (verdict k) (fun t e => ?_) _ s
  extract_lets g
  split
  · extract_lets dirty writes u
    rw [verdict_redirect, verdict_dropCopy]
    dsimp only [u]
    split
    · rw [verdict_putGranule]
    · rfl
  · rfl

theorem verdict_dropCore (b i : Nat) : verdict k (s.dropCore b i) = verdict k s := by
  unfold State.dropCore
  rw [verdict_with_bindings, verdict_modHart, verdict_flushAgent]

theorem verdict_moveCore (b i j : Nat) : verdict k (s.moveCore b i j) = verdict k s := by
  unfold State.moveCore
  rw [verdict_with_bindings, verdict_modHart, verdict_flushAgent]

theorem verdict_coreLeaves (b j : Nat) : verdict k (s.coreLeaves b j).2 = verdict k s := by
  unfold State.coreLeaves
  split
  · rfl
  · split
    · exact verdict_dropCore s k b _
    · split
      · exact verdict_modHealth s k _ fun _ => rfl
      · exact verdict_with_sidings s k _ _

theorem verdict_unitLeaves (j : Nat) : verdict k (s.unitLeaves j).2 = verdict k s := by
  unfold State.unitLeaves
  extract_lets u b g found x
  split
  · exact verdict_modHealth s k j fun _ => rfl
  · split
    · split
      · rfl
      · split
        · exact (verdict_takeOver _ k g).trans (verdict_modGrid s k g _)
        · exact verdict_modGrid s k g _
    · exact verdict_coreLeaves s k _ _

theorem verdict_endGrid (j b slot : Nat) (t : RunningTest) (pass : Bool) :
    verdict k (s.endGrid j b slot t pass) = verdict k s := by
  unfold State.endGrid
  extract_lets g out
  have hout : verdict k out = verdict k s := verdict_modGrid s k g _
  clear_value out
  split
  · split
    · exact (verdict_unitLeaves out k j).trans hout
    · exact hout
  · extract_lets gone
    clear_value gone
    repeat' split
    all_goals exact hout

theorem verdict_endCore (j b i : Nat) : verdict k (s.endCore j b i) = verdict k s := by
  unfold State.endCore
  split
  · exact verdict_coreLeaves s k b i
  · split
    · split
      · exact verdict_moveCore s k b _ i
      · rfl
    · rfl

end

/-! The verdict of a test (R457). -/

/-- A health record after the test of its grid or core. -/
def judged (x : Health) (pass reproduced : Bool) (cause : Nat) : Health :=
  match x.st, pass with
  | .healthy, true => x
  | .healthy, false =>
    if reproduced then { x with st := .retired, cause := cause, due := false }
    else { x with st := .suspect, cause := cause, mismatches := 0, passes := 0, mmas := 0, shadowOwed := false }
  | .suspect, true =>
    if 72 ≤ x.passes + 1 then { x with st := .healthy, passes := 0 } else { x with passes := x.passes + 1 }
  | .suspect, false => { x with st := .retired, cause := cause, due := false }
  | .retired, _ => x

section
variable (s : State) (k : Nat)

theorem unreported_logHealth : unreported (s.logHealth k) = unreported s := unreported_logEvent s _ _ _ _ _ _

theorem healthOf_logHealth (j : Nat) : (s.logHealth k).healthOf j = s.healthOf j :=
  keeps_of_unreported (unreported_logHealth s k) (State.healthOf · j) fun _ => rfl

theorem tests_logHealth : (s.logHealth k).tests = s.tests :=
  keeps_of_unreported (unreported_logHealth s k) State.tests fun _ => rfl

theorem healthOf_setSuspect (cause : Nat) : (s.setSuspect k cause).healthOf k
    = { s.healthOf k with st := .suspect, cause := cause, mismatches := 0, passes := 0, mmas := 0, shadowOwed := false } :=
  (healthOf_logHealth _ k k).trans (healthOf_modHealth_self s k _)

theorem healthOf_setRetired (cause : Nat) :
    (s.setRetired k cause).healthOf k = { s.healthOf k with st := .retired, cause := cause, due := false } :=
  (healthOf_logHealth _ k k).trans (healthOf_modHealth_self s k _)

theorem tests_setSuspect (cause : Nat) : (s.setSuspect k cause).tests = s.tests := tests_logHealth _ k
theorem tests_setRetired (cause : Nat) : (s.setRetired k cause).tests = s.tests := tests_logHealth _ k

theorem unreported_logSurvey (kind u : Nat) (bad : Option Nat) : unreported (s.logSurvey kind u bad) = unreported s :=
  foldl_keeps unreported (fun t _ => unreported_logEvent t _ _ _ _ _ _) _ s

/-- The verdict on a record, but for the count of mismatches: a spare that fails takes its own off the grid it named. -/
theorem judge_judged (pass reproduced : Bool) (cause : Nat) :
    (s.judge k pass reproduced cause).tests = s.tests ∧ ∃ m, (s.judge k pass reproduced cause).healthOf k
      = judged { s.healthOf k with mismatches := m, blames := none } pass reproduced cause := by
  unfold State.judge
  extract_lets h named told
  have hnamed : named.tests = s.tests ∧ ∃ m, named.healthOf k = { s.healthOf k with mismatches := m } := by
    dsimp only [named]
    split
    · exact ⟨rfl, _, rfl⟩
    · split
      · refine ⟨rfl, ?_⟩
        rw [healthOf_modHealth]
        split
        next hk => exact ⟨_, by rw [hk]⟩
        next => exact ⟨_, rfl⟩
      · exact ⟨rfl, _, rfl⟩
  obtain ⟨htests, m, hm⟩ := hnamed
  have htold : told.healthOf k = { h with mismatches := m, blames := none } := by
    rw [healthOf_modHealth_self, hm]
  have hkept : told.tests = s.tests := htests
  have hst : (told.healthOf k).st = h.st := by rw [htold]
  have hpasses : (told.healthOf k).passes = h.passes := by rw [htold]
  refine And.imp_right (fun e : _ = judged (told.healthOf k) pass reproduced cause =>
    ⟨m, e.trans (congrArg (judged · pass reproduced cause) htold)⟩) ?_
  rw [← hst, ← hpasses]
  clear_value told
  cases hkind : (told.healthOf k).st <;> cases pass <;> simp only [judged, hkind]
  case healthy.true | retired.false | retired.true => exact ⟨hkept, trivial⟩
  case healthy.false =>
    split
    · exact ⟨(tests_setRetired _ _ _).trans hkept, healthOf_setRetired _ _ _⟩
    · exact ⟨(tests_setSuspect _ _ _).trans hkept, healthOf_setSuspect _ _ _⟩
  case suspect.false => exact ⟨(tests_setRetired _ _ _).trans hkept, healthOf_setRetired _ _ _⟩
  case suspect.true =>
    split
    · refine ⟨(tests_logHealth _ _).trans hkept, (healthOf_logHealth _ _ _).trans ?_⟩
      rw [healthOf_modHealth_self]
    · refine ⟨hkept, ?_⟩
      rw [healthOf_modHealth_self]
      simp only [hkind]

end

/-! TEST_COMPLETE. -/

/-- The test counts in its unit's record. -/
def counted (x : Health) (at_ : Nat) : Health := { x with tests := min 0xFFFF (x.tests + 1), testedAt := at_ }

/-- The test of the unit with number `u` has been removed, counted and logged. -/
def testCounted (s : State) (kind u : Nat) (r : TestResult) : State :=
  (({ s with tests := tblErase s.tests (healthKey kind u) } : State).modHealth (healthKey kind u)
    (counted · s.aged)).logSurvey kind u r.survey

section
variable (s : State) (kind u : Nat) (r : TestResult)

theorem testCounted_keeps {α : Type} (p : State → α) (hlog : ∀ x, p (unreported x) = p x)
    (hp : ∀ x ts hs, p { x with tests := ts, health := hs } = p x) : p (testCounted s kind u r) = p s :=
  (keeps_of_unreported (unreported_logSurvey _ kind u r.survey) p hlog).trans (hp s _ _)

theorem tests_testCounted : (testCounted s kind u r).tests = tblErase s.tests (healthKey kind u) :=
  keeps_of_unreported (unreported_logSurvey _ kind u r.survey) State.tests fun _ => rfl

theorem healthOf_testCounted :
    (testCounted s kind u r).healthOf (healthKey kind u) = counted (s.healthOf (healthKey kind u)) s.aged :=
  (keeps_of_unreported (unreported_logSurvey _ kind u r.survey) (State.healthOf · _) fun _ => rfl).trans
    (healthOf_modHealth_self _ _ _)

end

/-- The test of the unit with health record `k` has ended and counts. -/
def TestEnds (s : State) (k : Nat) (t : State) : Prop :=
  tblGet none t.tests k = none ∧ (t.healthOf k).tests = min 0xFFFF ((s.healthOf k).tests + 1)
    ∧ (t.healthOf k).testedAt = s.aged

theorem tests_judged (x : Health) (pass reproduced : Bool) (cause : Nat) :
    (judged x pass reproduced cause).tests = x.tests := by
  unfold judged
  repeat' split
  all_goals rfl

theorem testedAt_judged (x : Health) (pass reproduced : Bool) (cause : Nat) :
    (judged x pass reproduced cause).testedAt = x.testedAt := by
  unfold judged
  repeat' split
  all_goals rfl

/-- Health record `k` with its test counted, with `m` mismatches. -/
def testedHealth (s : State) (k m : Nat) : Health :=
  { counted (s.healthOf k) s.aged with mismatches := m, blames := none }

/-- What a test with result `r` makes of the health record of its grid or core, with `m` mismatches. -/
def verdictOf (s : State) (k : Nat) (r : TestResult) (m : Nat) : Health :=
  judged (testedHealth s k m) (r.rom && r.survey.isNone) r.reproduced
    (if r.rom then 3 else 1)

section
variable {s : State} {kind : UnitKind} {u : Nat} {r : TestResult} {e : RunningTest}
variable (he : tblGet none s.tests (healthKey (kindNo kind) u) = some e)
include he

theorem verdict_testComplete (hk : kind = .grid ∨ kind = .core) :
    verdict (healthKey (kindNo kind) u) (s.testComplete kind u r)
      = verdict (healthKey (kindNo kind) u) ((testCounted s (kindNo kind) u r).judge (healthKey (kindNo kind) u)
          (r.rom && r.survey.isNone) r.reproduced (if r.rom then 3 else 1)) := by
  unfold State.testComplete
  extract_lets n k
  rw [show tblGet none s.tests k = some e from he]
  rcases hk with rfl | rfl
  · exact verdict_endGrid _ _ _ _ _ _ _
  · exact verdict_endCore _ _ _ _ _

/-- A tested grid or core keeps its record, settled, as the verdict leaves it. -/
theorem testComplete_gives (hk : kind = .grid ∨ kind = .core) :
    Gives (.testComplete kind u r) s fun t => TestEnds s (healthKey (kindNo kind) u) t
      ∧ ∃ m, settled (t.healthOf (healthKey (kindNo kind) u))
        = settled (verdictOf s (healthKey (kindNo kind) u) r m) := by
  obtain ⟨htests, m, hhealth⟩ := judge_judged (testCounted s (kindNo kind) u r) (healthKey (kindNo kind) u)
    (r.rom && r.survey.isNone) r.reproduced (if r.rom then 3 else 1)
  rw [healthOf_testCounted] at hhealth
  obtain ⟨hends, hsettled⟩ := Prod.mk.inj (verdict_testComplete (r := r) he hk)
  rw [hhealth] at hsettled
  refine gives_of_run (f := (·.testComplete kind u r)) rfl rfl
    ⟨⟨?_, (congrArg Health.tests hsettled).trans (tests_judged _ _ _ _),
      (congrArg Health.testedAt hsettled).trans (testedAt_judged _ _ _ _)⟩, m, hsettled⟩
  rw [keeping_tests, hends, htests, tests_testCounted, tblErase_get, if_pos rfl]

end

theorem subarrayPass_gives {s : State} {u : Nat} {r : TestResult} {e : RunningTest}
    (he : tblGet none s.tests (healthKey (kindNo .subarray) u) = some e) (hrom : r.rom = true) (hsurvey : r.survey = none) :
    Gives (.testComplete .subarray u r) s fun t => TestEnds s (healthKey (kindNo .subarray) u) t
      ∧ (t.healthOf (healthKey (kindNo .subarray) u)).st = (s.healthOf (healthKey (kindNo .subarray) u)).st
      ∧ t.basinMem = s.basinMem := by
  have hdone : s.testComplete .subarray u r = testCounted s (kindNo .subarray) u r := by
    unfold State.testComplete
    extract_lets n k
    rw [show tblGet none s.tests k = some e from he]
    exact if_pos (show (r.rom && r.survey.isNone) = true by rw [hrom, hsurvey]; rfl)
  have hhealth := healthOf_testCounted s (kindNo .subarray) u r
  refine gives_of_run (f := (·.testComplete .subarray u r)) rfl hdone
    ⟨⟨?_, congrArg Health.tests hhealth, congrArg Health.testedAt hhealth⟩, (congrArg Health.st hhealth :),
      testCounted_keeps s _ u r State.basinMem (fun _ => rfl) fun _ _ _ => rfl⟩
  rw [keeping_tests, tests_testCounted, tblErase_get, if_pos rfl]

end Sys2Proof.Proofs
end

section
/-!
PROOFS. Survey packs (R465 to R471): a write of HUB_SURVEY_CTL, and the end of the operation that it starts.
-/
namespace Sys2Proof.Proofs

open Sys2Proof Sys2Proof.Machine Sys2Proof.Safety Sys2Proof.Laws

/-! The result of an operation (R471). -/

theorem fld_setFld_ne (s : State) (k : Nat) {lo len i n : Nat} (hl : lo + len ≤ 64)
    (hd : i + n ≤ lo ∨ lo + len ≤ i) (v : Nat) :
    (s.setFld k lo len v).fld k i n = s.fld k i n := by
  rw [State.fld, reg_setFld_self, field_withField_ne _ _ hl hd]
  rfl

section
variable (s : State) (r : Nat)

theorem survey_surveyResult : (s.surveyResult r).survey = none := setFld_survey _ _ _ _ _

theorem misuse_surveyResult : (s.surveyResult r).misuse = s.misuse := setFld_misuse _ _ _ _ _

theorem fld_surveyResult (hr : r < 256) : (s.surveyResult r).fld (hubKey 0x830) 8 8 = r :=
  (fld_setFld_self _ _ (by decide) r).trans (Nat.mod_eq_of_lt hr)

theorem fld_surveyResult_ne {i n : Nat} (h : i + n ≤ 8 ∨ 16 ≤ i) :
    (s.surveyResult r).fld (hubKey 0x830) i n = s.fld (hubKey 0x830) i n :=
  fld_setFld_ne _ _ (by decide) h r

theorem surveyResult_keeps {α : Type} (p : State → α) (hp : ∀ x v rs, p { x with survey := v, regs := rs } = p x) :
    p (s.surveyResult r) = p s :=
  (hp _ none s.regs).symm.trans ((congrArg p (setFld_frame { s with survey := none } (hubKey 0x830) 8 8 r s.regs)).trans
    (hp s none s.regs))

end

/-! A write of HUB_SURVEY_CTL with GO (R471). -/

/-- The operation that a write of HUB_SURVEY_CTL asks for. -/
def surveyAsked (s : State) (v : Word) : SurveyOp :=
  { op := v.field 26 2, addr := (s.reg (hubKey 0x820)).toNat, len := v.field 0 23, slot := v.field 23 3 }

/-- HUB_SURVEY_CTL as a write leaves it. -/
def surveyCtl (s : State) (v : Word) : State := s.setReg (hubKey 0x828) (BitVec.ofNat 64 (v.field 0 28))

section
variable {s : State} {v : Word} (hv : v.field 29 35 = 0) (hgo : v.flag 28 = true)
include hv hgo

theorem writeSurveyCtl_of_running (h : s.survey ≠ none) :
    s.writeSurveyCtl v = (surveyCtl s v).setFlag (hubKey 0x830) 1 true := by
  have hrunning : (surveyCtl s v).survey.isSome = true := Option.isSome_iff_ne_none.mpr h
  simp only [State.writeSurveyCtl, hv, bne_self_eq_false, undefIf_false, hgo, Bool.not_true, Bool.false_eq_true, if_false]
  exact if_pos hrunning

variable (h : s.survey = none) (hop : v.field 26 2 ≠ 3)
include h hop

theorem writeSurveyCtl_of_refused (hload : v.field 26 2 = 0) (hlen : v.field 0 23 < 3016 ∨ 0x400000 < v.field 0 23) :
    s.writeSurveyCtl v = (surveyCtl s v).surveyResult 1 := by
  have hfree : ¬ (surveyCtl s v).survey.isSome = true := by
    rw [show (surveyCtl s v).survey = none from h]
    exact Bool.false_ne_true
  simp only [State.writeSurveyCtl, hv, bne_self_eq_false, undefIf_false, hgo, Bool.not_true, Bool.false_eq_true, if_false]
  exact (if_neg hfree).trans ((if_neg hop).trans (if_pos ⟨hload, hlen.imp_right .inl⟩))

theorem writeSurveyCtl_of_fine (hload : v.field 26 2 = 0 →
      3016 ≤ v.field 0 23 ∧ v.field 0 23 ≤ 0x400000 ∧ (s.reg (hubKey 0x820)).toNat % 8 = 0) :
    s.writeSurveyCtl v = { surveyCtl s v with survey := some (surveyAsked s v) } := by
  have hfree : ¬ (surveyCtl s v).survey.isSome = true := by
    rw [show (surveyCtl s v).survey = none from h]
    exact Bool.false_ne_true
  have haddr : (surveyCtl s v).reg (hubKey 0x820) = s.reg (hubKey 0x820) := reg_setReg_ne s _ (by decide)
  simp only [State.writeSurveyCtl, hv, bne_self_eq_false, undefIf_false, hgo, Bool.not_true, Bool.false_eq_true, if_false]
  refine (if_neg hfree).trans ((if_neg hop).trans ((if_neg ?_).trans ?_))
  · rintro ⟨h0, hbad⟩
    obtain ⟨hmin, hmax, halign⟩ := hload h0
    rw [← haddr] at halign
    unfold surveyCtl at halign
    omega
  · exact congrArg (fun a => { surveyCtl s v with survey := some { surveyAsked s v with addr := a.toNat } }) haddr

end

theorem regFrame_keeping {s t u : State} (h : { t with regs := s.regs } = { u with regs := s.regs })
    (hu : { u.keeping s with regs := s.regs } = s) : { t.keeping s with regs := s.regs } = s :=
  (congrArg (State.keeping · s) h).trans hu

theorem surveyCtl_frame (s : State) (v : Word) : { (surveyCtl s.clean v).keeping s with regs := s.regs } = s := rfl

/-- A result without an operation that ran. -/
theorem surveyResult_frame {s t : State} (h : s.survey = none) (ht : { t.keeping s with regs := s.regs } = s) (r : Nat) :
    { (t.surveyResult r).keeping s with regs := s.regs } = s :=
  regFrame_keeping (setFld_frame _ _ _ _ _ _)
    ((congrArg (fun x => { x with survey := none }) ht).trans (congrArg (fun x => { s with survey := x }) h.symm))

section
variable {c : Instr} {s : State} {v : Word} (hc : exec c s = runU (fun s => s.hubWrite (·.writeSurveyCtl v)) s)
  (hw : s.hubWrites = true) (hv : v.field 29 35 = 0) (hgo : v.flag 28 = true)
include hc hw hv hgo

theorem survey_overruns (h : s.survey ≠ none) :
    Gives c s fun t => t.flag (hubKey 0x830) 1 = true ∧ { t with regs := s.regs } = s :=
  gives_of_hubWrite hc hw (writeSurveyCtl_of_running (s := s.clean) hv hgo h) (setFlag_misuse _ _ _ _)
    ⟨flag_setFlag_self (surveyCtl s.clean v) (hubKey 0x830) (by decide) true,
      regFrame_keeping (setFlag_frame (surveyCtl s.clean v) _ _ _ _) (surveyCtl_frame s v)⟩

variable (h : s.survey = none) (hop : v.field 26 2 ≠ 3)
include h hop

theorem survey_refused (hload : v.field 26 2 = 0) (hlen : v.field 0 23 < 3016 ∨ 0x400000 < v.field 0 23) :
    Gives c s fun t => t.survey = none ∧ t.fld (hubKey 0x830) 8 8 = 1 ∧ { t with regs := s.regs } = s :=
  gives_of_hubWrite hc hw (writeSurveyCtl_of_refused (s := s.clean) hv hgo h hop hload hlen)
    (misuse_surveyResult (surveyCtl s.clean v) 1)
    ⟨survey_surveyResult (surveyCtl s.clean v) 1, fld_surveyResult (surveyCtl s.clean v) 1 (by decide),
      surveyResult_frame h (surveyCtl_frame s v) 1⟩

theorem survey_starts (hload : v.field 26 2 = 0 →
      3016 ≤ v.field 0 23 ∧ v.field 0 23 ≤ 0x400000 ∧ (s.reg (hubKey 0x820)).toNat % 8 = 0) :
    Gives c s fun t => t.survey = some (surveyAsked s v) ∧ { t with survey := s.survey, regs := s.regs } = s :=
  gives_of_hubWrite hc hw (writeSurveyCtl_of_fine (s := s.clean) hv hgo h hop hload) rfl ⟨rfl, rfl⟩

end

/-! SURVEY_OP_DONE (R465, R467, R471). -/

/-- The operation has ended with result `r`. -/
def SurveyEnds (s : State) (r : Nat) (t : State) : Prop :=
  t.survey = none ∧ t.fld (hubKey 0x830) 8 8 = r ∧ t.mem = s.mem

theorem surveyEnds_surveyResult {s t : State} {r : Nat} (hr : r < 256) (hm : t.mem = s.mem) :
    SurveyEnds s r ((t.surveyResult r).keeping s) :=
  ⟨survey_surveyResult t r, fld_surveyResult t r hr,
    (surveyResult_keeps t r State.mem fun _ _ _ => rfl).trans hm⟩

theorem flash_surveyResult (s : State) (r : Nat) : (s.surveyResult r).flash = s.flash :=
  surveyResult_keeps s r State.flash fun _ _ _ => rfl

/-- A pack that is accepted takes one of the eight slots. -/
theorem slot_of_packVerdict {s : State} {d : List Byte} {sigOk : Bool} {i : Nat} (h : s.packVerdict d sigOk = .ok i) :
    i < 8 := by
  have hslot {p : Nat → Bool} {j : Nat} (hj : (List.range 8).find? p = some j) : j < 8 :=
    List.mem_range.mp (List.mem_of_find?_eq_some hj)
  unfold State.packVerdict at h
  extract_lets stop owner key series same at h
  have hsame {j : Nat} (hj : same = some j) : j < 8 := hslot hj
  clear_value same
  split at h
  · cases h
  · split at h
    · cases h
    · split at h
      · cases h
      · split at h
        next =>
          split at h
          · cases h
            exact hsame rfl
          · cases h
        next =>
          split at h
          next hfree =>
            cases h
            exact hslot hfree
          next => cases h

theorem code_of_packVerdict {s : State} {d : List Byte} {sigOk : Bool} {c : Nat} (h : s.packVerdict d sigOk = .error c) :
    c < 256 := by
  unfold State.packVerdict at h
  extract_lets stop owner key series same at h
  clear_value same
  repeat' split at h
  all_goals cases h
  all_goals decide

/-- A pack stands in its slot. -/
def packPut (s : State) (i : Nat) (d : List Byte) : State :=
  { s with flash := { s.flash with survey := tblSet [] s.flash.survey i d } }

section
variable {s : State} {o : SurveyOp} {readOk sigOk : Bool}
variable (ho : s.survey = some o) (hw : s.ownerRuns = false) (hpack : o.pack = none)
include ho hw hpack

theorem surveyLoad_gives_of_stored (hop : o.op = 0) {d : List Byte} {i : Nat} (hd : s.packRead o readOk = some d)
    (hi : s.packVerdict d sigOk = .ok i) :
    Gives (.surveyOpDone readOk sigOk true) s fun t => SurveyEnds s 0 t ∧ t.packAt i = d
      ∧ t.fld (hubKey 0x830) 24 3 = i ∧ ∀ j, j ≠ i → t.packAt j = s.packAt j := by
  have hdone : s.surveyDone readOk sigOk true = ((packPut s i d).setFld (hubKey 0x830) 24 3 i).surveyResult 0 := by
    simp [State.surveyDone, State.packStore, ho, hw, hpack, hop, hd, hi, packPut]
  have hflash : (((packPut s i d).setFld (hubKey 0x830) 24 3 i).surveyResult 0).flash = (packPut s i d).flash :=
    (flash_surveyResult _ 0).trans (setFld_flash _ _ _ _ _)
  have hslot : (((packPut s i d).setFld (hubKey 0x830) 24 3 i).surveyResult 0).fld (hubKey 0x830) 24 3 = i := by
    rw [fld_surveyResult_ne _ _ (by decide), fld_setFld_self _ _ (by decide)]
    exact Nat.mod_eq_of_lt (slot_of_packVerdict hi)
  have hmem : ((packPut s i d).setFld (hubKey 0x830) 24 3 i).mem = s.mem := setFld_mem (packPut s i d) _ _ _ _
  refine gives_of_run (f := (·.surveyDone readOk sigOk true)) rfl hdone ?_
  refine ⟨surveyEnds_surveyResult (by decide) hmem, ?_, ?_, fun j hj => ?_⟩
  · exact (congrArg (fun x => tblGet [] x.survey i) hflash).trans (tblGet_set_self _ _ _ _)
  · rw [State.fld, keeping_reg]
    exact hslot
  · exact (congrArg (fun x => tblGet [] x.survey j) hflash).trans (tblGet_set_ne _ _ _ hj)

theorem surveyLoad_gives_of_refused (hop : o.op = 0) {d : List Byte} {c : Nat} (hd : s.packRead o readOk = some d)
    (hc : s.packVerdict d sigOk = .error c) :
    Gives (.surveyOpDone readOk sigOk true) s fun t => SurveyEnds s c t ∧ t.flash = s.flash := by
  have hdone : s.surveyDone readOk sigOk true = s.surveyResult c := by
    simp [State.surveyDone, State.packStore, ho, hw, hpack, hop, hd, hc]
  exact gives_of_run (f := (·.surveyDone readOk sigOk true)) rfl hdone
    ⟨surveyEnds_surveyResult (code_of_packVerdict hc) rfl, flash_surveyResult s c⟩

theorem surveyLoad_gives_of_unread (hop : o.op = 0) (hd : s.packRead o readOk = none) :
    Gives (.surveyOpDone readOk sigOk true) s fun t => SurveyEnds s 1 t ∧ t.flash = s.flash :=
  gives_of_run (f := (·.surveyDone readOk sigOk true)) rfl
    (by simp [State.surveyDone, ho, hw, hpack, hop, hd])
    ⟨surveyEnds_surveyResult (by decide) rfl, flash_surveyResult s 1⟩

theorem survey_gives_of_empty (hop : o.op ≠ 0) (hp : s.packAt o.slot = []) :
    Gives (.surveyOpDone readOk sigOk true) s fun t => SurveyEnds s 7 t ∧ t.flash = s.flash := by
  have hdone : s.surveyDone readOk sigOk true = s.surveyResult 7 := by
    simp [State.surveyDone, ho, hw, hpack, hop, hp]
  exact gives_of_run (f := (·.surveyDone readOk sigOk true)) rfl hdone
    ⟨surveyEnds_surveyResult (by decide) rfl, flash_surveyResult s 7⟩

theorem surveyErase_gives (hop : o.op = 1) (hp : s.packAt o.slot ≠ []) :
    Gives (.surveyOpDone readOk sigOk true) s fun t => SurveyEnds s 0 t ∧ t.packAt o.slot = [] := by
  have hdone : s.surveyDone readOk sigOk true
      = { s with flash := { s.flash with survey := tblErase s.flash.survey o.slot } }.surveyResult 0 := by
    simp [State.surveyDone, ho, hw, hpack, hop, hp]
  refine gives_of_run (f := (·.surveyDone readOk sigOk true)) rfl hdone ⟨surveyEnds_surveyResult (by decide) rfl, ?_⟩
  exact (congrArg (fun x => tblGet [] x.survey o.slot) (flash_surveyResult _ 0) :).trans (tblGet_erase_self _ _ _)

theorem surveyDone_of_run (hop : o.op = 2) (hp : s.packAt o.slot ≠ []) :
    s.surveyDone readOk sigOk true = (s.runNow (s.packAt o.slot)).surveyResult 0 := by
  simp [State.surveyDone, ho, hw, hpack, hop, hp]

end

/-! RUN_NOW (R458, R467). -/

theorem makeDue_frame (s : State) (k : Nat) : { s.makeDue k with health := s.health } = s := by
  unfold State.makeDue
  split <;> rfl

theorem healthOf_makeDue (s : State) (k i : Nat) : (s.makeDue k).healthOf i
    = if i = k ∧ s.retired k = false then { s.healthOf i with due := true } else s.healthOf i := by
  unfold State.makeDue
  split
  next h => simp [h]
  next h =>
    rw [healthOf_modHealth]
    by_cases hi : i = k
    · simp [hi, h]
    · simp [hi]

theorem retired_makeDue (s : State) (k i : Nat) : (s.makeDue k).retired i = s.retired i := by
  rw [State.retired, healthOf_makeDue]
  split <;> rfl

/-- RUN_NOW marks one unit of a kind. -/
def markUnit (p : List Byte) (kind : Nat) (s : State) (u : Nat) : State :=
  if unitOk kind u && packFits p (s.die (unitDie kind u)).rev then s.makeDue (healthKey kind u) else s

theorem runNow_eq (s : State) (p : List Byte) : s.runNow p = s.each ((List.range 5).filter (packKinds p).contains)
    fun s kind => s.each (List.range (unitEnd kind)) (markUnit p kind) :=
  rfl

theorem markUnit_frame (p : List Byte) (kind : Nat) (s : State) (u : Nat) :
    { markUnit p kind s u with health := s.health } = s := by
  unfold markUnit
  split
  · exact makeDue_frame s _
  · rfl

theorem runNow_keeps {α : Type} (q : State → α) (hq : ∀ x hs, q { x with health := hs } = q x) (s : State)
    (p : List Byte) : q (s.runNow p) = q s := by
  rw [runNow_eq]
  refine each_keeps q (fun t kind => each_keeps q (fun t u => ?_) _ t) _ s
  exact (hq _ t.health).symm.trans (congrArg q (markUnit_frame p kind t u))

theorem retired_runNow (s : State) (p : List Byte) (i : Nat) : (s.runNow p).retired i = s.retired i := by
  rw [runNow_eq]
  refine each_keeps (State.retired · i) (fun t kind => each_keeps (State.retired · i) (fun t u => ?_) _ t) _ s
  unfold markUnit
  split
  · exact retired_makeDue t _ i
  · rfl

/-- A grid that the pack fits and that is not RETIRED is due. -/
def GridMarked (p : List Byte) (s : State) (u : Nat) : Prop :=
  packFits p (s.die (unitDie 0 u)).rev = true → s.retired (healthKey 0 u) = false →
    (s.healthOf (healthKey 0 u)).due = true

theorem gridMarked_makeDue {p : List Byte} {s : State} {u : Nat} (k : Nat) (h : GridMarked p s u) :
    GridMarked p (s.makeDue k) u := by
  intro hfits hr
  rw [retired_makeDue] at hr
  have hdie : (s.makeDue k).die (unitDie 0 u) = s.die (unitDie 0 u) :=
    (congrArg (State.die · (unitDie 0 u)) (makeDue_frame s k) :)
  rw [hdie] at hfits
  rw [healthOf_makeDue]
  split
  · rfl
  · exact h hfits hr

theorem gridMarked_markUnit_of_marked {p : List Byte} {s : State} {u : Nat} (kind x : Nat) (h : GridMarked p s u) :
    GridMarked p (markUnit p kind s x) u := by
  unfold markUnit
  split
  · exact gridMarked_makeDue _ h
  · exact h

theorem gridMarked_markUnit {p : List Byte} {s : State} {u : Nat} (hu : u < 272) : GridMarked p (markUnit p 0 s u) u := by
  have hok : unitOk 0 u = true := decide_eq_true (by omega)
  unfold markUnit
  rw [hok, Bool.true_and]
  split
  next =>
    intro _ hr
    rw [retired_makeDue] at hr
    rw [healthOf_makeDue, if_pos ⟨rfl, hr⟩]
  next hno => exact fun hfits => absurd hfits hno

theorem gridMarked_runNow {s : State} {p : List Byte} (h0 : (packKinds p).contains 0 = true) {u : Nat} (hu : u < 272) :
    GridMarked p (s.runNow p) u := by
  have hkind : 0 ∈ (List.range 5).filter (packKinds p).contains := List.mem_filter.mpr ⟨by decide, h0⟩
  rw [runNow_eq]
  refine each_establishes (P := fun t kind => kind = 0 → GridMarked p t u) (fun t kind hk => ?_)
    (fun t kind _ h hk => ?_) s hkind rfl
  · subst hk
    exact each_establishes (P := fun t x => x < 272 → GridMarked p t x) (fun t x hx => gridMarked_markUnit hx)
      (fun t x _ h hy => gridMarked_markUnit_of_marked 0 x (h hy)) t (List.mem_range.mpr hu) hu
  · exact List.foldlRecOn _ _ (motive := fun t => GridMarked p t u) (h hk) fun t ht x _ =>
      gridMarked_markUnit_of_marked kind x ht

theorem runNow_gives {s : State} {o : SurveyOp} {readOk sigOk : Bool} (ho : s.survey = some o) (hw : s.ownerRuns = false)
    (hpack : o.pack = none) (hop : o.op = 2) (hp : s.packAt o.slot ≠ []) :
    Gives (.surveyOpDone readOk sigOk true) s fun t => SurveyEnds s 0 t ∧ t.flash = s.flash
      ∧ ∀ slot < 272, (packKinds (s.packAt o.slot)).contains 0 = true
        → packFits (s.packAt o.slot) (s.die (1 + slot / 34)).rev = true
        → s.retired (gridHealth (slot / 34) (slot % 34)) = false
        → (t.healthOf (gridHealth (slot / 34) (slot % 34))).due = true := by
  refine gives_of_run (f := (·.surveyDone readOk sigOk true)) rfl (surveyDone_of_run ho hw hpack hop hp)
    ⟨surveyEnds_surveyResult (by decide) (runNow_keeps State.mem (fun _ _ => rfl) s _),
      (flash_surveyResult _ 0).trans (runNow_keeps State.flash (fun _ _ => rfl) s _), fun slot hslot h0 hfits hr => ?_⟩
  have hunit : (slot / 34 + slot % 34 * 8) % 8 = slot / 34 := by omega
  have hdue := gridMarked_runNow (s := s) h0 (u := slot / 34 + slot % 34 * 8) (by omega)
  rw [keeping_healthOf, surveyResult_keeps _ 0 (State.healthOf · _) fun _ _ _ => rfl]
  refine hdue ?_ ?_
  · rw [runNow_keeps (State.die · _) (fun _ _ => rfl) s]
    exact (congrArg (fun d => packFits (s.packAt o.slot) (s.die (1 + d)).rev) hunit).trans hfits
  · exact (retired_runNow s _ _).trans hr

/-! TestsAndSurveys. -/

theorem fields_of_settled {x y : Health} (h : settled x = settled y) :
    x.st = y.st ∧ x.cause = y.cause ∧ x.passes = y.passes ∧ x.mismatches = y.mismatches :=
  ⟨(congrArg Health.st h :), (congrArg Health.cause h :), (congrArg Health.passes h :), (congrArg Health.mismatches h :)⟩

section
variable {x : Health} {reproduced : Bool} {cause : Nat}

theorem judged_healthy_passed (h : x.st = .healthy) : judged x true reproduced cause = x := by
  simp only [judged, h]

theorem judged_suspect_passed (h : x.st = .suspect) (hlt : x.passes + 1 < 72) :
    judged x true reproduced cause = { x with passes := x.passes + 1 } := by
  simp only [judged, h]
  rw [if_neg (by omega)]

theorem judged_suspect_cleared (h : x.st = .suspect) (hle : 72 ≤ x.passes + 1) :
    judged x true reproduced cause = { x with st := .healthy, passes := 0 } := by
  simp only [judged, h]
  rw [if_pos hle]

theorem judged_healthy_failed (h : x.st = .healthy) : judged x false false cause
    = { x with st := .suspect, cause := cause, mismatches := 0, passes := 0, mmas := 0, shadowOwed := false } := by
  simp [judged, h]

theorem judged_retired (h : x.st = .suspect ∨ (x.st = .healthy ∧ reproduced = true)) :
    judged x false reproduced cause = { x with st := .retired, cause := cause, due := false } := by
  rcases h with h | ⟨h, hr⟩
  · simp only [judged, h]
  · simp [judged, h, hr]

end

section
variable {s : State} {kind : UnitKind} {u : Nat} {r : TestResult} {e : RunningTest}

/-- The test ends and leaves its unit a health record with `P`. -/
def VerdictGives (s : State) (kind : UnitKind) (u : Nat) (r : TestResult) (P : Health → Prop) : Prop :=
  Gives (.testComplete kind u r) s fun t =>
    TestEnds s (healthKey (kindNo kind) u) t ∧ P (t.healthOf (healthKey (kindNo kind) u))

/-- The verdict of each test of a grid or core, by its health before and its result. -/
theorem verdicts_give (hk : kind = .grid ∨ kind = .core) (he : tblGet none s.tests (healthKey (kindNo kind) u) = some e) :
    let k := healthKey (kindNo kind) u
    let h := s.healthOf k
    let pass := r.rom = true ∧ r.survey = none
    let cause : Nat := if r.rom then 3 else 1
    (pass → h.st = .healthy → VerdictGives s kind u r fun x => x.st = .healthy)
    ∧ (pass → h.st = .suspect → h.passes + 1 < 72 → VerdictGives s kind u r fun x =>
        x.st = .suspect ∧ x.passes = h.passes + 1)
    ∧ (pass → h.st = .suspect → 72 ≤ h.passes + 1 → VerdictGives s kind u r fun x =>
        x.st = .healthy ∧ x.cause = h.cause)
    ∧ (¬ pass → h.st = .healthy → r.reproduced = false → VerdictGives s kind u r fun x =>
        x.st = .suspect ∧ x.cause = cause ∧ x.mismatches = 0)
    ∧ (¬ pass → h.st = .suspect ∨ (h.st = .healthy ∧ r.reproduced = true) → VerdictGives s kind u r fun x =>
        x.st = .retired ∧ x.cause = cause) := by
  intro k h pass cause
  have hgives {P : Health → Prop} {pass : Bool} (hpass : (r.rom && r.survey.isNone) = pass)
      (hP : ∀ x m, settled x = settled (judged (testedHealth s k m) pass r.reproduced cause) → P x) :
      VerdictGives s kind u r P :=
    gives_mono (testComplete_gives he hk) fun t ⟨hends, m, hm⟩ => ⟨hends, hP _ m (by rw [← hpass]; exact hm)⟩
  have hpassed (hp : pass) : (r.rom && r.survey.isNone) = true := by simp [hp.1, hp.2]
  have hfailed (hp : ¬ pass) : (r.rom && r.survey.isNone) = false := by
    rw [Bool.eq_false_iff]
    exact fun hc => hp (by simpa using hc)
  refine ⟨fun hp hst => ?_, fun hp hst hlt => ?_, fun hp hst hle => ?_, fun hp hst hr => ?_, fun hp hst => ?_⟩
  · refine hgives (hpassed hp) fun x m hx => ?_
    rw [judged_healthy_passed (x := testedHealth s k m) hst] at hx
    exact (fields_of_settled hx).1.trans hst
  · refine hgives (hpassed hp) fun x m hx => ?_
    rw [judged_suspect_passed (x := testedHealth s k m) hst hlt] at hx
    obtain ⟨h1, -, h3, -⟩ := fields_of_settled hx
    exact ⟨h1.trans hst, h3⟩
  · refine hgives (hpassed hp) fun x m hx => ?_
    rw [judged_suspect_cleared (x := testedHealth s k m) hst hle] at hx
    obtain ⟨h1, h2, -, -⟩ := fields_of_settled hx
    exact ⟨h1, h2⟩
  · refine hgives (hfailed hp) fun x m hx => ?_
    rw [hr, judged_healthy_failed (x := testedHealth s k m) hst] at hx
    obtain ⟨h1, h2, -, h4⟩ := fields_of_settled hx
    exact ⟨h1, h2, h4⟩
  · refine hgives (hfailed hp) fun x m hx => ?_
    rw [judged_retired (x := testedHealth s k m) hst] at hx
    obtain ⟨h1, h2, -, -⟩ := fields_of_settled hx
    exact ⟨h1, h2⟩

end

/-- Settles O52: each clause is the rule of the command it speaks of; the verdict of a test is read off the health record
that the unit's leaving settles. -/
theorem testsAndSurveys : Obligations.TestsAndSurveys := by
  unfold Obligations.TestsAndSurveys
  intro s kind u v n k h b g bank m lane x y running
  refine ⟨fun hu hr hdue hg => ⟨?grid, ?subarray, ?spur, ?rail⟩, fun r e hu he => ?complete, fun hw hv hgo hop => ?ctl,
    fun o readOk sigOk ho hrun hpack => ?done⟩
  case grid =>
    rintro w e i rfl hst hsl hph hb hbl hn hi
    exact gridTest_gives hu hr hdue hg hst hsl hph hb hbl hn hi
  case subarray =>
    rintro rfl hs hc
    exact subarrayTest_gives hu hr hdue hg hs hc
  case spur =>
    rintro rfl hup hver hcal hspare h0 h1
    exact spurLaneTest_gives hu hr hdue hg hup hver hcal hspare h0 h1
  case rail =>
    rintro rfl hup hstep hchange hspare hne
    exact railLaneTest_gives hu hr hdue hg hup hstep hchange hspare hne
  case complete =>
    refine ⟨fun hk => verdicts_give hk he, ?_⟩
    rintro rfl ⟨hrom, hsurvey⟩
    exact subarrayPass_gives he hrom hsurvey
  case ctl =>
    intro addr len op starts
    refine ⟨fun hnone => ⟨fun _ hmin hmax halign => ?_, fun hload hlen => ?_, fun herase => ?_, fun hnow => ?_⟩,
      fun hsome _ => survey_overruns rfl hw hv hgo hsome⟩
    · exact survey_starts rfl hw hv hgo hnone hop fun _ => ⟨hmin, hmax, halign⟩
    · exact survey_refused rfl hw hv hgo hnone hop hload hlen
    · exact survey_starts rfl hw hv hgo hnone hop fun h0 => absurd (herase.symm.trans h0) (by decide)
    · exact survey_starts rfl hw hv hgo hnone hop fun h0 => absurd (hnow.symm.trans h0) (by decide)
  case done =>
    refine ⟨fun hload => ⟨?_, ?_, ?_⟩, ?_, ?_, ?_⟩
    · exact fun d i hd hi => surveyLoad_gives_of_stored ho hrun hpack hload hd hi
    · exact fun d c hd hc => surveyLoad_gives_of_refused ho hrun hpack hload hd hc
    · exact surveyLoad_gives_of_unread ho hrun hpack hload
    · exact survey_gives_of_empty ho hrun hpack
    · exact surveyErase_gives ho hrun hpack
    · exact runNow_gives ho hrun hpack

end Sys2Proof.Proofs
end

section
/-!
PROOFS. The engines of a pond whose vector, store and transfer-start queues are empty (R143, R144, R163): one round fills
loads and preloads and starts MMAs, and nothing else goes on.
-/
namespace Sys2Proof.Proofs

open Sys2Proof Sys2Proof.Machine Sys2Proof.Safety Sys2Proof.Laws

/-! What the grids' share of a round changes in a pond. -/

/-- A pond but for its feeders, grid queues and slots. -/
def sequencing (p : Pond) : Pond := { p with feedA := [], feedB := [], gridQ := [], slots := [] }

/-- The tickets in the grid queues. -/
def ticketQ (p : Pond) : Tbl (List Nat) := p.gridQ.map fun e => (e.1, e.2.map (·.ticket))

/-- No load, in a feeder or paired, has met a fault that is not detected. -/
def Faultless (p : Pond) : Prop :=
  (∀ e ∈ p.feedA, ∀ x ∈ e.2, x.fault = none) ∧ (∀ e ∈ p.feedB, ∀ x ∈ e.2, x.fault = none)
    ∧ ∀ e ∈ p.gridQ, ∀ m ∈ e.2, m.a.fault = none ∧ m.b.fault = none

theorem faulty_eq_nil {p : Pond} : p.faulty = [] ↔ Faultless p := by
  simp only [Pond.faulty, Pond.mmas, Faultless, List.filter_eq_nil_iff, List.mem_append, List.mem_flatMap]
  constructor
  · intro h
    have hnone {x : Load} (hx : ¬ x.fault.isSome = true) : x.fault = none := by simpa using hx
    refine ⟨fun e he x hx => hnone (h x (.inl (.inl ⟨e, he, hx⟩))),
      fun e he x hx => hnone (h x (.inl (.inr ⟨e, he, hx⟩))), fun e he m hm => ?_⟩
    exact ⟨hnone (h m.a (.inr ⟨m, ⟨e, he, hm⟩, by simp⟩)), hnone (h m.b (.inr ⟨m, ⟨e, he, hm⟩, by simp⟩))⟩
  · rintro ⟨hA, hB, hQ⟩ x ((⟨e, he, hx⟩ | ⟨e, he, hx⟩) | ⟨m, ⟨e, he, hm⟩, hx⟩)
    · simp [hA e he x hx]
    · simp [hB e he x hx]
    · obtain ⟨ha, hb⟩ := hQ e he m hm
      rcases List.mem_pair.mp hx with rfl | rfl
      · simp [ha]
      · simp [hb]

/-- Between `p` and `p'` the grids' share of an engine round has changed feeders, queues and slots. -/
structure Fed (p p' : Pond) : Prop where
  sequencing : sequencing p' = sequencing p
  tickets : ticketQ p' = ticketQ p
  feedA : p.feedA = [] → p'.feedA = []
  feedB : p.feedB = [] → p'.feedB = []
  faultless : Faultless p → Faultless p'

theorem fed_refl (p : Pond) : Fed p p := ⟨rfl, rfl, id, id, id⟩

theorem fed_trans {p p' q : Pond} (h : Fed p p') (h' : Fed p' q) : Fed p q :=
  ⟨h'.sequencing.trans h.sequencing, h'.tickets.trans h.tickets, h'.feedA ∘ h.feedA, h'.feedB ∘ h.feedB,
    h'.faultless ∘ h.faultless⟩

theorem fault_fillLoad (p : Pond) (isA : Bool) (x : Load) : (p.fillLoad isA x).fault = x.fault := by
  unfold Pond.fillLoad
  split
  · split <;> rfl
  · rfl

theorem fed_fillLoads (p : Pond) : Fed p p.fillLoads where
  sequencing := rfl
  tickets := by simp [ticketQ, Pond.fillLoads]
  feedA h := by simp [Pond.fillLoads, h]
  feedB h := by simp [Pond.fillLoads, h]
  faultless h := by
    simp only [Faultless, Pond.fillLoads, List.forall_mem_map, fault_fillLoad]
    exact h

/-- A change of an MMA that keeps its ticket and its loads. -/
def KeepsMma (f : MmaOp → MmaOp) : Prop := ∀ m, (f m).ticket = m.ticket ∧ (f m).a = m.a ∧ (f m).b = m.b

theorem fed_modMma (p : Pond) (seq : Nat) {f : MmaOp → MmaOp} (hf : KeepsMma f) : Fed p (p.modMma seq f) where
  sequencing := rfl
  tickets := by
    have hticket (m : MmaOp) : (if m.seq = seq then f m else m).ticket = m.ticket := by
      split
      · exact (hf m).1
      · rfl
    simp [ticketQ, Pond.modMma, hticket]
  feedA := id
  feedB := id
  faultless := by
    rintro ⟨hA, hB, hQ⟩
    refine ⟨hA, hB, ?_⟩
    simp only [Pond.modMma, List.forall_mem_map]
    intro e he m hm
    obtain ⟨-, ha, hb⟩ := hf m
    split
    · rw [ha, hb]
      exact hQ e he m hm
    · exact hQ e he m hm

theorem fed_beginRelease (p : Pond) (t seq : Nat) : Fed p (p.beginRelease t seq) := by
  unfold Pond.beginRelease
  exact List.foldlRecOn _ _ (motive := Fed p) (fed_refl p) fun q hq k _ => fed_trans hq ⟨rfl, rfl, id, id, id⟩

theorem fed_preload (p : Pond) (m : MmaOp) : Fed p (p.preload m) := by
  unfold Pond.preload
  split
  · exact fed_refl p
  · split
    · split
      · exact fed_refl p
      · exact fed_modMma p _ fun _ => ⟨rfl, rfl, rfl⟩
    · split
      · split
        · extract_lets qs ts
          refine fed_trans (fed_modMma p _ ?_) (fed_beginRelease _ _ _)
          exact fun _ => ⟨rfl, rfl, rfl⟩
        · exact fed_refl p
      · exact fed_refl p

theorem fed_preloads (s : State) (u : Nat) (p : Pond) : Fed p (s.preloads u p) := by
  unfold State.preloads
  refine List.foldlRecOn _ _ (motive := Fed p) (fed_refl p) fun q hq k _ => ?_
  split
  · exact fed_trans hq (fed_preload q _)
  · exact hq

/-! The slots. -/

/-- The MMA's preload is no tile of the sluice that is still to be read. -/
def Preloaded (m : MmaOp) : Prop := m.pre ≠ 2 ∨ m.preReady = true

theorem slots_preload {p : Pond} {m : MmaOp} (h : Preloaded m) : (p.preload m).slots = p.slots := by
  unfold Pond.preload
  split
  · rfl
  next hready =>
    split
    · split <;> rfl
    · rw [if_neg (h.resolve_right hready)]

theorem mem_of_mem_tblGet {α : Type} {t : Tbl (List α)} {k : Nat} {x : α} (h : x ∈ tblGet [] t k) :
    ∃ e ∈ t, x ∈ e.2 := by
  induction t with
  | nil => exact absurd h List.not_mem_nil
  | cons e r ih =>
    obtain ⟨j, v⟩ := e
    unfold tblGet at h
    split at h
    · exact ⟨(j, v), List.mem_cons_self, h⟩
    · obtain ⟨e, he, hx⟩ := ih h
      exact ⟨e, List.mem_cons_of_mem _ he, hx⟩

theorem mem_mmas {p : Pond} {q : Nat} {m : MmaOp} (h : m ∈ p.gridOps q) : m ∈ p.mmas :=
  List.mem_flatMap.mpr (mem_of_mem_tblGet h)

theorem mmaOf_mem_mmas {p : Pond} {m : MmaOp} (h : m ∈ p.mmas) : p.mmaOf m ∈ p.mmas := by
  unfold Pond.mmaOf
  split
  · cases hfind : (p.gridOps 0).find? fun x => x.seq == m.seq with
    | none => exact h
    | some x => exact mem_mmas (List.mem_of_find?_eq_some hfind)
  · exact h

theorem mem_mmas_of_turn {s : State} {u q : Nat} {m : MmaOp} (h : s.turn u q = some m) : m ∈ (s.pond u).mmas := by
  obtain ⟨m0, hm0, hturn⟩ := Option.bind_eq_some_iff.mp h
  have hmem : m0 ∈ (s.pond u).mmas := mem_mmas (List.mem_of_find?_eq_some hm0)
  dsimp only at hturn
  split at hturn
  · exact Option.some.inj hturn ▸ mmaOf_mem_mmas hmem
  · cases hturn

theorem slots_preloads {s : State} {u : Nat} (h : ∀ m ∈ (s.pond u).mmas, Preloaded m) (p : Pond) :
    (s.preloads u p).slots = p.slots := by
  unfold State.preloads
  refine List.foldlRecOn _ _ (motive := fun q : Pond => q.slots = p.slots) rfl fun q hq k _ => ?_
  split
  next hm => exact (slots_preload (h _ (mem_mmas_of_turn hm))).trans hq
  next => exact hq

/-! A round of the engines. -/

/-- The pond runs a program and has nothing queued but loads and MMAs, none of which has met a fault. -/
structure Resting (p : Pond) : Prop where
  mode : p.mode = .run
  wait : p.wait ≠ .drain
  vecQ : p.vecQ = []
  storeQ : p.storeQ = []
  xsQ : p.xsQ = []
  posted : p.posted = []
  faultless : Faultless p

theorem resting_of_fed {p p' : Pond} (h : Fed p p') (hr : Resting p) : Resting p' where
  mode := (congrArg Pond.mode h.sequencing :).trans hr.mode
  wait := by
    rw [show p'.wait = p.wait from (congrArg Pond.wait h.sequencing :)]
    exact hr.wait
  vecQ := (congrArg Pond.vecQ h.sequencing :).trans hr.vecQ
  storeQ := (congrArg Pond.storeQ h.sequencing :).trans hr.storeQ
  xsQ := (congrArg Pond.xsQ h.sequencing :).trans hr.xsQ
  posted := (congrArg Pond.posted h.sequencing :).trans hr.posted
  faultless := h.faultless hr.faultless

section
variable (s : State) (u : Nat)

theorem pond_fill : (s.fill u).pond u = s.preloads u (s.pond u).fillLoads := by
  unfold State.fill
  extract_lets p
  split
  next h => exact h.symm
  next => exact pond_modPond_self s u _

theorem fill_keeps {α : Type} (p : State → α) (hp : ∀ x ps, p { x with ponds := ps } = p x) : p (s.fill u) = p s := by
  unfold State.fill
  extract_lets q
  split
  · rfl
  · exact hp s _

theorem fed_fill : Fed (s.pond u) ((s.fill u).pond u) := by
  rw [pond_fill]
  exact fed_trans (fed_fillLoads _) (fed_preloads s u _)

theorem slots_fill (h : ∀ m ∈ (s.pond u).mmas, Preloaded m) : ((s.fill u).pond u).slots = (s.pond u).slots := by
  rw [pond_fill]
  exact slots_preloads h _

/-- One grid of a pond starts its next MMA, if it can. -/
def startNext (s : State) (q : Nat) : State :=
  match s.startable u q with
  | some m =>
    if (mmaGrids m q).all fun k => s.phaseOf u k != .idle then
      if s.afterDry u m q then s.bump.startMma u q m fun _ => .rampUp 0 else s.bump.startMma u q m GridPhase.resume
    else s
  | none => s

theorem runOn_eq : s.runOn u = s.each (List.range 4) (startNext u) := rfl

theorem startNext_keeps {α : Type} (p : State → α)
    (hp : ∀ x gs ps n, p { x with grids := gs, ponds := ps, freeCtr := n } = p x) (q : Nat) :
    p (startNext u s q) = p s := by
  have hstart (m : MmaOp) (f : GridPhase → GridPhase) : p (s.bump.startMma u q m f) = p s := by
    rw [startMma_keeps p (fun x gs ps => hp x gs ps x.freeCtr)]
    exact hp s s.grids s.ponds _
  unfold startNext
  split
  · split
    · split <;> exact hstart _ _
    · rfl
  · rfl

theorem runOn_keeps {α : Type} (p : State → α)
    (hp : ∀ x gs ps n, p { x with grids := gs, ponds := ps, freeCtr := n } = p x) : p (s.runOn u) = p s := by
  rw [runOn_eq]
  exact each_keeps p (fun t q => startNext_keeps t u p hp q) _ s

/-- An MMA is marked as started. -/
def markStarted (p : Pond) (seq : Nat) : Pond := p.modMma seq fun x => { x with started := true }

theorem pond_startMma (q : Nat) (m : MmaOp) (f : GridPhase → GridPhase) :
    (s.startMma u q m f).pond u = markStarted (s.pond u) m.seq := by
  have hstart (t : State) (k : Nat) : (startOn u m f t k).pond u = t.pond u :=
    keeps_of_gridFrame (startOn_frame u m f t k) (State.pond · u) fun _ _ => rfl
  rw [startMma_eq, each_keeps (State.pond · u) hstart]
  exact pond_modPond_self s u _

/-- What the marks of MMAs as started keep holds of the pond after their starts. -/
theorem pond_runOn {P : Pond → Prop} (hmark : ∀ p n, P p → P (markStarted p n)) (h0 : P (s.pond u)) :
    P ((s.runOn u).pond u) := by
  have hstart (t : State) (q : Nat) (m : MmaOp) (f : GridPhase → GridPhase) (ht : P (t.pond u)) :
      P ((t.bump.startMma u q m f).pond u) := by
    rw [pond_startMma]
    exact hmark _ _ ht
  rw [runOn_eq]
  refine List.foldlRecOn _ _ (motive := fun t => P (State.pond t u)) h0 fun t ht q _ => ?_
  unfold startNext
  split
  · split
    · split
      · exact hstart t q _ _ ht
      · exact hstart t q _ _ ht
    · exact ht
  · exact ht

theorem fed_runOn : Fed (s.pond u) ((s.runOn u).pond u) :=
  pond_runOn s u (P := Fed (s.pond u)) (fun p n hp => fed_trans hp (fed_modMma p n fun _ => ⟨rfl, rfl, rfl⟩))
    (fed_refl _)

theorem slots_runOn : ((s.runOn u).pond u).slots = (s.pond u).slots :=
  pond_runOn s u (P := fun p => p.slots = (s.pond u).slots) (fun _ _ hp => hp) rfl

theorem held_startMma (q : Nat) (m : MmaOp) (f : GridPhase → GridPhase) (g : Nat) :
    ((s.startMma u q m f).grid g).held = (s.grid g).held := by
  rw [startMma_eq]
  refine each_keeps (fun t => (State.grid t g).held) (fun t k => ?_) _ _
  unfold startOn
  split
  · rw [grid_modGrid]
    split
    next hg => rw [hg]
    next => rfl
  · rfl

theorem held_runOn (g : Nat) : ((s.runOn u).grid g).held = (s.grid g).held := by
  rw [runOn_eq]
  refine each_keeps (fun t => (State.grid t g).held) (fun t q => ?_) _ s
  unfold startNext
  split
  · split
    · split
      · exact held_startMma t.bump u q _ _ g
      · exact held_startMma t.bump u q _ _ g
    · rfl
  · rfl

variable {s} {u} (h : Resting (s.pond u))
include h

theorem detect_of_resting : s.detect u = s := by
  simp only [State.detect, faulty_eq_nil.mpr h.faultless]

theorem runVec_of_resting : s.runVec u = (false, s) := by
  simp only [State.runVec, h.vecQ]

theorem runStore_of_resting : s.runStore u = (false, s) := by
  simp only [State.runStore, h.storeQ]

theorem runXstart_of_resting : s.runXstart u = (false, s) := by
  simp only [State.runXstart, h.xsQ]

theorem runPosted_of_resting : s.runPosted u = (false, s) := by
  simp only [State.runPosted, h.posted]

theorem runDrain_of_resting : s.runDrain u = (false, s) :=
  if_neg fun hdrain => h.wait hdrain.2.1

theorem tryFinish_of_resting : s.tryFinish u = s :=
  if_neg fun hend => absurd (h.mode.symm.trans hend.1) (by decide)

theorem engineRound_of_resting : s.engineRound u = (false, (s.fill u).runOn u) := by
  have hfill := resting_of_fed (fed_fill s u) h
  have hrun := resting_of_fed (fed_runOn (s.fill u) u) hfill
  simp only [State.engineRound, detect_of_resting hfill, runVec_of_resting hrun, runStore_of_resting hrun,
    runXstart_of_resting hrun, runPosted_of_resting hrun, runDrain_of_resting hrun, Bool.or_self]

theorem engineRounds_of_resting (k : Nat) : State.engineRounds u (k + 1) s = (s.fill u).runOn u := by
  rw [State.engineRounds, engineRound_of_resting h]
  exact if_neg Bool.false_ne_true

/-- The engines fill what they can and start MMAs; nothing else goes on. -/
theorem pump_of_resting (hw : s.pondWorks u = true) : s.pump u = (s.fill u).runOn u := by
  have hrun := resting_of_fed (fed_runOn (s.fill u) u) (resting_of_fed (fed_fill s u) h)
  have hgo : (s.pondWorks u && (s.pond u).mode != .idle) = true := by
    rw [hw, h.mode]
    rfl
  rw [State.pump, if_pos hgo, engineRounds_of_resting h 63, tryFinish_of_resting hrun]

/-- What the pump leaves beside the pond, its grids and the free values. -/
theorem pump_keeps_of_resting (hw : s.pondWorks u = true) {α : Type} (p : State → α)
    (hp : ∀ x gs ps n, p { x with grids := gs, ponds := ps, freeCtr := n } = p x) : p (s.pump u) = p s := by
  rw [pump_of_resting h hw, runOn_keeps _ u p hp]
  exact fill_keeps s u p fun x ps => hp x x.grids ps x.freeCtr

theorem fed_pump_of_resting (hw : s.pondWorks u = true) : Fed (s.pond u) ((s.pump u).pond u) := by
  rw [pump_of_resting h hw]
  exact fed_trans (fed_fill s u) (fed_runOn _ u)

theorem slots_pump_of_resting (hw : s.pondWorks u = true) (hpre : ∀ m ∈ (s.pond u).mmas, Preloaded m) :
    ((s.pump u).pond u).slots = (s.pond u).slots := by
  rw [pump_of_resting h hw, slots_runOn]
  exact slots_fill s u hpre

theorem held_pump_of_resting (hw : s.pondWorks u = true) (g : Nat) : ((s.pump u).grid g).held = (s.grid g).held := by
  rw [pump_of_resting h hw, held_runOn]
  exact fill_keeps s u (fun x => (x.grid g).held) fun _ _ => rfl

end

end Sys2Proof.Proofs
end

section
/-!
PROOFS. SLOT_CLAIM and SLOT_FULL (R119, R120, R193).
-/
namespace Sys2Proof.Proofs

open Sys2Proof Sys2Proof.Machine Sys2Proof.Safety Sys2Proof.Laws

theorem gridQ_of_ticketQ {p p' : Pond} (h : ticketQ p' = ticketQ p) (hp : p.gridQ = []) : p'.gridQ = [] :=
  List.map_eq_nil_iff.mp (h.trans (by rw [ticketQ, hp]; rfl))

/-! Slots. -/

theorem slot_of_slots {p p' : Pond} (h : p'.slots = p.slots) (k : Nat) : p'.slot k = p.slot k := 
  congrArg (fun t => tblGet ({} : Slot) t k) h

theorem slot_modSlot_self (p : Pond) (k : Nat) (f : Slot → Slot) : (p.modSlot k f).slot k = f (p.slot k) :=
  tblGet_set_self _ _ _ _

theorem slot_modSlot_ne (p : Pond) {k j : Nat} (f : Slot → Slot) (h : j ≠ k) : (p.modSlot k f).slot j = p.slot j :=
  tblGet_set_ne _ _ _ h

/-! SLOT_FULL. -/

/-- The tile of grid `q` of a single MMA has been drained. -/
def drained (m : MmaOp) (q : Nat) : MmaOp :=
  { m with full := [q], sat := m.sat + (m.tile q).2.1, flush := m.flush + (m.tile q).2.2 }

/-- A slot that is full with a tile. -/
def fullWith (t : Tile) (x : Slot) : Slot := { x with st := .full, tile := t }

/-- Slot `k` is full with the tile of an MMA, which leaves the queue of its grid. -/
def slotFilled (p : Pond) (k q : Nat) (m : MmaOp) : Pond :=
  { p.modSlot k (fullWith (m.tile q).1) with gridQ := [] }

section
variable {s : State} {u q : Nat} {m : MmaOp} {k : Nat}

theorem filling_of_single (hq : (s.pond u).gridQ = [(q, [m])]) (hgang : m.gang = false) (hclaimed : m.claimed = [q])
    (hfull : m.full = []) : (s.pond u).filling q = some m := by
  simp [Pond.filling, Pond.gridOps, Pond.mmaOf, tblGet, hq, hgang, hclaimed, hfull]

theorem shadow_of_sound (r : ShadowResult)
    (h : ∀ x, s.gridOf u q = some x → (s.healthOf (gridHealth (x / 34) (x % 34))).st ≠ .suspect) :
    s.shadow u q r = (false, s) := by
  unfold State.shadow
  split
  · rfl
  next g hg => exact if_pos (h g hg)

theorem modPond_frame (s : State) (u : Nat) (f : Pond → Pond) (ps : Tbl Pond) :
    { s.modPond u f with ponds := ps } = { s with ponds := ps } := rfl

/-- What depends on no pond stays. -/
theorem keeps_of_pondFrame {α : Type} {s t : State} (h : { t with ponds := s.ponds } = s) (p : State → α)
    (hp : ∀ x ps, p { x with ponds := ps } = p x) : p t = p s := (hp t _).symm.trans (congrArg p h)

theorem fillSlot_of_single (hq : (s.pond u).gridQ = [(q, [m])]) (hgang : m.gang = false) (hclaimed : m.claimed = [q])
    (hfull : m.full = []) (hk : (s.pond u).slotFor m q = some k) :
    ∃ r, s.fillSlot u q false = (some (drained m q), r) ∧ r.pond u = slotFilled (s.pond u) k q m
      ∧ { r with ponds := s.ponds } = s := by
  have hsingle : 1 = (mmaGrids (drained m q) q).length := by
    rw [mmaGrids, show (drained m q).gang = false from hgang]
    rfl
  unfold State.fillSlot
  simp only [filling_of_single hq hgang hclaimed hfull, hk, hfull, List.nil_append, List.length_singleton, Bool.or_false,
    Bool.false_eq_true, if_false]
  refine ⟨_, if_pos hsingle, ?_, (modPond_frame _ _ _ _).trans (modPond_frame _ _ _ _)⟩
  simp [pond_modPond_self, slotFilled, Pond.modSlot, Pond.modMma, hq]
  rfl

/-- The sums of a program after an operation has finished. -/
def finAfter (x : PondEnd) (d : OpDone) : PondEnd :=
  { x with
    sat := x.sat + d.sat, flush := x.flush + d.flush, poison := x.poison || d.poison
    emptyAny := x.emptyAny || d.empty }

/-- A pond whose program has been told of an operation that has finished. -/
def told (p : Pond) (d : OpDone) : Pond := { p with fin := finAfter p.fin d }

theorem count_keeps {α : Type} (p : State → α) (hp : ∀ x rs, p { x with regs := rs } = p x) (s : State) (k n : Nat) :
    p (s.count k n) = p s := keeps_of_regFrame (setReg_frame s k _ s.regs) p hp

theorem addTotals_keeps {α : Type} (p : State → α) (hp : ∀ x rs, p { x with regs := rs } = p x) (s : State)
    (l sat flush : Nat) : p (s.addTotals l sat flush) = p s :=
  (count_keeps p hp (s.count (lnKey l 0x200) sat) _ _).trans (count_keeps p hp s _ _)

theorem pond_addTotals (s : State) (l sat flush : Nat) (u : Nat) : (s.addTotals l sat flush).pond u = s.pond u :=
  (count_pond _ _ _ u).trans (count_pond s _ _ u)

theorem opDone_of_unrecorded {d : OpDone} (h : d.record = false) :
    s.opDone u d = (s.modPond u (told · d)).addTotals ((s.modPond u (told · d)).pondLine u) d.sat d.flush := by
  unfold State.opDone
  extract_lets a b
  rw [if_neg (by rw [h]; exact Bool.false_ne_true)]
  rfl

theorem pond_opDone {d : OpDone} (h : d.record = false) : (s.opDone u d).pond u = told (s.pond u) d := by
  rw [opDone_of_unrecorded h, pond_addTotals]
  exact pond_modPond_self s u _

theorem opDone_keeps {d : OpDone} (h : d.record = false) {α : Type} (p : State → α)
    (hp : ∀ x ps rs, p { x with ponds := ps, regs := rs } = p x) : p (s.opDone u d) = p s := by
  rw [opDone_of_unrecorded h]
  refine (addTotals_keeps p (fun x rs => hp x x.ponds rs) _ _ _ _).trans ?_
  exact hp s _ s.regs

theorem resting_told {p : Pond} (h : Resting p) (d : OpDone) : Resting (told p d) :=
  ⟨h.mode, h.wait, h.vecQ, h.storeQ, h.xsQ, h.posted, h.faultless⟩

theorem resting_slotFilled {p : Pond} (hmode : p.mode = .run) (hwait : p.wait ≠ .drain) (hA : p.feedA = [])
    (hB : p.feedB = []) (hV : p.vecQ = []) (hS : p.storeQ = []) (hX : p.xsQ = []) (hP : p.posted = []) (k q : Nat)
    (m : MmaOp) : Resting (slotFilled p k q m) := by
  refine ⟨hmode, hwait, hV, hS, hX, hP, ?_, ?_, fun _ he => absurd he List.not_mem_nil⟩
  · exact fun e he => absurd (hA ▸ he : e ∈ []) List.not_mem_nil
  · exact fun e he => absurd (hB ▸ he : e ∈ []) List.not_mem_nil

theorem slotFull_of_single (hw : s.pondWorks u = true) (hr : Resting (slotFilled (s.pond u) k q m))
    (hq : (s.pond u).gridQ = [(q, [m])])
    (hgang : m.gang = false) (hclaimed : m.claimed = [q]) (hfull : m.full = []) (hrecord : m.record = false)
    (hk : (s.pond u).slotFor m q = some k)
    (hsound : ∀ x, s.gridOf u q = some x → (s.healthOf (gridHealth (x / 34) (x % 34))).st ≠ .suspect)
    (r : ShadowResult) :
    ∃ t, s.slotFull u q r = t ∧ t.misuse = s.misuse ∧ (t.pond u).gridQ = []
      ∧ (t.pond u).slots = (slotFilled (s.pond u) k q m).slots := by
  obtain ⟨f, hfill, hpond, hframe⟩ := fillSlot_of_single hq hgang hclaimed hfull hk
  have hdone := pond_opDone (s := f) (u := u) (d := (drained m q).report) hrecord
  have hworks : (f.opDone u (drained m q).report).pondWorks u = true :=
    (opDone_keeps hrecord (State.pondWorks · u) fun _ _ _ => rfl).trans
      ((keeps_of_pondFrame hframe (State.pondWorks · u) fun _ _ => rfl).trans hw)
  have hmisuse : (f.opDone u (drained m q).report).misuse = s.misuse :=
    (opDone_keeps hrecord State.misuse fun _ _ _ => rfl).trans (keeps_of_pondFrame hframe State.misuse fun _ _ => rfl)
  rw [hpond] at hdone
  generalize ht : f.opDone u (drained m q).report = t at hdone hworks hmisuse
  have hresting : Resting (t.pond u) := by
    rw [hdone]
    exact resting_told hr _
  refine ⟨t.pump u, ?_, ?_, ?_, ?_⟩
  · have hgo : (s.pondWorks u && ((s.pond u).filling q).isSome) = true := by
      rw [hw, filling_of_single hq hgang hclaimed hfull]
      rfl
    rw [State.slotFull, if_pos hgo, shadow_of_sound r hsound]
    simp only [hfill, ht]
  · rw [pump_keeps_of_resting hresting hworks State.misuse fun _ _ _ _ => rfl]
    exact hmisuse
  · exact gridQ_of_ticketQ (fed_pump_of_resting hresting hworks).tickets (by rw [hdone]; rfl)
  · have hnone : ∀ x ∈ (t.pond u).mmas, Preloaded x := by
      rw [hdone]
      exact fun x hx => absurd hx List.not_mem_nil
    rw [slots_pump_of_resting hresting hworks hnone, hdone]
    rfl

theorem slotFull_gives {u : PondId} {g : Fin 4} (hw : s.pondWorks u = true)
    (hr : Resting (slotFilled (s.pond u) k g m))
    (hq : (s.pond u).gridQ = [(g.val, [m])]) (hgang : m.gang = false) (hclaimed : m.claimed = [g.val]) (hfull : m.full = [])
    (hrecord : m.record = false) (hk : (s.pond u).slotFor m g = some k)
    (hsound : ∀ x, s.gridOf u g = some x → (s.healthOf (gridHealth (x / 34) (x % 34))).st ≠ .suspect)
    (r : ShadowResult) :
    Gives (.slotFull u g r) s fun t => (t.pond u).gridQ = []
      ∧ (t.pond u).slot k = { (s.pond u).slot k with st := .full, tile := (m.tile g).1 }
      ∧ ∀ j, j ≠ k → (t.pond u).slot j = (s.pond u).slot j := by
  obtain ⟨t, ht, hmisuse, hempty, hslots⟩ :=
    slotFull_of_single (s := s.clean) hw hr hq hgang hclaimed hfull hrecord hk hsound r
  refine gives_of_runU (f := (·.slotFull u g r)) rfl ht hmisuse ?_
  rw [keeping_pond]
  refine ⟨hempty, (slot_of_slots hslots k).trans ?_, fun j hj => (slot_of_slots hslots j).trans ?_⟩
  · exact slot_modSlot_self (s.pond u) k (fullWith (m.tile g).1)
  · exact slot_modSlot_ne (s.pond u) (fullWith (m.tile g).1) hj

end

/-! SLOT_CLAIM. -/

/-- A slot that is claimed for quadrant `q` of an MMA. -/
def claimedSlot (m : MmaOp) (q : Nat) : Slot :=
  { st := .filling, ticket := m.ticket, ofmt := m.ofmt, omx := m.omx, gang := m.gang, quad := if m.gang then q else 0 }

/-- The claims of an MMA: each quadrant with its slot. -/
def claims (p : Pond) (m : MmaOp) (cs : List (Nat × Nat)) : Pond :=
  cs.foldl (fun p c => p.modSlot c.2 fun _ => claimedSlot m c.1) p

theorem slot_claims_of_not_mem (m : MmaOp) {cs : List (Nat × Nat)} {k : Nat} (h : k ∉ cs.map (·.2)) (p : Pond) :
    (claims p m cs).slot k = p.slot k := by
  induction cs generalizing p with
  | nil => rfl
  | cons c r ih =>
    rw [List.map_cons, List.mem_cons, not_or] at h
    exact (ih h.2 _).trans (slot_modSlot_ne p _ h.1)

theorem slot_claims (m : MmaOp) {cs : List (Nat × Nat)} (hd : (cs.map (·.2)).Nodup) {c : Nat × Nat} (hc : c ∈ cs)
    (p : Pond) : (claims p m cs).slot c.2 = claimedSlot m c.1 := by
  induction cs generalizing p with
  | nil => exact absurd hc List.not_mem_nil
  | cons x r ih =>
    rw [List.map_cons, List.nodup_cons] at hd
    rcases List.mem_cons.mp hc with rfl | hr
    · exact (slot_claims_of_not_mem m hd.1 _).trans (slot_modSlot_self p _ _)
    · exact ih hd.2 hr _

theorem freeSlots_nodup (p : Pond) : p.freeSlots.Nodup := List.nodup_range.filter _

/-- A pond with the slots that an MMA of grid `q` claims. -/
def claimedPond (p : Pond) (m : MmaOp) (q : Nat) : Pond :=
  claims (p.modMma m.seq fun x => { x with claimed := mmaGrids m q }) m ((mmaGrids m q).zip p.freeSlots)

theorem claims_frame (m : MmaOp) (cs : List (Nat × Nat)) (p : Pond) : { claims p m cs with slots := p.slots } = p :=
  List.foldlRecOn cs _ (motive := fun r : Pond => { r with slots := p.slots } = p) rfl fun _ hr _ _ => hr

theorem resting_claimedPond {p : Pond} (h : Resting p) (m : MmaOp) (q : Nat) : Resting (claimedPond p m q) := by
  have hmarked : Resting (p.modMma m.seq fun x => { x with claimed := mmaGrids m q }) :=
    resting_of_fed (fed_modMma p _ fun _ => ⟨rfl, rfl, rfl⟩) h
  have hframe := claims_frame m ((mmaGrids m q).zip p.freeSlots) (p.modMma m.seq fun x => { x with claimed := mmaGrids m q })
  rw [← hframe] at hmarked
  exact ⟨hmarked.mode, hmarked.wait, hmarked.vecQ, hmarked.storeQ, hmarked.xsQ, hmarked.posted, hmarked.faultless⟩

theorem preloaded_modMma {p : Pond} (h : ∀ x ∈ p.mmas, Preloaded x) (seq : Nat) {f : MmaOp → MmaOp}
    (hf : ∀ x, Preloaded x → Preloaded (f x)) : ∀ x ∈ (p.modMma seq f).mmas, Preloaded x := by
  intro x hx
  obtain ⟨e, he, hx⟩ := List.mem_flatMap.mp hx
  obtain ⟨e', he', rfl⟩ := List.mem_map.mp he
  obtain ⟨y, hy, rfl⟩ := List.mem_map.mp hx
  have hpre := h y (List.mem_flatMap.mpr ⟨e', he', hy⟩)
  split
  · exact hf y hpre
  · exact hpre

theorem preloaded_claimedPond {p : Pond} (h : ∀ x ∈ p.mmas, Preloaded x) (m : MmaOp) (q : Nat) :
    ∀ x ∈ (claimedPond p m q).mmas, Preloaded x := by
  have hmmas : (claimedPond p m q).mmas = (p.modMma m.seq fun x => { x with claimed := mmaGrids m q }).mmas :=
    (congrArg Pond.mmas (claims_frame m ((mmaGrids m q).zip p.freeSlots)
      (p.modMma m.seq fun x => { x with claimed := mmaGrids m q })) :)
  rw [hmmas]
  exact preloaded_modMma h _ fun _ hx => hx

theorem countGrids_keeps {α : Type} (p : State → α) (hp : ∀ x rs, p { x with regs := rs } = p x) (s : State)
    (u off n : Nat) (qs : List Nat) : p (s.countGrids u off n qs) = p s := by
  unfold State.countGrids
  refine each_keeps p (fun t q => ?_) qs s
  split
  · exact count_keeps p hp t _ n
  · rfl

/-- The slot that serves a grid holds, or holds no more. -/
def holdAt (u : Nat) (on : Bool) (s : State) (k : Nat) : State :=
  match s.gridOf u k with
  | some g => s.modGrid g fun x => { x with held := on }
  | none => s

theorem holdGrids_eq (s : State) (u : Nat) (qs : List Nat) (on : Bool) : s.holdGrids u qs on = s.each qs (holdAt u on) := rfl

theorem holdAt_keeps {α : Type} (p : State → α) (hp : ∀ x gs, p { x with grids := gs } = p x) (u : Nat) (on : Bool)
    (s : State) (k : Nat) : p (holdAt u on s k) = p s := by
  unfold holdAt
  split
  · exact hp s _
  · rfl

theorem holdGrids_keeps {α : Type} (p : State → α) (hp : ∀ x gs, p { x with grids := gs } = p x) (s : State)
    (u : Nat) (qs : List Nat) (on : Bool) : p (s.holdGrids u qs on) = p s := by
  rw [holdGrids_eq]
  exact each_keeps p (holdAt_keeps p hp u on) qs s

theorem held_holdGrids {s : State} {u k g : Nat} {qs : List Nat} (hk : k ∈ qs) (hg : s.gridOf u k = some g) :
    ((s.holdGrids u qs true).grid g).held = true := by
  have hnames (t : State) (j i : Nat) : (holdAt u true t j).gridOf u i = t.gridOf u i :=
    holdAt_keeps (State.gridOf · u i) (fun _ _ => rfl) u true t j
  rw [holdGrids_eq]
  refine each_establishes (P := fun t k => ∀ g, t.gridOf u k = some g → (t.grid g).held = true)
    (fun t k g hg => ?here) (fun t j k hold g hg => ?kept) _ hk g ?name
  case here =>
    rw [hnames] at hg
    simp [holdAt, hg]
  case kept =>
    rw [hnames] at hg
    unfold holdAt
    split
    next =>
      rw [grid_modGrid]
      split
      · rfl
      · exact hold g hg
    next => exact hold g hg
  case name => exact (each_keeps (State.gridOf · u k) (fun t j => hnames t j k) qs s).trans hg

section
variable {s : State} {u q : Nat} {m : MmaOp}

/-- An MMA has claimed its slots. -/
def claimMade (s : State) (u q : Nat) (m : MmaOp) : State :=
  (((s.modPond u (claimedPond · m q)).bump.holdGrids u (mmaGrids m q) false).countGrids u 0x18 (m.steps - m.issued)
    (mmaGrids m q)).countGrids u 0x20 s.free (mmaGrids m q)

/-- An MMA has found too few free slots. -/
def claimFailed (s : State) (u q : Nat) (m : MmaOp) : State :=
  (s.holdGrids u (mmaGrids m q) true).countGrids u 0x28 1 (mmaGrids m q)

theorem claimOne_of_few (hm : (s.pond u).draining q = some m) (hgang : m.gang = true → q = 0)
    (h : (s.pond u).freeSlots.length < (mmaGrids m q).length) : s.claimOne u q = (true, claimFailed s u q m) := by
  have hturn : ¬ (m.gang = true ∧ q ≠ 0) := fun hg => hg.2 (hgang hg.1)
  simp only [State.claimOne, hm, if_neg hturn, if_pos h]
  rfl

theorem claimOne_of_room (hm : (s.pond u).draining q = some m) (hgang : m.gang = true → q = 0)
    (h : (mmaGrids m q).length ≤ (s.pond u).freeSlots.length) : s.claimOne u q = (false, claimMade s u q m) := by
  have hturn : ¬ (m.gang = true ∧ q ≠ 0) := fun hg => hg.2 (hgang hg.1)
  simp only [State.claimOne, hm, if_neg hturn, if_neg (Nat.not_lt.mpr h)]
  rfl

theorem slotClaim_of_one {mask : Nat} {f : Bool} {t : State} (hw : s.pondWorks u = true)
    (hone : (List.range 4).filter (bit mask) = [q]) (h : s.claimOne u q = (f, t)) :
    s.slotClaim u mask = t.when f (·.count (pdKey u 0x88) 1) := by
  unfold State.slotClaim
  rw [if_pos hw, hone]
  simp only [List.foldl_cons, List.foldl_nil, h, Bool.false_or]

theorem claimMade_keeps {α : Type} (p : State → α)
    (hp : ∀ x gs ps rs n, p { x with grids := gs, ponds := ps, regs := rs, freeCtr := n } = p x) :
    p (claimMade s u q m) = p s := by
  have hregs (x : State) (rs : Tbl Word) : p { x with regs := rs } = p x := hp x x.grids x.ponds rs x.freeCtr
  unfold claimMade
  rw [countGrids_keeps p hregs, countGrids_keeps p hregs,
    holdGrids_keeps p fun x gs => hp x gs x.ponds x.regs x.freeCtr]
  exact hp s s.grids _ s.regs _

theorem claimFailed_keeps {α : Type} (p : State → α) (hp : ∀ x gs rs, p { x with grids := gs, regs := rs } = p x) :
    p (claimFailed s u q m) = p s := by
  unfold claimFailed
  rw [countGrids_keeps p fun x rs => hp x x.grids rs, holdGrids_keeps p fun x gs => hp x gs x.regs]

theorem pond_claimMade : (claimMade s u q m).pond u = claimedPond (s.pond u) m q := by
  unfold claimMade
  rw [countGrids_keeps (State.pond · u) fun _ _ => rfl, countGrids_keeps (State.pond · u) fun _ _ => rfl,
    holdGrids_keeps (State.pond · u) fun _ _ => rfl]
  exact pond_modPond_self s u (claimedPond · m q)

variable {mask : Nat} (hw : s.pondWorks u = true) (hr : Resting (s.pond u))
  (hone : (List.range 4).filter (bit mask) = [q]) (hm : (s.pond u).draining q = some m) (hgang : m.gang = true → q = 0)
  (hpre : ∀ x ∈ (s.pond u).mmas, Preloaded x)
include hw hr hone hm hgang hpre

theorem slotClaim_of_room (h : (mmaGrids m q).length ≤ (s.pond u).freeSlots.length) :
    ((s.slotClaim u mask).pump u).misuse = s.misuse
      ∧ (((s.slotClaim u mask).pump u).pond u).slots = (claimedPond (s.pond u) m q).slots := by
  rw [slotClaim_of_one hw hone (claimOne_of_room hm hgang h)]
  have hworks : (claimMade s u q m).pondWorks u = true :=
    (claimMade_keeps (State.pondWorks · u) fun _ _ _ _ _ => rfl).trans hw
  have hresting : Resting ((claimMade s u q m).pond u) := by
    rw [pond_claimMade]
    exact resting_claimedPond hr m q
  have hready : ∀ x ∈ ((claimMade s u q m).pond u).mmas, Preloaded x := by
    rw [pond_claimMade]
    exact preloaded_claimedPond hpre m q
  exact ⟨(pump_keeps_of_resting hresting hworks State.misuse fun _ _ _ _ => rfl).trans
      (claimMade_keeps State.misuse fun _ _ _ _ _ => rfl),
    (slots_pump_of_resting hresting hworks hready).trans (congrArg Pond.slots pond_claimMade)⟩

theorem slotClaim_of_few (h : (s.pond u).freeSlots.length < (mmaGrids m q).length) :
    ((s.slotClaim u mask).pump u).misuse = s.misuse
      ∧ (((s.slotClaim u mask).pump u).pond u).slots = (s.pond u).slots
      ∧ ∀ k ∈ mmaGrids m q, ∀ g, s.gridOf u k = some g → (((s.slotClaim u mask).pump u).grid g).held = true := by
  rw [slotClaim_of_one hw hone (claimOne_of_few hm hgang h)]
  obtain ⟨t, ht⟩ : ∃ t, t = (claimFailed s u q m).count (pdKey u 0x88) 1 := ⟨_, rfl⟩
  have hkeeps {α : Type} (p : State → α) (hp : ∀ x gs rs, p { x with grids := gs, regs := rs } = p x) : p t = p s := by
    rw [ht, count_keeps p fun x rs => hp x x.grids rs]
    exact claimFailed_keeps p hp
  have hpond : t.pond u = s.pond u := hkeeps (State.pond · u) fun _ _ _ => rfl
  have hworks : t.pondWorks u = true := (hkeeps (State.pondWorks · u) fun _ _ _ => rfl).trans hw
  rw [← hpond] at hr hpre
  rw [State.when, if_pos rfl, ← ht]
  refine ⟨(pump_keeps_of_resting hr hworks State.misuse fun _ _ _ _ => rfl).trans (hkeeps State.misuse fun _ _ _ => rfl),
    (slots_pump_of_resting hr hworks hpre).trans (congrArg Pond.slots hpond), fun k hk g hg => ?_⟩
  rw [held_pump_of_resting hr hworks, ht, claimFailed, count_grid,
    countGrids_keeps (fun x => (State.grid x g).held) fun _ _ => rfl]
  exact held_holdGrids hk hg

end

theorem map_snd_zip_take {α β : Type} (l : List α) (r : List β) : (l.zip r).map (·.2) = r.take l.length := by
  induction l generalizing r with
  | nil => rfl
  | cons a l ih =>
    cases r with
    | nil => rfl
    | cons b r => exact congrArg (b :: ·) (ih r)

theorem slot_claimedPond {p : Pond} {m : MmaOp} {q : Nat} {c : Nat × Nat} (hc : c ∈ (mmaGrids m q).zip p.freeSlots) :
    (claimedPond p m q).slot c.2 = claimedSlot m c.1 := by
  refine slot_claims m ?_ hc _
  rw [map_snd_zip_take]
  exact (freeSlots_nodup p).sublist (List.take_sublist _ _)

theorem slot_claimedPond_of_not_mem {p : Pond} {m : MmaOp} {q k : Nat} (h : k ∉ p.freeSlots.take (mmaGrids m q).length) :
    (claimedPond p m q).slot k = p.slot k := by
  refine slot_claims_of_not_mem m ?_ _
  rwa [map_snd_zip_take]

section
variable {s : State} {u : PondId} {grids : Fin 16} {q : Nat} {m : MmaOp} (hw : s.pondWorks u = true)
  (hr : Resting (s.pond u)) (hone : (List.range 4).filter (bit grids) = [q]) (hm : (s.pond u).draining q = some m)
  (hgang : m.gang = true → q = 0) (hpre : ∀ x ∈ (s.pond u).mmas, Preloaded x)
include hw hr hone hm hgang hpre

theorem slotClaim_gives_of_room (h : (mmaGrids m q).length ≤ (s.pond u).freeSlots.length) :
    Gives (.slotClaim u grids) s fun t =>
      (∀ c ∈ (mmaGrids m q).zip (s.pond u).freeSlots, (t.pond u).slot c.2 = claimedSlot m c.1)
        ∧ ∀ k, k ∉ (s.pond u).freeSlots.take (mmaGrids m q).length → (t.pond u).slot k = (s.pond u).slot k := by
  obtain ⟨hmisuse, hslots⟩ := slotClaim_of_room (s := s.clean) hw hr hone hm hgang hpre h
  refine gives_of_runU (f := fun s => (s.slotClaim u grids).pump u) rfl rfl hmisuse ?_
  rw [keeping_pond]
  exact ⟨fun c hc => (slot_of_slots hslots c.2).trans (slot_claimedPond hc),
    fun k hk => (slot_of_slots hslots k).trans (slot_claimedPond_of_not_mem hk)⟩

theorem slotClaim_gives_of_few (h : (s.pond u).freeSlots.length < (mmaGrids m q).length) :
    Gives (.slotClaim u grids) s fun t => (∀ k, (t.pond u).slot k = (s.pond u).slot k)
      ∧ ∀ k ∈ mmaGrids m q, ∀ g, s.gridOf u k = some g → (t.grid g).held = true := by
  obtain ⟨hmisuse, hslots, hheld⟩ := slotClaim_of_few (s := s.clean) hw hr hone hm hgang hpre h
  refine gives_of_runU (f := fun s => (s.slotClaim u grids).pump u) rfl rfl hmisuse ?_
  rw [keeping_pond]
  exact ⟨fun k => slot_of_slots hslots k, hheld⟩

end

end Sys2Proof.Proofs
end

section
/-!
PROOFS. MMA and MMAG at issue (R160, R161, R163).
-/
namespace Sys2Proof.Proofs

open Sys2Proof Sys2Proof.Machine Sys2Proof.Safety Sys2Proof.Laws

/-- The MMA that an instruction makes of a pair of loads. -/
def mmaIssued (p : Pond) (gang : Bool) (w : Word) (a b : Load) : MmaOp :=
  { seq := p.seq, pc := p.pc, gang := gang, mode := w.field 52 4, pre := w.field 48 2, ptb := w.field 45 3
    preTicket := (p.sreg (w.field 40 5)).toNat % 65536, ofmt := w.field 36 4, omx := w.flag 35, record := w.flag 34
    ticket := p.nextTicket, a := a, b := b }

/-- What stands of an MMA in queue `k`, where `q` is the first of its queues: only the first copy holds the operands. -/
def mmaCopy (m : MmaOp) (q k : Nat) : MmaOp := if k = q then m else { m with a := {}, b := {} }

/-- The tickets held once an MMA has taken the next one. -/
def heldAfter (p : Pond) (gang : Bool) (w : Word) : List TicketInfo :=
  (if w.field 48 2 = 2 then (p.unhold ((p.sreg (w.field 40 5)).toNat % 65536)).held else p.held)
    ++ [{ ticket := p.nextTicket, gang := gang, ofmt := w.field 36 4, omx := w.flag 35 }]

/-- A pond whose feeders held one pair of loads, with the MMA made of them queued. -/
def mmaQueued (p : Pond) (gang : Bool) (w : Word) (a b : Load) : Pond :=
  { p with
    feedA := [], feedB := [], nextTicket := (p.nextTicket + 1) % 65536, held := heldAfter p gang w
    gridQ := (mmaQueues gang w).map fun k => (k, [mmaCopy (mmaIssued p gang w a b) ((mmaQueues gang w).headD 0) k]) }

theorem tblGet_single {α : Type} (d : α) (k : Nat) (v : α) : tblGet d [(k, v)] k = v := if_pos rfl

theorem tblSet_single_default {α : Type} [DecidableEq α] (d : α) (k : Nat) (v : α) : tblSet d [(k, v)] k d = [] := by
  simp [tblSet, tblErase]

section
variable {s : State} {u : Nat} {w : Word} {gang : Bool} {a b : Load}

/-- The queues and feeders as the issue of an MMA leaves them. -/
def mmaEntered (p : Pond) (m : MmaOp) (qs : List Nat) : Pond :=
  qs.foldl (fun p k => { p with gridQ := tblSet [] p.gridQ k (p.gridOps k ++ [mmaCopy m (qs.headD 0) k]) })
    { p with feedA := tblSet [] p.feedA (qs.headD 0) [], feedB := tblSet [] p.feedB (qs.headD 0) [] }

theorem mmaEntered_single {p : Pond} {m : MmaOp} {q : Nat} {a b : List Load} (hq : p.gridQ = []) (hA : p.feedA = [(q, a)])
    (hB : p.feedB = [(q, b)]) :
    mmaEntered p m [q] = { p with feedA := [], feedB := [], gridQ := [(q, [m])] } := by
  simp [mmaEntered, hq, hA, hB, tblSet, tblErase, tblInsert, Pond.gridOps, tblGet, mmaCopy]

theorem mmaEntered_gang {p : Pond} {m : MmaOp} {a b : List Load} (hq : p.gridQ = []) (hA : p.feedA = [(0, a)])
    (hB : p.feedB = [(0, b)]) :
    mmaEntered p m [0, 1, 2, 3]
      = { p with feedA := [], feedB := [], gridQ := [0, 1, 2, 3].map fun k => (k, [mmaCopy m 0 k]) } := by
  simp [mmaEntered, hq, hA, hB, tblSet, tblErase, tblInsert, Pond.gridOps, tblGet, mmaCopy]

/-- A pond that has taken the next ticket for an MMA, and has released the ticket that it preloads. -/
def mmaTicketed (p : Pond) (w : Word) : Pond :=
  { (if w.field 48 2 = 2 then p.unhold ((p.sreg (w.field 40 5)).toNat % 65536) else p) with
    nextTicket := (p.nextTicket + 1) % 65536 }

/-- The issue of an MMA as the model composes it. -/
def mmaTaken (p : Pond) (gang : Bool) (w : Word) (a b : Load) : Pond :=
  let r := mmaEntered (mmaTicketed p w) (mmaIssued p gang w a b) (mmaQueues gang w)
  { r with held := r.held ++ [{ ticket := p.nextTicket, gang := gang, ofmt := w.field 36 4, omx := w.flag 35 }] }

theorem mmaTicketed_frame (p : Pond) (w : Word) :
    { mmaTicketed p w with held := p.held, nextTicket := p.nextTicket } = p := by
  unfold mmaTicketed
  split <;> rfl

theorem mmaEntered_ticketed {p : Pond} (hq : p.gridQ = [])
    (hA : p.feedA = [((mmaQueues gang w).headD 0, [a])]) (hB : p.feedB = [((mmaQueues gang w).headD 0, [b])]) (m : MmaOp) :
    mmaEntered (mmaTicketed p w) m (mmaQueues gang w) = { mmaTicketed p w with
      feedA := [], feedB := []
      gridQ := (mmaQueues gang w).map fun k => (k, [mmaCopy m ((mmaQueues gang w).headD 0) k]) } := by
  have hframe := mmaTicketed_frame p w
  have hq' : (mmaTicketed p w).gridQ = [] := (congrArg Pond.gridQ hframe :).trans hq
  have hA' := (congrArg Pond.feedA hframe :).trans hA
  have hB' := (congrArg Pond.feedB hframe :).trans hB
  cases gang with
  | false =>
    refine (mmaEntered_single hq' hA' hB').trans ?_
    simp [mmaQueues, mmaCopy]
  | true => exact mmaEntered_gang hq' hA' hB'

theorem mmaTaken_eq {p : Pond} (hq : p.gridQ = [])
    (hA : p.feedA = [((mmaQueues gang w).headD 0, [a])]) (hB : p.feedB = [((mmaQueues gang w).headD 0, [b])]) :
    mmaTaken p gang w a b = mmaQueued p gang w a b := by
  unfold mmaTaken
  rw [mmaEntered_ticketed hq hA hB]
  unfold mmaTicketed mmaQueued heldAfter
  split <;> rfl

theorem modPond_congr {f g : Pond → Pond} (h : f (s.pond u) = g (s.pond u)) : s.modPond u f = s.modPond u g :=
  congrArg (fun p => ({ s with ponds := tblSet {} s.ponds u p } : State)) h

theorem iMma_eq (hq : (s.pond u).gridQ = []) (hA : (s.pond u).feedA = [((mmaQueues gang w).headD 0, [a])])
    (hB : (s.pond u).feedB = [((mmaQueues gang w).headD 0, [b])]) (hpre : w.field 48 2 ≠ 3)
    (htb : w.field 48 2 = 1 → w.field 45 3 < 6) (hmode : modeAdmits (w.field 52 4) a.operandFmt b.operandFmt = true)
    (hst : mmaStatus (s.pond u) gang w a b = none) :
    iMma gang s u w = (s.modPond u fun p => (mmaQueued p gang w a b).setSreg (w.field 29 5)
      (BitVec.ofNat 64 p.nextTicket)).adv u := by
  have hroom : ¬ ((mmaQueues gang w).any fun k =>
      decide (4 ≤ (((s.pond u).gridOps k).filter fun m => !m.started).length)) = true := by
    simp [Pond.gridOps, hq]
  have hbuffer : ¬ (w.field 48 2 = 1 ∧ badTb (w.field 45 3) = true) := fun ⟨h1, hbad⟩ =>
    absurd (htb h1) (Nat.not_lt.mpr (of_decide_eq_true hbad))
  have hthree : (w.field 48 2 == 3) = false := beq_eq_false_iff_ne.mpr hpre
  have hfeedA : (s.pond u).feeder true ((mmaQueues gang w).headD 0) = [a] :=
    (congrArg (tblGet [] · ((mmaQueues gang w).headD 0)) hA).trans (tblGet_single _ _ _)
  have hfeedB : (s.pond u).feeder false ((mmaQueues gang w).headD 0) = [b] :=
    (congrArg (tblGet [] · ((mmaQueues gang w).headD 0)) hB).trans (tblGet_single _ _ _)
  unfold iMma
  simp only [hthree, undefIf_false, hfeedA, hfeedB, hst, hmode, Bool.not_true]
  rw [if_neg hroom, if_neg hbuffer]
  refine congrArg (State.adv · u) (modPond_congr ?_)
  exact congrArg (Pond.setSreg · (w.field 29 5) (BitVec.ofNat 64 (s.pond u).nextTicket)) (mmaTaken_eq hq hA hB)

end

/-! The sequencer at issue. -/

theorem adv_of_follows {s : State} {u : Nat} (hmode : (s.pond u).mode = .run) (hf : Follows (s.pond u)) :
    s.adv u = s.modPond u onward := by
  obtain ⟨hlt, hknown⟩ := hf
  have hpond : (s.modPond u onward).pond u = onward (s.pond u) := pond_modPond_self s u onward
  have hrun : ((s.modPond u onward).pond u).mode = .run := by
    rw [hpond]
    exact hmode
  have hadv : s.adv u = (s.modPond u onward).settle u := rfl
  rw [hadv, State.settle, if_pos hrun, hpond]
  exact (if_neg (Nat.not_le.mpr hlt)).trans (if_pos hknown)

theorem issueRow_of_atInsn {s : State} {u : Nat} {w : Word} (h : AtInsn s u w) {sel : Word → Bool} (hsel : sel w = true)
    (f : State → Nat → Word → State) : s.issueRow u sel f = (f s u w).pump u := by
  have hgo : (s.mayIssue u .none && sel ((s.pond u).insnAt (s.pond u).pc)) = true := by
    simp [State.mayIssue, h.works, h.mode, h.wait, h.insn, hsel]
  have hjob : ¬ s.jobEnded (s.pondLine u) (s.pond u).cur.job = true := by simp [h.job]
  rw [State.issueRow, if_pos hgo, State.issueWith]
  rw [if_neg hjob, h.insn, h.fields, undefIf_false]

theorem resting_setSreg {p : Pond} (h : Resting p) (r : Nat) (v : Word) : Resting (p.setSreg r v) := by
  unfold Pond.setSreg
  split
  · exact h
  · exact ⟨h.mode, h.wait, h.vecQ, h.storeQ, h.xsQ, h.posted, h.faultless⟩

theorem resting_onward {p : Pond} (h : Resting p) : Resting (onward p) :=
  ⟨h.mode, by simp [onward], h.vecQ, h.storeQ, h.xsQ, h.posted, h.faultless⟩

theorem follows_setSreg {p : Pond} (h : Follows p) (r : Nat) (v : Word) : Follows (p.setSreg r v) := by
  unfold Pond.setSreg
  split <;> exact h

theorem setSreg_frame (p : Pond) (r : Nat) (v : Word) : { p.setSreg r v with sregs := p.sregs } = p := by
  unfold Pond.setSreg
  split <;> rfl

theorem sreg_setSreg_self (p : Pond) (r : Nat) (v : Word) : (p.setSreg r v).sreg r = if r = 0 then 0 else v := by
  unfold Pond.setSreg Pond.sreg
  split
  · rfl
  · exact tblGet_set_self _ _ _ _

theorem tblGet_map {α β : Type} {d : α} (f : α → β) (t : Tbl α) (k : Nat) :
    tblGet (f d) (t.map fun e => (e.1, f e.2)) k = f (tblGet d t k) := by
  induction t with
  | nil => rfl
  | cons e r ih =>
    obtain ⟨j, v⟩ := e
    simp only [List.map_cons, tblGet, ih]
    split <;> rfl

theorem tickets_gridOps (p : Pond) (k : Nat) : (p.gridOps k).map (·.ticket) = tblGet [] (ticketQ p) k :=
  (tblGet_map (d := []) (List.map (·.ticket)) p.gridQ k).symm

theorem tblGet_mmaQueues {α : Type} {d x : α} {gang : Bool} {w : Word} {k : Nat} (h : k ∈ mmaQueues gang w) :
    tblGet d ((mmaQueues gang w).map fun k => (k, x)) k = x := by
  cases gang with
  | false => rw [List.mem_singleton.mp h]; exact tblGet_single d _ x
  | true =>
    have hcases : k = 0 ∨ k = 1 ∨ k = 2 ∨ k = 3 := by simpa [mmaQueues] using h
    rcases hcases with rfl | rfl | rfl | rfl <;> rfl

/-! MMA and MMAG. -/

section
variable {s : State} {u : Nat} {w : Word} {gang : Bool} {a b : Load}

/-- The pond at the instruction after an MMA. -/
def mmaDone (p : Pond) (gang : Bool) (w : Word) (a b : Load) : Pond :=
  onward ((mmaQueued p gang w a b).setSreg (w.field 29 5) (BitVec.ofNat 64 p.nextTicket))

theorem resting_mmaQueued {p : Pond} (hmode : p.mode = .run) (hwait : p.wait = .none) (hV : p.vecQ = [])
    (hS : p.storeQ = []) (hX : p.xsQ = []) (hP : p.posted = []) (ha : a.fault = none) (hb : b.fault = none) :
    Resting (mmaQueued p gang w a b) := by
  have hcopy (q k : Nat) : (mmaCopy (mmaIssued p gang w a b) q k).a.fault = none
      ∧ (mmaCopy (mmaIssued p gang w a b) q k).b.fault = none := by
    unfold mmaCopy
    split
    · exact ⟨ha, hb⟩
    · exact ⟨rfl, rfl⟩
  refine ⟨hmode, ?_, hV, hS, hX, hP, fun _ he => absurd he List.not_mem_nil, fun _ he => absurd he List.not_mem_nil, ?_⟩
  · rw [show (mmaQueued p gang w a b).wait = .none from hwait]
    exact nofun
  · intro e he m hm
    obtain ⟨k, -, rfl⟩ := List.mem_map.mp he
    rw [List.mem_singleton.mp hm]
    exact hcopy _ k

theorem ticketQ_mmaQueued (p : Pond) :
    ticketQ (mmaQueued p gang w a b) = (mmaQueues gang w).map fun k => (k, [p.nextTicket]) := by
  have hticket (q k : Nat) : (mmaCopy (mmaIssued p gang w a b) q k).ticket = p.nextTicket := by
    unfold mmaCopy
    split <;> rfl
  simp [ticketQ, mmaQueued, hticket]

/-- What an MMA leaves of its pond, whatever the engines do next. -/
theorem fed_mmaDone {p t : Pond} (h : Fed (mmaDone p gang w a b) t) :
    t.sreg (w.field 29 5) = (if w.field 29 5 = 0 then 0 else BitVec.ofNat 64 p.nextTicket)
      ∧ t.nextTicket = (p.nextTicket + 1) % 65536 ∧ t.held = heldAfter p gang w
      ∧ (∀ isA q, t.feeder isA q = [])
      ∧ ∀ k ∈ mmaQueues gang w, (t.gridOps k).map (·.ticket) = [p.nextTicket] := by
  have hframe := setSreg_frame (mmaQueued p gang w a b) (w.field 29 5) (BitVec.ofNat 64 p.nextTicket)
  have hA : t.feedA = [] := h.feedA (congrArg Pond.feedA hframe :)
  have hB : t.feedB = [] := h.feedB (congrArg Pond.feedB hframe :)
  refine ⟨?_, ?_, ?_, fun isA q => ?_, fun k hk => ?_⟩
  · have hsregs : t.sregs = (mmaDone p gang w a b).sregs := (congrArg Pond.sregs h.sequencing :)
    have hsreg : t.sreg (w.field 29 5) = (mmaDone p gang w a b).sreg (w.field 29 5) := by rw [Pond.sreg, hsregs]; rfl
    exact hsreg.trans (sreg_setSreg_self _ _ _)
  · exact (congrArg Pond.nextTicket h.sequencing :).trans (congrArg Pond.nextTicket hframe :)
  · exact (congrArg Pond.held h.sequencing :).trans (congrArg Pond.held hframe :)
  · cases isA
    · exact congrArg (tblGet [] · q) hB
    · exact congrArg (tblGet [] · q) hA
  · have htickets : ticketQ (mmaDone p gang w a b) = ticketQ (mmaQueued p gang w a b) := (congrArg ticketQ hframe :)
    rw [tickets_gridOps, h.tickets, htickets, ticketQ_mmaQueued]
    exact tblGet_mmaQueues hk

/-- An MMA has issued: its pond stands at the next instruction. -/
def mmaAdvanced (s : State) (u : Nat) (gang : Bool) (w : Word) (a b : Load) : State :=
  (s.modPond u fun p => (mmaQueued p gang w a b).setSreg (w.field 29 5) (BitVec.ofNat 64 p.nextTicket)).modPond u onward

theorem pond_mmaAdvanced : (mmaAdvanced s u gang w a b).pond u = mmaDone (s.pond u) gang w a b :=
  (pond_modPond_self _ u onward).trans (congrArg onward (pond_modPond_self s u _))

theorem mmaAdvanced_keeps {α : Type} (p : State → α) (hp : ∀ x ps, p { x with ponds := ps } = p x) :
    p (mmaAdvanced s u gang w a b) = p s := (hp _ _).trans (hp s _)

section
variable (h : AtInsn s u w) (hf : Follows (s.pond u)) (hq : (s.pond u).gridQ = []) (hV : (s.pond u).vecQ = [])
  (hS : (s.pond u).storeQ = []) (hX : (s.pond u).xsQ = []) (hP : (s.pond u).posted = [])
  (hA : (s.pond u).feedA = [((mmaQueues gang w).headD 0, [a])]) (hB : (s.pond u).feedB = [((mmaQueues gang w).headD 0, [b])])
  (hpre : w.field 48 2 ≠ 3) (htb : w.field 48 2 = 1 → w.field 45 3 < 6)
  (hmode : modeAdmits (w.field 52 4) a.operandFmt b.operandFmt = true) (hst : mmaStatus (s.pond u) gang w a b = none)
  (ha : a.fault = none) (hb : b.fault = none)
include h hf hq hV hS hX hP hA hB hpre htb hmode hst ha hb

theorem issueRow_iMma {sel : Word → Bool} (hsel : sel w = true) :
    s.issueRow u sel (iMma gang) = (mmaAdvanced s u gang w a b).pump u
      ∧ Resting ((mmaAdvanced s u gang w a b).pond u) ∧ (mmaAdvanced s u gang w a b).pondWorks u = true := by
  have hqueued : (s.modPond u fun p => (mmaQueued p gang w a b).setSreg (w.field 29 5) (BitVec.ofNat 64 p.nextTicket)).pond u
      = (mmaQueued (s.pond u) gang w a b).setSreg (w.field 29 5) (BitVec.ofNat 64 (s.pond u).nextTicket) :=
    pond_modPond_self s u _
  have hrest := resting_setSreg (resting_mmaQueued (gang := gang) (w := w) h.mode h.wait hV hS hX hP ha hb) (w.field 29 5)
    (BitVec.ofNat 64 (s.pond u).nextTicket)
  refine ⟨?_, ?_, (mmaAdvanced_keeps (State.pondWorks · u) fun _ _ => rfl).trans h.works⟩
  · rw [issueRow_of_atInsn h hsel, iMma_eq hq hA hB hpre htb hmode hst, adv_of_follows]
    · rfl
    · rw [hqueued]
      exact hrest.mode
    · rw [hqueued]
      exact follows_setSreg (p := mmaQueued (s.pond u) gang w a b) hf _ _
  · rw [pond_mmaAdvanced]
    exact resting_onward hrest

end

end

section
variable {s : State} {u : PondId} {w : Word} {gang : Bool} {a b : Load}
  (h : AtInsn s u w) (hf : Follows (s.pond u)) (hq : (s.pond u).gridQ = []) (hV : (s.pond u).vecQ = [])
  (hS : (s.pond u).storeQ = []) (hX : (s.pond u).xsQ = []) (hP : (s.pond u).posted = [])
  (hA : (s.pond u).feedA = [((mmaQueues gang w).headD 0, [a])]) (hB : (s.pond u).feedB = [((mmaQueues gang w).headD 0, [b])])
  (hop : w.field 56 8 = if gang then 0x39 else 0x38)
  (hpre : w.field 48 2 ≠ 3) (htb : w.field 48 2 = 1 → w.field 45 3 < 6)
  (hmode : modeAdmits (w.field 52 4) a.operandFmt b.operandFmt = true) (hst : mmaStatus (s.pond u) gang w a b = none)
  (ha : a.fault = none) (hb : b.fault = none)
include h hf hq hV hS hX hP hA hB hop hpre htb hmode hst ha hb

/-- What MMA and MMAG leave, by what the engines keep of the queued MMA. -/
theorem mma_gives : Gives (if gang then .mmag u else .mma u) s fun t =>
    Fed (mmaDone (s.pond u) gang w a b) (t.pond u) ∧ t.mem = s.mem := by
  have hsel : isOp (if gang then 0x39 else 0x38) w = true := beq_iff_eq.mpr hop
  have hexec : exec (if gang then .mmag u else .mma u) s
      = runU (fun s => s.issueRow u (isOp (if gang then 0x39 else 0x38)) (iMma gang)) s := by cases gang <;> rfl
  have hclean : AtInsn s.clean u w := ⟨h.works, h.mode, h.wait, h.insn, h.fields, h.job⟩
  obtain ⟨hissue, hrest, hworks⟩ :=
    issueRow_iMma (s := s.clean) hclean hf hq hV hS hX hP hA hB hpre htb hmode hst ha hb hsel
  have hkeeps {α : Type} (p : State → α) (hp : ∀ x gs ps n, p { x with grids := gs, ponds := ps, freeCtr := n } = p x) :
      p ((mmaAdvanced s.clean u gang w a b).pump u) = p s.clean :=
    (pump_keeps_of_resting hrest hworks p hp).trans (mmaAdvanced_keeps p fun x ps => hp x x.grids ps x.freeCtr)
  have hfed := fed_pump_of_resting hrest hworks
  rw [pond_mmaAdvanced] at hfed
  exact gives_of_runU hexec hissue (hkeeps State.misuse fun _ _ _ _ => rfl) ⟨hfed, hkeeps State.mem fun _ _ _ _ => rfl⟩

end

/-! MatrixInstructions. -/

/-- Settles O15: beside the queues the engines of a pond that rests change nothing but loads, preloads and the starts of
MMAs, so each clause is what its command itself leaves. -/
theorem matrixInstructions : Obligations.MatrixInstructions := by
  unfold Obligations.MatrixInstructions
  intro s u p
  refine ⟨?mma, ?claim, ?full⟩
  case mma =>
    intro w gang a b qs q pre h hf hq hV hS hX hP hA hB hop hpre htb hmode hst ha hb _
    refine gives_mono (mma_gives h hf hq hV hS hX hP hA hB hop hpre htb hmode hst ha hb) fun t ⟨hfed, hmem⟩ => ?_
    obtain ⟨hsreg, hnext, hheld, hfeed, htickets⟩ := fed_mmaDone hfed
    exact ⟨hsreg, hnext, hheld, hfeed true q, hfeed false q, htickets, hmem⟩
  case claim =>
    intro grids q m hone hw hm hgang hmode hwait hfaulty hV hS hX hP hpre qs
    have hr : Resting p := ⟨hmode, hwait, hV, hS, hX, hP, faulty_eq_nil.mp hfaulty⟩
    have hready : ∀ x ∈ p.mmas, Preloaded x := fun x hx => by simpa [Preloaded] using List.all_eq_true.mp hpre x hx
    exact ⟨slotClaim_gives_of_room hw hr hone hm hgang hready, slotClaim_gives_of_few hw hr hone hm hgang hready⟩
  case full =>
    intro g shadow m k hw hmode hwait hA hB hV hS hX hP hq hgang _ hclaimed hfull hrecord hk hsound
    have hr := resting_slotFilled hmode hwait hA hB hV hS hX hP k g m
    exact slotFull_gives hw hr hq hgang hclaimed hfull hrecord hk hsound shadow

end Sys2Proof.Proofs
end

section
/-!
PROOFS. The issue of an instruction at a pond whose engines are empty (R143, R146, R147): what it changes, it changes at
issue, and the engines then have nothing to do.
-/
namespace Sys2Proof.Proofs

open Sys2Proof Sys2Proof.Machine Sys2Proof.Safety Sys2Proof.Laws

/-! One pond. -/

theorem onlyPond_refl (s : State) (u : Nat) : OnlyPond s s u (s.pond u) := ⟨rfl, fun _ _ => rfl, rfl⟩

theorem onlyPond_modPond {s t : State} {u : Nat} {p : Pond} (h : OnlyPond s t u p) (f : Pond → Pond) :
    OnlyPond s (t.modPond u f) u (f p) := by
  obtain ⟨hself, hothers, hrest⟩ := h
  exact ⟨by rw [pond_modPond_self, hself], fun v hv => (pond_modPond_ne t f hv).trans (hothers v hv), hrest⟩

theorem onlyPond_keeping {s t : State} {u : Nat} {p : Pond} (h : OnlyPond s.clean t u p) : OnlyPond s (t.keeping s) u p := by
  obtain ⟨hself, hothers, hrest⟩ := h
  exact ⟨hself, hothers, congrArg (State.keeping · s) hrest⟩

/-- What depends on no pond stays. -/
theorem keeps_of_onlyPond {α : Type} {s t : State} {u : Nat} {q : Pond} (h : OnlyPond s t u q) (p : State → α)
    (hp : ∀ x ps, p { x with ponds := ps } = p x) : p t = p s := keeps_of_pondFrame h.2.2 p hp

/-! A pond that has nothing but its sequencer to go on with. -/

/-- The pond runs a program, waits for no drain, and nothing waits in its engines. -/
structure Quiescent (p : Pond) : Prop where
  mode : p.mode = .run
  wait : p.wait ≠ .drain
  empty : EnginesEmpty p

theorem quiescent_of_atInsn {s : State} {u : Nat} {w : Word} (h : AtInsn s u w) (he : EnginesEmpty (s.pond u)) :
    Quiescent (s.pond u) := ⟨h.mode, by rw [h.wait]; exact nofun, he⟩

theorem quiescent_onward {p : Pond} (h : Quiescent p) : Quiescent (onward p) := by
  obtain ⟨hmode, -, hA, hB, hG, hV, hS, hX, hP⟩ := h
  exact ⟨hmode, nofun, hA, hB, hG, hV, hS, hX, hP⟩

theorem quiescent_setSreg {p : Pond} (h : Quiescent p) (r : Nat) (v : Word) : Quiescent (p.setSreg r v) := by
  unfold Pond.setSreg
  split
  · exact h
  · obtain ⟨hmode, hwait, hA, hB, hG, hV, hS, hX, hP⟩ := h
    exact ⟨hmode, hwait, hA, hB, hG, hV, hS, hX, hP⟩

theorem quiescent_setDesc {p : Pond} (h : Quiescent p) (k : Nat) (d : Desc) : Quiescent (p.setDesc k d) := by
  obtain ⟨hmode, hwait, hA, hB, hG, hV, hS, hX, hP⟩ := h
  exact ⟨hmode, hwait, hA, hB, hG, hV, hS, hX, hP⟩

theorem pump_of_quiescent {s : State} {u : Nat} (h : Quiescent (s.pond u)) : s.pump u = s := pump_of_empty h.empty h.wait h.mode

/-! The row of an instruction. -/

section
variable {c : Instr} {s t : State} {u : Nat} {w : Word} {sel : Word → Bool} {f : State → Nat → Word → State} {q : Pond}

theorem atInsn_clean (h : AtInsn s u w) : AtInsn s.clean u w := ⟨h.works, h.mode, h.wait, h.insn, h.fields, h.job⟩

/-- An instruction by what it leaves once the engines have done what they can. -/
theorem gives_of_issue {P : State → Prop} (hexec : exec c s = runU (fun s => s.issueRow u sel f) s) (h : AtInsn s u w)
    (hsel : sel w = true) (hf : (f s.clean u w).pump u = t) (hm : t.misuse = none) (hP : P (t.keeping s)) :
    Gives c s P :=
  gives_of_runU hexec ((issueRow_of_atInsn (atInsn_clean h) hsel f).trans hf) hm hP

/-- An instruction that leaves its pond still changes nothing else. -/
theorem gives_of_settled (hexec : exec c s = runU (fun s => s.issueRow u sel f) s) (h : AtInsn s u w)
    (hsel : sel w = true) (hf : f s.clean u w = t) (ht : OnlyPond s.clean t u q) (hq : Quiescent q) :
    Gives c s fun r => OnlyPond s r u q := by
  have hquiescent : Quiescent (t.pond u) := ht.1.symm ▸ hq
  refine gives_of_issue hexec h hsel ((congrArg (State.pump · u) hf).trans (pump_of_quiescent hquiescent)) ?_
    (onlyPond_keeping ht)
  exact keeps_of_onlyPond ht State.misuse fun _ _ => rfl

theorem onlyPond_adv (ht : OnlyPond s t u q) (hmode : q.mode = .run) (hfollows : Follows q) :
    OnlyPond s (t.adv u) u (onward q) := by
  obtain ⟨rfl, -⟩ := id ht
  rw [adv_of_follows hmode hfollows]
  exact onlyPond_modPond ht onward

/-- An instruction that completes at issue moves on to the next. -/
theorem gives_of_advance (hexec : exec c s = runU (fun s => s.issueRow u sel f) s) (h : AtInsn s u w)
    (hsel : sel w = true) (hf : f s.clean u w = t.adv u) (ht : OnlyPond s.clean t u q) (hq : Quiescent q)
    (hfollows : Follows q) : Gives c s fun r => OnlyPond s r u (onward q) :=
  gives_of_settled hexec h hsel hf (onlyPond_adv ht hq.mode hfollows) (quiescent_onward hq)

end

/-! NOP, the scalar instructions, AADD and ASET (R148, R155). -/

section
variable {s : State} {u : PondId} {w : Word} (h : AtInsn s u w) (he : EnginesEmpty (s.pond u)) (hf : Follows (s.pond u))
include h he hf

theorem nop_gives (hop : w.field 56 8 = 0x00) : Gives (.nop u) s fun t => OnlyPond s t u (onward (s.pond u)) :=
  gives_of_advance (sel := isOp 0x00) (f := iNop) rfl h (beq_iff_eq.mpr hop) rfl (onlyPond_refl _ _) (quiescent_of_atInsn h he) hf

/-- An instruction whose whole effect is to write a scalar register. -/
theorem gives_of_setSreg {c : Instr} {sel : Word → Bool} {f : State → Nat → Word → State} {r : Nat} {v : Word}
    (hexec : exec c s = runU (fun s => s.issueRow u sel f) s) (hsel : sel w = true)
    (hv : f s.clean u w = (s.clean.modPond u fun p => p.setSreg r v).adv u) :
    Gives c s fun t => OnlyPond s t u (onward ((s.pond u).setSreg r v)) :=
  gives_of_advance hexec h hsel hv (onlyPond_modPond (onlyPond_refl _ _) fun p => p.setSreg r v)
    (quiescent_setSreg (quiescent_of_atInsn h he) r v) (follows_setSreg hf r v)

/-- ADD to SRA, by the row of one of them. -/
theorem alu_gives {c : Instr} {op : Nat} (hexec : exec c s = runU (fun s => s.issueRow u (isOp op) iAlu) s)
    (hop : w.field 56 8 = op) : Gives c s fun t => OnlyPond s t u (onward ((s.pond u).setSreg (w.field 51 5)
      (aluOp op ((s.pond u).sreg (w.field 46 5)) ((s.pond u).sreg (w.field 41 5))))) := by
  subst hop
  exact gives_of_setSreg h he hf hexec (beq_self_eq_true _) (congrArg (State.adv · _) (modPond_congr rfl))

theorem addi_gives (hop : w.field 56 8 = 0x19) : Gives (.addi u) s fun t => OnlyPond s t u
    (onward ((s.pond u).setSreg (w.field 51 5) ((s.pond u).sreg (w.field 46 5) + immOf w))) :=
  gives_of_setSreg (sel := isOp 0x19) (f := iAddi) h he hf rfl (beq_iff_eq.mpr hop)
    (congrArg (State.adv · _) (modPond_congr rfl))

theorem lih_gives (hop : w.field 56 8 = 0x1A) : Gives (.lih u) s fun t => OnlyPond s t u (onward ((s.pond u).setSreg
    (w.field 51 5) (((s.pond u).sreg (w.field 51 5)).withField 32 32 (w.field 0 32)))) :=
  gives_of_setSreg (sel := isOp 0x1A) (f := iLih) h he hf rfl (beq_iff_eq.mpr hop)
    (congrArg (State.adv · _) (modPond_congr rfl))

/-- An instruction whose whole effect is to write a descriptor. -/
theorem gives_of_setDesc {c : Instr} {sel : Word → Bool} {f : State → Nat → Word → State} {k : Nat} {d : Desc}
    (hexec : exec c s = runU (fun s => s.issueRow u sel f) s) (hsel : sel w = true)
    (hd : f s.clean u w = (s.clean.modPond u fun p => p.setDesc k d).adv u) :
    Gives c s fun t => OnlyPond s t u (onward ((s.pond u).setDesc k d)) :=
  gives_of_advance hexec h hsel hd (onlyPond_modPond (onlyPond_refl _ _) fun p => p.setDesc k d)
    (quiescent_setDesc (quiescent_of_atInsn h he) k d) hf

/-- A descriptor that AADD has advanced. -/
def advancedDesc (d : Desc) (a b : Word) : Desc :=
  { d with w0 := d.w0.withField 0 57 (d.base + a.toNat), w2 := d.w2.withField 0 57 (d.scaleBase + b.toNat) }

theorem aadd_gives (hop : w.field 56 8 = 0x21) : Gives (.aadd u) s fun t => OnlyPond s t u
    (onward ((s.pond u).setDesc (w.field 52 4) (advancedDesc ((s.pond u).desc (w.field 52 4))
      ((s.pond u).sreg (w.field 46 5)) ((s.pond u).sreg (w.field 41 5))))) :=
  gives_of_setDesc (sel := isOp 0x21) (f := iAadd) h he hf rfl (beq_iff_eq.mpr hop)
    (congrArg (State.adv · _) (modPond_congr rfl))

theorem aset_gives (hop : w.field 56 8 = 0x22) (hlisted : w.field 48 4 < 8) : Gives (.aset u) s fun t => OnlyPond s t u
    (onward ((s.pond u).setDesc (w.field 52 4)
      (((s.pond u).desc (w.field 52 4)).setField (w.field 48 4) ((s.pond u).sreg (w.field 43 5)).toNat))) :=
  gives_of_setDesc (sel := isOp 0x22) (f := iAset) h he hf rfl (beq_iff_eq.mpr hop)
    ((if_neg (Nat.not_le.mpr hlisted)).trans (congrArg (State.adv · _) (modPond_congr rfl)))

end

/-! The fields of a descriptor that AADD and ASET leave (R151, R155). -/

theorem advancedDesc_fields (d : Desc) (a b : Word) :
    (advancedDesc d a b).base = (d.base + a.toNat) % 2 ^ 57 ∧ (advancedDesc d a b).scaleBase = (d.scaleBase + b.toNat) % 2 ^ 57
      ∧ (advancedDesc d a b).fmt = d.fmt ∧ (advancedDesc d a b).mxdir = d.mxdir ∧ (advancedDesc d a b).w1 = d.w1
      ∧ (advancedDesc d a b).w3 = d.w3 :=
  ⟨field_withField_self _ _ (by decide), field_withField_self _ _ (by decide),
    field_withField_ne _ _ (by decide) (by decide), flag_withField_ne _ _ (by decide) (by decide), rfl, rfl⟩

theorem setField_fields (d : Desc) (v : Nat) {f : Nat} (hf : f < 8) :
    (d.setField f v).base = (if f = 0 then v % 2 ^ 57 else d.base)
      ∧ (d.setField f v).fmt = (if f = 1 then v % 2 ^ 4 else d.fmt)
      ∧ (d.setField f v).mxdir = (if f = 2 then v.testBit 0 else d.mxdir)
      ∧ (d.setField f v).rowStride = (if f = 3 then v % 2 ^ 32 else d.rowStride)
      ∧ (d.setField f v).rows = (if f = 4 then v % 2 ^ 16 else d.rows)
      ∧ (d.setField f v).cols = (if f = 5 then v % 2 ^ 16 else d.cols)
      ∧ (d.setField f v).scaleBase = (if f = 6 then v % 2 ^ 57 else d.scaleBase)
      ∧ (d.setField f v).scaleStride = (if f = 7 then v % 2 ^ 32 else d.scaleStride) := by
  have hflag (x : Word) : (x.withField 61 1 v).flag 61 = v.testBit 0 := by
    rw [Word.flag, toNat_withField x v (by decide), testBit_setBits]
    simp
  interval_cases f <;>
    simp [Desc.setField, Desc.base, Desc.fmt, Desc.mxdir, Desc.rowStride, Desc.rows, Desc.cols, Desc.scaleBase,
      Desc.scaleStride, field_withField_self, field_withField_ne, flag_withField_ne, hflag]

/-- Settles O7: each instruction issues, changes the register or descriptor it names, and moves on; engines that are empty
then have nothing to do. -/
theorem scalarInstructions : Obligations.ScalarInstructions := by
  unfold Obligations.ScalarInstructions
  intro s u w h he hf p op a b sets descr d
  refine ⟨nop_gives h he hf, alu_gives h he hf rfl, alu_gives h he hf rfl, alu_gives h he hf rfl, alu_gives h he hf rfl,
    alu_gives h he hf rfl, alu_gives h he hf rfl, alu_gives h he hf rfl, alu_gives h he hf rfl, alu_gives h he hf rfl,
    addi_gives h he hf, fun hop => ?lih, fun hop => ?aadd, fun hop hlisted => ?aset⟩
  case lih =>
    refine gives_mono (lih_gives h he hf hop) fun t ht => ⟨_, ?_, ?_, ht⟩
    · rw [field_withField_self _ _ (by decide)]
      exact Nat.mod_eq_of_lt (Nat.mod_lt _ (by decide))
    · exact field_withField_ne _ _ (by decide) (by decide)
  case aadd => exact gives_mono (aadd_gives h he hf hop) fun t ht => ⟨_, advancedDesc_fields _ _ _, ht⟩
  case aset => exact gives_mono (aset_gives h he hf hop hlisted) fun t ht => ⟨_, setField_fields _ _ hlisted, ht⟩

end Sys2Proof.Proofs
end

section
/-!
PROOFS. The end of a program whose engines are empty (R180 to R184): it finishes at once, and its pond is idle.
-/
namespace Sys2Proof.Proofs

open Sys2Proof Sys2Proof.Machine Sys2Proof.Safety Sys2Proof.Laws

/-! Engines without loads and MMAs. -/

/-- The feeders and the grid queues of a pond are empty. -/
structure Unfed (p : Pond) : Prop where
  feedA : p.feedA = []
  feedB : p.feedB = []
  gridQ : p.gridQ = []

theorem fillLoads_of_unfed {p : Pond} (h : Unfed p) : p.fillLoads = p := by
  obtain ⟨hA, hB, hG⟩ := h
  cases p
  simp only [Pond.fillLoads] at *
  subst hA hB hG
  rfl

section
variable {s : State} {u : Nat} (h : Unfed (s.pond u))
include h

theorem turn_of_unfed (q : Nat) : s.turn u q = none := by simp [State.turn, Pond.nextMma, Pond.gridOps, h.gridQ]

theorem fill_of_unfed : s.fill u = s := by
  simp [State.fill, State.preloads, fillLoads_of_unfed h, turn_of_unfed h]

theorem detect_of_unfed : s.detect u = s := by
  simp [State.detect, Pond.faulty, Pond.mmas, h.feedA, h.feedB, h.gridQ]

theorem runOn_of_unfed : s.runOn u = s := by
  have hnone (q : Nat) : startNext u s q = s := by
    simp [startNext, State.startable, turn_of_unfed h]
  rw [runOn_eq]
  exact List.foldlRecOn (motive := (· = s)) _ _ rfl fun t ht q _ => ht ▸ hnone q

/-- Without loads and MMAs, a round is what the queues behind the grids do. -/
theorem engineRound_of_unfed : s.engineRound u =
    let (a, s) := s.runVec u
    let (b, s) := s.runStore u
    let (c, s) := s.runXstart u
    let (d, s) := s.runPosted u
    let (e, s) := s.runDrain u
    (a || b || c || d || e, s) := by
  unfold State.engineRound
  rw [fill_of_unfed h, detect_of_unfed h, runOn_of_unfed h]

end

/-- Nothing goes on at a pond whose engines are empty, whether its program runs or is ending. -/
theorem pump_of_engines_empty {s : State} {u : Nat} (hw : s.pondWorks u = true) (he : EnginesEmpty (s.pond u))
    (hwait : (s.pond u).wait ≠ .drain) (hmode : (s.pond u).mode ≠ .idle) : s.pump u = s.tryFinish u := by
  have hgo : (s.pondWorks u && (s.pond u).mode != .idle) = true := by simp [hw, hmode]
  rw [State.pump, if_pos hgo, engineRounds_of_still 63 (engineRound_of_empty he hwait)]

/-! The end of a program. -/

theorem drained_of_empty {p : Pond} (h : EnginesEmpty p) : p.drained = true := by
  simp [Pond.drained, Pond.mmas, Pond.tbLoads, h.feedA, h.feedB, h.gridQ, h.vecQ, h.storeQ, h.xsQ, h.posted]

theorem not_failed_of_works {s : State} {u : Nat} (h : s.pondWorks u = true) : s.lineStOf (u / 8) ≠ .failed := by
  intro hst
  rw [State.pondWorks, hst] at h
  cases h

theorem tryFinish_of_ending {s : State} {u : Nat} (hst : s.lineStOf (u / 8) ≠ .failed) (he : EnginesEmpty (s.pond u))
    (hmode : (s.pond u).mode = .ending) : s.tryFinish u = s.finishProgram u :=
  if_pos ⟨hmode, by simp [drained_of_empty he], hst⟩

/-- A pond whose program has ended with a status, and has yet to finish. -/
def ended (p : Pond) (f : PondEnd) : Pond := { p with mode := .ending, wait := .none, fin := f }

theorem enginesEmpty_ended {p : Pond} (h : EnginesEmpty p) (f : PondEnd) : EnginesEmpty (ended p f) :=
  ⟨h.feedA, h.feedB, h.gridQ, h.vecQ, h.storeQ, h.xsQ, h.posted⟩

/-- The pond has left its program, and its grids hold for it no more. -/
def vacated (s : State) (u : Nat) : State := (s.modPond u Pond.afterProgram).holdGrids u [0, 1, 2, 3] false

/-- What a program that did not end OK reports: PD_FAULT and the interrupt of R417. -/
def faultReported (s : State) (u : Nat) (f : PondEnd) : State :=
  (s.pdFault u f.status f.pc (if f.status = 0x20 ∨ f.status = 0x21 then signVa f.faultVa else 0)).raise (s.pondLine u)
    (0x40 + 8 * s.place (u / 8) + u % 8)

theorem endLaunch_of_bare {s : State} {u : Nat} {la : Launch} (h : la.doneEn = false) (f : PondEnd) :
    s.endLaunch u la none f = s.when (f.status != 0) (faultReported · u f) := by
  simp only [State.endLaunch, h, when_false]
  cases f.status != 0 <;> simp only [when_true, when_false, faultReported]

theorem finishProgram_of_bare {s : State} {u : Nat} (hrec : (s.pond u).recDpa = none) (hdone : (s.pond u).cur.doneEn = false) :
    s.finishProgram u = (vacated s u).when ((s.pond u).fin.status != 0) (faultReported · u (s.pond u).fin) := by
  have hfinish : s.finishProgram u = (vacated s u).endLaunch u (s.pond u).cur (s.pond u).recDpa (s.pond u).fin := rfl
  rw [hfinish, hrec, endLaunch_of_bare hdone]

section
variable (s : State) (u : Nat)

theorem vacated_keeps {α : Type} (p : State → α) (hp : ∀ x ps gs, p { x with ponds := ps, grids := gs } = p x) :
    p (vacated s u) = p s :=
  (holdGrids_keeps p (fun x gs => hp x x.ponds gs) _ _ _ _).trans (hp s _ s.grids)

theorem pond_vacated_self : (vacated s u).pond u = (s.pond u).afterProgram :=
  (holdGrids_keeps (State.pond · u) (fun _ _ => rfl) _ _ _ _).trans (pond_modPond_self s u _)

theorem pond_vacated_ne {v : Nat} (h : v ≠ u) : (vacated s u).pond v = s.pond v :=
  (holdGrids_keeps (State.pond · v) (fun _ _ => rfl) _ _ _ _).trans (pond_modPond_ne s _ h)

/-- A grid keeps its record, but that it may hold no more. -/
theorem grid_vacated (g : Nat) :
    (vacated s u).grid g = s.grid g ∨ (vacated s u).grid g = { s.grid g with held := false } := by
  rw [vacated, holdGrids_eq]
  refine List.foldlRecOn (motive := fun t => State.grid t g = s.grid g ∨ State.grid t g = { s.grid g with held := false })
    [0, 1, 2, 3] (holdAt u false) (.inl rfl) fun t ht k _ => ?_
  unfold holdAt
  split
  next x _ =>
    rw [grid_modGrid]
    split
    next hx =>
      subst hx
      rcases ht with ht | ht
      · exact .inr (by rw [ht])
      · exact .inr (by rw [ht])
    next => exact ht
  next => exact ht

end

/-- A program whose end needs no record and no DONE add, and that ends OK, leaves its pond. -/
theorem finishProgram_of_ended {s : State} {u : Nat} {p : Pond} {f : PondEnd} (h : s.pond u = ended p f)
    (hrec : p.recDpa = none) (hdone : p.cur.doneEn = false) :
    s.finishProgram u = (vacated s u).when (f.status != 0) (faultReported · u f) := by
  rw [finishProgram_of_bare (by rw [h]; exact hrec) (by rw [h]; exact hdone), h]
  rfl

end Sys2Proof.Proofs
end

section
/-!
PROOFS. BR, LOOP, WAIT, SWAIT and END (R148 to R150, R170, R180).
-/
namespace Sys2Proof.Proofs

open Sys2Proof Sys2Proof.Machine Sys2Proof.Safety Sys2Proof.Laws

/-! BR (R148, R149). -/

/-- The condition `c` of a BR holds of its registers. -/
def BrHolds (c : Nat) (a b : Word) : Prop :=
  c = 0 ∨ (c = 1 ∧ a = b) ∨ (c = 2 ∧ a ≠ b) ∨ (c = 3 ∧ a.toInt < b.toInt) ∨ (c = 4 ∧ b.toInt ≤ a.toInt)
    ∨ (c = 5 ∧ a.toNat < b.toNat) ∨ (c = 6 ∧ b.toNat ≤ a.toNat)

theorem brTaken_of_holds {c : Nat} {a b : Word} (h : BrHolds c a b) : brTaken c a b = some true := by
  rcases h with rfl | ⟨rfl, h⟩ | ⟨rfl, h⟩ | ⟨rfl, h⟩ | ⟨rfl, h⟩ | ⟨rfl, h⟩ | ⟨rfl, h⟩ <;> simp_all [brTaken]

theorem brTaken_of_not {c : Nat} {a b : Word} (hc : c < 7) (h : ¬ BrHolds c a b) : brTaken c a b = some false := by
  interval_cases c <;> simp_all [brTaken, BrHolds]

theorem settle_of_known {s : State} {u : Nat} (hmode : (s.pond u).mode = .run) (hlt : (s.pond u).pc < 8192)
    (hknown : knownOpcode (((s.pond u).insnAt (s.pond u).pc).field 56 8) = true) : s.settle u = s := by
  rw [State.settle, if_pos hmode]
  exact (if_neg (Nat.not_le.mpr hlt)).trans (if_pos hknown)

/-- The pond goes on at `pc` with other loops. -/
def jumped (p : Pond) (pc : Nat) (loops : List LoopFrame) : Pond :=
  { p with pc := pc, loops := loops, wait := .none, seq := p.seq + 1 }

theorem quiescent_jumped {p : Pond} (h : Quiescent p) (pc : Nat) (loops : List LoopFrame) : Quiescent (jumped p pc loops) := by
  obtain ⟨hmode, -, hA, hB, hG, hV, hS, hX, hP⟩ := h
  exact ⟨hmode, nofun, hA, hB, hG, hV, hS, hX, hP⟩

section
variable {s : State} {u : PondId} {w : Word} (h : AtInsn s u w) (he : EnginesEmpty (s.pond u))
include h he

/-- An instruction that goes on at `pc`. -/
theorem gives_of_jump {c : Instr} {sel : Word → Bool} {f : State → Nat → Word → State} {pc : Nat} {loops : List LoopFrame}
    (hexec : exec c s = runU (fun s => s.issueRow u sel f) s) (hsel : sel w = true)
    (hf : f s.clean u w = (s.clean.modPond u fun p => jumped p pc loops).settle u) (hlt : pc < 8192)
    (hknown : knownOpcode (((s.pond u).insnAt pc).field 56 8) = true) :
    Gives c s fun t => OnlyPond s t u (jumped (s.pond u) pc loops) := by
  have hpond : (s.clean.modPond u fun p => jumped p pc loops).pond u = jumped (s.pond u) pc loops :=
    pond_modPond_self s.clean u _
  refine gives_of_settled hexec h hsel (hf.trans (settle_of_known ?_ ?_ ?_)) (onlyPond_modPond (onlyPond_refl _ _) fun p =>
    jumped p pc loops) (quiescent_jumped (quiescent_of_atInsn h he) _ _)
  · rw [hpond]
    exact h.mode
  · rw [hpond]
    exact hlt
  · rw [hpond]
    exact hknown

theorem br_gives_of_taken (hop : w.field 56 8 = 0x02)
    (htaken : BrHolds (w.field 52 4) ((s.pond u).sreg (w.field 47 5)) ((s.pond u).sreg (w.field 42 5)))
    (hout : (s.pond u).entersLoop (w.field 0 13) = false)
    (hknown : knownOpcode (((s.pond u).insnAt (w.field 0 13)).field 56 8) = true) :
    Gives (.br u) s fun t =>
      OnlyPond s t u (jumped (s.pond u) (w.field 0 13) (keepLoops (s.pond u).loops (w.field 0 13))) := by
  have hbr : iBr s.clean u w = (s.clean.modPond u fun p =>
      jumped p (w.field 0 13) (keepLoops (s.pond u).loops (w.field 0 13))).settle u := by
    have htaken' : brTaken (w.field 52 4) ((s.clean.pond u).sreg (w.field 47 5)) ((s.clean.pond u).sreg (w.field 42 5))
        = some true := brTaken_of_holds htaken
    have hout' : (s.clean.pond u).entersLoop (w.field 0 13) = false := hout
    simp only [iBr, htaken', hout', undefIf_false]
    exact congrArg (State.settle · _) (modPond_congr rfl)
  exact gives_of_jump (sel := isOp 0x02) (f := iBr) h he rfl (beq_iff_eq.mpr hop) hbr (Nat.mod_lt _ (by decide)) hknown

theorem br_gives_of_not (hop : w.field 56 8 = 0x02) (hc : w.field 52 4 < 7)
    (hnot : ¬ BrHolds (w.field 52 4) ((s.pond u).sreg (w.field 47 5)) ((s.pond u).sreg (w.field 42 5)))
    (hf : Follows (s.pond u)) : Gives (.br u) s fun t => OnlyPond s t u (onward (s.pond u)) := by
  have hbr : iBr s.clean u w = s.clean.adv u := by
    have hnot' : brTaken (w.field 52 4) ((s.clean.pond u).sreg (w.field 47 5)) ((s.clean.pond u).sreg (w.field 42 5))
        = some false := brTaken_of_not hc hnot
    simp only [iBr, hnot']
  exact gives_of_advance (sel := isOp 0x02) (f := iBr) rfl h (beq_iff_eq.mpr hop) hbr (onlyPond_refl _ _)
    (quiescent_of_atInsn h he) hf

/-! LOOP (R149). -/

/-- The passes that a LOOP names. -/
def loopCount (p : Pond) (w : Word) : Nat := if w.flag 55 then (p.sreg (w.field 50 5)).field 0 32 else w.field 16 16

variable (hbody : (s.pond u).pc < w.field 0 13) (hroom : (s.pond u).loops.length < 4)
include hbody hroom

omit h he in
theorem iLoop_of_body : iLoop s.clean u w =
    if loopCount (s.pond u) w = 0 then (s.clean.modPond u fun p => { p with pc := w.field 0 13 }).adv u
    else (s.clean.modPond u fun p => jumped p ((s.pond u).pc + 1)
      ({ first := (s.pond u).pc + 1, last := w.field 0 13, left := loopCount (s.pond u) w - 1 } :: (s.pond u).loops)).settle u := by
  have hlast : ¬ w.field 0 13 ≤ (s.clean.pond u).pc := Nat.not_le.mpr hbody
  have hdepth : ¬ 4 ≤ (s.clean.pond u).loops.length := Nat.not_le.mpr hroom
  unfold iLoop
  extract_lets p last n
  rw [if_neg hlast, if_neg hdepth]
  refine if_congr Iff.rfl rfl (congrArg (State.settle · _) (modPond_congr rfl))

theorem loop_gives_of_passes (hop : w.field 56 8 = 0x03) (hn : 0 < loopCount (s.pond u) w)
    (hknown : knownOpcode (((s.pond u).insnAt ((s.pond u).pc + 1)).field 56 8) = true) :
    Gives (.loop u) s fun t => OnlyPond s t u (jumped (s.pond u) ((s.pond u).pc + 1)
      ({ first := (s.pond u).pc + 1, last := w.field 0 13, left := loopCount (s.pond u) w - 1 } :: (s.pond u).loops)) := by
  have hlt : w.field 0 13 < 8192 := Nat.mod_lt _ (by decide)
  have hloop := (iLoop_of_body hbody hroom).trans (if_neg (Nat.pos_iff_ne_zero.mp hn))
  exact gives_of_jump (sel := isOp 0x03) (f := iLoop) h he rfl (beq_iff_eq.mpr hop) hloop (by omega) hknown

theorem loop_gives_of_none (hop : w.field 56 8 = 0x03) (hn : loopCount (s.pond u) w = 0)
    (hf : Follows { s.pond u with pc := w.field 0 13 }) :
    Gives (.loop u) s fun t => OnlyPond s t u (onward { s.pond u with pc := w.field 0 13 }) := by
  obtain ⟨hmode, hwait, hA, hB, hG, hV, hS, hX, hP⟩ := quiescent_of_atInsn h he
  exact gives_of_advance (sel := isOp 0x03) (f := iLoop) rfl h (beq_iff_eq.mpr hop)
    ((iLoop_of_body hbody hroom).trans (if_pos hn))
    (onlyPond_modPond (onlyPond_refl _ _) fun p => { p with pc := w.field 0 13 }) ⟨hmode, hwait, hA, hB, hG, hV, hS, hX, hP⟩ hf

end

/-! WAIT and SWAIT (R145, R150, R170, R171). -/

/-- A pond whose old-or-new choices of loads are those that `t` lists. -/
def staled (p : Pond) (t : Tbl StaleGranule) : Pond := { p with stale := t }

theorem quiescent_staled {p : Pond} (h : Quiescent p) (t : Tbl StaleGranule) : Quiescent (staled p t) := by
  obtain ⟨hmode, hwait, hA, hB, hG, hV, hS, hX, hP⟩ := h
  exact ⟨hmode, hwait, hA, hB, hG, hV, hS, hX, hP⟩

/-- The choices that stay open after a satisfied SWAIT: those of granules that still hold the program's last store. -/
def freshStale (s : State) (u : Nat) : Tbl StaleGranule :=
  (s.pond u).stale.filter fun e => decide (s.granule e.1 = e.2.last)

theorem classesDone_of_empty {p : Pond} (h : EnginesEmpty p) (m : Nat) : p.classesDone m = true := by
  simp [Pond.classesDone, Pond.gridOps, Pond.tbLoads, Pond.faulty, Pond.mmas, h.feedA, h.feedB, h.gridQ, h.vecQ, h.storeQ,
    h.xsQ]

theorem waitOver_eq (s : State) (u m : Nat) :
    s.waitOver u m = (s.modPond u fun p => staled p (if bit m 5 then [] else p.stale)).adv u := rfl

theorem bit_field_low (w : Word) {k n : Nat} (h : k < n) : bit (w.field 0 n) k = w.flag k := by
  rw [bit, Word.field, testBit_bits, Nat.zero_add, Word.flag]
  simp [h]

theorem counterTouch_of_quiet {s : State} {l i : Nat} (h : ∀ a, s.counterDpa l i = some a → Quiet s (a / 64)) :
    s.counterTouch l i = s := by
  unfold State.counterTouch
  split
  next a ha => exact mergeBase_of_quiet (h a ha) _
  next => rfl

/-- The counter and the value that an SWAIT names. -/
def swaitCtr (p : Pond) (w : Word) : Nat := if w.flag 55 then (p.sreg (w.field 50 5)).toNat else w.field 35 15
def swaitVal (p : Pond) (w : Word) : Nat := if w.flag 34 then (p.sreg (w.field 29 5)).toNat else w.field 0 28

/-- A pond that waits for a counter. -/
def awaiting (p : Pond) (ctr val now : Nat) : Pond := { p with wait := .sync ctr val, waitFrom := now }

/-- The test of a counter at an SWAIT. -/
def swaitTest (s : State) (u ctr val : Nat) : State :=
  if s.counterReached (s.pondLine u) ctr val then (s.acquire u).adv u else s.modPond u (awaiting · ctr val s.time)

theorem iSwait_of_quiet {s : State} {u : Nat} {w : Word}
    (hctr : swaitCtr (s.pond u) w < 4096 * (s.members (s.pondLine u)).length)
    (hquiet : ∀ a, s.counterDpa (s.pondLine u) (swaitCtr (s.pond u) w) = some a → Quiet s (a / 64)) :
    iSwait s u w =
      if s.counterReached (s.pondLine u) (swaitCtr (s.pond u) w) (swaitVal (s.pond u) w) then (s.acquire u).adv u
      else s.modPond u (awaiting · (swaitCtr (s.pond u) w) (swaitVal (s.pond u) w) s.time) := by
  have hin : ¬ s.counterOut u (swaitCtr (s.pond u) w) = true := by simpa [State.counterOut] using hctr
  have hissue : iSwait s u w = if s.counterOut u (swaitCtr (s.pond u) w) then s.fail u 0x18
      else swaitTest (s.counterTouch (s.pondLine u) (swaitCtr (s.pond u) w)) u (swaitCtr (s.pond u) w)
        (swaitVal (s.pond u) w) := rfl
  rw [hissue, if_neg hin, counterTouch_of_quiet hquiet]
  rfl

section
variable {s : State} {u : PondId} {w : Word} (h : AtInsn s u w) (he : EnginesEmpty (s.pond u))
include h he

theorem wait_gives (hop : w.field 56 8 = 0x04) (hf : Follows (s.pond u)) :
    Gives (.wait u) s fun t =>
      OnlyPond s t u (onward (staled (s.pond u) (if w.flag 5 then [] else (s.pond u).stale))) := by
  have hwait : iWait s.clean u w
      = (s.clean.modPond u fun p => staled p (if w.flag 5 then [] else p.stale)).adv u := by
    rw [iWait, if_pos (classesDone_of_empty (p := s.clean.pond u) he _), waitOver_eq, bit_field_low w (by decide)]
  exact gives_of_advance (sel := isOp 0x04) (f := iWait) rfl h (beq_iff_eq.mpr hop) hwait
    (onlyPond_modPond (onlyPond_refl _ _) fun p => staled p (if w.flag 5 then [] else p.stale))
    (quiescent_staled (quiescent_of_atInsn h he) _) hf

variable (hop : w.field 56 8 = 0x61) (hctr : swaitCtr (s.pond u) w < 4096 * (s.members (s.pondLine u)).length)
  (hquiet : ∀ a, s.counterDpa (s.pondLine u) (swaitCtr (s.pond u) w) = some a → Quiet s (a / 64))
include hop hctr hquiet

omit h he hop in
theorem iSwait_clean : iSwait s.clean u w =
    if s.counterReached (s.pondLine u) (swaitCtr (s.pond u) w) (swaitVal (s.pond u) w) then (s.clean.acquire u).adv u
    else s.clean.modPond u (awaiting · (swaitCtr (s.pond u) w) (swaitVal (s.pond u) w) s.time) :=
  iSwait_of_quiet (s := s.clean) hctr fun a ha =>
    have hq := hquiet a ha
    ⟨hq.txn, hq.moving, hq.waits, hq.errs⟩

theorem swait_gives_of_reached (hreached : s.counterReached (s.pondLine u) (swaitCtr (s.pond u) w)
    (swaitVal (s.pond u) w) = true) (hf : Follows (s.pond u)) :
    Gives (.swait u) s fun t => OnlyPond s t u (onward (staled (s.pond u) (freshStale s u))) :=
  gives_of_advance (sel := isOp 0x61) (f := iSwait) rfl h (beq_iff_eq.mpr hop)
    ((iSwait_clean hctr hquiet).trans (if_pos hreached))
    (onlyPond_modPond (onlyPond_refl _ _) (staled · (freshStale s u))) (quiescent_staled (quiescent_of_atInsn h he) _) hf

theorem swait_gives_of_short (hshort : s.counterReached (s.pondLine u) (swaitCtr (s.pond u) w)
    (swaitVal (s.pond u) w) = false) :
    Gives (.swait u) s fun t =>
      OnlyPond s t u (awaiting (s.pond u) (swaitCtr (s.pond u) w) (swaitVal (s.pond u) w) s.time) := by
  have hnot : ¬ s.counterReached (s.pondLine u) (swaitCtr (s.pond u) w) (swaitVal (s.pond u) w) = true := by
    rw [hshort]
    exact Bool.false_ne_true
  exact gives_of_settled (sel := isOp 0x61) (f := iSwait) rfl h (beq_iff_eq.mpr hop)
    ((iSwait_clean hctr hquiet).trans (if_neg hnot)) (onlyPond_modPond (onlyPond_refl _ _) _)
    ⟨h.mode, nofun, he.feedA, he.feedB, he.gridQ, he.vecQ, he.storeQ, he.xsQ, he.posted⟩

end

/-! END (R180). -/

theorem endProgram_gives {s : State} {u : PondId} {w : Word} (h : AtInsn s u w) (he : EnginesEmpty (s.pond u))
    (hop : w.field 56 8 = 0x01) (hrec : (s.pond u).recDpa = none) (hdone : (s.pond u).cur.doneEn = false) :
    Gives (.endProgram u) s fun t => t.pond u = (s.pond u).afterProgram ∧ (∀ v, v ≠ u.val → t.pond v = s.pond v)
      ∧ { t with ponds := s.ponds, grids := s.grids } = s
      ∧ ∀ g, t.grid g = s.grid g ∨ t.grid g = { s.grid g with held := false } := by
  obtain ⟨f, hstatus, hend⟩ : ∃ f : PondEnd, f.status = 0 ∧ iEnd s.clean u w = s.clean.modPond u fun p => ended p f :=
    ⟨_, rfl, modPond_congr (if_pos h.mode)⟩
  have hpond : (s.clean.modPond u fun p => ended p f).pond u = ended (s.pond u) f := pond_modPond_self s.clean u _
  have hempty : EnginesEmpty ((s.clean.modPond u fun p => ended p f).pond u) := by
    rw [hpond]
    exact enginesEmpty_ended he f
  have hpump : (iEnd s.clean u w).pump u = vacated (s.clean.modPond u fun p => ended p f) u := by
    rw [hend, pump_of_engines_empty (s := s.clean.modPond u fun p => ended p f) h.works hempty (by rw [hpond]; exact nofun)
      (by rw [hpond]; exact nofun), tryFinish_of_ending (s := s.clean.modPond u fun p => ended p f) (not_failed_of_works h.works) hempty (by rw [hpond]; rfl),
      finishProgram_of_ended hpond hrec hdone, hstatus]
    rfl
  refine gives_of_issue (sel := isOp 0x01) rfl h (beq_iff_eq.mpr hop) hpump ?_ ⟨?_, fun v hv => ?_, ?_, fun g => ?_⟩
  · exact vacated_keeps _ u State.misuse fun _ _ _ => rfl
  · rw [keeping_pond, pond_vacated_self, hpond]
    rfl
  · rw [keeping_pond, pond_vacated_ne _ u hv]
    exact pond_modPond_ne s.clean _ hv
  · exact congrArg (State.keeping · s)
      (vacated_keeps _ u (fun t => ({ t with ponds := s.ponds, grids := s.grids } : State)) fun _ _ _ => rfl)
  · exact grid_vacated _ u g

/-- Settles O8: a branch, a loop or a wait moves the sequencer and changes nothing else, and a program that ends with empty
engines leaves its pond in the same step. -/
theorem controlInstructions : Obligations.ControlInstructions := by
  unfold Obligations.ControlInstructions
  intro s u w h he p op c a b taken last n ctr val still fresh
  refine ⟨br_gives_of_taken h he, br_gives_of_not h he, fun hop hbody hroom hn => loop_gives_of_passes h he hbody hroom hop hn,
    fun hop hbody hroom hn => loop_gives_of_none h he hbody hroom hop hn, wait_gives h he,
    fun hop hctr hreached hstill => swait_gives_of_reached h he hop hctr hstill hreached,
    fun hop hctr hshort hstill => swait_gives_of_short h he hop hctr hstill hshort, fun hop hrec hdone => ?_⟩
  exact gives_mono (endProgram_gives h he hop hrec hdone) fun t ⟨hpond, hothers, hrest, hgrids⟩ =>
    ⟨hpond, rfl, hothers, hrest, hgrids⟩

end Sys2Proof.Proofs
end

section
/-!
PROOFS. A write of bytes within one granule of a Line's memory (R228, R295): the bytes stand there afterwards, and every
other byte is what it was.
-/
namespace Sys2Proof.Proofs

open Sys2Proof Sys2Proof.Machine Sys2Proof.Safety Sys2Proof.Laws

/-! The bytes of numbers and words (R6). -/

@[simp] theorem leBytes_length (k n : Nat) : (leBytes k n).length = k := by
  induction k generalizing n with
  | zero => rfl
  | succ k ih => simp [leBytes, ih]

theorem leNat_leBytes (k n : Nat) : leNat (leBytes k n) = n % 256 ^ k := by
  induction k generalizing n with
  | zero => simp [leBytes, leNat, Nat.mod_one]
  | succ k ih =>
    rw [leBytes, leNat, ih, BitVec.toNat_ofNat, Nat.pow_succ' (n := k) (m := 256)]
    exact (Nat.mod_mul (x := n) (a := 256) (b := 256 ^ k)).symm

theorem leNat_leBytes_word (w : Word) : BitVec.ofNat 64 (leNat (leBytes 8 w.toNat)) = w := by
  rw [leNat_leBytes, Nat.mod_eq_of_lt (by norm_num; exact w.isLt), BitVec.ofNat_toNat, BitVec.setWidth_eq]

@[simp] theorem wordBytes_length (ws : List Word) : (wordBytes ws).length = 8 * ws.length := by
  induction ws with
  | nil => rfl
  | cons w ws ih =>
    rw [wordBytes, List.flatMap_cons, List.length_append, leBytes_length, List.length_cons]
    unfold wordBytes at ih
    omega

theorem wordBytes_getD (ws : List Word) (i : Nat) {j : Nat} (hj : j < 8) :
    (wordBytes ws).getD (8 * i + j) 0 = (leBytes 8 (ws.getD i 0).toNat).getD j 0 := by
  have hzero : (leBytes 8 (0 : Word).toNat).getD j 0 = 0 := by interval_cases j <;> rfl
  induction ws generalizing i with
  | nil => simpa [wordBytes] using hzero.symm
  | cons w ws ih =>
    have hcons : wordBytes (w :: ws) = leBytes 8 w.toNat ++ wordBytes ws := rfl
    rw [hcons]
    cases i with
    | zero =>
      rw [List.getD_append _ _ _ _ (by simpa using hj)]
      simp
    | succ i =>
      rw [List.getD_append_right _ _ _ _ (by rw [leBytes_length]; omega), leBytes_length,
        show 8 * (i + 1) + j - 8 = 8 * i + j by omega, ih]
      simp

/-! A granule with bytes written over some of its own. -/

/-- `old` with `data` written over it from offset `off`. -/
def spliced (old : List Byte) (off : Nat) (data : List Byte) : List Byte :=
  old.take off ++ data ++ old.drop (off + data.length)

section
variable {old data : List Byte} {off : Nat} (hold : old.length = 64) (hfit : off + data.length ≤ 64)
include hold hfit

theorem spliced_length : (spliced old off data).length = 64 := by
  simp only [spliced, List.length_append, List.length_take, List.length_drop]
  omega

theorem spliced_inside {i : Nat} (hi : i < data.length) : (spliced old off data).getD (off + i) 0 = data.getD i 0 := by
  have hoff : (old.take off).length = off := by rw [List.length_take]; omega
  unfold spliced
  rw [List.append_assoc, List.getD_append_right _ _ _ _ (by omega), hoff, Nat.add_sub_cancel_left,
    List.getD_append _ _ _ _ hi]

theorem spliced_outside {k : Nat} (hk : k < off ∨ off + data.length ≤ k) :
    (spliced old off data).getD k 0 = old.getD k 0 := by
  have hoff : (old.take off).length = off := by rw [List.length_take]; omega
  unfold spliced
  rcases hk with hk | hk
  · rw [List.append_assoc, List.getD_append _ _ _ _ (by omega)]
    simp [List.getD_eq_getElem?_getD, hk]
  · rw [List.getD_append_right _ _ _ _ (by rw [List.length_append]; omega), List.length_append, hoff]
    simp only [List.getD_eq_getElem?_getD, List.getElem?_drop]
    rw [show off + data.length + (k - (off + data.length)) = k by omega]

end

/-- What stands in memory after bytes were written at `a`, with nothing else changed. -/
structure Stored (s t : State) (a : Nat) (data : List Byte) : Prop where
  frame : unwritten t = unwritten s
  inside : ∀ i < data.length, seen t (a + i) = data.getD i 0
  outside : SeenOutside s t a data.length
  length : ∀ g < 2 ^ 46, (s.granule g).1.length = 64 → (t.granule g).1.length = 64
  quiet : ∀ g, Quiet s g → Quiet t g

theorem quiet_putGranule {s : State} {g : Nat} (hq : Quiet s g) (d : List Byte) (p : Bool) :
    Quiet ((s.dropCopies g).putGranule g d p) g :=
  ⟨hq.txn, movingData_dropCopies_self hq.moving, hq.waits, tblGet_erase_self _ _ _⟩

section
variable {s : State} {a : Nat} {data : List Byte} (hq : Quiet s (a / 64)) (hgood : s.onFailed a = none)
  (hlen : (s.granule (a / 64)).1.length = 64) (hfit : a % 64 + data.length ≤ 64)
include hq hgood hlen hfit

/-- A write at the home of a quiet granule drops its copies and writes it. -/
theorem storeHome_of_quiet (p : Bool) : ∃ q, s.storeHome a data p
    = (s.dropCopies (a / 64)).putGranule (a / 64) (spliced (s.granule (a / 64)).1 (a % 64) data) q := by
  have hwrite : ∃ q, s.writeNow a data p
      = (s.dropCopies (a / 64)).putGranule (a / 64) (spliced (s.granule (a / 64)).1 (a % 64) data) q := by
    unfold State.writeNow
    simp only [hgood]
    split
    next hwhole =>
      refine ⟨p, ?_⟩
      rw [spliced, show a % 64 = 0 by omega, hwhole, List.drop_eq_nil_of_le (by omega)]
      simp
    next => exact ⟨_, by rw [eccRead_of_no_error hq.errs, ite_self]; rfl⟩
  obtain ⟨q, hwrite⟩ := hwrite
  exact ⟨q, by rw [State.storeHome, settleLine_of_quiet hq, hwrite, serveLine_dropCopies hq]⟩

theorem stored_storeHome (p : Bool) : Stored s (s.storeHome a data p) a data := by
  obtain ⟨q, heq⟩ := storeHome_of_quiet hq hgood hlen hfit p
  obtain ⟨frame, here, there, quiet⟩ := rewrites_putGranule q (spliced_length hlen hfit) hq
  rw [heq]
  refine ⟨frame, fun i hi => ?_, fun x hx hout => ?_, fun g hg hold => ?_, fun g hqg => ?_⟩
  · rw [seen, show (a + i) / 64 = a / 64 by omega, here, show (a + i) % 64 = a % 64 + i by omega, spliced_inside hlen hfit hi]
  · by_cases hg : x / 64 = a / 64
    · rw [seen, hg, here, spliced_outside hlen hfit (by omega), seen, hg]
    · rw [seen, there _ (by omega) hg, seen]
  · by_cases hga : g = a / 64
    · rw [hga, here, spliced_length hlen hfit]
    · rw [there g hg hga, hold]
  · by_cases hga : g = a / 64
    · rw [hga]
      exact quiet_putGranule hq _ q
    · exact quiet g hga hqg

end

theorem pieces_of_granule {a n : Nat} (h : 0 < n ∧ a % 64 + n ≤ 64) : pieces a n = [(a, n)] := by
  have hone : (a + n + 63) / 64 - a / 64 = 1 := by omega
  have hlo : max a (a / 64 * 64) = a := by omega
  have hhi : min (a + n) ((a / 64 + 1) * 64) - a = n := by omega
  simp [pieces, Nat.pos_iff_ne_zero.mp h.1, hone, hlo, hhi]

/-- A store of bytes within one writable granule. -/
theorem store_of_writable {s : State} {l a : Nat} {data : List Byte} (h : Writable s l a data.length) (p : Bool) :
    s.store l a data p = (false, s.storeHome a data p) ∧ Stored s (s.storeHome a data p) a data := by
  have hs := stored_storeHome h.quiet h.good h.whole h.fits.2 p
  have hnote : (s.storeHome a data p).noteWrite a data.length = s.storeHome a data p :=
    noteWrite_of_free _ ((keeps_of_unwritten hs.frame (State.meetsOwned · a data.length) fun _ => rfl).trans h.plain)
  have hpiece : s.storePiece l a data p = (false, s.storeHome a data p) := by
    unfold State.storePiece
    rcases target_of_ownMem h.own with ⟨b, x, ht⟩ | ⟨b, x, ht⟩ <;>
      simp only [ht, h.own, h.alive, hnote, if_true, if_false]
  refine ⟨?_, hs⟩
  rw [State.store, pieces_of_granule h.fits]
  simp [hpiece]

section
variable {s t : State} {a : Nat} {ws : List Word} (h : Stored s t a (wordBytes ws))
include h

/-- The words that were stored. -/
theorem wordAt_of_stored {i : Nat} (hi : i < ws.length) : wordAt t (a + 8 * i) = ws.getD i 0 := by
  have hbytes : (List.range 8).map (fun j => seen t (a + 8 * i + j)) = leBytes 8 (ws.getD i 0).toNat := by
    refine List.ext_getElem (by simp) fun j hj hj' => ?_
    have h8 : j < 8 := by simpa using hj
    rw [List.getElem_map, List.getElem_range, Nat.add_assoc, h.inside _ (by rw [wordBytes_length]; omega),
      wordBytes_getD ws i h8, List.getD_eq_getElem _ 0 hj']
  rw [wordAt, hbytes, leNat_leBytes_word]

end

end Sys2Proof.Proofs
end

section
/-!
PROOFS. Engines with one thing to do (R143, R144, R165, R167, R171, R174): the queue that holds it does it in the first round, and
nothing is left for a second.
-/
namespace Sys2Proof.Proofs

open Sys2Proof Sys2Proof.Machine Sys2Proof.Safety Sys2Proof.Laws

section
variable {s t : State} {u : Nat}

theorem runVec_of_nil (h : (s.pond u).vecQ = []) : s.runVec u = (false, s) := by simp only [State.runVec, h]
theorem runStore_of_nil (h : (s.pond u).storeQ = []) : s.runStore u = (false, s) := by simp only [State.runStore, h]
theorem runXstart_of_nil (h : (s.pond u).xsQ = []) : s.runXstart u = (false, s) := by simp only [State.runXstart, h]
theorem runPosted_of_nil (h : (s.pond u).posted = []) : s.runPosted u = (false, s) := by simp only [State.runPosted, h]
theorem runDrain_of_wait (h : (s.pond u).wait ≠ .drain) : s.runDrain u = (false, s) := if_neg fun hd => h hd.2.1

theorem tryFinish_of_run (h : (s.pond u).mode = .run) : s.tryFinish u = s :=
  if_neg fun hend => absurd (h.symm.trans hend.1) (by decide)

theorem engineRounds_of_round (k : Nat) (hround : s.engineRound u = (true, t)) (hq : Quiescent (t.pond u)) :
    State.engineRounds u (k + 2) s = t := by
  rw [State.engineRounds, hround]
  exact (if_pos rfl).trans (engineRounds_of_still k (engineRound_of_empty hq.empty hq.wait))

/-- A round that does something and leaves nothing to do is all that the engines do. -/
theorem pump_of_round (hw : s.pondWorks u = true) (hmode : (s.pond u).mode = .run) (hround : s.engineRound u = (true, t))
    (hq : Quiescent (t.pond u)) : s.pump u = t := by
  have hgo : (s.pondWorks u && (s.pond u).mode != .idle) = true := by simp [hw, hmode]
  rw [State.pump, if_pos hgo, engineRounds_of_round 62 hround hq, tryFinish_of_run hq.mode]

variable (hu : Unfed (s.pond u)) (hq : Quiescent (t.pond u))
include hu hq

theorem round_of_vec (h : s.runVec u = (true, t)) : s.engineRound u = (true, t) := by
  simp only [engineRound_of_unfed hu, h, runStore_of_nil hq.empty.storeQ, runXstart_of_nil hq.empty.xsQ,
    runPosted_of_nil hq.empty.posted, runDrain_of_wait hq.wait, Bool.or_false]

theorem round_of_store (hV : (s.pond u).vecQ = []) (h : s.runStore u = (true, t)) : s.engineRound u = (true, t) := by
  simp only [engineRound_of_unfed hu, runVec_of_nil hV, h, runXstart_of_nil hq.empty.xsQ, runPosted_of_nil hq.empty.posted,
    runDrain_of_wait hq.wait, Bool.or_false, Bool.or_true]

theorem round_of_xstart (hV : (s.pond u).vecQ = []) (hS : (s.pond u).storeQ = []) (h : s.runXstart u = (true, t)) :
    s.engineRound u = (true, t) := by
  simp only [engineRound_of_unfed hu, runVec_of_nil hV, runStore_of_nil hS, h, runPosted_of_nil hq.empty.posted,
    runDrain_of_wait hq.wait, Bool.or_false, Bool.or_true]

theorem round_of_posted (hV : (s.pond u).vecQ = []) (hS : (s.pond u).storeQ = []) (hX : (s.pond u).xsQ = [])
    (h : s.runPosted u = (true, t)) : s.engineRound u = (true, t) := by
  simp only [engineRound_of_unfed hu, runVec_of_nil hV, runStore_of_nil hS, runXstart_of_nil hX, h,
    runDrain_of_wait hq.wait, Bool.or_false, Bool.or_true]

end

end Sys2Proof.Proofs
end

section
/-!
PROOFS. Sync counters (R168, R170): where they lie, and what an add or a write of one leaves.
-/
namespace Sys2Proof.Proofs

open Sys2Proof Sys2Proof.Machine Sys2Proof.Safety Sys2Proof.Laws

/-! Where a counter lies (R63, R168). -/

theorem lt_of_mem_members {s : State} {l b : Nat} (h : b ∈ s.members l) : b < 8 :=
  List.mem_range.mp (List.mem_of_mem_filter h)

/-- A counter lies in the Reservoir, and within one granule. -/
theorem place_of_counterDpa {s : State} {l i a : Nat} (h : s.counterDpa l i = some a) :
    s.onFailed a = none ∧ a % 64 + 8 ≤ 64 := by
  obtain ⟨b, hb, rfl⟩ := Option.map_eq_some_iff.mp h
  have hlt : b < 8 := lt_of_mem_members (List.mem_of_getElem? hb)
  have hbase : (s.tt.basin b).syncBase < 2 ^ 14 := Nat.mod_lt _ (by decide)
  have hsync : s.syncBase b = 0x400000000000 + b * 0x20000000 + (s.tt.basin b).syncBase * 0x8000 := rfl
  rw [onFailed_eq, if_neg (by omega)]
  exact ⟨rfl, by omega⟩

/-- The bytes of a granule as agents find them. -/
theorem granule_bytes {s : State} {a n : Nat} (hlen : (s.granule (a / 64)).1.length = 64) (hfit : a % 64 + n ≤ 64) :
    ((s.granule (a / 64)).1.drop (a % 64)).take n = (List.range n).map fun i => seen s (a + i) := by
  refine List.ext_getElem ?_ fun i hi hi' => ?_
  · simp only [List.length_take, List.length_drop, List.length_map, List.length_range]
    omega
  · have hn : i < n := by simpa using hi'
    rw [List.getElem_take, List.getElem_drop, List.getElem_map, List.getElem_range, seen,
      show (a + i) / 64 = a / 64 by omega, show (a + i) % 64 = a % 64 + i by omega, List.getD_eq_getElem]

theorem counterVal_eq {s : State} {l i a : Nat} (ha : s.counterDpa l i = some a)
    (hlen : (s.granule (a / 64)).1.length = 64) :
    s.counterVal l i = some (leNat ((List.range 8).map fun j => seen s (a + j))) := by
  rw [State.counterVal, ha, Option.map_some, granule_bytes hlen (place_of_counterDpa ha).2]

theorem lt_of_counterDpa {s : State} {l i a : Nat} (h : s.counterDpa l i = some a) : a / 64 < 2 ^ 46 := by
  obtain ⟨b, hb, rfl⟩ := Option.map_eq_some_iff.mp h
  have hlt : b < 8 := lt_of_mem_members (List.mem_of_getElem? hb)
  have hbase : (s.tt.basin b).syncBase < 2 ^ 14 := Nat.mod_lt _ (by decide)
  have hsync : s.syncBase b = 0x400000000000 + b * 0x20000000 + (s.tt.basin b).syncBase * 0x8000 := rfl
  omega

/-! The waits that a change of a counter ends (R170, R320). -/

/-- What a changed counter may change: waits of ponds and of queued commands. -/
theorem counterChanged_keeps {α : Type} (p : State → α) (hp : ∀ x ps qs, p { x with ponds := ps, queues := qs } = p x)
    (s : State) (l i : Nat) : p (s.counterChanged l i) = p s := by
  have hponds (t : State) (ps : Tbl Pond) : p { t with ponds := ps } = p t := hp t ps t.queues
  unfold State.counterChanged
  extract_lets t
  refine (hp t t.ponds _).trans (each_keeps p (fun t u => ?_) _ s)
  split
  · split
    · split
      · exact hponds t _
      · rfl
    · rfl
  · rfl

/-- The waits of pond `u` for counter `i`, where it has reached their value. -/
def counterWakes (l i : Nat) (s : State) (u : Nat) : State :=
  if s.leaderOf (u / 8) = l then
    match (s.pond u).wait with
    | .sync c v => if c = i ∧ s.counterReached l i v then s.modPond u fun p => { p with wait := .sync c 0 } else s
    | _ => s
  else s

theorem pond_counterWakes {s : State} {u : Nat} (h : ∀ c v, (s.pond u).wait ≠ .sync c v) (l i k : Nat) :
    (counterWakes l i s k).pond u = s.pond u := by
  unfold counterWakes
  split
  · split
    next c v hwait =>
      split
      · refine pond_modPond_ne s _ fun huk => ?_
        subst huk
        exact h c v hwait
      · rfl
    · rfl
  · rfl

/-- A pond that waits for no counter stays as it is. -/
theorem pond_counterChanged {s : State} {u : Nat} (h : ∀ c v, (s.pond u).wait ≠ .sync c v) (l i : Nat) :
    (s.counterChanged l i).pond u = s.pond u := by
  unfold State.counterChanged State.each
  generalize List.range 64 = ks
  exact List.foldlRecOn (motive := fun t => State.pond t u = s.pond u) ks (counterWakes l i) rfl fun t ht k _ =>
    (pond_counterWakes (by rw [ht]; exact h) l i k).trans ht

section
variable {s : State} {l i a : Nat} (ha : s.counterDpa l i = some a) (hlen : (s.granule (a / 64)).1.length = 64)
  (hq : Quiet s (a / 64))
include ha hlen hq

/-- A write of a counter at its bank. -/
theorem counterSet_of_quiet (v : Nat) : s.counterSet l i v = (s.storeHome a (leBytes 8 v) false).counterChanged l i
    ∧ Stored s (s.storeHome a (leBytes 8 v) false) a (leBytes 8 v) := by
  refine ⟨by rw [State.counterSet, ha], stored_storeHome hq (place_of_counterDpa ha).1 hlen ?_ false⟩
  rw [leBytes_length]
  exact (place_of_counterDpa ha).2

/-- What a write of a counter leaves of everything but memory and waits. -/
theorem counterSet_keeps {α : Type} (p : State → α) (hp : ∀ x ps qs, p { x with ponds := ps, queues := qs } = p x)
    (hw : ∀ x, p (unwritten x) = p x) (v : Nat) : p (s.counterSet l i v) = p s := by
  obtain ⟨heq, hs⟩ := counterSet_of_quiet ha hlen hq v
  rw [heq, counterChanged_keeps p hp, keeps_of_unwritten hs.frame p hw]

theorem counterVal_counterSet (v : Nat) : (s.counterSet l i v).counterVal l i = some (v % 2 ^ 64) := by
  obtain ⟨heq, hs⟩ := counterSet_of_quiet ha hlen hq v
  have hdpa : (s.storeHome a (leBytes 8 v) false).counterDpa l i = some a :=
    (keeps_of_unwritten hs.frame (State.counterDpa · l i) fun _ => rfl).trans ha
  have hbytes : ((List.range 8).map fun j => seen (s.storeHome a (leBytes 8 v) false) (a + j)) = leBytes 8 v := by
    refine List.ext_getElem (by simp) fun j hj hj' => ?_
    rw [List.getElem_map, List.getElem_range, hs.inside j hj', List.getD_eq_getElem]
  rw [heq, counterChanged_keeps (State.counterVal · l i) fun _ _ _ => rfl,
    counterVal_eq hdpa (hs.length _ (lt_of_counterDpa ha) hlen), hbytes, leNat_leBytes]
  norm_num

omit hlen in
theorem counterAdd_of_quiet {c : Nat} (hst : (s.line l).st ≠ .failed) (hc : s.counterVal l i = some c) (v : Nat) :
    s.counterAdd l i v = s.counterSet l i ((c + v) % 2 ^ 64) := by
  have htouch : s.counterTouch l i = s := counterTouch_of_quiet fun b hb => by
    obtain rfl := Option.some.inj (ha.symm.trans hb)
    exact hq
  simp only [State.counterAdd, if_neg hst, htouch, hc]

theorem pond_counterSet {u : Nat} (h : ∀ c v, (s.pond u).wait ≠ .sync c v) (v : Nat) :
    (s.counterSet l i v).pond u = s.pond u := by
  obtain ⟨heq, hs⟩ := counterSet_of_quiet ha hlen hq v
  have hpond : (s.storeHome a (leBytes 8 v) false).pond u = s.pond u :=
    keeps_of_unwritten hs.frame (State.pond · u) fun _ => rfl
  rw [heq, pond_counterChanged (by rw [hpond]; exact h), hpond]

end

end Sys2Proof.Proofs
end

section
/-!
PROOFS. One item in a queue behind the grids (R143, R144): the vector engine, the store unit and the transfer start port do
it in the step that issues it.
-/
namespace Sys2Proof.Proofs

open Sys2Proof Sys2Proof.Machine Sys2Proof.Safety Sys2Proof.Laws

/-! What is queued. -/

theorem clear_storeQ {p : Pond} (h : p.storeQ = []) : { p with storeQ := [] } = p := by
  cases p
  cases h
  rfl

theorem clear_posted {p : Pond} (h : p.posted = []) : { p with posted := [] } = p := by
  cases p
  cases h
  rfl

section
variable {s t r : State} {u : Nat} {q : Pond} {o : PondOp}

/-- The pond goes on with one item in its store queue. -/
theorem onlyPond_toStore (ht : OnlyPond s t u q) (hq : Quiescent q) (hf : Follows q) :
    OnlyPond s (t.toStore u o) u { onward q with storeQ := [o] } := by
  have hadv := onlyPond_adv (onlyPond_modPond ht fun p => { p with storeQ := p.storeQ ++ [o] }) hq.mode hf
  rw [hq.empty.storeQ] at hadv
  exact hadv

/-- The pond goes on with one item in its vector queue. -/
theorem onlyPond_toVec (ht : OnlyPond s t u q) (hq : Quiescent q) (hf : Follows q) :
    OnlyPond s (t.toVec u o) u { onward q with vecQ := [o] } := by
  have hadv := onlyPond_adv (onlyPond_modPond ht fun p => { p with vecQ := p.vecQ ++ [o] }) hq.mode hf
  rw [hq.empty.vecQ] at hadv
  exact hadv

/-- The pond goes on with one posted release. -/
theorem onlyPond_post (ht : OnlyPond s t u q) (hq : Quiescent q) (hf : Follows q) :
    OnlyPond s (t.post u o) u { onward q with posted := [o] } := by
  have hadv := onlyPond_adv (onlyPond_modPond ht fun p => { p with posted := p.posted ++ [o] }) hq.mode hf
  rw [hq.empty.posted] at hadv
  exact hadv

/-! What takes it. -/

variable (hworks : s.pondWorks u = true) (ht : OnlyPond s t u q)
include hworks ht

theorem pondWorks_of_onlyPond : t.pondWorks u = true :=
  (keeps_of_onlyPond ht (State.pondWorks · u) fun _ _ => rfl).trans hworks

variable (hr : Quiescent (r.pond u))
include hr

/-- The store unit does the one item of its queue. -/
theorem pump_of_store (hrun : t.runStore u = (true, r)) (hmode : q.mode = .run) (hu : Unfed q) (hV : q.vecQ = []) :
    t.pump u = r := by
  have hpond : t.pond u = q := ht.1
  refine pump_of_round (pondWorks_of_onlyPond hworks ht) ?_ (round_of_store ?_ hr ?_ hrun) hr <;> rw [hpond]
  exacts [hmode, hu, hV]

/-- The vector engine does the one item of its queue. -/
theorem pump_of_vec (hrun : t.runVec u = (true, r)) (hmode : q.mode = .run) (hu : Unfed q) : t.pump u = r := by
  have hpond : t.pond u = q := ht.1
  refine pump_of_round (pondWorks_of_onlyPond hworks ht) ?_ (round_of_vec ?_ hr hrun) hr <;> rw [hpond]
  exacts [hmode, hu]

/-- The transfer start port does the one item of its queue. -/
theorem pump_of_xstart (hrun : t.runXstart u = (true, r)) (hmode : q.mode = .run) (hu : Unfed q) (hV : q.vecQ = [])
    (hS : q.storeQ = []) : t.pump u = r := by
  have hpond : t.pond u = q := ht.1
  refine pump_of_round (pondWorks_of_onlyPond hworks ht) ?_ (round_of_xstart ?_ hr ?_ ?_ hrun) hr <;> rw [hpond]
  exacts [hmode, hu, hV, hS]

/-- The one posted release takes effect. -/
theorem pump_of_posted (hrun : t.runPosted u = (true, r)) (hmode : q.mode = .run) (hu : Unfed q) (hV : q.vecQ = [])
    (hS : q.storeQ = []) (hX : q.xsQ = []) : t.pump u = r := by
  have hpond : t.pond u = q := ht.1
  refine pump_of_round (pondWorks_of_onlyPond hworks ht) ?_ (round_of_posted ?_ hr ?_ ?_ ?_ hrun) hr <;> rw [hpond]
  exacts [hmode, hu, hV, hS, hX]

end

/-! The store unit. -/

/-- The pond once the store unit has done `o`, which releases its ticket where it says so. -/
def storeDone (o : PondOp) (p : Pond) : Pond :=
  match o.ticket with
  | some t =>
    if (o.op == 0x40 && o.insn.flag 36) || o.op == 0x43 then ({ p with storeQ := [] } : Pond).beginRelease t o.seq
    else { p with storeQ := [] }
  | none => { p with storeQ := [] }

theorem runStore_of_done {t r : State} {u : Nat} {o : PondOp} {b : Bool} {d : OpDone} (hq : (t.pond u).storeQ = [o])
    (hready : (t.pond u).opReady o = true) (hop : t.storeOp u o = (.ok b, d, r)) (hstill : (r.pond u).storeQ = [o]) :
    t.runStore u = (true, (r.modPond u (storeDone o)).when (o.op == 0x40 || o.op == 0x41) (·.opDone u d)) := by
  unfold State.runStore
  rw [hq]
  simp only [hready, hop, if_true]
  refine congrArg (fun x => (true, State.when x _ _)) (modPond_congr ?_)
  rw [hstill, if_pos (List.take_of_length_le (l := [o]) (Nat.le_refl 1))]
  rfl

end Sys2Proof.Proofs
end

section
/-!
PROOFS. SIGNAL, SADD, REL and PHASE (R148, R162, R169 to R171, R175).
-/
namespace Sys2Proof.Proofs

open Sys2Proof Sys2Proof.Machine Sys2Proof.Safety Sys2Proof.Laws

/-! A posted release (R171). -/

section
variable {s : State} {u : Nat} {w : Word} (h : AtInsn s u w) (he : EnginesEmpty (s.pond u)) (hf : Follows (s.pond u))
include h he hf

/-- A release that is posted where nothing is queued takes effect at once. -/
theorem gives_of_post {c : Instr} {sel : Word → Bool} {f : State → Nat → Word → State} {o : PondOp} {P : State → Prop}
    (hexec : exec c s = runU (fun s => s.issueRow u sel f) s) (hsel : sel w = true)
    (hpost : f s.clean u w = s.clean.post u o)
    (hrelease : ∀ t r, OnlyPond s.clean t u (onward (s.pond u)) → t.releaseOp u o = r → r.pond u = onward (s.pond u)
      ∧ r.misuse = none ∧ P (r.keeping s)) : Gives c s P := by
  have hquiescent := quiescent_of_atInsn h he
  have hstill : Quiescent (onward (s.pond u)) := quiescent_onward hquiescent
  have hposted : OnlyPond s.clean (s.clean.post u o) u { onward (s.pond u) with posted := [o] } :=
    onlyPond_post (onlyPond_refl s.clean u) hquiescent hf
  generalize s.clean.post u o = t at hpost hposted
  have htaken : OnlyPond s.clean (t.modPond u fun p => { p with posted := [] }) u (onward (s.pond u)) := by
    have hmod := onlyPond_modPond hposted fun p => { p with posted := [] }
    exact (clear_posted hstill.empty.posted) ▸ hmod
  obtain ⟨hpond, hmisuse, hP⟩ := hrelease _ _ htaken rfl
  have hrun : t.runPosted u = (true, (t.modPond u fun p => { p with posted := [] }).releaseOp u o) := by
    simp [State.runPosted, hposted.1, hstill.empty.storeQ, hstill.empty.xsQ]
  refine gives_of_issue hexec h hsel ?_ hmisuse hP
  rw [hpost]
  exact pump_of_posted (s := s.clean) h.works hposted (hpond.symm ▸ hstill) hrun hstill.mode
    ⟨hstill.empty.feedA, hstill.empty.feedB, hstill.empty.gridQ⟩ hstill.empty.vecQ hstill.empty.storeQ hstill.empty.xsQ

end

/-! SIGNAL (R148, R170). -/

/-- From `t` to `r`, PD_SIGNAL of pond `u` has taken the code of `w` and is pending, and nothing else has changed. -/
structure Signalled (t r : State) (u : Nat) (w : Word) : Prop where
  code : r.fld (pdKey u 0x58) 0 16 = w.field 0 16
  pending : r.flag (pdKey u 0x58) 16 = true
  others : ∀ k, k ≠ pdKey u 0x58 → r.reg k = t.reg k
  frame : { r with regs := t.regs } = t

theorem regFrame_setFlag (t : State) (k lo n v k' i : Nat) (b : Bool) :
    { (t.setFld k lo n v).setFlag k' i b with regs := t.regs } = t := rfl

theorem signalled_setFlag (t : State) (u : Nat) (w : Word) :
    Signalled t ((t.setFld (pdKey u 0x58) 0 16 (w.field 0 16)).setFlag (pdKey u 0x58) 16 true) u w := by
  refine ⟨?_, flag_setFlag_self _ _ (by decide) true, fun k hk => ?_, regFrame_setFlag _ _ _ _ _ _ _ _⟩
  · rw [fld_setFlag_ne _ _ (by decide) (by decide), fld_setFld_self _ _ (by decide)]
    exact Nat.mod_eq_of_lt (Nat.mod_lt _ (by decide))
  · rw [reg_setFlag_ne _ _ _ hk, reg_setFld_ne _ _ _ _ hk]

theorem releaseOp_signal {t : State} {u : Nat} {o : PondOp} {w : Word} (hinsn : o.insn = w) (hop : w.field 56 8 = 0x05) :
    ∃ x, Signalled t x u w ∧ t.releaseOp u o
      = x.when (w.flag 16) (·.raise (t.pondLine u) (8 * t.place (u / 8) + u % 8)) := by
  have hx := signalled_setFlag t u w
  have hrelease : t.releaseOp u o = if o.op = 0x60 then t.counterAdd (t.pondLine u) o.x.toNat o.y.toNat
      else ((t.setFld (pdKey u 0x58) 0 16 (o.insn.field 0 16)).setFlag (pdKey u 0x58) 16 true).when (o.insn.flag 16)
        (·.raise (t.pondLine u) (8 * ((t.setFld (pdKey u 0x58) 0 16 (o.insn.field 0 16)).setFlag (pdKey u 0x58) 16 true).place
          (u / 8) + u % 8)) := rfl
  have hnot : ¬ o.op = 0x60 := by
    rw [PondOp.op, hinsn, hop]
    decide
  rw [if_neg hnot, hinsn] at hrelease
  generalize (t.setFld (pdKey u 0x58) 0 16 (w.field 0 16)).setFlag (pdKey u 0x58) 16 true = x at hx hrelease
  rw [keeps_of_regFrame hx.frame (State.place · (u / 8)) fun _ _ => rfl] at hrelease
  exact ⟨x, hx, hrelease⟩

/-! An interrupt whose source goes to no core (R418, R499). -/

theorem raise_of_routeOff {s : State} {l src : Nat} (h : RouteOff s l src) :
    s.raise l src = (s.wakeExit l).setFlag (routeKey l src) 32 true := by
  have hoff : (s.wakeExit l).flag (routeKey l src) 31 = false :=
    (keeps_of_calm (calm_wakeExit s l) (State.flag · (routeKey l src) 31) fun _ => rfl).trans h
  rw [State.raise, State.route, hoff]
  rfl

/-- What such an interrupt keeps besides the source's register. -/
theorem raise_keeps_of_routeOff {α : Type} {s : State} {l src : Nat} (h : RouteOff s l src) (p : State → α)
    (hreg : ∀ x k v, p (State.setReg x k v) = p x) (hcalm : ∀ x, p (calm x) = p x) : p (s.raise l src) = p s := by
  rw [raise_of_routeOff h]
  exact (hreg _ _ _).trans (keeps_of_calm (calm_wakeExit s l) p hcalm)

theorem reg_raise_of_routeOff {s : State} {l src : Nat} (h : RouteOff s l src) {k : Nat} (hk : k ≠ routeKey l src) :
    (s.raise l src).reg k = s.reg k := by
  rw [raise_of_routeOff h, reg_setFlag_ne _ _ _ hk]
  exact keeps_of_calm (calm_wakeExit s l) (State.reg · k) fun _ => rfl

theorem pending_raise_of_routeOff {s : State} {l src : Nat} (h : RouteOff s l src) :
    (s.raise l src).flag (routeKey l src) 32 = true := by
  rw [raise_of_routeOff h, State.flag, State.setFlag, reg_setFld_self, flag_withField_one _ _ (by decide)]

theorem place_le (s : State) (b : Nat) : s.place b ≤ 8 := by
  refine (List.length_filter_le _ _).trans ((List.length_filter_le _ _).trans ?_)
  rw [List.length_range]

/-- A pond's registers lie apart from the routes of its sources. -/
theorem pdKey_ne_routeKey {u off l src : Nat} (hoff : off < 0x100) (hsrc : src < 512) : pdKey u off ≠ routeKey l src := by
  unfold pdKey routeKey bKey lnKey
  omega

section
variable {s t r : State} {u : Nat} {q : Pond} (ht : OnlyPond s.clean t u q)
include ht

theorem reg_of_onlyPond (k : Nat) : t.reg k = s.reg k := by
  have hregs : t.regs = s.regs := keeps_of_onlyPond ht State.regs fun _ _ => rfl
  rw [State.reg, hregs, State.reg]

/-- Registers that have changed as well leave the rest. -/
theorem onlyPond_of_regFrame (hr : { r with regs := t.regs } = t) : OnlyPond s { r.keeping s with regs := s.regs } u q := by
  obtain ⟨hself, hothers, hrest⟩ := ht
  have hponds : r.ponds = t.ponds := by
    have h := congrArg State.ponds hr
    exact h
  have hpond (v : Nat) : State.pond { r.keeping s with regs := s.regs } v = t.pond v := by
    rw [State.pond, State.pond, ← hponds]
    rfl
  refine ⟨(hpond u).trans hself, fun v hv => (hpond v).trans (hothers v hv), ?_⟩
  rw [← hr] at hrest
  exact congrArg (fun x => ({ x.keeping s with regs := s.regs } : State)) hrest

end

section
variable {s : State} {u : PondId} {w : Word} (h : AtInsn s u w) (he : EnginesEmpty (s.pond u)) (hf : Follows (s.pond u))
include h he hf

/-- A SIGNAL by what its release leaves. -/
theorem signal_gives {P : State → Prop} (hop : w.field 56 8 = 0x05)
    (hx : ∀ t x r, OnlyPond s.clean t u (onward (s.pond u)) → Signalled t x u w
      → x.when (w.flag 16) (·.raise (s.pondLine u) (8 * s.place (u / 8) + u % 8)) = r
      → r.pond u = onward (s.pond u) ∧ r.misuse = none ∧ P (r.keeping s)) : Gives (.signal u) s P := by
  have hexec : exec (.signal u) s = runU (fun s => s.issueRow u (isOp 0x05) iSignal) s := rfl
  have hpost : iSignal s.clean u w = s.clean.post u ((s.clean.pond u).item w) := rfl
  have hinsn : ((s.clean.pond u).item w).insn = w := rfl
  generalize (s.clean.pond u).item w = o at hpost hinsn
  refine gives_of_post h he hf hexec (beq_iff_eq.mpr hop) hpost fun t r ht hr => ?_
  obtain ⟨x, hsig, heq⟩ := releaseOp_signal (t := t) (u := u) hinsn hop
  have hplace : t.place (u / 8) = s.place (u / 8) := keeps_of_onlyPond ht (State.place · (u / 8)) fun _ _ => rfl
  have hline : t.pondLine u = s.pondLine u := keeps_of_onlyPond ht (State.pondLine · u) fun _ _ => rfl
  rw [heq, hplace, hline] at hr
  exact hx t x r ht hsig hr

theorem signal_gives_quiet (hop : w.field 56 8 = 0x05) (hirq : w.flag 16 = false) : Gives (.signal u) s fun t =>
    t.fld (pdKey u 0x58) 0 16 = w.field 0 16 ∧ t.flag (pdKey u 0x58) 16 = true
      ∧ (∀ k, k ≠ pdKey u 0x58 → t.reg k = s.reg k) ∧ OnlyPond s { t with regs := s.regs } u (onward (s.pond u)) := by
  refine signal_gives h he hf hop fun t x r ht hx hr => ?_
  rw [hirq, when_false] at hr
  subst hr
  refine ⟨?_, ?_, hx.code, hx.pending, fun k hk => (hx.others k hk).trans (reg_of_onlyPond ht k),
    onlyPond_of_regFrame ht hx.frame⟩
  · exact (keeps_of_regFrame hx.frame (State.pond · u) fun _ _ => rfl).trans ht.1
  · exact (keeps_of_regFrame hx.frame State.misuse fun _ _ => rfl).trans (keeps_of_onlyPond ht State.misuse fun _ _ => rfl)

theorem signal_gives_irq (hop : w.field 56 8 = 0x05) (hirq : w.flag 16 = true)
    (hroute : RouteOff s (s.pondLine u) (8 * s.place (u / 8) + u % 8)) : Gives (.signal u) s fun t =>
      t.fld (pdKey u 0x58) 0 16 = w.field 0 16 ∧ t.flag (pdKey u 0x58) 16 = true
        ∧ t.flag (routeKey (s.pondLine u) (8 * s.place (u / 8) + u % 8)) 32 = true ∧ t.pond u = onward (s.pond u) := by
  have hsrc : 8 * s.place (u / 8) + u.val % 8 < 512 := by
    have := place_le s (u / 8)
    omega
  have hkey : pdKey u 0x58 ≠ routeKey (s.pondLine u) (8 * s.place (u / 8) + u.val % 8) := pdKey_ne_routeKey (by decide) hsrc
  refine signal_gives h he hf hop fun t x r ht hx hr => ?_
  rw [hirq, when_true] at hr
  generalize 8 * s.place (u / 8) + u.val % 8 = src at *
  have hoff : RouteOff x (s.pondLine u) src := by
    rw [RouteOff, State.flag, hx.others _ hkey.symm, reg_of_onlyPond ht]
    exact hroute
  have hreg : r.reg (pdKey u 0x58) = x.reg (pdKey u 0x58) := by rw [← hr, reg_raise_of_routeOff hoff hkey]
  have hkeep {α : Type} (p : State → α) (hreg : ∀ y k v, p (State.setReg y k v) = p y) (hcalm : ∀ y, p (calm y) = p y) :
      p r = p x := by rw [← hr, raise_keeps_of_routeOff hoff p hreg hcalm]
  have hpending : r.flag (routeKey (s.pondLine u) src) 32 = true := by rw [← hr, pending_raise_of_routeOff hoff]
  have hpond : r.pond u = onward (s.pond u) := (hkeep (State.pond · u) (fun _ _ _ => rfl) fun _ => rfl).trans
    ((keeps_of_regFrame hx.frame (State.pond · u) fun _ _ => rfl).trans ht.1)
  have hmisuse : r.misuse = none := (hkeep State.misuse (fun _ _ _ => rfl) fun _ => rfl).trans
    ((keeps_of_regFrame hx.frame State.misuse fun _ _ => rfl).trans (keeps_of_onlyPond ht State.misuse fun _ _ => rfl))
  refine ⟨hpond, hmisuse, ?_, ?_, hpending, hpond⟩
  · have hcode := hx.code
    rwa [State.fld, ← hreg] at hcode
  · have hset := hx.pending
    rwa [State.flag, ← hreg] at hset

end

end Sys2Proof.Proofs
end

section
/-!
PROOFS. SADD, REL and PHASE (R148, R162, R169 to R171, R175, R176, R192).
-/
namespace Sys2Proof.Proofs

open Sys2Proof Sys2Proof.Machine Sys2Proof.Safety Sys2Proof.Laws

/-! SADD (R169, R170). -/

/-- The counter and the amount that an SADD names. -/
def saddCtr (p : Pond) (w : Word) : Nat := if w.flag 55 then (p.sreg (w.field 50 5)).toNat else w.field 35 15
def saddAmount (p : Pond) (w : Word) : Word :=
  if w.flag 34 then p.sreg (w.field 29 5) else BitVec.ofInt 64 (signed 28 (w.field 0 28))

theorem saddCtr_lt (p : Pond) (w : Word) : saddCtr p w < 2 ^ 64 := by
  unfold saddCtr
  split
  · exact (p.sreg (w.field 50 5)).isLt
  · exact (Nat.mod_lt _ (by decide)).trans (by decide)

/-- An SADD as a release: its add. -/
theorem releaseOp_sadd {s : State} {u : Nat} {o : PondOp} (hop : o.op = 0x60) :
    s.releaseOp u o = s.counterAdd (s.pondLine u) o.x.toNat o.y.toNat := if_pos hop

/-- The work item of an SADD. -/
def saddItem (p : Pond) (w : Word) : PondOp := { p.item w with x := BitVec.ofNat 64 (saddCtr p w), y := saddAmount p w }

theorem iSadd_of_inside {s : State} {u : Nat} {w : Word}
    (h : saddCtr (s.pond u) w < 4096 * (s.members (s.pondLine u)).length) :
    iSadd s u w = if w.flag 28 then (s.releaseOp u (saddItem (s.pond u) w)).adv u else s.post u (saddItem (s.pond u) w) := by
  have hin : ¬ s.counterOut u (saddCtr (s.pond u) w) = true := by simpa [State.counterOut] using h
  have hissue : iSadd s u w = if s.counterOut u (saddCtr (s.pond u) w) then s.fail u 0x18
      else if w.flag 28 then (s.releaseOp u (saddItem (s.pond u) w)).adv u else s.post u (saddItem (s.pond u) w) := rfl
  rw [hissue, if_neg hin]

theorem line_alive_of_works {s : State} {u : Nat} (h : s.pondWorks u = true) : (s.line (s.pondLine u)).st ≠ .failed := by
  have hst := not_failed_of_works h
  unfold State.lineStOf at hst
  split at hst
  · exact hst
  next hno => simp [State.pondWorks, State.lineStOf, hno, LnState.works] at h

/-- What an add to a counter leaves. -/
structure Added (t r : State) (l i v u : Nat) : Prop where
  pond : r.pond u = t.pond u
  misuse : r.misuse = t.misuse
  val : ∀ c, t.counterVal l i = some c → r.counterVal l i = some ((c + v) % 2 ^ 64)

theorem added_counterAdd {t : State} {l i a u v : Nat} (hq : ∀ c v, (t.pond u).wait ≠ .sync c v)
    (halive : (t.line l).st ≠ .failed) (ha : t.counterDpa l i = some a) (hlen : (t.granule (a / 64)).1.length = 64)
    (hquiet : Quiet t (a / 64)) : Added t (t.counterAdd l i v) l i v u := by
  obtain ⟨c, hc⟩ : ∃ c, t.counterVal l i = some c := ⟨_, counterVal_eq ha hlen⟩
  rw [counterAdd_of_quiet ha hquiet halive hc]
  refine ⟨pond_counterSet ha hlen hquiet hq _, counterSet_keeps ha hlen hquiet State.misuse (fun _ _ _ => rfl) (fun _ => rfl) _,
    fun c' hc' => ?_⟩
  obtain rfl := Option.some.inj (hc.symm.trans hc')
  rw [counterVal_counterSet ha hlen hquiet, Nat.mod_mod]

/-- The release of an SADD, in a state in which only the program's pond has changed. -/
theorem added_releaseOp {s t : State} {u : Nat} {q : Pond} {o : PondOp} {a c : Nat} (ht : OnlyPond s.clean t u q)
    (hq : ∀ c v, q.wait ≠ .sync c v) (hworks : s.pondWorks u = true) (hop : o.op = 0x60)
    (ha : s.counterDpa (s.pondLine u) o.x.toNat = some a) (hlen : (s.granule (a / 64)).1.length = 64)
    (hquiet : Quiet s (a / 64)) (hc : s.counterVal (s.pondLine u) o.x.toNat = some c) :
    (t.releaseOp u o).pond u = q ∧ (t.releaseOp u o).misuse = none
      ∧ (t.releaseOp u o).counterVal (s.pondLine u) o.x.toNat = some ((c + o.y.toNat) % 2 ^ 64) := by
  have hkeep {α : Type} (p : State → α) (hp : ∀ x ps, p { x with ponds := ps } = p x) : p t = p s.clean :=
    keeps_of_onlyPond ht p hp
  have hline : t.pondLine u = s.pondLine u := hkeep (State.pondLine · u) fun _ _ => rfl
  have hstill : Quiet t (a / 64) :=
    ⟨(hkeep (State.txnOf · (a / 64)) fun _ _ => rfl).trans hquiet.txn,
      (hkeep (State.movingData · (a / 64)) fun _ _ => rfl).trans hquiet.moving,
      (hkeep (fun s => s.coh.waits.any fun w => w.line == a / 64) fun _ _ => rfl).trans hquiet.waits,
      (hkeep (fun s => tblGet 0 s.errs (a / 64)) fun _ _ => rfl).trans hquiet.errs⟩
  have hadded : Added t (t.counterAdd (s.pondLine u) o.x.toNat o.y.toNat) (s.pondLine u) o.x.toNat o.y.toNat u := by
    refine added_counterAdd (by rw [ht.1]; exact hq) ?_ ((hkeep (State.counterDpa · _ _) fun _ _ => rfl).trans ha) ?_ hstill
    · rw [hkeep (State.line · (s.pondLine u)) fun _ _ => rfl]
      exact line_alive_of_works hworks
    · rw [hkeep (State.granule · (a / 64)) fun _ _ => rfl]
      exact hlen
  rw [releaseOp_sadd hop, hline]
  exact ⟨hadded.pond.trans ht.1, hadded.misuse.trans (hkeep State.misuse fun _ _ => rfl),
    hadded.val c ((hkeep (State.counterVal · _ _) fun _ _ => rfl).trans hc)⟩

section
variable {s : State} {u : PondId} {w : Word} (h : AtInsn s u w) (he : EnginesEmpty (s.pond u)) (hf : Follows (s.pond u))
include h he hf

theorem sadd_gives {a c : Nat} (hop : w.field 56 8 = 0x60)
    (ha : s.counterDpa (s.pondLine u) (saddCtr (s.pond u) w) = some a) (hlen : (s.granule (a / 64)).1.length = 64)
    (hquiet : Quiet s (a / 64)) (hc : s.counterVal (s.pondLine u) (saddCtr (s.pond u) w) = some c)
    (hin : saddCtr (s.pond u) w < 4096 * (s.members (s.pondLine u)).length) : Gives (.sadd u) s fun t =>
      t.counterVal (s.pondLine u) (saddCtr (s.pond u) w) = some ((c + (saddAmount (s.pond u) w).toNat) % 2 ^ 64)
        ∧ t.pond u = onward (s.pond u) := by
  have hexec : exec (.sadd u) s = runU (fun s => s.issueRow u (isOp 0x60) iSadd) s := rfl
  have hissue : iSadd s.clean u w = if w.flag 28 then (s.clean.releaseOp u (saddItem (s.pond u) w)).adv u
      else s.clean.post u (saddItem (s.pond u) w) := iSadd_of_inside (s := s.clean) hin
  have hctr : (saddItem (s.pond u) w).x.toNat = saddCtr (s.pond u) w :=
    (BitVec.toNat_ofNat _ _).trans (Nat.mod_eq_of_lt (saddCtr_lt _ _))
  have hamount : (saddItem (s.pond u) w).y = saddAmount (s.pond u) w := rfl
  have hitem : (saddItem (s.pond u) w).op = 0x60 := hop
  generalize saddItem (s.pond u) w = o at hissue hctr hamount hitem
  rw [← hctr] at ha hc ⊢
  rw [← hamount]
  have hadded {t : State} {q : Pond} (ht : OnlyPond s.clean t u q) (hq : ∀ c v, q.wait ≠ .sync c v) :=
    added_releaseOp ht hq h.works hitem ha hlen hquiet hc
  cases hrelaxed : w.flag 28 with
  | false =>
    rw [hrelaxed, if_neg Bool.false_ne_true] at hissue
    refine gives_of_post h he hf hexec (beq_iff_eq.mpr hop) hissue fun t r ht hr => ?_
    obtain ⟨hpond, hmisuse, hval⟩ := hadded ht nofun
    rw [hr] at hpond hmisuse hval
    exact ⟨hpond, hmisuse, hval, hpond⟩
  | true =>
    rw [hrelaxed, if_pos rfl] at hissue
    obtain ⟨hpond, hmisuse, hval⟩ := hadded (onlyPond_refl s.clean u) fun _ _ hsync => by
      rw [clean_pond, h.wait] at hsync
      cases hsync
    generalize s.clean.releaseOp u o = r at hissue hpond hmisuse hval
    rw [clean_pond] at hpond
    rw [adv_of_follows (by rw [hpond]; exact h.mode) (by rw [hpond]; exact hf)] at hissue
    have hpond' : (r.modPond u onward).pond u = onward (s.pond u) := by rw [pond_modPond_self, hpond]
    refine gives_of_issue hexec h (beq_iff_eq.mpr hop) ((congrArg (State.pump · u) hissue).trans (pump_of_quiescent ?_))
      hmisuse ⟨hval, hpond'⟩
    exact hpond'.symm ▸ quiescent_onward (quiescent_of_atInsn h he)

end

end Sys2Proof.Proofs
end

section
/-!
PROOFS. REL and PHASE (R148, R162, R175, R176, R192), and what the release instructions leave.
-/
namespace Sys2Proof.Proofs

open Sys2Proof Sys2Proof.Machine Sys2Proof.Safety Sys2Proof.Laws

/-! REL (R162, R192). -/

theorem quiescent_unhold {p : Pond} (h : Quiescent p) (t : Nat) : Quiescent (p.unhold t) := by
  obtain ⟨hmode, hwait, hA, hB, hG, hV, hS, hX, hP⟩ := h
  exact ⟨hmode, hwait, hA, hB, hG, hV, hS, hX, hP⟩

/-- What depends on no slot stays when a release begins. -/
theorem beginRelease_keeps {α : Type} (g : Pond → α) (hg : ∀ p sl, g { p with slots := sl } = g p) (p : Pond) (t seq : Nat) :
    g (p.beginRelease t seq) = g p :=
  List.foldlRecOn (motive := fun q => g q = g p) (p.slotsOf t) _ rfl fun q hq _ _ => (hg q _).trans hq

theorem quiescent_beginRelease {p : Pond} (h : Quiescent p) (t seq : Nat) : Quiescent (p.beginRelease t seq) := by
  have hkeep {α : Type} (g : Pond → α) (hg : ∀ p sl, g { p with slots := sl } = g p) := beginRelease_keeps g hg p t seq
  obtain ⟨hmode, hwait, hA, hB, hG, hV, hS, hX, hP⟩ := h
  exact ⟨(hkeep Pond.mode fun _ _ => rfl).trans hmode, (hkeep Pond.wait fun _ _ => rfl).symm ▸ hwait,
    (hkeep Pond.feedA fun _ _ => rfl).trans hA, (hkeep Pond.feedB fun _ _ => rfl).trans hB,
    (hkeep Pond.gridQ fun _ _ => rfl).trans hG, (hkeep Pond.vecQ fun _ _ => rfl).trans hV,
    (hkeep Pond.storeQ fun _ _ => rfl).trans hS, (hkeep Pond.xsQ fun _ _ => rfl).trans hX,
    (hkeep Pond.posted fun _ _ => rfl).trans hP⟩

theorem ticketOf_unhold (p : Pond) (t : Nat) : (p.unhold t).ticketOf t = none := by
  refine List.find?_eq_none.mpr fun i hi => ?_
  have hkept := (List.mem_filter.mp hi).2
  simpa using hkept

theorem opReady_of_rel {p : Pond} {o : PondOp} {t : Nat} (hop : o.op = 0x43) (ht : o.ticket = some t)
    (hfull : p.tileFull t = true) : p.opReady o = true := by
  simp [Pond.opReady, ht, hfull, PondOp.tbReads, PondOp.tbWrites, hop]

theorem storeOp_of_rel {s : State} {u : Nat} {o : PondOp} (hop : o.op = 0x43) :
    s.storeOp u o = (.ok false, { opcode := o.op, pc := o.pc }, s) := by
  unfold State.storeOp
  simp only [hop]

section
variable {s : State} {u : PondId} {w : Word} (h : AtInsn s u w) (he : EnginesEmpty (s.pond u)) (hf : Follows (s.pond u))
include h he hf

omit h hf in
theorem iRel_of_held {k : TicketInfo} (hk : (s.pond u).heldIn (w.field 47 5) = some k) :
    iRel s.clean u w = (s.clean.modPond u fun p => p.unhold k.ticket).toStore u
      { (s.pond u).item w with ticket := some k.ticket } := by
  have hroom : ¬ (s.clean.pond u).storeFull = true := by simp [Pond.storeFull, he.storeQ]
  unfold iRel
  simp only [clean_pond, hk]
  exact if_neg hroom

theorem rel_gives {k : TicketInfo} (hop : w.field 56 8 = 0x43) (hk : (s.pond u).heldIn (w.field 47 5) = some k)
    (hfull : (s.pond u).tileFull k.ticket = true) : Gives (.rel u) s fun t =>
      OnlyPond s t u ((onward ((s.pond u).unhold k.ticket)).beginRelease k.ticket (s.pond u).seq)
        ∧ (t.pond u).ticketOf k.ticket = none := by
  have hexec : exec (.rel u) s = runU (fun s => s.issueRow u (isOp 0x43) iRel) s := rfl
  have hissue := iRel_of_held he hk
  obtain ⟨o, ho⟩ : ∃ o : PondOp, o = { (s.pond u).item w with ticket := some k.ticket } := ⟨_, rfl⟩
  have hitem : o.op = 0x43 ∧ o.ticket = some k.ticket ∧ o.seq = (s.pond u).seq := by
    subst ho
    exact ⟨hop, rfl, rfl⟩
  obtain ⟨hcode, hticket, hseq⟩ := hitem
  rw [← ho] at hissue
  have hq := quiescent_unhold (quiescent_of_atInsn h he) k.ticket
  have hqueued : OnlyPond s.clean (iRel s.clean u w) u { onward ((s.pond u).unhold k.ticket) with storeQ := [o] } := by
    rw [hissue]
    exact onlyPond_toStore (onlyPond_modPond (onlyPond_refl s.clean u) fun p => p.unhold k.ticket) hq hf
  obtain ⟨t, ht⟩ : ∃ t, iRel s.clean u w = t := ⟨_, rfl⟩
  rw [ht] at hqueued
  have hdone : storeDone o { onward ((s.pond u).unhold k.ticket) with storeQ := [o] }
      = (onward ((s.pond u).unhold k.ticket)).beginRelease k.ticket (s.pond u).seq := by
    have hclear := clear_storeQ (quiescent_onward hq).empty.storeQ
    simp only [storeDone, hticket, hcode, hseq]
    exact congrArg (Pond.beginRelease · k.ticket (s.pond u).seq) hclear
  have hafter : OnlyPond s.clean (t.modPond u (storeDone o)) u
      ((onward ((s.pond u).unhold k.ticket)).beginRelease k.ticket (s.pond u).seq) :=
    hdone ▸ onlyPond_modPond hqueued (storeDone o)
  have hready : (t.pond u).opReady o = true := by
    rw [hqueued.1]
    exact opReady_of_rel hcode hticket hfull
  have hrun := runStore_of_done (by rw [hqueued.1]) hready (storeOp_of_rel hcode) (by rw [hqueued.1])
  have hplain : (o.op == 0x40 || o.op == 0x41) = false := by rw [hcode]; rfl
  rw [hplain, when_false] at hrun
  have hr : Quiescent ((t.modPond u (storeDone o)).pond u) := by
    rw [hafter.1]
    exact quiescent_beginRelease (quiescent_onward hq) _ _
  refine gives_of_issue hexec h (beq_iff_eq.mpr hop) (t := t.modPond u (storeDone o)) ?_ ?_ ⟨onlyPond_keeping hafter, ?_⟩
  · obtain ⟨-, -, hA, hB, hG, hV, -⟩ := hq
    rw [ht]
    exact pump_of_store (s := s.clean) h.works hqueued hr hrun h.mode ⟨hA, hB, hG⟩ hV
  · exact keeps_of_onlyPond hafter State.misuse fun _ _ => rfl
  · rw [keeping_pond, hafter.1]
    have hheld : ((onward ((s.pond u).unhold k.ticket)).beginRelease k.ticket (s.pond u).seq).held
        = ((s.pond u).unhold k.ticket).held := beginRelease_keeps Pond.held (fun _ _ => rfl) _ _ _
    rw [Pond.ticketOf, hheld]
    exact ticketOf_unhold (s.pond u) k.ticket

end


/-! A record in a ring (R176, R182, R190). -/

/-- The head of a ring of `n` records after one at index `i`, with the WRAP bit that it was written under. -/
def ringHead (i n : Nat) (wrap : Bool) : Word :=
  if i + 1 = n then BitVec.ofNat 64 (ofBool (!wrap) * 2 ^ 20) else BitVec.ofNat 64 (i + 1 + ofBool wrap * 2 ^ 20)

theorem ringWord_fields {k : Nat} (hk : k < 2 ^ 20) (b : Bool) :
    Word.field (BitVec.ofNat 64 (k + ofBool b * 2 ^ 20)) 0 20 = k
      ∧ Word.flag (BitVec.ofNat 64 (k + ofBool b * 2 ^ 20)) 20 = b := by
  have hbit : ofBool b = 0 ∨ ofBool b = 1 := by cases b <;> simp [ofBool]
  refine ⟨?_, ?_⟩
  · rw [Word.field, BitVec.toNat_ofNat, bits, Nat.shiftRight_zero]
    omega
  · have hdiv : (k + ofBool b * 2 ^ 20) / 2 ^ 20 = ofBool b := by omega
    rw [flag_ofNat _ (by decide), Nat.testBit_eq_decide_div_mod_eq, hdiv]
    cases b <;> rfl

theorem ringHead_fields {i n : Nat} (hi : i < n) (hn : n ≤ 2 ^ 19) (wrap : Bool) :
    (ringHead i n wrap).field 0 20 = (if i + 1 = n then 0 else i + 1)
      ∧ (ringHead i n wrap).flag 20 = (if i + 1 = n then !wrap else wrap) := by
  unfold ringHead
  split
  next =>
    have h := ringWord_fields (k := 0) (by decide) (!wrap)
    rwa [Nat.zero_add] at h
  next => exact ringWord_fields (k := i + 1) (by omega) wrap

theorem regFrame_setReg (t : State) (k : Nat) (v : Word) : { t.setReg k v with regs := t.regs } = t := rfl

/-- A record for a ring in memory of the Line. -/
theorem appendRing_of_writable {s : State} {l ring head a i n : Nat} {rec : Bool → Word × Word}
    (hon : s.flag ring 63 = true) (hn : 2 ^ (s.fld ring 0 4 + 4) = n) (hi : (s.reg head).field 0 20 % n = i)
    (ha : s.fld ring 4 48 * 16 + i * 16 = a) (hhost : isHostPa a = false) (hw : Writable s l a 16) :
    ∃ t, Stored s t a (wordBytes [(rec ((s.reg head).flag 20)).1, (rec ((s.reg head).flag 20)).2])
      ∧ s.appendRing l ring head rec = t.setReg head (ringHead i n ((s.reg head).flag 20)) := by
  subst hn hi ha
  obtain ⟨hstore, hstored⟩ := store_of_writable (data := wordBytes [(rec ((s.reg head).flag 20)).1,
    (rec ((s.reg head).flag 20)).2]) hw false
  refine ⟨_, hstored, ?_⟩
  have hflag : (s.reg ring).flag 63 = true := hon
  have hplace : (s.reg ring).field 4 48 * 16 + ringIndex (s.reg head) % 2 ^ ((s.reg ring).field 0 4 + 4) * 16
      = s.fld ring 4 48 * 16 + (s.reg head).field 0 20 % 2 ^ (s.fld ring 0 4 + 4) * 16 := rfl
  unfold State.appendRing
  simp only [hflag, hplace, hhost, hstore, if_true, if_false, Bool.false_eq_true]
  rfl

theorem wordAt_congr {s t : State} (h : ∀ a, seen t a = seen s a) (a : Nat) : wordAt t a = wordAt s a := by
  simp only [wordAt, h]

/-! PHASE (R175, R176). -/

/-- The second word of a program's phase record. -/
def phaseWord (s : State) (u : Nat) (w : Word) (wrap : Bool) : Word :=
  BitVec.ofNat 64 (w.field 52 4 + u / 8 * 2 ^ 5 + u % 8 * 2 ^ 8 + ofBool wrap * 2 ^ 11
    + ((s.pond u).sreg (w.field 46 5)).field 0 32 * 2 ^ 16 + (s.pond u).cur.job % 2 ^ 16 * 2 ^ 48)

theorem phaseMark_eq (s : State) (u : Nat) (w : Word) :
    s.phaseMark u w = s.appendRing (s.pondLine u) (lnKey (s.pondLine u) 0x300) (lnKey (s.pondLine u) 0x308)
      fun wrap => (BitVec.ofNat 64 s.time, phaseWord s u w wrap) := by
  have hstep : ((s.pond u).sreg (w.field 46 5)).field 0 32 % 2 ^ 32 = ((s.pond u).sreg (w.field 46 5)).field 0 32 :=
    Nat.mod_mod _ _
  unfold State.phaseMark State.phaseRecord
  simp only [hstep, Nat.zero_mul, Nat.add_zero]
  rfl

theorem phaseMark_of_off {s : State} {u : Nat} (w : Word) (h : s.flag (lnKey (s.pondLine u) 0x300) 63 = false) :
    s.phaseMark u w = s := by
  rw [phaseMark_eq, State.appendRing]
  exact if_neg (Bool.eq_false_iff.mp h)

theorem writable_clean {s : State} {l a n : Nat} (h : Writable s l a n) : Writable s.clean l a n :=
  ⟨h.own, h.fits, h.good, h.plain, h.alive, h.whole, ⟨h.quiet.txn, h.quiet.moving, h.quiet.waits, h.quiet.errs⟩⟩

section
variable {s : State} {u : PondId} {w : Word} (h : AtInsn s u w) (he : EnginesEmpty (s.pond u)) (hf : Follows (s.pond u))
include h he hf

omit h hf in
theorem iPhase_of_empty : iPhase s.clean u w = (s.clean.phaseMark u w).adv u := by
  have hdrained : (s.clean.pond u).drained = true := drained_of_empty he
  rw [iPhase, hdrained]
  exact if_neg (by simp)

theorem phase_gives_off (hop : w.field 56 8 = 0x78) (hoff : s.flag (lnKey (s.pondLine u) 0x300) 63 = false) :
    Gives (.phase u) s fun t => OnlyPond s t u (onward (s.pond u)) :=
  gives_of_advance (sel := isOp 0x78) (f := iPhase) rfl h (beq_iff_eq.mpr hop)
    ((iPhase_of_empty he).trans (congrArg (State.adv · u) (phaseMark_of_off (s := s.clean) w hoff))) (onlyPond_refl _ _)
    (quiescent_of_atInsn h he) hf

theorem phase_gives_ring {a i n : Nat} (hop : w.field 56 8 = 0x78) (hon : s.flag (lnKey (s.pondLine u) 0x300) 63 = true)
    (hn : 2 ^ (s.fld (lnKey (s.pondLine u) 0x300) 0 4 + 4) = n)
    (hi : (s.reg (lnKey (s.pondLine u) 0x308)).field 0 20 % n = i)
    (ha : s.fld (lnKey (s.pondLine u) 0x300) 4 48 * 16 + i * 16 = a)
    (hhost : isHostPa a = false) (hw : Writable s (s.pondLine u) a 16) : Gives (.phase u) s fun t =>
      t.pond u = onward (s.pond u) ∧ (∀ k, k ≠ u.val → t.pond k = s.pond k)
        ∧ wordAt t a = BitVec.ofNat 64 s.time
        ∧ wordAt t (a + 8) = phaseWord s u w ((s.reg (lnKey (s.pondLine u) 0x308)).flag 20)
        ∧ SeenOutside s t a 16 ∧ (∀ k, k ≠ lnKey (s.pondLine u) 0x308 → t.reg k = s.reg k)
        ∧ t.reg (lnKey (s.pondLine u) 0x308) = ringHead i n ((s.reg (lnKey (s.pondLine u) 0x308)).flag 20) := by
  have hexec : exec (.phase u) s = runU (fun s => s.issueRow u (isOp 0x78) iPhase) s := rfl
  have hissue := (iPhase_of_empty (w := w) he).trans (congrArg (State.adv · u.val) (phaseMark_eq s.clean u w))
  have hword (b : Bool) : phaseWord s.clean u w b = phaseWord s u w b := by simp only [phaseWord, clean_pond]
  simp only [hword] at hissue
  obtain ⟨t, hstored, heq⟩ := appendRing_of_writable (s := s.clean)
    (rec := fun wrap => (BitVec.ofNat 64 s.time, phaseWord s u w wrap)) hon hn hi ha hhost (writable_clean hw)
  replace hissue := hissue.trans (congrArg (State.adv · u.val) heq)
  have hpond (v : Nat) : t.pond v = s.pond v := keeps_of_unwritten hstored.frame (State.pond · v) fun _ => rfl
  have hreg (k : Nat) : t.reg k = s.reg k := by
    have hregs : t.regs = s.regs := keeps_of_unwritten hstored.frame State.regs fun _ => rfl
    rw [State.reg, hregs, State.reg]
  have hmisuse : t.misuse = none := keeps_of_unwritten hstored.frame State.misuse fun _ => rfl
  generalize lnKey (s.pondLine u) 0x308 = key at *
  obtain ⟨r, hr⟩ : ∃ r, t.setReg key (ringHead i n ((s.reg key).flag 20)) = r := ⟨_, rfl⟩
  have hself : r.reg key = ringHead i n ((s.reg key).flag 20) := by rw [← hr, reg_setReg_self]
  have hothers (k : Nat) (hk : k ≠ key) : r.reg k = s.reg k := by rw [← hr, reg_setReg_ne _ _ hk, hreg]
  have hframe : { r with regs := t.regs } = t := by
    rw [← hr]
    exact regFrame_setReg t key _
  have hkeep {α : Type} (p : State → α) (hp : ∀ x rs, p { x with regs := rs } = p x) : p r = p t :=
    keeps_of_regFrame hframe p hp
  have hrpond (v : Nat) : r.pond v = s.pond v := (hkeep (State.pond · v) fun _ _ => rfl).trans (hpond v)
  have hseen (b : Nat) : seen r b = seen t b := hkeep (seen · b) fun _ _ => rfl
  have hadv : r.adv u = r.modPond u onward :=
    adv_of_follows (by rw [hrpond]; exact h.mode) (by rw [hrpond]; exact hf)
  replace hissue : iPhase s.clean u w = r.modPond u onward := by
    rw [← hadv, ← hr]
    exact hissue
  have hafter : (r.modPond u onward).pond u = onward (s.pond u) := by rw [pond_modPond_self, hrpond]
  have hstays (b : Nat) : seen ((r.modPond u onward).keeping s) b = seen t b := hseen b
  refine gives_of_issue hexec h (beq_iff_eq.mpr hop) (t := r.modPond u onward) ?_ ((hkeep State.misuse fun _ _ => rfl).trans hmisuse)
    ⟨hafter, fun k hk => (pond_modPond_ne r onward hk).trans (hrpond k), ?_, ?_, ?_, hothers, hself⟩
  · rw [hissue]
    exact pump_of_quiescent (hafter.symm ▸ quiescent_onward (quiescent_of_atInsn h he))
  · rw [wordAt_congr hstays]
    exact wordAt_of_stored hstored (i := 0) Nat.zero_lt_two
  · rw [wordAt_congr hstays]
    exact wordAt_of_stored hstored (i := 1) Nat.one_lt_two
  · exact fun x hx hout => (hstays x).trans (hstored.outside x hx (by simpa using hout))

end

/-- Settles O9: a release, an REL or a PHASE that finds the engines empty takes effect in the step that issues it. -/
theorem releaseInstructions : Obligations.ReleaseInstructions := by
  unfold Obligations.ReleaseInstructions
  intro s u w h he hf p op l i v src head size at_ ring
  refine ⟨fun hop hirq => signal_gives_quiet h he hf hop hirq, fun hop hirq hroute _ => signal_gives_irq h he hf hop hirq hroute,
    fun hop a c ha hlen hquiet hc hin => sadd_gives h he hf hop ha hlen hquiet hc hin,
    fun hop k hk hfull => rel_gives h he hf hop hk hfull, fun hop hoff => phase_gives_off h he hf hop hoff,
    fun hop hon hhost hw => ?_⟩
  refine gives_mono (phase_gives_ring h he hf hop hon rfl rfl rfl hhost hw) fun t ht => ?_
  obtain ⟨hpond, hothers, htime, hword, hout, hregs, hhead⟩ := ht
  have hsize : size ≤ 2 ^ 19 := by
    have hlog : s.fld (lnKey l 0x300) 0 4 < 2 ^ 4 := Nat.mod_lt _ (by decide)
    exact Nat.pow_le_pow_right (by decide) (by omega)
  have hfields := ringHead_fields (Nat.mod_lt (head.field 0 20) (Nat.two_pow_pos _) : at_ < size) hsize (head.flag 20)
  refine ⟨hpond, hothers, htime, hword, hout, hregs, ?_, ?_⟩
  · rw [State.fld, hhead]
    exact hfields.1
  · rw [State.flag, hhead]
    exact hfields.2

end Sys2Proof.Proofs
end

section
/-!
PROOFS. The end of a program for a cause (R173, R180, R184, R188, R190): its pond is idle at once where its engines are empty, and
PD_FAULT names the cause.
-/
namespace Sys2Proof.Proofs

open Sys2Proof Sys2Proof.Machine Sys2Proof.Safety Sys2Proof.Laws

/-! PD_FAULT and the interrupt of R417. -/

/-- The source of a pond's interrupt (R417). -/
def pondSource (s : State) (u : Nat) : Nat := 0x40 + 8 * s.place (u / 8) + u % 8

theorem pondSource_lt (s : State) (u : Nat) : pondSource s u < 512 := by
  have := place_le s (u / 8)
  unfold pondSource
  omega

/-- From `s` to `r`, a program of pond `u` that ended with `status` at `pc` has been reported, and nothing else but registers
and the wake of the Line has changed. -/
structure Reported (s r : State) (u status pc : Nat) : Prop where
  fault : r.reg (pdKey u 0x60) = BitVec.ofNat 64 (status + pc % 2 ^ 13 * 2 ^ 8)
  pond : ∀ v, r.pond v = s.pond v
  mem : r.mem = s.mem
  misuse : r.misuse = s.misuse
  route : RouteOff r (r.pondLine u) (pondSource r u)

theorem pdKey_ne {u off off' : Nat} (h : off ≠ off') : pdKey u off ≠ pdKey u off' := by
  unfold pdKey bKey
  omega

/-- A source that goes to no core still goes to none once it is pending. -/
theorem routeOff_raise {s : State} {l src : Nat} (h : RouteOff s l src) : RouteOff (s.raise l src) l src := by
  rw [raise_of_routeOff h, RouteOff, flag_setFlag_ne _ _ (by decide) (by decide)]
  exact (keeps_of_calm (calm_wakeExit s l) (State.flag · (routeKey l src) 31) fun _ => rfl).trans h

theorem regFrame_setReg_setReg (t : State) (k : Nat) (v : Word) (k' : Nat) (v' : Word) :
    { (t.setReg k v).setReg k' v' with regs := t.regs } = t := rfl

theorem reported_of_routeOff {s : State} {u : Nat} (h : RouteOff s (s.pondLine u) (pondSource s u)) (f : PondEnd) :
    Reported s (faultReported s u f) u f.status f.pc := by
  have hsrc : pondSource s u < 512 := pondSource_lt s u
  obtain ⟨t, ht⟩ : ∃ t, s.pdFault u f.status f.pc (if f.status = 0x20 ∨ f.status = 0x21 then signVa f.faultVa else 0) = t :=
    ⟨_, rfl⟩
  have hframe : { t with regs := s.regs } = s := by
    rw [← ht, State.pdFault]
    exact regFrame_setReg_setReg s _ _ _ _
  have hothers (k : Nat) (h60 : k ≠ pdKey u 0x60) (h68 : k ≠ pdKey u 0x68) : t.reg k = s.reg k := by
    rw [← ht, State.pdFault, reg_setReg_ne _ _ h68, reg_setReg_ne _ _ h60]
  have hfault : t.reg (pdKey u 0x60) = BitVec.ofNat 64 (f.status + f.pc % 2 ^ 13 * 2 ^ 8) := by
    rw [← ht, State.pdFault, reg_setReg_ne _ _ (pdKey_ne (by decide)), reg_setReg_self]
  have hreport : faultReported s u f = t.raise (s.pondLine u) (pondSource s u) := by
    rw [faultReported, ht, pondSource]
  have hoff : RouteOff t (s.pondLine u) (pondSource s u) := by
    rw [RouteOff, State.flag, hothers _ (pdKey_ne_routeKey (by decide) hsrc).symm (pdKey_ne_routeKey (by decide) hsrc).symm]
    exact h
  have hkeep {α : Type} (p : State → α) (hreg : ∀ y k v, p (State.setReg y k v) = p y) (hregs : ∀ y rs, p { y with regs := rs } = p y)
      (hcalm : ∀ y, p (calm y) = p y) : p (faultReported s u f) = p s := by
    rw [hreport, raise_keeps_of_routeOff hoff p hreg hcalm, keeps_of_regFrame hframe p hregs]
  refine ⟨?_, fun v => ?_, ?_, ?_, ?_⟩
  · rw [hreport, reg_raise_of_routeOff hoff (pdKey_ne_routeKey (by decide) hsrc), hfault]
  · exact hkeep (State.pond · v) (fun _ _ _ => rfl) (fun _ _ => rfl) fun _ => rfl
  · exact hkeep State.mem (fun _ _ _ => rfl) (fun _ _ => rfl) fun _ => rfl
  · exact hkeep State.misuse (fun _ _ _ => rfl) (fun _ _ => rfl) fun _ => rfl
  · have hline : (faultReported s u f).pondLine u = s.pondLine u :=
      hkeep (State.pondLine · u) (fun _ _ _ => rfl) (fun _ _ => rfl) fun _ => rfl
    have hplace : pondSource (faultReported s u f) u = pondSource s u :=
      hkeep (pondSource · u) (fun _ _ _ => rfl) (fun _ _ => rfl) fun _ => rfl
    rw [hline, hplace, hreport]
    exact routeOff_raise hoff

theorem faultWord_fields {status : Nat} (h : status < 2 ^ 8) (pc : Nat) :
    Word.field (BitVec.ofNat 64 (status + pc % 2 ^ 13 * 2 ^ 8)) 0 8 = status
      ∧ Word.field (BitVec.ofNat 64 (status + pc % 2 ^ 13 * 2 ^ 8)) 8 13 = pc % 2 ^ 13 := by
  simp only [Word.field, BitVec.toNat_ofNat, bits, Nat.shiftRight_eq_div_pow]
  omega

/-! A program that is cut. -/

/-- A pond whose program has been cut with a status, with its engines empty, is idle, and the cause is reported. -/
theorem reported_of_ended {s t : State} {u : Nat} {p : Pond} {f : PondEnd} (h : t = s.modPond u fun _ => ended p f)
    (hrec : p.recDpa = none) (hdone : p.cur.doneEn = false) (hstatus : f.status ≠ 0)
    (hroute : RouteOff s (s.pondLine u) (pondSource s u)) :
    Reported (vacated t u) (t.finishProgram u) u f.status f.pc ∧ (vacated t u).mem = s.mem ∧ (vacated t u).misuse = s.misuse
      ∧ (vacated t u).pond u = p.afterProgram := by
  subst h
  have hpond : (s.modPond u fun _ => ended p f).pond u = ended p f := pond_modPond_self s u _
  have hkeep {α : Type} (g : State → α) (hg : ∀ x ps gs, g { x with ponds := ps, grids := gs } = g x) :
      g (vacated (s.modPond u fun _ => ended p f) u) = g s :=
    (vacated_keeps _ u g hg).trans (hg s _ s.grids)
  have hplace : pondSource (vacated (s.modPond u fun _ => ended p f) u) u = pondSource s u :=
    hkeep (pondSource · u) fun _ _ _ => rfl
  have hline : (vacated (s.modPond u fun _ => ended p f) u).pondLine u = s.pondLine u :=
    hkeep (State.pondLine · u) fun _ _ _ => rfl
  refine ⟨?_, hkeep State.mem fun _ _ _ => rfl, hkeep State.misuse fun _ _ _ => rfl, ?_⟩
  · rw [finishProgram_of_ended hpond hrec hdone, bne_iff_ne.mpr hstatus, when_true]
    refine reported_of_routeOff ?_ f
    rw [hplace, hline]
    exact (hkeep (State.flag · (routeKey (s.pondLine u) (pondSource s u)) 31) fun _ _ _ => rfl).trans hroute
  · rw [pond_vacated_self, hpond]
    rfl

end Sys2Proof.Proofs
end

section
/-!
PROOFS. The events of a sequencer (R143, R150, R170, R173, R174, R179, R184, R192).
-/
namespace Sys2Proof.Proofs

open Sys2Proof Sys2Proof.Machine Sys2Proof.Safety Sys2Proof.Laws

/-! A start of a transfer that has no place yet (R174). -/

/-- The work item of an XSTART. -/
def xstartItem (p : Pond) (w : Word) : PondOp := { p.item w with x := p.sreg (w.field 47 5) }

theorem clear_xsQ {p : Pond} (h : p.xsQ = []) : { p with xsQ := [] } = p := by
  cases p
  cases h
  rfl

/-- The pond goes on with one item in the queue of its transfer start port. -/
theorem iXstart_of_empty {s : State} {u : Nat} (w : Word) (hxs : (s.pond u).xsQ = []) (hst : s.lineStOf (u / 8) ≠ .stopping) :
    iXstart s u w = (s.modPond u fun p => { p with xsQ := [xstartItem (s.pond u) w] }).adv u := by
  have hroom : ¬ (decide (4 ≤ (s.pond u).xsQ.length) || s.lineStOf (u / 8) == .stopping) = true := by simp [hxs, hst]
  refine (if_neg hroom).trans (congrArg (State.adv · u) (modPond_congr ?_))
  rw [hxs]
  rfl

theorem onlyPond_toXstart {s t : State} {u : Nat} {q : Pond} {o : PondOp} (ht : OnlyPond s t u q) (hmode : q.mode = .run)
    (hf : Follows q) : OnlyPond s ((t.modPond u fun p => { p with xsQ := [o] }).adv u) u { onward q with xsQ := [o] } :=
  onlyPond_adv (onlyPond_modPond ht fun p => { p with xsQ := [o] }) hmode hf

/-- Without a place in the channel the transfer start port waits, and so do the engines. -/
theorem pump_of_no_place {t : State} {u : Nat} {q : Pond} {o : PondOp} (hpond : t.pond u = { q with xsQ := [o] })
    (hq : Quiescent q) (hroom : t.chanRoom (u / 8 * 16 + o.insn.field 52 4) = false) : t.pump u = t := by
  obtain ⟨hmode, hwait, hA, hB, hG, hV, hS, hX, hP⟩ := hq
  have hunfed : Unfed (t.pond u) := by
    rw [hpond]
    exact ⟨hA, hB, hG⟩
  have hxs : t.runXstart u = (false, t) := by
    unfold State.runXstart
    simp only [hpond, hroom, Bool.false_eq_true, if_false]
  have hround : t.engineRound u = (false, t) := by
    simp only [engineRound_of_unfed hunfed, runVec_of_nil (show (t.pond u).vecQ = [] by rw [hpond]; exact hV),
      runStore_of_nil (show (t.pond u).storeQ = [] by rw [hpond]; exact hS), hxs,
      runPosted_of_nil (show (t.pond u).posted = [] by rw [hpond]; exact hP),
      runDrain_of_wait (show (t.pond u).wait ≠ .drain by rw [hpond]; exact hwait), Bool.or_false]
  unfold State.pump
  split
  · rw [engineRounds_of_still 63 hround, tryFinish_of_run (by rw [hpond]; exact hmode)]
  · rfl

theorem issueWith_of_atInsn {s : State} {u : Nat} {w : Word} (h : AtInsn s u w) (f : State → Nat → Word → State) :
    s.issueWith u f = (f s u w).pump u := by
  have hrow := issueRow_of_atInsn h (sel := fun _ => true) rfl f
  have hgo : (s.mayIssue u .none && true) = true := by simp [State.mayIssue, h.works, h.mode, h.wait]
  rwa [State.issueRow, if_pos hgo] at hrow

/-! The slots whose release ends (R192). -/

/-- Slot `k` is freed where its release has begun and no earlier read of its tile is pending. -/
def freeReleased (p : Pond) (k : Nat) : Pond :=
  if (p.slot k).st = .releasing ∧ p.ticketReadPending (p.slot k).ticket (p.slot k).relSeq = false then
    p.modSlot k fun _ => {}
  else p

theorem freeReleased_keeps {α : Type} (g : Pond → α) (hg : ∀ p sl, g { p with slots := sl } = g p) (p : Pond) (k : Nat) :
    g (freeReleased p k) = g p := by
  unfold freeReleased
  split
  · exact hg p _
  · rfl

/-- A pond with no reads pending. -/
structure Unread (p : Pond) : Prop where
  vecQ : p.vecQ = []
  storeQ : p.storeQ = []
  gridQ : p.gridQ = []

theorem unread_freeReleased {p : Pond} (h : Unread p) (k : Nat) : Unread (freeReleased p k) :=
  ⟨(freeReleased_keeps Pond.vecQ (fun _ _ => rfl) p k).trans h.vecQ,
    (freeReleased_keeps Pond.storeQ (fun _ _ => rfl) p k).trans h.storeQ,
    (freeReleased_keeps Pond.gridQ (fun _ _ => rfl) p k).trans h.gridQ⟩

/-- A slot once its release has ended. -/
def freed (sl : Slot) : Slot := if sl.st = .releasing then {} else sl

theorem freed_freed (sl : Slot) : freed (freed sl) = freed sl := by
  unfold freed
  split
  · rfl
  next => rfl

theorem slot_freeReleased {p : Pond} (h : Unread p) (k j : Nat) :
    (freeReleased p k).slot j = if j = k then freed (p.slot j) else p.slot j := by
  have hread (t seq : Nat) : p.ticketReadPending t seq = false := by
    simp [Pond.ticketReadPending, Pond.tileOps, Pond.mmas, h.vecQ, h.storeQ, h.gridQ]
  unfold freeReleased freed
  simp only [hread, and_true]
  by_cases hj : j = k
  · subst hj
    rw [if_pos rfl]
    split
    · exact slot_modSlot_self p j _
    · rfl
  · rw [if_neg hj]
    split
    · exact slot_modSlot_ne p _ hj
    · rfl

theorem slot_freeReleased_all {p : Pond} (h : Unread p) (ks : List Nat) (j : Nat) :
    (ks.foldl freeReleased p).slot j = if j ∈ ks then freed (p.slot j) else p.slot j := by
  induction ks generalizing p with
  | nil => rw [if_neg List.not_mem_nil, List.foldl_nil]
  | cons k ks ih =>
    rw [List.foldl_cons, ih (unread_freeReleased h k), slot_freeReleased h]
    by_cases hj : j = k <;> by_cases hks : j ∈ ks <;> simp [hj, hks, freed_freed]

/-! A program that is cut (R173, R184). -/

/-- What a program that is cut with `status` leaves. -/
structure Cut (s t : State) (u status : Nat) : Prop where
  pond : t.pond u = { (s.pond u).afterProgram with limitHit := (s.pond u).limitHit || status == 0x23 }
  status : (t.reg (pdKey u 0x60)).field 0 8 = status
  pc : (t.reg (pdKey u 0x60)).field 8 13 = (s.pond u).pc % 2 ^ 13
  mem : t.mem = s.mem

/-- A program that has been cut finishes at once where its engines are empty. -/
theorem finishes_of_ended {t : State} {u : Nat} {p : Pond} {f : PondEnd} (hworks : t.pondWorks u = true)
    (hpond : t.pond u = ended p f) (he : EnginesEmpty p) :
    t.tryFinish u = t.finishProgram u ∧ t.pump u = t.finishProgram u := by
  have hempty : EnginesEmpty (t.pond u) := by
    rw [hpond]
    exact enginesEmpty_ended he f
  have hfinish : t.tryFinish u = t.finishProgram u :=
    tryFinish_of_ending (not_failed_of_works hworks) hempty (by rw [hpond]; rfl)
  refine ⟨hfinish, ?_⟩
  rw [pump_of_engines_empty hworks hempty (by rw [hpond]; exact nofun) (by rw [hpond]; exact nofun), hfinish]

theorem cut_of_ended {s b t : State} {u : Nat} {p : Pond} {f : PondEnd} (h : t = b.modPond u fun _ => ended p f)
    (hrec : p.recDpa = none) (hdone : p.cur.doneEn = false) (hlow : 0 < f.status ∧ f.status < 2 ^ 8)
    (hroute : RouteOff b (b.pondLine u) (pondSource b u)) (hmem : b.mem = s.mem) (hmisuse : b.misuse = none)
    (hpc : f.pc = (s.pond u).pc)
    (hp : p.afterProgram = { (s.pond u).afterProgram with limitHit := (s.pond u).limitHit || f.status == 0x23 }) :
    (t.finishProgram u).misuse = none ∧ Cut s (t.finishProgram u) u f.status := by
  obtain ⟨hreported, hvmem, hvmisuse, hvpond⟩ := reported_of_ended h hrec hdone (Nat.pos_iff_ne_zero.mp hlow.1) hroute
  have hfields := faultWord_fields hlow.2 f.pc
  refine ⟨hreported.misuse.trans (hvmisuse.trans hmisuse), ?_, ?_, ?_, hreported.mem.trans (hvmem.trans hmem)⟩
  · rw [hreported.pond, hvpond, hp]
  · rw [hreported.fault, hfields.1]
  · rw [hreported.fault, hfields.2, hpc]

theorem cut_keeping {s t b : State} {u status : Nat} (h : Cut s t u status) : Cut s (t.keeping b) u status :=
  ⟨h.pond, h.status, h.pc, h.mem⟩

/-- The pond of a program that is cut, which PD_RUN_LIMIT marks. -/
def cutPond (p : Pond) (status : Nat) : Pond := { p with limitHit := p.limitHit || status == 0x23 }

theorem cutProgram_of_run {s : State} {u : Nat} (hmode : (s.pond u).mode = .run) (status : Nat) : ∃ b f, f.status = status
    ∧ f.pc = (s.pond u).pc ∧ OnlyPond s b u (cutPond (s.pond u) status)
    ∧ s.cutProgram u status = (b.modPond u fun _ => ended (cutPond (s.pond u) status) f).tryFinish u := by
  have hflag : OnlyPond s (s.when (status == 0x23) (·.modPond u fun p => { p with limitHit := true })) u
      (cutPond (s.pond u) status) := by
    cases hst : status == 0x23 with
    | false =>
      rw [when_false, cutPond, hst, Bool.or_false]
      exact onlyPond_refl s u
    | true =>
      rw [when_true, cutPond, hst, Bool.or_true]
      exact onlyPond_modPond (onlyPond_refl s u) fun p => { p with limitHit := true }
  refine ⟨_, { (s.pond u).fin with status := status, pc := (s.pond u).pc, code := 0, faultVa := 0 }, rfl, rfl, hflag, ?_⟩
  have hcut : s.cutProgram u status = ((s.when (status == 0x23) (·.modPond u fun p => { p with limitHit := true })).modPond u
      fun p => { p with
        mode := .ending, wait := .none
        fin := { p.fin with status := status, pc := p.pc, code := 0, faultVa := 0 } }).tryFinish u := by
    rw [State.cutProgram]
    simp only [hmode]
    rfl
  rw [hcut]
  refine congrArg (State.tryFinish · u) (modPond_congr ?_)
  rw [hflag.1]
  rfl

/-- A running program with empty engines that is cut ends at once. -/
theorem cut_cutProgram {s : State} {u : Nat} {status : Nat} (hworks : s.pondWorks u = true) (hmode : (s.pond u).mode = .run)
    (he : EnginesEmpty (s.pond u)) (hrec : (s.pond u).recDpa = none) (hdone : (s.pond u).cur.doneEn = false)
    (hroute : RouteOff s (s.pondLine u) (pondSource s u)) (hlow : 0 < status ∧ status < 2 ^ 8) (hmisuse : s.misuse = none) :
    (s.cutProgram u status).misuse = none ∧ Cut s (s.cutProgram u status) u status := by
  obtain ⟨b, f, rfl, hpc, hb, hcut⟩ := cutProgram_of_run hmode status
  have hkeep {α : Type} (p : State → α) (hp : ∀ x ps, p { x with ponds := ps } = p x) : p b = p s := keeps_of_onlyPond hb p hp
  have hempty : EnginesEmpty (cutPond (s.pond u) f.status) :=
    ⟨he.feedA, he.feedB, he.gridQ, he.vecQ, he.storeQ, he.xsQ, he.posted⟩
  have hpond : (b.modPond u fun _ => ended (cutPond (s.pond u) f.status) f).pond u = ended (cutPond (s.pond u) f.status) f :=
    pond_modPond_self b u _
  have hworks' : (b.modPond u fun _ => ended (cutPond (s.pond u) f.status) f).pondWorks u = true :=
    (hkeep (State.pondWorks · u) fun _ _ => rfl).trans hworks
  rw [hcut, (finishes_of_ended hworks' hpond hempty).1]
  exact cut_of_ended rfl hrec hdone hlow
    ((hkeep (fun x => x.flag (routeKey (x.pondLine u) (pondSource x u)) 31) fun _ _ => rfl).trans hroute)
    (hkeep State.mem fun _ _ => rfl) ((hkeep State.misuse fun _ _ => rfl).trans hmisuse) hpc rfl

section
variable {s : State} {u : PondId} (hworks : s.pondWorks u = true) (hmode : (s.pond u).mode = .run)
  (he : EnginesEmpty (s.pond u))
include hworks hmode he

/-! ENGINE_QUEUE_ROOM (R143). -/

theorem engineQueueRoom_gives {w : Word} (hwait : (s.pond u).wait = .queueRoom)
    (hjob : s.jobEnded (s.pondLine u) (s.pond u).cur.job = false) (hw : (s.pond u).insnAt (s.pond u).pc = w)
    (hop : w.field 56 8 = 0x70) (hfields : reservedSet w = false) (hf : Follows (s.pond u))
    (hst : s.lineStOf (u / 8) ≠ .stopping) (hroom : s.chanRoom (u / 8 * 16 + w.field 52 4) = false) :
    Gives (.engineQueueRoom u) s fun t =>
      OnlyPond s t u { onward (s.pond u) with xsQ := [xstartItem (s.pond u) w] } := by
  obtain ⟨t, ht⟩ : ∃ t, s.clean.modPond u (fun p => { p with wait := .none }) = t := ⟨_, rfl⟩
  have hready : OnlyPond s.clean t u { s.pond u with wait := .none } := by
    rw [← ht]
    exact onlyPond_modPond (onlyPond_refl s.clean u) fun p => { p with wait := .none }
  have hq : Quiescent { s.pond u with wait := .none } :=
    ⟨hmode, nofun, he.feedA, he.feedB, he.gridQ, he.vecQ, he.storeQ, he.xsQ, he.posted⟩
  have hissue : issueAny t u w = iXstart t u w := by
    simp only [issueAny, hop]
    rfl
  have hat : AtInsn t u w := by
    have hkeep {α : Type} (p : State → α) (hp : ∀ x ps, p { x with ponds := ps } = p x) := keeps_of_onlyPond hready p hp
    obtain ⟨hpond, -⟩ := hready
    refine ⟨(hkeep (State.pondWorks · u) fun _ _ => rfl).trans hworks, ?_, ?_, ?_, hfields, ?_⟩ <;> rw [hpond]
    · exact hmode
    · exact hw
    · exact (hkeep (fun x => x.jobEnded (x.pondLine u) (s.pond u).cur.job) fun _ _ => rfl).trans hjob
  have hitem : iXstart t u w = (t.modPond u fun p => { p with xsQ := [xstartItem (s.pond u) w] }).adv u := by
    rw [iXstart_of_empty w (by rw [hready.1]; exact he.xsQ)
      (by rw [keeps_of_onlyPond hready (State.lineStOf · (u / 8)) fun _ _ => rfl]; exact hst), hready.1]
    rfl
  have hafter : OnlyPond s.clean (iXstart t u w) u { onward (s.pond u) with xsQ := [xstartItem (s.pond u) w] } := by
    rw [hitem]
    have hnext := onlyPond_toXstart (o := xstartItem (s.pond u) w) hready hmode hf
    exact hnext
  have hpump : (iXstart t u w).pump u = iXstart t u w := by
    refine pump_of_no_place (q := onward { s.pond u with wait := .none }) hafter.1 (quiescent_onward hq) ?_
    exact (keeps_of_onlyPond hafter (State.chanRoom · _) fun _ _ => rfl).trans hroom
  have hgo : s.clean.mayIssue u .queueRoom = true := by simp [State.mayIssue, hmode, hwait, show s.clean.pondWorks u = true from hworks]
  have hexec : exec (.engineQueueRoom u) s = runU (fun s => s.queueRoom u) s := rfl
  have hrun : s.clean.queueRoom u = iXstart t u w := by
    have hstill : s.clean.pump u = s.clean := pump_of_empty he (by rw [clean_pond, hwait]; exact nofun) hmode
    rw [State.queueRoom, hstill, if_pos hgo, ht, issueWith_of_atInsn hat, hissue, hpump]
  exact gives_of_runU hexec hrun (keeps_of_onlyPond hafter State.misuse fun _ _ => rfl) (onlyPond_keeping hafter)

/-! WAIT_DONE and SWAIT_SATISFIED (R145, R150, R170, R171). -/

omit hworks in
/-- A wait that is over lets the program go on. -/
theorem gives_of_wait_over {c : Instr} {f : State → State} {st : Tbl StaleGranule} (hexec : exec c s = runU f s)
    (hrun : f s.clean = ((s.clean.modPond u (staled · st)).adv u).pump u) (hwait : (s.pond u).wait ≠ .drain)
    (hf : Follows (s.pond u)) : Gives c s fun t => OnlyPond s t u (onward (staled (s.pond u) st)) := by
  have hq : Quiescent (s.pond u) := ⟨hmode, hwait, he⟩
  have hadv : OnlyPond s.clean ((s.clean.modPond u (staled · st)).adv u) u (onward (staled (s.pond u) st)) :=
    onlyPond_adv (onlyPond_modPond (onlyPond_refl s.clean u) (staled · st)) hmode hf
  refine gives_of_runU hexec (hrun.trans (pump_of_quiescent ?_)) (keeps_of_onlyPond hadv State.misuse fun _ _ => rfl)
    (onlyPond_keeping hadv)
  rw [hadv.1]
  exact quiescent_onward (quiescent_staled hq st)

theorem waitDone_gives {m : Nat} (hwait : (s.pond u).wait = .classes m) (hf : Follows (s.pond u)) :
    Gives (.waitDone u) s fun t =>
      OnlyPond s t u (onward (staled (s.pond u) (if m.testBit 5 then [] else (s.pond u).stale))) := by
  have hdrain : (s.pond u).wait ≠ .drain := by
    rw [hwait]
    exact nofun
  have hexec : exec (.waitDone u) s = runU (fun s => s.waitDone u) s := rfl
  refine gives_of_wait_over hmode he hexec ?_ hdrain hf
  have hstill : s.clean.pump u = s.clean := pump_of_empty he hdrain hmode
  have hgo : (s.clean.pondWorks u && (s.clean.pond u).mode == .run && (s.clean.pond u).classesDone m) = true := by
    simp [hmode, show s.clean.pondWorks u = true from hworks, classesDone_of_empty he]
  rw [State.waitDone, hstill]
  simp only [clean_pond, hwait] at hgo ⊢
  exact if_pos hgo

theorem swaitSatisfied_gives {i v : Nat} (hwait : (s.pond u).wait = .sync i v)
    (hreached : s.counterReached (s.pondLine u) i v = true) (hf : Follows (s.pond u)) :
    Gives (.swaitSatisfied u) s fun t => OnlyPond s t u (onward (staled (s.pond u) (freshStale s u))) := by
  have hdrain : (s.pond u).wait ≠ .drain := by
    rw [hwait]
    exact nofun
  have hexec : exec (.swaitSatisfied u) s = runU (fun s => s.swaitOver u) s := rfl
  refine gives_of_wait_over hmode he hexec ?_ hdrain hf
  have hgo : (s.clean.pondWorks u && (s.clean.pond u).mode == .run && s.clean.counterReached (s.clean.pondLine u) i v) = true := by
    simp [hmode, show s.clean.pondWorks u = true from hworks, show s.clean.counterReached (s.clean.pondLine u) i v = true from hreached]
  rw [State.swaitOver]
  simp only [clean_pond, hwait] at hgo ⊢
  exact if_pos hgo

/-! RELEASE_END (R192). -/

theorem releaseEnd_gives (hwait : (s.pond u).wait ≠ .drain) : Gives (.releaseEnd u) s fun t =>
    { t with ponds := s.ponds } = s ∧ ∀ k < 8, (t.pond u).slot k = freed ((s.pond u).slot k) := by
  obtain ⟨q, hq⟩ : ∃ q, (List.range 8).foldl freeReleased (s.pond u) = q := ⟨_, rfl⟩
  have hslots (k : Nat) (hk : k < 8) : q.slot k = freed ((s.pond u).slot k) := by
    rw [← hq, slot_freeReleased_all ⟨he.vecQ, he.storeQ, he.gridQ⟩, if_pos (List.mem_range.mpr hk)]
  have hrun : q.mode = .run := by
    rw [← hq, List.foldlRecOn (motive := fun p => p.mode = (s.pond u).mode) (List.range 8) freeReleased rfl
      fun p hp k _ => (freeReleased_keeps Pond.mode (fun _ _ => rfl) p k).trans hp]
    exact hmode
  have hafter : OnlyPond s.clean (s.clean.modPond u fun p => (List.range 8).foldl freeReleased p) u q := by
    have h := onlyPond_modPond (onlyPond_refl s.clean u) fun p => (List.range 8).foldl freeReleased p
    rwa [clean_pond, hq] at h
  have hexec : exec (.releaseEnd u) s = runU (fun s => s.releaseEnd u) s := rfl
  have heq : s.clean.releaseEnd u = s.clean.modPond u fun p => (List.range 8).foldl freeReleased p := by
    have hstill : s.clean.pump u = s.clean := pump_of_empty he hwait hmode
    have hfinish : (s.clean.modPond u fun p => (List.range 8).foldl freeReleased p).tryFinish u
        = s.clean.modPond u fun p => (List.range 8).foldl freeReleased p := tryFinish_of_run (by rw [hafter.1]; exact hrun)
    rw [State.releaseEnd, hstill]
    exact (if_pos hworks).trans hfinish
  obtain ⟨hself, -, hrest⟩ := onlyPond_keeping hafter
  exact gives_of_runU hexec heq (keeps_of_onlyPond hafter State.misuse fun _ _ => rfl)
    ⟨hrest, fun k hk => by rw [hself]; exact hslots k hk⟩

/-! Ends of programs for a cause (R173, R184). -/

variable (hrec : (s.pond u).recDpa = none) (hdone : (s.pond u).cur.doneEn = false)
  (hroute : RouteOff s (s.pondLine u) (pondSource s u))
include hrec hdone hroute

theorem waitTimeout_gives {i v : Nat} (hwait : (s.pond u).wait = .sync i v)
    (hshort : s.counterReached (s.pondLine u) i v = false) (hlimit : s.fld (pdKey u 0x38) 0 32 ≠ 0)
    (hover : (s.pond u).waitFrom + s.fld (pdKey u 0x38) 0 32 * 1000 ≤ s.time) :
    Gives (.waitTimeout u) s fun t => Cut s t u 0x22 := by
  obtain ⟨f, hstatus, hpc, hfail⟩ : ∃ f : PondEnd, f.status = 0x22 ∧ f.pc = (s.pond u).pc
      ∧ s.clean.fail u 0x22 = s.clean.modPond u fun _ => ended (s.pond u) f := ⟨_, rfl, rfl, modPond_congr (if_pos hmode)⟩
  have hpond : (s.clean.fail u 0x22).pond u = ended (s.pond u) f := by rw [hfail, pond_modPond_self]
  have hworks' : (s.clean.fail u 0x22).pondWorks u = true := by
    rw [hfail]
    exact hworks
  have hexec : exec (.waitTimeout u) s = runU (fun s => s.swaitTimeout u) s := rfl
  have hrun : s.clean.swaitTimeout u = (s.clean.fail u 0x22).finishProgram u := by
    have hgo : (s.pondWorks u && (s.pond u).mode == .run && s.fld (pdKey u 0x38) 0 32 != 0
        && decide ((s.pond u).waitFrom + s.fld (pdKey u 0x38) 0 32 * 1000 ≤ s.time)
        && !s.counterReached (s.pondLine u) i v) = true := by simp [hmode, hworks, hlimit, hover, hshort]
    rw [← (finishes_of_ended hworks' hpond he).2, State.swaitTimeout]
    simp only [clean_pond, hwait]
    exact if_pos hgo
  obtain ⟨hmisuse, hcut⟩ := cut_of_ended (s := s) hfail hrec hdone (by rw [hstatus]; decide) hroute rfl rfl hpc (by rw [hstatus]; simp; rfl)
  rw [hstatus] at hcut
  exact gives_of_runU hexec hrun hmisuse (cut_keeping hcut)

theorem runLimit_gives (hlimit : s.fld (pdKey u 0x40) 0 32 ≠ 0)
    (hover : (s.pond u).startTime + s.fld (pdKey u 0x40) 0 32 * 1000000 < s.time) :
    Gives (.runLimit u) s fun t => Cut s t u 0x23 := by
  obtain ⟨hmisuse, hcut⟩ := cut_cutProgram (s := s.clean) (status := 0x23) hworks hmode he hrec hdone hroute (by decide) rfl
  obtain ⟨t, ht⟩ : ∃ t, s.clean.cutProgram u 0x23 = t := ⟨_, rfl⟩
  rw [ht] at hmisuse hcut
  have hidle : t.pump u = t := by
    refine if_neg ?_
    rw [hcut.pond]
    simp [Pond.afterProgram]
  have hexec : exec (.runLimit u) s = runU (fun s => s.runLimit u) s := rfl
  have hrun : s.clean.runLimit u = t := by
    have hgo : (s.pondWorks u && (s.pond u).mode != .idle && s.fld (pdKey u 0x40) 0 32 != 0
        && decide ((s.pond u).startTime + s.fld (pdKey u 0x40) 0 32 * 1000000 < s.time)) = true := by
      simp [hmode, hworks, hlimit, hover]
    rw [← hidle, ← ht]
    exact if_pos hgo
  exact gives_of_runU hexec hrun hmisuse ⟨hcut.pond, hcut.status, hcut.pc, hcut.mem⟩

end

/-! PROGRAM_START (R178, R179). -/

/-- The first argument of a launch is the first scalar register of its program. -/
theorem sreg_start {la : Launch} (p : Pond) (rec : Option Nat) (now : Nat) :
    (p.start la rec now).sreg 1 = la.args.getD 0 0 ∨ la.args = [] := by
  have hlater (as : List Word) : ∀ (k : Nat) (m : Tbl Word), 0 < k →
      tblGet 0 ((as.zipIdx k).foldl (fun m a => tblSet 0 m (a.2 + 1) a.1) m) 1 = tblGet 0 m 1 := by
    induction as with
    | nil => exact fun _ _ _ => rfl
    | cons a as ih =>
      intro k m hk
      rw [List.zipIdx_cons, List.foldl_cons, ih _ _ (Nat.succ_pos k), tblGet_set_ne _ _ _ (by omega)]
  have hsreg : (p.start la rec now).sreg 1
      = tblGet 0 (la.args.zipIdx.foldl (fun m a => tblSet 0 m (a.2 + 1) a.1) []) 1 := rfl
  cases hargs : la.args with
  | nil => exact .inr rfl
  | cons a as =>
    refine .inl ?_
    rw [hsreg, hargs, List.zipIdx_cons, List.foldl_cons, hlater _ _ _ Nat.one_pos, tblGet_set_self]
    rfl

theorem programStart_gives {s : State} {u : PondId} {la : Launch} {rest : List Launch}
    (hlaunches : (s.pond u).launches = la :: rest) (hmode : (s.pond u).mode = .idle)
    (hst : s.lineStOf (u / 8) = .running) (hhold : s.flag (pdKey u 0) 1 = false) (hbusy : s.imemBusy u = false)
    (hjob : s.jobEnded (s.pondLine u) la.job = false) (hrec : la.recVa = 0) (hentry : la.entry < 8192)
    (hknown : knownOpcode (((s.pond u).insnAt la.entry).field 56 8) = true) : Gives (.programStart u) s fun t =>
      OnlyPond s t u ({ s.pond u with launches := rest }.start la none s.time) := by
  have hdue : s.clean.startDue u = true := by
    have h : s.startDue u = true := by simp [State.startDue, hmode, hst, hhold, hbusy]
    exact h
  have htaken : OnlyPond s.clean (s.clean.modPond u fun p => { p with launches := rest }) u { s.pond u with launches := rest } :=
    onlyPond_modPond (onlyPond_refl s.clean u) fun p => { p with launches := rest }
  have hstarted := onlyPond_modPond htaken fun p => p.start la none s.time
  obtain ⟨t, ht⟩ : ∃ t, (s.clean.modPond u fun p => { p with launches := rest }).modPond u
      (fun p => p.start la none s.time) = t := ⟨_, rfl⟩
  rw [ht] at hstarted
  have hstart : s.clean.startProgram u = t := by
    have hgoes : ¬ (s.clean.modPond u fun p => { p with launches := rest }).jobEnded
        ((s.clean.modPond u fun p => { p with launches := rest }).pondLine u) la.job = true := by
      have h : ¬ s.jobEnded (s.pondLine u) la.job = true := by rw [hjob]; exact Bool.false_ne_true
      exact h
    unfold State.startProgram
    simp only [clean_pond, hlaunches]
    rw [if_pos hdue, if_neg hgoes, ← ht]
    simp only [State.recAddr, hrec, if_true]
    rfl
  have hsettle : t.settle u = t := by
    refine settle_of_known ?_ ?_ ?_ <;> rw [hstarted.1]
    exacts [rfl, hentry, hknown]
  have hq : Quiescent (t.pond u) := by
    rw [hstarted.1]
    exact ⟨rfl, nofun, rfl, rfl, rfl, rfl, rfl, rfl, rfl⟩
  have hexec : exec (.programStart u) s = runU (fun s => ((s.startProgram u).settle u).pump u) s := rfl
  have hrun : ((s.clean.startProgram u).settle u).pump u = t := by rw [hstart, hsettle, pump_of_quiescent hq]
  exact gives_of_runU hexec hrun (keeps_of_onlyPond hstarted State.misuse fun _ _ => rfl) (onlyPond_keeping hstarted)

/-- Settles O13: a wait that is over lets the program go on, a program that is cut with its engines empty leaves its pond, and an
idle pond starts its next launch. -/
theorem sequencerEvents : Obligations.SequencerEvents := by
  unfold Obligations.SequencerEvents
  intro s u p l src cutBy
  refine ⟨fun hworks hmode he => ⟨?_, fun m hwait hf => waitDone_gives hworks hmode he hwait hf,
    fun i v hwait hreached hf => swaitSatisfied_gives hworks hmode he hwait hreached hf,
    fun hwait => releaseEnd_gives hworks hmode he hwait, fun hrec hdone hroute => ⟨?_, ?_⟩⟩, ?_⟩
  · exact fun hwait hjob hop hfields hf hst hroom =>
      engineQueueRoom_gives hworks hmode he hwait hjob rfl hop hfields hf hst hroom
  · intro i v hwait hshort hlimit hover
    refine gives_mono (waitTimeout_gives hworks hmode he hrec hdone hroute hwait hshort hlimit hover) fun t ht => ?_
    exact ⟨ht.pond, ht.status, ht.pc, ht.mem⟩
  · intro hlimit hover
    refine gives_mono (runLimit_gives hworks hmode he hrec hdone hroute hlimit hover) fun t ht => ?_
    exact ⟨ht.pond, ht.status, ht.pc, ht.mem⟩
  · intro la rest hlaunches hmode hst hhold hbusy hjob hrec hentry hknown
    refine gives_mono (programStart_gives hlaunches hmode hst hhold hbusy hjob hrec hentry hknown) fun t ht => ⟨ht, ?_⟩
    rw [ht.1]
    exact ⟨rfl, rfl, rfl, sreg_start _ none s.time⟩

end Sys2Proof.Proofs
end

section
/-!
PROOFS. The states of Lines under accesses to memory (R28, R219, R294 to R298, R499): a read reports errors and so wakes Lines, and
leaves every Line in its state.
-/
namespace Sys2Proof.Proofs

open Sys2Proof Sys2Proof.Machine Sys2Proof.Safety Sys2Proof.Laws

/-! The states of all Lines. -/

def lineSts (s : State) (l : Nat) : LnState := (s.line l).st

section
variable (s : State)

theorem lineSts_setReg (k : Nat) (v : Word) : lineSts (s.setReg k v) = lineSts s := rfl
theorem lineSts_freeBytes (n : Nat) : lineSts (s.freeBytes n).2 = lineSts s := rfl
theorem lineSts_noteCorrected (b k : Nat) : lineSts (s.noteCorrected b k).2 = lineSts s := rfl
theorem lineSts_loseGranule (g : Nat) : lineSts (s.loseGranule g) = lineSts s := rfl

theorem lineSts_wakeExit (l : Nat) : lineSts (s.wakeExit l) = lineSts s := by
  funext k
  by_cases hk : k = l
  · rw [hk, lineSts, line_wakeExit_self, Line.woken_st, lineSts]
  · rw [lineSts, line_wakeExit_ne s hk, lineSts]

theorem lineSts_logEvent (code src lines a0 a1 a2 : Nat) : lineSts (s.logEvent code src lines a0 a1 a2) = lineSts s :=
  keeps_of_unreported (unreported_logEvent s code src lines a0 a1 a2) lineSts fun _ => rfl

theorem lineSts_sendMsi (l src : Nat) : lineSts (s.sendMsi l src) = lineSts s := by
  unfold State.sendMsi
  extract_lets r h guest eiid
  have hguest : lineSts (if guest ≤ 7 then (guest, s) else (s.free % 9, s.bump)).2 = lineSts s := by
    split <;> rfl
  generalize (if guest ≤ 7 then (guest, s) else (s.free % 9, s.bump)) = o at hguest
  split
  · rfl
  · split
    · rfl
    · split
      · dsimp only
        generalize (if r.flag 7 then 0 else 1 + o.1) = file
        split <;> exact hguest
      · exact lineSts_setReg s _ _

theorem lineSts_raise (l src : Nat) : lineSts (s.raise l src) = lineSts s := by
  refine Eq.trans ?_ (lineSts_wakeExit s l)
  unfold State.raise State.route
  split
  · exact lineSts_sendMsi _ l src
  · exact lineSts_setReg _ _ _

theorem lineSts_queueRow (b c row : Nat) : lineSts (s.queueRow b c row) = lineSts s := by
  unfold State.queueRow
  split <;> rfl

theorem lineSts_takeSubarray (b bank sub : Nat) : lineSts (s.takeSubarray b bank sub) = lineSts s := by
  unfold State.takeSubarray
  extract_lets m running
  split
  · rfl
  · split
    · exact lineSts_setReg s _ _
    · rfl

theorem lineSts_reportUe (b : Nat) (w : Word) (k : Nat) : lineSts (s.reportUe b w k) = lineSts s := by
  unfold State.reportUe State.when
  split
  · rw [lineSts_raise, lineSts_logEvent]
  · exact lineSts_logEvent s _ _ _ _ _ _

theorem lineSts_noted {f : State → State} (hf : ∀ t, lineSts (f t) = lineSts t) (b k m : Nat) :
    lineSts (match s.noteCorrected b k with | (n, t) => if m < n then f t else t) = lineSts s := by
  dsimp only
  split
  · exact (hf _).trans (lineSts_noteCorrected s b k)
  · exact lineSts_noteCorrected s b k

theorem lineSts_eccFixed (scrub : Bool) (g : Nat) : lineSts (s.eccFixed scrub g) = lineSts s := by
  unfold State.eccFixed
  split
  · exact (lineSts_noted _ (fun t => lineSts_queueRow t _ _ _) _ _ _).trans
      ((lineSts_setReg _ _ _).trans (lineSts_setReg s _ _))
  · exact (lineSts_noted _ (fun t => lineSts_takeSubarray t _ _ _) _ _ _).trans
      ((lineSts_setReg _ _ _).trans (lineSts_setReg s _ _))
  · rfl

theorem lineSts_eccLost (scrub : Bool) (g : Nat) : lineSts (s.eccLost scrub g) = lineSts s := by
  have hlost (k k' : Nat) (v v' : Word) : lineSts (((s.loseGranule g).setReg k v).setReg k' v') = lineSts s :=
    (lineSts_setReg _ _ _).trans ((lineSts_setReg _ _ _).trans (lineSts_loseGranule s g))
  unfold State.eccLost
  split
  · exact (lineSts_queueRow _ _ _ _).trans ((lineSts_logEvent _ _ _ _ _ _ _).trans
      ((lineSts_reportUe _ _ _ _).trans (hlost _ _ _ _)))
  · exact (lineSts_takeSubarray _ _ _ _).trans ((lineSts_reportUe _ _ _ _).trans (hlost _ _ _ _))
  · rfl

theorem lineSts_eccRead (scrub : Bool) (g : Nat) : lineSts (s.eccRead scrub g) = lineSts s := by
  unfold State.eccRead
  split
  · rfl
  · exact lineSts_eccFixed _ scrub g
  · exact lineSts_eccLost _ scrub g

/-! Homes (R294 to R298). -/

theorem lineSts_readNow (g : Nat) : lineSts (s.readNow g).2 = lineSts s := by
  unfold State.readNow
  split
  · exact (lineSts_freeBytes _ 64).trans (lineSts_setReg s _ _)
  · dsimp only
    split
    · rfl
    · exact lineSts_eccRead s false g

theorem lineSts_evictFor (a g : Nat) : lineSts (s.evictFor a g) = lineSts s := by
  unfold State.evictFor
  extract_lets mine free t
  split
  · rfl
  · split
    · dsimp only
      split
      · split <;> rfl
      · rfl
    · rfl

theorem lineSts_makeRoom (g : Nat) : lineSts (s.makeRoom g) = lineSts s := by
  unfold State.makeRoom
  split
  · rfl
  · extract_lets used x t u
    split
    · rfl
    · refine (lineSts_setReg _ _ _).trans ?_
      have hu : lineSts u = lineSts s := by
        dsimp only [u]
        split
        · split <;> rfl
        · rfl
      exact hu

theorem lineSts_grant (a g : Nat) (st : Moesi) (d : List Byte × Bool) : lineSts (s.grant a g st d) = lineSts s := by
  have hcopy : lineSts (((s.evictFor a g).setCopy a g (some { st := st, data := d.1, poison := d.2 })).redirect g)
      = lineSts (s.evictFor a g) := rfl
  exact (lineSts_makeRoom _ g).trans (hcopy.trans (lineSts_evictFor s a g))

theorem lineSts_writeNow (a : Nat) (d : List Byte) (p : Bool) : lineSts (s.writeNow a d p) = lineSts s := by
  unfold State.writeNow
  extract_lets g t
  split
  · rfl
  · split
    · rfl
    · dsimp only [t]
      split
      · rfl
      · exact lineSts_eccRead s false g

theorem lineSts_finishTxn (t : CohTxn) : lineSts (s.finishTxn t) = lineSts s := by
  have hdata (x : State) (g : Nat) (o : Option (List Byte × Bool)) : lineSts (x.homeData g o).2 = lineSts x := by
    cases o
    · exact lineSts_readNow x g
    · rfl
  unfold State.finishTxn
  extract_lets u own v
  have hu : lineSts u = lineSts s := rfl
  have hv : lineSts v = lineSts s := by
    dsimp only [v]
    split <;> rfl
  split
  · exact (lineSts_grant _ _ _ _ _).trans (hdata u _ _)
  · exact (lineSts_grant _ _ _ _ _).trans (hdata u _ _)
  · exact (lineSts_grant _ _ _ _ _).trans (hdata u _ _)
  · exact hdata u _ _
  · exact lineSts_writeNow u _ _ _
  · exact (lineSts_writeNow v _ _ _).trans hv

theorem lineSts_homeSettle (g : Nat) : lineSts (s.homeSettle g) = lineSts s := by
  unfold State.homeSettle
  split
  · split
    · exact lineSts_finishTxn s _
    · rfl
  · rfl

theorem lineSts_openTxn (a g : Nat) (req : CohReq) (kind : SnoopKind) (who : List Nat) (since : Nat) :
    lineSts (s.openTxn a g req kind who since) = lineSts s := by
  have hemit (f : Nat → Msg) : lineSts (who.foldl (fun t x => t.emit (f x)) s) = lineSts s :=
    foldl_keeps lineSts (f := fun t x => t.emit (f x)) (fun _ _ => rfl) who s
  exact (lineSts_homeSettle _ g).trans (hemit _)

theorem lineSts_startReq (a g : Nat) (req : CohReq) (since : Nat) : lineSts (s.startReq a g req since) = lineSts s := by
  unfold State.startReq
  split
  · split
    · rfl
    · split
      · exact (lineSts_grant _ _ _ _ _).trans (lineSts_readNow s g)
      · exact lineSts_openTxn s _ _ _ _ _ _
  · split
    · rfl
    · exact lineSts_openTxn s _ _ _ _ _ _
  · split
    · split
      · exact lineSts_openTxn s _ _ _ _ _ _
      · rfl
    · rfl
  · split
    · exact lineSts_openTxn s _ _ _ _ _ _
    · exact lineSts_readNow s g
  · exact lineSts_openTxn s _ _ _ _ _ _
  · exact lineSts_openTxn s _ _ _ _ _ _

theorem lineSts_serveLine (g : Nat) : lineSts (s.serveLine g) = lineSts s := by
  refine foldl_keeps lineSts (fun t w => ?_) _ s
  split
  · rfl
  · exact lineSts_startReq _ _ _ _ _

theorem lineSts_snoop (a g : Nat) (kind : SnoopKind) : lineSts (s.snoop a g kind) = lineSts s := by
  have hnext (o : Option (List Byte × Bool) × Option CacheLine) : lineSts (match o with
      | (_, next) => match next with | some c => s.setCopy a g (some c) | none => s.dropCopy a g) = lineSts s := by
    obtain ⟨-, next⟩ := o
    cases next <;> rfl
  unfold State.snoop
  extract_lets awaited answered
  split
  · exact hnext _
  · rfl

theorem lineSts_respond (a g : Nat) : lineSts (s.respond a g) = lineSts s := by
  unfold State.respond
  split
  · rfl
  · extract_lets t wb late
    split
    · rfl
    · split
      · rfl
      · split
        · rfl
        · exact lineSts_homeSettle _ g

theorem lineSts_wbArrive (w : WriteBackMsg) : lineSts (s.wbArrive w) = lineSts s := by
  unfold State.wbArrive
  extract_lets g a t mark
  have ht : lineSts t = lineSts s := by
    dsimp only [t]
    split <;> rfl
  have hmark (c : Option SnoopKind) : lineSts (mark c t) = lineSts s := ht
  split
  · split
    · extract_lets x u
      have hu : lineSts u = lineSts s := by
        dsimp only [u]
        split
        · exact hmark none
        · exact hmark _
      exact (lineSts_homeSettle _ _).trans hu
    · exact hmark none
  · exact hmark none

theorem lineSts_settleLine (g : Nat) : lineSts (s.settleLine g) = lineSts s := by
  unfold State.settleLine
  extract_lets t
  have ht : lineSts t = lineSts s := by
    dsimp only [t]
    split
    · exact lineSts_wbArrive s _
    · rfl
  split
  · exact (foldl_keeps lineSts (fun u a => (lineSts_respond _ a g).trans (lineSts_snoop u a g _)) _ t).trans ht
  · exact ht

/-! Reads by agents (R37, R295). -/

theorem lineSts_loadPiece (l a n : Nat) : lineSts (s.loadPiece l a n).2 = lineSts s := by
  have hown : lineSts (if s.ownMem l a then
      match s.onFailed a with
      | some b =>
        let (d, s) := (s.count (memKey b 0x20) 1).freeBytes n
        (({ data := d, poison := true } : Rd), s)
      | none =>
        let ((d, p), s) := s.readHome (a / 64)
        ({ data := (d.drop (a % 64)).take n, poison := p }, s.serveLine (a / 64))
    else s.noTargetRead n).2 = lineSts s := by
    split
    · split
      · exact (lineSts_freeBytes _ n).trans (lineSts_setReg s _ _)
      · exact (lineSts_serveLine _ _).trans ((lineSts_readNow _ _).trans (lineSts_settleLine s _))
    · rfl
  unfold State.loadPiece
  split
  · exact hown
  · exact hown
  · split <;> rfl
  · split <;> rfl
  · split <;> rfl
  · rfl

theorem lineSts_load (l a n : Nat) : lineSts (s.load l a n).2 = lineSts s :=
  List.foldlRecOn (motive := fun r : Rd × State => lineSts r.2 = lineSts s) (pieces a n) _ rfl
    fun r hr p _ => (lineSts_loadPiece r.2 l p.1 p.2).trans hr

end

end Sys2Proof.Proofs
end

section
/-!
PROOFS. Writes of a pond's registers (R177, R178, R184, R188, R190).
-/
namespace Sys2Proof.Proofs

open Sys2Proof Sys2Proof.Machine Sys2Proof.Safety Sys2Proof.Laws

/-! A write to a register of a basin. -/

/-- A write that its path may make, by what it leaves. -/
theorem gives_of_bWrite {c : Instr} {s t : State} {via : Via} {b : Nat} {f : State → State} {P : State → Prop}
    (hexec : exec c s = runU (fun s => s.bWrite via b f) s) (hwrites : s.bWrites via b = true) (hf : f s.clean = t)
    (hmisuse : t.misuse = none) (hP : P (t.keeping s)) : Gives c s P := by
  refine gives_of_runU hexec ?_ hmisuse hP
  have hgo : s.clean.bWrites via b = true := hwrites
  rw [State.bWrite, if_pos hgo, hf, noted_of_none _ via hmisuse]

/-! PD_CTL (R188). -/

theorem writePdCtl_eq {v : Word} (h : v.field 3 61 = 0) (s : State) (u : Nat) : s.writePdCtl u v
    = ((s.when (v.flag 0) (·.cutProgram u 0x31)).when (v.flag 2) (·.flushLaunches u)).setFlag (pdKey u 0) 1 (v.flag 1) := by
  have hzero : (v.field 3 61 != 0) = false := by rw [h]; rfl
  rw [State.writePdCtl, hzero, undefIf_false]

/-- What the drop of launches that name no record and no counter leaves. -/
structure Dropped (s r : State) (u : Nat) (las : List Launch) : Prop where
  pond : ∀ k, r.pond k = s.pond k
  misuse : r.misuse = s.misuse
  route : RouteOff r (r.pondLine u) (pondSource r u)
  status : las ≠ [] → (r.reg (pdKey u 0x60)).field 0 8 = 0x32

theorem dropLaunch_of_bare {s : State} {u : Nat} {la : Launch} (hrec : la.recVa = 0) (hdone : la.doneEn = false)
    {status : Nat} (hstatus : status ≠ 0) :
    s.dropLaunch u la status = faultReported s u { status := status, pc := la.entry } := by
  have haddr : s.recAddr u la = (none, false, s) := if_pos hrec
  rw [State.dropLaunch, haddr]
  exact (endLaunch_of_bare hdone _).trans (by rw [bne_iff_ne.mpr hstatus, when_true])

theorem dropped_foldl {s : State} {u : Nat} {las : List Launch} (h : ∀ la ∈ las, la.recVa = 0 ∧ la.doneEn = false)
    (hroute : RouteOff s (s.pondLine u) (pondSource s u)) :
    Dropped s (las.foldl (fun s la => s.dropLaunch u la 0x32) s) u las := by
  induction las generalizing s with
  | nil => exact ⟨fun _ => rfl, rfl, hroute, fun h => absurd rfl h⟩
  | cons la las ih =>
    obtain ⟨hrec, hdone⟩ := h la List.mem_cons_self
    have hfirst := reported_of_routeOff hroute { status := 0x32, pc := la.entry }
    rw [List.foldl_cons, dropLaunch_of_bare hrec hdone (by decide)]
    generalize faultReported s u { status := 0x32, pc := la.entry } = t at hfirst
    obtain ⟨hpond, hmisuse, hoff, hstatus⟩ := ih (fun la' hla => h la' (List.mem_cons_of_mem _ hla)) hfirst.route
    refine ⟨fun k => (hpond k).trans (hfirst.pond k), hmisuse.trans hfirst.misuse, hoff, fun _ => ?_⟩
    cases las with
    | nil => exact (congrArg (Word.field · 0 8) hfirst.fault).trans (faultWord_fields (status := 0x32) (by decide) _).1
    | cons => exact hstatus (List.cons_ne_nil _ _)

/-! PD_LAUNCH (R177, R178). -/

theorem loadWords_snd {s r : State} {l a n : Nat} {ws : List Word} {rd : Rd} (h : s.loadWords l a n = (ws, rd, r)) :
    unaccessed r = unaccessed s ∧ lineSts r = lineSts s := by
  have hr : (s.load l a (8 * n)).2 = r := congrArg (fun x => x.2.2) h
  rw [← hr]
  exact ⟨unaccessed_load s l a (8 * n), lineSts_load s l a (8 * n)⟩

theorem lineStOf_congr {s t : State} (hleaders : t.leaders = s.leaders) (hsts : lineSts t = lineSts s) (b : Nat) :
    t.lineStOf b = s.lineStOf b := by
  have hleader : t.leaderOf b = s.leaderOf b := by rw [State.leaderOf, hleaders, State.leaderOf]
  have hst : (t.line (s.leaderOf b)).st = (s.line (s.leaderOf b)).st := congrFun hsts _
  rw [State.lineStOf, hleader, hst, State.lineStOf]

/-- A launch that a pond's queue takes. -/
theorem enterLaunch_of_room {s : State} {u : Nat} (la : Launch) (hst : s.lineStOf (u / 8) ≠ .stopping)
    (hroom : (s.pond u).launches.length < 8) : s.enterLaunch u la = (false, (s.lowBits la.recVa 32).2.modPond u fun p =>
      { p with launches := p.launches ++ [{ la with recVa := (s.lowBits la.recVa 32).1 }] }) := by
  have hlow : ∃ f, (s.lowBits la.recVa 32).2 = { s with freeCtr := f } := by
    unfold State.lowBits
    split
    · exact ⟨s.freeCtr, rfl⟩
    · exact ⟨_, rfl⟩
  obtain ⟨f, hf⟩ := hlow
  unfold State.enterLaunch
  generalize s.lowBits la.recVa 32 = o at hf ⊢
  obtain ⟨va, t⟩ := o
  dsimp only at hf ⊢
  subst hf
  have hnot : ¬ State.lineStOf { s with freeCtr := f } (u / 8) = .stopping := hst
  have hfits (b : Bool) : ¬ (if b = true then 9 else 8) ≤ (State.pond { s with freeCtr := f } u).launches.length := by
    have h : (State.pond { s with freeCtr := f } u).launches.length < 8 := hroom
    split <;> omega
  rw [if_neg hnot, if_neg (hfits _)]

/-! PD_IMEM_CTL (R190). -/

/-- What GO of PD_IMEM_CTL leaves. -/
structure LoadAsked (s r : State) (u n i : Nat) : Prop where
  busy : r.flag (pdKey u 0x20) 33 = true
  count : r.fld (pdKey u 0x20) 0 14 = n
  index : r.fld (pdKey u 0x20) 16 13 = i
  regs : ∀ k, k ≠ pdKey u 0x20 → r.reg k = s.reg k
  self : r.pond u = { s.pond u with imemLoad := some (s.fld (pdKey u 0x18) 3 49 * 8, i, n) }
  others : ∀ k, k ≠ u → r.pond k = s.pond k
  misuse : r.misuse = s.misuse

theorem writeImemCtl_of_go {s : State} {u : Nat} {v : Word} (h14 : v.field 14 2 = 0) (h29 : v.field 29 3 = 0)
    (h35 : v.field 35 29 = 0) (hgo : v.flag 32 = true) (hclear : v.flag 34 = false)
    (hbusy : s.flag (pdKey u 0x20) 33 = false) (hcount : 0 < v.field 0 14) (hrange : v.field 16 13 + v.field 0 14 ≤ 8192) :
    LoadAsked s (s.writeImemCtl u v) u (v.field 0 14) (v.field 16 13) := by
  have hrsv : (v.field 14 2 != 0 || v.field 29 3 != 0 || v.field 35 29 != 0) = false := by rw [h14, h29, h35]; rfl
  obtain ⟨b, hb⟩ : ∃ b, (s.setFld (pdKey u 0x20) 0 14 (v.field 0 14)).setFld (pdKey u 0x20) 16 13 (v.field 16 13) = b := ⟨_, rfl⟩
  have hothers (k : Nat) (hk : k ≠ pdKey u 0x20) : b.reg k = s.reg k := by
    rw [← hb, reg_setFld_ne _ _ _ _ hk, reg_setFld_ne _ _ _ _ hk]
  have hpond (k : Nat) : b.pond k = s.pond k := by rw [← hb, setFld_pond, setFld_pond]
  have hmisuse : b.misuse = s.misuse := by rw [← hb, setFld_misuse, setFld_misuse]
  have hfields : b.fld (pdKey u 0x20) 0 14 = v.field 0 14 ∧ b.fld (pdKey u 0x20) 16 13 = v.field 16 13
      ∧ b.flag (pdKey u 0x20) 33 = false := by
    rw [← hb, flag_setFld_ne _ _ (by decide) (by decide), flag_setFld_ne _ _ (by decide) (by decide),
      fld_setFld_ne _ _ (by decide) (by decide), fld_setFld_self _ _ (by decide), fld_setFld_self _ _ (by decide)]
    exact ⟨Nat.mod_eq_of_lt (Nat.mod_lt _ (by decide)), Nat.mod_eq_of_lt (Nat.mod_lt _ (by decide)), hbusy⟩
  have hfits : ¬ (v.field 0 14 = 0 ∨ 8192 < v.field 0 14 ∨ 8192 < v.field 16 13 + v.field 0 14) := by omega
  have hnot : ¬ b.flag (pdKey u 0x20) 33 = true := by rw [hfields.2.2]; exact Bool.false_ne_true
  have heq : s.writeImemCtl u v = (b.setFlag (pdKey u 0x20) 33 true).modPond u fun p =>
      { p with imemLoad := some (b.fld (pdKey u 0x18) 3 49 * 8, v.field 16 13, v.field 0 14) } := by
    unfold State.writeImemCtl
    simp only [hrsv, undefIf_false, hclear, when_false, hb, hgo, if_true]
    rw [if_neg hnot, if_neg hfits]
  have hsrc : b.fld (pdKey u 0x18) 3 49 = s.fld (pdKey u 0x18) 3 49 := by
    rw [State.fld, hothers _ (pdKey_ne (by decide)), State.fld]
  rw [heq, hsrc]
  obtain ⟨r, hr⟩ : ∃ r, b.setFlag (pdKey u 0x20) 33 true = r := ⟨_, rfl⟩
  have hrpond (k : Nat) : r.pond k = s.pond k := by rw [← hr, setFlag_pond, hpond]
  have hrflag : r.flag (pdKey u 0x20) 33 = true := by rw [← hr, flag_setFlag_self _ _ (by decide)]
  have hrfld : r.fld (pdKey u 0x20) 0 14 = v.field 0 14 ∧ r.fld (pdKey u 0x20) 16 13 = v.field 16 13 := by
    rw [← hr, fld_setFlag_ne _ _ (by decide) (by decide), fld_setFlag_ne _ _ (by decide) (by decide)]
    exact ⟨hfields.1, hfields.2.1⟩
  have hrothers (k : Nat) (hk : k ≠ pdKey u 0x20) : r.reg k = s.reg k := by rw [← hr, reg_setFlag_ne _ _ _ hk, hothers k hk]
  have hrmisuse : r.misuse = s.misuse := by rw [← hr, setFlag_misuse, hmisuse]
  rw [hr]
  refine ⟨hrflag, hrfld.1, hrfld.2, hrothers, ?_, fun k hk => ?_, hrmisuse⟩
  · rw [pond_modPond_self, hrpond]
  · rw [pond_modPond_ne _ _ hk, hrpond]

section
variable {s : State} {u : PondId} {via : Via} {v : Word} (hwrites : s.bWrites via (u / 8) = true)
include hwrites

theorem holdLaunch_gives (hrsv : v.field 3 61 = 0) (habort : v.flag 0 = false) (hflush : v.flag 2 = false) :
    Gives (.holdLaunch via u v) s fun t =>
      t.flag (pdKey u 0) 1 = v.flag 1 ∧ OnlyReg s t (pdKey u 0) (t.reg (pdKey u 0)) := by
  have hexec : exec (.holdLaunch via u v) s = runU (fun s => s.bWrite via (u / 8) (·.writePdCtl u v)) s := rfl
  have hwrite : s.clean.writePdCtl u v = s.clean.setFlag (pdKey u 0) 1 (v.flag 1) := by
    rw [writePdCtl_eq hrsv, habort, hflush, when_false, when_false]
  obtain ⟨t, ht⟩ : ∃ t, s.clean.setFlag (pdKey u 0) 1 (v.flag 1) = t := ⟨_, rfl⟩
  have hself : t.flag (pdKey u 0) 1 = v.flag 1 := by rw [← ht, flag_setFlag_self _ _ (by decide)]
  have hothers (k : Nat) (hk : k ≠ pdKey u 0) : t.reg k = s.reg k := by rw [← ht, reg_setFlag_ne _ _ _ hk, clean_reg]
  have hframe : { t with regs := s.clean.regs } = s.clean := by
    rw [← ht]
    exact setFlag_frame s.clean _ _ _ _
  exact gives_of_bWrite hexec hwrites (hwrite.trans ht) (keeps_of_regFrame hframe State.misuse fun _ _ => rfl)
    ⟨hself, rfl, hothers, congrArg (State.keeping · s) hframe⟩

theorem pdAbort_gives (hv : v = 1) (hworks : s.pondWorks u = true) (hmode : (s.pond u).mode = .run)
    (he : EnginesEmpty (s.pond u)) (hrec : (s.pond u).recDpa = none) (hdone : (s.pond u).cur.doneEn = false)
    (hroute : RouteOff s (s.pondLine u) (pondSource s u)) : Gives (.pdAbort via u v) s fun t =>
      (t.pond u).mode = .idle ∧ (t.reg (pdKey u 0x60)).field 0 8 = 0x31 := by
  subst hv
  have hexec : exec (.pdAbort via u 1) s = runU (fun s => s.bWrite via (u / 8) (·.writePdCtl u 1)) s := rfl
  obtain ⟨hmisuse, hcut⟩ := cut_cutProgram (s := s.clean) (status := 0x31) hworks hmode he hrec hdone hroute (by decide) rfl
  have hwrite : s.clean.writePdCtl u 1 = (s.clean.cutProgram u 0x31).setFlag (pdKey u 0) 1 false := by
    have hbits : Word.flag 1 0 = true ∧ Word.flag 1 1 = false ∧ Word.flag 1 2 = false := by decide
    rw [writePdCtl_eq (by decide), hbits.1, hbits.2.1, hbits.2.2, when_true, when_false]
  generalize s.clean.cutProgram u 0x31 = t at hwrite hmisuse hcut
  refine gives_of_bWrite hexec hwrites hwrite ((setFlag_misuse _ _ _ _).trans hmisuse) ⟨?_, ?_⟩
  · rw [keeping_pond, setFlag_pond, hcut.pond]
    rfl
  · rw [keeping_reg, reg_setFlag_ne _ _ _ (pdKey_ne (by decide))]
    exact hcut.status

theorem flushQueue_gives (hv : v = 4) (hbare : ∀ la ∈ (s.pond u).launches, la.recVa = 0 ∧ la.doneEn = false)
    (hroute : RouteOff s (s.pondLine u) (pondSource s u)) : Gives (.flushQueue via u v) s fun t =>
      t.pond u = { s.pond u with launches := [] }
        ∧ ((s.pond u).launches ≠ [] → (t.reg (pdKey u 0x60)).field 0 8 = 0x32) := by
  subst hv
  have hexec : exec (.flushQueue via u 4) s = runU (fun s => s.bWrite via (u / 8) (·.writePdCtl u 4)) s := rfl
  have hwrite : s.clean.writePdCtl u 4 = (s.clean.flushLaunches u).setFlag (pdKey u 0) 1 false := by
    have hbits : Word.flag 4 0 = false ∧ Word.flag 4 1 = false ∧ Word.flag 4 2 = true := by decide
    rw [writePdCtl_eq (by decide), hbits.1, hbits.2.1, hbits.2.2, when_true, when_false]
  have hflush : Dropped (s.clean.modPond u fun p => { p with launches := [] }) (s.clean.flushLaunches u) u (s.pond u).launches :=
    dropped_foldl hbare hroute
  generalize s.clean.flushLaunches u = t at hwrite hflush
  refine gives_of_bWrite hexec hwrites hwrite ((setFlag_misuse _ _ _ _).trans hflush.misuse) ⟨?_, fun hne => ?_⟩
  · rw [keeping_pond, setFlag_pond, hflush.pond, pond_modPond_self, clean_pond]
  · rw [keeping_reg, reg_setFlag_ne _ _ _ (pdKey_ne (by decide))]
    exact hflush.status hne

/-! IMEM_LOAD. -/

theorem imemLoad_gives (h14 : v.field 14 2 = 0) (h29 : v.field 29 3 = 0) (h35 : v.field 35 29 = 0) (hgo : v.flag 32 = true)
    (hclear : v.flag 34 = false) (hbusy : s.imemBusy u = false) (hcount : 0 < v.field 0 14)
    (hrange : v.field 16 13 + v.field 0 14 ≤ 8192) : Gives (.imemLoad via u v) s fun t =>
      t.flag (pdKey u 0x20) 33 = true ∧ t.fld (pdKey u 0x20) 0 14 = v.field 0 14
        ∧ t.fld (pdKey u 0x20) 16 13 = v.field 16 13 ∧ (∀ k, k ≠ u.val → t.pond k = s.pond k)
        ∧ (∀ k, k ≠ pdKey u 0x20 → t.reg k = s.reg k)
        ∧ t.pond u = { s.pond u with imemLoad := some (s.fld (pdKey u 0x18) 3 49 * 8, v.field 16 13, v.field 0 14) } := by
  have hexec : exec (.imemLoad via u v) s = runU (fun s => s.bWrite via (u / 8) fun s =>
      (s.when (v.flag 32) fun s => s.wakeExit (s.pondLine u)).writeImemCtl u v) s := rfl
  obtain ⟨b, hb⟩ : ∃ b, s.clean.wakeExit (s.clean.pondLine u) = b := ⟨_, rfl⟩
  have hkeep {α : Type} (p : State → α) (hp : ∀ x, p (calm x) = p x) : p b = p s.clean := by
    rw [← hb]
    exact keeps_of_calm (calm_wakeExit _ _) p hp
  have hreg (k : Nat) : b.reg k = s.reg k := (hkeep (State.reg · k) fun _ => rfl).trans (clean_reg s k)
  have hpond (k : Nat) : b.pond k = s.pond k := hkeep (State.pond · k) fun _ => rfl
  have hbusy' : b.flag (pdKey u 0x20) 33 = false := by
    rw [State.flag, hreg]
    exact hbusy
  have hasked := writeImemCtl_of_go h14 h29 h35 hgo hclear hbusy' hcount hrange
  have hwrite : (s.clean.when (v.flag 32) fun s => s.wakeExit (s.pondLine u)).writeImemCtl u v = b.writeImemCtl u v := by
    rw [hgo, when_true, hb]
  generalize b.writeImemCtl u v = t at hasked hwrite
  obtain ⟨hset, hcnt, hidx, hregs, hself, hothers, hmisuse⟩ := hasked
  refine gives_of_bWrite hexec hwrites hwrite (hmisuse.trans (hkeep State.misuse fun _ => rfl))
    ⟨hset, hcnt, hidx, fun k hk => (hothers k hk).trans (hpond k), fun k hk => (hregs k hk).trans (hreg k), ?_⟩
  rw [keeping_pond, hself, hpond, State.fld, hreg, State.fld]

/-! PD_LAUNCH (R177, R178). -/

theorem pdLaunch_gives {r : State} {ws : List Word} {rd : Rd} (hmisuse : r.misuse = none) (hrsv : v.field 52 12 = 0)
    (hread : (s.clean.wakeExit (s.pondLine u)).loadWords (s.pondLine u) (v.field 6 46 * 64) 8 = (ws, rd, r))
    (htarget : rd.noTarget = false) (hpoison : rd.poison = false) (hcls : (ws.getD 0 0).field 48 2 ≠ 3)
    (hst : s.lineStOf (u / 8) ≠ .stopping) (hroom : (s.pond u).launches.length < 8) :
    Gives (.pdLaunch via u v) s fun t => (t.pond u).launches
        = (s.pond u).launches ++ [{ launchOf ws with recVa := (r.lowBits (launchOf ws).recVa 32).1 }] ∧ t.mem = r.mem := by
  have hexec : exec (.pdLaunch via u v) s = runU (fun s => s.bWrite via (u / 8) fun s => s.waking (u / 8) fun s =>
      s.writeLaunch u v) s := rfl
  obtain ⟨b, hb⟩ : ∃ b, s.clean.wakeExit (s.pondLine u) = b := ⟨_, rfl⟩
  rw [hb] at hread
  have hcalm : calm b = calm s.clean := hb ▸ calm_wakeExit s.clean (s.pondLine u)
  have hline : b.pondLine u = s.pondLine u := keeps_of_calm hcalm (State.pondLine · u) fun _ => rfl
  obtain ⟨haccess, hsts⟩ := loadWords_snd hread
  have hkeep {α : Type} (p : State → α) (hp : ∀ x, p (unaccessed x) = p x) : p r = p s.clean :=
    keeps_of_unaccessed (haccess.trans (unaccessed_of_calm hcalm)) p hp
  have hpond : r.pond u = s.pond u := hkeep (State.pond · u) fun _ => rfl
  have hrst : r.lineStOf (u / 8) ≠ .stopping := by
    have hsame : r.lineStOf (u / 8) = s.clean.lineStOf (u / 8) :=
      lineStOf_congr (hkeep State.leaders fun _ => rfl) (hsts.trans (hb ▸ lineSts_wakeExit s.clean (s.pondLine u))) _
    rw [hsame]
    exact hst
  have hnoRsv : (v.field 52 12 != 0) = false := by rw [hrsv]; rfl
  have hlisted : ((ws.getD 0 0).field 48 2 == 3) = false := beq_eq_false_iff_ne.mpr hcls
  have hwrite : s.clean.waking (u / 8) (fun s => s.writeLaunch u v) = ((r.lowBits (launchOf ws).recVa 32).2.modPond u fun p =>
      { p with launches := p.launches ++ [{ launchOf ws with recVa := (r.lowBits (launchOf ws).recVa 32).1 }] }) := by
    have hwake : s.clean.waking (u / 8) (fun s => s.writeLaunch u v) = b.writeLaunch u v := by rw [← hb]; rfl
    rw [hwake]
    unfold State.writeLaunch
    simp only [hnoRsv, undefIf_false, hline, hread, htarget, hpoison, Bool.false_eq_true, if_false, State.launchUndef, hlisted,
      enterLaunch_of_room (launchOf ws) hrst (by rw [hpond]; exact hroom)]
  refine gives_of_bWrite hexec hwrites hwrite ?_ ⟨?_, ?_⟩
  · exact (lowBits_misuse r _ _).trans hmisuse
  · have hlow : (r.lowBits (launchOf ws).recVa 32).2.pond u = r.pond u := by rw [State.pond, lowBits_ponds, State.pond]
    rw [keeping_pond, pond_modPond_self, hlow, hpond]
  · exact lowBits_mem r _ _

end

/-! IMEM_LOAD_DONE (R190). -/

/-- A load of instructions leaves the other ponds. -/
theorem pond_loadImem {s : State} {u k : Nat} (hk : k ≠ u) (src i n : Nat) : (s.loadImem u src i n).pond k = s.pond k := by
  refine List.foldlRecOn (motive := fun r : Bool × State => r.2.pond k = s.pond k) (pieces src (8 * n)) _ rfl
    fun r hr p _ => ?_
  obtain ⟨stop, t⟩ := r
  have hload : (t.loadPiece (t.pondLine u) p.1 p.2).2.pond k = s.pond k :=
    (keeps_of_unaccessed (unaccessed_loadPiece t (t.pondLine u) p.1 p.2) (State.pond · k) fun _ => rfl).trans hr
  dsimp only at hr ⊢
  split
  · exact hr
  · generalize t.loadPiece (t.pondLine u) p.1 p.2 = o at hload ⊢
    obtain ⟨rd, x⟩ := o
    dsimp only at hload ⊢
    split
    · rw [State.pdFault, setReg_pond, setReg_pond, hload]
    · split
      · rw [State.pdFault, setReg_pond, setReg_pond, hload]
      · rw [pond_modPond_ne _ _ hk, hload]

theorem imemLoadDone_gives {s r : State} {u : PondId} {a i n : Nat} (hmisuse : r.misuse = none)
    (hload : (s.pond u).imemLoad = some (a, i, n)) (hbusy : s.imemBusy u = true) (hmode : (s.pond u).mode = .idle)
    (hst : s.lineStOf (u / 8) ≠ .failed) (hr : s.clean.loadImem u a i n = r) : Gives (.imemLoadDone u) s fun t =>
      t.flag (pdKey u 0x20) 33 = false ∧ t.pond u = { r.pond u with imemLoad := none }
        ∧ ∀ k, k ≠ u.val → t.pond k = s.pond k := by
  have hexec : exec (.imemLoadDone u) s = runU (fun s => s.imemDone u) s := rfl
  have hdone : s.clean.imemDone u = (r.setFlag (pdKey u 0x20) 33 false).modPond u fun p => { p with imemLoad := none } := by
    have hgo : s.imemBusy u = true ∧ (s.pond u).mode = .idle ∧ s.lineStOf (u / 8) ≠ .failed := ⟨hbusy, hmode, hst⟩
    unfold State.imemDone
    simp only [clean_pond, hload, hr]
    exact if_pos hgo
  have hothers (k : Nat) (hk : k ≠ u.val) : r.pond k = s.pond k := by rw [← hr, pond_loadImem hk, clean_pond]
  obtain ⟨t, ht⟩ : ∃ t, r.setFlag (pdKey u 0x20) 33 false = t := ⟨_, rfl⟩
  have hflag : t.flag (pdKey u 0x20) 33 = false := by rw [← ht, flag_setFlag_self _ _ (by decide)]
  have hpond (k : Nat) : t.pond k = r.pond k := by rw [← ht, setFlag_pond]
  have hmis : t.misuse = none := by rw [← ht, setFlag_misuse, hmisuse]
  rw [ht] at hdone
  refine gives_of_runU hexec hdone hmis ⟨hflag, ?_, fun k hk => ?_⟩
  · rw [keeping_pond, pond_modPond_self, hpond]
  · rw [keeping_pond, pond_modPond_ne _ _ hk, hpond, hothers k hk]

/-- Settles O14: each write takes effect in its step, and a load of instructions reaches the named pond alone. -/
theorem pondRegisters : Obligations.PondRegisters := by
  unfold Obligations.PondRegisters
  intro s r via u v hwrites hsleep hmisuse p l
  exact ⟨fun ws rd hrsv hread htarget hpoison hcls hst hroom =>
      pdLaunch_gives hwrites hmisuse hrsv hread htarget hpoison hcls hst hroom,
    fun hv hworks hmode he hrec hdone hroute => pdAbort_gives hwrites hv hworks hmode he hrec hdone hroute,
    holdLaunch_gives hwrites, fun hv hbare hroute => flushQueue_gives hwrites hv hbare hroute, imemLoad_gives hwrites,
    fun a i n hload hbusy hmode hst hr => imemLoadDone_gives hmisuse hload hbusy hmode hst hr⟩

end Sys2Proof.Proofs
end

section
/-!
PROOFS. The vector engine with one item in its queue (R143, R144, R167, R198 to R209).
-/
namespace Sys2Proof.Proofs

open Sys2Proof Sys2Proof.Machine Sys2Proof.Safety Sys2Proof.Laws

/-! What an item of the vector queue does to the pond. -/

/-- What the vector engine does for `o`. -/
def vecEffect (p : Pond) (o : PondOp) : Pond × OpDone :=
  if o.op = 0x50 then p.runVop o
  else if o.op = 0x51 then p.runVred o
  else ({ p with tbs := tblSet {} p.tbs (o.insn.field 49 3) o.tile },
    { opcode := 0x42, pc := o.pc, record := o.insn.flag 35, sat := o.sat, flush := o.flush, poison := o.tile.poisoned })

theorem vecEffect_keeps {α : Type} (g : Pond → α) (hg : ∀ p tb pl, g { p with tbs := tb, planes := pl } = g p) (p : Pond)
    (o : PondOp) : g (vecEffect p o).1 = g p := by
  unfold vecEffect
  split
  · unfold Pond.runVop
    extract_lets f a b td d poison args mask on act done res words
    split
    · exact hg p p.tbs _
    · exact hg p _ p.planes
  · split
    · exact hg p _ p.planes
    · exact hg p _ p.planes

/-- The result depends on the tile buffers, the mask planes and the slots alone. -/
theorem vecEffect_congr {p q : Pond} (htbs : q.tbs = p.tbs) (hplanes : q.planes = p.planes) (hslots : q.slots = p.slots)
    (o : PondOp) : (vecEffect q o).1.tbs = (vecEffect p o).1.tbs ∧ (vecEffect q o).1.planes = (vecEffect p o).1.planes := by
  have htb (k : Nat) : q.tb k = p.tb k := by rw [Pond.tb, htbs, Pond.tb]
  have hplane (m k : Nat) : q.plane m k = p.plane m k := by rw [Pond.plane, hplanes, Pond.plane]
  have hslot (k : Nat) : q.slot k = p.slot k := by rw [Pond.slot, hslots, Pond.slot]
  have hslotsOf (t : Nat) : q.slotsOf t = p.slotsOf t := by simp only [Pond.slotsOf, hslot]
  have htile (t : Nat) : q.tileOf t = p.tileOf t := by simp only [Pond.tileOf, hslotsOf, hslot]
  have hsource : q.vecSource o = p.vecSource o := by simp only [Pond.vecSource, htile, htb]
  have hpoison : q.vecPoisoned o = p.vecPoisoned o := by simp only [Pond.vecPoisoned, htile, htb]
  unfold vecEffect
  split
  · unfold Pond.runVop
    simp only [hsource, hpoison, htb, hplane, htbs, hplanes]
    split <;> exact ⟨rfl, rfl⟩
  · split
    · unfold Pond.runVred
      simp only [hsource, hpoison, htb, hplane, htbs, hplanes, and_self]
    · exact ⟨by rw [htbs], hplanes⟩

theorem vecEffect_record (p : Pond) (o : PondOp) (hop : o.op = 0x50 ∨ o.op = 0x51) :
    (vecEffect p o).2.record = o.insn.flag 26 := by
  unfold vecEffect
  split
  · unfold Pond.runVop
    extract_lets f a b td d poison args mask on act done res words
    split <;> rfl
  next hvop => rw [if_pos (hop.resolve_left hvop)]; rfl

/-- An item alone in its pond is ready once its tile is full. -/
theorem opReady_of_alone {p : Pond} {o : PondOp} (hops : p.vecQ = [o] ∧ p.storeQ = [] ∨ p.vecQ = [] ∧ p.storeQ = [o])
    (hu : Unfed p) (hfull : ∀ t, o.ticket = some t → p.tileFull t = true) : p.opReady o = true := by
  have hself : p.tileOps = [o] := by
    rcases hops with ⟨hV, hS⟩ | ⟨hV, hS⟩ <;> rw [Pond.tileOps, hV, hS] <;> rfl
  have hwrite (b : Nat) : p.tbWritePending b o.seq = false := by simp [Pond.tbWritePending, hself]
  have hread (b : Nat) : p.tbReadPending b o.seq = false := by
    simp [Pond.tbReadPending, hself, Pond.tbLoads, Pond.mmas, hu.feedA, hu.feedB, hu.gridQ]
  unfold Pond.opReady
  cases ht : o.ticket with
  | none => simp [hwrite, hread]
  | some t => simp [hwrite, hread, hfull t ht]

/-! The step of the engine. -/

/-- What the vector engine leaves once it has done `o`. -/
structure VecDone (t r : State) (u : Nat) (o : PondOp) : Prop where
  still : Quiescent (r.pond u)
  tbs : (r.pond u).tbs = (vecEffect (t.pond u) o).1.tbs
  planes : (r.pond u).planes = (vecEffect (t.pond u) o).1.planes
  sregs : (r.pond u).sregs = (t.pond u).sregs
  others : ∀ v, v ≠ u → r.pond v = t.pond v
  frame : { r with ponds := t.ponds, regs := t.regs } = t.when (o.op == 0x42) State.bump

/-- The pond once the engine has taken `o` off its queue and done it, which releases its ticket where it says so. -/
def vecTaken (p : Pond) (o : PondOp) : Pond :=
  match o.ticket with
  | some t =>
    if o.insn.flag 25 then (vecEffect { p with vecQ := [] } o).1.beginRelease t o.seq
    else (vecEffect { p with vecQ := [] } o).1
  | none => (vecEffect { p with vecQ := [] } o).1

theorem vecTaken_keeps {α : Type} (g : Pond → α) (hg : ∀ p tb pl sl, g { p with tbs := tb, planes := pl, slots := sl } = g p)
    (p : Pond) (o : PondOp) : g (vecTaken p o) = g { p with vecQ := [] } := by
  have heffect := vecEffect_keeps g (fun p tb pl => hg p tb pl p.slots) { p with vecQ := [] } o
  unfold vecTaken
  split
  · split
    · exact (beginRelease_keeps g (fun p sl => hg p p.tbs p.planes sl) _ _ _).trans heffect
    · exact heffect
  · exact heffect

theorem quiescent_vecTaken {p q : Pond} {o : PondOp} (hp : p = { q with vecQ := [o] }) (hq : Quiescent q) :
    Quiescent (vecTaken p o) := by
  subst hp
  have hkeep {α : Type} (g : Pond → α) (hg : ∀ p tb pl sl, g { p with tbs := tb, planes := pl, slots := sl } = g p) :=
    vecTaken_keeps g hg { q with vecQ := [o] } o
  obtain ⟨hmode, hwait, hA, hB, hG, hV, hS, hX, hP⟩ := hq
  exact ⟨(hkeep Pond.mode fun _ _ _ _ => rfl).trans hmode, (hkeep Pond.wait fun _ _ _ _ => rfl).symm ▸ hwait,
    (hkeep Pond.feedA fun _ _ _ _ => rfl).trans hA, (hkeep Pond.feedB fun _ _ _ _ => rfl).trans hB,
    (hkeep Pond.gridQ fun _ _ _ _ => rfl).trans hG, hkeep Pond.vecQ fun _ _ _ _ => rfl,
    (hkeep Pond.storeQ fun _ _ _ _ => rfl).trans hS, (hkeep Pond.xsQ fun _ _ _ _ => rfl).trans hX,
    (hkeep Pond.posted fun _ _ _ _ => rfl).trans hP⟩

theorem tbs_vecTaken (p : Pond) (o : PondOp) :
    (vecTaken p o).tbs = (vecEffect p o).1.tbs ∧ (vecTaken p o).planes = (vecEffect p o).1.planes := by
  have hcongr := vecEffect_congr (p := p) (q := { p with vecQ := [] }) rfl rfl rfl o
  unfold vecTaken
  split
  · split
    · rw [beginRelease_keeps Pond.tbs fun _ _ => rfl, beginRelease_keeps Pond.planes fun _ _ => rfl]
      exact hcongr
    · exact hcongr
  · exact hcongr

/-- The state once the engine has done `o`: its pond, and the counts of R107. -/
def vecCounted (t : State) (u : Nat) (q : Pond) (d : OpDone) (k n k' n' : Nat) : State :=
  (((t.modPond u fun _ => q).opDone u d).count k n).count k' n'

theorem pond_vecCounted (t : State) (u : Nat) (q : Pond) {d : OpDone} (h : d.record = false) (k n k' n' v : Nat) :
    (vecCounted t u q d k n k' n').pond v = if v = u then told q d else t.pond v := by
  have hpond (x : State) : (vecCounted t u q d k n k' n').pond v = ((t.modPond u fun _ => q).opDone u d).pond v :=
    (count_pond _ _ _ v).trans (count_pond _ _ _ v)
  rw [hpond t]
  split
  next hv => rw [hv, pond_opDone h, pond_modPond_self]
  next hv => rw [opDone_of_unrecorded h, pond_addTotals, pond_modPond_ne _ _ hv, pond_modPond_ne _ _ hv]

theorem vecCounted_keeps {α : Type} (p : State → α) (hp : ∀ x ps rs, p { x with ponds := ps, regs := rs } = p x) (t : State)
    (u : Nat) (q : Pond) {d : OpDone} (h : d.record = false) (k n k' n' : Nat) :
    p (vecCounted t u q d k n k' n') = p t :=
  (count_keeps p (fun x rs => hp x x.ponds rs) _ _ _).trans ((count_keeps p (fun x rs => hp x x.ponds rs) _ _ _).trans
    ((opDone_keeps h p hp).trans (hp t _ t.regs)))

theorem runVec_eq {t : State} {u : Nat} {o : PondOp} (hq : (t.pond u).vecQ = [o]) (hready : (t.pond u).opReady o = true) :
    ∃ last k n k' n', t.runVec u = (true, vecCounted (t.when (o.op == 0x42) State.bump) u
      { vecTaken (t.pond u) o with vecLast := last } (vecEffect { t.pond u with vecQ := [] } o).2 k n k' n') := by
  unfold State.runVec
  simp only [hq, hready, if_true]
  exact ⟨_, _, _, _, _, rfl⟩

theorem runVec_of_ready {t : State} {u : Nat} {q : Pond} {o : PondOp} (hpond : t.pond u = { q with vecQ := [o] })
    (hq : Quiescent q) (hready : (t.pond u).opReady o = true)
    (hrec : (vecEffect { t.pond u with vecQ := [] } o).2.record = false) : ∃ r, t.runVec u = (true, r) ∧ VecDone t r u o := by
  obtain ⟨last, k, n, k', n', hrun⟩ := runVec_eq (by rw [hpond]) hready
  have hb (v : Nat) : (t.when (o.op == 0x42) State.bump).pond v = t.pond v := by
    unfold State.when
    split <;> rfl
  have hregs : (t.when (o.op == 0x42) State.bump).regs = t.regs ∧ (t.when (o.op == 0x42) State.bump).ponds = t.ponds := by
    unfold State.when
    split <;> exact ⟨rfl, rfl⟩
  generalize hwhen : t.when (o.op == 0x42) State.bump = b at hrun hb hregs
  have hrpond := pond_vecCounted b u { vecTaken (t.pond u) o with vecLast := last } hrec k n k' n'
  have hframe := vecCounted_keeps (fun x => ({ x with ponds := t.ponds, regs := t.regs } : State)) (fun _ _ _ => rfl) b u
    { vecTaken (t.pond u) o with vecLast := last } hrec k n k' n'
  generalize vecCounted b u { vecTaken (t.pond u) o with vecLast := last } (vecEffect { t.pond u with vecQ := [] } o).2 k n k' n'
    = r at hrun hrpond hframe
  have hself := hrpond u
  rw [if_pos rfl] at hself
  obtain ⟨hmode, hwait, hA, hB, hG, hV, hS, hX, hP⟩ := quiescent_vecTaken hpond hq
  have hres := tbs_vecTaken (t.pond u) o
  refine ⟨r, hrun, ?_, ?_, ?_, ?_, fun v hv => ?_, ?_⟩
  · rw [hself]
    exact ⟨hmode, hwait, hA, hB, hG, hV, hS, hX, hP⟩
  · rw [hself]
    exact hres.1
  · rw [hself]
    exact hres.2
  · rw [hself]
    exact vecTaken_keeps Pond.sregs (fun _ _ _ _ => rfl) (t.pond u) o
  · rw [hrpond, if_neg hv, hb]
  · rw [hframe, hwhen, ← hregs.1, ← hregs.2]

end Sys2Proof.Proofs
end

section
/-!
PROOFS. VOP and VRED (R167, R195, R199 to R209).
-/
namespace Sys2Proof.Proofs

open Sys2Proof Sys2Proof.Machine Sys2Proof.Safety Sys2Proof.Laws

/-! Issue. -/

/-- The instruction is a VOP that reads no tile. -/
def vecNoA (w : Word) : Bool := w.field 56 8 == 0x50 && readsNoA (w.field 48 8)

/-- The fields of a VOP or VRED are such that it neither ends its program nor meets an undefined case. -/
structure VecOk (w : Word) : Prop where
  func : (if w.field 56 8 == 0x50 then !vopListed (w.field 48 8)
    else !vredListed (w.field 48 8) || w.field 37 2 == 3) = false
  plane : (w.field 56 8 == 0x50 && isCompare (w.field 48 8) && decide (4 ≤ w.field 45 3)) = false
  fmt : (!(w.field 56 8 == 0x50) && !isArg (w.field 48 8) && badReduceFmt (w.field 33 4)) = false
  tbs : ((!(w.field 56 8 == 0x50 && isCompare (w.field 48 8)) && badTb (w.field 45 3))
    || (!w.flag 44 && !vecNoA w && badTb (w.field 39 3))
    || (w.field 56 8 == 0x50 && readsTbb (w.field 48 8) && badTb (w.field 36 3))) = false

/-- The work item of a VOP or VRED. -/
def vecItem (p : Pond) (w : Word) (t : Option Nat) : PondOp := { p.item w with x := p.sreg (w.field 31 5), ticket := t }

section
variable {s : State} {u : Nat} {w : Word} (hok : VecOk w) (hV : (s.pond u).vecQ = [])
include hok hV

theorem iVec_of_ok : iVec s u w = if (w.flag 44 && !vecNoA w) = true then
      match (s.pond u).heldIn (w.field 39 5) with
      | none => s.fail u 0x15
      | some k => ((s.undefIf k.gang .slotSourceGanged).when (w.flag 25) fun s => s.modPond u fun p => p.unhold k.ticket).toVec u
          (vecItem (s.pond u) w (some k.ticket))
    else s.toVec u (vecItem (s.pond u) w none) := by
  have hroom : ¬ (s.pond u).vecFull = true := by simp [Pond.vecFull, hV]
  have hbad := hok.tbs
  unfold vecNoA at hbad
  unfold iVec
  simp only [hok.func, hok.plane, hok.fmt, undefIf_false]
  rw [if_neg hroom, if_neg (by rw [hbad]; exact Bool.false_ne_true)]
  rfl

theorem iVec_of_plain (hslot : (w.flag 44 && !vecNoA w) = false) : iVec s u w = s.toVec u (vecItem (s.pond u) w none) := by
  rw [iVec_of_ok hok hV, hslot]
  rfl

theorem iVec_of_slot {k : TicketInfo} (hslot : (w.flag 44 && !vecNoA w) = true)
    (hk : (s.pond u).heldIn (w.field 39 5) = some k) (hgang : k.gang = false) : iVec s u w
      = (s.when (w.flag 25) fun s => s.modPond u fun p => p.unhold k.ticket).toVec u (vecItem (s.pond u) w (some k.ticket)) := by
  rw [iVec_of_ok hok hV, hslot, hk]
  simp only [if_true, hgang, undefIf_false]

end

/-! What a VOP or VRED leaves. -/

/-- From `s` to `t`, pond `u` has done `o` with the vector engine, and no other pond, memory or scalar register has changed. -/
def VecEffected (s t : State) (u : Nat) (o : PondOp) : Prop :=
  (t.pond u).tbs = (vecEffect (s.pond u) o).1.tbs ∧ (t.pond u).planes = (vecEffect (s.pond u) o).1.planes
    ∧ (t.pond u).vecQ = [] ∧ (t.pond u).sregs = (s.pond u).sregs ∧ (∀ v, v ≠ u → t.pond v = s.pond v)
    ∧ { t with ponds := s.ponds, regs := s.regs } = s

section
variable {s : State} {u : Nat} {w : Word} {c : Instr} {op func : Nat} {o : PondOp}
  (hexec : exec c s = runU (fun s => s.issueRow u (isVec op func) iVec) s) (h : AtInsn s u w) (hsel : isVec op func w = true) (hvec : o.op = 0x50 ∨ o.op = 0x51) (hrec : o.insn.flag 26 = false)
include hexec h hsel hvec hrec

/-- A vector item that is issued from a pond whose tiles are those of `s`. -/
theorem gives_of_toVec {t : State} {q : Pond} (hissue : iVec s.clean u w = t.toVec u o) (ht : OnlyPond s.clean t u q)
    (hq : Quiescent q) (hfq : Follows q) (hfull : ∀ k, o.ticket = some k → q.tileFull k = true)
    (hsame : q.tbs = (s.pond u).tbs ∧ q.planes = (s.pond u).planes ∧ q.slots = (s.pond u).slots ∧ q.sregs = (s.pond u).sregs) :
    Gives c s fun t => VecEffected s t u o := by
  have hqueued : OnlyPond s.clean (t.toVec u o) u { onward q with vecQ := [o] } := onlyPond_toVec ht hq hfq
  generalize t.toVec u o = b at hissue hqueued
  have hready : (b.pond u).opReady o = true := by
    rw [hqueued.1]
    exact opReady_of_alone (.inl ⟨rfl, hq.empty.storeQ⟩) ⟨hq.empty.feedA, hq.empty.feedB, hq.empty.gridQ⟩ hfull
  obtain ⟨r, hrun, hdone⟩ := runVec_of_ready hqueued.1 (quiescent_onward hq) hready
    ((vecEffect_record _ _ hvec).trans hrec)
  have hpump : b.pump u = r := pump_of_vec (s := s.clean) h.works hqueued hdone.still hrun hq.mode
    ⟨hq.empty.feedA, hq.empty.feedB, hq.empty.gridQ⟩
  have hplain : (o.op == 0x42) = false := by
    rcases hvec with hop | hop <;> rw [hop] <;> rfl
  have hframe := hdone.frame
  rw [hplain, when_false] at hframe
  have hkeep {α : Type} (p : State → α) (hp : ∀ x ps rs, p { x with ponds := ps, regs := rs } = p x) : p r = p s.clean :=
    ((hp r b.ponds b.regs).symm.trans (congrArg p hframe)).trans
      (keeps_of_onlyPond hqueued p fun x ps => hp x ps x.regs)
  obtain ⟨htbs, hplanes, hslots, hsregs⟩ := hsame
  have hres := vecEffect_congr (p := s.pond u) (q := b.pond u) (by rw [hqueued.1]; exact htbs) (by rw [hqueued.1]; exact hplanes)
    (by rw [hqueued.1]; exact hslots) o
  refine gives_of_issue hexec h hsel ((congrArg (State.pump · u) hissue).trans hpump) (hkeep State.misuse fun _ _ _ => rfl)
    ⟨hdone.tbs.trans hres.1, hdone.planes.trans hres.2, hdone.still.empty.vecQ, hdone.sregs.trans ?_, fun v hv => ?_, ?_⟩
  · rw [hqueued.1]
    exact hsregs
  · exact (hdone.others v hv).trans (hqueued.2.1 v hv)
  · exact hkeep (fun x => ({ x.keeping s with ponds := s.ponds, regs := s.regs } : State)) fun _ _ _ => rfl

end

/-- The ticket that a VOP or VRED reads its source from. -/
def vecTicket (p : Pond) (w : Word) : Option Nat :=
  if (w.flag 44 && !vecNoA w) = true then (p.heldIn (w.field 39 5)).map (·.ticket) else none

section
variable {s : State} {u : PondId} {w : Word} (h : AtInsn s u w) (he : EnginesEmpty (s.pond u)) (hf : Follows (s.pond u))
  (hrec : w.flag 26 = false) (hok : VecOk w)
  (hslot : (w.flag 44 && !vecNoA w) = true →
    ∃ k, (s.pond u).heldIn (w.field 39 5) = some k ∧ k.gang = false ∧ (s.pond u).tileFull k.ticket = true)
include h he hf hrec hok hslot

theorem vec_gives {c : Instr} {op func : Nat} (hexec : exec c s = runU (fun s => s.issueRow u (isVec op func) iVec) s)
    (hsel : isVec op func w = true) (hvec : w.field 56 8 = 0x50 ∨ w.field 56 8 = 0x51) :
    Gives c s fun t => VecEffected s t u (vecItem (s.pond u) w (vecTicket (s.pond u) w)) := by
  have hq := quiescent_of_atInsn h he
  cases hsource : w.flag 44 && !vecNoA w with
  | false =>
    have hticket : vecTicket (s.pond u) w = none := by rw [vecTicket, hsource]; rfl
    rw [hticket]
    exact gives_of_toVec hexec h hsel hvec hrec (iVec_of_plain (s := s.clean) hok he.vecQ hsource) (onlyPond_refl s.clean u) hq hf
      nofun ⟨rfl, rfl, rfl, rfl⟩
  | true =>
    obtain ⟨k, hk, hgang, hfull⟩ := hslot hsource
    have hticket : vecTicket (s.pond u) w = some k.ticket := by rw [vecTicket, hsource, hk]; rfl
    have hissue := iVec_of_slot (s := s.clean) hok he.vecQ hsource hk hgang
    rw [hticket]
    have hreads (x : Nat) (hx : (vecItem (s.pond u) w (some k.ticket)).ticket = some x) : (s.pond u).tileFull x = true :=
      Option.some.inj hx ▸ hfull
    cases hrelease : w.flag 25 with
    | false =>
      rw [hrelease, when_false] at hissue
      exact gives_of_toVec hexec h hsel hvec hrec hissue (onlyPond_refl s.clean u) hq hf hreads ⟨rfl, rfl, rfl, rfl⟩
    | true =>
      rw [hrelease, when_true] at hissue
      exact gives_of_toVec (q := (s.pond u).unhold k.ticket) hexec h hsel hvec hrec hissue
        (onlyPond_modPond (onlyPond_refl s.clean u) fun p => p.unhold k.ticket) (quiescent_unhold hq k.ticket) hf hreads
        ⟨rfl, rfl, rfl, rfl⟩

end

/-! The rows. -/

/-- The rows of VOP by FUNC (R200). -/
def vopRows (u : PondId) : List (Nat × Instr) := [
  (0x00, .vopCopy u), (0x01, .vopAdd u), (0x02, .vopSub u), (0x03, .vopMul u), (0x04, .vopDiv u), (0x05, .vopFma u),
  (0x06, .vopFill u), (0x07, .vopAdds u), (0x08, .vopMuls u), (0x09, .vopFmas u), (0x0A, .vopMax u), (0x0B, .vopMin u),
  (0x0C, .vopMaxs u), (0x0D, .vopAbs u), (0x0E, .vopNeg u), (0x10, .vopAddrow u), (0x11, .vopSubrow u),
  (0x12, .vopMulrow u), (0x13, .vopDivrow u), (0x14, .vopAddcol u), (0x15, .vopMulcol u), (0x20, .vopRecip u),
  (0x21, .vopSqrt u), (0x22, .vopRsqrt u), (0x23, .vopExp u), (0x24, .vopExp2 u), (0x25, .vopLog u), (0x26, .vopTanh u),
  (0x27, .vopSigmoid u), (0x28, .vopSilu u), (0x29, .vopGelu u), (0x2A, .vopExpsubrow u), (0x30, .vopCmplt u),
  (0x31, .vopCmple u), (0x32, .vopCmpeq u), (0x33, .vopCmpltb u), (0x38, .vopDiag u), (0x3C, .vopCvti u)]

/-- The rows of VRED by FUNC (R206). -/
def vredRows (u : PondId) : List (Nat × Instr) := [
  (0x80, .vredSum u), (0x81, .vredProd u), (0x82, .vredMax u), (0x83, .vredMin u), (0x84, .vredArgmax u),
  (0x85, .vredArgmin u), (0x86, .vredSumsq u), (0x87, .vredAbsmax u)]

theorem vopRows_spec (u : PondId) (s : State) : ∀ e ∈ vopRows u, vopListed e.1 = true
    ∧ exec e.2 s = runU (fun s => s.issueRow u (isVec 0x50 e.1) iVec) s := by
  simp only [vopRows, List.forall_mem_cons, List.not_mem_nil, false_implies, implies_true, and_true]
  and_intros <;> rfl

theorem vredRows_spec (u : PondId) (s : State) : ∀ e ∈ vredRows u, vredListed e.1 = true
    ∧ exec e.2 s = runU (fun s => s.issueRow u (isVec 0x51 e.1) iVec) s := by
  simp only [vredRows, List.forall_mem_cons, List.not_mem_nil, false_implies, implies_true, and_true]
  and_intros <;> rfl

/-! Fields (R195, R200, R203, R206, R209). -/

section
variable {w : Word} (htd : w.field 45 3 < 6) (hsource : vecNoA w = true ∨ w.flag 44 = true ∨ w.field 39 3 < 6)
include htd hsource

theorem vecOk_tbs (htbb : w.field 56 8 = 0x50 → readsTbb (w.field 48 8) = true → w.field 36 3 < 6) :
    ((!(w.field 56 8 == 0x50 && isCompare (w.field 48 8)) && badTb (w.field 45 3))
      || (!w.flag 44 && !vecNoA w && badTb (w.field 39 3))
      || (w.field 56 8 == 0x50 && readsTbb (w.field 48 8) && badTb (w.field 36 3))) = false := by
  have htarget : badTb (w.field 45 3) = false := decide_eq_false (Nat.not_le.mpr htd)
  have hreads : (!w.flag 44 && !vecNoA w && badTb (w.field 39 3)) = false := by
    rcases hsource with hnone | hslot | htile
    · simp [hnone]
    · simp [hslot]
    · simp [badTb, Nat.not_le.mpr htile]
  have hb : (w.field 56 8 == 0x50 && readsTbb (w.field 48 8) && badTb (w.field 36 3)) = false := by
    by_cases hop : w.field 56 8 = 0x50 ∧ readsTbb (w.field 48 8) = true
    · simp [badTb, htbb hop.1 hop.2]
    · rcases not_and_or.mp hop with hop | hop <;> simp [hop]
  rw [htarget, hreads, hb, Bool.and_false]
  rfl

theorem vecOk_vop (hop : w.field 56 8 = 0x50) (hlisted : vopListed (w.field 48 8) = true)
    (hplane : isCompare (w.field 48 8) = true → w.field 45 3 < 4) (htbb : readsTbb (w.field 48 8) = true → w.field 36 3 < 6) :
    VecOk w := by
  refine ⟨?_, ?_, ?_, vecOk_tbs htd hsource fun _ => htbb⟩
  · simp [hop, hlisted]
  · by_cases hcompare : isCompare (w.field 48 8) = true
    · simp [hplane hcompare]
    · simp [hcompare]
  · simp [hop]

theorem vecOk_vred (hop : w.field 56 8 = 0x51) (hlisted : vredListed (w.field 48 8) = true) (haxis : w.field 37 2 ≠ 3)
    (hfmt : badReduceFmt (w.field 33 4) = false) : VecOk w := by
  refine ⟨?_, ?_, ?_, vecOk_tbs htd hsource fun hvop => ?_⟩
  · simp [hop, hlisted, haxis]
  · simp [hop]
  · simp [hfmt]
  · rw [hop] at hvop
    cases hvop

end

/-- Settles O11: a VOP or VRED issues into an empty vector queue, and the engine does it in the same step. -/
theorem vectorInstructions : Obligations.VectorInstructions := by
  unfold Obligations.VectorInstructions
  intro s u w h he hf p f noA hrec htd hplane htbb hsource hslot tk o does
  have hnoA : vecNoA w = true ↔ noA := by simp [vecNoA, noA, f]
  have hwants : (w.flag 44 && !vecNoA w) = true ↔ w.flag 44 = true ∧ ¬ noA := by
    rw [← hnoA]
    simp
  have htd' : w.field 45 3 < 6 := by
    rcases htd with ⟨-, -, hlt⟩ | hlt
    · omega
    · exact hlt
  have hsource' : vecNoA w = true ∨ w.flag 44 = true ∨ w.field 39 3 < 6 := by rwa [hnoA]
  have hslot' (hneeds : (w.flag 44 && !vecNoA w) = true) := hslot (hwants.mp hneeds).1 (hwants.mp hneeds).2
  have hitem : vecItem p w (vecTicket p w) = o := by
    have hticket : vecTicket p w = tk := if_congr hwants rfl rfl
    rw [hticket]
    rfl
  refine ⟨fun hop e he' hfunc => ?_, fun hop haxis hfmt e he' hfunc => ?_⟩
  · obtain ⟨hlisted, hexec⟩ := vopRows_spec u s e he'
    rw [← hfunc] at hlisted
    have hok := vecOk_vop htd' hsource' hop hlisted (hplane hop) (htbb hop)
    have hsel : isVec 0x50 e.1 w = true := by simp [isVec, hop, ← hfunc, f]
    have heffect : vecEffect p o = p.runVop o := if_pos hop
    refine gives_mono (vec_gives h he hf hrec hok hslot' hexec hsel (.inl hop)) fun t ht => ?_
    rw [hitem] at ht
    rw [← heffect]
    exact ht
  · obtain ⟨hlisted, hexec⟩ := vredRows_spec u s e he'
    rw [← hfunc] at hlisted
    have hok := vecOk_vred htd' hsource' hop hlisted haxis hfmt
    have hsel : isVec 0x51 e.1 w = true := by simp [isVec, hop, ← hfunc, f]
    have heffect : vecEffect p o = p.runVred o := by
      have hnot : ¬ o.op = 0x50 := by
        rw [show o.op = w.field 56 8 from rfl, hop]
        decide
      exact (if_neg hnot).trans (if_pos hop)
    refine gives_mono (vec_gives h he hf hrec hok hslot' hexec hsel (.inr hop)) fun t ht => ?_
    rw [hitem] at ht
    rw [← heffect]
    exact ht

end Sys2Proof.Proofs
end

section
/-!
PROOFS. Translations and the reads of a pond's program (R145, R151 to R154, R185, R272 to R279): what an access within a
granule, a report and a cached translation leave, they leave.
-/
namespace Sys2Proof.Proofs

open Sys2Proof Sys2Proof.Machine Sys2Proof.Safety Sys2Proof.Laws

/-- What `p` says of a state does not change with an access, a report, a cached translation, a register or a free value. -/
structure KeptByReads {α : Type} (p : State → α) : Prop where
  loadPiece : ∀ s l a n, p (State.loadPiece s l a n).2 = p s
  raise : ∀ s l src, p (State.raise s l src) = p s
  fields : ∀ x rs ts m n, p { x with regs := rs, tlbs := ts, misuse := m, freeCtr := n } = p x

section
variable {α : Type} {p : State → α} (hp : KeptByReads p) (s : State)
include hp

theorem KeptByReads.bump : p s.bump = p s := hp.fields s s.regs s.tlbs s.misuse _
theorem KeptByReads.setReg (k : Nat) (v : Word) : p (s.setReg k v) = p s := hp.fields s _ s.tlbs s.misuse s.freeCtr
theorem KeptByReads.setTlb (b : Nat) (t : List TlbEntry) : p (s.setTlb b t) = p s := hp.fields s s.regs _ s.misuse s.freeCtr

theorem KeptByReads.undefIf (b : Bool) (c : Undefined) : p (s.undefIf b c) = p s := by
  unfold State.undefIf
  split
  · exact hp.fields s s.regs s.tlbs _ s.freeCtr
  · rfl

theorem KeptByReads.load (l a n : Nat) : p (s.load l a n).2 = p s :=
  List.foldlRecOn (motive := fun r : Rd × State => p r.2 = p s) (pieces a n) _ rfl
    fun r hr q _ => (hp.loadPiece r.2 l q.1 q.2).trans hr

/-! Translation. -/

theorem KeptByReads.either {β : Type} [DecidableEq β] (fresh : β) (cached : List β) : p (s.either fresh cached).2 = p s := by
  unfold State.either
  extract_lets all
  split
  · rfl
  · exact hp.bump s

theorem KeptByReads.walkRead (l a : Nat) : p (s.walkRead l a).2 = p s := by
  unfold State.walkRead
  split
  · exact hp.load s l a 8
  · rfl

theorem KeptByReads.walkEntry (l b asid level va a : Nat) : p (s.walkEntry l b asid level va a).2 = p s :=
  (hp.either _ _ _).trans (hp.walkRead s l a)

theorem KeptByReads.tlbFill (b : Nat) (e : TlbEntry) : p (s.tlbFill b e) = p s := by
  unfold State.tlbFill
  extract_lets t kind victim
  split
  · rfl
  · split
    · exact hp.setTlb s _ _
    · exact (hp.setTlb _ _ _).trans (hp.bump s)

theorem KeptByReads.astEntry (l b asid : Nat) : p (s.astEntry l b asid).2 = p s := by
  unfold State.astEntry
  extract_lets ast t a
  have ht : p t = p s := hp.undefIf s _ _
  split
  · exact ht
  · have hroot := hp.walkEntry t l b asid 5 0 a
    generalize t.walkEntry l b asid 5 0 a = o at hroot ⊢
    obtain ⟨w0, u⟩ := o
    dsimp only
    have hhost := hp.walkRead u l (a + 8)
    generalize u.walkRead l (a + 8) = o at hhost ⊢
    obtain ⟨w1, v⟩ := o
    have hv : p v = p s := hhost.trans (hroot.trans ht)
    dsimp only
    split
    · split
      · exact (hp.tlbFill v _ _).trans hv
      · exact hv
    · exact hv

theorem KeptByReads.walk (l b asid va level table : Nat) : p (s.walk l b asid va level table).2 = p s := by
  induction level generalizing s table with
  | zero =>
    unfold State.walk
    have hentry := hp.walkEntry s l b asid 0 va (table + va / 2 ^ 12 % 512 * 8)
    generalize s.walkEntry l b asid 0 va (table + va / 2 ^ 12 % 512 * 8) = o at hentry ⊢
    obtain ⟨e, t⟩ := o
    dsimp only
    split
    · exact hentry
    · split <;> exact hentry
  | succ level ih =>
    unfold State.walk
    extract_lets sh
    have hentry := hp.walkEntry s l b asid (level + 1) va (table + va / 2 ^ sh % 512 * 8)
    generalize s.walkEntry l b asid (level + 1) va (table + va / 2 ^ sh % 512 * 8) = o at hentry ⊢
    obtain ⟨e, t⟩ := o
    dsimp only
    split
    · exact hentry
    · split
      · exact hentry
      · split
        · exact hentry
        · exact (ih _ _).trans ((hp.tlbFill t b _).trans hentry)

theorem KeptByReads.xlate (l b asid va : Nat) (rd wr : Bool) : p (s.xlate l b asid va rd wr).2 = p s := by
  unfold State.xlate
  extract_lets va
  have hast := hp.astEntry s l b asid
  generalize s.astEntry l b asid = o at hast ⊢
  obtain ⟨ast, t⟩ := o
  dsimp only
  split
  · exact hast
  next root host =>
    have hwalk := hp.walk t l b asid va 4 (root.field 0 40 * 4096)
    generalize t.walk l b asid va 4 (root.field 0 40 * 4096) = o at hwalk ⊢
    obtain ⟨fresh, u⟩ := o
    have hused := hp.either u (walked fresh) ((tlbLeaves (u.tlb b) asid va).map some)
    dsimp only
    generalize u.either (walked fresh) ((tlbLeaves (u.tlb b) asid va).map some) = o at hused ⊢
    obtain ⟨used, v⟩ := o
    have hv : p v = p s := hused.trans (hwalk.trans hast)
    dsimp only
    split
    · exact hv
    · exact hv
    · dsimp only
      split
      · exact (hp.tlbFill v b _).trans hv
      · exact hv

theorem KeptByReads.xlatFault (w : Who) (va c : Nat) (wr : Bool) : p (s.xlatFault w va c wr) = p s := by
  unfold State.xlatFault
  extract_lets t
  have ht : p t = p s := hp.setReg s _ _
  split
  · exact ht
  · exact (hp.raise _ _ _).trans ((hp.setReg _ _ _).trans ((hp.setReg _ _ _).trans ht))

theorem KeptByReads.xlateFor (w : Who) (va : Nat) (rd wr : Bool) : p (s.xlateFor w va rd wr).2 = p s := by
  have hkept := hp.xlate s w.l w.b w.asid va rd wr
  unfold State.xlateFor
  generalize s.xlate w.l w.b w.asid va rd wr = o at hkept ⊢
  obtain ⟨x, t⟩ := o
  cases x with
  | ok pa => exact hkept
  | fault c => exact (hp.xlatFault t w va c wr).trans hkept

/-! Reads by a program. -/

variable (u : Nat)

theorem KeptByReads.staleChoice (pa : Nat) (now : List Byte × Bool) (n : Nat) : p (s.staleChoice u pa now n).2 = p s := by
  unfold State.staleChoice
  extract_lets olds old
  split
  · rfl
  · exact hp.bump s

theorem KeptByReads.pondPieces (pa n : Nat) : p (s.pondPieces u pa n).2 = p s := by
  refine List.foldlRecOn (motive := fun r : Option (List (Byte × Bool)) × State => p r.2 = p s) (pieces pa n) _ rfl
    fun r hr q _ => ?_
  obtain ⟨o, t⟩ := r
  cases o with
  | none => exact hr
  | some bs =>
    have hload := hp.loadPiece t (t.pondLine u) q.1 q.2
    dsimp only
    generalize t.loadPiece (t.pondLine u) q.1 q.2 = x at hload ⊢
    obtain ⟨rd, v⟩ := x
    dsimp only
    split
    · exact hload.trans hr
    · exact (hp.staleChoice v u _ _ _).trans (hload.trans hr)

theorem KeptByReads.pondRead (va n : Nat) : p (s.pondRead u va n).2 = p s := by
  refine List.foldlRecOn (motive := fun r : PRead × State => p r.2 = p s) (pagePieces va n) _ rfl fun r hr q _ => ?_
  obtain ⟨o, t⟩ := r
  cases o with
  | bad st a => exact hr
  | ok bs =>
    have hx := hp.xlateFor t (t.pondWho u (t.pond u).cur.asid) q.1 true false
    dsimp only
    generalize t.xlateFor (t.pondWho u (t.pond u).cur.asid) q.1 true false = x at hx ⊢
    obtain ⟨pa, v⟩ := x
    cases pa with
    | fault c => exact hx.trans hr
    | ok pa =>
      have hpieces := hp.pondPieces v u pa q.2
      dsimp only
      generalize v.pondPieces u pa q.2 = y at hpieces ⊢
      obtain ⟨d, z⟩ := y
      cases d with
      | none => exact hpieces.trans (hx.trans hr)
      | some d => exact hpieces.trans (hx.trans hr)

theorem KeptByReads.readRun (d : Desc) (f : Fmt) (i j n : Nat) : p (s.readRun u d f i j n).2 = p s := by
  unfold State.readRun
  extract_lets w cols r
  have hread := hp.pondRead s u r.va (r.bytes w)
  generalize s.pondRead u r.va (r.bytes w) = x at hread ⊢
  obtain ⟨o, t⟩ := x
  cases o with
  | bad st a => exact hread
  | ok bs =>
    dsimp only
    split
    · have hscale := hp.pondRead t u (d.scaleVa i j) (if cols = true then 1 else (j + n - 1) / 32 - j / 32 + 1)
      generalize t.pondRead u (d.scaleVa i j) (if cols = true then 1 else (j + n - 1) / 32 - j / 32 + 1) = y at hscale ⊢
      obtain ⟨o, v⟩ := y
      cases o with
      | bad st a => exact hscale.trans hread
      | ok sc => exact hscale.trans hread
    · exact hread

theorem KeptByReads.readRegion (d : Desc) (f : Fmt) (i0 j0 rows cols : Nat) : p (s.readRegion u d f i0 j0 rows cols).2 = p s := by
  refine List.foldlRecOn (motive := fun r : Region × State => p r.2 = p s) (d.regionRuns f i0 j0 rows cols) _ rfl
    fun r hr q _ => ?_
  obtain ⟨o, t⟩ := r
  cases o with
  | bad st a es => exact hr
  | ok es =>
    have hrun := hp.readRun t u d f q.1 q.2.1 q.2.2
    dsimp only
    generalize t.readRun u d f q.1 q.2.1 q.2.2 = x at hrun ⊢
    obtain ⟨o, v⟩ := x
    cases o with
    | bad st a es' => exact hrun.trans hr
    | ok es' => exact hrun.trans hr

/-! Descriptors. -/

theorem KeptByReads.lowBits (a n : Nat) : p (s.lowBits a n).2 = p s := by
  unfold State.lowBits
  split
  · rfl
  · exact hp.bump s

theorem KeptByReads.lowBitsOf (ws : List Word) (fields : List (Nat × Nat × Nat × Nat)) :
    p (s.lowBitsOf ws fields).2 = p s := by
  refine List.foldlRecOn (motive := fun r : List Word × State => p r.2 = p s) fields _ rfl fun r hr f _ => ?_
  dsimp only
  split
  · exact hr
  · exact (hp.lowBits r.2 _ _).trans hr

/-- A transfer that a channel takes changes channels alone. -/
theorem KeptByReads.acceptXfer (hc : ∀ x cs, p { x with chans := cs } = p x) (c : Nat) (ws : List Word) (asid job cls : Nat)
    (src : XferSrc) (who : Who) : p (s.acceptXfer c ws asid job cls src who).2 = p s := by
  unfold State.acceptXfer
  have hlow := hp.lowBitsOf s ws [(14, 0, 57, 64)]
  generalize s.lowBitsOf ws [(14, 0, 57, 64)] = o at hlow ⊢
  obtain ⟨ws', t⟩ := o
  dsimp -zeta only
  extract_lets x va
  split
  · exact (hc t _).trans hlow
  · have hx := hp.xlateFor t who va false true
    generalize t.xlateFor who va false true = y at hx ⊢
    obtain ⟨pa, v⟩ := y
    cases pa with
    | fault c => exact hx.trans hlow
    | ok pa => exact (hc v _).trans (hx.trans hlow)

end

section
variable {α : Type} {p : State → α} (hp : KeptByReads p) {s r : State} {u : Nat}
include hp

theorem KeptByReads.of_xlateFor {w : Who} {va : Nat} {rd wr : Bool} {x : Xl} (h : s.xlateFor w va rd wr = (x, r)) :
    p r = p s := (congrArg (p ·.2) h).symm.trans (hp.xlateFor s w va rd wr)

theorem KeptByReads.of_pondRead {va n : Nat} {x : PRead} (h : s.pondRead u va n = (x, r)) : p r = p s :=
  (congrArg (p ·.2) h).symm.trans (hp.pondRead s u va n)

theorem KeptByReads.of_readRegion {d : Desc} {f : Fmt} {i0 j0 rows cols : Nat} {x : Region}
    (h : s.readRegion u d f i0 j0 rows cols = (x, r)) : p r = p s :=
  (congrArg (p ·.2) h).symm.trans (hp.readRegion s u d f i0 j0 rows cols)

end

/-! Ponds and the states of Lines. -/

theorem keptByReads_unaccessed : KeptByReads unaccessed := ⟨unaccessed_loadPiece, unaccessed_raise, fun _ _ _ _ _ => rfl⟩

theorem keptByReads_of_unaccessed {α : Type} {p : State → α} (hp : ∀ x, p (unaccessed x) = p x) : KeptByReads p :=
  ⟨fun s l a n => keeps_of_unaccessed (unaccessed_loadPiece s l a n) p hp,
    fun s l src => keeps_of_unaccessed (unaccessed_raise s l src) p hp,
    fun x _ _ _ _ => keeps_of_unaccessed (keptByReads_unaccessed.fields x _ _ _ _) p hp⟩

theorem keptByReads_pond (v : Nat) : KeptByReads (State.pond · v) := keptByReads_of_unaccessed fun _ => rfl

theorem keptByReads_lineSts : KeptByReads lineSts := ⟨lineSts_loadPiece, lineSts_raise, fun _ _ _ _ _ => rfl⟩

theorem keptByReads_pondWorks (u : Nat) : KeptByReads (State.pondWorks · u) := by
  have hcongr {s t : State} (hl : t.leaders = s.leaders) (hs : lineSts t = lineSts s) : t.pondWorks u = s.pondWorks u :=
    congrArg LnState.works (lineStOf_congr hl hs (u / 8))
  have hleaders : KeptByReads State.leaders := keptByReads_of_unaccessed fun _ => rfl
  exact ⟨fun s l a n => hcongr (hleaders.loadPiece s l a n) (keptByReads_lineSts.loadPiece s l a n),
    fun s l src => hcongr (hleaders.raise s l src) (keptByReads_lineSts.raise s l src),
    fun x rs ts m n => hcongr (hleaders.fields x rs ts m n) (keptByReads_lineSts.fields x rs ts m n)⟩

end Sys2Proof.Proofs
end

section
/-!
PROOFS. A load that enters a feeder of a pond whose engines are empty (R143, R156 to R158): one from a tile buffer reads it in
the same step, and nothing else goes on.
-/
namespace Sys2Proof.Proofs

open Sys2Proof Sys2Proof.Machine Sys2Proof.Safety Sys2Proof.Laws

/-! The feeders of a pond. -/

theorem feeder_feed {p : Pond} (he : EnginesEmpty p) (isA : Bool) (q : Nat) (x : Load) :
    (p.feed isA q x).feeder isA q = [x] := by
  unfold Pond.feed
  split
  next h =>
    subst h
    simp [Pond.feeder, he.feedA]
  next h =>
    simp [Pond.feeder, he.feedB, h]

theorem feeder_fillLoads (p : Pond) (isA : Bool) (q : Nat) :
    p.fillLoads.feeder isA q = (p.feeder isA q).map (p.fillLoad isA) := by
  cases isA
  · exact tblGet_map (d := []) (List.map (p.fillLoad false)) p.feedB q
  · exact tblGet_map (d := []) (List.map (p.fillLoad true)) p.feedA q

/-- Nothing writes a tile buffer, so a load from one reads it. -/
theorem fillLoad_of_tb {p : Pond} (hV : p.vecQ = []) (hS : p.storeQ = []) (isA : Bool) {x : Load} {b : Nat}
    (hb : x.tb = some b) (hready : x.ready = false) : p.fillLoad isA x = tbElems x (isA != x.trans) (p.tb b) := by
  have hfree : p.tbWritePending b x.seq = false := by simp [Pond.tbWritePending, Pond.tileOps, hV, hS]
  simp [Pond.fillLoad, hb, hready, hfree]

theorem fillLoad_of_memory (p : Pond) (isA : Bool) {x : Load} (hx : x.tb = none) : p.fillLoad isA x = x := by
  simp [Pond.fillLoad, hx]

/-- One load without a fault in a feeder leaves the pond's engines resting. -/
theorem resting_feed {p : Pond} (h : Quiescent p) (isA : Bool) (q : Nat) {x : Load} (hx : x.fault = none) :
    Resting (onward (p.feed isA q x)) := by
  obtain ⟨hmode, -, hA, hB, hG, hV, hS, hX, hP⟩ := h
  have hload (e : Nat × List Load) (he : e ∈ tblSet [] [] q ([] ++ [x])) (y : Load) (hy : y ∈ e.2) : y.fault = none := by
    have hlisted : e = (q, [x]) := List.mem_singleton.mp he
    rw [hlisted] at hy
    rw [List.mem_singleton.mp hy, hx]
  have hfed {t : Tbl (List Load)} (ht : t = []) : ∀ e ∈ tblSet [] t q (tblGet [] t q ++ [x]), ∀ y ∈ e.2, y.fault = none :=
    ht ▸ hload
  cases isA
  · exact ⟨hmode, nofun, hV, hS, hX, hP, by simp [onward, Pond.feed, hA], hfed hB, by simp [onward, Pond.feed, hG]⟩
  · exact ⟨hmode, nofun, hV, hS, hX, hP, hfed hA, by simp [onward, Pond.feed, hB], by simp [onward, Pond.feed, hG]⟩

/-! The engines. -/

section
variable {s : State} {u : Nat} (hG : (s.pond u).gridQ = [])
include hG

theorem turn_of_ungridded (q : Nat) : s.turn u q = none := by simp [State.turn, Pond.nextMma, Pond.gridOps, hG]

theorem runOn_of_ungridded : s.runOn u = s := by
  have hnone (q : Nat) : startNext u s q = s := by simp [startNext, State.startable, turn_of_ungridded hG]
  rw [runOn_eq]
  exact List.foldlRecOn (motive := (· = s)) _ _ rfl fun t ht q _ => ht ▸ hnone q

theorem pond_fill_of_ungridded : (s.fill u).pond u = (s.pond u).fillLoads := by
  rw [pond_fill]
  simp [State.preloads, turn_of_ungridded hG]

/-- Engines that rest fill the loads, and leave whether a case was undefined. -/
theorem pump_of_ungridded (hrest : Resting (s.pond u)) (hw : s.pondWorks u = true) :
    (s.pump u).pond u = (s.pond u).fillLoads ∧ (s.pump u).misuse = s.misuse := by
  have hfilled := pond_fill_of_ungridded hG
  have hfillG : ((s.fill u).pond u).gridQ = [] := by
    rw [hfilled]
    simp [Pond.fillLoads, hG]
  refine ⟨?_, pump_keeps_of_resting hrest hw State.misuse fun _ _ _ _ => rfl⟩
  rw [pump_of_resting hrest hw, runOn_of_ungridded hfillG, hfilled]

theorem pump_of_loads (hrest : Resting (s.pond u)) {isA : Bool} {q : Nat} {x : Load}
    (hfeeder : (s.pond u).feeder isA q = [x]) (hw : s.pondWorks u = true ∨ x.tb = none) :
    ((s.pump u).pond u).feeder isA q = [(s.pond u).fillLoad isA x] ∧ (s.pump u).misuse = s.misuse := by
  cases hworks : s.pondWorks u with
  | true =>
    obtain ⟨hpond, hmisuse⟩ := pump_of_ungridded hG hrest hworks
    rw [hpond, feeder_fillLoads, hfeeder]
    exact ⟨rfl, hmisuse⟩
  | false =>
    have hx : x.tb = none := hw.resolve_left fun h => by simp [hworks] at h
    have hpump : s.pump u = s := by simp [State.pump, hworks]
    rw [hpump, fillLoad_of_memory _ _ hx]
    exact ⟨hfeeder, rfl⟩

end

end Sys2Proof.Proofs
end

section
/-!
PROOFS. LD, ALD, LDA, LDB and LDT (R148, R155 to R158, R166, R185).
-/
namespace Sys2Proof.Proofs

open Sys2Proof Sys2Proof.Machine Sys2Proof.Safety Sys2Proof.Laws

/-! Where an instruction goes on from what its read has left. -/

theorem onlyPond_kept {r t : State} {u : Nat} {q : Pond} (s : State) (h : OnlyPond r t u q) :
    OnlyPond (r.keeping s) (t.keeping s) u q := ⟨h.1, h.2.1, congrArg (State.keeping · s) h.2.2⟩

section
variable {c : Instr} {s r : State} {u : Nat} {w : Word} {sel : Word → Bool} {f : State → Nat → Word → State}
  (hexec : exec c s = runU (fun s => s.issueRow u sel f) s) (h : AtInsn s u w) (hsel : sel w = true)
  (hm : r.misuse = none)
include hexec h hsel hm

/-- An instruction that completes at issue, after a read that left `r`. -/
theorem gives_of_read {b : State} {q : Pond} (hf : f s.clean u w = b.adv u) (hb : OnlyPond r b u q) (hq : Quiescent q)
    (hfollows : Follows q) : Gives c s fun t => OnlyPond (r.keeping s) t u (onward q) := by
  have hadv := onlyPond_adv hb hq.mode hfollows
  have hstill : Quiescent ((b.adv u).pond u) := hadv.1.symm ▸ quiescent_onward hq
  exact gives_of_issue hexec h hsel ((congrArg (State.pump · u) hf).trans (pump_of_quiescent hstill))
    ((keeps_of_onlyPond hadv State.misuse fun _ _ => rfl).trans hm) (onlyPond_kept s hadv)

/-- A load that enters a feeder, after a read that left `r`. -/
theorem gives_of_feed {isA : Bool} {k : Nat} {x : Load}
    (hf : f s.clean u w = (r.modPond u fun p => p.feed isA k x).adv u) (hr : r.pond u = s.pond u)
    (he : EnginesEmpty (s.pond u)) (hfollows : Follows (s.pond u)) (hfault : x.fault = none)
    (hw : r.pondWorks u = true ∨ x.tb = none) :
    Gives c s fun t => ∃ p : Pond, p.tbs = (s.pond u).tbs ∧ p.vecQ = [] ∧ p.storeQ = []
      ∧ (t.pond u).feeder isA k = [p.fillLoad isA x] := by
  have hq := quiescent_of_atInsn h he
  have hfed := onlyPond_modPond (onlyPond_refl r u) fun p => p.feed isA k x
  rw [hr] at hfed
  have hkeep {α : Type} (g : Pond → α) (hg : ∀ p a b, g { p with feedA := a, feedB := b } = g p) :
      g ((s.pond u).feed isA k x) = g (s.pond u) := by
    unfold Pond.feed
    split
    · exact hg _ _ (s.pond u).feedB
    · exact hg _ (s.pond u).feedA _
  have hfedFollows : Follows ((s.pond u).feed isA k x) := by
    have hsame := hkeep Follows fun _ _ _ => rfl
    exact hsame.symm ▸ hfollows
  have hadv := onlyPond_adv hfed ((hkeep Pond.mode fun _ _ _ => rfl).trans hq.mode) hfedFollows
  generalize (r.modPond u fun p => p.feed isA k x).adv u = b at hf hadv
  have hpond : b.pond u = onward ((s.pond u).feed isA k x) := hadv.1
  have hG : (b.pond u).gridQ = [] := by
    rw [hpond]
    exact (hkeep Pond.gridQ fun _ _ _ => rfl).trans he.gridQ
  have hrest : Resting (b.pond u) := hpond.symm ▸ resting_feed hq isA k hfault
  have hone : (b.pond u).feeder isA k = [x] := by
    rw [hpond]
    exact feeder_feed he isA k x
  have hbw : b.pondWorks u = true ∨ x.tb = none :=
    hw.imp_left fun hw => (keeps_of_onlyPond hadv (State.pondWorks · u) fun _ _ => rfl).trans hw
  obtain ⟨hfeeder, hmisuse⟩ := pump_of_loads hG hrest hone hbw
  refine gives_of_issue hexec h hsel (congrArg (State.pump · u) hf)
    (hmisuse.trans ((keeps_of_onlyPond hadv State.misuse fun _ _ => rfl).trans hm)) ⟨b.pond u, ?_, ?_, ?_, hfeeder⟩
  · rw [hpond]
    exact hkeep Pond.tbs fun _ _ _ => rfl
  · rw [hpond]
    exact (hkeep Pond.vecQ fun _ _ _ => rfl).trans he.vecQ
  · rw [hpond]
    exact (hkeep Pond.storeQ fun _ _ _ => rfl).trans he.storeQ

end

/-! LD and ALD. -/

/-- The descriptor that 32 bytes spell. -/
def descOfBytes (bs : List (Byte × Bool)) : Desc :=
  let word (i : Nat) : Word := BitVec.ofNat 64 (bytesNat ((bs.drop (8 * i)).take 8))
  { w0 := word 0, w1 := word 1, w2 := word 2, w3 := word 3 }

section
variable {s r : State} {u : Nat} {w : Word} {va a : Nat} {bs : List (Byte × Bool)}
  (hva : ((s.pond u).sreg (w.field 46 5) + immOf w).toNat = va) (ha : va % 2 ^ 57 = a) (hpoison : anyPoison bs = false)
include hva ha hpoison

theorem iLd_of_read (haligned : (va % 8 != 0) = false) (hreg : s.ldRegister u a = none)
    (hread : s.pondRead u a 8 = (.ok bs, r)) :
    iLd s u w = (r.modPond u fun p => p.setSreg (w.field 51 5) (BitVec.ofNat 64 (bytesNat bs))).adv u := by
  unfold iLd
  extract_lets p v t
  have hv : v = va := hva
  have ht : t = s := by simp only [t, hv, haligned, undefIf_false]
  clear_value v t
  subst hv ht
  rw [ha, hreg, hread]
  dsimp only
  rw [hpoison]
  rfl

theorem iAld_of_read (haligned : (va % 32 != 0) = false) (hread : s.pondRead u a 32 = (.ok bs, r)) :
    iAld s u w = (r.modPond u fun p => p.setDesc (w.field 52 4) (descOfBytes bs)).adv u := by
  rw [iAld, hva, haligned, undefIf_false, ha, hread]
  exact if_neg (by rw [hpoison]; exact Bool.false_ne_true)

end

section
variable {s r : State} {u : PondId} {w : Word} (h : AtInsn s u w) (he : EnginesEmpty (s.pond u)) (hf : Follows (s.pond u))
  (hm : r.misuse = none) {va a : Nat} {bs : List (Byte × Bool)}
  (hva : ((s.pond u).sreg (w.field 46 5) + immOf w).toNat = va) (ha : va % 2 ^ 57 = a) (hpoison : anyPoison bs = false)
include h he hf hm hva ha hpoison

theorem ld_gives (hop : w.field 56 8 = 0x1B) (haligned : va % 8 = 0) (hreg : s.clean.ldRegister u a = none)
    (hread : s.clean.pondRead u a 8 = (.ok bs, r)) : Gives (.ld u) s fun t => OnlyPond (r.keeping s) t u
      (onward ((s.pond u).setSreg (w.field 51 5) (BitVec.ofNat 64 (bytesNat bs)))) := by
  have hpond : r.pond u = s.pond u := (keptByReads_pond u).of_pondRead (s := s.clean) hread
  have hb := onlyPond_modPond (onlyPond_refl r u) fun p => p.setSreg (w.field 51 5) (BitVec.ofNat 64 (bytesNat bs))
  rw [hpond] at hb
  exact gives_of_read (sel := isOp 0x1B) (f := iLd) rfl h (beq_iff_eq.mpr hop) hm
    (iLd_of_read (s := s.clean) hva ha hpoison (bne_eq_false_iff_eq.mpr haligned) hreg hread) hb
    (quiescent_setSreg (quiescent_of_atInsn h he) _ _) (follows_setSreg hf _ _)

theorem ald_gives (hop : w.field 56 8 = 0x20) (haligned : va % 32 = 0)
    (hread : s.clean.pondRead u a 32 = (.ok bs, r)) : Gives (.ald u) s fun t => OnlyPond (r.keeping s) t u
      (onward ((s.pond u).setDesc (w.field 52 4) (descOfBytes bs))) := by
  have hpond : r.pond u = s.pond u := (keptByReads_pond u).of_pondRead (s := s.clean) hread
  have hb := onlyPond_modPond (onlyPond_refl r u) fun p => p.setDesc (w.field 52 4) (descOfBytes bs)
  rw [hpond] at hb
  exact gives_of_read (sel := isOp 0x20) (f := iAld) rfl h (beq_iff_eq.mpr hop) hm
    (iAld_of_read (s := s.clean) hva ha hpoison (bne_eq_false_iff_eq.mpr haligned) hread) hb
    (quiescent_setDesc (quiescent_of_atInsn h he) _ _) hf

end

/-! Tile loads. -/

/-- A tile load as LDA or LDB queues it (R156). -/
def tileLoadOf (p : Pond) (w : Word) : Load :=
  { seq := p.seq, pc := p.pc, ext := w.field 30 8, k := w.field 14 16, trans := w.flag 49, cvt := w.flag 13
    ri := (p.sreg (w.field 43 5)).toNat, rj := (p.sreg (w.field 38 5)).toNat }

theorem descUndef_of_good {s : State} {d : Desc} {f : Fmt} (hshape : d.badShape = false) (hfmt : fmtOfCode d.fmt = some f) :
    s.descUndef d = s := by
  simp only [State.descUndef, hshape, hfmt, Option.isNone_some, undefIf_false]

section
variable {s : State} {u : Nat} {w : Word} (isA : Bool) (he : EnginesEmpty (s.pond u))
include he

theorem feeder_room : ¬ 4 ≤ ((s.pond u).feeder isA (w.field 50 2)).length := by
  cases isA <;> simp [Pond.feeder, he.feedA, he.feedB]

theorem iTileLoad_of_tb (htb : w.flag 48 = true) (hlisted : w.field 52 3 < 6) : iTileLoad isA s u w
    = (s.modPond u fun p => p.feed isA (w.field 50 2) { tileLoadOf (s.pond u) w with tb := some (w.field 52 3) }).adv u := by
  have hgood : ¬ badTb (w.field 52 3) = true := by simpa [badTb] using hlisted
  unfold iTileLoad
  simp only [if_neg (feeder_room (w := w) isA he), htb, if_true, if_neg hgood]
  rfl

theorem iTileLoad_of_memory {r : State} {f : Fmt} {es : List Elem} (htb : w.flag 48 = false)
    (hshape : ((s.pond u).desc (w.field 52 4)).badShape = false)
    (hfmt : fmtOfCode ((s.pond u).desc (w.field 52 4)).fmt = some f)
    (hblocks : (fmtIsMx f && ((s.pond u).desc (w.field 52 4)).mxdir == (isA != w.flag 49)) = false)
    (hread : s.readRegion u ((s.pond u).desc (w.field 52 4)) f (tileLoadOf (s.pond u) w).ri (tileLoadOf (s.pond u) w).rj
      (if isA != w.flag 49 then w.field 30 8 else w.field 14 16)
      (if isA != w.flag 49 then w.field 14 16 else w.field 30 8) = (.ok es, r)) :
    iTileLoad isA s u w = (r.modPond u fun p => p.feed isA (w.field 50 2)
      (memLoad { tileLoadOf (s.pond u) w with fmt := ((s.pond u).desc (w.field 52 4)).fmt } (isA != w.flag 49) es)).adv u := by
  unfold tileLoadOf at hread
  unfold iTileLoad
  simp only [if_neg (feeder_room (w := w) isA he), htb, Bool.false_eq_true, if_false, descUndef_of_good hshape hfmt, hfmt,
    hblocks, undefIf_false, hread]
  rfl

end

/-- The row of a tile load. -/
theorem exec_tileLoad (isA : Bool) (s : State) (u : PondId) : exec (if isA then .lda u else .ldb u) s
    = runU (fun s => s.issueRow u (isOp (if isA then 0x30 else 0x31)) (iTileLoad isA)) s := by
  cases isA <;> rfl

section
variable {s r : State} {u : PondId} {w : Word} (h : AtInsn s u w) (he : EnginesEmpty (s.pond u)) (hf : Follows (s.pond u))
include h he hf

theorem tileLoad_gives_tb (isA : Bool) (hop : w.field 56 8 = if isA then 0x30 else 0x31) (htb : w.flag 48 = true)
    (hlisted : w.field 52 3 < 6) : Gives (if isA then .lda u else .ldb u) s fun t =>
      (t.pond u).feeder isA (w.field 50 2)
        = [tbElems { tileLoadOf (s.pond u) w with tb := some (w.field 52 3) } (isA != w.flag 49)
            ((s.pond u).tb (w.field 52 3))] := by
  refine gives_mono (gives_of_feed (exec_tileLoad isA s u) h (beq_iff_eq.mpr hop) rfl
    (iTileLoad_of_tb (s := s.clean) isA he htb hlisted) rfl he hf rfl (.inl h.works)) fun t ht => ?_
  obtain ⟨p, htbs, hV, hS, hfeeder⟩ := ht
  rw [hfeeder, fillLoad_of_tb (b := w.field 52 3) hV hS isA rfl rfl, Pond.tb, htbs]
  rfl

theorem tileLoad_gives_memory (isA : Bool) (hm : r.misuse = none) {f : Fmt} {es : List Elem}
    (hop : w.field 56 8 = if isA then 0x30 else 0x31) (htb : w.flag 48 = false)
    (hshape : ((s.pond u).desc (w.field 52 4)).badShape = false)
    (hfmt : fmtOfCode ((s.pond u).desc (w.field 52 4)).fmt = some f)
    (hblocks : (fmtIsMx f && ((s.pond u).desc (w.field 52 4)).mxdir == (isA != w.flag 49)) = false)
    (hread : s.clean.readRegion u ((s.pond u).desc (w.field 52 4)) f (tileLoadOf (s.pond u) w).ri
      (tileLoadOf (s.pond u) w).rj (if isA != w.flag 49 then w.field 30 8 else w.field 14 16)
      (if isA != w.flag 49 then w.field 14 16 else w.field 30 8) = (.ok es, r)) :
    Gives (if isA then .lda u else .ldb u) s fun t => (t.pond u).feeder isA (w.field 50 2)
      = [memLoad { tileLoadOf (s.pond u) w with fmt := ((s.pond u).desc (w.field 52 4)).fmt } (isA != w.flag 49) es] := by
  have hpond : r.pond u = s.pond u := (keptByReads_pond u).of_readRegion (s := s.clean) hread
  refine gives_mono (gives_of_feed (exec_tileLoad isA s u) h (beq_iff_eq.mpr hop) hm
    (iTileLoad_of_memory (s := s.clean) isA he htb hshape hfmt hblocks hread) hpond he hf rfl (.inr rfl)) fun t ht => ?_
  obtain ⟨p, -, -, -, hfeeder⟩ := ht
  exact hfeeder.trans (congrArg (fun x => [x]) (fillLoad_of_memory p isA rfl))

omit h hf in
theorem iLdt_of_read {f : Fmt} {es : List Elem} (hlisted : w.field 49 3 < 6)
    (hshape : ((s.pond u).desc (w.field 52 4)).badShape = false)
    (hfmt : fmtOfCode ((s.pond u).desc (w.field 52 4)).fmt = some f)
    (hread : s.clean.readRegion u ((s.pond u).desc (w.field 52 4)) f ((s.pond u).sreg (w.field 42 5)).toNat
      ((s.pond u).sreg (w.field 37 5)).toNat 64 64 = (.ok es, r)) : ∃ a b, iLdt s.clean u w = r.toVec u
        { (s.pond u).item w with tile := (ldtTile f (w.flag 36) ((s.pond u).sreg (w.field 42 5)).toNat
          ((s.pond u).sreg (w.field 37 5)).toNat es).1, sat := a, flush := b } := by
  have hgood : ¬ badTb (w.field 49 3) = true := by simpa [badTb] using hlisted
  have hroom : ¬ (s.pond u).vecFull = true := by simp [Pond.vecFull, he.vecQ]
  unfold iLdt
  simp only [clean_pond, if_neg hroom, if_neg hgood, descUndef_of_good hshape hfmt, hfmt, hread]
  exact ⟨_, _, rfl⟩

theorem ldt_gives (hm : r.misuse = none) {f : Fmt} {es : List Elem} (hop : w.field 56 8 = 0x42) (hlisted : w.field 49 3 < 6)
    (hshape : ((s.pond u).desc (w.field 52 4)).badShape = false)
    (hfmt : fmtOfCode ((s.pond u).desc (w.field 52 4)).fmt = some f) (hrec : w.flag 35 = false)
    (hread : s.clean.readRegion u ((s.pond u).desc (w.field 52 4)) f ((s.pond u).sreg (w.field 42 5)).toNat
      ((s.pond u).sreg (w.field 37 5)).toNat 64 64 = (.ok es, r)) :
    Gives (.ldt u) s fun t => (t.pond u).tb (w.field 49 3) = (ldtTile f (w.flag 36)
      ((s.pond u).sreg (w.field 42 5)).toNat ((s.pond u).sreg (w.field 37 5)).toNat es).1 := by
  obtain ⟨a, b, hissue⟩ := iLdt_of_read he hlisted hshape hfmt hread
  have hpond : r.pond u = s.pond u := (keptByReads_pond u).of_readRegion (s := s.clean) hread
  have hworks : r.pondWorks u = true := ((keptByReads_pondWorks u).of_readRegion (s := s.clean) hread).trans h.works
  have hq := quiescent_of_atInsn h he
  obtain ⟨o, ho⟩ : ∃ o : PondOp, { (s.pond u).item w with tile := (ldtTile f (w.flag 36)
    ((s.pond u).sreg (w.field 42 5)).toNat ((s.pond u).sreg (w.field 37 5)).toNat es).1, sat := a, flush := b } = o := ⟨_, rfl⟩
  rw [ho] at hissue
  have hqueued : OnlyPond r (r.toVec u o) u { onward (s.pond u) with vecQ := [o] } := by
    have hself := onlyPond_refl r u
    rw [hpond] at hself
    exact onlyPond_toVec hself hq hf
  generalize r.toVec u o = v at hissue hqueued
  have hticket : o.ticket = none := by rw [← ho]; rfl
  have hinsn : o.insn = w := by rw [← ho]; rfl
  have hload : o.op = 0x42 := by rw [← ho]; exact hop
  have heffect (p : Pond) : vecEffect p o = ({ p with tbs := tblSet {} p.tbs (o.insn.field 49 3) o.tile },
      { opcode := 0x42, pc := o.pc, record := o.insn.flag 35, sat := o.sat, flush := o.flush, poison := o.tile.poisoned }) := by
    unfold vecEffect
    rw [hload]
    rfl
  have hready : (v.pond u).opReady o = true := by
    rw [hqueued.1]
    exact opReady_of_alone (.inl ⟨rfl, he.storeQ⟩) ⟨he.feedA, he.feedB, he.gridQ⟩ (by rw [hticket]; nofun)
  obtain ⟨z, hrun, hdone⟩ := runVec_of_ready hqueued.1 (quiescent_onward hq) hready (by rw [heffect, hinsn]; exact hrec)
  have hpump : v.pump u = z := pump_of_vec (s := r) hworks hqueued hdone.still hrun hq.mode ⟨he.feedA, he.feedB, he.gridQ⟩
  have hmisuse : z.misuse = none := by
    have hframe := hdone.frame
    rw [hload] at hframe
    exact (congrArg State.misuse hframe).trans ((keeps_of_onlyPond hqueued State.misuse fun _ _ => rfl).trans hm)
  refine gives_of_issue (sel := isOp 0x42) (f := iLdt) rfl h (beq_iff_eq.mpr hop)
    ((congrArg (State.pump · u) hissue).trans hpump) hmisuse ?_
  have htile : o.tile = (ldtTile f (w.flag 36) ((s.pond u).sreg (w.field 42 5)).toNat
      ((s.pond u).sreg (w.field 37 5)).toNat es).1 := by rw [← ho]
  have htbs := hdone.tbs
  rw [heffect, hinsn, htile] at htbs
  exact (congrArg (tblGet {} · (w.field 49 3)) htbs).trans (tblGet_set_self _ _ _ _)

end

end Sys2Proof.Proofs
end

section
/-!
PROOFS. Stores by a pond's program (R84, R145, R154, R165, R185): a pond keeps all but what its granules held before.
-/
namespace Sys2Proof.Proofs

open Sys2Proof Sys2Proof.Machine Sys2Proof.Safety Sys2Proof.Laws

/-- The pond without what its granules held before its stores. -/
def unstaled (p : Pond) : Pond := { p with stale := [] }

/-! A store by an agent. -/

section
variable {α : Type} {p : State → α} (hp : ∀ x, p (unaccessed x) = p x)
  (hhost : ∀ s h d q, p (State.hostPut s h d q) = p s) (s : State)
include hp hhost

theorem storePiece_keeps (l a : Nat) (d : List Byte) (q : Bool) : p (s.storePiece l a d q).2 = p s := by
  have hundef (t : State) (b : Bool) (c : Undefined) : p (t.undefIf b c) = p t := (keptByReads_of_unaccessed hp).undefIf t b c
  have hmark (t : State) (c : Undefined) : p (t.undef c) = p t := hundef t true c
  have hown : p (if s.ownMem l a then if (s.line l).st = .failed then (false, s)
      else (false, (s.storeHome a d q).noteWrite a d.length) else (true, s)).2 = p s := by
    split
    · split
      · rfl
      · have hhome : unaccessed (s.storeHome a d q) = unaccessed s :=
          (unaccessed_serveLine _ _).trans ((unaccessed_writeNow _ _ _ _).trans (unaccessed_settleLine s _))
        exact (hundef _ _ _).trans ((hundef _ _ _).trans ((hundef _ _ _).trans (keeps_of_unaccessed hhome p hp)))
    · rfl
  unfold State.storePiece
  split
  · exact hown
  · exact hown
  · split
    · exact hmark s _
    · rfl
  · split
    · exact hmark s _
    · rfl
  · split
    · rfl
    · split
      · exact hhost s _ _ _
      · rfl
  · rfl

theorem store_keeps (l a : Nat) (d : List Byte) (q : Bool) : p (s.store l a d q).2 = p s :=
  List.foldlRecOn (motive := fun r : Bool × State => p r.2 = p s) (pieces a d.length) _ rfl
    fun r hr x _ => (storePiece_keeps hp hhost r.2 l x.1 _ q).trans hr

end

section
variable (s : State) (u v : Nat)

theorem pond_store (l a : Nat) (d : List Byte) (q : Bool) : (s.store l a d q).2.pond v = s.pond v :=
  store_keeps (p := (State.pond · v)) (fun _ => rfl) (fun _ _ _ _ => rfl) s l a d q

theorem unstaled_noteStale (pa : Nat) (old : List Byte × Bool) :
    unstaled ((s.noteStale u pa old).pond u) = unstaled (s.pond u) := by
  have hnoted (f : Pond → Pond) (hf : ∀ p, unstaled (f p) = unstaled p) :
      unstaled ((s.modPond u f).pond u) = unstaled (s.pond u) :=
    (congrArg unstaled (pond_modPond_self s u f)).trans (hf _)
  unfold State.noteStale
  split
  · exact hnoted _ fun _ => rfl
  · exact hnoted _ fun _ => rfl
  · rfl

/-- A store of bytes of one granule at its physical address. -/
def putAt (u va pa : Nat) (bs : List OutByte) (whole : Bool) (s : State) : PWrite × State :=
  let p := bs.any (·.p)
  if p && isHostPa pa then (.sink va, s)
  else
    let l := s.pondLine u
    let (old, s) := if whole then (({} : Rd), s) else s.load l pa bs.length
    let data := bs.zipIdx.map fun b =>
      let o := (old.data.getD b.2 0).toNat
      BitVec.ofNat 8 (o - (o &&& b.1.m) + (b.1.v &&& b.1.m))
    let before := s.granule (pa / 64)
    let (nt, s) := s.store l pa data (p || (!whole && old.poison))
    if nt then (.bad 0x21 va, s) else (.ok p, s.noteStale u pa before)

theorem unstaled_putAt (va pa : Nat) (bs : List OutByte) (whole : Bool) :
    unstaled ((putAt u va pa bs whole s).2.pond u) = unstaled (s.pond u) := by
  unfold putAt
  extract_lets p l
  split
  · rfl
  · have hold : (if whole = true then (({} : Rd), s) else s.load l pa bs.length).2.pond u = s.pond u := by
      split
      · rfl
      · exact (keptByReads_pond u).load s l pa bs.length
    generalize (if whole = true then (({} : Rd), s) else s.load l pa bs.length) = y at hold ⊢
    obtain ⟨old, z⟩ := y
    dsimp -zeta only
    extract_lets data before
    have hstore := pond_store z u l pa data (p || (!whole && old.poison))
    generalize z.store l pa data (p || (!whole && old.poison)) = x at hstore ⊢
    obtain ⟨nt, r⟩ := x
    have hr : r.pond u = s.pond u := hstore.trans hold
    dsimp only
    split
    · exact congrArg unstaled hr
    · exact (unstaled_noteStale r u pa before).trans (congrArg unstaled hr)

theorem unstaled_putBits (va : Nat) (bs0 : List OutByte) :
    unstaled ((s.putBits u va bs0).2.pond u) = unstaled (s.pond u) := by
  unfold State.putBits
  generalize trimRun bs0 = o
  obtain ⟨k, bs⟩ := o
  dsimp -zeta only
  extract_lets va whole
  split
  · rfl
  · have hx := (keptByReads_pond u).xlateFor s (s.pondWho u (s.pond u).cur.asid) va (!whole || bs.length != 64) true
    generalize s.xlateFor (s.pondWho u (s.pond u).cur.asid) va (!whole || bs.length != 64) true = x at hx ⊢
    obtain ⟨pa, t⟩ := x
    cases pa with
    | fault c => exact congrArg unstaled hx
    | ok pa => exact (unstaled_putAt t u va pa bs whole).trans (congrArg unstaled hx)

theorem unstaled_putRun (r : OutRun) : unstaled ((s.putRun u r).2.2.pond u) = unstaled (s.pond u) := by
  refine List.foldlRecOn (motive := fun x : PWrite × Bool × State => unstaled (x.2.2.pond u) = unstaled (s.pond u))
    (pieces r.va r.bs.length) _ rfl fun x hx q _ => ?_
  obtain ⟨a, poison, t⟩ := x
  cases a with
  | ok c =>
    have hput := unstaled_putBits t u q.1 ((r.bs.drop (q.1 - r.va)).take q.2)
    dsimp only
    generalize t.putBits u q.1 ((r.bs.drop (q.1 - r.va)).take q.2) = y at hput ⊢
    obtain ⟨b, z⟩ := y
    cases b <;> exact hput.trans hx
  | sink va => exact hx
  | bad st va => exact hx

theorem unstaled_putRuns (rs : List OutRun) : unstaled ((s.putRuns u rs).2.pond u) = unstaled (s.pond u) := by
  refine List.foldlRecOn (motive := fun x : PutOut × State => unstaled (x.2.pond u) = unstaled (s.pond u))
    rs _ rfl fun x hx r _ => ?_
  obtain ⟨o, t⟩ := x
  dsimp only
  split
  · have hput := unstaled_putRun t u r
    generalize t.putRun u r = y at hput ⊢
    obtain ⟨b, poison, z⟩ := y
    cases b <;> exact hput.trans hx
  · exact hx

end

end Sys2Proof.Proofs
end

section
/-!
PROOFS. SD, ST and STB (R148, R161, R165, R185).
-/
namespace Sys2Proof.Proofs

open Sys2Proof Sys2Proof.Machine Sys2Proof.Safety Sys2Proof.Laws

/-! The pond of a store. -/

theorem quiescent_told {p : Pond} (h : Quiescent p) (d : OpDone) : Quiescent (told p d) := by
  obtain ⟨hmode, hwait, hA, hB, hG, hV, hS, hX, hP⟩ := h
  exact ⟨hmode, hwait, hA, hB, hG, hV, hS, hX, hP⟩

theorem quiescent_storeDone {p : Pond} (h : Quiescent { p with storeQ := [] }) (o : PondOp) : Quiescent (storeDone o p) := by
  unfold storeDone
  split
  · split
    · exact quiescent_beginRelease h _ _
    · exact h
  · exact h

/-- A store leaves a pond that goes on with one item in its store queue with just that. -/
theorem quiescent_of_unstaled {p q : Pond} {o : PondOp} (h : unstaled p = unstaled { onward q with storeQ := [o] })
    (hq : Quiescent q) : p.storeQ = [o] ∧ Quiescent { p with storeQ := [] } := by
  have hkeep {α : Type} (g : Pond → α) (hg : ∀ x, g (unstaled x) = g x) : g p = g { onward q with storeQ := [o] } :=
    (hg p).symm.trans ((congrArg g h).trans (hg _))
  obtain ⟨hmode, -, hA, hB, hG, hV, hS, hX, hP⟩ := hq
  have hwait : p.wait = .none := hkeep Pond.wait fun _ => rfl
  exact ⟨hkeep Pond.storeQ fun _ => rfl, (hkeep Pond.mode fun _ => rfl).trans hmode, by rw [hwait]; exact nofun,
    (hkeep Pond.feedA fun _ => rfl).trans hA, (hkeep Pond.feedB fun _ => rfl).trans hB,
    (hkeep Pond.gridQ fun _ => rfl).trans hG, (hkeep Pond.vecQ fun _ => rfl).trans hV, rfl,
    (hkeep Pond.xsQ fun _ => rfl).trans hX, (hkeep Pond.posted fun _ => rfl).trans hP⟩

/-! What the store unit leaves. -/

section
variable {c : Instr} {s b r : State} {u : Nat} {w : Word} {sel : Word → Bool} {f : State → Nat → Word → State} {q : Pond}
  {o : PondOp} {ok : Bool} {d : OpDone}
  (hexec : exec c s = runU (fun s => s.issueRow u sel f) s) (h : AtInsn s u w) (hsel : sel w = true)
  (hissue : f s.clean u w = b.toStore u o) (hb : OnlyPond s.clean b u q) (hq : Quiescent q) (hfollows : Follows q)
include hexec h hsel hissue hb hq hfollows

/-- A store that is not ready waits in its queue. -/
theorem gives_of_queued (hwaits : Pond.opReady { onward q with storeQ := [o] } o = false) :
    Gives c s fun t => OnlyPond s t u { onward q with storeQ := [o] } := by
  have hqueued : OnlyPond s.clean (b.toStore u o) u { onward q with storeQ := [o] } := onlyPond_toStore hb hq hfollows
  generalize b.toStore u o = t at hissue hqueued
  obtain ⟨hmode, -, hA, hB, hG, hV, -, hX, hP⟩ := hq
  have hpond : t.pond u = { onward q with storeQ := [o] } := hqueued.1
  have hstore : t.runStore u = (false, t) := by
    have hready : (t.pond u).opReady o = false := by rw [hpond]; exact hwaits
    unfold State.runStore
    rw [hpond]
    dsimp only
    rw [← hpond, hready]
    rfl
  have hround : t.engineRound u = (false, t) := by
    have hu : Unfed (t.pond u) := by rw [hpond]; exact ⟨hA, hB, hG⟩
    rw [engineRound_of_unfed hu, runVec_of_nil (by rw [hpond]; exact hV)]
    simp only [hstore, runXstart_of_nil (show (t.pond u).xsQ = [] by rw [hpond]; exact hX),
      runPosted_of_nil (show (t.pond u).posted = [] by rw [hpond]; exact hP),
      runDrain_of_wait (show (t.pond u).wait ≠ .drain by rw [hpond]; exact nofun), Bool.or_self]
  have hrun : (t.pond u).mode = .run := by rw [hpond]; exact hmode
  have hpump : t.pump u = t := by
    have hgo : (t.pondWorks u && (t.pond u).mode != .idle) = true := by
      simp [pondWorks_of_onlyPond (s := s.clean) h.works hqueued, hrun]
    rw [State.pump, if_pos hgo, engineRounds_of_still 63 hround, tryFinish_of_run hrun]
  exact gives_of_issue hexec h hsel ((congrArg (State.pump · u) hissue).trans hpump)
    (keeps_of_onlyPond hqueued State.misuse fun _ _ => rfl) (onlyPond_keeping hqueued)

variable (hready : Pond.opReady { onward q with storeQ := [o] } o = true) (hm : r.misuse = none)
  (hop : (b.toStore u o).storeOp u o = (.ok ok, d, r)) (hsame : unstaled (r.pond u) = unstaled ((b.toStore u o).pond u))
include hready hm hop hsame

/-- A store that is ready is done in the step that issues it. -/
theorem gives_of_toStore (hrec : d.record = false) : Gives c s fun t =>
    { t with ponds := r.ponds, regs := r.regs } = r.keeping s ∧ (t.pond u).storeQ = []
      ∧ ((o.op == 0x40 || o.op == 0x41) = false → OnlyPond (r.keeping s) t u (storeDone o (r.pond u))) := by
  have hqueued : OnlyPond s.clean (b.toStore u o) u { onward q with storeQ := [o] } := onlyPond_toStore hb hq hfollows
  generalize b.toStore u o = v at hissue hqueued hop hsame
  have hpond : v.pond u = { onward q with storeQ := [o] } := hqueued.1
  rw [hpond] at hsame
  obtain ⟨hstill, hstored⟩ := quiescent_of_unstaled hsame hq
  have hrun := runStore_of_done (by rw [hpond]) (by rw [hpond]; exact hready) hop hstill
  have hdone := onlyPond_modPond (onlyPond_refl r u) (storeDone o)
  have hdonestill := quiescent_storeDone hstored o
  generalize r.modPond u (storeDone o) = x at hrun hdone
  have htold : Quiescent ((x.when (o.op == 0x40 || o.op == 0x41) (·.opDone u d)).pond u) := by
    unfold State.when
    split
    · rw [pond_opDone hrec, hdone.1]
      exact quiescent_told hdonestill d
    · rw [hdone.1]
      exact hdonestill
  have hkeep {α : Type} (p : State → α) (hp : ∀ y ps rs, p { y with ponds := ps, regs := rs } = p y) :
      p (x.when (o.op == 0x40 || o.op == 0x41) (·.opDone u d)) = p r := by
    have hx : p x = p r := keeps_of_onlyPond hdone p fun y ps => hp y ps y.regs
    unfold State.when
    split
    · exact (opDone_keeps hrec p hp).trans hx
    · exact hx
  have hpump : v.pump u = x.when (o.op == 0x40 || o.op == 0x41) (·.opDone u d) :=
    pump_of_store (s := s.clean) h.works hqueued htold hrun hq.mode ⟨hq.empty.feedA, hq.empty.feedB, hq.empty.gridQ⟩
      hq.empty.vecQ
  refine gives_of_issue hexec h hsel ((congrArg (State.pump · u) hissue).trans hpump)
    ((hkeep State.misuse fun _ _ _ => rfl).trans hm) ⟨?_, htold.empty.storeQ, fun hplain => ?_⟩
  · exact hkeep (fun y => ({ y.keeping s with ponds := r.ponds, regs := r.regs } : State)) fun _ _ _ => rfl
  · rw [hplain, when_false]
    exact onlyPond_kept s hdone

end

/-! What the store unit does. -/

theorem storeOp_of_sd {s r : State} {u : Nat} {o : PondOp} {a : Nat} (hop : o.op = 0x1C) (ha : o.x.toNat % 2 ^ 57 = a)
    (hreg : s.sdRegister u o = none)
    (hput : s.putRuns u [{ va := a, bs := wholeBytes (leBytes 8 o.y.toNat) false }] = ({ res := .ok false }, r)) :
    s.storeOp u o = (.ok false, { opcode := o.op, pc := o.pc }, r) := by
  rw [State.storeOp]
  simp only [hop, hreg, ha, hput]

/-- A store of a single tile reports no record where it names none. -/
theorem storeOp_of_tile {s r : State} {u : Nat} {o : PondOp} {f : Fmt} {out : PutOut} {ok : Bool} {src : Tile} {flushes : Bool}
    (hop : o.op = 0x41 ∧ src = (s.pond u).tb (o.insn.field 49 3) ∧ flushes = false
      ∨ o.op = 0x40 ∧ flushes = true ∧ ∃ t, o.ticket = some t ∧ src = (s.pond u).tileOf t
        ∧ (((s.pond u).slotsOf t).any fun k => ((s.pond u).slot k).gang) = false)
    (hfmt : fmtOfCode o.desc.fmt = some f) (hrec : o.insn.flag 35 = false)
    (hput : s.putRuns u (storeTile o.desc f flushes (tileSource src) o.x.toNat o.y.toNat) = (out, r))
    (hok : out.res = .ok ok) : ∃ d, s.storeOp u o = (.ok ok, d, r) ∧ d.record = false := by
  rw [State.storeOp]
  rcases hop with ⟨hop, rfl, rfl⟩ | ⟨hop, rfl, t, ht, rfl, hsingle⟩
  · simp only [hop, hfmt, Option.getD_some, hput, hok, hrec, Bool.false_and]
    exact ⟨_, rfl, rfl⟩
  · simp only [hop, ht, hsingle, Bool.false_eq_true, if_false, hfmt, Option.getD_some, hput, hok, hrec, Bool.false_and]
    exact ⟨_, rfl, rfl⟩

/-! The rows. -/

theorem mxIndexUndef_of_good {s : State} {d : Desc} {f : Fmt} {i j : Nat} (hfmt : fmtOfCode d.fmt = some f)
    (hindex : (fmtIsMx f && (if d.mxdir then i else j) % 32 != 0) = false) : s.mxIndexUndef d i j = s := by
  simp only [State.mxIndexUndef, hfmt, hindex, undefIf_false]

section
variable {s r : State} {u : PondId} {w : Word} (h : AtInsn s u w) (he : EnginesEmpty (s.pond u)) (hf : Follows (s.pond u))
  (hm : r.misuse = none)
include he

theorem not_storeFull : ¬ (s.pond u).storeFull = true := by simp [Pond.storeFull, he.storeQ]

include h hf hm

/-- The work item of an SD. -/
def sdItem (p : Pond) (w : Word) (a : Word) : PondOp := { p.item w with x := a, y := p.sreg (w.field 41 5) }

theorem sd_gives {x : Word} {a : Nat} (hop : w.field 56 8 = 0x1C) (hx : (s.pond u).sreg (w.field 46 5) + immOf w = x)
    (haligned : x.toNat % 8 = 0) (ha : x.toNat % 2 ^ 57 = a)
    (hreg : (s.clean.toStore u (sdItem (s.pond u) w x)).sdRegister u (sdItem (s.pond u) w x) = none)
    (hput : (s.clean.toStore u (sdItem (s.pond u) w x)).putRuns u
      [{ va := a, bs := wholeBytes (leBytes 8 ((s.pond u).sreg (w.field 41 5)).toNat) false }] = ({ res := .ok false }, r)) :
    Gives (.sd u) s fun t => OnlyPond (r.keeping s) t u { r.pond u with storeQ := [] } := by
  have hissue : iSd s.clean u w = s.clean.toStore u (sdItem (s.pond u) w x) := by
    unfold iSd
    simp only [clean_pond, if_neg (not_storeFull he), hx, bne_eq_false_iff_eq.mpr haligned, undefIf_false]
    rfl
  have hunstaled := unstaled_putRuns (s.clean.toStore u (sdItem (s.pond u) w x)) u
    [{ va := a, bs := wholeBytes (leBytes 8 ((s.pond u).sreg (w.field 41 5)).toNat) false }]
  rw [hput] at hunstaled
  have hstored := storeOp_of_sd (o := sdItem (s.pond u) w x) hop ha hreg hput
  refine gives_mono (gives_of_toStore (sel := isOp 0x1C) (f := iSd) rfl h (beq_iff_eq.mpr hop) hissue
    (onlyPond_refl s.clean u) (q := s.pond u) (quiescent_of_atInsn h he) hf
    (opReady_of_alone (.inr ⟨he.vecQ, rfl⟩) ⟨he.feedA, he.feedB, he.gridQ⟩ nofun) hm hstored hunstaled rfl) fun t ht => ?_
  obtain ⟨-, -, honly⟩ := ht
  have hcode : (sdItem (s.pond u) w x).op = 0x1C := hop
  exact honly (by rw [hcode]; rfl)

/-- The work item of an STB. -/
def stbItem (p : Pond) (w : Word) : PondOp :=
  { p.item w with desc := p.desc (w.field 52 4), x := p.sreg (w.field 42 5), y := p.sreg (w.field 37 5) }

/-- The descriptor and place of an ST or STB meet no undefined case. -/
structure TilePlace (p : Pond) (w : Word) (f : Fmt) : Prop where
  shape : (p.desc (w.field 52 4)).badShape = false
  fmt : fmtOfCode (p.desc (w.field 52 4)).fmt = some f
  index : (fmtIsMx f && (if (p.desc (w.field 52 4)).mxdir then (p.sreg (w.field 42 5)).toNat
    else (p.sreg (w.field 37 5)).toNat) % 32 != 0) = false

theorem stb_gives {f : Fmt} {out : PutOut} {ok : Bool} (hop : w.field 56 8 = 0x41) (hlisted : w.field 49 3 < 6)
    (hplace : TilePlace (s.pond u) w f) (hrec : w.flag 35 = false)
    (hput : (s.clean.toStore u (stbItem (s.pond u) w)).putRuns u (storeTile ((s.pond u).desc (w.field 52 4)) f false
      (tileSource ((s.pond u).tb (w.field 49 3))) ((s.pond u).sreg (w.field 42 5)).toNat
      ((s.pond u).sreg (w.field 37 5)).toNat) = (out, r)) (hok : out.res = .ok ok) :
    Gives (.stb u) s fun t => { t with ponds := r.ponds, regs := r.regs } = r.keeping s ∧ (t.pond u).storeQ = [] := by
  have hissue : iStb s.clean u w = s.clean.toStore u (stbItem (s.pond u) w) := by
    have hgood : ¬ badTb (w.field 49 3) = true := by simpa [badTb] using hlisted
    unfold iStb
    simp only [clean_pond, if_neg (not_storeFull he), if_neg hgood, descUndef_of_good hplace.shape hplace.fmt,
      mxIndexUndef_of_good hplace.fmt hplace.index]
    rfl
  have hunstaled := unstaled_putRuns (s.clean.toStore u (stbItem (s.pond u) w)) u (storeTile
    ((s.pond u).desc (w.field 52 4)) f false (tileSource ((s.pond u).tb (w.field 49 3)))
    ((s.pond u).sreg (w.field 42 5)).toNat ((s.pond u).sreg (w.field 37 5)).toNat)
  rw [hput] at hunstaled
  have hq := quiescent_of_atInsn h he
  have hqueued : OnlyPond s.clean (s.clean.toStore u (stbItem (s.pond u) w)) u
      { onward (s.pond u) with storeQ := [stbItem (s.pond u) w] } := onlyPond_toStore (onlyPond_refl s.clean u) hq hf
  have htb : (s.pond u).tb (w.field 49 3) = ((s.clean.toStore u (stbItem (s.pond u) w)).pond u).tb (w.field 49 3) := by
    rw [hqueued.1]
    rfl
  obtain ⟨d, hstored, hd⟩ := storeOp_of_tile (o := stbItem (s.pond u) w) (.inl ⟨hop, htb, rfl⟩) hplace.fmt hrec hput hok
  refine gives_mono (gives_of_toStore (sel := isOp 0x41) (f := iStb) rfl h (beq_iff_eq.mpr hop) hissue
    (onlyPond_refl s.clean u) (q := s.pond u) hq hf
    (opReady_of_alone (.inr ⟨he.vecQ, rfl⟩) ⟨he.feedA, he.feedB, he.gridQ⟩ nofun) hm hstored hunstaled hd) fun t ht => ?_
  obtain ⟨hframe, hempty, -⟩ := ht
  exact ⟨hframe, hempty⟩

end

/-! ST. -/

/-- The work item of an ST of ticket `t`. -/
def stItem (p : Pond) (w : Word) (t : Nat) : PondOp := { stbItem p w with ticket := some t }

/-- The state in which an ST of ticket `t` enters the store queue. -/
def stReleased (s : State) (u : Nat) (w : Word) (t : Nat) : State :=
  s.when (w.flag 36) fun s => s.modPond u fun p => p.unhold t

section
variable {s r : State} {u : PondId} {w : Word} (h : AtInsn s u w) (he : EnginesEmpty (s.pond u)) (hf : Follows (s.pond u))
  {k : TicketInfo} {f : Fmt} (hop : w.field 56 8 = 0x40) (hplace : TilePlace (s.pond u) w f)
  (hheld : (s.pond u).heldIn (w.field 47 5) = some k)
  (hconverts : w.flag 34 = true
    ∨ ((s.pond u).desc (w.field 52 4)).fmt = k.ofmt ∧ (fmtIsMx f = true → ((s.pond u).desc (w.field 52 4)).mxdir = k.omx))

include he hplace hheld hconverts

theorem iSt_of_held : iSt s.clean u w = (stReleased s.clean u w k.ticket).toStore u (stItem (s.pond u) w k.ticket) := by
  have hfits : ¬ (!w.flag 34 && (((s.pond u).desc (w.field 52 4)).fmt != k.ofmt
      || (fmtIsMx f && ((s.pond u).desc (w.field 52 4)).mxdir != k.omx))) = true := by
    rcases hconverts with hconvert | ⟨hfmt, hmx⟩
    · simp [hconvert]
    · cases hblocks : fmtIsMx f with
      | true => simp [hfmt, hmx hblocks]
      | false => simp [hfmt]
  unfold iSt
  simp only [clean_pond, if_neg (not_storeFull he), hheld, hplace.fmt, if_neg hfits, descUndef_of_good hplace.shape hplace.fmt,
    mxIndexUndef_of_good hplace.fmt hplace.index]
  rfl

omit hplace hheld hconverts in
include h hf in
/-- The pond that an ST leaves once it has given up its ticket, where it does. -/
theorem stReleased_spec (t : Nat) : ∃ q, OnlyPond s.clean (stReleased s.clean u w t) u q ∧ Quiescent q ∧ Follows q
    ∧ q.slots = (s.pond u).slots ∧ q.vecQ = [] ∧ Unfed q := by
  have hq := quiescent_of_atInsn h he
  unfold stReleased State.when
  split
  · exact ⟨_, onlyPond_modPond (onlyPond_refl s.clean u) fun p => p.unhold t, quiescent_unhold hq t, hf, rfl, he.vecQ,
      ⟨he.feedA, he.feedB, he.gridQ⟩⟩
  · exact ⟨_, onlyPond_refl s.clean u, hq, hf, rfl, he.vecQ, ⟨he.feedA, he.feedB, he.gridQ⟩⟩

end

/-- What a pond says of its tiles depends on its slots alone. -/
theorem tiles_congr {p q : Pond} (hs : q.slots = p.slots) (t : Nat) : q.tileFull t = p.tileFull t ∧ q.tileOf t = p.tileOf t
    ∧ ((q.slotsOf t).any fun n => (q.slot n).gang) = (p.slotsOf t).any fun n => (p.slot n).gang := by
  have hslot (n : Nat) : q.slot n = p.slot n := by rw [Pond.slot, hs, Pond.slot]
  simp only [Pond.tileFull, Pond.tileOf, Pond.slotsOf, hslot, and_self]

/-- A tile of which no slot is ganged. -/
theorem single_of_slots {p : Pond} {t : Nat}
    (h : ∀ n < 8, ((p.slot n).ticket = t ∧ (p.slot n).st ≠ .free) → (p.slot n).gang = false) :
    ((p.slotsOf t).any fun n => (p.slot n).gang) = false := by
  rw [List.any_eq_false]
  intro n hn
  obtain ⟨hrange, hslot⟩ := List.mem_filter.mp hn
  have hof : (p.slot n).st ≠ .free ∧ (p.slot n).ticket = t := by simpa using hslot
  rw [h n (List.mem_range.mp hrange) hof.symm]
  exact Bool.false_ne_true

section
variable {s r : State} {u : PondId} {w : Word} (h : AtInsn s u w) (he : EnginesEmpty (s.pond u)) (hf : Follows (s.pond u))
  {k : TicketInfo} (hop : w.field 56 8 = 0x40)
  (hissue : iSt s.clean u w = (stReleased s.clean u w k.ticket).toStore u (stItem (s.pond u) w k.ticket))
include h he hf hop hissue

theorem st_gives_waiting (hfull : (s.pond u).tileFull k.ticket = false) : Gives (.st u) s fun t =>
    (t.pond u).storeQ = [stItem (s.pond u) w k.ticket] ∧ { t with ponds := s.ponds } = s
      ∧ ∀ v, v ≠ u.val → t.pond v = s.pond v := by
  obtain ⟨q, hb, hq, hfollows, hslots, hV, hu⟩ := stReleased_spec (w := w) h he hf k.ticket
  have hnot : q.tileFull k.ticket = false := (tiles_congr hslots k.ticket).1.trans hfull
  have hwaits : Pond.opReady { onward q with storeQ := [stItem (s.pond u) w k.ticket] } (stItem (s.pond u) w k.ticket) = false := by
    have hticket : (stItem (s.pond u) w k.ticket).ticket = some k.ticket := rfl
    have hsame := (tiles_congr (p := q) (q := { onward q with storeQ := [stItem (s.pond u) w k.ticket] }) rfl k.ticket).1
    simp only [Pond.opReady, hticket, hsame, hnot, Bool.false_and]
  refine gives_mono (gives_of_queued (sel := isOp 0x40) (f := iSt) rfl h (beq_iff_eq.mpr hop) hissue hb hq hfollows hwaits)
    fun t ht => ?_
  obtain ⟨hself, hothers, hrest⟩ := ht
  exact ⟨by rw [hself], hrest, hothers⟩

theorem st_gives_full {f : Fmt} {out : PutOut} {ok : Bool} (hm : r.misuse = none) (hplace : TilePlace (s.pond u) w f)
    (hrec : w.flag 35 = false) (hsingle : (((s.pond u).slotsOf k.ticket).any fun n => ((s.pond u).slot n).gang) = false)
    (hfull : (s.pond u).tileFull k.ticket = true)
    (hput : ((stReleased s.clean u w k.ticket).toStore u (stItem (s.pond u) w k.ticket)).putRuns u
      (storeTile ((s.pond u).desc (w.field 52 4)) f true (tileSource ((s.pond u).tileOf k.ticket))
        ((s.pond u).sreg (w.field 42 5)).toNat ((s.pond u).sreg (w.field 37 5)).toNat) = (out, r)) (hok : out.res = .ok ok) :
    Gives (.st u) s fun t => { t with ponds := r.ponds, regs := r.regs } = r.keeping s ∧ (t.pond u).storeQ = [] := by
  obtain ⟨q, hb, hq, hfollows, hslots, hV, hu⟩ := stReleased_spec (w := w) h he hf k.ticket
  have hunstaled := unstaled_putRuns ((stReleased s.clean u w k.ticket).toStore u (stItem (s.pond u) w k.ticket)) u
    (storeTile ((s.pond u).desc (w.field 52 4)) f true (tileSource ((s.pond u).tileOf k.ticket))
      ((s.pond u).sreg (w.field 42 5)).toNat ((s.pond u).sreg (w.field 37 5)).toNat)
  rw [hput] at hunstaled
  have hqueued := onlyPond_toStore (o := stItem (s.pond u) w k.ticket) hb hq hfollows
  have htiles := tiles_congr (p := s.pond u)
    (q := ((stReleased s.clean u w k.ticket).toStore u (stItem (s.pond u) w k.ticket)).pond u) (by rw [hqueued.1]; exact hslots)
    k.ticket
  obtain ⟨d, hstored, hd⟩ := storeOp_of_tile (o := stItem (s.pond u) w k.ticket)
    (.inr ⟨hop, rfl, k.ticket, rfl, htiles.2.1.symm, htiles.2.2.trans hsingle⟩) hplace.fmt hrec hput hok
  have hready : Pond.opReady { onward q with storeQ := [stItem (s.pond u) w k.ticket] } (stItem (s.pond u) w k.ticket) = true :=
    opReady_of_alone (.inr ⟨hV, rfl⟩) ⟨hu.feedA, hu.feedB, hu.gridQ⟩ fun t ht => by
      rw [← Option.some.inj ht]
      exact (tiles_congr hslots k.ticket).1.trans hfull
  refine gives_mono (gives_of_toStore (sel := isOp 0x40) (f := iSt) rfl h (beq_iff_eq.mpr hop) hissue hb hq hfollows hready hm
    hstored hunstaled hd) fun t ht => ?_
  obtain ⟨hframe, hempty, -⟩ := ht
  exact ⟨hframe, hempty⟩

end

end Sys2Proof.Proofs
end

section
/-!
PROOFS. XSTART (R174, R247), and the instructions that access memory together.
-/
namespace Sys2Proof.Proofs

open Sys2Proof Sys2Proof.Machine Sys2Proof.Safety Sys2Proof.Laws

/-! The transfer start port. -/

/-- The words of a descriptor that a program's read has found. -/
def readWords (bs : List (Byte × Bool)) : List Word :=
  (List.range 17).map fun n => BitVec.ofNat 64 (bytesNat ((bs.drop (8 * n)).take 8))

/-- The port hands the descriptor that it reads to the channel. -/
theorem runXstart_of_accepted {t r' r : State} {u a : Nat} {o : PondOp} {bs : List (Byte × Bool)}
    (hxs : (t.pond u).xsQ = [o]) (hroom : t.chanRoom (u / 8 * 16 + o.insn.field 52 4) = true) (ha : o.x.toNat % 2 ^ 57 = a)
    (hread : (t.modPond u fun q => { q with xsQ := [] }).pondRead u a 136 = (.ok bs, r')) (hpoison : anyPoison bs = false)
    (hacc : r'.acceptXfer (u / 8 * 16 + o.insn.field 52 4) (readWords bs) (t.pond u).cur.asid (t.pond u).cur.job
      (t.pond u).cur.cls (.program (u % 8)) (r'.chanWho (u / 8 * 16 + o.insn.field 52 4) (t.pond u).cur.asid) = (none, r)) :
    t.runXstart u = (true, r) := by
  rw [readWords] at hacc
  rw [State.runXstart]
  simp only [hxs, hroom, if_true, ha, hread, hpoison, Bool.false_eq_true, if_false, hacc]

section
variable {s r : State} {u : PondId} {w : Word} (h : AtInsn s u w) (he : EnginesEmpty (s.pond u)) (hf : Follows (s.pond u))
  (hop : w.field 56 8 = 0x70) (hst : s.lineStOf (u / 8) ≠ .stopping)
include h he hf hop hst

theorem xstart_gives_waiting (hroom : s.chanRoom (u / 8 * 16 + w.field 52 4) = false) : Gives (.xstart u) s fun t =>
    OnlyPond s t u { onward (s.pond u) with xsQ := [xstartItem (s.pond u) w] } := by
  have hafter : OnlyPond s.clean (iXstart s.clean u w) u { onward (s.pond u) with xsQ := [xstartItem (s.pond u) w] } := by
    rw [iXstart_of_empty (s := s.clean) w he.xsQ hst]
    exact onlyPond_toXstart (onlyPond_refl s.clean u) h.mode hf
  have hpump : (iXstart s.clean u w).pump u = iXstart s.clean u w := by
    refine pump_of_no_place (q := onward (s.pond u)) hafter.1 (quiescent_onward (quiescent_of_atInsn h he)) ?_
    exact (keeps_of_onlyPond hafter (State.chanRoom · _) fun _ _ => rfl).trans hroom
  exact gives_of_issue (sel := isOp 0x70) (f := iXstart) rfl h (beq_iff_eq.mpr hop) hpump
    (keeps_of_onlyPond hafter State.misuse fun _ _ => rfl) (onlyPond_keeping hafter)

theorem xstart_gives_accepted {s1 r' : State} {a : Nat} {bs : List (Byte × Bool)} (hm : r.misuse = none)
    (hroom : s.chanRoom (u / 8 * 16 + w.field 52 4) = true)
    (hs1 : (s.clean.modPond u fun q => { q with xsQ := [xstartItem (s.pond u) w] }).adv u = s1)
    (ha : ((s.pond u).sreg (w.field 47 5)).toNat % 2 ^ 57 = a)
    (hread : (s1.modPond u fun q => { q with xsQ := [] }).pondRead u a 136 = (.ok bs, r')) (hpoison : anyPoison bs = false)
    (hacc : r'.acceptXfer (u / 8 * 16 + w.field 52 4) (readWords bs) (s.pond u).cur.asid (s.pond u).cur.job
      (s.pond u).cur.cls (.program (u % 8)) (r'.chanWho (u / 8 * 16 + w.field 52 4) (s.pond u).cur.asid) = (none, r)) :
    Gives (.xstart u) s fun t => t.chans = r.chans ∧ (t.pond u).xsQ = [] := by
  have hissue : iXstart s.clean u w = s1 := (iXstart_of_empty (s := s.clean) w he.xsQ hst).trans hs1
  have hqueued : OnlyPond s.clean s1 u { onward (s.pond u) with xsQ := [xstartItem (s.pond u) w] } := by
    rw [← hs1]
    exact onlyPond_toXstart (onlyPond_refl s.clean u) h.mode hf
  have hq := quiescent_onward (quiescent_of_atInsn h he)
  have htaken := onlyPond_modPond hqueued fun q => { q with xsQ := [] }
  have hpond : r.pond u = { onward (s.pond u) with xsQ := [] } := by
    have hkept := (keptByReads_pond u).acceptXfer r' (fun _ _ => rfl) (u / 8 * 16 + w.field 52 4) (readWords bs)
      (s.pond u).cur.asid (s.pond u).cur.job (s.pond u).cur.cls (.program (u % 8))
      (r'.chanWho (u / 8 * 16 + w.field 52 4) (s.pond u).cur.asid)
    rw [hacc] at hkept
    exact hkept.trans (((keptByReads_pond u).of_pondRead hread).trans htaken.1)
  have hr : Quiescent (r.pond u) := by
    rw [hpond]
    exact clear_xsQ hq.empty.xsQ ▸ hq
  have hrun : s1.runXstart u = (true, r) := by
    refine runXstart_of_accepted (o := xstartItem (s.pond u) w) (by rw [hqueued.1]) ?_ ha hread hpoison ?_
    · exact (keeps_of_onlyPond hqueued (State.chanRoom · _) fun _ _ => rfl).trans hroom
    · rw [hqueued.1]
      exact hacc
  have hpump : s1.pump u = r := pump_of_xstart (s := s.clean) h.works hqueued hr hrun h.mode ⟨he.feedA, he.feedB, he.gridQ⟩
    he.vecQ he.storeQ
  exact gives_of_issue (sel := isOp 0x70) (f := iXstart) rfl h (beq_iff_eq.mpr hop)
    ((congrArg (State.pump · u) hissue).trans hpump) hm ⟨rfl, hr.empty.xsQ⟩

end

/-! All instructions that access memory. -/

/-- Settles O10: each instruction's read or store is the model's own for the addresses it names, and with empty engines the unit
that it queues for does it in the same step. -/
theorem memoryInstructions : Obligations.MemoryInstructions := by
  unfold Obligations.MemoryInstructions
  intro s r u w h he hf hm p op a i j d va load
  refine ⟨fun hop hva hreg bs hread hpoison => ?ld, fun hop hva bs hread hpoison => ?ald,
    fun isA hop htb hlisted => tileLoad_gives_tb h he hf isA hop htb hlisted,
    fun isA hop htb hshape f hfmt hblocks es hread => ?mem, fun hop hlisted hshape f hfmt hrec es hread => ?ldt,
    fun hop hva hreg hput => ?sd, fun hop hlisted hshape hrec f b hfmt hindex hput hok => ?stb,
    fun hop hshape hrec f k b hfmt hindex hheld hconverts _ hsingle => ?st, fun hop => ?xstart⟩
  case ld => exact ld_gives h he hf hm rfl rfl hpoison hop hva hreg hread
  case ald =>
    refine gives_mono (ald_gives h he hf hm rfl rfl hpoison hop hva hread) fun t ht => ?_
    obtain ⟨hself, -⟩ := ht
    have hdesc : (t.pond u).desc (w.field 52 4) = descOfBytes bs := by
      rw [hself]
      exact tblGet_set_self _ _ _ _
    intro n hn
    rw [hdesc]
    interval_cases n <;> rfl
  case mem => exact tileLoad_gives_memory h he hf isA hm hop htb hshape hfmt hblocks hread
  case ldt => exact ldt_gives h he hf hm hop hlisted hshape hfmt hrec hread
  case sd => exact sd_gives h he hf hm hop rfl hva rfl hreg hput
  case stb =>
    obtain ⟨q, hq⟩ := hok
    exact stb_gives h he hf hm hop hlisted ⟨hshape, hfmt, hindex⟩ hrec hput hq
  case st =>
    have hplace : TilePlace (s.pond u) w f := ⟨hshape, hfmt, hindex⟩
    have hissue := iSt_of_held he hplace hheld hconverts
    refine ⟨fun hfull hput hok => ?_, st_gives_waiting h he hf hop hissue⟩
    obtain ⟨q, hq⟩ := hok
    exact st_gives_full h he hf hop hissue hm hplace hrec (single_of_slots hsingle) hfull hput hq
  case xstart =>
    intro c o hst
    exact ⟨xstart_gives_waiting h he hf hop hst, fun hroom bs r' hread hpoison hacc =>
      xstart_gives_accepted h he hf hop hst hm hroom rfl rfl hread hpoison hacc⟩

end Sys2Proof.Proofs
end

section
/-!
PROOFS. The dispatch of a queue's last fetched command (R316, R320): the queue moves past it, and nothing else changes but the
turn of the arbiter.
-/
namespace Sys2Proof.Proofs

open Sys2Proof Sys2Proof.Machine Sys2Proof.Safety Sys2Proof.Laws

/-! Memory under what queues do. -/

/-- The state without its queues and what their commands go to beside memory. -/
def unworked (s : State) : State :=
  { s with queues := [], arbs := [], ponds := [], chans := [], host := {}, out := [], freeCtr := 0, misuse := none }

theorem keeps_of_unworked {α : Type} {s t : State} (h : unworked t = unworked s) (p : State → α)
    (hp : ∀ x, p (unworked x) = p x) : p t = p s := (hp t).symm.trans ((congrArg p h).trans (hp s))

theorem quiet_of_unworked {s t : State} (h : unworked t = unworked s) {g : Nat} (hq : Quiet s g) : Quiet t g :=
  quiet_of_coh (keeps_of_unworked h State.coh fun _ => rfl) (keeps_of_unworked h State.errs fun _ => rfl) hq

theorem granule_of_unworked {s t : State} (h : unworked t = unworked s) (g : Nat) : t.granule g = s.granule g :=
  keeps_of_unworked h (State.granule · g) fun _ => rfl

theorem seen_of_unworked {s t : State} (h : unworked t = unworked s) (x : Nat) : seen t x = seen s x :=
  keeps_of_unworked h (seen · x) fun _ => rfl

theorem writable_of_unworked {s t : State} (h : unworked t = unworked s) {l a n : Nat} (hw : Writable s l a n) :
    Writable t l a n where
  own := (keeps_of_unworked h (State.ownMem · l a) fun _ => rfl).trans hw.own
  fits := hw.fits
  good := (keeps_of_unworked h (State.onFailed · a) fun _ => rfl).trans hw.good
  plain := (keeps_of_unworked h (State.meetsOwned · a n) fun _ => rfl).trans hw.plain
  alive := by
    rw [keeps_of_unworked h (State.line · l) fun _ => rfl]
    exact hw.alive
  whole := by
    rw [granule_of_unworked h]
    exact hw.whole
  quiet := quiet_of_unworked h hw.quiet

/-- A write elsewhere in quiet memory leaves what can be written. -/
theorem writable_of_unwritten {s t : State} (h : unwritten t = unwritten s) {l a n : Nat} (hw : Writable s l a n)
    (hlen : (t.granule (a / 64)).1.length = 64) (hquiet : Quiet t (a / 64)) : Writable t l a n where
  own := (keeps_of_unwritten h (State.ownMem · l a) fun _ => rfl).trans hw.own
  fits := hw.fits
  good := (keeps_of_unwritten h (State.onFailed · a) fun _ => rfl).trans hw.good
  plain := (keeps_of_unwritten h (State.meetsOwned · a n) fun _ => rfl).trans hw.plain
  alive := by
    rw [keeps_of_unwritten h (State.line · l) fun _ => rfl]
    exact hw.alive
  whole := hlen
  quiet := hquiet

/-! A queue that has fetched nothing more. -/

theorem modQueue_congr {s : State} {k : Nat} {f g : AQueue → AQueue} (h : f (s.queue k) = g (s.queue k)) :
    s.modQueue k f = s.modQueue k g := congrArg (fun x => ({ s with queues := tblSet {} s.queues k x } : State)) h

theorem command_of_unkept {x : AQueue} (h : x.kept = []) (n : Nat) :
    x.command n = if n = x.reach then .beyond else .missing n := by
  unfold AQueue.command
  rw [h]
  rfl

theorem collect_of_unkept {x : AQueue} (h : x.kept = []) (k : Nat) : x.collect k = x := by
  cases k with
  | zero => rfl
  | succ k =>
    rw [AQueue.collect, command_of_unkept h]
    split
    next hvisible =>
      split at hvisible
      · cases hvisible
      · cases hvisible
    next => rfl

/-- Nothing becomes visible, and the queue waits for the entry at H at most. -/
theorem assemble_of_unkept {s : State} {l q : Nat} (hkept : (s.queue (qKey l q)).kept = [])
    (hfetched : (s.queue (qKey l q)).fetched = []) :
    ∃ w n, s.assemble l q = (s.modQueue (qKey l q) fun x => x).modQueue (qKey l q) fun x =>
      { x with waiting := w, refetch := n } := by
  have hstill : (s.queue (qKey l q)).collect 4096 = s.queue (qKey l q) := collect_of_unkept hkept 4096
  have hmod : (s.modQueue (qKey l q) fun _ => s.queue (qKey l q)) = s.modQueue (qKey l q) fun x => x := rfl
  unfold State.assemble
  simp only [hstill, hfetched, hmod, ne_eq, not_true_eq_false, if_false, command_of_unkept hkept]
  split
  next seq hbad =>
    split at hbad
    · cases hbad
    · cases hbad
  · exact ⟨_, _, modQueue_congr rfl⟩
  · exact ⟨_, _, modQueue_congr rfl⟩

theorem tidy_of_unfetched {s : State} {l q : Nat} (h : (s.queue (qKey l q)).fetched = []) : s.tidy l q = s := by
  rw [State.tidy, h]
  rfl

/-! Dispatch. -/

/-- From `s` to `t`, queue `q` has dispatched its last fetched command `c`. -/
structure Dispatched (s t : State) (l q : Nat) (c : ACmd) : Prop where
  queue : ∃ w n, t.queue (qKey l q) = { s.queue (qKey l q) with
    fetched := [], h := (c.seq + c.entries) % 65536, waiting := w, refetch := n
    running := (s.queue (qKey l q)).running ++ [{ c with since := s.time }] }
  others : ∀ k, k ≠ qKey l q → t.queue k = s.queue k
  frame : { t with queues := s.queues, arbs := s.arbs } = s.clean

/-- An arbiter that has moved on is all that a turn changes. -/
theorem turnOf_frame {s r : State} {k l u : Nat} {ready : List (Nat × Nat)} (h : s.turnOf k l ready u = some r) :
    { r with arbs := s.arbs } = s := by
  unfold State.turnOf at h
  split at h
  · split at h
    · rw [← Option.some.inj h]
      rfl
    · cases h
  · cases h

theorem phaseRecord_of_off {s : State} {l : Nat} (h : s.flag (lnKey l 0x300) 63 = false) (p b c d e j : Nat) :
    s.phaseRecord l p b c d e j = s := if_neg (by rw [← Bool.not_eq_true] at h; exact h)

/-- The state with other queues and arbiters. -/
def offTurn (qs : Tbl AQueue) (as : Tbl Arb) (x : State) : State := { x with queues := qs, arbs := as }

section
variable {s r : State} {l : Nat} {q : QueueId} {c : ACmd} (h : Dispatches s r l q c)
include h

theorem dispatched_of_dispatches : Dispatched s (r.take l q c) l q c := by
  have hturn := turnOf_frame h.turn
  obtain ⟨hlast, hkept⟩ := h.last
  have hturned {α : Type} (p : State → α) (hp : ∀ x as, p { x with arbs := as } = p x) : p r = p s.clean :=
    (hp r s.arbs).symm.trans (congrArg p hturn)
  have hqueue (k : Nat) : r.queue k = s.queue k := hturned (State.queue · k) fun _ _ => rfl
  have htime : r.time = s.time := hturned State.time fun _ _ => rfl
  obtain ⟨b, hb⟩ : ∃ b, (r.modQueue (qKey l q) fun x =>
    { x with fetched := x.fetched.drop 1, h := (c.seq + c.entries) % 65536,
             running := x.running ++ [{ c with since := r.time }] }) = b := ⟨_, rfl⟩
  have hself : b.queue (qKey l q) = { s.queue (qKey l q) with
      fetched := [], h := (c.seq + c.entries) % 65536
      running := (s.queue (qKey l q)).running ++ [{ c with since := s.time }] } := by
    rw [← hb, queue_modQueue_self, hqueue, htime, hlast]
    rfl
  obtain ⟨w, n, hassemble⟩ := assemble_of_unkept (s := b) (l := l) (q := q) (by rw [hself]; exact hkept) (by rw [hself])
  obtain ⟨t, ht⟩ : ∃ t, b.assemble l q = t := ⟨_, rfl⟩
  have hframe : offTurn s.queues s.arbs t = s.clean := by
    have hoff (x : State) (k : Nat) (f : AQueue → AQueue) :
        offTurn s.queues s.arbs (x.modQueue k f) = offTurn s.queues s.arbs x := rfl
    have hclean : offTurn s.queues s.arbs s.clean = s.clean := rfl
    rw [← ht, hassemble, ← hb, hoff, hoff, hoff, hturned (offTurn s.queues s.arbs) fun _ _ => rfl, hclean]
  have hmarked : r.take l q c = t := by
    have htake : r.take l q c = t.when (c.w0.flag 13) fun t =>
        t.phaseRecord l (c.w1.field 16 4) 1 l 0 (c.w1.field 32 32) c.job := by
      rw [← ht, ← hb]
      rfl
    have hkeep {α : Type} (p : State → α) (hp : ∀ x qs as, p { x with queues := qs, arbs := as } = p x) : p t = p s.clean :=
      (hp t s.queues s.arbs).symm.trans (congrArg p hframe)
    have hflag : t.flag (lnKey l 0x300) 63 = s.flag (lnKey l 0x300) 63 :=
      hkeep (State.flag · (lnKey l 0x300) 63) fun _ _ _ => rfl
    rw [htake]
    cases hmark : c.w0.flag 13 with
    | false => rfl
    | true => exact phaseRecord_of_off (hflag.trans (h.mark hmark)) _ _ _ _ _ _
  rw [hmarked]
  refine ⟨⟨w, n, ?_⟩, fun k hk => ?_, hframe⟩
  · rw [← ht, hassemble, queue_modQueue_self, queue_modQueue_self, hself]
  · rw [← ht, hassemble, queue_modQueue_ne _ _ hk, queue_modQueue_ne _ _ hk, ← hb, queue_modQueue_ne _ _ hk, hqueue]

end

section
variable {s s0 : State} {l q : Nat} {c : ACmd} (h : Dispatched s s0 l q c)
include h

theorem Dispatched.keeps {α : Type} (p : State → α) (hp : ∀ x qs as, p { x with queues := qs, arbs := as } = p x) :
    p s0 = p s.clean := (hp s0 s.queues s.arbs).symm.trans (congrArg p h.frame)

theorem unworked_of_dispatched : unworked s0 = unworked s := h.keeps unworked fun _ _ _ => rfl

/-- What a queue keeps when it dispatches. -/
theorem Dispatched.queueKeeps {α : Type} (g : AQueue → α)
    (hg : ∀ x f hh w n r, g { x with fetched := f, h := hh, waiting := w, refetch := n, running := r } = g x) (k : Nat) :
    g (s0.queue k) = g (s.queue k) := by
  by_cases hk : k = qKey l q
  · obtain ⟨w, n, hq⟩ := h.queue
    rw [hk, hq]
    exact hg _ _ _ _ _ _
  · rw [h.others k hk]

end

/-- The row of a command that is dispatched. -/
theorem dispatch_eq {s r : State} {l : Nat} {q : QueueId} {c : ACmd} (h : Dispatches s r l q c) {op : Nat} (hop : c.opcode = op)
    (f : State → ACmd → State) (hempty : ((f (r.take l q c) c).queue (qKey l q)).fetched = []) :
    s.clean.dispatch l q op f = f (r.take l q c) c := by
  have hnext : s.clean.nextCommand l q = some c := h.next
  have hjob : (r.take l q c).jobEnded l c.job = false :=
    ((dispatched_of_dispatches h).keeps (State.jobEnded · l c.job) fun _ _ _ => rfl).trans h.job
  unfold State.dispatch
  simp only [hnext, hop, h.good, and_self, if_true, h.turn, hjob, Bool.false_eq_true, if_false]
  exact tidy_of_unfetched hempty

end Sys2Proof.Proofs
end

section
/-!
PROOFS. The completion of a command (R322 to R324): its entry stands in the next slot of its completion queue, it runs no more,
and nothing else changes but the signal.
-/
namespace Sys2Proof.Proofs

open Sys2Proof Sys2Proof.Machine Sys2Proof.Safety Sys2Proof.Laws

/-! The queues of a Line. -/

theorem mem_of_tblGet_ne {α : Type} {d : α} {t : Tbl α} {k : Nat} (h : tblGet d t k ≠ d) : ∃ e ∈ t, e.1 = k := by
  induction t with
  | nil => exact absurd rfl h
  | cons e r ih =>
    by_cases hk : e.1 = k
    · exact ⟨e, List.mem_cons_self, hk⟩
    · have hrest : tblGet d (e :: r) k = tblGet d r k := by
        obtain ⟨j, v⟩ := e
        exact if_neg hk
      obtain ⟨x, hx, hxk⟩ := ih (hrest ▸ h)
      exact ⟨x, List.mem_cons_of_mem _ hx, hxk⟩

theorem mem_lineQueues {s : State} {l q : Nat} (hq : q < 4096) (h : (s.queue (qKey l q)).running ≠ []) :
    q ∈ s.lineQueues l := by
  obtain ⟨e, he, hk⟩ := mem_of_tblGet_ne (d := ({} : AQueue)) (t := s.queues) (k := qKey l q) fun hd => h (by
    rw [State.queue, hd])
  have hkey : e.1 / 4096 = l ∧ e.1 % 4096 = q := by
    rw [hk, qKey]
    omega
  exact List.mem_map.mpr ⟨e, List.mem_filter.mpr ⟨he, beq_iff_eq.mpr hkey.1⟩, hkey.2⟩

theorem lt_of_mem_lineQueues {s : State} {l p : Nat} (h : p ∈ s.lineQueues l) : p < 4096 := by
  obtain ⟨e, -, rfl⟩ := List.mem_map.mp h
  exact Nat.mod_lt _ (by decide)

/-- No command of the Line led by `l` waits for a slot. -/
def Settled (s : State) (l : Nat) : Prop := ∀ p < 4096, ∀ d ∈ (s.queue (qKey l p)).running, d.done = false

theorem settled_of_lineQueues {s : State} {l : Nat}
    (h : ∀ p ∈ s.lineQueues l, ∀ d ∈ (s.queue (qKey l p)).running, d.done = false) : Settled s l := by
  intro p hp d hd
  exact h p (mem_lineQueues hp (List.ne_nil_of_mem hd)) d hd

/-! The completions that wait. -/

/-- The completions of queue `p` that wait for CQ `cqid` are written. -/
def flushOne (l cqid : Nat) (s : State) (p : Nat) : State :=
  if (s.queue (qKey l p)).cqid = cqid then
    ((s.queue (qKey l p)).running.filter (·.done)).foldl (fun s c => s.tryCompletion l p c) s
  else s

theorem flushCq_eq (s : State) (l cqid : Nat) : s.flushCq l cqid = (s.lineQueues l).foldl (flushOne l cqid) s := rfl

theorem flushOne_of_settled {s : State} {l p : Nat} (h : ∀ d ∈ (s.queue (qKey l p)).running, d.done = false) (cqid : Nat) :
    flushOne l cqid s p = s := by
  have hnone : (s.queue (qKey l p)).running.filter (·.done) = [] :=
    List.filter_eq_nil_iff.mpr fun d hd => by simp [h d hd]
  rw [flushOne, hnone]
  exact ite_self s

/-- Where one member alone changes a state, and only once, a pass over a list makes that change. -/
theorem foldl_of_one {f : State → Nat → State} {s v : State} {q : Nat} {ps : List Nat} (hone : f s q = v)
    (hothers : ∀ p ∈ ps, p ≠ q → f s p = s) (hafter : ∀ p ∈ ps, f v p = v) (hq : q ∈ ps) : ps.foldl f s = v := by
  induction ps with
  | nil => cases hq
  | cons p ps ih =>
    have hrest : ps.foldl f v = v :=
      List.foldlRecOn (motive := (· = v)) ps f rfl fun t ht x hx => ht ▸ hafter x (List.mem_cons_of_mem _ hx)
    rw [List.foldl_cons]
    by_cases hp : p = q
    · rw [hp, hone, hrest]
    · rw [hothers p List.mem_cons_self hp]
      exact ih (fun x hx => hothers x (List.mem_cons_of_mem _ hx)) (fun x hx => hafter x (List.mem_cons_of_mem _ hx))
        ((List.mem_cons.mp hq).resolve_left (Ne.symm hp))

/-! The entry. -/

/-- The state without what the entry of a completion changes. -/
def uncompleted (s : State) : State := { unwritten s with queues := [], host := {}, out := [] }

/-- From `s` to `t`, the completion `ws` has been written for queue `q`, and its command with sequence `n` runs no more. -/
structure Completed (s t : State) (l q n : Nat) (ws : List Word) : Prop where
  entry : ∀ i < 4, wordAt t (cqSlot s l q + 8 * i) = ws.getD i 0
  outside : SeenOutside s t (cqSlot s l q) 32
  length : ∀ g < 2 ^ 46, (s.granule g).1.length = 64 → (t.granule g).1.length = 64
  written : (t.queue (qKey l (s.queue (qKey l q)).cqid)).cqWritten = (s.queue (qKey l (s.queue (qKey l q)).cqid)).cqWritten + 1
  running : (t.queue (qKey l q)).running = (s.queue (qKey l q)).running.filter fun d => d.seq != n
  others : ∀ k, k ≠ qKey l q → (t.queue k).running = (s.queue k).running
  head : (t.queue (qKey l q)).h = (s.queue (qKey l q)).h
  fetched : (t.queue (qKey l q)).fetched = (s.queue (qKey l q)).fetched
  frame : uncompleted t = uncompleted s

theorem Completed.keeps {s t : State} {l q n : Nat} {ws : List Word} (h : Completed s t l q n ws) {α : Type} (p : State → α)
    (hp : ∀ x, p (uncompleted x) = p x) : p t = p s := (hp t).symm.trans ((congrArg p h.frame).trans (hp s))

theorem signal_keeps {α : Type} (p : State → α) (hp : ∀ x h o, p { x with host := h, out := o } = p x) (s : State)
    (fn vector : Nat) : p (s.signal fn vector) = p s := by
  unfold State.signal
  split
  · exact hp s _ _
  · rfl

/-- A completion's entry is written into its slot, and its CQ goes on to the next. -/
theorem completed_writeCompletion {s : State} {l q : Nat} {c : ACmd} (hslot : Writable s l (cqSlot s l q) 32) :
    Completed s ((s.writeCompletion l q c).dropCommand l q c.seq) l q c.seq (s.completionWords l q c) := by
  have hwords : (wordBytes (s.completionWords l q c)).length = 32 := by rw [wordBytes_length]; rfl
  obtain ⟨hstore, hstored⟩ := store_of_writable (data := wordBytes (s.completionWords l q c)) (hwords ▸ hslot) false
  obtain ⟨x, hx⟩ : ∃ x, s.storeHome (cqSlot s l q) (wordBytes (s.completionWords l q c)) false = x := ⟨_, rfl⟩
  rw [hx] at hstore hstored
  have hqueue (k : Nat) : x.queue k = s.queue k := keeps_of_unwritten hstored.frame (State.queue · k) fun _ => rfl
  have hcompletion : ∃ b : Bool, s.writeCompletion l q c
      = (x.modQueue (qKey l (s.queue (qKey l q)).cqid) fun y => { y with cqWritten := y.cqWritten + 1 }).when b fun y =>
        y.signal (lineFn l) (s.queue (qKey l (s.queue (qKey l q)).cqid)).vector := by
    rw [cqSlot] at hstore
    unfold State.writeCompletion
    simp only [hstore]
    exact ⟨_, rfl⟩
  obtain ⟨b, hcompletion⟩ := hcompletion
  obtain ⟨y, hy⟩ : ∃ y, (x.modQueue (qKey l (s.queue (qKey l q)).cqid) fun y => { y with cqWritten := y.cqWritten + 1 }) = y :=
    ⟨_, rfl⟩
  rw [hy] at hcompletion
  have hsignal {α : Type} (p : State → α) (hp : ∀ z h o, p { z with host := h, out := o } = p z) :
      p (s.writeCompletion l q c) = p y := by
    rw [hcompletion]
    unfold State.when
    split
    · exact signal_keeps p hp y _ _
    · rfl
  obtain ⟨z, hz⟩ : ∃ z, s.writeCompletion l q c = z := ⟨_, rfl⟩
  rw [hz] at hsignal ⊢
  have hzq (k : Nat) : z.queue k = y.queue k := hsignal (State.queue · k) fun _ _ _ => rfl
  have hdrop : z.dropCommand l q c.seq = z.modQueue (qKey l q) fun y =>
      { y with running := y.running.filter fun d => d.seq != c.seq } := rfl
  have hmem {α : Type} (p : State → α) (hp : ∀ z h o qs, p { z with host := h, out := o, queues := qs } = p z) :
      p (z.dropCommand l q c.seq) = p x := by
    have hzy : p z = p y := hsignal p fun z h o => hp z h o z.queues
    have hyx : p y = p x := by
      rw [← hy]
      exact hp x x.host x.out _
    rw [hdrop]
    exact (hp z z.host z.out _).trans (hzy.trans hyx)
  have hgranule (g : Nat) : (z.dropCommand l q c.seq).granule g = x.granule g := hmem (State.granule · g) fun _ _ _ _ => rfl
  have hseen (a : Nat) : seen (z.dropCommand l q c.seq) a = seen x a := hmem (seen · a) fun _ _ _ _ => rfl
  have hfields {α : Type} (g : AQueue → α) (hg : ∀ y n, g { y with cqWritten := n } = g y) (k : Nat) :
      g (z.queue k) = g (s.queue k) := by
    rw [hzq, ← hy, queue_modQueue]
    split
    next hk =>
      rw [hg, hqueue, hk]
    next => rw [hqueue]
  refine ⟨fun i hi => ?_, fun a ha hout => ?_, fun g hg hlen => ?_, ?_, ?_, fun k hk => ?_, ?_, ?_, ?_⟩
  · have hword : wordAt (z.dropCommand l q c.seq) (cqSlot s l q + 8 * i) = wordAt x (cqSlot s l q + 8 * i) :=
      hmem (wordAt · (cqSlot s l q + 8 * i)) fun _ _ _ _ => rfl
    rw [hword]
    exact wordAt_of_stored hstored hi
  · rw [hseen]
    exact hstored.outside a ha (hwords.symm ▸ hout)
  · rw [hgranule]
    exact hstored.length g hg hlen
  · have hwritten (k : Nat) : ((z.dropCommand l q c.seq).queue k).cqWritten = (z.queue k).cqWritten := by
      rw [hdrop, queue_modQueue]
      split
      next hk => rw [hk]
      next => rfl
    rw [hwritten, hzq, ← hy, queue_modQueue_self, hqueue]
  · rw [hdrop, queue_modQueue_self]
    exact congrArg (List.filter fun d => d.seq != c.seq) (hfields AQueue.running (fun _ _ => rfl) _)
  · rw [hdrop, queue_modQueue_ne _ _ hk]
    exact hfields AQueue.running (fun _ _ => rfl) k
  · rw [hdrop, queue_modQueue_self]
    exact hfields AQueue.h (fun _ _ => rfl) _
  · rw [hdrop, queue_modQueue_self]
    exact hfields AQueue.fetched (fun _ _ => rfl) _
  · exact (hmem uncompleted fun _ _ _ _ => rfl).trans
      (keeps_of_unwritten hstored.frame uncompleted fun _ => rfl)

/-! Commands that complete. -/

/-- A command as it completes. -/
def completed (s : State) (c : ACmd) (status : Nat) (result : Word) (poison : Bool) : ACmd :=
  { c with done := true, doneAt := s.time, status := status, result := result, poison := poison }

/-- Queue `q` runs the command `c`, which can be completed at once. -/
structure Completes (s : State) (l q : Nat) (c : ACmd) : Prop where
  small : q < 4096
  one : (s.queue (qKey l q)).running.filter (fun d => d.seq == c.seq) = [c]
  asked : c.noCq = false
  on : (s.queue (qKey l (s.queue (qKey l q)).cqid)).st ≠ .off
  room : s.cqFull l (s.queue (qKey l q)).cqid = false
  slot : Writable s l (cqSlot s l q) 32
  settled : Settled s l

/-- The running commands once the one with sequence `n` is `c'`. -/
def marked (n : Nat) (c' : ACmd) (ds : List ACmd) : List ACmd := ds.map fun d => if d.seq = n then c' else d

section
variable {ds : List ACmd} {c c' : ACmd} (hone : ds.filter (fun d => d.seq == c.seq) = [c])
include hone

theorem find_of_one (hdone : ∀ d ∈ ds, d.done = false) : ds.find? (fun d => d.seq == c.seq && !d.done) = some c := by
  have hsame : ds.filter (fun d => d.seq == c.seq && !d.done) = ds.filter fun d => d.seq == c.seq :=
    List.filter_congr fun d hd => by rw [hdone d hd, Bool.not_false, Bool.and_true]
  rw [← List.head?_filter, hsame, hone]
  rfl

theorem done_marked (hdone : ∀ d ∈ ds, d.done = false) (hc' : c'.done = true) :
    (marked c.seq c' ds).filter (·.done) = [c'] := by
  have hmark : ds.filter ((·.done) ∘ fun d => if d.seq = c.seq then c' else d) = [c] := by
    rw [← hone]
    refine List.filter_congr fun d hd => ?_
    by_cases hd' : d.seq = c.seq
    · simp [hd', hc']
    · simp [hd', hdone d hd]
  rw [marked, List.filter_map, hmark]
  simp

omit hone in
theorem rest_marked (hc' : c'.seq = c.seq) :
    (marked c.seq c' ds).filter (fun d => d.seq != c.seq) = ds.filter fun d => d.seq != c.seq := by
  have hsame : ds.filter ((fun d => d.seq != c.seq) ∘ fun d => if d.seq = c.seq then c' else d)
      = ds.filter fun d => d.seq != c.seq := by
    refine List.filter_congr fun d _ => ?_
    by_cases hd : d.seq = c.seq
    · simp [hd, hc']
    · simp [hd]
  rw [marked, List.filter_map, hsame]
  refine (List.map_congr_left fun d hd => ?_).trans (List.map_id _)
  have hne : d.seq ≠ c.seq := by simpa using (List.mem_filter.mp hd).2
  simp [hne]

end

/-- From `s` to `v`, the command of queue `q` with the sequence of `c'` has been marked as `c'`. -/
structure Marks (s v : State) (l q : Nat) (c' : ACmd) : Prop where
  queue : ∀ k, v.queue k = if k = qKey l q then
    { s.queue (qKey l q) with running := marked c'.seq c' (s.queue (qKey l q)).running } else s.queue k
  rest : ∀ qs, ({ v with queues := qs } : State) = { s with queues := qs }

section
variable {s v : State} {l q : Nat} {c' : ACmd} (hm : Marks s v l q c')
include hm

theorem Marks.fields {α : Type} (g : AQueue → α) (hg : ∀ y r, g { y with running := r } = g y) (k : Nat) :
    g (v.queue k) = g (s.queue k) := by
  rw [hm.queue]
  split
  next hk => rw [hg, hk]
  next => rfl

theorem Marks.keeps {α : Type} (p : State → α) (hp : ∀ x qs, p { x with queues := qs } = p x) : p v = p s :=
  (hp v []).symm.trans ((congrArg p (hm.rest [])).trans (hp s []))

theorem Marks.cqSlot : cqSlot v l q = cqSlot s l q := by
  simp only [Safety.cqSlot, hm.fields AQueue.cqid (fun _ _ => rfl), hm.fields AQueue.cqBase (fun _ _ => rfl),
    hm.fields AQueue.cqWritten (fun _ _ => rfl), hm.fields AQueue.cqSize (fun _ _ => rfl)]

theorem Marks.completionWords : v.completionWords l q c' = s.completionWords l q c' := by
  simp only [State.completionWords, hm.fields AQueue.cqid (fun _ _ => rfl), hm.fields AQueue.cqWritten (fun _ _ => rfl),
    hm.fields AQueue.cqSize (fun _ _ => rfl), hm.fields AQueue.h (fun _ _ => rfl)]

theorem Marks.running : (v.queue (qKey l q)).running = marked c'.seq c' (s.queue (qKey l q)).running := by
  rw [hm.queue, if_pos rfl]

theorem Marks.others {k : Nat} (hk : k ≠ qKey l q) : v.queue k = s.queue k := by rw [hm.queue, if_neg hk]

theorem Marks.writable {a n : Nat} (hw : Writable s l a n) : Writable v l a n :=
  writable_of_unworked (hm.keeps unworked fun _ _ => rfl) hw

end

section
variable {s v : State} {l q : Nat} {c c' : ACmd} (h : Completes s l q c) (hm : Marks s v l q c') (hseq : c'.seq = c.seq)
  (hdone : c'.done = true) (hasked : c'.noCq = false)
include h hm hasked

/-- The marked command's completion goes to its slot. -/
theorem tryCompletion_of_marks : v.tryCompletion l q c' = (v.writeCompletion l q c').dropCommand l q c'.seq := by
  have hcqid : (v.queue (qKey l q)).cqid = (s.queue (qKey l q)).cqid := hm.fields AQueue.cqid (fun _ _ => rfl) _
  have hfull : v.cqFull l (s.queue (qKey l q)).cqid = false := by
    rw [← h.room]
    simp only [State.cqFull, hm.fields AQueue.cqSize (fun _ _ => rfl), hm.fields AQueue.cqWritten (fun _ _ => rfl),
      hm.fields AQueue.cqHead (fun _ _ => rfl)]
  have hgo : ¬ (c'.noCq && c'.status == 0 || (v.queue (qKey l (s.queue (qKey l q)).cqid)).st == .off
      || (v.line l).st == .failed) = true := by
    simp [hasked, hm.fields AQueue.st (fun _ _ => rfl), h.on, (hm.writable h.slot).alive]
  unfold State.tryCompletion
  simp only [hcqid, if_neg hgo, hfull, Bool.false_eq_true, if_false]

omit hasked in
theorem completed_of_marks : Completed s ((v.writeCompletion l q c').dropCommand l q c'.seq) l q c'.seq
    (s.completionWords l q c') := by
  have hslot := hm.cqSlot
  have hcompleted := completed_writeCompletion (c := c') (hslot.symm ▸ hm.writable h.slot)
  generalize (v.writeCompletion l q c').dropCommand l q c'.seq = t at hcompleted
  obtain ⟨hentry, houtside, hlength, hwritten, hrunning, hothers, hhead, hfetched, hframe⟩ := hcompleted
  have hseen (a : Nat) : seen v a = seen s a := hm.keeps (seen · a) fun _ _ => rfl
  have hgranule (g : Nat) : v.granule g = s.granule g := hm.keeps (State.granule · g) fun _ _ => rfl
  rw [hslot] at hentry houtside
  rw [hm.completionWords] at hentry
  refine ⟨hentry, fun a ha hout => (houtside a ha hout).trans (hseen a), fun g hg hlen => hlength g hg (hgranule g ▸ hlen), ?_, ?_,
    fun k hk => ?_, ?_, ?_, ?_⟩
  · rwa [hm.fields AQueue.cqid (fun _ _ => rfl), hm.fields AQueue.cqWritten (fun _ _ => rfl)] at hwritten
  · rw [hrunning, hm.running]
    exact rest_marked (c := c') rfl
  · rw [hothers k hk, hm.others hk]
  · rw [hhead, hm.fields AQueue.h (fun _ _ => rfl)]
  · rw [hfetched, hm.fields AQueue.fetched (fun _ _ => rfl)]
  · exact hframe.trans (hm.keeps uncompleted fun _ _ => rfl)

include hseq hdone in
theorem flushCq_of_marks : v.flushCq l (s.queue (qKey l q)).cqid = (v.writeCompletion l q c').dropCommand l q c'.seq := by
  have hcompleted := completed_of_marks h hm
  have htry := tryCompletion_of_marks h hm hasked
  generalize (v.writeCompletion l q c').dropCommand l q c'.seq = t at hcompleted htry
  have hkey {p : Nat} (hp : p ≠ q) : qKey l p ≠ qKey l q := by
    unfold qKey
    omega
  have hmarked := done_marked (c' := c') h.one (h.settled q h.small) hdone
  rw [← hseq, ← hm.running] at hmarked
  have hmember : q ∈ v.lineQueues l := by
    refine mem_lineQueues h.small fun hnone => ?_
    rw [hnone] at hmarked
    cases hmarked
  rw [flushCq_eq]
  refine foldl_of_one ?_ (fun p hp hne => flushOne_of_settled ?_ _) (fun p hp => flushOne_of_settled ?_ _) hmember
  · rw [flushOne, if_pos (hm.fields AQueue.cqid (fun _ _ => rfl) _), hmarked]
    exact htry
  · rw [hm.others (hkey hne)]
    exact h.settled p (lt_of_mem_lineQueues hp)
  · by_cases hpq : p = q
    · rw [hpq, hcompleted.running]
      exact fun d hd => h.settled q h.small d (List.mem_of_mem_filter hd)
    · rw [hcompleted.others _ (hkey hpq)]
      exact h.settled p (lt_of_mem_lineQueues hp)

end

/-- A command that can complete does. -/
theorem completed_complete {s : State} {l q : Nat} {c : ACmd} (h : Completes s l q c) (status : Nat) (result : Word)
    (poison : Bool) : Completed s (s.complete l q c.seq status result poison) l q c.seq
      (s.completionWords l q (completed s c status result poison)) := by
  obtain ⟨c', hc'⟩ : ∃ c', completed s c status result poison = c' := ⟨_, rfl⟩
  have hseq : c'.seq = c.seq := by rw [← hc']; rfl
  have hdone : c'.done = true := by rw [← hc']; rfl
  have hasked : c'.noCq = false := by rw [← hc']; exact h.asked
  have heq : s.complete l q c.seq status result poison
      = (s.modQueue (qKey l q) fun x => { x with running := marked c.seq c' x.running }).flushCq l (s.queue (qKey l q)).cqid := by
    unfold State.complete
    rw [find_of_one h.one (h.settled q h.small), ← hc']
    rfl
  obtain ⟨v, hv⟩ : ∃ v, (s.modQueue (qKey l q) fun x => { x with running := marked c.seq c' x.running }) = v := ⟨_, rfl⟩
  have hm : Marks s v l q c' :=
    ⟨fun k => by rw [← hv, queue_modQueue, hseq], fun qs => by rw [← hv]; rfl⟩
  rw [heq, hv, hc', flushCq_of_marks h hm hseq hdone hasked, ← hseq]
  exact completed_of_marks h hm

end Sys2Proof.Proofs
end

section
/-!
PROOFS. A command that its queue dispatches and that completes in the same step (R316, R322).
-/
namespace Sys2Proof.Proofs

open Sys2Proof Sys2Proof.Machine Sys2Proof.Safety Sys2Proof.Laws

/-- Between `s` and `t` the queue keyed `k` and what completions read of others have stayed. -/
structure QueuesKept (s t : State) (l k : Nat) : Prop where
  own : t.queue k = s.queue k
  fields : ∀ j, ({ t.queue j with running := [] } : AQueue) = { s.queue j with running := [] }
  settled : Settled s l → Settled t l
  time : t.time = s.time

theorem queuesKept_of_eq {s t : State} (hq : t.queues = s.queues) (ht : t.time = s.time) (l k : Nat) : QueuesKept s t l k := by
  have hqueue (j : Nat) : t.queue j = s.queue j := by rw [State.queue, hq, State.queue]
  refine ⟨hqueue k, fun j => by rw [hqueue], fun h p hp d hd => ?_, ht⟩
  rw [hqueue] at hd
  exact h p hp d hd

theorem QueuesKept.field {s t : State} {l k : Nat} (h : QueuesKept s t l k) {α : Type} (g : AQueue → α)
    (hg : ∀ x r, g { x with running := r } = g x) (j : Nat) : g (t.queue j) = g (s.queue j) :=
  (hg _ []).symm.trans ((congrArg g (h.fields j)).trans (hg _ []))

/-- A command is completed by words that do not depend on its mark. -/
theorem completionWords_completed (s : State) (l q : Nat) (c : ACmd) (n status : Nat) (result : Word) (poison : Bool) :
    s.completionWords l q (completed s { c with since := n } status result poison)
      = s.completionWords l q { c with doneAt := s.time, status := status, result := result, poison := poison } := rfl

/-- From `s2` to `t`, a command of queue `q` that was dispatched in `s0` has completed. -/
structure Answers (s s0 s2 t : State) (l q : Nat) (c : ACmd) (status : Nat) (result : Word) (poison : Bool) : Prop where
  answered : Answered s s0 t l q c status result poison
  outside : SeenOutside s2 t (cqSlot s l q) 32
  length : ∀ g < 2 ^ 46, (s2.granule g).1.length = 64 → (t.granule g).1.length = 64
  frame : uncompleted t = uncompleted s2

theorem Answers.keeps {s s0 s2 t : State} {l q : Nat} {c : ACmd} {status : Nat} {result : Word} {poison : Bool}
    (h : Answers s s0 s2 t l q c status result poison) {α : Type} (p : State → α) (hp : ∀ x, p (uncompleted x) = p x) :
    p t = p s2 := (hp t).symm.trans ((congrArg p h.frame).trans (hp s2))

/-- The words of a completion depend on what its queues keep. -/
theorem completionWords_of_kept {s t : State} {l q k : Nat} (h : QueuesKept s t l k) (c : ACmd) :
    t.completionWords l q c = s.completionWords l q c := by
  simp only [State.completionWords, h.field AQueue.cqid (fun _ _ => rfl), h.field AQueue.cqWritten (fun _ _ => rfl),
    h.field AQueue.cqSize (fun _ _ => rfl), h.field AQueue.h (fun _ _ => rfl)]

theorem cqSlot_of_kept {s t : State} {l q k : Nat} (h : QueuesKept s t l k) : cqSlot t l q = cqSlot s l q := by
  simp only [cqSlot, h.field AQueue.cqid (fun _ _ => rfl), h.field AQueue.cqBase (fun _ _ => rfl),
    h.field AQueue.cqWritten (fun _ _ => rfl), h.field AQueue.cqSize (fun _ _ => rfl)]

theorem cqFull_of_kept {s t : State} {l k : Nat} (h : QueuesKept s t l k) (j : Nat) : t.cqFull l j = s.cqFull l j := by
  simp only [State.cqFull, h.field AQueue.cqSize (fun _ _ => rfl), h.field AQueue.cqWritten (fun _ _ => rfl),
    h.field AQueue.cqHead (fun _ _ => rfl)]

section
variable {s s0 : State} {l q : Nat} {c : ACmd} (h : Dispatched s s0 l q c)
include h

theorem cqSlot_of_dispatched : cqSlot s0 l q = cqSlot s l q := by
  simp only [cqSlot, h.queueKeeps AQueue.cqid (fun _ _ _ _ _ _ => rfl), h.queueKeeps AQueue.cqBase (fun _ _ _ _ _ _ => rfl),
    h.queueKeeps AQueue.cqWritten (fun _ _ _ _ _ _ => rfl), h.queueKeeps AQueue.cqSize (fun _ _ _ _ _ _ => rfl)]

theorem cqFull_of_dispatched (j : Nat) : s0.cqFull l j = s.cqFull l j := by
  simp only [State.cqFull, h.queueKeeps AQueue.cqSize (fun _ _ _ _ _ _ => rfl),
    h.queueKeeps AQueue.cqWritten (fun _ _ _ _ _ _ => rfl), h.queueKeeps AQueue.cqHead (fun _ _ _ _ _ _ => rfl)]

theorem running_of_dispatched :
    (s0.queue (qKey l q)).running = (s.queue (qKey l q)).running ++ [{ c with since := s.time }] := by
  obtain ⟨w, n, hq⟩ := h.queue
  rw [hq]

theorem settled_of_dispatched (hs : Settled s l) (hfresh : c.done = false) : Settled s0 l := by
  intro p hp d hd
  by_cases hk : qKey l p = qKey l q
  · rw [hk, running_of_dispatched h] at hd
    rcases List.mem_append.mp hd with hd | hd
    · exact hs p hp d (hk.symm ▸ hd)
    · rw [List.mem_singleton.mp hd]
      exact hfresh
  · rw [h.others _ hk] at hd
    exact hs p hp d hd

end

section
variable {s r s2 : State} {l : Nat} {q : QueueId} {c : ACmd} (h : Dispatches s r l q c)
  (hkept : QueuesKept (r.take l q c) s2 l (qKey l q)) (hslot : Writable s2 l (cqSlot s l q) 32)
include h hkept hslot

theorem completes_of_dispatches : Completes s2 l q { c with since := s.time } := by
  have hd := dispatched_of_dispatches h
  obtain ⟨hasked, hfresh, hon, hroom, -, hsettled⟩ := h.answer
  have hcqid : (s2.queue (qKey l q)).cqid = (s.queue (qKey l q)).cqid :=
    (hkept.field AQueue.cqid (fun _ _ => rfl) _).trans (hd.queueKeeps AQueue.cqid (fun _ _ _ _ _ _ => rfl) _)
  refine ⟨q.isLt, ?_, hasked, ?_, ?_, ?_, hkept.settled (settled_of_dispatched hd (settled_of_lineQueues hsettled) hfresh)⟩
  · have hnone : (s.queue (qKey l q)).running.filter (fun d => d.seq == c.seq) = [] :=
      List.filter_eq_nil_iff.mpr fun d hd => by simpa using h.alone d hd
    rw [hkept.own, running_of_dispatched hd, List.filter_append]
    simp [hnone]
  · rw [hcqid, hkept.field AQueue.st (fun _ _ => rfl), hd.queueKeeps AQueue.st (fun _ _ _ _ _ _ => rfl)]
    exact hon
  · rw [hcqid, cqFull_of_kept hkept, cqFull_of_dispatched hd]
    exact hroom
  · rw [cqSlot_of_kept hkept, cqSlot_of_dispatched hd]
    exact hslot

theorem answers_complete (status : Nat) (result : Word) (poison : Bool) :
    Answers s (r.take l q c) s2 (s2.complete l q c.seq status result poison) l q c status result poison
      ∧ ((s2.complete l q c.seq status result poison).queue (qKey l q)).fetched = [] := by
  have hd := dispatched_of_dispatches h
  have hslots : cqSlot s2 l q = cqSlot s l q := (cqSlot_of_kept hkept).trans (cqSlot_of_dispatched hd)
  have hcompleted := completed_complete (completes_of_dispatches h hkept hslot) status result poison
  have hseq : ({ c with since := s.time } : ACmd).seq = c.seq := rfl
  rw [hseq, completionWords_completed, completionWords_of_kept hkept, hkept.time,
    hd.keeps State.time fun _ _ _ => rfl] at hcompleted
  generalize s2.complete l q c.seq status result poison = t at hcompleted
  obtain ⟨hentry, houtside, hlength, hwritten, hrunning, -, hhead, hfetched, hframe⟩ := hcompleted
  rw [hslots] at hentry houtside
  refine ⟨⟨⟨hentry, ?_, ?_, ?_⟩, houtside, hlength, hframe⟩, ?_⟩
  · rw [hkept.field AQueue.cqid (fun _ _ => rfl), hkept.field AQueue.cqWritten (fun _ _ => rfl),
      hd.queueKeeps AQueue.cqid (fun _ _ _ _ _ _ => rfl), hd.queueKeeps AQueue.cqWritten (fun _ _ _ _ _ _ => rfl)] at hwritten
    exact hwritten
  · rw [hrunning, hkept.own, running_of_dispatched hd, List.filter_append]
    simp
  · rw [hhead, hkept.own]
  · obtain ⟨w, n, hq⟩ := hd.queue
    rw [hfetched, hkept.own, hq]

omit hkept in
/-- A dispatched command by the state in which it completes. -/
theorem gives_of_answer {s0 : State} (hs0 : r.take l q c = s0) (hkept : QueuesKept s0 s2 l (qKey l q)) {i : Instr}
    {op status : Nat} {result : Word} {poison : Bool} {f : State → ACmd → State} {P : State → Prop}
    (hexec : exec i s = runU (fun s => s.dispatch l q op f) s) (hop : c.opcode = op)
    (hf : f s0 c = s2.complete l q c.seq status result poison) (hm : s2.misuse = none)
    (hP : ∀ t, Answers s s0 s2 t l q c status result poison → P (t.keeping s)) : Gives i s P := by
  subst hs0
  obtain ⟨hanswers, hempty⟩ := answers_complete h hkept hslot status result poison
  rw [← hf] at hanswers hempty
  exact gives_of_runU hexec (dispatch_eq h hop f hempty) ((hanswers.keeps State.misuse fun _ => rfl).trans hm) (hP _ hanswers)

end

end Sys2Proof.Proofs
end

section
/-!
PROOFS. NOP, LAUNCH and XFER of Apori queues (R178, R247, R319).
-/
namespace Sys2Proof.Proofs

open Sys2Proof Sys2Proof.Machine Sys2Proof.Safety Sys2Proof.Laws

section
variable {s r : State} {l : Nat} {q : QueueId} {c : ACmd} (h : Dispatches s r l q c)
include h

/-- A queue that dispatches is one of a RUNNING Line. -/
theorem running_of_dispatches : (s.line l).st = .running := by
  have hnext := h.next
  unfold State.nextCommand at hnext
  extract_lets x at hnext
  split at hnext
  next hgo =>
    have hfetch : s.fetches l q = true := (Bool.and_eq_true_iff.mp hgo).1
    unfold State.fetches at hfetch
    exact eq_of_beq (Bool.and_eq_true_iff.mp hfetch).1
  next => cases hnext

/-- The slot of the completion can be written once the command has been dispatched. -/
theorem slot_of_dispatches : Writable (r.take l q c) l (cqSlot s l q) 32 :=
  writable_of_unworked (unworked_of_dispatched (dispatched_of_dispatches h)) h.answer.slot

theorem seen_of_dispatches (x : Nat) : seen (r.take l q c) x = seen s x :=
  seen_of_unworked (unworked_of_dispatched (dispatched_of_dispatches h)) x

theorem misuse_of_dispatches : (r.take l q c).misuse = none :=
  (dispatched_of_dispatches h).keeps State.misuse fun _ _ _ => rfl

end

/-- What a command leaves of memory once it has completed. -/
theorem Answers.seenOutside {s s0 s2 t : State} {l q : Nat} {c : ACmd} {status : Nat} {result : Word} {poison : Bool}
    (h : Answers s s0 s2 t l q c status result poison) {x : State} (hx : ∀ a, seen s2 a = seen x a) :
    SeenOutside x t (cqSlot s l q) 32 := fun a ha hout => (h.outside a ha hout).trans (hx a)

theorem leaderOf_atPlace {s : State} {l i b : Nat} (h : s.atPlace l i = some b) : s.leaderOf b = l :=
  eq_of_beq (List.mem_filter.mp (List.mem_of_getElem? h)).2

theorem lowBits_frame (s : State) (a n : Nat) : ∃ f, (s.lowBits a n).2 = { s with freeCtr := f } := by
  unfold State.lowBits
  split
  · exact ⟨s.freeCtr, rfl⟩
  · exact ⟨_, rfl⟩

section
variable {s r s0 : State} {l : LineId} {q : QueueId} {c : ACmd} (h : Dispatches s r l q c) (hs0 : r.take l q c = s0)
include h hs0

theorem aporiNop_gives (hop : c.opcode = 0) : Gives (.aporiNop l q) s fun t =>
    Answered s s0 t l q c 0 0 false ∧ SeenOutside s t (cqSlot s l q) 32 ∧ t.ponds = s.ponds ∧ t.chans = s.chans := by
  have hd := hs0 ▸ dispatched_of_dispatches h
  refine gives_of_answer (f := fun s c => s.complete l q c.seq 0) h (hs0 ▸ slot_of_dispatches h) hs0
    (queuesKept_of_eq rfl rfl _ _) rfl hop rfl (hs0 ▸ misuse_of_dispatches h)
    fun t ht => ⟨ht.answered, ht.seenOutside (hs0 ▸ seen_of_dispatches h), ?_, ?_⟩
  · exact (ht.keeps State.ponds fun _ => rfl).trans (hd.keeps State.ponds fun _ _ _ => rfl)
  · exact (ht.keeps State.chans fun _ => rfl).trans (hd.keeps State.chans fun _ _ _ => rfl)

/-! LAUNCH. -/

theorem cmdLaunch_of_room {b u : Nat} {la : Launch} (hplace : s.atPlace l (c.arg0.field 0 3) = some b)
    (hu : b * 8 + c.arg0.field 3 3 = u) (hla : launchOf (payloadWords c.payload 8) = la)
    (hroom : (s.pond u).launches.length < 8) (hcls : (entryWord c.payload 0).field 48 2 ≠ 3) :
    s0.cmdLaunch l q c = ((s0.lowBits la.recVa 32).2.modPond u fun p =>
      { p with launches := p.launches ++ [{ la with recVa := (s0.lowBits la.recVa 32).1 }] }).complete l q c.seq 0 := by
  have hd := hs0 ▸ dispatched_of_dispatches h
  have hfield : c.arg0.field 3 3 < 8 := Nat.mod_lt _ (by decide)
  have hbasin : u / 8 = b := by omega
  have hpond : s0.pond u = s.pond u := hd.keeps (State.pond · u) fun _ _ _ => rfl
  have hst : s0.lineStOf (u / 8) ≠ .stopping := by
    have hleader : s.leaderOf b = l := leaderOf_atPlace hplace
    have hrunning : (s.line (s.leaderOf b)).st = .running := by rw [hleader]; exact running_of_dispatches h
    have hstate : s0.lineStOf (u / 8) = s.lineStOf b := by
      rw [hbasin]
      exact hd.keeps (State.lineStOf · b) fun _ _ _ => rfl
    rw [hstate, State.lineStOf, if_pos (by rw [hleader]; exact l.isLt), hrunning]
    exact nofun
  have hat : s0.atPlace l (c.arg0.field 0 3) = some b :=
    (hd.keeps (State.atPlace · l (c.arg0.field 0 3)) fun _ _ _ => rfl).trans hplace
  have hundef : s0.launchUndef (payloadWords c.payload 8) = s0 := by
    have hfirst : (payloadWords c.payload 8).getD 0 0 = entryWord c.payload 0 := rfl
    have hlisted : ((entryWord c.payload 0).field 48 2 == 3) = false := beq_eq_false_iff_ne.mpr hcls
    rw [State.launchUndef, hfirst, hlisted, undefIf_false]
  unfold State.cmdLaunch
  simp only [hat, hundef, hu, hla, enterLaunch_of_room la hst (by rw [hpond]; exact hroom)]
  rfl

theorem launch_gives {b u : Nat} {la : Launch} (hop : c.opcode = 1) (hplace : s.atPlace l (c.arg0.field 0 3) = some b)
    (hu : b * 8 + c.arg0.field 3 3 = u) (hla : launchOf (payloadWords c.payload 8) = la)
    (hroom : (s.pond u).launches.length < 8) (hcls : (entryWord c.payload 0).field 48 2 ≠ 3) :
    Gives (.launch l q) s fun t => Answered s s0 t l q c 0 0 false ∧ SeenOutside s t (cqSlot s l q) 32
      ∧ t.pond u = { s.pond u with launches := (s.pond u).launches ++ [{ la with recVa := (s0.lowBits la.recVa 32).1 }] }
      ∧ ∀ k, k ≠ u → t.pond k = s.pond k := by
  have hd := hs0 ▸ dispatched_of_dispatches h
  have hcmd := cmdLaunch_of_room h hs0 hplace hu hla hroom hcls
  have hpond (k : Nat) : s0.pond k = s.pond k := hd.keeps (State.pond · k) fun _ _ _ => rfl
  obtain ⟨f, hf⟩ := lowBits_frame s0 la.recVa 32
  have hlow (k : Nat) : (s0.lowBits la.recVa 32).2.pond k = s.pond k := by
    rw [hf]
    exact hpond k
  obtain ⟨s2, hs2⟩ : ∃ s2, ((s0.lowBits la.recVa 32).2.modPond u fun p =>
    { p with launches := p.launches ++ [{ la with recVa := (s0.lowBits la.recVa 32).1 }] }) = s2 := ⟨_, rfl⟩
  have hrest {α : Type} (p : State → α) (hp : ∀ x ps n, p { x with ponds := ps, freeCtr := n } = p x) : p s2 = p s0 := by
    rw [← hs2, hf]
    exact hp s0 _ f
  rw [hs2] at hcmd
  refine gives_of_answer (f := fun s c => s.cmdLaunch l q c) h
    (writable_of_unworked (hrest unworked fun _ _ _ => rfl) (hs0 ▸ slot_of_dispatches h)) hs0
    (queuesKept_of_eq (hrest State.queues fun _ _ _ => rfl) (hrest State.time fun _ _ _ => rfl) _ _) rfl hop hcmd
    ((hrest State.misuse fun _ _ _ => rfl).trans (hs0 ▸ misuse_of_dispatches h))
    fun t ht => ⟨ht.answered, ht.seenOutside fun a => ?_, ?_, fun k hk => ?_⟩
  · exact (hrest (seen · a) fun _ _ _ => rfl).trans ((hs0 ▸ seen_of_dispatches h) a)
  · refine (ht.keeps (State.pond · u) fun _ => rfl).trans (show s2.pond u = _ from ?_)
    rw [← hs2, pond_modPond_self, hlow]
  · refine (ht.keeps (State.pond · k) fun _ => rfl).trans (show s2.pond k = _ from ?_)
    rw [← hs2, pond_modPond_ne _ _ hk, hlow]

/-! XFER. -/

theorem cmdAsid_of_dispatched : s0.cmdAsid l q c = s.cmdAsid l q c := by
  have hd := hs0 ▸ dispatched_of_dispatches h
  rw [State.cmdAsid, hd.queueKeeps AQueue.asid fun _ _ _ _ _ _ => rfl, State.cmdAsid]

theorem queueCls_of_dispatched : s0.queueCls l q = s.queueCls l q := by
  have hd := hs0 ▸ dispatched_of_dispatches h
  have hcls : (s0.queue (qKey l q)).cls = (s.queue (qKey l q)).cls := hd.queueKeeps AQueue.cls (fun _ _ _ _ _ _ => rfl) _
  have hat : s0.atPlace l (q / 512) = s.atPlace l (q / 512) := hd.keeps (State.atPlace · l (q / 512)) fun _ _ _ => rfl
  have htt : s0.tt = s.tt := hd.keeps State.tt fun _ _ _ => rfl
  simp only [State.queueCls, hcls, hat, htt]

/-- The transfer that an XFER asks for. -/
def xferOf (s : State) (l q : Nat) (c : ACmd) : Xfer :=
  { words := payloadWords c.payload 17, asid := s.cmdAsid l q c, job := c.job, cls := s.queueCls l q, src := .command }

/-- The channel takes the transfer `x` in a state `y` that the channel's checks have left. -/
theorem xfer_gives_of_accepted {b ch : Nat} {x : Xfer} {y : State} (hop : c.opcode = 2)
    (hplace : s.atPlace l (c.arg0.field 0 3) = some b) (hch : b * 16 + c.arg0.field 3 4 = ch) (hroom : s.chanRoom ch = true)
    (hacc : s0.acceptXfer ch (payloadWords c.payload 17) (s.cmdAsid l q c) c.job (s.queueCls l q) .command
      (s.chanWho ch (s.cmdAsid l q c)) = (none, y.modChan ch fun q => { queue := q.queue ++ [x] }))
    (hqueues : y.queues = s0.queues) (htime : y.time = s0.time) (hchans : y.chans = s0.chans) (hm : y.misuse = none)
    (hslot : Writable y l (cqSlot s l q) 32) : Gives (.xfer l q) s fun t =>
      Answered s s0 t l q c 0 0 false ∧ SeenOutside y t (cqSlot s l q) 32
        ∧ (t.chan ch).queue = (s.chan ch).queue ++ [x] ∧ ∀ k, k ≠ ch → t.chan k = s.chan k := by
  have hd := hs0 ▸ dispatched_of_dispatches h
  have hchan (k : Nat) : y.chan k = s.chan k := by
    have hsame : y.chan k = s0.chan k := by rw [State.chan, hchans, State.chan]
    exact hsame.trans (hd.keeps (State.chan · k) fun _ _ _ => rfl)
  obtain ⟨s2, hs2⟩ : ∃ s2, (y.modChan ch fun q => { queue := q.queue ++ [x] }) = s2 := ⟨_, rfl⟩
  have hrest {α : Type} (p : State → α) (hp : ∀ z cs, p { z with chans := cs } = p z) : p s2 = p y := by
    rw [← hs2]
    exact hp y _
  have hcmd : s0.cmdXfer l q c = s2.complete l q c.seq 0 := by
    have hat : s0.atPlace l (c.arg0.field 0 3) = some b :=
      (hd.keeps (State.atPlace · l (c.arg0.field 0 3)) fun _ _ _ => rfl).trans hplace
    have hgo : s0.chanRoom ch = true := (hd.keeps (State.chanRoom · ch) fun _ _ _ => rfl).trans hroom
    have hwho : s0.chanWho ch (s.cmdAsid l q c) = s.chanWho ch (s.cmdAsid l q c) :=
      hd.keeps (State.chanWho · ch (s.cmdAsid l q c)) fun _ _ _ => rfl
    unfold State.cmdXfer
    simp only [hat, hch, hgo, if_true, cmdAsid_of_dispatched h hs0, queueCls_of_dispatched h hs0, hwho, hacc, hs2]
  refine gives_of_answer (f := fun s c => s.cmdXfer l q c) h (writable_of_unworked (hrest unworked fun _ _ => rfl) hslot) hs0
    (queuesKept_of_eq ((hrest State.queues fun _ _ => rfl).trans hqueues) ((hrest State.time fun _ _ => rfl).trans htime) _ _)
    rfl hop hcmd ((hrest State.misuse fun _ _ => rfl).trans hm)
    fun t ht => ⟨ht.answered, ht.seenOutside fun a => hrest (seen · a) fun _ _ => rfl, ?_, fun k hk => ?_⟩
  · refine (congrArg Channel.queue (ht.keeps (State.chan · ch) fun _ => rfl)).trans (show (s2.chan ch).queue = _ from ?_)
    rw [← hs2, chan_modChan_self, hchan]
  · refine (ht.keeps (State.chan · k) fun _ => rfl).trans (show s2.chan k = _ from ?_)
    rw [← hs2, chan_modChan_ne _ _ hk, hchan]

omit h hs0 in
theorem lowBitsOf_of_aligned {t : State} {ws : List Word} {i lo n k : Nat} (ha : (ws.getD i 0).field lo n % k = 0) :
    t.lowBitsOf ws [(i, lo, n, k)] = (ws, t) := if_pos ha

theorem xfer_gives_bare {b ch : Nat} (hop : c.opcode = 2) (hplace : s.atPlace l (c.arg0.field 0 3) = some b)
    (hch : b * 16 + c.arg0.field 3 4 = ch) (hroom : s.chanRoom ch = true)
    (hrec : ((xferOf s l q c).w 14).field 0 57 = 0) : Gives (.xfer l q) s fun t =>
      Answered s s0 t l q c 0 0 false ∧ SeenOutside s t (cqSlot s l q) 32
        ∧ (t.chan ch).queue = (s.chan ch).queue ++ [xferOf s l q c] ∧ ∀ k, k ≠ ch → t.chan k = s.chan k := by
  have hlow : s0.lowBitsOf (payloadWords c.payload 17) [(14, 0, 57, 64)] = (payloadWords c.payload 17, s0) :=
    lowBitsOf_of_aligned (congrArg (· % 64) hrec)
  have hacc : s0.acceptXfer ch (payloadWords c.payload 17) (s.cmdAsid l q c) c.job (s.queueCls l q) .command
      (s.chanWho ch (s.cmdAsid l q c)) = (none, s0.modChan ch fun q' => { queue := q'.queue ++ [xferOf s l q c] }) := by
    unfold State.acceptXfer
    rw [hlow]
    exact if_pos hrec
  refine gives_mono (xfer_gives_of_accepted h hs0 hop hplace hch hroom hacc rfl rfl rfl (hs0 ▸ misuse_of_dispatches h)
    (hs0 ▸ slot_of_dispatches h)) fun t ht => ?_
  obtain ⟨hanswered, hseen, hchans⟩ := ht
  exact ⟨hanswered, fun a ha hout => (hseen a ha hout).trans ((hs0 ▸ seen_of_dispatches h) a), hchans⟩

theorem xfer_gives_recorded {b ch pa : Nat} {s1 y : State} {ws : List Word} (hop : c.opcode = 2)
    (hplace : s.atPlace l (c.arg0.field 0 3) = some b) (hch : b * 16 + c.arg0.field 3 4 = ch) (hroom : s.chanRoom ch = true)
    (hlow : s0.lowBitsOf (payloadWords c.payload 17) [(14, 0, 57, 64)] = (ws, y)) (hrec : (ws.getD 14 0).field 0 57 ≠ 0)
    (hx : y.xlateFor (s.chanWho ch (s.cmdAsid l q c)) ((ws.getD 14 0).field 0 57) false true = (.ok pa, s1))
    (hm : s1.misuse = none) (hslot : Writable s1 l (cqSlot s l q) 32) : Gives (.xfer l q) s fun t =>
      Answered s s0 t l q c 0 0 false ∧ SeenOutside s1 t (cqSlot s l q) 32
        ∧ (t.chan ch).queue = (s.chan ch).queue ++ [{ xferOf s l q c with words := ws, recDpa := some pa }]
        ∧ ∀ k, k ≠ ch → t.chan k = s.chan k := by
  have hacc : s0.acceptXfer ch (payloadWords c.payload 17) (s.cmdAsid l q c) c.job (s.queueCls l q) .command
      (s.chanWho ch (s.cmdAsid l q c)) = (none, s1.modChan ch fun q' => { queue := q'.queue ++ [{ xferOf s l q c with
        words := ws, recDpa := some pa }] }) := by
    unfold State.acceptXfer
    rw [hlow]
    refine (if_neg hrec).trans ?_
    dsimp only [Xfer.w]
    rw [hx]
    rfl
  have hkept {α : Type} {p : State → α} (hp : KeptByReads p) : p s1 = p s0 :=
    (hp.of_xlateFor hx).trans ((congrArg (p ·.2) hlow).symm.trans (hp.lowBitsOf s0 _ _))
  exact xfer_gives_of_accepted h hs0 hop hplace hch hroom hacc
    (hkept (keptByReads_of_unaccessed (p := State.queues) fun _ => rfl))
    (hkept (keptByReads_of_unaccessed (p := State.time) fun _ => rfl))
    (hkept (keptByReads_of_unaccessed (p := State.chans) fun _ => rfl)) hm hslot

end

end Sys2Proof.Proofs
end

section
/-!
PROOFS. READ_INLINE, WRITE_INLINE and XLAT_FENCE (R255, R275, R283, R319).
-/
namespace Sys2Proof.Proofs

open Sys2Proof Sys2Proof.Machine Sys2Proof.Safety Sys2Proof.Laws

/-! An access within a page. -/

theorem pagePieces_of_page {a n : Nat} (hn : 0 < n) (h : a % 4096 + n ≤ 4096) : pagePieces a n = [(a, n)] := by
  have hone : (a + n + 4095) / 4096 - a / 4096 = 1 := by omega
  have hlo : max a (a / 4096 * 4096) = a := by omega
  have hhi : min (a + n) ((a / 4096 + 1) * 4096) - a = n := by omega
  simp [pagePieces, Nat.pos_iff_ne_zero.mp hn, hone, hlo, hhi]

theorem pieces_of_two {a n : Nat} (h : 64 < a % 64 + n) (hn : n ≤ 64) :
    pieces a n = [(a, 64 - a % 64), (a + (64 - a % 64), n - (64 - a % 64))] := by
  obtain ⟨b, o, ho, ha⟩ : ∃ b o, o < 64 ∧ a = 64 * b + o :=
    ⟨a / 64, a % 64, Nat.mod_lt _ (by decide), (Nat.div_add_mod a 64).symm⟩
  have hdiv : a / 64 = b := by omega
  have hmod : a % 64 = o := by omega
  have htwo : (a + n + 63) / 64 - b = 2 := by omega
  have hlo : max a (b * 64) = a := Nat.max_eq_left (by omega)
  have hhi : min (a + n) ((b + 1) * 64) = (b + 1) * 64 := Nat.min_eq_right (by omega)
  have hlo' : max a ((b + 1) * 64) = (b + 1) * 64 := Nat.max_eq_right (by omega)
  have hhi' : min (a + n) ((b + 1 + 1) * 64) = a + n := Nat.min_eq_left (by omega)
  have hfirst : (b + 1) * 64 - a = 64 - o := by omega
  have hnext : (b + 1) * 64 = a + (64 - o) := by omega
  have hrest : a + n - (b + 1) * 64 = n - (64 - o) := by omega
  rw [pieces, if_neg (by omega), hdiv, htwo, hmod]
  simp only [List.range_succ, List.range_zero, List.nil_append, List.map_cons, List.map_nil, Nat.add_zero,
    List.cons_append, hlo, hhi, hlo', hhi', hfirst, hrest]
  rw [hnext]

/-! A read of readable bytes. -/

theorem loadPiece_of_readable {s : State} {l a n i m : Nat} (h : Readable s l a n) (hi : i + m ≤ n) (hm : 0 < m)
    (hfit : (a + i) % 64 + m ≤ 64) :
    s.loadPiece l (a + i) m = ({ data := (List.range m).map fun j => seen s (a + i + j) }, s) := by
  obtain ⟨hown, hgood, hlen, hpoison, hquiet⟩ := h i (by omega)
  rw [loadPiece_of_quiet m hown hgood hquiet, granule_bytes hlen hfit, hpoison]

/-- A read of at most a granule's bytes finds them, and leaves the state. -/
theorem load_of_readable {s : State} {l a n : Nat} (h : Readable s l a n) (hn : 0 < n) (hshort : n ≤ 64) :
    s.load l a n = ({ data := (List.range n).map fun j => seen s (a + j) }, s) := by
  unfold State.load
  by_cases hfit : a % 64 + n ≤ 64
  · rw [pieces_of_granule ⟨hn, hfit⟩]
    have hload := loadPiece_of_readable (i := 0) (m := n) h (by omega) hn hfit
    simp only [Nat.add_zero] at hload
    simp only [List.foldl_cons, List.foldl_nil, hload, List.nil_append, Bool.or_self]
  · obtain ⟨k, hk⟩ : ∃ k, 64 - a % 64 = k := ⟨_, rfl⟩
    rw [pieces_of_two (by omega) hshort, hk]
    have hfirst := loadPiece_of_readable (i := 0) (m := k) h (by omega) (by omega) (by omega)
    have hsecond := loadPiece_of_readable (i := k) (m := n - k) h (by omega) (by omega) (by omega)
    have hbytes : (List.range n).map (fun j => seen s (a + j))
        = (List.range k).map (fun j => seen s (a + j)) ++ (List.range (n - k)).map fun j => seen s (a + k + j) := by
      rw [show n = k + (n - k) by omega, List.range_add, List.map_append, List.map_map]
      simp [Function.comp_def, Nat.add_assoc]
    simp only [Nat.add_zero] at hfirst
    simp only [List.foldl_cons, List.foldl_nil, hfirst, hsecond, hbytes, List.nil_append, Bool.or_self]

section
variable {s r s0 s1 : State} {l : LineId} {q : QueueId} {c : ACmd} (h : Dispatches s r l q c) (hs0 : r.take l q c = s0)
include h hs0

/-! READ_INLINE. -/

theorem readInline_gives {pa : Nat} (hop : c.opcode = 4) (hpage : c.arg0.field 0 57 % 4096 + 8 ≤ 4096)
    (hx : s0.xlateFor (s0.cmdWho l q c) (c.arg0.field 0 57) true false = (.ok pa, s1)) (hm : s1.misuse = none)
    (hslot : Writable s1 l (cqSlot s l q) 32) (hread : Readable s1 l pa 8) : Gives (.readInline l q) s fun t =>
      Answered s s0 t l q c 0 (wordAt s1 pa) false ∧ SeenOutside s1 t (cqSlot s l q) 32 := by
  have hload : s1.load (s0.cmdWho l q c).l pa 8 = ({ data := (List.range 8).map fun j => seen s1 (pa + j) }, s1) :=
    load_of_readable hread (by decide) (by decide)
  have hvload : s0.vload (s0.cmdWho l q c) (c.arg0.field 0 57) 8
      = (.ok { data := (List.range 8).map fun j => seen s1 (pa + j) }, s1) := by
    unfold State.vload
    rw [pagePieces_of_page (by decide) hpage]
    simp only [List.foldl_cons, List.foldl_nil, hx, hload, List.nil_append, Bool.or_self]
  have hcmd : s0.cmdReadInline l q c = s1.complete l q c.seq 0 (wordAt s1 pa) := by
    rw [State.cmdReadInline, hvload]
    rfl
  refine gives_of_answer (f := fun s c => s.cmdReadInline l q c) h hslot hs0 (queuesKept_of_eq
    ((keptByReads_of_unaccessed (p := State.queues) fun _ => rfl).of_xlateFor hx)
    ((keptByReads_of_unaccessed (p := State.time) fun _ => rfl).of_xlateFor hx) _ _) rfl hop hcmd hm
    fun t ht => ⟨ht.answered, ht.outside⟩

/-! XLAT_FENCE. -/

theorem xlatFence_gives (hop : c.opcode = 9) (hroom : (s.line l).fences.length < 4) : Gives (.xlatFence l q) s fun t =>
    (t.line l).fences = (s.line l).fences ++ [s.cmdFence l q c] ∧ t.mem = s.mem
      ∧ (t.queue (qKey l q)).running = (s.queue (qKey l q)).running ++ [{ c with since := s.time, fenced := true }] := by
  have hd := hs0 ▸ dispatched_of_dispatches h
  have hline : s0.line l = s.line l := hd.keeps (State.line · l) fun _ _ _ => rfl
  have hfence : s0.cmdFence l q c = s.cmdFence l q c := by
    simp only [State.cmdFence, cmdAsid_of_dispatched h hs0]
  obtain ⟨y, hy⟩ : ∃ y, s0.queueFence l (s.cmdFence l q c) = y := ⟨_, rfl⟩
  have hcmd : s0.fenceCommand l q c = y.modQueue (qKey l q) fun x =>
      { x with running := x.running.map fun d => if d.seq = c.seq then { d with fenced := true } else d } := by
    have hgo : s0.fenceRoom l = true := by
      rw [State.fenceRoom, hline]
      exact decide_eq_true hroom
    unfold State.fenceCommand
    rw [if_pos hgo, hfence, hy]
  have hqueue : y.queue (qKey l q) = s0.queue (qKey l q) := by
    rw [← hy]
    rfl
  have hfences : (y.line l).fences = (s.line l).fences ++ [s.cmdFence l q c] := by
    rw [← hy, State.queueFence, line_modLine_self, hline]
  have hmem : y.mem = s.mem := by
    rw [← hy]
    exact hd.keeps State.mem fun _ _ _ => rfl
  have hmisuse : y.misuse = none := by
    rw [← hy]
    exact hd.keeps State.misuse fun _ _ _ => rfl
  have hempty : ((s0.fenceCommand l q c).queue (qKey l q)).fetched = [] := by
    obtain ⟨w, n, hq⟩ := hd.queue
    rw [hcmd, queue_modQueue_self, hqueue, hq]
  have hmarked : ((s.queue (qKey l q)).running ++ [{ c with since := s.time }]).map
      (fun d : ACmd => if d.seq = c.seq then { d with fenced := true } else d)
      = (s.queue (qKey l q)).running ++ [{ c with since := s.time, fenced := true }] := by
    rw [List.map_append, List.map_singleton, if_pos rfl]
    exact congrArg (· ++ _) ((List.map_congr_left fun d hd => if_neg (h.alone d hd)).trans (List.map_id _))
  have hrunning : ((s0.fenceCommand l q c).queue (qKey l q)).running
      = (s.queue (qKey l q)).running ++ [{ c with since := s.time, fenced := true }] := by
    rw [hcmd, queue_modQueue_self]
    dsimp only
    rw [hqueue, running_of_dispatched hd, hmarked]
  subst hs0
  exact gives_of_runU (f := fun s => s.dispatch l q 9 fun s c => s.fenceCommand l q c) rfl
    ((dispatch_eq h hop (fun s c => s.fenceCommand l q c) hempty).trans hcmd) hmisuse
    ⟨hfences, hmem, (congrArg (fun z : State => (z.queue (qKey l q)).running) hcmd).symm.trans hrunning⟩

end

end Sys2Proof.Proofs
end

section
/-!
PROOFS. WRITE_INLINE (R228, R255, R319): the payload reaches its page, and no granule is written poisoned.
-/
namespace Sys2Proof.Proofs

open Sys2Proof Sys2Proof.Machine Sys2Proof.Safety Sys2Proof.Laws

/-! The granules of a block, written with bytes that are not poisoned. -/

/-- Bytes to be written, of which none is poisoned. -/
def Sound (new : List (Option (Byte × Bool))) : Prop := ∀ v q, some (v, q) ∈ new → q = false

theorem sound_granuleOf {ps : List Piece} (h : ∀ p ∈ ps, p.poison = false) (d : Nat) : Sound (granuleOf ps d) := by
  intro v q hmem
  obtain ⟨i, -, hi⟩ := List.mem_map.mp hmem
  obtain ⟨p, hp, hgiven⟩ := List.exists_of_findSome?_eq_some hi
  split_ifs at hgiven
  rw [← (Prod.mk.inj (Option.some.inj hgiven)).2]
  exact h p (List.mem_of_mem_filter hp)

/-- From `s` to `t`, no granules but those for which `w` holds have changed, and what was whole or quiet has stayed so. -/
structure Spared (s t : State) (w : Nat → Prop) : Prop where
  granule : ∀ g < 2 ^ 46, ¬ w g → t.granule g = s.granule g
  length : ∀ g < 2 ^ 46, (s.granule g).1.length = 64 → (t.granule g).1.length = 64
  quiet : ∀ g, Quiet s g → Quiet t g

theorem granule_putGranule_other {s : State} {g k : Nat} {d : List Byte} (p : Bool) (hd : d.length = 64) (hk : k < 2 ^ 46)
    (hne : k ≠ g) : ((s.dropCopies g).putGranule g d p).granule k = s.granule k := by
  have howner : ((s.dropCopies g).putGranule g d p).dirtyOwner k = s.dirtyOwner k := dirtyOwner_dropCopies_other s hk hne
  have hmoving : ((s.dropCopies g).putGranule g d p).movingData k = s.movingData k := movingData_dropCopies_other s hne
  have hbytes : memBytes ((s.dropCopies g).putGranule g d p).mem (k * 64) 64 = memBytes s.mem (k * 64) 64 :=
    memBytes_memPut_other s.mem hd hne
  have hpoison : tblGet false ((s.dropCopies g).putGranule g d p).poison k = tblGet false s.poison k := tblGet_set_ne _ _ _ hne
  rw [State.granule, howner, hmoving, hbytes, hpoison, State.granule]

theorem storeGranule_of_sound {s : State} {g : Nat} {new : List (Option (Byte × Bool))} (hq : Quiet s g)
    (hgood : s.onFailed (g * 64) = none) (hlen : (s.granule g).1.length = 64) (hclean : (s.granule g).2 = false)
    (hnew : new.length = 64) (hsound : Sound new) :
    (s.storeGranule g new).1 = false ∧ Spared s (s.storeGranule g new).2 (· = g) := by
  unfold State.storeGranule
  split
  next => exact ⟨rfl, fun _ _ _ => rfl, fun _ _ h => h, fun _ h => h⟩
  next =>
    have hpoison : new.any (fun n => match n with | some (_, q) => q | none => false) = false := by
      refine List.any_eq_false.mpr fun o ho => ?_
      rcases o with _ | ⟨v, q⟩
      · exact Bool.false_ne_true
      · exact hsound v q ho ▸ Bool.false_ne_true
    simp only [hgood, mergeBase_of_quiet hq]
    rw [serveLine_dropCopies hq, hclean, Bool.false_and, Bool.or_false]
    have hdata : (overlay (s.granule g).1 new).length = 64 := by simp [overlay, hlen, hnew]
    refine ⟨hpoison, fun k hk hne => granule_putGranule_other _ hdata hk hne, fun k hk h => ?_, fun k h => ?_⟩
    · by_cases hne : k = g
      · exact (congrArg List.length (hne ▸ (rewrites_putGranule _ hdata hq).here)).trans hdata
      · exact (congrArg (·.1.length) (granule_putGranule_other _ hdata hk hne)).trans h
    · by_cases hne : k = g
      · rw [hne]
        exact quiet_putGranule hq _ _
      · exact (rewrites_putGranule _ hdata hq).quiet k hne h

theorem storeGranules_of_sound {s : State} {blk : Nat} {new : Nat → List (Option (Byte × Bool))} (hs : Storable s blk)
    (hclean : ∀ i < 64, (s.granule (blk * 64 + i)).2 = false) (hnew : ∀ i, (new i).length = 64)
    (hsound : ∀ i, Sound (new i)) {k : Nat} (hk : k ≤ 64) : (storeGranules s blk new k).1 = false
      ∧ Spared s (storeGranules s blk new k).2 fun g => ∃ i < k, g = blk * 64 + i := by
  induction k with
  | zero => exact ⟨rfl, fun _ _ _ => rfl, fun _ _ h => h, fun _ h => h⟩
  | succ k ih =>
    obtain ⟨hflag, hgranule, hlength, hquiet⟩ := ih (by omega)
    have hframe := (overlaid_storeGranules hs hnew (show k ≤ 64 by omega)).frame
    obtain ⟨hblk, hgranules⟩ := hs
    have hplace : (blk * 4096 + k * 64) / 64 = blk * 64 + k := by omega
    have hstep : storeGranules s blk new (k + 1)
        = ((storeGranules s blk new k).1 || ((storeGranules s blk new k).2.storeGranule (blk * 64 + k) (new k)).1,
          ((storeGranules s blk new k).2.storeGranule (blk * 64 + k) (new k)).2) := by
      rw [storeGranules, List.range_succ, List.foldl_append, ← hplace]
      rfl
    obtain ⟨hgood, hlen, hq⟩ := hgranules k (by omega)
    have hsame := hgranule (blk * 64 + k) (by omega) (by rintro ⟨i, hi, heq⟩; omega)
    have hgood' : (storeGranules s blk new k).2.onFailed ((blk * 64 + k) * 64) = none := by
      rw [onFailed_of_unwritten hframe, show (blk * 64 + k) * 64 = blk * 4096 + k * 64 by omega, hgood]
    obtain ⟨hflag', hgranule', hlength', hquiet'⟩ := storeGranule_of_sound (hquiet _ hq) hgood' (hsame ▸ hlen)
      (hsame ▸ hclean k (by omega)) (hnew k) (hsound k)
    rw [hstep]
    refine ⟨by rw [hflag, hflag']; rfl, fun g hg hout => ?_, fun g hg h => hlength' g hg (hlength g hg h),
      fun g h => hquiet' g (hquiet g h)⟩
    exact (hgranule' g hg fun heq => hout ⟨k, Nat.lt_succ_self k, heq⟩).trans
      (hgranule g hg fun ⟨i, hi, heq⟩ => hout ⟨i, Nat.lt_succ_of_lt hi, heq⟩)

/-! A delivery to a block with a valid check word. -/

theorem writeBlock_of_valid {s : State} {b blk : Nat} {ps : List Piece} (hvalid : s.blockValid blk = true)
    (hnote : ps.foldl (fun t p => t.noteWrite p.dst p.data.length) s = s) : s.writeBlock b blk ps
      = (false, (storeGranules s blk (fun i => granuleOf ps (blk * 4096 + i * 64)) 64).1,
        (storeGranules s blk (fun i => granuleOf ps (blk * 4096 + i * 64)) 64).2.validateBlock blk) := by
  unfold State.writeBlock
  extract_lets n bad noted begun
  have hbad : bad = false := by
    simp only [bad, hvalid, Bool.not_true, Bool.and_false]
  have hbegun : begun = s := by
    simp only [begun, hbad, Bool.false_eq_true, if_false]
    exact hnote
  rw [foldl_storeGranule, hbad, hbegun]

/-- Bytes that go to a block of clean memory. -/
theorem writeBlock_of_clean {s : State} {l b blk a : Nat} {data : List Byte} (hw : BlockWritable s l blk)
    (hvalid : s.blockValid blk = true) (hclean : ∀ i < 64, (s.granule (blk * 64 + i)).2 = false) (hlo : blk * 4096 ≤ a)
    (hhi : a + data.length ≤ blk * 4096 + 4096) : ∃ t, s.writeBlock b blk [{ dst := a, data }] = (false, false, t)
      ∧ BlockWritten s t a data.length (fun x => data.getD (x - a) 0)
      ∧ (∀ l a n, Writable s l a n → Writable t l a n)
      ∧ t.queues = s.queues ∧ t.time = s.time := by
  have hs := storable_of_blockWritable hw
  have hcarries : Carries [{ dst := a, data }] a data.length fun x => data.getD (x - a) 0 := by
    refine ⟨fun p hp => ?_, fun p hp k _ => ?_, fun x hl hh => ⟨_, List.mem_singleton_self _, hl, hh⟩⟩
    · obtain rfl := List.mem_singleton.mp hp
      exact ⟨le_refl _, le_refl _⟩
    · obtain rfl := List.mem_singleton.mp hp
      dsimp only
      rw [Nat.add_sub_cancel_left]
  have hnote := foldl_noteWrite (ps := [{ dst := a, data }]) hw.1 fun p hp => by
    obtain rfl := List.mem_singleton.mp hp
    exact ⟨hlo, hhi⟩
  have hwritten := blockWritten_writeBlock (b := b) hw hcarries hlo hhi
  rw [writeBlock_of_valid hvalid hnote] at hwritten ⊢
  have hsound (d : Nat) : Sound (granuleOf [{ dst := a, data }] d) :=
    sound_granuleOf (fun p hp => by rw [List.mem_singleton.mp hp]) d
  obtain ⟨hflag, -, hlength, hquiet⟩ := storeGranules_of_sound
    (new := fun i => granuleOf [{ dst := a, data }] (blk * 4096 + i * 64)) hs hclean (fun _ => granuleOf_length _ _)
    (fun _ => hsound _) (le_refl 64)
  have hframe := (overlaid_storeGranules (new := fun i => granuleOf [{ dst := a, data }] (blk * 4096 + i * 64)) hs
    (fun _ => granuleOf_length _ _) (le_refl 64)).frame
  generalize storeGranules s blk (fun i => granuleOf [{ dst := a, data }] (blk * 4096 + i * 64)) 64 = y at *
  obtain ⟨flag, y⟩ := y
  refine ⟨_, by rw [hflag], hwritten, fun m c n hm => ?_,
    keeps_of_unwritten hframe State.queues fun _ => rfl, keeps_of_unwritten hframe State.time fun _ => rfl⟩
  have hplace : c / 64 < 2 ^ 46 := by
    have := lt_of_ownMem hm.own
    omega
  obtain ⟨hown, hfits, hgood, hplain, halive, hwhole, hq⟩ := writable_of_unwritten hframe hm (hlength _ hplace hm.whole)
    (hquiet _ hm.quiet)
  exact ⟨hown, hfits, hgood, hplain, halive, hwhole, hq.txn, hq.moving, hq.waits, hq.errs⟩

section
variable {s r s0 s1 : State} {l : LineId} {q : QueueId} {c : ACmd} (h : Dispatches s r l q c) (hs0 : r.take l q c = s0)
include h hs0

theorem writeInline_gives {n va pa : Nat} (hop : c.opcode = 3) (hn : min (c.arg1.field 0 10) c.payload.length = n) (hpos : 0 < n)
    (hva : c.arg0.field 0 57 = va) (hpage : va % 4096 + n ≤ 4096)
    (hx : s0.xlateFor (s0.cmdWho l q c) va false true = (.ok pa, s1)) (hm : s1.misuse = none)
    (hslot : Writable s1 l (cqSlot s l q) 32) (hw : BlockWritable s1 l (pa / 4096)) (hvalid : s1.blockValid (pa / 4096) = true)
    (hclean : ∀ i < 64, (s1.granule (pa / 4096 * 64 + i)).2 = false) : Gives (.writeInline l q) s fun t =>
      Answered s s0 t l q c 0 0 false
        ∧ (∀ i < n, pa + i < cqSlot s l q ∨ cqSlot s l q + 32 ≤ pa + i → seen t (pa + i) = c.payload.getD i 0)
        ∧ ∀ a < 2 ^ 52, (a < cqSlot s l q ∨ cqSlot s l q + 32 ≤ a) → (a < pa ∨ pa + n ≤ a) →
          seen t a = seen s1 a := by
  obtain ⟨data, hdata⟩ : ∃ data, c.payload.take (c.arg1.field 0 10) = data := ⟨_, rfl⟩
  have hlen : data.length = n := by rw [← hdata, List.length_take, hn]
  have hmod := xlateFor_mod hx
  have hown := ownMem_of_blockWritable hw
  have hlow := lt_of_ownMem hown
  obtain ⟨t, ht, hwritten, hwritable, hqueues, htime⟩ := writeBlock_of_clean (b := (s0.cmdWho l q c).b) (a := pa)
    (data := data) hw hvalid hclean (by omega) (by omega)
  have hpiece : (data.drop (va - va)).take n = data := by rw [Nat.sub_self, List.drop_zero, ← hlen, List.take_length]
  have hhost : isHostPa pa = false := decide_eq_false (by omega)
  have hcmd : s0.cmdWriteInline l q c = t.complete l q c.seq 0 0 false := by
    have hwrites : s0.inlineWrites (s0.cmdWho l q c) va data [(va, n)] false = (0, 0, false, t) := by
      rw [State.inlineWrites]
      simp only [hx, hpiece, hhost, Bool.false_and, Bool.false_eq_true, if_false]
      rw [if_pos (show s1.ownMem (s0.cmdWho l q c).l pa = true from hown), ht]
      rfl
    rw [State.cmdWriteInline, hdata, hva, hlen, pagePieces_of_page hpos hpage, hwrites]
    rfl
  have hqueues' : s1.queues = s0.queues := (keptByReads_of_unaccessed (p := State.queues) fun _ => rfl).of_xlateFor hx
  have htime' : s1.time = s0.time := (keptByReads_of_unaccessed (p := State.time) fun _ => rfl).of_xlateFor hx
  refine gives_of_answer (f := fun s c => s.cmdWriteInline l q c) h (hwritable _ _ _ hslot) hs0
    (queuesKept_of_eq (hqueues.trans hqueues') (htime.trans htime') _ _) rfl hop hcmd (hwritten.misuse.trans hm)
    fun u hu => ⟨hu.answered, fun i hi hout => ?_, fun a ha hslot hout => ?_⟩
  · refine (hu.outside _ (by omega) hout).trans ((hwritten.inside _ (by omega) (by omega)).trans ?_)
    rw [Nat.add_sub_cancel_left, ← hdata]
    simp only [List.getD_eq_getElem?_getD, List.getElem?_take]
    rw [if_pos (by omega)]
  · exact (hu.outside a ha hslot).trans (hwritten.outside a ha (hlen ▸ hout))

end

/-- Settles O29: the queue has dispatched its command and nothing else has changed; each opcode acts on that state, and the
completion's entry goes to a slot that its work leaves writable. -/
theorem aporiWork : Obligations.AporiWork := by
  unfold Obligations.AporiWork
  intro s r s1 l q c b pa s0 slot va u ch n la x0 low x1 ok xlates h
  refine ⟨fun hop => aporiNop_gives h rfl hop, fun hop hplace hroom hcls => launch_gives h rfl hop hplace rfl rfl hroom hcls,
    fun hop hplace hroom => ⟨fun hrec => xfer_gives_bare h rfl hop hplace rfl hroom hrec, fun hrec hx => ?_⟩,
    fun hop hn hpage hx hw hvalid hclean => ?_, fun hop hpage hx hread => ?_, fun hop hroom => xlatFence_gives h rfl hop hroom⟩
  · obtain ⟨hx, hm, hslot⟩ := hx
    exact xfer_gives_recorded h rfl hop hplace rfl hroom rfl hrec hx hm hslot
  · obtain ⟨hx, hm, hslot⟩ := hx
    exact writeInline_gives h rfl hop rfl hn rfl hpage hx hm hslot hw hvalid hclean
  · obtain ⟨hx, hm, hslot⟩ := hx
    exact readInline_gives h rfl hop hpage hx hm hslot hread

end Sys2Proof.Proofs
end

section
/-!
PROOFS. SYNC_ADD, SYNC_SET and SYNC_WAIT (R168, R170, R319, R320).
-/
namespace Sys2Proof.Proofs

open Sys2Proof Sys2Proof.Machine Sys2Proof.Safety Sys2Proof.Laws

/-! The queues under a change of a counter. -/

theorem tblGet_mapKeyed {α : Type} {d : α} {f : Nat → α → α} (hd : ∀ k, f k d = d) (t : Tbl α) (k : Nat) :
    tblGet d (t.map fun e => (e.1, f e.1 e.2)) k = f k (tblGet d t k) := by
  induction t with
  | nil => exact (hd k).symm
  | cons e r ih =>
    obtain ⟨j, v⟩ := e
    simp only [List.map_cons, tblGet]
    split
    next hj => rw [hj]
    next => exact ih

/-- Queue `k` with those of its waits for counter `i` of the Line led by `l` satisfied that `z` satisfies. -/
def wakened (z : State) (l i k : Nat) (x : AQueue) : AQueue :=
  if k / 4096 = l then { x with running := x.running.map (z.syncWake l i) } else x

theorem queue_counterChanged (s : State) (l i : Nat) :
    ∃ z : State, ∀ k, (s.counterChanged l i).queue k = wakened z l i k (s.queue k) := by
  unfold State.counterChanged
  extract_lets z
  have hqueues : z.queues = s.queues := each_keeps State.queues (fun t u => by
    split
    · split
      · split <;> rfl
      · rfl
    · rfl) _ s
  refine ⟨z, fun k => ?_⟩
  have hmap : (z.queues.map fun e =>
      if e.1 / 4096 = l then (e.1, { e.2 with running := e.2.running.map (z.syncWake l i) }) else e)
      = s.queues.map fun e => (e.1, wakened z l i e.1 e.2) := by
    rw [hqueues]
    refine List.map_congr_left fun e _ => ?_
    unfold wakened
    split <;> rfl
  rw [State.queue, hmap, tblGet_mapKeyed fun k => by unfold wakened; split <;> rfl]
  rfl

theorem syncWake_of_other {z : State} {l i : Nat} {d : ACmd} (h : d.opcode ≠ 6) : z.syncWake l i d = d :=
  if_neg fun hwake => h hwake.1

theorem done_syncWake (z : State) (l i : Nat) (d : ACmd) : (z.syncWake l i d).done = d.done := by
  unfold State.syncWake
  split <;> rfl

theorem mem_wakened {z : State} {l i k : Nat} {x : AQueue} {d : ACmd} (h : d ∈ (wakened z l i k x).running) :
    ∃ e ∈ x.running, d.done = e.done := by
  unfold wakened at h
  split at h
  · obtain ⟨e, he, rfl⟩ := List.mem_map.mp h
    exact ⟨e, he, done_syncWake z l i e⟩
  · exact ⟨d, h, rfl⟩

/-- A queue that runs no SYNC_WAIT keeps all when a counter changes. -/
theorem queuesKept_counterChanged {s : State} {l i k : Nat} (h : ∀ d ∈ (s.queue k).running, d.opcode ≠ 6) :
    QueuesKept s (s.counterChanged l i) l k := by
  obtain ⟨z, hz⟩ := queue_counterChanged s l i
  refine ⟨?_, fun j => ?_, fun hs p hp d hd => ?_, counterChanged_keeps State.time (fun _ _ _ => rfl) s l i⟩
  · rw [hz, wakened, (List.map_congr_left fun d hd => syncWake_of_other (h d hd)).trans (List.map_id _)]
    exact ite_self _
  · rw [hz, wakened]
    split <;> rfl
  · rw [hz] at hd
    obtain ⟨e, he, hdone⟩ := mem_wakened hd
    exact hdone.trans (hs p hp e he)

theorem QueuesKept.trans {s t u : State} {l k : Nat} (h : QueuesKept s t l k) (h' : QueuesKept t u l k) :
    QueuesKept s u l k :=
  ⟨h'.own.trans h.own, fun j => (h'.fields j).trans (h.fields j), fun hs => h'.settled (h.settled hs), h'.time.trans h.time⟩

/-- A queue that dispatches runs no SYNC_WAIT (R320). -/
theorem opcode_of_dispatches {s r : State} {l : Nat} {q : QueueId} {c : ACmd} (h : Dispatches s r l q c) :
    ∀ d ∈ (s.queue (qKey l q)).running, d.opcode ≠ 6 := by
  intro d hd hop
  have hfresh : d.done = false := settled_of_lineQueues h.answer.settled q q.isLt d hd
  have hnext := h.next
  unfold State.nextCommand at hnext
  extract_lets x at hnext
  split at hnext
  next =>
    split at hnext
    next =>
      have hwaits : ((x.running.filter fun d => !d.done).any fun d => d.opcode == 6) = true :=
        List.any_eq_true.mpr ⟨d, List.mem_filter.mpr ⟨hd, by rw [hfresh]; rfl⟩, beq_iff_eq.mpr hop⟩
      rw [if_pos (by rw [hwaits, Bool.or_true])] at hnext
      cases hnext
    next => cases hnext
  next => cases hnext

/-! A completion leaves the counters. -/

/-- A slot that agents may write holds no byte of a counter (R172). -/
theorem counter_outside {s : State} {l m b n i a : Nat} (hw : Writable s m b n) (ha : s.counterDpa l i = some a) {j : Nat}
    (hj : j < 8) : a + j < b ∨ b + n ≤ a + j := by
  obtain ⟨k, hk, rfl⟩ := Option.map_eq_some_iff.mp ha
  have hlt : k < 8 := lt_of_mem_members (List.mem_of_getElem? hk)
  obtain ⟨hplain, -⟩ := Bool.or_eq_false_iff.mp (Bool.or_eq_false_iff.mp hw.plain).1
  have hout := of_decide_eq_false (Bool.eq_false_iff.mpr (List.any_eq_false.mp hplain k (List.mem_range.mpr hlt)))
  have hindex : i % 4096 < 4096 := Nat.mod_lt _ (by decide)
  omega

theorem counterVal_of_outside {s t : State} {l i a b n : Nat} (ha : s.counterDpa l i = some a) (hdpa : t.counterDpa l i = some a)
    (hlen : (s.granule (a / 64)).1.length = 64) (hlen' : (t.granule (a / 64)).1.length = 64) (hout : SeenOutside s t b n)
    (hapart : ∀ j < 8, a + j < b ∨ b + n ≤ a + j) : t.counterVal l i = s.counterVal l i := by
  have hlow := lt_of_counterDpa ha
  obtain ⟨-, hfit⟩ := place_of_counterDpa ha
  rw [counterVal_eq ha hlen, counterVal_eq hdpa hlen']
  refine congrArg (fun bs => some (leNat bs)) (List.map_congr_left fun j hj => ?_)
  have hj := List.mem_range.mp hj
  exact hout (a + j) (by omega) (hapart j hj)

section
variable {s r s0 : State} {l : LineId} {q : QueueId} {c : ACmd} (h : Dispatches s r l q c) (hs0 : r.take l q c = s0) {i a : Nat}
  (ha : s.counterDpa l i = some a) (hlen : (s.granule (a / 64)).1.length = 64) (hq : Quiet s (a / 64))
include h hs0 ha hlen hq

omit hlen hq in
theorem counterDpa_of_dispatched : s0.counterDpa l i = some a :=
  ((hs0 ▸ dispatched_of_dispatches h).keeps (State.counterDpa · l i) fun _ _ _ => rfl).trans ha

omit ha hq in
theorem length_of_dispatched : (s0.granule (a / 64)).1.length = 64 := by
  rw [granule_of_unworked (unworked_of_dispatched (hs0 ▸ dispatched_of_dispatches h))]
  exact hlen

omit ha hlen in
theorem quiet_of_dispatched : Quiet s0 (a / 64) :=
  quiet_of_unworked (unworked_of_dispatched (hs0 ▸ dispatched_of_dispatches h)) hq

/-- A command that writes its counter and completes. -/
theorem counterSet_gives {v op : Nat} {result : Word} {cmd : Instr} {f : State → ACmd → State} (hc : c.opcode ≠ 6)
    (hexec : exec cmd s = runU (fun s => s.dispatch l q op f) s) (hop : c.opcode = op)
    (hf : f s0 c = (s0.counterSet l i v).complete l q c.seq 0 result) : Gives cmd s fun t =>
      Answered s s0 t l q c 0 result false ∧ t.counterVal l i = some (v % 2 ^ 64) := by
  have ha0 := counterDpa_of_dispatched h hs0 ha
  have hlen0 := length_of_dispatched h hs0 hlen
  have hq0 := quiet_of_dispatched h hs0 hq
  have hslot0 : Writable s0 l (cqSlot s l q) 32 := hs0 ▸ slot_of_dispatches h
  have hval := counterVal_counterSet ha0 hlen0 hq0 v
  obtain ⟨hset, hstored⟩ := counterSet_of_quiet ha0 hlen0 hq0 v
  generalize hx : s0.storeHome a (leBytes 8 v) false = x at hset hstored
  have hxqueue : x.queues = s0.queues := keeps_of_unwritten hstored.frame State.queues fun _ => rfl
  have hothers : ∀ d ∈ (x.queue (qKey l q)).running, d.opcode ≠ 6 := by
    rw [State.queue, hxqueue]
    change ∀ d ∈ (s0.queue (qKey l q)).running, d.opcode ≠ 6
    rw [running_of_dispatched (hs0 ▸ dispatched_of_dispatches h)]
    intro d hd
    rcases List.mem_append.mp hd with hd | hd
    · exact opcode_of_dispatches h d hd
    · rw [List.mem_singleton.mp hd]
      exact hc
  have hkept : QueuesKept s0 (s0.counterSet l i v) l (qKey l q) := by
    rw [hset]
    exact (queuesKept_of_eq hxqueue (keeps_of_unwritten hstored.frame State.time fun _ => rfl) _ _).trans
      (queuesKept_counterChanged hothers)
  have hworked : unworked (s0.counterSet l i v) = unworked x := by
    rw [hset]
    exact counterChanged_keeps unworked (fun _ _ _ => rfl) x l i
  have hdpa : (s0.counterSet l i v).counterDpa l i = some a :=
    (counterSet_keeps ha0 hlen0 hq0 (State.counterDpa · l i) (fun _ _ _ => rfl) (fun _ => rfl) v).trans ha0
  have hmisuse : (s0.counterSet l i v).misuse = none :=
    (counterSet_keeps ha0 hlen0 hq0 State.misuse (fun _ _ _ => rfl) (fun _ => rfl) v).trans (hs0 ▸ misuse_of_dispatches h)
  have hplace : cqSlot s l q / 64 < 2 ^ 46 := by
    have := lt_of_ownMem hslot0.own
    omega
  have hslot : Writable (s0.counterSet l i v) l (cqSlot s l q) 32 :=
    writable_of_unworked hworked (writable_of_unwritten hstored.frame hslot0 (hstored.length _ hplace hslot0.whole)
      (hstored.quiet _ hslot0.quiet))
  have hlength : ((s0.counterSet l i v).granule (a / 64)).1.length = 64 := by
    rw [granule_of_unworked hworked]
    exact hstored.length _ (lt_of_counterDpa ha) hlen0
  generalize s0.counterSet l i v = y at *
  refine gives_of_answer (f := f) h hslot hs0 hkept hexec hop hf hmisuse fun t ht => ⟨ht.answered, ?_⟩
  have htdpa : t.counterDpa l i = some a := (ht.keeps (State.counterDpa · l i) fun _ => rfl).trans hdpa
  exact (counterVal_of_outside hdpa htdpa hlength (ht.length _ (lt_of_counterDpa ha) hlength) ht.outside
    fun j hj => counter_outside hslot hdpa hj).trans hval

omit hlen in
theorem counterTouch_of_dispatched : s0.counterTouch l i = s0 := counterTouch_of_quiet fun b hb => by
  obtain rfl := Option.some.inj ((counterDpa_of_dispatched h hs0 ha).symm.trans hb)
  exact quiet_of_dispatched h hs0 hq

omit ha hlen hq in
theorem counterVal_of_dispatched {old : Nat} (hval : s.counterVal l i = some old) : s0.counterVal l i = some old :=
  ((hs0 ▸ dispatched_of_dispatches h).keeps (State.counterVal · l i) fun _ _ _ => rfl).trans hval

theorem syncAdd_gives {old : Nat} (hi : c.arg0.field 0 15 = i) (hval : s.counterVal l i = some old) (hop : c.opcode = 5) :
    Gives (.syncAdd l q) s fun t => Answered s s0 t l q c 0 0 false
      ∧ t.counterVal l i = some ((old + c.arg1.toNat) % 2 ^ 64) := by
  have hd := hs0 ▸ dispatched_of_dispatches h
  have hst : (s0.line l).st ≠ .failed := by
    rw [hd.keeps (State.line · l) fun _ _ _ => rfl]
    exact fun hfailed => nomatch (running_of_dispatches h).symm.trans hfailed
  have hcmd : s0.cmdSyncAdd l q c = (s0.counterSet l i ((old + c.arg1.toNat) % 2 ^ 64)).complete l q c.seq 0 := by
    unfold State.cmdSyncAdd
    simp only [hi, counterDpa_of_dispatched h hs0 ha]
    rw [counterAdd_of_quiet (counterDpa_of_dispatched h hs0 ha) (quiet_of_dispatched h hs0 hq) hst
      (counterVal_of_dispatched h hs0 hval)]
  refine gives_mono (counterSet_gives h hs0 ha hlen hq (f := fun s c => s.cmdSyncAdd l q c) (by omega) rfl hop hcmd)
    fun t ht => ?_
  rwa [Nat.mod_mod] at ht

theorem syncSet_gives {old : Nat} (hi : c.arg0.field 0 15 = i) (hval : s.counterVal l i = some old) (hop : c.opcode = 7) :
    Gives (.syncSet l q) s fun t => Answered s s0 t l q c 0 (BitVec.ofNat 64 old) false
      ∧ t.counterVal l i = some c.arg1.toNat := by
  have hcmd : s0.cmdSyncSet l q c = (s0.counterSet l i c.arg1.toNat).complete l q c.seq 0 (BitVec.ofNat 64 old) := by
    unfold State.cmdSyncSet
    simp only [hi, counterTouch_of_dispatched h hs0 ha hq, counterVal_of_dispatched h hs0 hval]
  refine gives_mono (counterSet_gives h hs0 ha hlen hq (f := fun s c => s.cmdSyncSet l q c) (by omega) rfl hop hcmd)
    fun t ht => ?_
  rwa [Nat.mod_eq_of_lt c.arg1.isLt] at ht

omit hlen in
theorem cmdSyncWait_eq {old : Nat} (hi : c.arg0.field 0 15 = i) (hval : s.counterVal l i = some old) :
    s0.cmdSyncWait l q c = if c.arg1.toNat ≤ old then s0.complete l q c.seq 0 else s0 := by
  unfold State.cmdSyncWait
  simp only [hi, counterTouch_of_dispatched h hs0 ha hq, counterDpa_of_dispatched h hs0 ha, State.counterReached,
    counterVal_of_dispatched h hs0 hval, decide_eq_true_eq]

omit hlen in
theorem syncWait_gives_reached {old : Nat} (hi : c.arg0.field 0 15 = i) (hval : s.counterVal l i = some old)
    (hop : c.opcode = 6) (hreached : c.arg1.toNat ≤ old) : Gives (.syncWait l q) s fun t =>
      Answered s s0 t l q c 0 0 false ∧ SeenOutside s t (cqSlot s l q) 32 :=
  gives_of_answer (f := fun s c => s.cmdSyncWait l q c) h (hs0 ▸ slot_of_dispatches h) hs0 (queuesKept_of_eq rfl rfl _ _) rfl
    hop ((cmdSyncWait_eq h hs0 ha hq hi hval).trans (if_pos hreached)) (hs0 ▸ misuse_of_dispatches h)
    fun _ ht => ⟨ht.answered, ht.seenOutside (hs0 ▸ seen_of_dispatches h)⟩

omit hlen in
theorem syncWait_gives_waiting {old : Nat} (hi : c.arg0.field 0 15 = i) (hval : s.counterVal l i = some old)
    (hop : c.opcode = 6) (hwaits : old < c.arg1.toNat) : Gives (.syncWait l q) s fun t => t.mem = s.mem
      ∧ (t.queue (qKey l q)).running = (s.queue (qKey l q)).running ++ [{ c with since := s.time }] := by
  have hd := hs0 ▸ dispatched_of_dispatches h
  have hcmd : s0.cmdSyncWait l q c = s0 := (cmdSyncWait_eq h hs0 ha hq hi hval).trans (if_neg (by omega))
  have hempty : ((s0.cmdSyncWait l q c).queue (qKey l q)).fetched = [] := by
    obtain ⟨w, n, hqueue⟩ := hd.queue
    rw [hcmd, hqueue]
  have hmem : s0.mem = s.mem := hd.keeps State.mem fun _ _ _ => rfl
  have hmisuse : s0.misuse = none := hs0 ▸ misuse_of_dispatches h
  have hrunning := running_of_dispatched hd
  subst hs0
  exact gives_of_runU (f := fun s => s.dispatch l q 6 fun s c => s.cmdSyncWait l q c) rfl
    ((dispatch_eq h hop (fun s c => s.cmdSyncWait l q c) hempty).trans hcmd) hmisuse ⟨hmem, hrunning⟩

end

end Sys2Proof.Proofs
end

section
/-!
PROOFS. The ends of a waiting SYNC_WAIT, and MIRROR (R286, R287, R319, R320).
-/
namespace Sys2Proof.Proofs

open Sys2Proof Sys2Proof.Machine Sys2Proof.Safety Sys2Proof.Laws

/-! A SYNC_WAIT that ends. -/

section
variable {s : State} {l : LineId} {q : QueueId} {c : ACmd} (hwaiter : s.waiter l q = some c)
  (hone : (s.queue (qKey l q)).running.filter (fun d => d.seq == c.seq) = [c]) (ha : Answerable s l q c)
  (hempty : (s.queue (qKey l q)).fetched = []) (hworks : (s.line l).st.works = true)
include hone ha hempty

/-- A running command that completes where nothing has been fetched. -/
theorem gives_of_completion {cmd : Instr} {f : State → State} {status : Nat} (hexec : exec cmd s = runU f s)
    (hf : f s.clean = (s.clean.complete l q c.seq status).tidy l q) : Gives cmd s fun t =>
      Answered s s t l q c status 0 false ∧ SeenOutside s t (cqSlot s l q) 32 := by
  obtain ⟨hasked, -, hon, hroom, hslot, hsettled⟩ := ha
  have hslot' : Writable s.clean l (cqSlot s l q) 32 := writable_of_unworked (t := s.clean) (s := s) rfl hslot
  have hcompletes : Completes s.clean l q c :=
    ⟨q.isLt, hone, hasked, hon, hroom, hslot', settled_of_lineQueues (s := s.clean) hsettled⟩
  have hcompleted := completed_complete hcompletes status 0 false
  generalize s.clean.complete l q c.seq status 0 false = t at hf hcompleted
  rw [tidy_of_unfetched (hcompleted.fetched.trans hempty)] at hf
  exact gives_of_runU hexec hf (hcompleted.keeps State.misuse fun _ => rfl)
    ⟨⟨hcompleted.entry, hcompleted.written, hcompleted.running, hcompleted.head⟩, hcompleted.outside⟩

include hwaiter hworks

theorem syncWaitSatisfied_gives (hsat : c.satisfied = true) : Gives (.syncWaitSatisfied l q) s fun t =>
    Answered s s t l q c 0 0 false ∧ SeenOutside s t (cqSlot s l q) 32 := by
  have hwaiter' : s.clean.waiter l q = some c := hwaiter
  have hworks' : (s.clean.line l).st.works = true := hworks
  refine gives_of_completion hone ha hempty (f := fun s => s.waitSatisfied l q) rfl ?_
  simp only [State.waitSatisfied, hwaiter', hsat, hworks', Bool.true_or, Bool.and_self, if_true]

theorem syncWaitTimeout_gives (hsat : c.satisfied = false) (hlimit : c.arg0.field 16 32 ≠ 0)
    (hpast : c.since + c.arg0.field 16 32 * 1000 ≤ s.time) : Gives (.syncWaitTimeout l q) s fun t =>
      Answered s s t l q c 0x22 0 false ∧ SeenOutside s t (cqSlot s l q) 32 := by
  have hwaiter' : s.clean.waiter l q = some c := hwaiter
  have hworks' : (s.clean.line l).st.works = true := hworks
  have hpast' : c.since + c.arg0.field 16 32 * 1000 ≤ s.clean.time := hpast
  refine gives_of_completion hone ha hempty (f := fun s => s.waitTimeout l q) rfl ?_
  simp only [State.waitTimeout, hwaiter', hsat, hworks', bne_iff_ne.mpr hlimit, decide_eq_true hpast', Bool.not_false,
    Bool.and_self, if_true]

end

/-! The records of a MIRROR: what their walks and stores leave. -/

section
variable {α : Type} {p : State → α} (hp : ∀ x, p (unaccessed x) = p x)
include hp

theorem mirrorWalk_keeps (s : State) (l va level k table : Nat) : p (s.mirrorWalk l va level k table).2 = p s := by
  induction k generalizing s table with
  | zero => rfl
  | succ k ih =>
    unfold State.mirrorWalk
    extract_lets a
    have hread := (keptByReads_of_unaccessed hp).walkRead s l a
    split
    · rfl
    · generalize s.walkRead l a = x at hread ⊢
      obtain ⟨w, t⟩ := x
      cases w with
      | none => exact hread
      | some w =>
        dsimp only
        split
        · exact hread
        · split
          · exact hread
          · exact (ih t _).trans hread

theorem mirrorRoot_keeps (s : State) (l asid : Nat) : p (s.mirrorRoot l asid).2 = p s := by
  have hk := keptByReads_of_unaccessed hp
  unfold State.mirrorRoot
  extract_lets ast t
  have ht : p t = p s := hk.undefIf s _ _
  split
  · exact ht
  · have hread := (hk.walkRead t l (ast.field 4 48 * 16 + asid * 16)).trans ht
    generalize t.walkRead l (ast.field 4 48 * 16 + asid * 16) = x at hread ⊢
    obtain ⟨w, r⟩ := x
    cases w <;> exact hread

variable (hhost : ∀ s h d q, p (State.hostPut s h d q) = p s)
include hhost

theorem mirrorRecord_keeps (s : State) (l asid root : Nat) (m : Mirrored) (r : Word × Word) :
    p (s.mirrorRecord l asid root m r).2 = p s := by
  have hk := keptByReads_of_unaccessed hp
  unfold State.mirrorRecord
  extract_lets level va
  split
  · rfl
  · split
    · rfl
    · have hwalk := mirrorWalk_keeps hp s l va level 4 (root * 4096)
      generalize s.mirrorWalk l va level 4 (root * 4096) = x at hwalk ⊢
      obtain ⟨o, t⟩ := x
      cases o with
      | error e =>
        refine Eq.trans ?_ hwalk
        dsimp only [State.when]
        split
        · exact hk.xlatFault t _ _ _ _
        · rfl
      | ok a =>
        dsimp only
        split
        · exact (store_keeps hp hhost t l a _ false).trans hwalk
        · exact (hk.xlatFault t _ _ _ _).trans hwalk

theorem mirrorApply_keeps (s : State) (l asid : Nat) (rs : List (Word × Word)) : p (s.mirrorApply l asid rs).2 = p s := by
  have hroot := mirrorRoot_keeps hp s l asid
  unfold State.mirrorApply
  generalize s.mirrorRoot l asid = x at hroot ⊢
  obtain ⟨o, t⟩ := x
  cases o with
  | error e => exact ((keptByReads_of_unaccessed hp).xlatFault t _ _ _ _).trans hroot
  | ok root =>
    exact List.foldlRecOn (motive := fun y : Mirrored × State => p y.2 = p s) rs _ hroot
      fun y hy r _ => (mirrorRecord_keeps hp hhost y.2 l asid root y.1 r).trans hy

end

theorem mirror_gives {s r s0 s1 : State} {l : LineId} {q : QueueId} {c : ACmd} {m : Mirrored} (h : Dispatches s r l q c)
    (hs0 : r.take l q c = s0) (hop : c.opcode = 8) (hfence : c.arg0.flag 0 = false) (hinline : c.arg0.flag 1 = false)
    (happly : s0.mirrorApply l (s0.cmdAsid l q c)
      (wordPairs (payloadWords c.payload (2 * c.arg0.field 16 16)) (c.arg0.field 16 16)) = (m, s1))
    (hm : s1.misuse = none) (hslot : Writable s1 l (cqSlot s l q) 32) : Gives (.mirror l q) s fun t =>
      Answered s s0 t l q c m.code (BitVec.ofNat 64 m.applied) false ∧ SeenOutside s1 t (cqSlot s l q) 32 := by
  have hkept {α : Type} {p : State → α} (hp : ∀ x, p (unaccessed x) = p x)
      (hhost : ∀ s h d q, p (State.hostPut s h d q) = p s) : p s1 = p s0 :=
    (congrArg (p ·.2) happly).symm.trans (mirrorApply_keeps hp hhost s0 l _ _)
  have hcmd : s0.cmdMirror l q c = s1.complete l q c.seq m.code (BitVec.ofNat 64 m.applied) := by
    simp only [State.cmdMirror, State.mirrorRecords, hinline, hfence, happly, Bool.false_and, Bool.false_eq_true, if_false]
  exact gives_of_answer (f := fun s c => s.cmdMirror l q c) h hslot hs0
    (queuesKept_of_eq (hkept (p := State.queues) (fun _ => rfl) fun _ _ _ _ => rfl)
      (hkept (p := State.time) (fun _ => rfl) fun _ _ _ _ => rfl) _ _) rfl hop hcmd hm
    fun t ht => ⟨ht.answered, ht.outside⟩

/-- Settles O30: a counter lies outside every slot, so that the entry of a completion leaves it; a change of a counter
touches no queue that dispatches; and the stores of a MIRROR go to memory alone. -/
theorem aporiSync : Obligations.AporiSync := by
  unfold Obligations.AporiSync
  intro s r s1 l q c m s0 slot i n calm
  refine ⟨fun old h hval hcalm => ?_, fun hwaiter hone ha hempty hworks => ?_, fun h hop hfence hinline happly hm hslot => ?_⟩
  · obtain ⟨a, ha⟩ : ∃ a, s.counterDpa l i = some a := by
      cases hdpa : s.counterDpa l i with
      | none =>
        rw [State.counterVal, hdpa] at hval
        cases hval
      | some a => exact ⟨a, rfl⟩
    obtain ⟨hlen, -, hq⟩ := hcalm a ha
    exact ⟨syncAdd_gives h rfl ha hlen hq rfl hval, syncSet_gives h rfl ha hlen hq rfl hval,
      syncWait_gives_reached h rfl ha hq rfl hval, syncWait_gives_waiting h rfl ha hq rfl hval⟩
  · exact ⟨syncWaitSatisfied_gives hwaiter hone ha hempty hworks, syncWaitTimeout_gives hwaiter hone ha hempty hworks⟩
  · exact mirror_gives h rfl hop hfence hinline happly hm hslot

end Sys2Proof.Proofs
end
